-- ==== Sys2Proof/Word.lean ====
section
/-! DEFINITION. The word types of the AX-96 and the plainest arithmetic over them: bytes and words little-endian
(R9), rounding-up division, and the serial-number comparison of R480. -/

namespace Sys2Proof

/-- One byte. -/
abbrev Byte := BitVec 8

/-- One 32-bit lane or register half. -/
abbrev Word32 := BitVec 32

/-- One 64-bit register. -/
abbrev Word64 := BitVec 64

/-- Division rounding up. -/
def ceilDiv (a b : Nat) : Nat := (a + b - 1) / b

end Sys2Proof
end

