-- ==== Sys2Proof/Syntax.lean ====
section
/-! DEFINITION. The commands of the block: the data they carry and the one inductive Instr.  An operand is what the
outside world, a pin, a wire or one of the device's own clocks brings with the event; everything else a command
needs it reads from State.  Where the spec leaves a value to a standard, to firmware or to physics (a decoded code
block, a signature check, a sensor sample), that value is an operand. -/

namespace Sys2Proof

/-- A Glojo packet as the Command Sweeper copied it (R85, R91): its place in the acceptance order, its window and
slot, the header fields, the bound domain and the acceptance air time, and the payload without its CRC. -/
structure Pkt where
  id : Nat
  window : Nat
  slot : Nat
  opcode : Nat
  irq : Bool
  quiet : Bool
  barrier : Bool
  pcrc : Bool
  seq : Nat
  at_ : Nat
  tag : Nat
  func : Nat
  part : Nat
  td : Nat
  acceptAt : Nat
  payload : List Byte
  deriving DecidableEq, Repr

/-- One PRB of an ingress U-plane section: its number, udCompParam, and the 24 mantissas I then Q (R113, R114). -/
structure RxPrb where
  prb : Nat
  comp : Byte
  mant : List Int
  deriving DecidableEq, Repr

/-- An ingress eCPRI message of type 0 or 2 as the MAC presents it (R111, R116, R119): its logical port, eAxC ID and
message type, whether it is malformed or uses an unsupported item, its timing header, its frame length in bytes from
the destination address to the FCS, and its PRBs. -/
structure RxMsg where
  lport : Nat
  eaxc : Nat
  msgType : Nat
  bad : Bool
  frameId : Nat
  subframeId : Nat
  slotId : Nat
  symbolId : Nat
  len : Nat
  prbs : List RxPrb
  deriving DecidableEq, Repr

/-- An ingress Direct IQ message (R127, R129, R130): its Frame Word, whether the frame fails the FCS check, and its
samples I, Q. -/
structure DiqMsg where
  lport : Nat
  eaxc : Nat
  frameWord : Nat
  fcsBad : Bool
  len : Nat
  samples : List (Int × Int)
  deriving DecidableEq, Repr

/-- An egress message handed to a Fronthaul Engine (R113, R120 to R122, R129): the flow that carries it, the slot of the
job it belongs to, the start of its symbol, its plane and direction, its transmit window, its frame length, the
descriptor's time-stamp request (domain and identifier, R46, R48), the PRBs of a U-plane message (16-bit values as the
pipeline hands them over, compressed once the engine has taken the message), and the Frame Word, the index in the
frame of the first sample and the samples of a Direct IQ message. -/
structure TxMsg where
  lport : Nat
  flow : Nat
  cell : Nat
  td : Nat
  slot : Nat
  sym : Nat
  cplane : Bool
  ul : Bool
  release : Nat
  deadline : Nat
  len : Nat
  stamp : Option (Nat × Nat)
  prbs : List RxPrb
  frameWord : Nat
  sample0 : Nat
  samples : List (Int × Int)
  deriving DecidableEq, Repr

/-- What a code block of a transport block is, by TS 38.212 (R177): number of code blocks, lifting size, base graph and
circular-buffer length. -/
structure CbParams where
  c : Nat
  zc : Nat
  bg : Nat
  ncb : Nat
  deriving DecidableEq, Repr

/-- The end of the decode or encode of one code block (R170, R178): the cluster, the allocation, the received LLRs by
position in the circular buffer, the iterations run, whether CRC24B passed, whether it is the last block of the
allocation, and then whether the transport block CRC passed and its payload; and whether the reads of the handle met
lines uncorrectable in copy A and in copy B (R180). -/
structure CbDone where
  cluster : Nat
  cell : Nat
  slot : Nat
  ul : Bool
  alloc : Nat
  cb : Nat
  params : CbParams
  rx : List (Nat × Int)
  iters : Nat
  crcOk : Bool
  last : Bool
  tbOk : Bool
  payload : List Byte
  badA : Bool
  badB : Bool
  deriving DecidableEq, Repr

/-- The operation of one slot of a Signal Core bundle (R135, R137 to R145).  The spec gives no bit encoding of a bundle,
so a bundle is named by its operations; where it does not say what an operation computes (shift, compare, scalar and
address arithmetic), the operation carries the value it writes.  A butterfly carries the lanes that form its groups, in
order, and the lanes of its twiddle factors, which the spec leaves open. -/
inductive ScOp where
  | nop
  /-- Vector load of X[d] through A[a]; LS0 or LS1. -/
  | ldx (d a : Nat)
  /-- Scalar load of S[d] through A[a]; LS0 or LS1. -/
  | lds (d a : Nat)
  /-- Vector store of X[x] through A[a]; LS1. -/
  | stx (x a : Nat)
  /-- Scalar store of S[r] through A[a]; LS1. -/
  | sts (r a : Nat)
  /-- CMAC, or CMACJ with conj; MAC. -/
  | cmac (conj : Bool) (acc xa xb p : Nat)
  /-- FTAP, or FTAPJ with conj; MAC. -/
  | ftap (conj : Bool) (acc x ac an : Nat)
  /-- BFLY2 or BFLY4 (four) in place on X[x] with twiddles X[tw] and shift s; MAC. -/
  | bfly (four inv : Bool) (x tw s : Nat) (lanes twLanes : List Nat)
  /-- Vector add, or subtract; ALU. -/
  | vadd (sub : Bool) (d xa xb : Nat)
  /-- Vector shift; ALU. -/
  | vshift (d : Nat) (lanes : List (Int × Int))
  /-- Vector compare into P[p]; ALU. -/
  | vcmp (p mask : Nat)
  /-- Vector select by P[p]; ALU. -/
  | vsel (d xa xb p : Nat)
  /-- Vector permute: lane l of X[d] takes lane idx[l] of X[xa]; ALU. -/
  | vperm (d xa : Nat) (idx : List Nat)
  /-- VEXT; ALU. -/
  | vext (acc x s : Nat)
  /-- BEXP; ALU. -/
  | bexp (xa p : Nat)
  /-- BHRST; ALU. -/
  | bhrst
  /-- Scalar, address or control register written by the CTL slot: 0 S, 1 A, 2 M, 3 AMODE, 4 CB BASE, 5 CB LEN, 6 P, 7
  LC. -/
  | ctl (kind d v : Nat)
  /-- A taken branch to a bundle address; CTL. -/
  | branch (target : Nat)
  deriving DecidableEq, Repr

/-- A 256-bit bundle: its five slots (R135). -/
structure ScBundle where
  ls0 : ScOp
  ls1 : ScOp
  mac : ScOp
  alu : ScOp
  ctl : ScOp
  deriving DecidableEq, Repr

/-- A PRACH detection as the kernel reports it (R149, R169). -/
structure PrachHit where
  preamble : Nat
  occasion : Nat
  advance : Nat
  power : Int
  at_ : Nat
  deriving DecidableEq, Repr

/-- What a kernel invocation reports when it ends (R142, R146 to R149, R169): what the kernel's code computed. -/
structure KernelResult where
  /-- PRACH detections. -/
  prach : List PrachHit
  /-- Time offset in 1/16 Tc and frequency offset in Hz. -/
  timeOfs : Int
  freqOfs : Int
  /-- SINR estimates by allocation, in 1/16 dB. -/
  sinr : List (Nat × Int)
  /-- Stream, symbol start, exponent E and elements of an FFT or iFFT output. -/
  fft : Option (Nat × Nat × Nat × List (Int × Int))
  deriving DecidableEq, Repr

/-- Lines of a Cell Context that a patrol read finds (R180, R182): the cell, the handle they belong to (none for the
header and the channel state), and whether they are uncorrectable in copy A and in copy B. -/
structure TwinLine where
  cell : Nat
  handle : Option Nat
  badA : Bool
  badB : Bool
  deriving DecidableEq, Repr

/-- A Hjelo packet (R293): the fields of its header and its data. -/
structure FabPkt where
  type : Nat
  oc : Nat
  hop : Nat
  ttl : Nat
  dst : Nat
  src : Nat
  len : Nat
  epoch : Nat
  txid : Nat
  key : Nat
  status : Nat
  members : Nat
  addr : Nat
  poison : Nat
  rop : Nat
  rtype : Nat
  group : Nat
  data : List Byte
  /-- The header's CRC holds. -/
  hdrOk : Bool
  deriving DecidableEq, Repr

/-- A flit as a Hjelo port receives it (R283 to R285): the symbols wrong in each codeword, whether the CRC holds after
FEC, the control word, and the packets that end in it. -/
structure Flit where
  errA : Nat
  errB : Nat
  crcOk : Bool
  seq : Nat
  ackSeq : Nat
  nak : Bool
  cvl : Nat
  ccnt : Nat
  pkts : List FabPkt
  deriving DecidableEq, Repr

/-- A radio work tile that firmware runs in a window (R161, R184, R205, R213): its cell, slot and direction, whether it is
of the neural receiver and the last of it, and where its streams and parameter block lie. -/
structure RadioTile where
  cell : Nat
  slot : Nat
  ul : Bool
  neural : Bool
  last : Bool
  image : Nat
  codeEnd : Nat
  entry : List Nat
  param : Nat
  deriving DecidableEq, Repr


/-- How a step of R451 ends: step 1 with the fuse parity and ROM digest checks and the
Vault words that read uncorrectable; step 2 with the link's generation, width and
flit mode; step 3 with the T0 bank of a failing row that has no spare, if any; step 4 with the channels that did not
train, by stack and channel; step 5; step 6; step 7 with the channels that qualify and train, each with its DIMM's size in
16 GiB and the highest data rate it supports; step 8. -/
inductive BootEnd where
  | fuses (ok : Bool) (ue : List Nat)
  | link (speed width : Nat) (flit : Bool)
  | fillT0 (noSpare : Option (Fin 4))
  | hbm (failed : List (Fin 12 × Fin 32))
  | fillT1
  | image
  | ddr (chans : List (Fin 16 × Nat × Nat))
  | fillT2
  deriving DecidableEq, Repr

/-- An SPDM request (R421, R422). -/
inductive SpdmReq where
  | getVersion
  | getCapabilities
  | negotiate (mlDsa sha3 : Bool)
  | getDigests
  | getCertificate (slot off len : Nat)
  | challenge (slot : Nat) (nonce : List Byte)
  | getMeasurements (index : Nat) (signed : Bool) (nonce : List Byte)
  | keyExchange (dhe : List Byte)
  | finish (ok : Bool)
  | endSession
  | heartbeat
  | keyUpdate
  /-- A message that R421 does not list. -/
  | other
  deriving DecidableEq, Repr

/-- A PLDM request (R442 to R445). -/
inductive PldmReq where
  /-- GetPLDMTypes. -/
  | types
  /-- GetSensorReading. -/
  | reading (id : Nat)
  | setEventReceiver (eid : Nat)
  | requestUpdate (len : Nat)
  | activate
  | other
  deriving DecidableEq, Repr

/-- A message in a secured SPDM session: a request, or an IDE_KM key set for a stream (R421, R439). -/
inductive SecuredReq where
  | req (r : SpdmReq)
  | ideKeySet (stream : Nat)
  deriving DecidableEq, Repr

/-- A DOE data object (R441). -/
inductive DoeObj where
  | discovery (index : Nat)
  | spdm (r : SpdmReq)
  | secured (r : SecuredReq)
  deriving DecidableEq, Repr

/-- An MCTP message by its type (R442). -/
inductive MctpMsg where
  /-- Type 0: Set Endpoint ID. -/
  | setEid (eid : Byte)
  /-- Type 0: Get Endpoint ID. -/
  | getEid
  | pldm (r : PldmReq)
  | spdm (r : SpdmReq)
  | secured (r : SecuredReq)
  /-- Any other type. -/
  | other (type : Nat)
  deriving DecidableEq, Repr

/-- One access to BAR0 (R431): a read or a write, its byte offset and its size in bytes. -/
structure Bar0Acc where
  read : Bool
  off : Nat
  size : Nat
  deriving DecidableEq, Repr

/-- The work that a read of host memory serves (R438): an allocation of a slot job, a refetch of an object's unit, or
a command by its place in the acceptance order. -/
inductive HostRead where
  | alloc (cell slot : Nat) (ul : Bool) (k : Nat)
  | refetch (obj unit : Nat)
  | command (id : Nat)
  deriving DecidableEq, Repr

/-- The commands of the block: one constructor for each row of spec/opcode_table.json, in the table's order.
Each docstring gives the row's mnemonic, the rule that governs it, and what its operands say. -/
inductive Instr where
  /-- REGISTER_WRITE (R14). -/
  | registerWrite (f : Fin 33) (off : Nat) (wide : Bool) (v : BitVec 64)
  /-- REG_LOWER_HALF_READ (R16). -/
  | regLowerHalfRead (f : Fin 33) (off : Nat) (wide : Bool)
  /-- BAR0_ILLEGAL_ACCESS (R431). -/
  | bar0IllegalAccess (f : Fin 33) (a : Bar0Acc)
  /-- TSQ_ENT1_READ (R49). -/
  | tsqEnt1Read (p : Fin 4)
  /-- TSQ_LOST_READ (R14). -/
  | tsqLostRead (p : Fin 4)
  /-- PWR_PEAK_READ (R406). -/
  | pwrPeakRead
  /-- AIR_SNAP_GO (R53). -/
  | airSnapGo
  /-- EPOCH_WRITE (R36). -/
  | epochWrite (n : Fin 8) (v : BitVec 64)
  /-- TD_CTRL_EN_WRITE (R43). -/
  | tdCtrlEnWrite (n : Fin 8) (w : BitVec 32)
  /-- PTP_RX_STAMP (R46). -/
  | ptpRxStamp (lport : Fin 32) (domainNumber : Byte)
  /-- ANNOUNCE_MESSAGE (R41). -/
  | announceMessage (lport : Fin 32) (domainNumber : Byte) (clockId : Word64) (clockClass : Byte) (rank : Nat) (logInterval : Int)
  /-- ANNOUNCE_RECEIPT_TIMEOUT (R41). -/
  | announceReceiptTimeout (n : Fin 8) (clockId : Word64) (lport : Fin 32)
  /-- SERVO_MEASUREMENT (R39). -/
  | servoMeasurement (n : Fin 8) (off16 : Int) (mpd : Nat) (clockId : Word64) (lport : Fin 32)
  /-- MEASUREMENT_LOSS_TIMEOUT (R40). -/
  | measurementLossTimeout (n : Fin 8)
  /-- HOLDOVER_LIMIT (R42). -/
  | holdoverLimit (n : Fin 8)
  /-- PPS_IN_EDGE (R45). -/
  | ppsInEdge
  /-- PPS_OUT_EDGE (R45). -/
  | ppsOutEdge
  /-- TALLY_BOUNDARY (R54). -/
  | tallyBoundary (g : Fin 1024)
  /-- TIME_CONFIG (R58). -/
  | timeConfig (p : Pkt)
  /-- TIME_ENABLE (R58). -/
  | timeEnable (p : Pkt)
  /-- TIME_DISABLE (R58). -/
  | timeDisable (p : Pkt)
  /-- TIME_STEP (R36). -/
  | timeStep (p : Pkt)
  /-- TIME_QUERY (R59). -/
  | timeQuery (p : Pkt)
  /-- TIME_MARK (R104). -/
  | timeMark (p : Pkt)
  /-- DUTY_WRITE (R397). -/
  | dutyWrite (w : BitVec 32)
  /-- CEILING_WRITE (R64). -/
  | ceilingWrite (v : BitVec 64)
  /-- CELL_CREATE (R68). -/
  | cellCreate (p : Pkt)
  /-- CELL_RECONFIG (R68). -/
  | cellReconfig (p : Pkt)
  /-- CELL_DELETE (R69). -/
  | cellDelete (p : Pkt)
  /-- CELL_DRAIN_END (R69). -/
  | cellDrainEnd (c : Fin 512)
  /-- CELL_QUERY (R159). -/
  | cellQuery (p : Pkt)
  /-- CELL_NEURAL (R183). -/
  | cellNeural (p : Pkt)
  /-- SLOT_UL (R166). -/
  | slotUl (p : Pkt)
  /-- SLOT_DL (R166). -/
  | slotDl (p : Pkt)
  /-- SLOT_JOB_PLAN (R164). -/
  | slotJobPlan (c : Fin 512) (ul : Bool) (slot : Nat)
  /-- WINDOW_PLAN (R70). -/
  | windowPlan (core : Nat) (c : Fin 512) (slot : Nat) (ul neural : Bool) (start work : Nat) (short : Bool)
  /-- RELEASE_HORIZON (R72). -/
  | releaseHorizon (core start : Nat)
  /-- WINDOW_OPEN (R71). -/
  | windowOpen (core start : Nat)
  /-- EARLY_RETURN (R73). -/
  | earlyReturn (core start : Nat)
  /-- FORCED_PREEMPTION (R79). -/
  | forcedPreemption (n : Nat)
  /-- CONTEXT_SAVE_DONE (R80). -/
  | contextSaveDone (n : Nat)
  /-- CLOVER_MODE_CHANGE (R205). -/
  | cloverModeChange (n : Nat) (done : Bool)
  /-- GUARD_RAMP_START (R80). -/
  | guardRampStart (n demand : Nat)
  /-- FALLBACK_POINT (R81). -/
  | fallbackPoint (c : Fin 512) (slot : Nat)
  /-- LEASE_GRANT (R78). -/
  | leaseGrant (n lead : Nat)
  /-- LEASE_END (R210). -/
  | leaseEnd (n : Nat)
  /-- COMMAND_SWEEP (R85). -/
  | commandSweep (w : Fin 132)
  /-- PW_ENABLE (R87). -/
  | pwEnable (f : Fin 33) (w : Fin 132) (v : BitVec 32)
  /-- PW_DISABLE (R87). -/
  | pwDisable (f : Fin 33) (w : Fin 132) (v : BitVec 32)
  /-- RR_HEAD_WRITE (R94). -/
  | rrHeadWrite (f : Fin 33) (w : Fin 132) (v : BitVec 32)
  /-- TIMED_EFFECT (R100). -/
  | timedEffect (id : Nat)
  /-- BARRIER_RELEASE (R102). -/
  | barrierRelease (id : Nat)
  /-- DEV_INFO (R106). -/
  | devInfo (p : Pkt)
  /-- DEV_QUIESCE (R104). -/
  | devQuiesce (p : Pkt)
  /-- DEV_RESUME (R104). -/
  | devResume (p : Pkt)
  /-- DEV_RESET (R436). -/
  | devReset (p : Pkt)
  /-- DEV_ECHO (R105). -/
  | devEcho (p : Pkt)
  /-- PART_SET (R342). -/
  | partSet (p : Pkt)
  /-- PART_CLEAR (R343). -/
  | partClear (p : Pkt)
  /-- CTX_CREATE (R327). -/
  | ctxCreate (p : Pkt)
  /-- CTX_DESTROY (R339). -/
  | ctxDestroy (p : Pkt)
  /-- STEP_SUBMIT (R329). -/
  | stepSubmit (p : Pkt)
  /-- CTX_SEED (R328). -/
  | ctxSeed (p : Pkt)
  /-- CTX_SUSPEND (R339). -/
  | ctxSuspend (p : Pkt)
  /-- CTX_SUSPEND_STOP (R339). -/
  | ctxSuspendStop (c : Nat)
  /-- CTX_RESUME (R339). -/
  | ctxResume (p : Pkt)
  /-- CTX_QUERY (R328). -/
  | ctxQuery (p : Pkt)
  /-- OBJ_CREATE (R243). -/
  | objCreate (p : Pkt)
  /-- OBJ_FREE (R250). -/
  | objFree (p : Pkt)
  /-- OBJ_PROMOTE (R248). -/
  | objPromote (p : Pkt)
  /-- OBJ_EVICT (R248). -/
  | objEvict (p : Pkt)
  /-- OBJ_PIN (R244). -/
  | objPin (p : Pkt)
  /-- OBJ_UNPIN (R244). -/
  | objUnpin (p : Pkt)
  /-- OBJ_KEYS (R244). -/
  | objKeys (p : Pkt)
  /-- OBJ_QUERY (R244). -/
  | objQuery (p : Pkt)
  /-- FAB_PORT (R281). -/
  | fabPort (p : Pkt)
  /-- FAB_ROUTE (R287). -/
  | fabRoute (p : Pkt)
  /-- FAB_GROUP (R295). -/
  | fabGroup (p : Pkt)
  /-- FAB_FENCE (R321). -/
  | fabFence (p : Pkt)
  /-- FAB_UNFENCE (R323). -/
  | fabUnfence (p : Pkt)
  /-- FAB_QUERY (R304). -/
  | fabQuery (p : Pkt)
  /-- SEC_LC_ADVANCE (R420). -/
  | secLcAdvance (p : Pkt)
  /-- SEC_FW_STAGE (R413). -/
  | secFwStage (p : Pkt)
  /-- SEC_FW_ACTIVATE (R414). -/
  | secFwActivate (p : Pkt)
  /-- SEC_MEASURE (R422). -/
  | secMeasure (p : Pkt)
  /-- SEC_CAL_WRITE (R426). -/
  | secCalWrite (p : Pkt)
  /-- DIAG_ASSAY (R381). -/
  | diagAssay (p : Pkt)
  /-- DIAG_SPARE (R376). -/
  | diagSpare (p : Pkt)
  /-- DIAG_TALLY (R388). -/
  | diagTally (p : Pkt)
  /-- DIAG_INJECT (R389). -/
  | diagInject (p : Pkt)
  /-- PORT_MODE_WRITE (R109). -/
  | portModeWrite (p : Fin 4) (w : BitVec 32)
  /-- WP_WRITE (R115). -/
  | wpWrite (p : Fin 4) (k : Fin 16) (x : Fin 8) (w : BitVec 32)
  /-- SHAPE_WRITE (R124). -/
  | shapeWrite (p : Fin 4) (q : Fin 128) (v : BitVec 64)
  /-- POLICER_WRITE (R126). -/
  | policerWrite (p : Fin 4) (f : Fin 1024) (burst : Bool) (v : BitVec 64)
  /-- UPLANE_INGRESS (R119). -/
  | uplaneIngress (msg : RxMsg)
  /-- DIQ_INGRESS (R129). -/
  | diqIngress (msg : DiqMsg)
  /-- AGC_SYMBOL_BOUNDARY (R131). -/
  | agcSymbolBoundary (p : Fin 4) (a : Fin 32)
  /-- AGC_HOLD_EXPIRY (R131). -/
  | agcHoldExpiry (p : Fin 4) (a : Fin 32)
  /-- DIQ_BANK_SWITCH (R133). -/
  | diqBankSwitch (p : Fin 4) (a : Fin 64)
  /-- WHEEL_PLACE (R121). -/
  | wheelPlace (msg : TxMsg)
  /-- FAR_LIST_ENTER (R121). -/
  | farListEnter (p : Fin 4)
  /-- BUCKET_DUE (R122). -/
  | bucketDue (p : Fin 4) (n : Fin 6)
  /-- FRAME_TRANSMIT (R122). -/
  | frameTransmit (lport : Fin 32)
  /-- SHAPER_REFILL (R123). -/
  | shaperRefill (p : Fin 4)
  /-- TX_DEADLINE_MISS (R125). -/
  | txDeadlineMiss (lport : Fin 32)
  /-- BUNDLE_ISSUE (R135). -/
  | bundleIssue (n : Fin 64) (b : ScBundle) (hw : Nat)
  /-- KERNEL_INVOKE (R148). -/
  | kernelInvoke (n : Fin 64) (kernel : Nat) (c : Fin 512) (slot : Nat)
  /-- KERNEL_COMPLETE (R142). -/
  | kernelComplete (n : Fin 64) (k : KernelResult)
  /-- CYCLE_BUDGET_SPENT (R150). -/
  | cycleBudgetSpent (n : Fin 64)
  /-- KERNEL_RETRY (R152). -/
  | kernelRetry (n m : Fin 64)
  /-- SC_DMA_DONE (R137). -/
  | scDmaDone (n : Fin 64) (toCore : Bool) (scm carve len : Nat)
  /-- SIGNAL_CORE_SPARE_IN (R153). -/
  | signalCoreSpareIn (n : Fin 64)
  /-- CODE_BLOCK_DONE (R170). -/
  | codeBlockDone (r : CbDone)
  /-- CODE_BLOCK_RETRY (R172). -/
  | codeBlockRetry (m : Fin 8) (lane cause : Nat) (m2 : Fin 8) (c : Fin 512) (slot : Nat) (ul : Bool) (alloc cb : Nat)
  /-- POLAR_OPERATION_DONE (R174). -/
  | polarOperationDone (m : Fin 8) (fault : Option Nat) (c : Fin 512) (slot : Nat) (ul : Bool) (alloc : Nat) (ok : Bool) (payload : List Byte)
  /-- REBUILD_DONE (R181). -/
  | rebuildDone (c : Fin 512)
  /-- UL_DELIVERY (R169). -/
  | ulDelivery (c : Fin 512) (slot : Nat) (late : Bool)
  /-- DL_JOB_COMPLETE (R169). -/
  | dlJobComplete (c : Fin 512) (slot : Nat)
  /-- NOP (R482). -/
  | nop (n : Nat) (e : Fin 4)
  /-- END (R482). -/
  | endOp (n : Nat) (e : Fin 4)
  /-- ADD (R482). -/
  | add (n : Nat) (e : Fin 4)
  /-- ADDI (R482). -/
  | addi (n : Nat) (e : Fin 4)
  /-- SUB (R482). -/
  | sub (n : Nat) (e : Fin 4)
  /-- AND (R482). -/
  | andOp (n : Nat) (e : Fin 4)
  /-- OR (R482). -/
  | orOp (n : Nat) (e : Fin 4)
  /-- XOR (R482). -/
  | xorOp (n : Nat) (e : Fin 4)
  /-- SHL (R482). -/
  | shl (n : Nat) (e : Fin 4)
  /-- SHR (R482). -/
  | shr (n : Nat) (e : Fin 4)
  /-- SAR (R482). -/
  | sar (n : Nat) (e : Fin 4)
  /-- MUL (R482). -/
  | mul (n : Nat) (e : Fin 4)
  /-- SLT (R482). -/
  | slt (n : Nat) (e : Fin 4)
  /-- SLTU (R482). -/
  | sltu (n : Nat) (e : Fin 4)
  /-- LI (R482). -/
  | li (n : Nat) (e : Fin 4)
  /-- LUI (R482). -/
  | lui (n : Nat) (e : Fin 4)
  /-- BEQ (R482). -/
  | beq (n : Nat) (e : Fin 4)
  /-- BNE (R482). -/
  | bne (n : Nat) (e : Fin 4)
  /-- BLT (R482). -/
  | blt (n : Nat) (e : Fin 4)
  /-- BGE (R482). -/
  | bge (n : Nat) (e : Fin 4)
  /-- J (R482). -/
  | j (n : Nat) (e : Fin 4)
  /-- LOOP (R482). -/
  | loopOp (n : Nat) (e : Fin 4)
  /-- TSIG (R219). -/
  | tsig (n : Nat) (e : Fin 4)
  /-- TWAIT (R219). -/
  | twait (n : Nat) (e : Fin 4)
  /-- LDT (R226). -/
  | ldt (n : Nat)
  /-- STT (R226). -/
  | stt (n : Nat)
  /-- XWAIT (R227). -/
  | xwait (n : Nat) (e : Fin 4)
  /-- TRANSACTION_COMPLETE (R227). -/
  | transactionComplete (n i : Nat) (loose : Bool) (line : Nat) (errs : List Nat) (addr : Bool) (stall : Nat)
  /-- MPASS (R221). -/
  | mpass (n : Nat)
  /-- MWAIT (R221). -/
  | mwait (n : Nat)
  /-- PASS_LOAD_START (R223). -/
  | passLoadStart (n hw : Nat)
  /-- PASS_STREAM_END (R221). -/
  | passStreamEnd (n hw : Nat)
  /-- PASS_COMPLETE (R209). -/
  | passComplete (n : Nat)
  /-- TQ_ENTRY_POST (R224). -/
  | tqEntryPost (n : Nat)
  /-- TQPOP (R224). -/
  | tqpop (n : Nat)
  /-- GOVERNOR_STEP (R206). -/
  | governorStep (n : Nat)
  /-- GAP_HOLD_EXPIRY (R207). -/
  | gapHoldExpiry (n : Nat)
  /-- WORK_TILE_RETRY (R213). -/
  | workTileRetry (n : Nat) (radio : Bool)
  /-- MATRIX_CORE_RETIRE (R214). -/
  | matrixCoreRetire (n : Nat)
  /-- MATRIX_CORE_SPARE_IN (R214). -/
  | matrixCoreSpareIn (n : Nat)
  /-- TOKEN_DEADLOCK (R222). -/
  | tokenDeadlock (n : Nat)
  /-- VLD (R230). -/
  | vld (n : Nat)
  /-- VST (R230). -/
  | vst (n : Nat)
  /-- VGATHER (R230). -/
  | vgather (n : Nat)
  /-- VSCATTER (R230). -/
  | vscatter (n : Nat)
  /-- VADD (R231). -/
  | vadd (n : Nat)
  /-- VMUL (R231). -/
  | vmul (n : Nat)
  /-- VFMA (R231). -/
  | vfma (n : Nat)
  /-- VMIN (R231). -/
  | vmin (n : Nat)
  /-- VMAX (R231). -/
  | vmax (n : Nat)
  /-- VABS (R231). -/
  | vabs (n : Nat)
  /-- BF16_PACKED_ADD (R231). -/
  | bf16PackedAdd (n : Nat)
  /-- BF16_PACKED_MULTIPLY (R231). -/
  | bf16PackedMultiply (n : Nat)
  /-- BF16_PACKED_FMA (R231). -/
  | bf16PackedFma (n : Nat)
  /-- INT32_ADD (R231). -/
  | int32Add (n : Nat) (sat : Bool)
  /-- INT32_MULTIPLY (R231). -/
  | int32Multiply (n : Nat) (sat : Bool)
  /-- INT32_SHIFT (R231). -/
  | int32Shift (n : Nat) (left arith sat : Bool)
  /-- VCMP (R218). -/
  | vcmp (n : Nat) (rel : Fin 6) (int : Bool)
  /-- MASK_LOGIC (R218). -/
  | maskLogic (n : Nat) (f : Fin 4)
  /-- VSEL (R218). -/
  | vsel (n : Nat)
  /-- VCVT (R231). -/
  | vcvt (n : Nat) (src dst : Fin 5)
  /-- VMXQ (R231). -/
  | vmxq (n : Nat) (fmt : Fin 5)
  /-- VEXP2 (R231). -/
  | vexp2 (n : Nat)
  /-- VLOG2 (R231). -/
  | vlog2 (n : Nat)
  /-- VRCP (R231). -/
  | vrcp (n : Nat)
  /-- VRSQRT (R231). -/
  | vrsqrt (n : Nat)
  /-- VTANH (R231). -/
  | vtanh (n : Nat)
  /-- VSIGM (R231). -/
  | vsigm (n : Nat)
  /-- VRSUM (R231). -/
  | vrsum (n : Nat)
  /-- VRMAX (R231). -/
  | vrmax (n : Nat)
  /-- VPERM (R218). -/
  | vperm (n : Nat)
  /-- VBCAST (R218). -/
  | vbcast (n : Nat)
  /-- VRAND (R360). -/
  | vrand (n : Nat)
  /-- VRDF (R232). -/
  | vrdf (n : Nat)
  /-- VCLRF (R232). -/
  | vclrf (n : Nat)
  /-- RGET (R297). -/
  | rget (n : Nat)
  /-- RPUT (R297). -/
  | rput (n : Nat)
  /-- RRED (R294). -/
  | rred (n : Nat)
  /-- RMCAST (R295). -/
  | rmcast (n : Nat)
  /-- RFENCE (R308). -/
  | rfence (n : Nat)
  /-- RWAIT (R229). -/
  | rwait (n : Nat) (e : Fin 4)
  /-- FENCE_COMPLETE (R308). -/
  | fenceComplete (id : Nat)
  /-- WORK_TILE_START (R236). -/
  | workTileStart (n : Nat) (radio : Option RadioTile)
  /-- WORK_TILE_END (R236). -/
  | workTileEnd (n : Nat)
  /-- STEP_START (R326). -/
  | stepStart (c : Nat)
  /-- STEP_COMPLETE (R330). -/
  | stepComplete (c : Nat)
  /-- BLOCK_YIELD (R335). -/
  | blockYield (c : Nat)
  /-- SWAP_START (R337). -/
  | swapStart (p : Fin 8)
  /-- SWAP_END (R337). -/
  | swapEnd (p : Fin 8)
  /-- SPILL_DONE (R334). -/
  | spillDone (n : Nat)
  /-- RESTORE_DONE (R334). -/
  | restoreDone (n : Nat)
  /-- REGULATOR_REFILL (R344). -/
  | regulatorRefill (p : Fin 8)
  /-- V2P_POST (R346). -/
  | v2pPost (f v : Fin 33)
  /-- V2P_ACK (R346). -/
  | v2pAck (f v : Fin 33)
  /-- P2V_POST (R346). -/
  | p2vPost (f v : Fin 33)
  /-- P2V_ACK (R346). -/
  | p2vAck (f v : Fin 33)
  /-- DLOG_ENABLE (R347). -/
  | dlogEnable (f v : Fin 33) (w : BitVec 32)
  /-- DLOG_SWAP (R347). -/
  | dlogSwap (f v : Fin 33) (w : BitVec 32)
  /-- DLOG_FLUSH_DONE (R347). -/
  | dlogFlushDone (v : Fin 33)
  /-- MIGRATION_START (R251). -/
  | migrationStart (obj : Nat)
  /-- SUB_BLOCK_COPY_DONE (R252). -/
  | subBlockCopyDone (obj : Nat) (bad : List Nat)
  /-- BLOCK_MIGRATION_DONE (R252). -/
  | blockMigrationDone (obj : Nat)
  /-- MIGRATION_COMPLETE (R247). -/
  | migrationComplete (obj : Nat)
  /-- AGE_SWEEP (R255). -/
  | ageSweep
  /-- AGE_EVICTION (R255). -/
  | ageEviction (n : Fin 2)
  /-- FRAME_RETURN (R250). -/
  | frameReturn (tier frame : Nat)
  /-- POOL_SIZE_WRITE (R246). -/
  | poolSizeWrite (n : Fin 2) (v : BitVec 64)
  /-- PATROL_READ (R265). -/
  | patrolRead (k : Fin 32) (errs : List Nat) (addr : Bool) (twin : Option TwinLine)
  /-- PAGE_BUFFER_WRITEOUT (R262). -/
  | pageBufferWriteout (chan page : Nat)
  /-- REFETCH_UNIT_ARRIVE (R271). -/
  | refetchUnitArrive (obj unit : Nat) (data : Option (List Byte))
  /-- REFETCH_BOUND_EXPIRY (R272). -/
  | refetchBoundExpiry (obj : Nat)
  /-- FILL_DONE (R264). -/
  | fillDone (part : Nat)
  /-- CHK_GO (R274). -/
  | chkGo (f : Fin 33) (u : Fin 64) (w : BitVec 32)
  /-- CHK_STOP (R276). -/
  | chkStop (f : Fin 33) (u : Fin 64) (w : BitVec 32) (lines : Nat)
  /-- CHK_SCAN_END (R275). -/
  | chkScanEnd (u : Fin 64)
  /-- PORT_TRAINING_DONE (R280). -/
  | portTrainingDone (p : Fin 16) (peer : Nat) (switch : Bool)
  /-- PORT_TRAINING_TIMEOUT (R280). -/
  | portTrainingTimeout (p : Fin 16)
  /-- PORT_FAIL (R311). -/
  | portFail (p : Fin 16)
  /-- CONTROL_WORD_TIMEOUT (R280). -/
  | controlWordTimeout (p : Fin 16)
  /-- HJELO_LANE_SPARE (R282). -/
  | hjeloLaneSpare (p : Fin 16) (lane : Nat)
  /-- FLIT_RECEIVE (R283). -/
  | flitReceive (p : Fin 16) (f : Flit)
  /-- FLIT_REPLAY (R285). -/
  | flitReplay (p : Fin 16) (ackSeq : Nat)
  /-- TRANSIT_FORWARD (R289). -/
  | transitForward (p : Fin 16)
  /-- FABRIC_REQUEST_RECEIVE (R298). -/
  | fabricRequestReceive (p : Fin 17)
  /-- MCAST_RECEIVE (R295). -/
  | mcastReceive (p : Fin 17)
  /-- MCAST_GATHER_COMPLETE (R296). -/
  | mcastGatherComplete (g : Nat)
  /-- COMBINER_OPERATION (R318). -/
  | combinerOperation (b : Fin 16) (line : Nat)
  /-- STREAM_ENTRY_IDLE (R314). -/
  | streamEntryIdle (src : Nat) (group : Option Nat)
  /-- FABRIC_RESPONSE_RECEIVE (R309). -/
  | fabricResponseReceive (p : Fin 17)
  /-- FABRIC_TIMEOUT (R315). -/
  | fabricTimeout (id : Nat)
  /-- PATH_EPOCH_ADVANCE (R310). -/
  | pathEpochAdvance (dst : Nat)
  /-- FABRIC_TIME_EXCHANGE (R303). -/
  | fabricTimeExchange (p : Fin 16) (off16 : Int) (root locked : Bool) (rootId : Nat)
  /-- LEDGER_WRITE (R364). -/
  | ledgerWrite (f : Fin 33)
  /-- LEDGER_HEAD_WRITE (R364). -/
  | ledgerHeadWrite (f : Fin 33) (v : BitVec 32)
  /-- ASSAY_PERIOD_BOUNDARY (R377). -/
  | assayPeriodBoundary
  /-- ASSAY_START (R377). -/
  | assayStart (cls : Fin 5) (u sub : Nat) (bucket : Fin 8)
  /-- ASSAY_END (R380). -/
  | assayEnd (cls : Fin 5) (u sub : Nat) (ok : Bool)
  /-- SHADOW_RUN_END (R383). -/
  | shadowRunEnd (n : Nat)
  /-- CONTROL_PROCESSOR_SPARE (R374). -/
  | controlProcessorSpare (k : Fin 8)
  /-- HBM_CHANNEL_SPARE (R375). -/
  | hbmChannelSpare (k : Fin 12) (c : Fin 32) (lanes : Bool)
  /-- HBM_CHANNEL_COPY_DONE (R375). -/
  | hbmChannelCopyDone (k : Fin 12) (c : Fin 32)
  /-- STACK_OUT_OF_SERVICE (R375). -/
  | stackOutOfService (k : Fin 12) (c : Fin 32) (lanes : Bool)
  /-- HEARTBEAT (R385). -/
  | heartbeat (k : Fin 10)
  /-- WATCHDOG_INTERVAL (R385). -/
  | watchdogInterval
  /-- SUPERVISOR_RESTART (R385). -/
  | supervisorRestart
  /-- INTERNAL_MESSAGE (R384). -/
  | internalMessage (k : Fin 10) (crcOk : Bool)
  /-- MONITOR_COMMIT (R386). -/
  | monitorCommit (k : Fin 10) (pkt : Option Nat) (tag : Fin 4) (r part idx : Nat) (crcOk : Bool)
  /-- VAULT_PERSIST (R424). -/
  | vaultPersist
  /-- HOURS_TICK (R424). -/
  | hoursTick
  /-- THROTTLE_ASSERT (R395). -/
  | throttleAssert
  /-- THROTTLE_DEASSERT (R395). -/
  | throttleDeassert
  /-- THROTTLE_FORCE_WRITE (R395). -/
  | throttleForceWrite (w : BitVec 32)
  /-- THROTTLE_HOLD_EXPIRY (R395). -/
  | throttleHoldExpiry
  /-- DUTY_RELEASE_STEP (R395). -/
  | dutyReleaseStep
  /-- TEMP_SAMPLE (R400). -/
  | tempSample (t : List (Nat × Int)) (cata : List Nat) (power current : Nat)
  /-- POWER_CAP_CHECK (R404). -/
  | powerCapCheck
  /-- DOMAIN_POWER_FAULT (R393). -/
  | domainPowerFault (d : Fin 192)
  /-- DOMAIN_POWER_UP (R392). -/
  | domainPowerUp (d : Fin 192)
  /-- PERST_ASSERT (R450). -/
  | perstAssert
  /-- PERST_DEASSERT (R451). -/
  | perstDeassert (straps : Fin 4)
  /-- SUPERVISOR_READY (R454). -/
  | supervisorReady (kver : BitVec 32)
  /-- SUPERVISOR_READY_TIMEOUT (R454). -/
  | supervisorReadyTimeout
  /-- VIN_CORE_LOSS (R405). -/
  | vinCoreLoss (n : Nat)
  /-- VIO_DROP (R469). -/
  | vioDrop
  /-- HOT_RESET (R436). -/
  | hotReset
  /-- FLR_PF (R436). -/
  | flrPf
  /-- VF_ENABLE_CLEAR (R436). -/
  | vfEnableClear (pfReset : Bool)
  /-- FLR_VF (R437). -/
  | flrVf (v : Fin 33)
  /-- BUS_MASTER_ENABLE_WRITE (R435). -/
  | busMasterEnableWrite (f : Fin 33) (on : Bool)
  /-- POWER_STATE_WRITE (R435). -/
  | powerStateWrite (f : Fin 33) (d3 : Bool)
  /-- MSIX_UNMASK (R434). -/
  | msixUnmask (f : Fin 33) (v : Option Nat) (mask : Bool)
  /-- BAR2_WRITE (R430). -/
  | bar2Write (f : Fin 33) (off : Nat) (l : List Byte)
  /-- BAR4_READ (R432). -/
  | bar4Read (f : Fin 33) (off n : Nat)
  /-- BAR4_WRITE (R432). -/
  | bar4Write (f : Fin 33) (off : Nat) (l : List Byte)
  /-- B4_BASE_WRITE (R432). -/
  | b4BaseWrite (f g : Fin 33) (v : BitVec 64)
  /-- HOST_READ_COMPLETION (R438). -/
  | hostReadCompletion (w : HostRead) (ok : Bool) (addr : Nat) (data : List Byte)
  /-- EP_TLP_RECEIVE (R438). -/
  | epTlpReceive (f : Fin 33)
  /-- IDE_CHECK_FAIL (R439). -/
  | ideCheckFail (stream : Fin 9) (fns : List Nat)
  /-- PTM_DIALOGUE (R440). -/
  | ptmDialogue (en ok : Bool) (off16 : Int) (mpd : Nat)
  /-- DOE_REQUEST (R441). -/
  | doeRequest (f : Fin 33) (len : Nat) (d : DoeObj)
  /-- MCTP_MESSAGE (R442). -/
  | mctpMessage (via : Fin 2) (m : MctpMsg)
  /-- GET_VERSION (R421). -/
  | getVersion (via : Fin 3)
  /-- GET_CAPABILITIES (R421). -/
  | getCapabilities (via : Fin 3)
  /-- NEGOTIATE_ALGORITHMS (R421). -/
  | negotiateAlgorithms (via : Fin 3) (mlDsa sha : Bool)
  /-- GET_DIGESTS (R421). -/
  | getDigests (via : Fin 3)
  /-- GET_CERTIFICATE (R421). -/
  | getCertificate (via : Fin 3) (slot off len : Nat)
  /-- CHALLENGE (R421). -/
  | challenge (via : Fin 3) (slot : Nat) (nonce : List Byte)
  /-- GET_MEASUREMENTS (R422). -/
  | getMeasurements (via : Fin 3) (index : Nat) (signed : Bool) (nonce : List Byte)
  /-- KEY_EXCHANGE (R421). -/
  | keyExchange (via : Fin 3) (dhe : List Byte)
  /-- FINISH (R421). -/
  | finish (via : Fin 3) (ok : Bool)
  /-- END_SESSION (R421). -/
  | endSession (via : Fin 3)
  /-- HEARTBEAT_SPDM (R421). -/
  | heartbeatSpdm (via : Fin 3)
  /-- KEY_UPDATE (R421). -/
  | keyUpdate (via : Fin 3)
  /-- SET_EVENT_RECEIVER (R443). -/
  | setEventReceiver (via : Fin 2) (eid : Byte)
  /-- REQUEST_UPDATE (R444). -/
  | requestUpdate (via : Fin 2) (len : Nat)
  /-- REQUEST_FIRMWARE_DATA (R444). -/
  | requestFirmwareData (data : List Byte)
  /-- ACTIVATE_FIRMWARE (R444). -/
  | activateFirmware (via : Fin 2)
  /-- RECOVERY_UPDATE (R445). -/
  | recoveryUpdate (readback : Bool)
  /-- BYPASS (R446). -/
  | bypass
  /-- IDCODE (R446). -/
  | idcode
  /-- SAMPLE_PRELOAD (R446). -/
  | samplePreload (pins load : List Bool)
  /-- EXTEST (R446). -/
  | extest
  /-- EXTEST_PULSE (R446). -/
  | extestPulse
  /-- EXTEST_TRAIN (R446). -/
  | extestTrain
  /-- CLAMP (R446). -/
  | clamp
  /-- HIGHZ (R446). -/
  | highz
  /-- JTAG_DEBUG_HALT (R446). -/
  | jtagDebugHalt (k : Fin 10)
  /-- FH_LANE_SPARE (R371). -/
  | fhLaneSpare (p : Fin 4) (lane : Nat)
  /-- AIR_COUNTER_TICK (R34). -/
  | airCounterTick
  /-- BRING_UP_STEP_END (R451). -/
  | bringUpStepEnd (r : BootEnd)
  /-- CODE_BLOCK_DISPATCH (R162). -/
  | codeBlockDispatch (m : Fin 8) (c : Fin 512) (slot : Nat) (ul : Bool) (alloc cb : Nat)
  /-- SUB_PORT_LINK_UP (R110). -/
  | subPortLinkUp (lport : Fin 32)
  /-- SUB_PORT_LINK_DOWN (R447). -/
  | subPortLinkDown (lport : Fin 32)
  /-- PTP_TRANSMIT (R44). -/
  | ptpTransmit (lport : Fin 32) (msg : TxMsg)
  /-- ESMC_MESSAGE (R45). -/
  | esmcMessage (lport : Fin 32) (ql : Nat)
  /-- FIRMWARE_STAGE_COMPLETE (R413). -/
  | firmwareStageComplete (readback : Bool)
  /-- VERIFY_COMPLETE (R444). -/
  | verifyComplete
  /-- APPLY_COMPLETE (R444). -/
  | applyComplete (readback : Bool)
  /-- VIN_CORE_APPLY (R405). -/
  | vinCoreApply
  /-- VIO_RESTORE (R469). -/
  | vioRestore
  /-- VF_ENABLE_SET (R428). -/
  | vfEnableSet (n : Fin 33)
  deriving DecidableEq, Repr

end Sys2Proof
end

