-- ==== Sys2Proof/Config.lean ====
section
/-! DEFINITION. What the part fixes: the counts of its units, the constants of its clocks and tables, the fused and
Vault values a fresh part carries, and the free values the spec leaves open.  A free value is a constant with no
body, so no statement can rest on what it is. -/

namespace Sys2Proof.Config

/-- Tc in one 10 ms frame (R37). -/
def frameTc : Nat := 19660800

/-- Tc in one half-subframe (R37). -/
def halfSubTc : Nat := 983040

/-- The AIR_TDn_EPOCH value after reset: frame 0 at the GPS epoch for TD0 to TD5, 0 for TD6 and TD7 (R35). -/
def epochReset (n : Nat) : Nat := if n < 6 then 621212111339520000 else 0

/-- The MAC address fused into sub-port s of port p (R134 says only 'Fused').  DESIGN CHOICE: zero, log entry 4. -/
def fusedMac (_p _s : Nat) : Nat := 0

/-- Compute Die counts and throttled capacities after reset (R62): filled by CAPACITY_RECOMPUTE; before bring-up 0. -/
def capReset (_x : Nat) : Nat := 0

/-- Power domain state after reset: OFF (R450). -/
def domReset (_d : Nat) : Nat := 0

/-- Unit of power domain d (R391). -/
def domUnit (d : Nat) : Nat := if d < 160 then d else if d < 168 then d - 160 else if d < 176 then d - 168 else d - 176

/-- Life-cycle state of a fresh part (R417). -/
def lcReset : Nat := 0

/-- The data frames of T2 the fitted DIMMs give (R238 says only 'Set by DIMMs').  DESIGN CHOICE: zero until DDR5
training ends, log entry 4. -/
def t2Frames : Nat := 0

/-- The fuses UDS, KH_FW, KH_MFG and ROM_DIGEST (R407): the spec gives their values for no part. -/
opaque uds : List (BitVec 8)
opaque khFw : List (BitVec 8)
opaque khMfg : List (BitVec 8)
opaque romDigest : List (BitVec 8)

/-- ML-DSA-87 of FIPS 204 (R408, R416, R418), which the spec names and does not spell out: whether a signature verifies, by public
key and message; the public key of a seed; the signature of a message under a seed's key. -/
opaque mldsaVerify : List (BitVec 8) → List (BitVec 8) → List (BitVec 8) → Bool
opaque mldsaPublic : List (BitVec 8) → List (BitVec 8)
opaque mldsaSign : List (BitVec 8) → List (BitVec 8) → List (BitVec 8)

/-- The certificate chain of slot 0, kept in the flash's certificate area (R416, R421). -/
opaque certChain : List (BitVec 8)

/-- What the spare map's word holds (R423), by word and the retired units of each class: the spec gives no layout. -/
opaque spareWord : Nat → List Nat → BitVec 64

/-- Words of the Vault that firmware uses (R423): the spec gives no content. -/
opaque firmwareWord : Nat → BitVec 64

/-- Kralum's JEP106 code, the version of IDCODE and its fixed bit (R446): the code is not given. -/
opaque idcodeRest : BitVec 16

/-- The PCI-SIG vendor of a DOE object (R441): not given. -/
opaque doeVendor : Nat

/-- The free value drawn for the d-th time: nothing constrains it. -/
opaque freeValue : Nat → BitVec 64

/-- G_nr as the 256-byte descriptor of a neural model holds it (R183): the spec gives no layout. -/
opaque descriptorGnr : List (BitVec 8) → Nat

/-- A mean power in 1/16 dB relative to 2^30, as 16 bits (R132): the logarithm's rounding is not given. -/
opaque powerDb : Nat → BitVec 16

/-- The row of its store that a line lies in (R371): the spec gives the stores' rows no numbers. -/
opaque rowOf : Nat → Nat

/-- Kralum's reference function of a transcendental instruction, by its place in R218's list, on an FP32 value (R231):
the spec gives no formula. -/
opaque transc : Nat → BitVec 32 → BitVec 32

/-- The flags INV, DZ, OVF, UNF and SAT that a transcendental instruction raises on a value (R232): not given. -/
opaque transcFlags : Nat → BitVec 32 → BitVec 5

end Sys2Proof.Config
end

