-- ==== Sys2Proof/Machine/State.lean ====
section
/-! DEFINITION. The state of the block as plain data: the register store, the memories, the queues and tables of every
chapter of the spec, and the queue of waiting commands. -/

namespace Sys2Proof.Machine

/-- A sparse store of natural numbers: key and value pairs, keys strictly rising, no pair equal to what an unlisted
key reads as. -/
abbrev FMap := List (Nat × Nat)

/-- A byte memory: address and byte pairs, addresses strictly rising, no zero byte listed.  An unlisted address reads
as zero, as the fills of R263 leave every store. -/
abbrev Memory := List Host.Cell

/-- A PTP time transmitter that a domain's BMCA holds as a candidate (R41): rank is its place in the order of the
alternate BMCA of G.8275.1 (lower is better), until the time its announce receipt timeout expires. -/
structure Candidate where
  clockId : Nat
  port : Nat
  clockClass : Nat
  rank : Nat
  until_ : Nat
  deriving DecidableEq, Repr

/-- What the Air Time Unit keeps for one Time Domain beside its registers (R34, R39, R40, R41, R45). -/
structure AirDom where
  /-- Fraction of the Air Counter, in units of 2^-40 Tc (R34, R39). -/
  frac : Nat
  /-- The servo's integral term I, in units of 2^-40 (R39). -/
  integ : Int
  /-- The servo's reference R (R39). -/
  ref : Option Nat
  /-- Consecutive measurements that meet the test of the present state (R40). -/
  run : Nat
  /-- Core-clock time of the last valid measurement (R40). -/
  lastMeas : Nat
  /-- Core-clock time at which HOLDOVER was entered (R42). -/
  holdAt : Nat
  cands : List Candidate
  /-- The grandmaster that the BMCA has selected: clockIdentity, and whether its clockClass makes measurements valid. -/
  gm : Option (Nat × Bool)
  /-- The whole second that the next 1PPS edge marks, once a first edge has been seen (R45). -/
  ppsNext : Option Nat
  /-- The value on which the last backward step landed: no Tally boundary up to it latches again (R56). -/
  floor : Nat
  /-- Whole Tc by which the counter steps at the next tick: writes of EPOCH (R36 case 3). -/
  due : Int
  deriving DecidableEq, Repr

/-- The state of AirDom at reset. -/
def AirDom.reset : AirDom := ⟨0, 0, none, 0, 0, 0, [], none, none, 0, 0⟩

/-- One PCIe function: bus mastering, power state, MSI-X function mask and pending vectors (R434, R435). -/
structure Func where
  present : Bool
  bme : Bool
  d3 : Bool
  fmask : Bool
  pend : List Nat
  deriving DecidableEq, Repr

/-- One MSI-X message sent: function, vector (R434). -/
structure Msg where
  func : Nat
  vec : Nat
  deriving DecidableEq, Repr

/-- A cell's Radio Credit per ms (R66): the four device resources and the two fronthaul directions. -/
structure Credit where
  mc : Nat
  sc : Nat
  cod : Nat
  t1 : Nat
  fhIn : Nat
  fhOut : Nat
  deriving DecidableEq, Repr

/-- The header of a HARQ soft-buffer handle (R177). -/
structure Handle where
  rnti : Nat
  gen : Nat
  lost : Bool
  rounds : Nat
  c : Nat
  tbs : Nat
  zc : Nat
  bg : Nat
  ncb : Nat
  deriving DecidableEq, Repr

/-- A cell not ABSENT: its state code (R99), the configuration payload in force (R155), its neural receiver (R183),
its credit, its carve in frames (R160), its first slot, and its two Cell Context copies (R179, R181). -/
structure Cell where
  st : Nat
  cfg : List Byte
  neural : Bool
  fpUs : Nat
  /-- The first slot planned after the last CELL_NEURAL took effect; earlier slots keep the receiver and Fallback Point that
  were in force before it (R183). -/
  neuralFrom : Nat
  neuralWas : Bool
  fpWas : Nat
  imageLen : Nat
  gnr : Nat
  credit : Credit
  t0Frames : Nat
  t1Frames : Nat
  firstSlot : Nat
  stackA : Nat
  stackB : Nat
  okA : Bool
  okB : Bool
  rebuilding : Bool
  handles : List (Nat × Handle)
  deriving DecidableEq, Repr

/-- A window of one logical Matrix Core (R70, R72, R73): its cell, slot and direction, its start in Tc of the cell's
domain, its length in core cycles, and whether its Release Horizon and its start have passed. -/
structure Window where
  core : Nat
  cell : Nat
  slot : Nat
  ul : Bool
  neural : Bool
  td : Nat
  start : Nat
  len : Nat
  /-- The Release Horizon in µs when the window was planned (R83: a change applies to windows planned after it). -/
  releaseUs : Nat
  retained : Bool
  opened : Bool
  deriving DecidableEq, Repr

/-- A Lease of one logical core (R78): its core and context, when it was granted and when its first pass may begin in
core cycles, the passes still to start and the pass length, and whether its end has come and its save runs. -/
structure Lease where
  core : Nat
  ctx : Nat
  granted : Nat
  start : Nat
  passes : Nat
  passLen : Nat
  saving : Bool
  deriving DecidableEq, Repr

/-- The unit a failure comes from, as its Ledger entry names it (R365): logical and physical number, temperature band, and
whether the failure was injected. -/
structure FaultUnit where
  lunit : Nat
  punit : Nat
  band : Nat
  injected : Bool
  deriving DecidableEq, Repr

/-- The outcome of one allocation of a slot job (R169). -/
structure AllocRes where
  status : Nat
  crcOk : Bool
  mismatch : Bool
  missing : Bool
  iters : Nat
  cbFail : Nat
  sinr : Nat
  payload : List Byte
  done : Bool
  /-- CAUSE of its failure (R367), and whether the failed work was retried once. -/
  cause : Nat
  retried : Bool
  /-- The unit it failed on. -/
  unit : FaultUnit
  deriving DecidableEq, Repr

/-- An accepted slot job (R164, R166, R169). -/
structure Job where
  pkt : Pkt
  cell : Nat
  ul : Bool
  slot : Nat
  planned : Bool
  fetched : Bool
  /-- A message of the job has been handed to its timing wheel (R121). -/
  handed : Bool
  /-- RX_PATH once the Fallback Point has passed (R82). -/
  rxPath : Option Nat
  neuralDone : Bool
  neuralInvalid : Bool
  neuralFailed : Bool
  sat : Bool
  timeOfs : Nat
  freqOfs : Nat
  res : List AllocRes
  prach : List (List Byte)
  deriving DecidableEq, Repr

/-- Credit and carve that an accepted command reserves until its effect (R68, R112, R246): the packet, the cell, and
what the command adds. -/
structure Resv where
  id : Nat
  lport : Nat
  credit : Credit
  t0Frames : Nat
  t1Frames : Nat
  flows : Nat
  deriving DecidableEq, Repr

/-- A code block in hand on a Coding Cluster (R162, R172). -/
structure CodeWork where
  cluster : Nat
  cell : Nat
  slot : Nat
  ul : Bool
  alloc : Nat
  cb : Nat
  retried : Bool
  deriving DecidableEq, Repr

/-- An error that DIAG_INJECT has ordered and that has not come about yet (R389). -/
structure Inject where
  kind : Nat
  unit : Nat
  sub : Nat
  addr : Nat
  count : Nat
  deriving DecidableEq, Repr

/-- IQ data of one symbol written to the slot buffer in T0 (R114, R117, R131): PRB or index of the first sample, CI16
values, and the gain in force for a Direct IQ stream. -/
structure RxData where
  cell : Nat
  stream : Nat
  sym : Nat
  first : Nat
  vals : List (Int × Int)
  gain : Nat
  deriving DecidableEq, Repr

/-- A flow's two-rate three-colour marker (R126): the two buckets in units of 1/1,536,000 bit, and when they were last
refilled. -/
structure Marker where
  tc : Nat
  tp : Nat
  last : Nat
  deriving DecidableEq, Repr

/-- What a Direct IQ stream holds beside its registers (R129 to R133). -/
structure Diq where
  /-- Index in the frame of the next message's first sample. -/
  cnt : Nat
  /-- Whole frame that the count is in, once in SYNC. -/
  frame : Nat
  confirm : Nat
  miss : Nat
  /-- Sum of I² + Q² and number of samples of the present symbol, and the mean power of the one before. -/
  symPow : Nat
  symCnt : Nat
  prevPow : Option Nat
  /-- Air time at which the HOLD count expires. -/
  holdUntil : Nat
  /-- I² + Q² of the last 256 input samples, newest first. -/
  last256 : List Nat
  /-- The coefficient bank in force. -/
  bank : Nat
  /-- The filter's delay line, newest first. -/
  line : List (Int × Int)
  deriving DecidableEq, Repr

/-- Diq at reset. -/
def Diq.reset : Diq := ⟨0, 0, 0, 0, 0, 0, none, 0, [], 0, []⟩

/-- A kernel invocation in hand on a Signal Core (R148 to R152): its kernel and slot, its cycle budget, its start, whether
it is the retry, whether it has faulted and with which cause, and the DMA stores it has made, which a fault discards. -/
structure Invocation where
  kernel : Nat
  cell : Nat
  slot : Nat
  budget : Nat
  start : Nat
  retry : Bool
  fault : Option Nat
  stores : List (Nat × List Byte)
  deriving DecidableEq, Repr

/-- The registers and memories of a Signal Core (R136, R137); a register not listed reads zero. -/
structure SigCore where
  /-- X registers: 32 lanes of I and Q. -/
  x : List (Nat × List (Int × Int))
  /-- Accumulators: 32 lanes of I and Q. -/
  acc : List (Nat × List (Int × Int))
  sc : FMap
  ad : FMap
  md : FMap
  amode : FMap
  cbBase : FMap
  cbLen : FMap
  pr : FMap
  bh : Nat
  lc : FMap
  ssr : Nat
  pc : Nat
  /-- The target of a branch whose delay bundle is next. -/
  pend : Option Nat
  mem : Memory
  imem : Memory
  run : Option Invocation
  deriving DecidableEq, Repr

/-- A Signal Core at reset (DESIGN CHOICE, log entry 19: the spec gives these registers no reset value). -/
def SigCore.reset : SigCore := ⟨[], [], [], [], [], [], [], [], [], 0, [], 0, 0, none, [], [], none⟩

/-- One FFT or iFFT output in the slot buffer (R147): cell, stream, symbol start, exponent E, elements. -/
structure FftOut where
  cell : Nat
  stream : Nat
  sym : Nat
  exp : Nat
  vals : List (Int × Int)
  deriving DecidableEq, Repr

/-- The shadow frame of a block (R253): its tier and frame, whether its charge lies in the tier's pool, and the dirty
bits of the block's frame, one per 64 KiB sub-block. -/
structure Shadow where
  tier : Nat
  frame : Nat
  pool : Bool
  dirty : Nat
  deriving DecidableEq, Repr

/-- An object (R241).  The first fields are those of its Object Table entry; the rest is what the tier manager keeps of
the migration or refetch in progress. -/
structure Obj where
  /-- First block; BASE is this × 2 MiB. -/
  block : Nat
  /-- Length in 4 KiB units. -/
  len : Nat
  st : Nat
  part : Nat
  tier : Nat
  bank : Nat
  any : Bool
  ro : Bool
  recon : Bool
  pool : Bool
  pin : Nat
  age : Nat
  target : Nat
  started : Bool
  drop : Bool
  keys : List Nat
  perm : Nat
  moved : Nat
  bkind : Nat
  bdev : Nat
  baddr : Nat
  /-- Bank and ANY of the promotion in progress. -/
  tbank : Nat
  tany : Bool
  /-- The frames of the migration in progress are charged to the pool of TARGET. -/
  tpool : Bool
  /-- Frames still reserved in TARGET for the migration in progress (R246). -/
  resv : Nat
  /-- The packets whose final reply waits for the migration (R248). -/
  waiters : List Nat
  /-- An uncorrectable error has been reported during a migration and awaits its end (R247). -/
  ue : Bool
  /-- When the Refetch Bound began, and the 4 KiB units still to be written: unit and failed attempts (R271). -/
  since : Nat
  units : List (Nat × Nat)
  deriving DecidableEq, Repr

/-- A migration a slice runs (R251, R252): its object, the block it copies, counted from the object's first, the cursor
in that block, and the destination tier and frame of the block. -/
structure Mig where
  obj : Nat
  blk : Nat
  cur : Nat
  dst : Nat
  /-- Sub-blocks of the destination frame written since their copy. -/
  dirty : Nat
  deriving DecidableEq, Repr

/-- Frames that an accepted command has reserved until its effect (R246): the packet, the partition, the tier, how many,
whether of the pool, and the T0 bank (4 for any); and for an OBJ_CREATE the entry of the Object Table and the first block (R98, R100). -/
structure ObjResv where
  id : Nat
  part : Nat
  tier : Nat
  n : Nat
  pool : Bool
  bank : Nat
  idx : Nat
  blk : Nat
  deriving DecidableEq, Repr

/-- The number of the context table that an accepted CTX_CREATE has reserved until its effect (R98, R100, R327): the packet,
the number and the partition. -/
structure CtxResv where
  id : Nat
  num : Nat
  part : Nat
  deriving DecidableEq, Repr

/-- A live replacement of an HBM4 channel (R375): its stack, the channel, when the copy started, the cause of the
replacement, and the DIAG_SPARE command it serves. -/
structure ChanCopy where
  stack : Nat
  chan : Nat
  start : Nat
  cause : Nat
  pkt : Option Nat
  deriving DecidableEq, Repr

/-- A Vault write on its way to MRAM (R424): its word and value, the packet that ends once it is persistent (its place in
the acceptance order plus 1, or 0), and whether the device then resets. -/
structure VaultWrite where
  word : Nat
  value : Nat
  pkt : Nat
  reset : Bool
  deriving DecidableEq, Repr

/-- An Assay in progress (R377 to R381): its class, the logical unit (of an LDPC lane its cluster), the lane, the band and
the bucket at its start, and the DIAG_ASSAY command it serves. -/
structure Assay where
  cls : Nat
  unit : Nat
  sub : Nat
  band : Nat
  bucket : Nat
  pkt : Option Nat
  deriving DecidableEq, Repr

/-- A tile table that STEP_SUBMIT selects (R235, R350, R351). -/
structure TileTab where
  splitW : Nat
  nStages : Nat
  nTiles : Nat
  tileTab : Nat
  stageTab : Nat
  deriving DecidableEq, Repr

/-- How a work tile of a STEP has ended (R363, R366, R367): its index, its items, its status (0 when COMPLETE), its
CAUSE and FLAGS, the KIND 4 entry that failed it, LAST_PASS + 1 at the fault, its core's numbers and its die's band. -/
structure TileEnd where
  tile : Nat
  first : Nat
  count : Nat
  status : Nat
  cause : Nat
  flags : Nat
  link : Nat
  pass : Nat
  lunit : Nat
  punit : Nat
  band : Nat
  deriving DecidableEq, Repr

/-- A work tile to be run again from its start (R213, R331, R334, R382): the core it may not run on, and whether it runs
from the fallback image, as a shadow run or as a retry. -/
structure Again where
  tile : Nat
  avoid : Option Nat
  fb : Bool
  shadow : Bool
  retry : Bool
  deriving DecidableEq, Repr

/-- A STEP queued on a context (R326, R329, R330): its packet's number in the acceptance order, and SEQ, FLAGS, image,
tables, result address, deadline, limits and ARGS; then what its run leaves. -/
structure Step where
  id : Nat
  seq : Nat
  flags : Nat
  image : Nat
  tab : TileTab
  fbTab : Option TileTab
  result : Nat
  deadline : Nat
  maxCores : Nat
  argsAddr : Nat
  args : List Byte
  started : Bool
  /-- Every tile runs from the fallback image (R331). -/
  allFb : Bool
  startAt : Nat
  again : List Again
  ended : List TileEnd
  /-- VSTAT over every tile; fallback used. -/
  vstat : Nat
  fbUsed : Bool
  maxHeld : Nat
  refStall : Nat
  replays : Nat
  restarts : Nat
  fbTiles : Nat
  /-- The primary runs that await their shadow run: tile, core, digest, VSTAT (R382). -/
  shadow : List (Nat × Nat × Nat × Nat)
  deriving DecidableEq, Repr

/-- One engine of an engine set (R216): its position in the STEP image, its scalar registers, and its state code of
R237. -/
structure Engine where
  pc : Nat
  g : FMap
  st : Nat
  deriving DecidableEq, Repr

/-- A pass descriptor (R200). -/
structure PassDesc where
  shape : Nat
  acc64 : Bool
  conj : Bool
  tq : Bool
  accIn : Bool
  fmtS : Nat
  fmtM : Nat
  shift : Nat
  m : Nat
  k : Nat
  n : Nat
  stat : Nat
  mov : Nat
  scale : Nat
  acc : Nat
  out : Nat
  deriving DecidableEq, Repr

/-- A pass on its way (R209, R221, R223): its index in the work tile, its descriptor and token actions, whether its WT
token has been taken, and once its stream has ended the result bytes and flags. -/
structure Pass where
  idx : Nat
  d : PassDesc
  wt : Option Nat
  et : Option Nat
  dt : Option Nat
  taken : Bool
  result : List Byte
  inv : Bool
  ovf : Bool
  deriving DecidableEq, Repr

/-- An LDT or STT not yet complete (R226): its number, direction, operands, and the row and the byte of the row that its
next transaction starts at. -/
structure Xfer where
  id : Nat
  load : Bool
  ua : Nat
  sa : Nat
  rows : Nat
  rowLen : Nat
  stride : Int
  row : Nat
  off : Nat
  deriving DecidableEq, Repr

/-- A transaction that holds a tracker (R227): the transfer it belongs to, its direction, addresses and length, a
store's data, and the time it was issued. -/
structure Xact where
  xfer : Nat
  load : Bool
  ua : Nat
  sa : Nat
  len : Nat
  data : List Byte
  at_ : Nat
  deriving DecidableEq, Repr

/-- The engine set of a logical Matrix Core while it runs a work tile, or as it is saved (R210, R216, R219, R223, R224,
R230).  Context 0 is a radio work tile of firmware (R161, R205, R213). -/
structure EngSet where
  ctx : Nat
  part : Nat
  tile : Nat
  /-- The tile's first item and item count; of a radio tile its cell and slot. -/
  first : Nat
  count : Nat
  /-- The image the streams are fetched from, and the offset past its code. -/
  image : Nat
  codeEnd : Nat
  passP : Nat
  fabMax : Nat
  scratch : Nat
  fb : Bool
  retry : Bool
  shadow : Bool
  bound : Bool
  radio : Option RadioTile
  ld : Engine
  mx : Engine
  vc : Engine
  sr : Engine
  tok : FMap
  tq : List Nat
  tqPend : List Nat
  passQ : List Pass
  run : Option Pass
  drain : List Pass
  /-- Passes issued, and passes complete: LAST_PASS + 1. -/
  issued : Nat
  done : Nat
  v : FMap
  k : FMap
  vstat : Nat
  xfers : List Xfer
  xacts : List Xact
  nextX : Nat
  faberr : Bool
  firstFail : Nat
  failStatus : Nat
  failCause : Nat
  /-- The digest of R382. -/
  digest : Nat
  /-- An RPUT, RRED or RMCAST has been issued (R331). -/
  sentFab : Bool
  /-- When the tile started, and when one of its engines, its array or its transfers last went forward. -/
  start : Nat
  act : Nat
  /-- When its last fabric operation ended. -/
  fabAct : Nat
  /-- Its Core Scratch lies in the swap area (R334). -/
  spilled : Bool
  deriving DecidableEq, Repr

/-- A context not ABSENT (R325 to R328, R336). -/
structure Ctx where
  part : Nat
  prio : Nat
  fbImage : Nat
  st : Nat
  sub : Nat
  resident : Bool
  queue : List Step
  counter : Nat
  seed : Nat
  blockAt : Nat
  /-- When it last became RUNNABLE. -/
  readyAt : Nat
  faberr : Bool
  firstFail : Nat
  /-- The CTX_SUSPEND commands whose save is still to come. -/
  suspend : List Nat
  /-- A block yield has ended its Leases and the save is still to come. -/
  yielding : Bool
  saved : List (Nat × EngSet)
  deriving DecidableEq, Repr

/-- A swap in progress in a partition (R337): the context that leaves, if any, and the one that comes in. -/
structure Swap where
  part : Nat
  out : Option Nat
  inn : Nat
  start : Nat
  deriving DecidableEq, Repr

/-- A partition that PART_SET has opened: what no register shows (R340, R341). -/
structure Part where
  key : Nat
  maxCtx : Nat
  ports : Nat
  /-- The frames of its save and swap regions: tier and frame. -/
  regions : List (Nat × Nat)
  deriving DecidableEq, Repr

/-- A regulator's tokens in bytes, which may fall below zero, and the RATE and BURST in force since the last refill
(R344). -/
structure Regul where
  tokens : Int
  rate : Nat
  burst : Nat
  deriving DecidableEq, Repr

/-- An entry of the Fabric Transaction Table (R302): its number, the core and engine set, context and tile it serves (or
firmware), its completion group, the request, its local destination, the path it was last sent on, and when it was
first sent. -/
structure Ftt where
  id : Nat
  core : Nat
  ctx : Nat
  part : Nat
  load : Bool
  tile : Nat
  group : Nat
  req : FabPkt
  dest : Nat
  /-- The local destination of an RGET, or the MEMBERS that a multicast expects. -/
  arg : Nat
  /-- An RFENCE, and the entries it still covers. -/
  fence : Option (List Nat)
  port : Option Nat
  sent : Option Nat
  deriving DecidableEq, Repr

/-- A request in a Combiner's queue (R317): the packet, the port it came in on (16 the local home), the gather entry that
waits for it, and when it came. -/
structure CombReq where
  pkt : FabPkt
  port : Nat
  gather : Option Nat
  at_ : Nat
  deriving DecidableEq, Repr

/-- A stream entry of the Duplicate Filter (R312). -/
structure Stream where
  src : Nat
  /-- The group of an MCAST stream. -/
  group : Option Nat
  top : Nat
  /-- IDs of the window that have been applied. -/
  done : List Nat
  cur : FMap
  high : FMap
  last : Nat
  deriving DecidableEq, Repr

/-- A gather entry of a multicast (R296): the request, the port it came in on, the ports whose ACK is still to come (16 the
device's own store), the highest status and the count so far. -/
structure Gather where
  id : Nat
  req : FabPkt
  port : Nat
  wait : List Nat
  status : Nat
  count : Nat
  deriving DecidableEq, Repr

/-- A Hjelo port beside its registers (R280 to R285): the packets it has received, each with its time, that wait to be
handled, the FAB_PORT commands that wait and the terms, when training began, the sequence numbers of its link, whether a NAK is to
be sent, the packets kept for replay with the number of their last flit, what waits to be sent, the credits of each virtual
lane at the peer, the replays since one made progress, and when the last control word came.  Port 16 is the local home. -/
structure HPort where
  inq : List (Nat × FabPkt)
  pkts : List Nat
  check : Option Nat
  allowSwitch : Bool
  since : Nat
  seq : Nat
  expect : Nat
  nak : Bool
  replay : List (Nat × FabPkt)
  queue : List FabPkt
  credit : FMap
  stuck : Nat
  lastCtl : Nat
  deriving DecidableEq, Repr

/-- A Hjelo port at reset. -/
def HPort.reset : HPort := ⟨[], [], none, false, 0, 0, 0, false, [], [], [], 0, 0⟩


/-- A SEC_FW_STAGE between its effect and its final reply (R413): its packet, the host address and length of the image, and
what SEC_STAGE.STATE read before. -/
structure Stage where
  pkt : Nat
  addr : Nat
  len : Nat
  prev : Nat
  deriving DecidableEq, Repr

/-- The SPDM responder on one binding (R421): how far its requester has come (0 nothing, 1 GET_VERSION, 2 GET_CAPABILITIES,
3 NEGOTIATE_ALGORITHMS) and its session (0 none, 1 in handshake, 2 established). -/
structure Spdm where
  phase : Nat
  session : Nat
  deriving DecidableEq, Repr

/-- Where a PLDM firmware update stands (R444). -/
inductive UpdMode where
  | idle | transfer | verify | apply | ready
  deriving DecidableEq, Repr

/-- A PLDM firmware update (R444): where it stands, the image's length, and the bytes pulled so far. -/
structure Update where
  mode : UpdMode
  len : Nat
  got : Nat
  buf : Memory
  deriving DecidableEq, Repr

/-- An SPDM response (R421, R422): its kind and what the spec gives its content. -/
inductive SpdmRsp where
  | version
  | capabilities
  | algorithms
  | digests (d : List Byte)
  | certificate (part : List Byte) (left : Nat)
  | challengeAuth (cert measurement nonce sig : List Byte)
  | measurements (body : List Byte)
  | keyExchangeRsp (dhe sig : List Byte)
  | finishRsp
  | endSessionAck
  | heartbeatAck
  | keyUpdateAck
  | unexpectedRequest
  | unsupportedRequest
  | invalidRequest
  deriving DecidableEq, Repr

/-- A management message that the device has sent (R421, R441 to R445), with its binding: 0 MCTP on I3C, 1 MCTP on PCIe VDM,
2 DOE. -/
inductive MgmtMsg where
  | spdm (via : Nat) (r : SpdmRsp)
  /-- DOE Discovery: the vendor and type of the object at the index, and the next index. -/
  | discovery (vendor type next : Nat)
  /-- IDE_KM: the stream has been keyed. -/
  | ideKeyed (stream : Nat)
  /-- MCTP control: the endpoint ID that was set. -/
  | endpoint (via eid : Nat)
  | pldmOk (via : Nat)
  | pldmNotReady (via : Nat)
  | pldmRetryUpdate (via : Nat)
  | pldmUnableUpdate (via : Nat)
  /-- The update command does not fit the update's state. -/
  | pldmUpdateState (via : Nat)
  | pldmUnsupported (via : Nat)
  /-- PLDM Base: the types served. -/
  | pldmTypes (via : Nat) (types : List Nat)
  /-- A sensor's value. -/
  | sensor (via id : Nat) (value : Int)
  | noSensor (via id : Nat)
  /-- PlatformEventMessage: sensor, its state before and now. -/
  | event (via eid id old new : Nat)
  /-- RequestFirmwareData: the offset and length wanted. -/
  | wantData (off len : Nat)
  | transferComplete
  /-- VerifyComplete, with the reason of R418 when a check fails. -/
  | verifyComplete (reason : Nat)
  | applyComplete (ok : Bool)
  deriving DecidableEq, Repr

/-- The instruction in the TAP (R446). -/
inductive TapIr where
  | bypass | idcode | sample | extest | extestPulse | extestTrain | clamp | highz | debug
  deriving DecidableEq, Repr

/-- The queue of commands, elapsed time, the registers, the functions and host memory. -/
structure CommonState where
  /-- The commands waiting, first in first out. -/
  pending : List Instr
  /-- Time since power-on in units of 1/1536 ns, of which a tick of the 491.52 MHz tick clock takes 3,125 (R34) and a core cycle 1,536 (R11): the model's own measure of elapsed time. -/
  now : Nat
  /-- How many free values have been drawn: the model's own counter. -/
  draws : Nat
  /-- The fields of the registers, keyed by register offset and lowest bit; a field not listed holds its reset value. -/
  regs : FMap
  /-- The live Tally counters, keyed by group and field (R54). -/
  live : FMap
  /-- The RL registers, keyed by group and field (R54). -/
  latched : FMap
  /-- The Tally groups in which a live counter has saturated since the last latch (R61). -/
  satLive : List Nat
  /-- The upper half each function captured with its last lower-half read: function, register offset, value (R16, R465). -/
  captured : List (Nat × Nat × Nat)
  /-- The functions that are present, by number (R428, R434, R435). -/
  fns : List (Nat × Func)
  /-- The MSI-X tables by function and 32-bit word; an unlisted vector control word is masked (R434). -/
  msix : FMap
  /-- The MSI-X messages sent, oldest first. -/
  msgs : List Msg
  /-- Host memory as the device reads and writes it (R94, R364). -/
  hostMem : Memory
  deriving DecidableEq, Repr

/-- Air time (R31 to R61). -/
structure AirState where
  /-- The Time Domains' servo and BMCA state, by domain. -/
  air : List (Nat × AirDom)
  /-- The transmit time-stamp queue of each fronthaul port: up to 32 entries of 128 bits, head first (R48). -/
  airTsq : List (Nat × List Nat)
  /-- The stamp sequence number of each transmit time-stamp queue (R48). -/
  airTsqSeq : FMap
  /-- The rising edges of PPS_OUT: domain and time in 1/16 Tc, newest first (R45). -/
  airPps : List (Nat × Nat)
  /-- The SyncE quality level of each logical port as ESMC last gave it (R45). -/
  airQl : FMap
  /-- The DOMAIN and PERIOD that await a boundary, by Tally group (R55). -/
  tallyPend : List (Nat × Nat × Nat)
  /-- The air time up to which the boundaries of each Tally group have been handled (R54, R56). -/
  tallyLast : FMap
  /-- What the last host read returned: the model's own output. -/
  rdata : Nat
  /-- How the last host read completed: 0 successful, 1 Unsupported Request, 2 Completer Abort, 3 with poisoned data: the model's own output. -/
  rstat : Nat
  /-- The last receive time-stamp taken: domain, logical port, time in 1/16 Tc (R46). -/
  airRx : Option (Nat × Nat × Nat)
  deriving DecidableEq, Repr

/-- Cells, windows, Leases, jobs, accepted packets and the Ledger. -/
structure RadioState where
  /-- The cells not ABSENT, by number (R68, R99). -/
  cells : List (Nat × Cell)
  /-- The windows planned and not yet ended (R70). -/
  windows : List Window
  /-- The Leases granted and not yet ended (R78). -/
  leases : List Lease
  /-- The accepted slot jobs without a final reply, oldest first (R164). -/
  jobs : List Job
  /-- The accepted packets without a final reply, in acceptance order (R85, R90). -/
  accepted : List Pkt
  /-- The packets in the timed-command table, by their place in the acceptance order (R101). -/
  timed : List Nat
  /-- The accepted packets whose effect has begun and whose final reply is still to come, by their place in the acceptance order (R102). -/
  begun : List Nat
  /-- The device is QUIESCED (R99, R332). -/
  quiesced : Bool
  /-- The DEV_QUIESCE commands whose final reply waits for the last Lease to end (R104). -/
  quiesce : List Nat
  /-- What accepted commands reserve until their effect (R68, R112). -/
  resv : List Resv
  /-- What is left below one unit of the counters that count in units of 1,024, by Tally key. -/
  tallyRem : FMap
  /-- The 6-bit soft-buffer codes, by cell, handle, code block and position (R176, R177). -/
  soft : FMap
  /-- The code blocks in hand on the Coding Clusters (R162). -/
  code : List CodeWork
  /-- Faults of each Coding Cluster lane in the present Assay period (R172). -/
  laneFaults : FMap
  /-- The HBM4 stacks that have left service (R62, R375). -/
  stacksOut : List Nat
  /-- The backlog of each function's Ledger: entries whose index is assigned and which the host has not been sent, oldest first (R364, R368). -/
  ledger : List (Nat × List (List Byte))
  deriving DecidableEq, Repr

/-- The Fronthaul Engines (R108 to R134). -/
structure FrontState where
  /-- The far lists of the Fronthaul Engines (R121). -/
  fhFar : List TxMsg
  /-- The timing wheels: each message with the start of its bucket (R121). -/
  fhWheel : List (Nat × TxMsg)
  /-- The egress queues, by engine × 128 + queue, head first (R122). -/
  fhQueue : List (Nat × List TxMsg)
  /-- The active lists of deficit round robin, by logical port × 8 + priority (R122). -/
  fhActive : List (Nat × List Nat)
  /-- The deficit of each egress queue in bytes (R122). -/
  fhDeficit : FMap
  /-- The queue that the round robin of a priority of a logical port (its number times 8, plus the priority) is visiting, plus 1; 0 between visits (R122). -/
  fhVisit : FMap
  /-- The shaper tokens of each egress queue in units of 1/125 B (R123). -/
  fhTokens : List (Nat × Int)
  /-- The RATE and BURST of each shaper in force since the last refill (R123). -/
  fhShape : List (Nat × (Nat × Nat))
  /-- The messages sent on the wire, newest first: the model's own output. -/
  fhSent : List TxMsg
  /-- The markers of the flows, by engine × 1,024 + flow (R126). -/
  marker : List (Nat × Marker)
  /-- The Direct IQ streams, by engine × 64 + stream (R129 to R133). -/
  diq : List (Nat × Diq)
  /-- The filter coefficients, by engine, stream, bank and tap, 16 bits each (R133, R134). -/
  diqCoef : FMap
  /-- The IQ data in the T0 slot buffers, newest first (R117). -/
  slotBuf : List RxData
  deriving DecidableEq, Repr

/-- Spares, faults and the Signal Cores. -/
structure FaultState where
  /-- Events appended to the fault history, whose last 256 the Vault holds (R372). -/
  histNext : Nat
  /-- Logical Matrix Core numbers that a retirement without a spare has removed from service (R19). -/
  mcRemoved : List Nat
  /-- Logical Signal Core numbers removed likewise (R20). -/
  scRemoved : List Nat
  /-- Faults of causes 3 and 4 of each physical Matrix Core in the present Assay period (R214). -/
  mcFaults : FMap
  /-- Physical Matrix Cores that have been retired (R372). -/
  mcRetired : List Nat
  /-- Physical Signal Cores that have been retired (R372). -/
  scRetired : List Nat
  /-- Retired LDPC lanes and polar engines, by cluster × 32 + unit, polar engine e being 24 + e (R172, R173). -/
  laneRetired : List Nat
  /-- Logical Matrix Cores whose physical core has been retired and whose spare waits, with the spare's physical number (R214). -/
  mcRetiring : FMap
  /-- The units for which a confirming Assay is scheduled: class × 2^16 + physical number (R379, R383). -/
  assayDue : List Nat
  /-- The DIAG_SPARE commands whose spare has not taken effect: class, unit, packet (R376). -/
  spareCmd : List (Nat × Nat × Nat)
  /-- Radio work tiles that await their retry, with the core they faulted on (R213). -/
  radioAgain : List (Nat × RadioTile)
  /-- The Assays in progress (R377). -/
  assays : List Assay
  /-- When each unit's last Assay started, by class × 2^16 + physical number, a lane's being cluster × 32 + lane (R377). -/
  assayLast : FMap
  /-- The Assay period in progress, counted from reset (R377). -/
  assayIdx : Nat
  /-- The DIAG_ASSAY commands whose Assay has not started: class, logical number, packet (R381). -/
  assayCmd : List (Nat × Nat × Nat)
  /-- Assay mismatches of each LDPC lane in the present Assay period, and over its life by band and bucket (R380). -/
  laneMiss : FMap
  /-- The processors that have written their heartbeat in the present interval (R385). -/
  beats : List Nat
  /-- Intervals in a row that each processor has missed (R385). -/
  missed : FMap
  /-- The watchdog interval in progress (R385). -/
  wdogIdx : Nat
  /-- The Control Processor whose duties the spare has taken (R374). -/
  cpFor : Option Nat
  /-- The processors whose internal message is to be sent once more (R384). -/
  msgRetry : List Nat
  /-- The packets whose effect waits for the Supervisor's restart (R385). -/
  deferred : List Nat
  /-- The HBM4 channels that have been replaced: stack × 32 + channel (R375). -/
  chanRetired : List Nat
  /-- The event in hand is one that DIAG_INJECT ordered: the model's own mark (R389). -/
  injecting : Bool
  /-- The time of the last device reset. -/
  resetAt : Nat
  /-- The processors that JTAG has halted (R446). -/
  halted : List Nat
  /-- The errors ordered by DIAG_INJECT that have not come about (R389). -/
  inject : List Inject
  /-- CAUSE and count of the fault that made a unit Suspect, by class and physical number: cause + 256 × count (R366). -/
  unitCause : FMap
  /-- The Signal Cores by logical number (R136, R137). -/
  sigCore : List (Nat × SigCore)
  /-- Faults of causes 1, 4, 5, 6 and 7 of each physical Signal Core in the present Assay period (R153). -/
  sigFaults : FMap
  /-- The outputs of the FFT and iFFT kernels in the slot buffer, newest first (R147). -/
  fftOut : List FftOut
  /-- The radio carve as the Signal Cores' DMA engines reach it, by address (R137, R160). -/
  radioMem : Memory
  deriving DecidableEq, Repr

/-- The memory tiers, their protection and the objects (R238 to R279). -/
structure MemState where
  /-- The Block Map: one 64-bit entry per block; an unlisted block is unmapped (R239). -/
  bmap : FMap
  /-- The objects not ABSENT, by index (R241). -/
  objs : List (Nat × Obj)
  /-- The shadow frames, by block (R253). -/
  shadows : List (Nat × Shadow)
  /-- The objects whose migration waits to start, in acceptance order (R251). -/
  migQueue : List Nat
  /-- The migrations the slices run (R251). -/
  migs : List Mig
  /-- Frames reserved by accepted commands until their effect (R246). -/
  objResv : List ObjResv
  /-- Context numbers reserved by accepted commands until their effect (R100). -/
  ctxResv : List CtxResv
  /-- The tiers whose pool is being emptied by age eviction, 0 T0 and 1 T1 (R255). -/
  ageRun : List Nat
  /-- Frames that OBJ_FREE or PART_CLEAR has unmapped and that accesses may still reach: tier, frame, partition + 16 when charged to the pool (R250). -/
  freeing : List (Nat × Nat × Nat)
  /-- The data of T0, T1 and T2: tier × 2^43 + frame × 2^21 + byte (R238). -/
  mem : Memory
  /-- The lines that carry a poison mark, by line number of mem (R259). -/
  poison : FMap
  /-- Core Scratch: logical core × 2^21 + byte (R188). -/
  scratch : Memory
  /-- The page buffers of the T2 controllers: channel, page, time of the last write (R262). -/
  pageBufs : List (Nat × Nat × Nat)
  /-- Corrected reads of each row, which the tier manager counts: line number of mem (R371). -/
  ceRows : FMap
  /-- Uncorrectable reads of each HBM4 channel in the present second: stack × 32 + channel (R371). -/
  chanUe : FMap
  /-- Rows that call for a repair at the fill of the next device reset, by line number of mem (R371). -/
  repairs : FMap
  /-- The HBM4 channel replacements under way (R375). -/
  chanCopy : List ChanCopy
  /-- DDR5 channels with a DIMM fitted, found by DDR5 training (R301). -/
  ddrChans : Nat
  /-- DDR5 data rate in MT/s (R452). -/
  ddrRate : Nat
  /-- The line each controller's patrol reads next (R265). -/
  patrol : FMap
  /-- When each controller's present patrol pass began, twice, plus 1 once it has run past its period (R265). -/
  patrolStart : FMap
  /-- Fills under way: the partition whose frames are filled, or 8 for every store; the packet whose final reply follows, plus 1; and whether it is a clearing of the partition (R264, R343). -/
  fills : List (Nat × Nat × Bool)
  deriving DecidableEq, Repr

/-- Partitions, contexts and engine sets (R187 to R237, R325 to R362). -/
structure EngineState where
  /-- The partitions not ABSENT (R340). -/
  parts : List (Nat × Part)
  /-- The regulators: partition × 3 + 0 for T1, 1 for T2, 2 for fabric egress (R344). -/
  regul : List (Nat × Regul)
  /-- The contexts not ABSENT (R325). -/
  ctxs : List (Nat × Ctx)
  /-- The engine sets that run a work tile, by logical core (R216). -/
  eng : List (Nat × EngSet)
  /-- Store transactions of stopped work tiles that their tier controllers have yet to acknowledge, with their partition (R233). -/
  loose : List (Nat × Xact)
  /-- The context whose STEP area each logical core last held, plus 1 (R333). -/
  lastCtx : FMap
  /-- The spilled Core Scratch of bound tiles in the swap areas: context × 2^32 + logical core × 2^21 + byte (R334). -/
  scratchOf : Memory
  /-- Spills and restores under way: core, context, restore, start (R334). -/
  spills : List (Nat × Nat × Bool × Nat)
  /-- The swaps under way (R337). -/
  swaps : List Swap
  /-- When each core's array last stopped loading and streaming (R207). -/
  gapAt : FMap
  /-- When each core's governor last made a step (R206). -/
  govAt : FMap
  /-- The mailboxes: VF × 2^12 + byte (R346). -/
  mbx : Memory
  deriving DecidableEq, Repr

/-- The Hjelo fabric (R280 to R324). -/
structure FabricState where
  /-- The Hjelo ports (R280 to R285). -/
  hport : List (Nat × HPort)
  /-- The route table, by destination ID; bit 16 is VALID (R287). -/
  routes : FMap
  /-- The group table (R295). -/
  groups : FMap
  /-- The Fabric Transaction Table, in the order of issue (R302). -/
  ftt : List Ftt
  /-- The next Transaction ID for each destination; a group's under 2^16 + group (R293). -/
  txids : FMap
  /-- The destinations whose path has changed and whose epoch is still to advance (R310). -/
  epochPend : List Nat
  /-- The path epoch of each destination (R310). -/
  epochs : FMap
  /-- The requests in the Combiners' queues, in home-arrival order (R317). -/
  comb : List CombReq
  /-- The lines held in the Combiners' line buffers, by offset / 64 (R318). -/
  lineBufs : List Nat
  /-- Fabric loads held on poisoned lines of REFETCHING objects, in arrival order (R272). -/
  fabHeld : List CombReq
  /-- The lines that have counted a hot-line event and whose queue has not emptied (R320). -/
  hotSeen : List Nat
  /-- The stream entries of the Duplicate Filter (R312). -/
  streams : List Stream
  /-- The gather entries (R296). -/
  gathers : List Gather
  /-- The packets sent on the Hjelo ports, newest first: the model's own output. -/
  fabSent : List (Nat × FabPkt)
  /-- The requests and responses that a device-local discard has dropped, newest first: the model's own output (R289). -/
  fabDrop : List FabPkt
  deriving DecidableEq, Repr

/-- Throttle, temperature and the Vault (R391 to R406, R423, R424). -/
structure PowerState where
  /-- When a throttle cause last became active with none active before (R395). -/
  thrSince : Nat
  /-- When the last active throttle cause became inactive (R395). -/
  thrOff : Nat
  /-- When the release began or the duty in force last rose (R395). -/
  thrStep : Nat
  /-- When the duty in force last changed: the accumulator A of R396 is the duty in force times the core cycles since, modulo 100. -/
  dutyAt : Nat
  /-- The power estimates of the last millisecond, newest first (R404). -/
  pwrLast : List Nat
  /-- The Vault's words as MRAM holds them (R423). -/
  vault : FMap
  /-- The wear counters of the Vault's words (R424). -/
  wear : FMap
  /-- The Vault's write buffer, oldest first, and behind its 8 entries the writes that wait to enter it (R424). -/
  vbuf : List VaultWrite
  deriving DecidableEq, Repr

/-- Security, the host interface, management and bring-up (R84, R407 to R460). -/
structure HostState where
  /-- The Posting Windows: function × 2^18 + offset in its region (R84, R430). -/
  bar2 : Memory
  /-- The last Seal count seen, by window × 16 + slot (R85). -/
  seals : FMap
  /-- Packets accepted since reset: the next place in the acceptance order (R90). -/
  accepts : Nat
  /-- The Insecure IDE streams and the functions whose traffic rides them (R439). -/
  insecure : List (Nat × List Nat)
  /-- The SPDM responder on each binding: 0 I3C, 1 PCIe VDM, 2 DOE (R421). -/
  spdm : List (Nat × Spdm)
  /-- The management messages sent, newest first: the model's own output (R421, R441 to R445). -/
  mgmtOut : List MgmtMsg
  /-- The receiver of platform events: binding and endpoint ID (R443). -/
  evtRecv : Option (Nat × Nat)
  /-- The state of each PLDM sensor when it was last looked at (R443). -/
  sens : FMap
  /-- The PLDM firmware update (R444). -/
  upd : Update
  /-- The boot flash on the card: bank × 2^28 + byte (R408). -/
  flash : Memory
  /-- The SEC_FW_STAGE in hand (R413). -/
  stage : Option Stage
  /-- The RETIRED fuse (R407). -/
  fuseRetired : Bool
  /-- SHA3-384 of bytes 0 to 7,290 of the running image's header (R422). -/
  hdrDig : List Byte
  /-- BODY_DIGEST of the running image (R422). -/
  bodyDig : List Byte
  /-- SVN of the running image (R408). -/
  runSvn : Nat
  /-- PERST# is asserted (R450). -/
  perst : Bool
  /-- VIN_CORE is present (R405). -/
  vin : Bool
  /-- VIO is within its limits (R469). -/
  vio : Bool
  /-- When the bring-up sequence began (R451). -/
  perstAt : Nat
  /-- The steps of R451 that have ended. -/
  bootDone : List Nat
  /-- When the Supervisor was released (R451). -/
  supAt : Nat
  /-- The instruction in the TAP (R446). -/
  tapIr : TapIr
  /-- What the last TAP instruction captured for TDO: the model's own output (R446). -/
  tapOut : Option Nat
  /-- The boundary-scan register, as SAMPLE/PRELOAD loaded it (R446). -/
  bsr : List Bool
  deriving DecidableEq, Repr

/-- The machine. -/
structure State extends CommonState, AirState, RadioState, FrontState, FaultState, MemState, EngineState, FabricState, PowerState, HostState
  deriving DecidableEq, Repr

/-- Why the machine stops with a fault.  Every command of this block has an effect or none and lets it
run on, so no meaning stops it with a fault; the constructor below gives the type a name (safe). -/
inductive Fault where
  /-- Raised by no meaning (safe). -/
  | none
  deriving DecidableEq, Repr

/-- Why a command has no meaning. -/
inductive Refusal where
  /-- The command has no meaning in the model yet: raised by the arms of exec that name a mnemonic (safe). -/
  | notModelled (mnemonic : String)
  deriving DecidableEq, Repr

/-- The machine right after reset: every register at its reset value (the sparse stores hold nothing), every queue and
table empty, every memory zero-filled (R263), PERST# asserted and VIN_CORE applied (R450, R405). -/
def State.reset : State :=
  { pending := [],
    now := 0,
    draws := 0,
    regs := [],
    live := [],
    latched := [],
    satLive := [],
    captured := [],
    fns := [(0, ⟨true, false, false, false, []⟩)],
    msix := [],
    msgs := [],
    hostMem := [],
    air := [],
    airTsq := [],
    airTsqSeq := [],
    airPps := [],
    airQl := [],
    tallyPend := [],
    tallyLast := [],
    rdata := 0,
    rstat := 0,
    airRx := none,
    cells := [],
    windows := [],
    leases := [],
    jobs := [],
    accepted := [],
    timed := [],
    begun := [],
    quiesced := false,
    quiesce := [],
    resv := [],
    tallyRem := [],
    soft := [],
    code := [],
    laneFaults := [],
    stacksOut := [],
    ledger := [],
    fhFar := [],
    fhWheel := [],
    fhQueue := [],
    fhActive := [],
    fhDeficit := [],
    fhVisit := [],
    fhTokens := [],
    fhShape := [],
    fhSent := [],
    marker := [],
    diq := [],
    diqCoef := [],
    slotBuf := [],
    histNext := 0,
    mcRemoved := [],
    scRemoved := [],
    mcFaults := [],
    mcRetired := [],
    scRetired := [],
    laneRetired := [],
    mcRetiring := [],
    assayDue := [],
    spareCmd := [],
    radioAgain := [],
    assays := [],
    assayLast := [],
    assayIdx := 0,
    assayCmd := [],
    laneMiss := [],
    beats := [],
    missed := [],
    wdogIdx := 0,
    cpFor := none,
    msgRetry := [],
    deferred := [],
    chanRetired := [],
    injecting := false,
    resetAt := 0,
    halted := [],
    inject := [],
    unitCause := [],
    sigCore := [],
    sigFaults := [],
    fftOut := [],
    radioMem := [],
    bmap := [],
    objs := [],
    shadows := [],
    migQueue := [],
    migs := [],
    objResv := [],
    ctxResv := [],
    ageRun := [],
    freeing := [],
    mem := [],
    poison := [],
    scratch := [],
    pageBufs := [],
    ceRows := [],
    chanUe := [],
    repairs := [],
    chanCopy := [],
    ddrChans := 0,
    ddrRate := 0,
    patrol := [],
    patrolStart := [],
    fills := [],
    parts := [],
    regul := [],
    ctxs := [],
    eng := [],
    loose := [],
    lastCtx := [],
    scratchOf := [],
    spills := [],
    swaps := [],
    gapAt := [],
    govAt := [],
    mbx := [],
    hport := [],
    routes := [],
    groups := [],
    ftt := [],
    txids := [],
    epochPend := [],
    epochs := [],
    comb := [],
    lineBufs := [],
    fabHeld := [],
    hotSeen := [],
    streams := [],
    gathers := [],
    fabSent := [],
    fabDrop := [],
    thrSince := 0,
    thrOff := 0,
    thrStep := 0,
    dutyAt := 0,
    pwrLast := [],
    vault := [],
    wear := [],
    vbuf := [],
    bar2 := [],
    seals := [],
    accepts := 0,
    insecure := [],
    spdm := [],
    mgmtOut := [],
    evtRecv := none,
    sens := [],
    upd := ⟨.idle, 0, 0, []⟩,
    flash := [],
    stage := none,
    fuseRetired := false,
    hdrDig := [],
    bodyDig := [],
    runSvn := 0,
    perst := true,
    vin := true,
    vio := true,
    perstAt := 0,
    bootDone := [],
    supAt := 0,
    tapIr := .bypass,
    tapOut := none,
    bsr := [] }

end Sys2Proof.Machine
end

