-- ==== Sys2Proof/Machine/Regs.lean ====
section
/-! DEFINITION. The registers of BAR0 and their fields: offset, bits, Type code and reset value of each, as the
register tables of the spec give them (R5, R60, R61, R83, R107, R134, R154, R186, R215, R237, R258, R278, R279,
R304, R324, R348, R362, R390, R406, R427, R448, R460), at the offsets of R461 and R463.  A field is named as the
spec names it, register first, with the register's index letters as its arguments; the sets of VF v (dirty log,
mailbox) take v - 1. -/

namespace Sys2Proof.Machine

/-- The Type codes of R14. -/
inductive RType where
  | ro | rw | rwp | w1c | wo | rc | rl
  deriving DecidableEq, Repr

/-- One field of one register: the register's offset in the PF view, its lowest bit, its width, its Type code
(R14), its value after device reset, and whether it keeps its value through a reset (Vault values and values fixed
at manufacture). -/
structure Fld where
  off : Nat
  lo : Nat
  width : Nat
  ty : RType
  reset : Nat
  kept : Bool
  deriving DecidableEq, Repr

/-- The key under which the register store keeps a field. -/
def Fld.key (f : Fld) : Nat := f.off * 64 + f.lo

/-- Which Tally group a register set counts in (R54, R463): none, one fixed group, the group 8 + p of a
fronthaul port, the group 128 + c of a cell, the group of the cell that a flow is mapped to, or the registers of a Tally group itself. -/
inductive GrpKind where
  | none | fixed (g : Nat) | fh | cell | flow | tally
  deriving DecidableEq, Repr

/-- One register set: its base offset, the counts and strides of its two indices (count 1 where it has none), its
width in bits, the Tally group it counts in and its fields. -/
structure RegDef where
  name : String
  base : Nat
  n1 : Nat
  s1 : Nat
  n2 : Nat
  s2 : Nat
  width : Nat
  grp : GrpKind
  fields : Nat → Nat → List Fld

/-- Offset of DEV_IDENT (R5). -/
def DEV_IDENT : Nat := 0x0
def DEV_IDENT_FAMILY : Fld := ⟨DEV_IDENT, 0, 16, .ro, 0x0A96, false⟩
def DEV_IDENT_GRADE : Fld := ⟨DEV_IDENT, 16, 8, .ro, 144, true⟩
def DEV_IDENT_STEPPING : Fld := ⟨DEV_IDENT, 24, 8, .ro, 0xA1, false⟩
/-- Offset of DEV_STAT (R448). -/
def DEV_STAT : Nat := 0x8
def DEV_STAT_READY : Fld := ⟨DEV_STAT, 0, 1, .ro, 0, false⟩
/-- Offset of DEV_HOSTERR (R448). -/
def DEV_HOSTERR : Nat := 0xC
def DEV_HOSTERR_BAR0 : Fld := ⟨DEV_HOSTERR, 0, 1, .w1c, 0, false⟩
def DEV_HOSTERR_BAR2_W : Fld := ⟨DEV_HOSTERR, 1, 1, .w1c, 0, false⟩
def DEV_HOSTERR_B4_DENIED : Fld := ⟨DEV_HOSTERR, 2, 1, .w1c, 0, false⟩
def DEV_HOSTERR_B4_REFUSED : Fld := ⟨DEV_HOSTERR, 3, 1, .w1c, 0, false⟩
def DEV_HOSTERR_VEC : Fld := ⟨DEV_HOSTERR, 4, 1, .w1c, 0, false⟩
def DEV_HOSTERR_NO_MASTER : Fld := ⟨DEV_HOSTERR, 5, 1, .w1c, 0, false⟩
def DEV_HOSTERR_CPL_ERR : Fld := ⟨DEV_HOSTERR, 6, 1, .w1c, 0, false⟩
def DEV_HOSTERR_EP_RX : Fld := ⟨DEV_HOSTERR, 7, 1, .w1c, 0, false⟩
def DEV_HOSTERR_IDE : Fld := ⟨DEV_HOSTERR, 8, 1, .w1c, 0, false⟩
def DEV_HOSTERR_FUNC : Fld := ⟨DEV_HOSTERR, 16, 6, .ro, 0, false⟩
/-- Offset of DEV_EVT_MASK (R448). -/
def DEV_EVT_MASK : Nat := 0x10
def DEV_EVT_MASK_MASK : Fld := ⟨DEV_EVT_MASK, 0, 9, .rw, 0, false⟩
/-- Offset of DEV_EVT_VEC (R448). -/
def DEV_EVT_VEC : Nat := 0x14
def DEV_EVT_VEC_VEC : Fld := ⟨DEV_EVT_VEC, 0, 11, .rw, 0, false⟩
/-- Offset of DEV_LINK (R448). -/
def DEV_LINK : Nat := 0x18
def DEV_LINK_SPEED : Fld := ⟨DEV_LINK, 0, 3, .ro, 0, false⟩
def DEV_LINK_WIDTH : Fld := ⟨DEV_LINK, 3, 5, .ro, 0, false⟩
def DEV_LINK_FLIT : Fld := ⟨DEV_LINK, 8, 1, .ro, 0, false⟩
/-- Offset of DEV_PTM (R448). -/
def DEV_PTM : Nat := 0x1C
def DEV_PTM_PERIOD : Fld := ⟨DEV_PTM, 0, 8, .rw, 10, false⟩
def DEV_PTM_VALID : Fld := ⟨DEV_PTM, 16, 1, .ro, 0, false⟩
/-- Offset of DEV_DBG (R448). -/
def DEV_DBG : Nat := 0x20
def DEV_DBG_WDOG_HOLD : Fld := ⟨DEV_DBG, 0, 1, .rw, 0, false⟩
def DEV_DBG_HALTED : Fld := ⟨DEV_DBG, 1, 1, .ro, 0, false⟩
/-- Offset of DEV_MCTP (R448). -/
def DEV_MCTP : Nat := 0x24
def DEV_MCTP_EID_I3C : Fld := ⟨DEV_MCTP, 0, 8, .ro, 0, false⟩
def DEV_MCTP_EID_VDM : Fld := ⟨DEV_MCTP, 8, 8, .ro, 0, false⟩
def DEV_MCTP_I3C_ADDR : Fld := ⟨DEV_MCTP, 16, 7, .ro, 0, false⟩
/-- Offset of DEV_SYNCE (R448). -/
def DEV_SYNCE : Nat := 0x28
def DEV_SYNCE_PORT0 : Fld := ⟨DEV_SYNCE, 0, 5, .rw, 0, false⟩
def DEV_SYNCE_EN0 : Fld := ⟨DEV_SYNCE, 5, 1, .rw, 0, false⟩
def DEV_SYNCE_PORT1 : Fld := ⟨DEV_SYNCE, 8, 5, .rw, 0, false⟩
def DEV_SYNCE_EN1 : Fld := ⟨DEV_SYNCE, 13, 1, .rw, 0, false⟩
/-- Offset of DEV_BOOT (R460). -/
def DEV_BOOT : Nat := 0x30
def DEV_BOOT_PHASE : Fld := ⟨DEV_BOOT, 0, 4, .ro, 0, false⟩
def DEV_BOOT_FAIL : Fld := ⟨DEV_BOOT, 4, 1, .ro, 0, false⟩
def DEV_BOOT_CAUSE : Fld := ⟨DEV_BOOT, 8, 4, .ro, 0, false⟩
def DEV_BOOT_UNIT : Fld := ⟨DEV_BOOT, 12, 4, .ro, 0, false⟩
def DEV_BOOT_ELAPSED : Fld := ⟨DEV_BOOT, 16, 16, .ro, 0, false⟩
/-- Offset of DEV_BOOT_MEM (R460). -/
def DEV_BOOT_MEM : Nat := 0x38
def DEV_BOOT_MEM_HBM_SPARE : Fld := ⟨DEV_BOOT_MEM, 0, 12, .ro, 0, false⟩
def DEV_BOOT_MEM_DDR_USED : Fld := ⟨DEV_BOOT_MEM, 16, 16, .ro, 0, false⟩
def DEV_BOOT_MEM_DDR_RATE : Fld := ⟨DEV_BOOT_MEM, 32, 13, .ro, 0, false⟩
def DEV_BOOT_MEM_DIMM_SIZE : Fld := ⟨DEV_BOOT_MEM, 48, 8, .ro, 0, false⟩
/-- Offset of DEV_T_B4DENY (R448). -/
def DEV_T_B4DENY : Nat := 0x80
def DEV_T_B4DENY_COUNT : Fld := ⟨DEV_T_B4DENY, 0, 32, .rl, 0, false⟩
/-- Offset of DEV_T_NOMASTER (R448). -/
def DEV_T_NOMASTER : Nat := 0x84
def DEV_T_NOMASTER_COUNT : Fld := ⟨DEV_T_NOMASTER, 0, 32, .rl, 0, false⟩
/-- Offset of DEV_T_CPLERR (R448). -/
def DEV_T_CPLERR : Nat := 0x88
def DEV_T_CPLERR_COUNT : Fld := ⟨DEV_T_CPLERR, 0, 32, .rl, 0, false⟩
/-- Offset of DEV_T_BAR0ERR (R448). -/
def DEV_T_BAR0ERR : Nat := 0x8C
def DEV_T_BAR0ERR_COUNT : Fld := ⟨DEV_T_BAR0ERR, 0, 32, .rl, 0, false⟩
/-- Offset of DEV_B4f_BASE (R448). -/
def DEV_B4f_BASE (f : Nat) : Nat := 0x1000 + f * 0x8
def DEV_B4f_BASE_BASE (f : Nat) : Fld := ⟨DEV_B4f_BASE f, 21, 22, .rw, 0, false⟩
/-- Offset of AIR_TDn_CTRL (R60). -/
def AIR_TDn_CTRL (n : Nat) : Nat := 0x100000 + n * 0x100
def AIR_TDn_CTRL_EN (n : Nat) : Fld := ⟨AIR_TDn_CTRL n, 0, 1, .rw, 0, false⟩
def AIR_TDn_CTRL_SRC (n : Nat) : Fld := ⟨AIR_TDn_CTRL n, 1, 3, .rw, (if n = 6 then 2 else if n = 7 then 3 else 0), false⟩
def AIR_TDn_CTRL_SYNCE (n : Nat) : Fld := ⟨AIR_TDn_CTRL n, 4, 1, .rw, 0, false⟩
def AIR_TDn_CTRL_PTPDOM (n : Nat) : Fld := ⟨AIR_TDn_CTRL n, 8, 8, .rw, 24, false⟩
/-- Offset of AIR_TDn_PORTS (R60). -/
def AIR_TDn_PORTS (n : Nat) : Nat := 0x100004 + n * 0x100
def AIR_TDn_PORTS_MASK (n : Nat) : Fld := ⟨AIR_TDn_PORTS n, 0, 32, .rw, 0, false⟩
/-- Offset of AIR_TDn_COUNT (R60). -/
def AIR_TDn_COUNT (n : Nat) : Nat := 0x100008 + n * 0x100
def AIR_TDn_COUNT_VALUE (n : Nat) : Fld := ⟨AIR_TDn_COUNT n, 0, 64, .ro, 0, false⟩
/-- Offset of AIR_TDn_EPOCH (R60). -/
def AIR_TDn_EPOCH (n : Nat) : Nat := 0x100010 + n * 0x100
def AIR_TDn_EPOCH_EPOCH (n : Nat) : Fld := ⟨AIR_TDn_EPOCH n, 0, 64, .rw, (Config.epochReset n), false⟩
/-- Offset of AIR_TDn_STATE (R60). -/
def AIR_TDn_STATE (n : Nat) : Nat := 0x100018 + n * 0x100
def AIR_TDn_STATE_STATE (n : Nat) : Fld := ⟨AIR_TDn_STATE n, 0, 3, .ro, 0, false⟩
def AIR_TDn_STATE_SLEWING (n : Nat) : Fld := ⟨AIR_TDn_STATE n, 3, 1, .ro, 0, false⟩
def AIR_TDn_STATE_EPOCH_REFUSED (n : Nat) : Fld := ⟨AIR_TDn_STATE n, 4, 1, .w1c, 0, false⟩
def AIR_TDn_STATE_CELLS (n : Nat) : Fld := ⟨AIR_TDn_STATE n, 8, 8, .ro, 0, false⟩
/-- Offset of AIR_TDn_HOLDOVER (R60). -/
def AIR_TDn_HOLDOVER (n : Nat) : Nat := 0x100020 + n * 0x100
def AIR_TDn_HOLDOVER_ACTIVE (n : Nat) : Fld := ⟨AIR_TDn_HOLDOVER n, 0, 1, .ro, 0, false⟩
def AIR_TDn_HOLDOVER_EXCEEDED (n : Nat) : Fld := ⟨AIR_TDn_HOLDOVER n, 1, 1, .w1c, 0, false⟩
def AIR_TDn_HOLDOVER_ENTERED (n : Nat) : Fld := ⟨AIR_TDn_HOLDOVER n, 2, 1, .w1c, 0, false⟩
def AIR_TDn_HOLDOVER_CAUSE (n : Nat) : Fld := ⟨AIR_TDn_HOLDOVER n, 8, 4, .ro, 0, false⟩
def AIR_TDn_HOLDOVER_AGE (n : Nat) : Fld := ⟨AIR_TDn_HOLDOVER n, 32, 32, .ro, 0, false⟩
/-- Offset of AIR_TDn_SERVO (R60). -/
def AIR_TDn_SERVO (n : Nat) : Nat := 0x100028 + n * 0x100
def AIR_TDn_SERVO_KP_SHIFT (n : Nat) : Fld := ⟨AIR_TDn_SERVO n, 0, 5, .rw, 3, false⟩
def AIR_TDn_SERVO_KI_SHIFT (n : Nat) : Fld := ⟨AIR_TDn_SERVO n, 8, 5, .rw, 8, false⟩
def AIR_TDn_SERVO_SLEW_MAX (n : Nat) : Fld := ⟨AIR_TDn_SERVO n, 16, 16, .rw, 50, false⟩
/-- Offset of AIR_TDn_LOCK (R60). -/
def AIR_TDn_LOCK (n : Nat) : Nat := 0x10002C + n * 0x100
def AIR_TDn_LOCK_THR (n : Nat) : Fld := ⟨AIR_TDn_LOCK n, 0, 8, .rw, 64, false⟩
def AIR_TDn_LOCK_CNT (n : Nat) : Fld := ⟨AIR_TDn_LOCK n, 8, 4, .rw, 8, false⟩
def AIR_TDn_LOCK_QUAL (n : Nat) : Fld := ⟨AIR_TDn_LOCK n, 12, 4, .rw, 15, false⟩
def AIR_TDn_LOCK_LOSS_MS (n : Nat) : Fld := ⟨AIR_TDn_LOCK n, 16, 8, .rw, 200, false⟩
def AIR_TDn_LOCK_LIMIT_S (n : Nat) : Fld := ⟨AIR_TDn_LOCK n, 24, 8, .rw, 240, false⟩
/-- Offset of AIR_TDn_RATE (R60). -/
def AIR_TDn_RATE (n : Nat) : Nat := 0x100030 + n * 0x100
def AIR_TDn_RATE_NOW (n : Nat) : Fld := ⟨AIR_TDn_RATE n, 0, 32, .ro, 0, false⟩
def AIR_TDn_RATE_FROZEN (n : Nat) : Fld := ⟨AIR_TDn_RATE n, 32, 32, .ro, 0, false⟩
/-- Offset of AIR_TDn_OFFSET (R60). -/
def AIR_TDn_OFFSET (n : Nat) : Nat := 0x100038 + n * 0x100
def AIR_TDn_OFFSET_OFS (n : Nat) : Fld := ⟨AIR_TDn_OFFSET n, 0, 32, .ro, 0, false⟩
def AIR_TDn_OFFSET_MPD (n : Nat) : Fld := ⟨AIR_TDn_OFFSET n, 32, 32, .ro, 0, false⟩
/-- Offset of AIR_TDn_GM (R60). -/
def AIR_TDn_GM (n : Nat) : Nat := 0x100040 + n * 0x100
def AIR_TDn_GM_CLOCKID (n : Nat) : Fld := ⟨AIR_TDn_GM n, 0, 64, .ro, 0, false⟩
/-- Offset of AIR_TDn_TOD (R60). -/
def AIR_TDn_TOD (n : Nat) : Nat := 0x100048 + n * 0x100
def AIR_TDn_TOD_SECONDS (n : Nat) : Fld := ⟨AIR_TDn_TOD n, 0, 48, .rw, 0, false⟩
/-- Offset of AIR_SNAP (R60). -/
def AIR_SNAP : Nat := 0x100800
def AIR_SNAP_GO : Fld := ⟨AIR_SNAP, 0, 1, .wo, 0, false⟩
/-- Offset of AIR_SNAP_TDn (R60). -/
def AIR_SNAP_TDn (n : Nat) : Nat := 0x100808 + n * 0x8
def AIR_SNAP_TDn_VALUE (n : Nat) : Fld := ⟨AIR_SNAP_TDn n, 0, 64, .ro, 0, false⟩
/-- Offset of AIR_PPS_OUT (R60). -/
def AIR_PPS_OUT : Nat := 0x100880
def AIR_PPS_OUT_EN : Fld := ⟨AIR_PPS_OUT, 0, 1, .rw, 0, false⟩
def AIR_PPS_OUT_TD : Fld := ⟨AIR_PPS_OUT, 1, 3, .rw, 0, false⟩
def AIR_PPS_OUT_OFS : Fld := ⟨AIR_PPS_OUT, 8, 24, .rw, 0, false⟩
/-- Offset of AIR_DEFAULT_TD (R60). -/
def AIR_DEFAULT_TD : Nat := 0x100884
def AIR_DEFAULT_TD_TD : Fld := ⟨AIR_DEFAULT_TD, 0, 3, .rw, 6, false⟩
/-- Offset of AIR_EVT (R60). -/
def AIR_EVT : Nat := 0x100888
def AIR_EVT_HOLD : Fld := ⟨AIR_EVT, 0, 8, .w1c, 0, false⟩
def AIR_EVT_LOCKED : Fld := ⟨AIR_EVT, 8, 8, .w1c, 0, false⟩
def AIR_EVT_EXCEED : Fld := ⟨AIR_EVT, 16, 8, .w1c, 0, false⟩
def AIR_EVT_TSQ_OVF : Fld := ⟨AIR_EVT, 24, 4, .w1c, 0, false⟩
/-- Offset of AIR_EVT_MASK (R60). -/
def AIR_EVT_MASK : Nat := 0x10088C
def AIR_EVT_MASK_MASK : Fld := ⟨AIR_EVT_MASK, 0, 28, .rw, 0, false⟩
/-- Offset of AIR_EVT_VEC (R60). -/
def AIR_EVT_VEC : Nat := 0x100890
def AIR_EVT_VEC_VEC : Fld := ⟨AIR_EVT_VEC, 0, 11, .rw, 0, false⟩
/-- Offset of AIR_FHp_TSQ_ENT0 (R60). -/
def AIR_FHp_TSQ_ENT0 (p : Nat) : Nat := 0x101000 + p * 0x40
def AIR_FHp_TSQ_ENT0_LOW (p : Nat) : Fld := ⟨AIR_FHp_TSQ_ENT0 p, 0, 64, .ro, 0, false⟩
/-- Offset of AIR_FHp_TSQ_ENT1 (R60). -/
def AIR_FHp_TSQ_ENT1 (p : Nat) : Nat := 0x101008 + p * 0x40
def AIR_FHp_TSQ_ENT1_HIGH (p : Nat) : Fld := ⟨AIR_FHp_TSQ_ENT1 p, 0, 64, .ro, 0, false⟩
/-- Offset of AIR_FHp_TSQ_STAT (R60). -/
def AIR_FHp_TSQ_STAT (p : Nat) : Nat := 0x101010 + p * 0x40
def AIR_FHp_TSQ_STAT_COUNT (p : Nat) : Fld := ⟨AIR_FHp_TSQ_STAT p, 0, 6, .ro, 0, false⟩
def AIR_FHp_TSQ_STAT_OVF (p : Nat) : Fld := ⟨AIR_FHp_TSQ_STAT p, 8, 1, .w1c, 0, false⟩
/-- Offset of AIR_FHp_TSQ_LOST (R60). -/
def AIR_FHp_TSQ_LOST (p : Nat) : Nat := 0x101014 + p * 0x40
def AIR_FHp_TSQ_LOST_LOST (p : Nat) : Fld := ⟨AIR_FHp_TSQ_LOST p, 0, 32, .rc, 0, false⟩
/-- Offset of TALLY_Gg_CFG (R61). -/
def TALLY_Gg_CFG (g : Nat) : Nat := 0x1100000 + g * 0x20
def TALLY_Gg_CFG_DOMAIN (g : Nat) : Fld := ⟨TALLY_Gg_CFG g, 0, 3, .rw, 0, false⟩
def TALLY_Gg_CFG_PERIOD (g : Nat) : Fld := ⟨TALLY_Gg_CFG g, 4, 2, .rw, 0, false⟩
def TALLY_Gg_CFG_PEND (g : Nat) : Fld := ⟨TALLY_Gg_CFG g, 8, 1, .ro, 0, false⟩
def TALLY_Gg_CFG_CELL (g : Nat) : Fld := ⟨TALLY_Gg_CFG g, 9, 1, .ro, (if g < 128 then 0 else 1), false⟩
/-- Offset of TALLY_Gg_AT (R61). -/
def TALLY_Gg_AT (g : Nat) : Nat := 0x1100008 + g * 0x20
def TALLY_Gg_AT_AT (g : Nat) : Fld := ⟨TALLY_Gg_AT g, 0, 64, .rl, 0, false⟩
/-- Offset of TALLY_Gg_SEQ (R61). -/
def TALLY_Gg_SEQ (g : Nat) : Nat := 0x1100010 + g * 0x20
def TALLY_Gg_SEQ_SEQ (g : Nat) : Fld := ⟨TALLY_Gg_SEQ g, 0, 32, .rl, 0, false⟩
/-- Offset of TALLY_Gg_SAT (R61). -/
def TALLY_Gg_SAT (g : Nat) : Nat := 0x1100014 + g * 0x20
def TALLY_Gg_SAT_SAT (g : Nat) : Fld := ⟨TALLY_Gg_SAT g, 0, 1, .rl, 0, false⟩
/-- Offset of ESC_CTRL (R83). -/
def ESC_CTRL : Nat := 0x200000
def ESC_CTRL_RELEASE_US : Fld := ⟨ESC_CTRL, 0, 8, .rw, 50, false⟩
def ESC_CTRL_RETURN_MIN_US : Fld := ⟨ESC_CTRL, 8, 8, .rw, 10, false⟩
def ESC_CTRL_GUARD_NS : Fld := ⟨ESC_CTRL, 16, 12, .ro, 2500, false⟩
/-- Offset of ESC_CEILING (R83). -/
def ESC_CEILING : Nat := 0x200008
def ESC_CEILING_MC : Fld := ⟨ESC_CEILING, 0, 7, .rw, 90, false⟩
def ESC_CEILING_SC : Fld := ⟨ESC_CEILING, 8, 7, .rw, 90, false⟩
def ESC_CEILING_COD : Fld := ⟨ESC_CEILING, 16, 7, .rw, 90, false⟩
def ESC_CEILING_T1 : Fld := ⟨ESC_CEILING, 24, 7, .rw, 90, false⟩
def ESC_CEILING_FH : Fld := ⟨ESC_CEILING, 32, 7, .rw, 90, false⟩
/-- Offset of ESC_DUTY (R83). -/
def ESC_DUTY : Nat := 0x200010
def ESC_DUTY_DUTY : Fld := ⟨ESC_DUTY, 0, 7, .ro, 50, false⟩
/-- Offset of ESC_STAT (R83). -/
def ESC_STAT : Nat := 0x200014
def ESC_STAT_DUTY_REFUSED : Fld := ⟨ESC_STAT, 0, 1, .w1c, 0, false⟩
def ESC_STAT_CEIL_REFUSED : Fld := ⟨ESC_STAT, 1, 1, .w1c, 0, false⟩
def ESC_STAT_OVERCOMMIT : Fld := ⟨ESC_STAT, 2, 1, .ro, 0, false⟩
def ESC_STAT_AT_RISK : Fld := ⟨ESC_STAT, 3, 1, .ro, 0, false⟩
def ESC_STAT_CAP_CHANGED : Fld := ⟨ESC_STAT, 4, 1, .w1c, 0, false⟩
def ESC_STAT_SHORT : Fld := ⟨ESC_STAT, 5, 1, .w1c, 0, false⟩
/-- Offset of ESC_EVT_MASK (R83). -/
def ESC_EVT_MASK : Nat := 0x200018
def ESC_EVT_MASK_MASK : Fld := ⟨ESC_EVT_MASK, 0, 6, .rw, 0, false⟩
/-- Offset of ESC_EVT_VEC (R83). -/
def ESC_EVT_VEC : Nat := 0x20001C
def ESC_EVT_VEC_VEC : Fld := ⟨ESC_EVT_VEC, 0, 11, .rw, 0, false⟩
/-- Offset of ESC_CELLS (R83). -/
def ESC_CELLS : Nat := 0x200020
def ESC_CELLS_COUNT : Fld := ⟨ESC_CELLS, 0, 10, .ro, 0, false⟩
/-- Offset of ESC_CAP_MC (R83). -/
def ESC_CAP_MC : Nat := 0x200040
def ESC_CAP_MC_CAP : Fld := ⟨ESC_CAP_MC, 0, 64, .ro, Config.capReset 0, false⟩
/-- Offset of ESC_CAP_SC (R83). -/
def ESC_CAP_SC : Nat := 0x200048
def ESC_CAP_SC_CAP : Fld := ⟨ESC_CAP_SC, 0, 64, .ro, Config.capReset 1, false⟩
/-- Offset of ESC_CAP_COD (R83). -/
def ESC_CAP_COD : Nat := 0x200050
def ESC_CAP_COD_CAP : Fld := ⟨ESC_CAP_COD, 0, 64, .ro, Config.capReset 2, false⟩
/-- Offset of ESC_CAP_T1 (R83). -/
def ESC_CAP_T1 : Nat := 0x200058
def ESC_CAP_T1_CAP : Fld := ⟨ESC_CAP_T1, 0, 64, .ro, Config.capReset 3, false⟩
/-- Offset of ESC_USED_MC (R83). -/
def ESC_USED_MC : Nat := 0x200080
def ESC_USED_MC_USED : Fld := ⟨ESC_USED_MC, 0, 64, .ro, 0, false⟩
/-- Offset of ESC_USED_SC (R83). -/
def ESC_USED_SC : Nat := 0x200088
def ESC_USED_SC_USED : Fld := ⟨ESC_USED_SC, 0, 64, .ro, 0, false⟩
/-- Offset of ESC_USED_COD (R83). -/
def ESC_USED_COD : Nat := 0x200090
def ESC_USED_COD_USED : Fld := ⟨ESC_USED_COD, 0, 64, .ro, 0, false⟩
/-- Offset of ESC_USED_T1 (R83). -/
def ESC_USED_T1 : Nat := 0x200098
def ESC_USED_T1_USED : Fld := ⟨ESC_USED_T1, 0, 64, .ro, 0, false⟩
/-- Offset of ESC_FHk (R83). -/
def ESC_FHk (k : Nat) : Nat := 0x200100 + k * 0x8
def ESC_FHk_USED_IN (k : Nat) : Fld := ⟨ESC_FHk k, 0, 32, .ro, 0, false⟩
def ESC_FHk_USED_OUT (k : Nat) : Fld := ⟨ESC_FHk k, 32, 32, .ro, 0, false⟩
/-- Offset of ESC_T_PREEMPT (R83). -/
def ESC_T_PREEMPT : Nat := 0x200200
def ESC_T_PREEMPT_COUNT : Fld := ⟨ESC_T_PREEMPT, 0, 32, .rl, 0, false⟩
/-- Offset of ESC_T_RELEASE (R83). -/
def ESC_T_RELEASE : Nat := 0x200204
def ESC_T_RELEASE_COUNT : Fld := ⟨ESC_T_RELEASE, 0, 32, .rl, 0, false⟩
/-- Offset of ESC_T_RETURN (R83). -/
def ESC_T_RETURN : Nat := 0x200208
def ESC_T_RETURN_COUNT : Fld := ⟨ESC_T_RETURN, 0, 32, .rl, 0, false⟩
/-- Offset of ESC_T_LATEJOB (R83). -/
def ESC_T_LATEJOB : Nat := 0x20020C
def ESC_T_LATEJOB_COUNT : Fld := ⟨ESC_T_LATEJOB, 0, 32, .rl, 0, false⟩
/-- Offset of ESC_CELLc_INFO (R83). -/
def ESC_CELLc_INFO (c : Nat) : Nat := 0x208000 + c * 0x20
def ESC_CELLc_INFO_ADMITTED (c : Nat) : Fld := ⟨ESC_CELLc_INFO c, 0, 1, .ro, 0, false⟩
def ESC_CELLc_INFO_TD (c : Nat) : Fld := ⟨ESC_CELLc_INFO c, 1, 3, .ro, 0, false⟩
def ESC_CELLc_INFO_MU (c : Nat) : Fld := ⟨ESC_CELLc_INFO c, 4, 3, .ro, 0, false⟩
def ESC_CELLc_INFO_PORT (c : Nat) : Fld := ⟨ESC_CELLc_INFO c, 7, 5, .ro, 0, false⟩
def ESC_CELLc_INFO_DRAINING (c : Nat) : Fld := ⟨ESC_CELLc_INFO c, 12, 1, .ro, 0, false⟩
/-- Offset of ESC_CELLc_NEURAL (R83). -/
def ESC_CELLc_NEURAL (c : Nat) : Nat := 0x208004 + c * 0x20
def ESC_CELLc_NEURAL_COUNT (c : Nat) : Fld := ⟨ESC_CELLc_NEURAL c, 0, 32, .rl, 0, false⟩
/-- Offset of ESC_CELLc_FALLBACK (R83). -/
def ESC_CELLc_FALLBACK (c : Nat) : Nat := 0x208008 + c * 0x20
def ESC_CELLc_FALLBACK_COUNT (c : Nat) : Fld := ⟨ESC_CELLc_FALLBACK c, 0, 32, .rl, 0, false⟩
/-- Offset of ESC_CELLc_LATEJOB (R83). -/
def ESC_CELLc_LATEJOB (c : Nat) : Nat := 0x20800C + c * 0x20
def ESC_CELLc_LATEJOB_COUNT (c : Nat) : Fld := ⟨ESC_CELLc_LATEJOB c, 0, 32, .rl, 0, false⟩
/-- Offset of ESC_CELLc_LATEDLV (R83). -/
def ESC_CELLc_LATEDLV (c : Nat) : Nat := 0x208010 + c * 0x20
def ESC_CELLc_LATEDLV_COUNT (c : Nat) : Fld := ⟨ESC_CELLc_LATEDLV c, 0, 32, .rl, 0, false⟩
/-- Offset of CMD_CTRL (R107). -/
def CMD_CTRL : Nat := 0x300000
def CMD_CTRL_EN : Fld := ⟨CMD_CTRL, 0, 1, .rw, 0, false⟩
def CMD_CTRL_PCRC_REQ : Fld := ⟨CMD_CTRL, 1, 1, .rw, 0, false⟩
/-- Offset of CMD_STAT (R107). -/
def CMD_STAT : Nat := 0x300004
def CMD_STAT_SWEEP_REFUSED : Fld := ⟨CMD_STAT, 0, 1, .w1c, 0, false⟩
/-- Offset of CMD_LOAD (R107). -/
def CMD_LOAD : Nat := 0x300008
def CMD_LOAD_DEMAND : Fld := ⟨CMD_LOAD, 0, 13, .ro, 0, false⟩
/-- Offset of CMD_TIMED (R107). -/
def CMD_TIMED : Nat := 0x30000C
def CMD_TIMED_PENDING : Fld := ⟨CMD_TIMED, 0, 13, .ro, 0, false⟩
/-- Offset of CMD_PWw_CTRL (R107). -/
def CMD_PWw_CTRL (w : Nat) : Nat := 0x301000 + w * 0x40
def CMD_PWw_CTRL_EN (w : Nat) : Fld := ⟨CMD_PWw_CTRL w, 0, 1, .rw, 0, false⟩
def CMD_PWw_CTRL_SWEEP (w : Nat) : Fld := ⟨CMD_PWw_CTRL w, 8, 8, .rw, 8, false⟩
def CMD_PWw_CTRL_ERR_IRQ (w : Nat) : Fld := ⟨CMD_PWw_CTRL w, 16, 1, .rw, 0, false⟩
def CMD_PWw_CTRL_IRQ_EN (w : Nat) : Fld := ⟨CMD_PWw_CTRL w, 17, 1, .rw, 0, false⟩
/-- Offset of CMD_PWw_RR_BASE (R107). -/
def CMD_PWw_RR_BASE (w : Nat) : Nat := 0x301008 + w * 0x40
def CMD_PWw_RR_BASE_ADDR (w : Nat) : Fld := ⟨CMD_PWw_RR_BASE w, 12, 52, .rw, 0, false⟩
/-- Offset of CMD_PWw_RR_CFG (R107). -/
def CMD_PWw_RR_CFG (w : Nat) : Nat := 0x301010 + w * 0x40
def CMD_PWw_RR_CFG_SIZE (w : Nat) : Fld := ⟨CMD_PWw_RR_CFG w, 0, 4, .rw, 0, false⟩
def CMD_PWw_RR_CFG_VEC (w : Nat) : Fld := ⟨CMD_PWw_RR_CFG w, 4, 11, .rw, 0, false⟩
/-- Offset of CMD_PWw_RR_HEAD (R107). -/
def CMD_PWw_RR_HEAD (w : Nat) : Nat := 0x301014 + w * 0x40
def CMD_PWw_RR_HEAD_HEAD (w : Nat) : Fld := ⟨CMD_PWw_RR_HEAD w, 0, 17, .rw, 0, false⟩
/-- Offset of CMD_PWw_RR_TAIL (R107). -/
def CMD_PWw_RR_TAIL (w : Nat) : Nat := 0x301018 + w * 0x40
def CMD_PWw_RR_TAIL_TAIL (w : Nat) : Fld := ⟨CMD_PWw_RR_TAIL w, 0, 17, .ro, 0, false⟩
/-- Offset of CMD_PWw_STAT (R107). -/
def CMD_PWw_STAT (w : Nat) : Nat := 0x30101C + w * 0x40
def CMD_PWw_STAT_SEAL_ERR (w : Nat) : Fld := ⟨CMD_PWw_STAT w, 0, 1, .w1c, 0, false⟩
def CMD_PWw_STAT_RR_FULL (w : Nat) : Fld := ⟨CMD_PWw_STAT w, 1, 1, .w1c, 0, false⟩
def CMD_PWw_STAT_BUSY (w : Nat) : Fld := ⟨CMD_PWw_STAT w, 2, 1, .ro, 0, false⟩
def CMD_PWw_STAT_STALLED (w : Nat) : Fld := ⟨CMD_PWw_STAT w, 3, 1, .ro, 0, false⟩
def CMD_PWw_STAT_HEAD_ERR (w : Nat) : Fld := ⟨CMD_PWw_STAT w, 4, 1, .w1c, 0, false⟩
def CMD_PWw_STAT_ERR_SLOT (w : Nat) : Fld := ⟨CMD_PWw_STAT w, 8, 4, .ro, 0, false⟩
/-- Offset of CMD_PWw_LASTSEQ (R107). -/
def CMD_PWw_LASTSEQ (w : Nat) : Nat := 0x301020 + w * 0x40
def CMD_PWw_LASTSEQ_SEQ (w : Nat) : Fld := ⟨CMD_PWw_LASTSEQ w, 0, 32, .ro, 0, false⟩
/-- Offset of CMD_PWw_ACCEPT (R107). -/
def CMD_PWw_ACCEPT (w : Nat) : Nat := 0x301024 + w * 0x40
def CMD_PWw_ACCEPT_COUNT (w : Nat) : Fld := ⟨CMD_PWw_ACCEPT w, 0, 32, .rl, 0, false⟩
/-- Offset of CMD_PWw_REJECT (R107). -/
def CMD_PWw_REJECT (w : Nat) : Nat := 0x301028 + w * 0x40
def CMD_PWw_REJECT_COUNT (w : Nat) : Fld := ⟨CMD_PWw_REJECT w, 0, 32, .rl, 0, false⟩
/-- Offset of CMD_PWw_DEFER (R107). -/
def CMD_PWw_DEFER (w : Nat) : Nat := 0x30102C + w * 0x40
def CMD_PWw_DEFER_COUNT (w : Nat) : Fld := ⟨CMD_PWw_DEFER w, 0, 32, .rl, 0, false⟩
/-- Offset of FH_PORT_CFG (R134). -/
def FH_PORT_CFG (p : Nat) : Nat := 0x400000 + p * 0x40000
def FH_PORT_CFG_MODE (p : Nat) : Fld := ⟨FH_PORT_CFG p, 0, 2, .rw, 0, false⟩
/-- Offset of FH_PORT_STAT (R134). -/
def FH_PORT_STAT (p : Nat) : Nat := 0x400004 + p * 0x40000
def FH_PORT_STAT_LINK (p : Nat) : Fld := ⟨FH_PORT_STAT p, 0, 8, .ro, 0, false⟩
def FH_PORT_STAT_SPARE_IN (p : Nat) : Fld := ⟨FH_PORT_STAT p, 8, 1, .ro, 0, true⟩
def FH_PORT_STAT_LANE_OUT (p : Nat) : Fld := ⟨FH_PORT_STAT p, 9, 3, .ro, 0, true⟩
/-- Offset of FH_STAT (R134). -/
def FH_STAT (p : Nat) : Nat := 0x400008 + p * 0x40000
def FH_STAT_MODE_REFUSED (p : Nat) : Fld := ⟨FH_STAT p, 0, 1, .w1c, 0, false⟩
def FH_STAT_WP_REFUSED (p : Nat) : Fld := ⟨FH_STAT p, 1, 1, .w1c, 0, false⟩
def FH_STAT_SHAPE_REFUSED (p : Nat) : Fld := ⟨FH_STAT p, 2, 1, .w1c, 0, false⟩
def FH_STAT_POL_REFUSED (p : Nat) : Fld := ⟨FH_STAT p, 3, 1, .w1c, 0, false⟩
def FH_STAT_TX_MISS (p : Nat) : Fld := ⟨FH_STAT p, 4, 1, .w1c, 0, false⟩
/-- Offset of FH_EVT_MASK (R134). -/
def FH_EVT_MASK (p : Nat) : Nat := 0x40000C + p * 0x40000
def FH_EVT_MASK_MASK (p : Nat) : Fld := ⟨FH_EVT_MASK p, 0, 5, .rw, 0, false⟩
/-- Offset of FH_EVT_VEC (R134). -/
def FH_EVT_VEC (p : Nat) : Nat := 0x400010 + p * 0x40000
def FH_EVT_VEC_VEC (p : Nat) : Fld := ⟨FH_EVT_VEC p, 0, 11, .rw, 0, false⟩
/-- Offset of FH_WPk_CFG (R134). -/
def FH_WPk_CFG (p k : Nat) : Nat := 0x400100 + p * 0x40000 + k * 0x20
def FH_WPk_CFG_EARLY_ACC (p k : Nat) : Fld := ⟨FH_WPk_CFG p k, 0, 1, .rw, 1, false⟩
/-- Offset of FH_WPk_T1A_MAX_UP (R134). -/
def FH_WPk_T1A_MAX_UP (p k : Nat) : Nat := 0x400104 + p * 0x40000 + k * 0x20
def FH_WPk_T1A_MAX_UP_T1A_x (p k : Nat) : Fld := ⟨FH_WPk_T1A_MAX_UP p k, 0, 24, .rw, 0, false⟩
/-- Offset of FH_WPk_T1A_MIN_UP (R134). -/
def FH_WPk_T1A_MIN_UP (p k : Nat) : Nat := 0x400108 + p * 0x40000 + k * 0x20
def FH_WPk_T1A_MIN_UP_T1A_x (p k : Nat) : Fld := ⟨FH_WPk_T1A_MIN_UP p k, 0, 24, .rw, 0, false⟩
/-- Offset of FH_WPk_T1A_MAX_CP_DL (R134). -/
def FH_WPk_T1A_MAX_CP_DL (p k : Nat) : Nat := 0x40010C + p * 0x40000 + k * 0x20
def FH_WPk_T1A_MAX_CP_DL_T1A_x (p k : Nat) : Fld := ⟨FH_WPk_T1A_MAX_CP_DL p k, 0, 24, .rw, 0, false⟩
/-- Offset of FH_WPk_T1A_MIN_CP_DL (R134). -/
def FH_WPk_T1A_MIN_CP_DL (p k : Nat) : Nat := 0x400110 + p * 0x40000 + k * 0x20
def FH_WPk_T1A_MIN_CP_DL_T1A_x (p k : Nat) : Fld := ⟨FH_WPk_T1A_MIN_CP_DL p k, 0, 24, .rw, 0, false⟩
/-- Offset of FH_WPk_T1A_MAX_CP_UL (R134). -/
def FH_WPk_T1A_MAX_CP_UL (p k : Nat) : Nat := 0x400114 + p * 0x40000 + k * 0x20
def FH_WPk_T1A_MAX_CP_UL_T1A_x (p k : Nat) : Fld := ⟨FH_WPk_T1A_MAX_CP_UL p k, 0, 24, .rw, 0, false⟩
/-- Offset of FH_WPk_T1A_MIN_CP_UL (R134). -/
def FH_WPk_T1A_MIN_CP_UL (p k : Nat) : Nat := 0x400118 + p * 0x40000 + k * 0x20
def FH_WPk_T1A_MIN_CP_UL_T1A_x (p k : Nat) : Fld := ⟨FH_WPk_T1A_MIN_CP_UL p k, 0, 24, .rw, 0, false⟩
/-- Offset of FH_WPk_TA4 (R134). -/
def FH_WPk_TA4 (p k : Nat) : Nat := 0x40011C + p * 0x40000 + k * 0x20
def FH_WPk_TA4_TA4_MIN (p k : Nat) : Fld := ⟨FH_WPk_TA4 p k, 0, 16, .rw, 0, false⟩
def FH_WPk_TA4_TA4_MAX (p k : Nat) : Fld := ⟨FH_WPk_TA4 p k, 16, 16, .rw, 0, false⟩
/-- Offset of FH_Qq_CFG (R134). -/
def FH_Qq_CFG (p q : Nat) : Nat := 0x401000 + p * 0x40000 + q * 0x10
def FH_Qq_CFG_PRIO (p q : Nat) : Fld := ⟨FH_Qq_CFG p q, 0, 3, .rw, 0, false⟩
def FH_Qq_CFG_QUANTUM (p q : Nat) : Fld := ⟨FH_Qq_CFG p q, 8, 16, .rw, 152, false⟩
/-- Offset of FH_Qq_SHAPE (R134). -/
def FH_Qq_SHAPE (p q : Nat) : Nat := 0x401008 + p * 0x40000 + q * 0x10
def FH_Qq_SHAPE_RATE (p q : Nat) : Fld := ⟨FH_Qq_SHAPE p q, 0, 20, .rw, 0, false⟩
def FH_Qq_SHAPE_BURST (p q : Nat) : Fld := ⟨FH_Qq_SHAPE p q, 32, 16, .rw, 152, false⟩
/-- Offset of FH_Ss_CFG (R134). -/
def FH_Ss_CFG (p s : Nat) : Nat := 0x402000 + p * 0x40000 + s * 0x40
def FH_Ss_CFG_VLAN (p s : Nat) : Fld := ⟨FH_Ss_CFG p s, 0, 1, .rw, 0, false⟩
def FH_Ss_CFG_VID (p s : Nat) : Fld := ⟨FH_Ss_CFG p s, 1, 12, .rw, 0, false⟩
def FH_Ss_CFG_PCP (p s : Nat) : Fld := ⟨FH_Ss_CFG p s, 13, 3, .rw, 7, false⟩
def FH_Ss_CFG_ACC_FCS (p s : Nat) : Fld := ⟨FH_Ss_CFG p s, 16, 1, .rw, 0, false⟩
/-- Offset of FH_Ss_MAC (R134). -/
def FH_Ss_MAC (p s : Nat) : Nat := 0x402008 + p * 0x40000 + s * 0x40
def FH_Ss_MAC_ADDR (p s : Nat) : Fld := ⟨FH_Ss_MAC p s, 0, 48, .rw, (Config.fusedMac p s), false⟩
/-- Offset of FH_Ss_RX_ONTIME (R134). -/
def FH_Ss_RX_ONTIME (p s : Nat) : Nat := 0x402010 + p * 0x40000 + s * 0x40
def FH_Ss_RX_ONTIME_COUNT (p s : Nat) : Fld := ⟨FH_Ss_RX_ONTIME p s, 0, 32, .rl, 0, false⟩
/-- Offset of FH_Ss_RX_EARLY (R134). -/
def FH_Ss_RX_EARLY (p s : Nat) : Nat := 0x402014 + p * 0x40000 + s * 0x40
def FH_Ss_RX_EARLY_COUNT (p s : Nat) : Fld := ⟨FH_Ss_RX_EARLY p s, 0, 32, .rl, 0, false⟩
/-- Offset of FH_Ss_RX_LATE (R134). -/
def FH_Ss_RX_LATE (p s : Nat) : Nat := 0x402018 + p * 0x40000 + s * 0x40
def FH_Ss_RX_LATE_COUNT (p s : Nat) : Fld := ⟨FH_Ss_RX_LATE p s, 0, 32, .rl, 0, false⟩
/-- Offset of FH_Ss_RX_RED (R134). -/
def FH_Ss_RX_RED (p s : Nat) : Nat := 0x40201C + p * 0x40000 + s * 0x40
def FH_Ss_RX_RED_COUNT (p s : Nat) : Fld := ⟨FH_Ss_RX_RED p s, 0, 32, .rl, 0, false⟩
/-- Offset of FH_Ss_RX_YELLOW (R134). -/
def FH_Ss_RX_YELLOW (p s : Nat) : Nat := 0x402020 + p * 0x40000 + s * 0x40
def FH_Ss_RX_YELLOW_COUNT (p s : Nat) : Fld := ⟨FH_Ss_RX_YELLOW p s, 0, 32, .rl, 0, false⟩
/-- Offset of FH_Ss_RX_NOFLOW (R134). -/
def FH_Ss_RX_NOFLOW (p s : Nat) : Nat := 0x402024 + p * 0x40000 + s * 0x40
def FH_Ss_RX_NOFLOW_COUNT (p s : Nat) : Fld := ⟨FH_Ss_RX_NOFLOW p s, 0, 32, .rl, 0, false⟩
/-- Offset of FH_Ss_RX_BAD (R134). -/
def FH_Ss_RX_BAD (p s : Nat) : Nat := 0x402028 + p * 0x40000 + s * 0x40
def FH_Ss_RX_BAD_COUNT (p s : Nat) : Fld := ⟨FH_Ss_RX_BAD p s, 0, 32, .rl, 0, false⟩
/-- Offset of FH_Ss_TX_MSG (R134). -/
def FH_Ss_TX_MSG (p s : Nat) : Nat := 0x40202C + p * 0x40000 + s * 0x40
def FH_Ss_TX_MSG_COUNT (p s : Nat) : Fld := ⟨FH_Ss_TX_MSG p s, 0, 32, .rl, 0, false⟩
/-- Offset of FH_Ss_TX_MISS (R134). -/
def FH_Ss_TX_MISS (p s : Nat) : Nat := 0x402030 + p * 0x40000 + s * 0x40
def FH_Ss_TX_MISS_COUNT (p s : Nat) : Fld := ⟨FH_Ss_TX_MISS p s, 0, 32, .rl, 0, false⟩
/-- Offset of FH_DIQa_CFG (R134). -/
def FH_DIQa_CFG (p a : Nat) : Nat := 0x404000 + p * 0x40000 + a * 0x20
def FH_DIQa_CFG_EN (p a : Nat) : Fld := ⟨FH_DIQa_CFG p a, 0, 1, .rw, 0, false⟩
def FH_DIQa_CFG_FS (p a : Nat) : Fld := ⟨FH_DIQa_CFG p a, 1, 2, .rw, 2, false⟩
def FH_DIQa_CFG_SPM (p a : Nat) : Fld := ⟨FH_DIQa_CFG p a, 3, 2, .rw, 2, false⟩
def FH_DIQa_CFG_RATE2 (p a : Nat) : Fld := ⟨FH_DIQa_CFG p a, 5, 1, .rw, 0, false⟩
def FH_DIQa_CFG_TAPS (p a : Nat) : Fld := ⟨FH_DIQa_CFG p a, 6, 7, .rw, 1, false⟩
def FH_DIQa_CFG_BANK (p a : Nat) : Fld := ⟨FH_DIQa_CFG p a, 13, 1, .rw, 0, false⟩
def FH_DIQa_CFG_FAW_TOL (p a : Nat) : Fld := ⟨FH_DIQa_CFG p a, 14, 4, .rw, 2, false⟩
def FH_DIQa_CFG_FAW_CONFIRM (p a : Nat) : Fld := ⟨FH_DIQa_CFG p a, 18, 4, .rw, 3, false⟩
def FH_DIQa_CFG_FAW_LOSS (p a : Nat) : Fld := ⟨FH_DIQa_CFG p a, 22, 4, .rw, 4, false⟩
/-- Offset of FH_DIQa_AGC (R134). -/
def FH_DIQa_AGC (p a : Nat) : Nat := 0x404004 + p * 0x40000 + a * 0x20
def FH_DIQa_AGC_TARGET (p a : Nat) : Fld := ⟨FH_DIQa_AGC p a, 0, 8, .rw, 240, false⟩
def FH_DIQa_AGC_STEP (p a : Nat) : Fld := ⟨FH_DIQa_AGC p a, 8, 4, .rw, 6, false⟩
def FH_DIQa_AGC_DET (p a : Nat) : Fld := ⟨FH_DIQa_AGC p a, 12, 6, .rw, 20, false⟩
def FH_DIQa_AGC_HOLD (p a : Nat) : Fld := ⟨FH_DIQa_AGC p a, 18, 6, .rw, 1, false⟩
/-- Offset of FH_DIQa_FAW (R134). -/
def FH_DIQa_FAW (p a : Nat) : Nat := 0x404008 + p * 0x40000 + a * 0x20
def FH_DIQa_FAW_WORD (p a : Nat) : Fld := ⟨FH_DIQa_FAW p a, 0, 64, .rw, 0xD5A361C70E9B4F28, false⟩
/-- Offset of FH_DIQa_STAT (R134). -/
def FH_DIQa_STAT (p a : Nat) : Nat := 0x404010 + p * 0x40000 + a * 0x20
def FH_DIQa_STAT_ALIGN (p a : Nat) : Fld := ⟨FH_DIQa_STAT p a, 0, 2, .ro, 0, false⟩
def FH_DIQa_STAT_FROZEN (p a : Nat) : Fld := ⟨FH_DIQa_STAT p a, 2, 1, .ro, 0, false⟩
def FH_DIQa_STAT_GAIN (p a : Nat) : Fld := ⟨FH_DIQa_STAT p a, 16, 16, .ro, 4096, false⟩
/-- Offset of FH_DIQa_MISS (R134). -/
def FH_DIQa_MISS (p a : Nat) : Nat := 0x404014 + p * 0x40000 + a * 0x20
def FH_DIQa_MISS_MISS (p a : Nat) : Fld := ⟨FH_DIQa_MISS p a, 0, 16, .rl, 0, false⟩
def FH_DIQa_MISS_STRAY (p a : Nat) : Fld := ⟨FH_DIQa_MISS p a, 16, 8, .rl, 0, false⟩
def FH_DIQa_MISS_FCSERR (p a : Nat) : Fld := ⟨FH_DIQa_MISS p a, 24, 8, .rl, 0, false⟩
/-- Offset of FH_DIQa_RSSI (R134). -/
def FH_DIQa_RSSI (p a : Nat) : Nat := 0x404018 + p * 0x40000 + a * 0x20
def FH_DIQa_RSSI_FAW (p a : Nat) : Fld := ⟨FH_DIQa_RSSI p a, 0, 16, .ro, 0, false⟩
def FH_DIQa_RSSI_FAW_SEQ (p a : Nat) : Fld := ⟨FH_DIQa_RSSI p a, 16, 16, .ro, 0, false⟩
def FH_DIQa_RSSI_PRACH (p a : Nat) : Fld := ⟨FH_DIQa_RSSI p a, 32, 16, .ro, 0, false⟩
def FH_DIQa_RSSI_PRACH_SEQ (p a : Nat) : Fld := ⟨FH_DIQa_RSSI p a, 48, 16, .ro, 0, false⟩
/-- Offset of FH_Ff_MAP (R134). -/
def FH_Ff_MAP (p f : Nat) : Nat := 0x408000 + p * 0x40000 + f * 0x20
def FH_Ff_MAP_VALID (p f : Nat) : Fld := ⟨FH_Ff_MAP p f, 0, 1, .ro, 0, false⟩
def FH_Ff_MAP_SUBPORT (p f : Nat) : Fld := ⟨FH_Ff_MAP p f, 1, 3, .ro, 0, false⟩
def FH_Ff_MAP_KIND (p f : Nat) : Fld := ⟨FH_Ff_MAP p f, 4, 2, .ro, 0, false⟩
def FH_Ff_MAP_DIR (p f : Nat) : Fld := ⟨FH_Ff_MAP p f, 6, 1, .ro, 0, false⟩
def FH_Ff_MAP_WP (p f : Nat) : Fld := ⟨FH_Ff_MAP p f, 7, 4, .ro, 0, false⟩
def FH_Ff_MAP_QUEUE (p f : Nat) : Fld := ⟨FH_Ff_MAP p f, 11, 4, .ro, 0, false⟩
def FH_Ff_MAP_W (p f : Nat) : Fld := ⟨FH_Ff_MAP p f, 15, 5, .ro, 0, false⟩
def FH_Ff_MAP_STREAM (p f : Nat) : Fld := ⟨FH_Ff_MAP p f, 20, 12, .ro, 0, false⟩
def FH_Ff_MAP_EAXC (p f : Nat) : Fld := ⟨FH_Ff_MAP p f, 32, 16, .ro, 0, false⟩
def FH_Ff_MAP_CELL (p f : Nat) : Fld := ⟨FH_Ff_MAP p f, 48, 9, .ro, 0, false⟩
/-- Offset of FH_Ff_RATE (R134). -/
def FH_Ff_RATE (p f : Nat) : Nat := 0x408008 + p * 0x40000 + f * 0x20
def FH_Ff_RATE_CIR (p f : Nat) : Fld := ⟨FH_Ff_RATE p f, 0, 32, .rw, 0, false⟩
def FH_Ff_RATE_PIR (p f : Nat) : Fld := ⟨FH_Ff_RATE p f, 32, 32, .rw, 0, false⟩
/-- Offset of FH_Ff_BURST (R134). -/
def FH_Ff_BURST (p f : Nat) : Nat := 0x408010 + p * 0x40000 + f * 0x20
def FH_Ff_BURST_CBS (p f : Nat) : Fld := ⟨FH_Ff_BURST p f, 0, 32, .rw, 0, false⟩
def FH_Ff_BURST_PBS (p f : Nat) : Fld := ⟨FH_Ff_BURST p f, 32, 32, .rw, 0, false⟩
/-- Offset of FH_Ff_LATE (R134). -/
def FH_Ff_LATE (p f : Nat) : Nat := 0x408018 + p * 0x40000 + f * 0x20
def FH_Ff_LATE_COUNT (p f : Nat) : Fld := ⟨FH_Ff_LATE p f, 0, 32, .rl, 0, false⟩
/-- Offset of FH_Ff_YELLOW (R134). -/
def FH_Ff_YELLOW (p f : Nat) : Nat := 0x40801C + p * 0x40000 + f * 0x20
def FH_Ff_YELLOW_COUNT (p f : Nat) : Fld := ⟨FH_Ff_YELLOW p f, 0, 32, .rl, 0, false⟩
/-- Offset of SIG_STAT (R154). -/
def SIG_STAT : Nat := 0x500000
def SIG_STAT_ACTIVE : Fld := ⟨SIG_STAT, 0, 7, .ro, 64, false⟩
def SIG_STAT_SPARES : Fld := ⟨SIG_STAT, 8, 4, .ro, 8, true⟩
def SIG_STAT_FAULT : Fld := ⟨SIG_STAT, 16, 1, .w1c, 0, false⟩
def SIG_STAT_RETIRED : Fld := ⟨SIG_STAT, 17, 1, .w1c, 0, false⟩
/-- Offset of SIG_EVT_MASK (R154). -/
def SIG_EVT_MASK : Nat := 0x500004
def SIG_EVT_MASK_MASK : Fld := ⟨SIG_EVT_MASK, 16, 2, .rw, 0, false⟩
/-- Offset of SIG_EVT_VEC (R154). -/
def SIG_EVT_VEC : Nat := 0x500008
def SIG_EVT_VEC_VEC : Fld := ⟨SIG_EVT_VEC, 0, 11, .rw, 0, false⟩
/-- Offset of SIG_KVER (R154). -/
def SIG_KVER : Nat := 0x50000C
def SIG_KVER_VERSION : Fld := ⟨SIG_KVER, 0, 32, .ro, 0, false⟩
/-- Offset of SIG_Cn_INFO (R154). -/
def SIG_Cn_INFO (n : Nat) : Nat := 0x501000 + n * 0x40
def SIG_Cn_INFO_PHYS (n : Nat) : Fld := ⟨SIG_Cn_INFO n, 0, 7, .ro, (n / 8 * 9 + n % 8), true⟩
def SIG_Cn_INFO_DIE (n : Nat) : Fld := ⟨SIG_Cn_INFO n, 7, 3, .ro, (n / 8), true⟩
def SIG_Cn_INFO_STATE (n : Nat) : Fld := ⟨SIG_Cn_INFO n, 10, 2, .ro, 0, false⟩
def SIG_Cn_INFO_KERNEL (n : Nat) : Fld := ⟨SIG_Cn_INFO n, 16, 8, .ro, 0, false⟩
/-- Offset of SIG_Cn_FAULT (R154). -/
def SIG_Cn_FAULT (n : Nat) : Nat := 0x501004 + n * 0x40
def SIG_Cn_FAULT_CAUSE (n : Nat) : Fld := ⟨SIG_Cn_FAULT n, 0, 3, .ro, 0, false⟩
def SIG_Cn_FAULT_VALID (n : Nat) : Fld := ⟨SIG_Cn_FAULT n, 3, 1, .w1c, 0, false⟩
def SIG_Cn_FAULT_KERNEL (n : Nat) : Fld := ⟨SIG_Cn_FAULT n, 4, 8, .ro, 0, false⟩
def SIG_Cn_FAULT_PC (n : Nat) : Fld := ⟨SIG_Cn_FAULT n, 12, 16, .ro, 0, false⟩
/-- Offset of SIG_Cn_BUSY (R154). -/
def SIG_Cn_BUSY (n : Nat) : Nat := 0x501008 + n * 0x40
def SIG_Cn_BUSY_COUNT (n : Nat) : Fld := ⟨SIG_Cn_BUSY n, 0, 32, .rl, 0, false⟩
/-- Offset of SIG_Cn_RUNS (R154). -/
def SIG_Cn_RUNS (n : Nat) : Nat := 0x50100C + n * 0x40
def SIG_Cn_RUNS_COUNT (n : Nat) : Fld := ⟨SIG_Cn_RUNS n, 0, 32, .rl, 0, false⟩
/-- Offset of SIG_Cn_SAT (R154). -/
def SIG_Cn_SAT (n : Nat) : Nat := 0x501010 + n * 0x40
def SIG_Cn_SAT_COUNT (n : Nat) : Fld := ⟨SIG_Cn_SAT n, 0, 32, .rl, 0, false⟩
/-- Offset of SIG_Cn_ECC (R154). -/
def SIG_Cn_ECC (n : Nat) : Nat := 0x501014 + n * 0x40
def SIG_Cn_ECC_COUNT (n : Nat) : Fld := ⟨SIG_Cn_ECC n, 0, 32, .rl, 0, false⟩
/-- Offset of COD_STAT (R186). -/
def COD_STAT : Nat := 0x600000
def COD_STAT_ACTIVE : Fld := ⟨COD_STAT, 0, 4, .ro, 8, false⟩
def COD_STAT_POLAR : Fld := ⟨COD_STAT, 4, 6, .ro, 32, true⟩
def COD_STAT_FAULT : Fld := ⟨COD_STAT, 16, 1, .w1c, 0, false⟩
def COD_STAT_RETIRED : Fld := ⟨COD_STAT, 17, 1, .w1c, 0, false⟩
def COD_STAT_POLAR_LOW : Fld := ⟨COD_STAT, 18, 1, .ro, 0, false⟩
def COD_STAT_TWIN_REPAIR : Fld := ⟨COD_STAT, 19, 1, .w1c, 0, false⟩
def COD_STAT_CTX_LOST : Fld := ⟨COD_STAT, 20, 1, .w1c, 0, false⟩
def COD_STAT_REBUILD : Fld := ⟨COD_STAT, 21, 1, .ro, 0, false⟩
/-- Offset of COD_EVT_MASK (R186). -/
def COD_EVT_MASK : Nat := 0x600004
def COD_EVT_MASK_MASK : Fld := ⟨COD_EVT_MASK, 16, 6, .rw, 0, false⟩
/-- Offset of COD_EVT_VEC (R186). -/
def COD_EVT_VEC : Nat := 0x600008
def COD_EVT_VEC_VEC : Fld := ⟨COD_EVT_VEC, 0, 11, .rw, 0, false⟩
/-- Offset of COD_REBUILD (R186). -/
def COD_REBUILD : Nat := 0x600010
def COD_REBUILD_CELLS : Fld := ⟨COD_REBUILD, 0, 10, .ro, 0, false⟩
/-- Offset of COD_TWIN_REPAIR (R186). -/
def COD_TWIN_REPAIR : Nat := 0x600014
def COD_TWIN_REPAIR_COUNT : Fld := ⟨COD_TWIN_REPAIR, 0, 32, .rl, 0, false⟩
/-- Offset of COD_CTX_LOST (R186). -/
def COD_CTX_LOST : Nat := 0x600018
def COD_CTX_LOST_COUNT : Fld := ⟨COD_CTX_LOST, 0, 32, .rl, 0, false⟩
/-- Offset of COD_CCm_INFO (R186). -/
def COD_CCm_INFO (m : Nat) : Nat := 0x601000 + m * 0x40
def COD_CCm_INFO_IN_SERVICE (m : Nat) : Fld := ⟨COD_CCm_INFO m, 0, 1, .ro, 1, false⟩
def COD_CCm_INFO_LANES (m : Nat) : Fld := ⟨COD_CCm_INFO m, 1, 5, .ro, 18, true⟩
def COD_CCm_INFO_POLAR (m : Nat) : Fld := ⟨COD_CCm_INFO m, 6, 3, .ro, 5, true⟩
/-- Offset of COD_CCm_FAULT (R186). -/
def COD_CCm_FAULT (m : Nat) : Nat := 0x601004 + m * 0x40
def COD_CCm_FAULT_CAUSE (m : Nat) : Fld := ⟨COD_CCm_FAULT m, 0, 3, .ro, 0, false⟩
def COD_CCm_FAULT_VALID (m : Nat) : Fld := ⟨COD_CCm_FAULT m, 3, 1, .w1c, 0, false⟩
def COD_CCm_FAULT_LANE (m : Nat) : Fld := ⟨COD_CCm_FAULT m, 4, 5, .ro, 0, false⟩
/-- Offset of COD_CCm_DEC_CB (R186). -/
def COD_CCm_DEC_CB (m : Nat) : Nat := 0x601008 + m * 0x40
def COD_CCm_DEC_CB_COUNT (m : Nat) : Fld := ⟨COD_CCm_DEC_CB m, 0, 32, .rl, 0, false⟩
/-- Offset of COD_CCm_CB_FAIL (R186). -/
def COD_CCm_CB_FAIL (m : Nat) : Nat := 0x60100C + m * 0x40
def COD_CCm_CB_FAIL_COUNT (m : Nat) : Fld := ⟨COD_CCm_CB_FAIL m, 0, 32, .rl, 0, false⟩
/-- Offset of COD_CCm_ITER (R186). -/
def COD_CCm_ITER (m : Nat) : Nat := 0x601010 + m * 0x40
def COD_CCm_ITER_COUNT (m : Nat) : Fld := ⟨COD_CCm_ITER m, 0, 32, .rl, 0, false⟩
/-- Offset of COD_CCm_ENC_CB (R186). -/
def COD_CCm_ENC_CB (m : Nat) : Nat := 0x601014 + m * 0x40
def COD_CCm_ENC_CB_COUNT (m : Nat) : Fld := ⟨COD_CCm_ENC_CB m, 0, 32, .rl, 0, false⟩
/-- Offset of COD_CCm_POLAR (R186). -/
def COD_CCm_POLAR (m : Nat) : Nat := 0x601018 + m * 0x40
def COD_CCm_POLAR_COUNT (m : Nat) : Fld := ⟨COD_CCm_POLAR m, 0, 32, .rl, 0, false⟩
/-- Offset of COD_CCm_BUSY (R186). -/
def COD_CCm_BUSY (m : Nat) : Nat := 0x60101C + m * 0x40
def COD_CCm_BUSY_COUNT (m : Nat) : Fld := ⟨COD_CCm_BUSY m, 0, 32, .rl, 0, false⟩
/-- Offset of MXC_STAT (R215). -/
def MXC_STAT : Nat := 0x800000
def MXC_STAT_ACTIVE : Fld := ⟨MXC_STAT, 0, 8, .ro, 144, true⟩
def MXC_STAT_SPARES : Fld := ⟨MXC_STAT, 8, 6, .ro, 16, true⟩
def MXC_STAT_FAULT : Fld := ⟨MXC_STAT, 16, 1, .w1c, 0, false⟩
def MXC_STAT_RETIRED : Fld := ⟨MXC_STAT, 17, 1, .w1c, 0, false⟩
/-- Offset of MXC_EVT_MASK (R215). -/
def MXC_EVT_MASK : Nat := 0x800004
def MXC_EVT_MASK_MASK : Fld := ⟨MXC_EVT_MASK, 16, 2, .rw, 0, false⟩
/-- Offset of MXC_EVT_VEC (R215). -/
def MXC_EVT_VEC : Nat := 0x800008
def MXC_EVT_VEC_VEC : Fld := ⟨MXC_EVT_VEC, 0, 11, .rw, 0, false⟩
/-- Offset of MXC_GOV (R215). -/
def MXC_GOV : Nat := 0x80000C
def MXC_GOV_STEP_CYCLES : Fld := ⟨MXC_GOV, 0, 4, .ro, 8, false⟩
def MXC_GOV_HOLD : Fld := ⟨MXC_GOV, 8, 8, .ro, 64, false⟩
def MXC_GOV_LEVELS : Fld := ⟨MXC_GOV, 16, 7, .ro, 64, false⟩
/-- Offset of MXC_Cn_INFO (R215). -/
def MXC_Cn_INFO (n : Nat) : Nat := 0x700000 + n * 0x1000
def MXC_Cn_INFO_PHYS (n : Nat) : Fld := ⟨MXC_Cn_INFO n, 0, 8, .ro, (n / 18 * 20 + n % 18), true⟩
def MXC_Cn_INFO_DIE (n : Nat) : Fld := ⟨MXC_Cn_INFO n, 8, 3, .ro, (n / 18), true⟩
def MXC_Cn_INFO_STATE (n : Nat) : Fld := ⟨MXC_Cn_INFO n, 12, 3, .ro, 0, false⟩
def MXC_Cn_INFO_CLOVER (n : Nat) : Fld := ⟨MXC_Cn_INFO n, 15, 1, .ro, 0, false⟩
def MXC_Cn_INFO_CTX (n : Nat) : Fld := ⟨MXC_Cn_INFO n, 16, 12, .ro, 0, false⟩
/-- Offset of MXC_Cn_FAULT (R215). -/
def MXC_Cn_FAULT (n : Nat) : Nat := 0x700004 + n * 0x1000
def MXC_Cn_FAULT_CAUSE (n : Nat) : Fld := ⟨MXC_Cn_FAULT n, 0, 3, .ro, 0, false⟩
def MXC_Cn_FAULT_VALID (n : Nat) : Fld := ⟨MXC_Cn_FAULT n, 3, 1, .w1c, 0, false⟩
def MXC_Cn_FAULT_RETRIED (n : Nat) : Fld := ⟨MXC_Cn_FAULT n, 4, 1, .ro, 0, false⟩
def MXC_Cn_FAULT_PASS (n : Nat) : Fld := ⟨MXC_Cn_FAULT n, 8, 24, .ro, 0, false⟩
/-- Offset of MXC_Cn_LEVEL (R215). -/
def MXC_Cn_LEVEL (n : Nat) : Nat := 0x700008 + n * 0x1000
def MXC_Cn_LEVEL_LEVEL (n : Nat) : Fld := ⟨MXC_Cn_LEVEL n, 0, 7, .ro, 0, false⟩
def MXC_Cn_LEVEL_DEMAND (n : Nat) : Fld := ⟨MXC_Cn_LEVEL n, 8, 7, .ro, 0, false⟩
/-- Offset of MXC_Cn_PASS (R215). -/
def MXC_Cn_PASS (n : Nat) : Nat := 0x70000C + n * 0x1000
def MXC_Cn_PASS_LAST (n : Nat) : Fld := ⟨MXC_Cn_PASS n, 0, 32, .ro, 0, false⟩
/-- Offset of MXC_Cn_BUSY (R215). -/
def MXC_Cn_BUSY (n : Nat) : Nat := 0x700010 + n * 0x1000
def MXC_Cn_BUSY_COUNT (n : Nat) : Fld := ⟨MXC_Cn_BUSY n, 0, 32, .rl, 0, false⟩
/-- Offset of MXC_Cn_STALL (R215). -/
def MXC_Cn_STALL (n : Nat) : Nat := 0x700014 + n * 0x1000
def MXC_Cn_STALL_COUNT (n : Nat) : Fld := ⟨MXC_Cn_STALL n, 0, 32, .rl, 0, false⟩
/-- Offset of MXC_Cn_SKIP (R215). -/
def MXC_Cn_SKIP (n : Nat) : Nat := 0x700018 + n * 0x1000
def MXC_Cn_SKIP_COUNT (n : Nat) : Fld := ⟨MXC_Cn_SKIP n, 0, 32, .rl, 0, false⟩
/-- Offset of MXC_Cn_DUMMY (R215). -/
def MXC_Cn_DUMMY (n : Nat) : Nat := 0x70001C + n * 0x1000
def MXC_Cn_DUMMY_COUNT (n : Nat) : Fld := ⟨MXC_Cn_DUMMY n, 0, 32, .rl, 0, false⟩
/-- Offset of MXC_Cn_LOADS (R215). -/
def MXC_Cn_LOADS (n : Nat) : Nat := 0x700020 + n * 0x1000
def MXC_Cn_LOADS_COUNT (n : Nat) : Fld := ⟨MXC_Cn_LOADS n, 0, 32, .rl, 0, false⟩
/-- Offset of MXC_Cn_ABANDON (R215). -/
def MXC_Cn_ABANDON (n : Nat) : Nat := 0x700024 + n * 0x1000
def MXC_Cn_ABANDON_COUNT (n : Nat) : Fld := ⟨MXC_Cn_ABANDON n, 0, 32, .rl, 0, false⟩
/-- Offset of MXC_Cn_ECC (R215). -/
def MXC_Cn_ECC (n : Nat) : Nat := 0x700028 + n * 0x1000
def MXC_Cn_ECC_COUNT (n : Nat) : Fld := ⟨MXC_Cn_ECC n, 0, 32, .rl, 0, false⟩
/-- Offset of MXC_Cn_ENG (R237). -/
def MXC_Cn_ENG (n : Nat) : Nat := 0x700040 + n * 0x1000
def MXC_Cn_ENG_LOAD (n : Nat) : Fld := ⟨MXC_Cn_ENG n, 0, 4, .ro, 0, false⟩
def MXC_Cn_ENG_MATRIX (n : Nat) : Fld := ⟨MXC_Cn_ENG n, 4, 4, .ro, 0, false⟩
def MXC_Cn_ENG_VECTOR (n : Nat) : Fld := ⟨MXC_Cn_ENG n, 8, 4, .ro, 0, false⟩
def MXC_Cn_ENG_STORE (n : Nat) : Fld := ⟨MXC_Cn_ENG n, 12, 4, .ro, 0, false⟩
def MXC_Cn_ENG_FABERR (n : Nat) : Fld := ⟨MXC_Cn_ENG n, 16, 1, .ro, 0, false⟩
/-- Offset of MXC_Cn_TOK0 (R237). -/
def MXC_Cn_TOK0 (n : Nat) : Nat := 0x700048 + n * 0x1000
def MXC_Cn_TOK0_TK0 (n : Nat) : Fld := ⟨MXC_Cn_TOK0 n, 0, 8, .ro, 0, false⟩
def MXC_Cn_TOK0_TK1 (n : Nat) : Fld := ⟨MXC_Cn_TOK0 n, 8, 8, .ro, 0, false⟩
def MXC_Cn_TOK0_TK2 (n : Nat) : Fld := ⟨MXC_Cn_TOK0 n, 16, 8, .ro, 0, false⟩
def MXC_Cn_TOK0_TK3 (n : Nat) : Fld := ⟨MXC_Cn_TOK0 n, 24, 8, .ro, 0, false⟩
def MXC_Cn_TOK0_TK4 (n : Nat) : Fld := ⟨MXC_Cn_TOK0 n, 32, 8, .ro, 0, false⟩
def MXC_Cn_TOK0_TK5 (n : Nat) : Fld := ⟨MXC_Cn_TOK0 n, 40, 8, .ro, 0, false⟩
def MXC_Cn_TOK0_TK6 (n : Nat) : Fld := ⟨MXC_Cn_TOK0 n, 48, 8, .ro, 0, false⟩
def MXC_Cn_TOK0_TK7 (n : Nat) : Fld := ⟨MXC_Cn_TOK0 n, 56, 8, .ro, 0, false⟩
/-- Offset of MXC_Cn_TOK1 (R237). -/
def MXC_Cn_TOK1 (n : Nat) : Nat := 0x700050 + n * 0x1000
def MXC_Cn_TOK1_TK8 (n : Nat) : Fld := ⟨MXC_Cn_TOK1 n, 0, 8, .ro, 0, false⟩
def MXC_Cn_TOK1_TK9 (n : Nat) : Fld := ⟨MXC_Cn_TOK1 n, 8, 8, .ro, 0, false⟩
def MXC_Cn_TOK1_TK10 (n : Nat) : Fld := ⟨MXC_Cn_TOK1 n, 16, 8, .ro, 0, false⟩
def MXC_Cn_TOK1_TK11 (n : Nat) : Fld := ⟨MXC_Cn_TOK1 n, 24, 8, .ro, 0, false⟩
def MXC_Cn_TOK1_TK12 (n : Nat) : Fld := ⟨MXC_Cn_TOK1 n, 32, 8, .ro, 0, false⟩
def MXC_Cn_TOK1_TK13 (n : Nat) : Fld := ⟨MXC_Cn_TOK1 n, 40, 8, .ro, 0, false⟩
def MXC_Cn_TOK1_TK14 (n : Nat) : Fld := ⟨MXC_Cn_TOK1 n, 48, 8, .ro, 0, false⟩
def MXC_Cn_TOK1_TK15 (n : Nat) : Fld := ⟨MXC_Cn_TOK1 n, 56, 8, .ro, 0, false⟩
/-- Offset of MXC_Cn_TQ (R237). -/
def MXC_Cn_TQ (n : Nat) : Nat := 0x700058 + n * 0x1000
def MXC_Cn_TQ_COUNT (n : Nat) : Fld := ⟨MXC_Cn_TQ n, 0, 4, .ro, 0, false⟩
def MXC_Cn_TQ_PENDING (n : Nat) : Fld := ⟨MXC_Cn_TQ n, 4, 7, .ro, 0, false⟩
def MXC_Cn_TQ_PASSQ (n : Nat) : Fld := ⟨MXC_Cn_TQ n, 11, 2, .ro, 0, false⟩
/-- Offset of MXC_Cn_VSTAT (R237). -/
def MXC_Cn_VSTAT (n : Nat) : Nat := 0x70005C + n * 0x1000
def MXC_Cn_VSTAT_INV (n : Nat) : Fld := ⟨MXC_Cn_VSTAT n, 0, 1, .ro, 0, false⟩
def MXC_Cn_VSTAT_DZ (n : Nat) : Fld := ⟨MXC_Cn_VSTAT n, 1, 1, .ro, 0, false⟩
def MXC_Cn_VSTAT_OVF (n : Nat) : Fld := ⟨MXC_Cn_VSTAT n, 2, 1, .ro, 0, false⟩
def MXC_Cn_VSTAT_UNF (n : Nat) : Fld := ⟨MXC_Cn_VSTAT n, 3, 1, .ro, 0, false⟩
def MXC_Cn_VSTAT_SAT (n : Nat) : Fld := ⟨MXC_Cn_VSTAT n, 4, 1, .ro, 0, false⟩
/-- Offset of MXC_Cn_INFLT (R237). -/
def MXC_Cn_INFLT (n : Nat) : Nat := 0x700060 + n * 0x1000
def MXC_Cn_INFLT_LOAD_TRK (n : Nat) : Fld := ⟨MXC_Cn_INFLT n, 0, 9, .ro, 0, false⟩
def MXC_Cn_INFLT_STORE_TRK (n : Nat) : Fld := ⟨MXC_Cn_INFLT n, 9, 9, .ro, 0, false⟩
def MXC_Cn_INFLT_FAB (n : Nat) : Fld := ⟨MXC_Cn_INFLT n, 18, 8, .ro, 0, false⟩
/-- Offset of MXC_Cn_TQWAIT (R237). -/
def MXC_Cn_TQWAIT (n : Nat) : Nat := 0x700064 + n * 0x1000
def MXC_Cn_TQWAIT_COUNT (n : Nat) : Fld := ⟨MXC_Cn_TQWAIT n, 0, 32, .rl, 0, false⟩
/-- Offset of MXC_Cn_FTTWAIT (R237). -/
def MXC_Cn_FTTWAIT (n : Nat) : Nat := 0x700068 + n * 0x1000
def MXC_Cn_FTTWAIT_COUNT (n : Nat) : Fld := ⟨MXC_Cn_FTTWAIT n, 0, 32, .rl, 0, false⟩
/-- Offset of MXC_Cn_TRKWAIT (R237). -/
def MXC_Cn_TRKWAIT (n : Nat) : Nat := 0x70006C + n * 0x1000
def MXC_Cn_TRKWAIT_COUNT (n : Nat) : Fld := ⟨MXC_Cn_TRKWAIT n, 0, 32, .rl, 0, false⟩
/-- Offset of TIER_STAT (R258). -/
def TIER_STAT : Nat := 0x900000
def TIER_STAT_AGE_EVICT : Fld := ⟨TIER_STAT, 0, 1, .w1c, 0, false⟩
def TIER_STAT_POOL_REFUSED : Fld := ⟨TIER_STAT, 1, 1, .w1c, 0, false⟩
def TIER_STAT_POOL_LOW_T0 : Fld := ⟨TIER_STAT, 2, 1, .ro, 0, false⟩
def TIER_STAT_POOL_LOW_T1 : Fld := ⟨TIER_STAT, 3, 1, .ro, 0, false⟩
/-- Offset of TIER_EVT_MASK (R258). -/
def TIER_EVT_MASK : Nat := 0x900004
def TIER_EVT_MASK_MASK : Fld := ⟨TIER_EVT_MASK, 0, 4, .rw, 0, false⟩
/-- Offset of TIER_EVT_VEC (R258). -/
def TIER_EVT_VEC : Nat := 0x900008
def TIER_EVT_VEC_VEC : Fld := ⟨TIER_EVT_VEC, 0, 11, .rw, 0, false⟩
/-- Offset of TIER_CAP (R258). -/
def TIER_CAP : Nat := 0x900010
def TIER_CAP_T0 : Fld := ⟨TIER_CAP, 0, 11, .ro, 1008, false⟩
def TIER_CAP_T1 : Fld := ⟨TIER_CAP, 12, 19, .ro, 294400, false⟩
def TIER_CAP_T2 : Fld := ⟨TIER_CAP, 32, 22, .ro, Config.t2Frames, false⟩
/-- Offset of TIER_RADIO (R258). -/
def TIER_RADIO : Nat := 0x900018
def TIER_RADIO_T0 : Fld := ⟨TIER_RADIO, 0, 11, .ro, 0, false⟩
def TIER_RADIO_T1 : Fld := ⟨TIER_RADIO, 32, 19, .ro, 0, false⟩
/-- Offset of TIER_POOLUSE (R258). -/
def TIER_POOLUSE : Nat := 0x900030
def TIER_POOLUSE_T0 : Fld := ⟨TIER_POOLUSE, 0, 22, .ro, 0, false⟩
def TIER_POOLUSE_T1 : Fld := ⟨TIER_POOLUSE, 32, 22, .ro, 0, false⟩
/-- Offset of TIER_AGE_NOW (R258). -/
def TIER_AGE_NOW : Nat := 0x900040
def TIER_AGE_NOW_NOW : Fld := ⟨TIER_AGE_NOW, 0, 32, .ro, 0, false⟩
/-- Offset of TIER_MIG (R258). -/
def TIER_MIG : Nat := 0x900044
def TIER_MIG_RATE : Fld := ⟨TIER_MIG, 0, 8, .rw, 64, false⟩
def TIER_MIG_RUNNING : Fld := ⟨TIER_MIG, 8, 3, .ro, 0, false⟩
def TIER_MIG_QUEUED : Fld := ⟨TIER_MIG, 12, 20, .ro, 0, false⟩
/-- Offset of TIER_BMAP_SEL (R258). -/
def TIER_BMAP_SEL : Nat := 0x900048
def TIER_BMAP_SEL_BLOCK : Fld := ⟨TIER_BMAP_SEL, 0, 22, .rw, 0, false⟩
/-- Offset of TIER_BMAP_ENT (R258). -/
def TIER_BMAP_ENT : Nat := 0x900050
def TIER_BMAP_ENT_ENTRY : Fld := ⟨TIER_BMAP_ENT, 0, 64, .ro, 0, false⟩
/-- Offset of TIER_POOL_Tn (R258). -/
def TIER_POOL_Tn (n : Nat) : Nat := 0x900020 + n * 0x8
def TIER_POOL_Tn_SIZE (n : Nat) : Fld := ⟨TIER_POOL_Tn n, 0, 22, .rw, 0, false⟩
def TIER_POOL_Tn_LOW (n : Nat) : Fld := ⟨TIER_POOL_Tn n, 32, 7, .rw, 10, false⟩
def TIER_POOL_Tn_HIGH (n : Nat) : Fld := ⟨TIER_POOL_Tn n, 40, 7, .rw, 20, false⟩
/-- Offset of TIER_T_PROMOTE (R258). -/
def TIER_T_PROMOTE : Nat := 0x900080
def TIER_T_PROMOTE_COUNT : Fld := ⟨TIER_T_PROMOTE, 0, 32, .rl, 0, false⟩
/-- Offset of TIER_T_EVICT (R258). -/
def TIER_T_EVICT : Nat := 0x900084
def TIER_T_EVICT_COUNT : Fld := ⟨TIER_T_EVICT, 0, 32, .rl, 0, false⟩
/-- Offset of TIER_T_AGEEVICT (R258). -/
def TIER_T_AGEEVICT : Nat := 0x900088
def TIER_T_AGEEVICT_COUNT : Fld := ⟨TIER_T_AGEEVICT, 0, 32, .rl, 0, false⟩
/-- Offset of TIER_T_WBACK (R258). -/
def TIER_T_WBACK : Nat := 0x90008C
def TIER_T_WBACK_COUNT : Fld := ⟨TIER_T_WBACK, 0, 32, .rl, 0, false⟩
/-- Offset of TIER_T_CLEAN (R258). -/
def TIER_T_CLEAN : Nat := 0x900090
def TIER_T_CLEAN_COUNT : Fld := ⟨TIER_T_CLEAN, 0, 32, .rl, 0, false⟩
/-- Offset of TIER_T_HOLD (R258). -/
def TIER_T_HOLD : Nat := 0x900094
def TIER_T_HOLD_COUNT : Fld := ⟨TIER_T_HOLD, 0, 32, .rl, 0, false⟩
/-- Offset of TIER_Pp_T0 (R258). -/
def TIER_Pp_T0 (p : Nat) : Nat := 0x901000 + p * 0x40
def TIER_Pp_T0_QUOTA (p : Nat) : Fld := ⟨TIER_Pp_T0 p, 0, 22, .ro, 0, false⟩
def TIER_Pp_T0_USED (p : Nat) : Fld := ⟨TIER_Pp_T0 p, 32, 22, .ro, 0, false⟩
/-- Offset of TIER_Pp_T1 (R258). -/
def TIER_Pp_T1 (p : Nat) : Nat := 0x901008 + p * 0x40
def TIER_Pp_T1_QUOTA (p : Nat) : Fld := ⟨TIER_Pp_T1 p, 0, 22, .ro, 0, false⟩
def TIER_Pp_T1_USED (p : Nat) : Fld := ⟨TIER_Pp_T1 p, 32, 22, .ro, 0, false⟩
/-- Offset of TIER_Pp_T2 (R258). -/
def TIER_Pp_T2 (p : Nat) : Nat := 0x901010 + p * 0x40
def TIER_Pp_T2_LIMIT (p : Nat) : Fld := ⟨TIER_Pp_T2 p, 0, 22, .ro, 0, false⟩
def TIER_Pp_T2_USED (p : Nat) : Fld := ⟨TIER_Pp_T2 p, 32, 22, .ro, 0, false⟩
/-- Offset of TIER_Pp_POOL (R258). -/
def TIER_Pp_POOL (p : Nat) : Nat := 0x901018 + p * 0x40
def TIER_Pp_POOL_T0 (p : Nat) : Fld := ⟨TIER_Pp_POOL p, 0, 22, .ro, 0, false⟩
def TIER_Pp_POOL_T1 (p : Nat) : Fld := ⟨TIER_Pp_POOL p, 32, 22, .ro, 0, false⟩
/-- Offset of TIER_Pp_OBJS (R258). -/
def TIER_Pp_OBJS (p : Nat) : Nat := 0x901020 + p * 0x40
def TIER_Pp_OBJS_COUNT (p : Nat) : Fld := ⟨TIER_Pp_OBJS p, 0, 21, .ro, 0, false⟩
/-- Offset of TIER_Pp_AGEVICT (R258). -/
def TIER_Pp_AGEVICT (p : Nat) : Nat := 0x901024 + p * 0x40
def TIER_Pp_AGEVICT_COUNT (p : Nat) : Fld := ⟨TIER_Pp_AGEVICT p, 0, 32, .rl, 0, false⟩
/-- Offset of MEMC_STAT (R278). -/
def MEMC_STAT : Nat := 0xA00000
def MEMC_STAT_CE : Fld := ⟨MEMC_STAT, 0, 1, .w1c, 0, false⟩
def MEMC_STAT_UE : Fld := ⟨MEMC_STAT, 1, 1, .w1c, 0, false⟩
def MEMC_STAT_REFETCH_FAIL : Fld := ⟨MEMC_STAT, 2, 1, .w1c, 0, false⟩
def MEMC_STAT_PDROP : Fld := ⟨MEMC_STAT, 3, 1, .w1c, 0, false⟩
def MEMC_STAT_SCRUB_SLOW : Fld := ⟨MEMC_STAT, 4, 1, .w1c, 0, false⟩
def MEMC_STAT_FILLING : Fld := ⟨MEMC_STAT, 8, 1, .ro, 0, false⟩
/-- Offset of MEMC_EVT_MASK (R278). -/
def MEMC_EVT_MASK : Nat := 0xA00004
def MEMC_EVT_MASK_MASK : Fld := ⟨MEMC_EVT_MASK, 0, 5, .rw, 0, false⟩
/-- Offset of MEMC_EVT_VEC (R278). -/
def MEMC_EVT_VEC : Nat := 0xA00008
def MEMC_EVT_VEC_VEC : Fld := ⟨MEMC_EVT_VEC, 0, 11, .rw, 0, false⟩
/-- Offset of MEMC_FILL (R278). -/
def MEMC_FILL : Nat := 0xA00010
def MEMC_FILL_DONE : Fld := ⟨MEMC_FILL, 0, 3, .ro, 0, false⟩
def MEMC_FILL_PCT : Fld := ⟨MEMC_FILL, 8, 8, .ro, 0, false⟩
/-- Offset of MEMC_CODE (R278). -/
def MEMC_CODE : Nat := 0xA00014
def MEMC_CODE_PARITY : Fld := ⟨MEMC_CODE, 0, 2, .rwp, 0, true⟩
def MEMC_CODE_ACTIVE : Fld := ⟨MEMC_CODE, 2, 2, .ro, 0, true⟩
/-- Offset of MEMC_REFETCH (R278). -/
def MEMC_REFETCH : Nat := 0xA00018
def MEMC_REFETCH_BOUND : Fld := ⟨MEMC_REFETCH, 0, 8, .rw, 50, false⟩
def MEMC_REFETCH_ACTIVE : Fld := ⟨MEMC_REFETCH, 16, 8, .ro, 0, false⟩
/-- Offset of MEMC_SCRUB_Tn (R278). -/
def MEMC_SCRUB_Tn (n : Nat) : Nat := 0xA00020 + n * 0x4
def MEMC_SCRUB_Tn_PERIOD (n : Nat) : Fld := ⟨MEMC_SCRUB_Tn n, 0, 16, .rw, (if n = 0 then 60 else 1440), false⟩
/-- Offset of MEMC_T_POISON (R278). -/
def MEMC_T_POISON : Nat := 0xA00040
def MEMC_T_POISON_COUNT : Fld := ⟨MEMC_T_POISON, 0, 32, .rl, 0, false⟩
/-- Offset of MEMC_T_REFETCH (R278). -/
def MEMC_T_REFETCH : Nat := 0xA00044
def MEMC_T_REFETCH_COUNT : Fld := ⟨MEMC_T_REFETCH, 0, 32, .rl, 0, false⟩
/-- Offset of MEMC_T_REFAIL (R278). -/
def MEMC_T_REFAIL : Nat := 0xA00048
def MEMC_T_REFAIL_COUNT : Fld := ⟨MEMC_T_REFAIL, 0, 32, .rl, 0, false⟩
/-- Offset of MEMC_T_PDROP (R278). -/
def MEMC_T_PDROP : Nat := 0xA0004C
def MEMC_T_PDROP_COUNT : Fld := ⟨MEMC_T_PDROP, 0, 32, .rl, 0, false⟩
/-- Offset of MEMC_Xk_INFO (R278). -/
def MEMC_Xk_INFO (k : Nat) : Nat := 0xA01000 + k * 0x40
def MEMC_Xk_INFO_TIER (k : Nat) : Fld := ⟨MEMC_Xk_INFO k, 0, 2, .ro, (if k < 4 then 1 else if k < 16 then 2 else 3), true⟩
def MEMC_Xk_INFO_UNIT (k : Nat) : Fld := ⟨MEMC_Xk_INFO k, 2, 4, .ro, (if k < 4 then k else if k < 16 then k - 4 else k - 16), true⟩
/-- Offset of MEMC_Xk_CE (R278). -/
def MEMC_Xk_CE (k : Nat) : Nat := 0xA01004 + k * 0x40
def MEMC_Xk_CE_COUNT (k : Nat) : Fld := ⟨MEMC_Xk_CE k, 0, 32, .rl, 0, false⟩
/-- Offset of MEMC_Xk_UE (R278). -/
def MEMC_Xk_UE (k : Nat) : Nat := 0xA01008 + k * 0x40
def MEMC_Xk_UE_COUNT (k : Nat) : Fld := ⟨MEMC_Xk_UE k, 0, 32, .rl, 0, false⟩
/-- Offset of MEMC_Xk_LOGHEAD (R278). -/
def MEMC_Xk_LOGHEAD (k : Nat) : Nat := 0xA0100C + k * 0x40
def MEMC_Xk_LOGHEAD_NEXT (k : Nat) : Fld := ⟨MEMC_Xk_LOGHEAD k, 0, 5, .ro, 0, false⟩
def MEMC_Xk_LOGHEAD_TOTAL (k : Nat) : Fld := ⟨MEMC_Xk_LOGHEAD k, 8, 24, .ro, 0, false⟩
/-- Offset of MEMC_LOG_ENT0 (R278). -/
def MEMC_LOG_ENT0 (k e : Nat) : Nat := 0xA04000 + k * 0x200 + e * 0x10
def MEMC_LOG_ENT0_ENT (k e : Nat) : Fld := ⟨MEMC_LOG_ENT0 k e, 0, 64, .ro, 0, false⟩
/-- Offset of MEMC_LOG_ENT1 (R278). -/
def MEMC_LOG_ENT1 (k e : Nat) : Nat := 0xA04008 + k * 0x200 + e * 0x10
def MEMC_LOG_ENT1_ENT (k e : Nat) : Fld := ⟨MEMC_LOG_ENT1 k e, 0, 64, .ro, 0, false⟩
/-- Offset of CHK_STAT (R279). -/
def CHK_STAT : Nat := 0xB00000
def CHK_STAT_DONE : Fld := ⟨CHK_STAT, 0, 1, .w1c, 0, false⟩
def CHK_STAT_ERR : Fld := ⟨CHK_STAT, 1, 1, .w1c, 0, false⟩
/-- Offset of CHK_EVT_MASK (R279). -/
def CHK_EVT_MASK : Nat := 0xB00004
def CHK_EVT_MASK_MASK : Fld := ⟨CHK_EVT_MASK, 0, 2, .rw, 0, false⟩
/-- Offset of CHK_EVT_VEC (R279). -/
def CHK_EVT_VEC : Nat := 0xB00008
def CHK_EVT_VEC_VEC : Fld := ⟨CHK_EVT_VEC, 0, 11, .rw, 0, false⟩
/-- Offset of CHK_T_SCANS (R279). -/
def CHK_T_SCANS : Nat := 0xB00010
def CHK_T_SCANS_COUNT : Fld := ⟨CHK_T_SCANS, 0, 32, .rl, 0, false⟩
/-- Offset of CHK_T_BYTES (R279). -/
def CHK_T_BYTES : Nat := 0xB00014
def CHK_T_BYTES_COUNT : Fld := ⟨CHK_T_BYTES, 0, 32, .rl, 0, false⟩
/-- Offset of CHK_DONE (R279). -/
def CHK_DONE : Nat := 0xB00018
def CHK_DONE_UNIT : Fld := ⟨CHK_DONE, 0, 64, .w1c, 0, false⟩
/-- Offset of CHK_Uu_CTRL (R279). -/
def CHK_Uu_CTRL (u : Nat) : Nat := 0xB01000 + u * 0x40
def CHK_Uu_CTRL_GO (u : Nat) : Fld := ⟨CHK_Uu_CTRL u, 0, 1, .wo, 0, false⟩
def CHK_Uu_CTRL_STOP (u : Nat) : Fld := ⟨CHK_Uu_CTRL u, 1, 1, .wo, 0, false⟩
def CHK_Uu_CTRL_RESEED (u : Nat) : Fld := ⟨CHK_Uu_CTRL u, 2, 1, .rw, 0, false⟩
def CHK_Uu_CTRL_MODE (u : Nat) : Fld := ⟨CHK_Uu_CTRL u, 3, 1, .rw, 0, false⟩
def CHK_Uu_CTRL_CMP (u : Nat) : Fld := ⟨CHK_Uu_CTRL u, 4, 1, .rw, 0, false⟩
def CHK_Uu_CTRL_OWNER (u : Nat) : Fld := ⟨CHK_Uu_CTRL u, 8, 4, .rw, 14, false⟩
/-- Offset of CHK_Uu_STAT (R279). -/
def CHK_Uu_STAT (u : Nat) : Nat := 0xB01004 + u * 0x40
def CHK_Uu_STAT_STATE (u : Nat) : Fld := ⟨CHK_Uu_STAT u, 0, 3, .ro, 0, false⟩
def CHK_Uu_STAT_ERR (u : Nat) : Fld := ⟨CHK_Uu_STAT u, 4, 3, .ro, 0, false⟩
def CHK_Uu_STAT_MATCH (u : Nat) : Fld := ⟨CHK_Uu_STAT u, 8, 1, .ro, 0, false⟩
def CHK_Uu_STAT_REFUSED (u : Nat) : Fld := ⟨CHK_Uu_STAT u, 9, 1, .w1c, 0, false⟩
/-- Offset of CHK_Uu_SEEDADDR (R279). -/
def CHK_Uu_SEEDADDR (u : Nat) : Nat := 0xB01008 + u * 0x40
def CHK_Uu_SEEDADDR_A (u : Nat) : Fld := ⟨CHK_Uu_SEEDADDR u, 0, 64, .rw, 0, false⟩
/-- Offset of CHK_Uu_START (R279). -/
def CHK_Uu_START (u : Nat) : Nat := 0xB01010 + u * 0x40
def CHK_Uu_START_START (u : Nat) : Fld := ⟨CHK_Uu_START u, 0, 43, .rw, 0, false⟩
/-- Offset of CHK_Uu_LEN (R279). -/
def CHK_Uu_LEN (u : Nat) : Nat := 0xB01018 + u * 0x40
def CHK_Uu_LEN_LEN (u : Nat) : Fld := ⟨CHK_Uu_LEN u, 0, 40, .rw, 0, false⟩
/-- Offset of CHK_Uu_RUN (R279). -/
def CHK_Uu_RUN (u : Nat) : Nat := 0xB01020 + u * 0x40
def CHK_Uu_RUN_RUN (u : Nat) : Fld := ⟨CHK_Uu_RUN u, 0, 64, .rw, 0, false⟩
/-- Offset of CHK_Uu_RESULT (R279). -/
def CHK_Uu_RESULT (u : Nat) : Nat := 0xB01028 + u * 0x40
def CHK_Uu_RESULT_RESULT (u : Nat) : Fld := ⟨CHK_Uu_RESULT u, 0, 64, .ro, 0, false⟩
/-- Offset of CHK_Uu_EXPECT (R279). -/
def CHK_Uu_EXPECT (u : Nat) : Nat := 0xB01030 + u * 0x40
def CHK_Uu_EXPECT_EXPECT (u : Nat) : Fld := ⟨CHK_Uu_EXPECT u, 0, 64, .rw, 0, false⟩
/-- Offset of HJF_CFG (R304). -/
def HJF_CFG : Nat := 0xC00000
def HJF_CFG_DEVID : Fld := ⟨HJF_CFG, 0, 16, .rw, 0, false⟩
def HJF_CFG_EN : Fld := ⟨HJF_CFG, 16, 1, .rw, 0, false⟩
/-- Offset of HJF_STAT (R304). -/
def HJF_STAT : Nat := 0xC00004
def HJF_STAT_DENIED : Fld := ⟨HJF_STAT, 0, 1, .w1c, 0, false⟩
def HJF_STAT_DISCARD : Fld := ⟨HJF_STAT, 1, 1, .w1c, 0, false⟩
def HJF_STAT_PORT_FAIL : Fld := ⟨HJF_STAT, 2, 1, .w1c, 0, false⟩
def HJF_STAT_SPARE : Fld := ⟨HJF_STAT, 3, 1, .w1c, 0, false⟩
/-- Offset of HJF_EVT_MASK (R304). -/
def HJF_EVT_MASK : Nat := 0xC00008
def HJF_EVT_MASK_MASK : Fld := ⟨HJF_EVT_MASK, 0, 4, .rw, 0, false⟩
/-- Offset of HJF_EVT_VEC (R304). -/
def HJF_EVT_VEC : Nat := 0xC0000C
def HJF_EVT_VEC_VEC : Fld := ⟨HJF_EVT_VEC, 0, 11, .rw, 0, false⟩
/-- Offset of HJF_FTT (R304). -/
def HJF_FTT : Nat := 0xC00010
def HJF_FTT_USED : Fld := ⟨HJF_FTT, 0, 15, .ro, 0, false⟩
/-- Offset of HJF_TIME (R304). -/
def HJF_TIME : Nat := 0xC00014
def HJF_TIME_ROOT : Fld := ⟨HJF_TIME, 0, 1, .rw, 0, false⟩
def HJF_TIME_RSRC : Fld := ⟨HJF_TIME, 1, 3, .rw, 7, false⟩
def HJF_TIME_PARENT : Fld := ⟨HJF_TIME, 4, 4, .rw, 0, false⟩
/-- Offset of HJF_ROUTE_SEL (R304). -/
def HJF_ROUTE_SEL : Nat := 0xC00018
def HJF_ROUTE_SEL_DST : Fld := ⟨HJF_ROUTE_SEL, 0, 16, .rw, 0, false⟩
/-- Offset of HJF_ROUTE_ENT (R304). -/
def HJF_ROUTE_ENT : Nat := 0xC00020
def HJF_ROUTE_ENT_ENTRY : Fld := ⟨HJF_ROUTE_ENT, 0, 64, .ro, 0, false⟩
/-- Offset of HJF_GROUP_SEL (R304). -/
def HJF_GROUP_SEL : Nat := 0xC00028
def HJF_GROUP_SEL_GROUP : Fld := ⟨HJF_GROUP_SEL, 0, 12, .rw, 0, false⟩
/-- Offset of HJF_GROUP_ENT (R304). -/
def HJF_GROUP_ENT : Nat := 0xC00030
def HJF_GROUP_ENT_ENTRY : Fld := ⟨HJF_GROUP_ENT, 0, 64, .ro, 0, false⟩
/-- Offset of HJF_LOGHEAD (R304). -/
def HJF_LOGHEAD : Nat := 0xC00040
def HJF_LOGHEAD_NEXT : Fld := ⟨HJF_LOGHEAD, 0, 5, .ro, 0, false⟩
def HJF_LOGHEAD_TOTAL : Fld := ⟨HJF_LOGHEAD, 8, 24, .ro, 0, false⟩
/-- Offset of HJF_T_REQIN (R304). -/
def HJF_T_REQIN : Nat := 0xC00080
def HJF_T_REQIN_COUNT : Fld := ⟨HJF_T_REQIN, 0, 32, .rl, 0, false⟩
/-- Offset of HJF_T_DENIED (R304). -/
def HJF_T_DENIED : Nat := 0xC00084
def HJF_T_DENIED_COUNT : Fld := ⟨HJF_T_DENIED, 0, 32, .rl, 0, false⟩
/-- Offset of HJF_T_DISCARD (R304). -/
def HJF_T_DISCARD : Nat := 0xC00088
def HJF_T_DISCARD_COUNT : Fld := ⟨HJF_T_DISCARD, 0, 32, .rl, 0, false⟩
/-- Offset of HJF_T_TRANSIT (R304). -/
def HJF_T_TRANSIT : Nat := 0xC0008C
def HJF_T_TRANSIT_COUNT : Fld := ⟨HJF_T_TRANSIT, 0, 32, .rl, 0, false⟩
/-- Offset of HJF_Pp_STAT (R304). -/
def HJF_Pp_STAT (p : Nat) : Nat := 0xC01000 + p * 0x40
def HJF_Pp_STAT_STATE (p : Nat) : Fld := ⟨HJF_Pp_STAT p, 0, 2, .ro, 0, false⟩
def HJF_Pp_STAT_SPARE_IN (p : Nat) : Fld := ⟨HJF_Pp_STAT p, 2, 1, .ro, 0, true⟩
def HJF_Pp_STAT_LANE_OUT (p : Nat) : Fld := ⟨HJF_Pp_STAT p, 3, 2, .ro, 0, true⟩
def HJF_Pp_STAT_PEER_SWITCH (p : Nat) : Fld := ⟨HJF_Pp_STAT p, 5, 1, .ro, 0, false⟩
/-- Offset of HJF_Pp_PEER (R304). -/
def HJF_Pp_PEER (p : Nat) : Nat := 0xC01004 + p * 0x40
def HJF_Pp_PEER_ID (p : Nat) : Fld := ⟨HJF_Pp_PEER p, 0, 16, .ro, 0, false⟩
def HJF_Pp_PEER_VALID (p : Nat) : Fld := ⟨HJF_Pp_PEER p, 16, 1, .ro, 0, false⟩
/-- Offset of HJF_Pp_RETRY (R304). -/
def HJF_Pp_RETRY (p : Nat) : Nat := 0xC01008 + p * 0x40
def HJF_Pp_RETRY_COUNT (p : Nat) : Fld := ⟨HJF_Pp_RETRY p, 0, 32, .rl, 0, false⟩
/-- Offset of HJF_Pp_FECCOR (R304). -/
def HJF_Pp_FECCOR (p : Nat) : Nat := 0xC0100C + p * 0x40
def HJF_Pp_FECCOR_COUNT (p : Nat) : Fld := ⟨HJF_Pp_FECCOR p, 0, 32, .rl, 0, false⟩
/-- Offset of HJF_Pp_TXFLIT (R304). -/
def HJF_Pp_TXFLIT (p : Nat) : Nat := 0xC01010 + p * 0x40
def HJF_Pp_TXFLIT_COUNT (p : Nat) : Fld := ⟨HJF_Pp_TXFLIT p, 0, 32, .rl, 0, false⟩
/-- Offset of HJF_Pp_RXFLIT (R304). -/
def HJF_Pp_RXFLIT (p : Nat) : Nat := 0xC01014 + p * 0x40
def HJF_Pp_RXFLIT_COUNT (p : Nat) : Fld := ⟨HJF_Pp_RXFLIT p, 0, 32, .rl, 0, false⟩
/-- Offset of HJF_LOG_ENT0 (R304). -/
def HJF_LOG_ENT0 (e : Nat) : Nat := 0xC04000 + e * 0x10
def HJF_LOG_ENT0_ENT (e : Nat) : Fld := ⟨HJF_LOG_ENT0 e, 0, 64, .ro, 0, false⟩
/-- Offset of HJF_LOG_ENT1 (R304). -/
def HJF_LOG_ENT1 (e : Nat) : Nat := 0xC04008 + e * 0x10
def HJF_LOG_ENT1_ENT (e : Nat) : Fld := ⟨HJF_LOG_ENT1 e, 0, 64, .ro, 0, false⟩
/-- Offset of HJF_ORD (R324). -/
def HJF_ORD : Nat := 0xC00100
def HJF_ORD_TIMEOUT : Fld := ⟨HJF_ORD, 0, 16, .rw, 200, false⟩
/-- Offset of HJF_DF (R324). -/
def HJF_DF : Nat := 0xC00104
def HJF_DF_IDLE : Fld := ⟨HJF_DF, 0, 16, .rw, 1000, false⟩
def HJF_DF_STREAMS : Fld := ⟨HJF_DF, 16, 14, .ro, 0, false⟩
/-- Offset of HJF_COMB (R324). -/
def HJF_COMB : Nat := 0xC00108
def HJF_COMB_CRED : Fld := ⟨HJF_COMB, 0, 4, .rw, 8, false⟩
def HJF_COMB_HOT_THR : Fld := ⟨HJF_COMB, 8, 16, .rw, 64, false⟩
/-- Offset of HJF_HOT (R324). -/
def HJF_HOT : Nat := 0xC00110
def HJF_HOT_LINE : Fld := ⟨HJF_HOT, 0, 43, .ro, 0, false⟩
def HJF_HOT_COMB : Fld := ⟨HJF_HOT, 44, 4, .ro, 0, false⟩
/-- Offset of HJF_GATE (R324). -/
def HJF_GATE : Nat := 0xC00118
def HJF_GATE_FENCED : Fld := ⟨HJF_GATE, 0, 8, .ro, 0, false⟩
def HJF_GATE_ELEC : Fld := ⟨HJF_GATE, 8, 8, .ro, 0, false⟩
/-- Offset of HJF_OSTAT (R324). -/
def HJF_OSTAT : Nat := 0xC00140
def HJF_OSTAT_TIMEOUT : Fld := ⟨HJF_OSTAT, 0, 1, .w1c, 0, false⟩
def HJF_OSTAT_STALE : Fld := ⟨HJF_OSTAT, 1, 1, .w1c, 0, false⟩
def HJF_OSTAT_HOTLINE : Fld := ⟨HJF_OSTAT, 2, 1, .w1c, 0, false⟩
def HJF_OSTAT_FENCED : Fld := ⟨HJF_OSTAT, 3, 1, .w1c, 0, false⟩
def HJF_OSTAT_DF_REFUSED : Fld := ⟨HJF_OSTAT, 4, 1, .w1c, 0, false⟩
/-- Offset of HJF_OEVT_MASK (R324). -/
def HJF_OEVT_MASK : Nat := 0xC00144
def HJF_OEVT_MASK_MASK : Fld := ⟨HJF_OEVT_MASK, 0, 5, .rw, 0, false⟩
/-- Offset of HJF_OEVT_VEC (R324). -/
def HJF_OEVT_VEC : Nat := 0xC00148
def HJF_OEVT_VEC_VEC : Fld := ⟨HJF_OEVT_VEC, 0, 11, .rw, 0, false⟩
/-- Offset of HJF_GATE_KEYp (R324). -/
def HJF_GATE_KEYp (p : Nat) : Nat := 0xC00120 + p * 0x4
def HJF_GATE_KEYp_EXTKEY (p : Nat) : Fld := ⟨HJF_GATE_KEYp p, 0, 32, .ro, 0, false⟩
/-- Offset of HJF_T_REISSUE (R324). -/
def HJF_T_REISSUE : Nat := 0xC00180
def HJF_T_REISSUE_COUNT : Fld := ⟨HJF_T_REISSUE, 0, 32, .rl, 0, false⟩
/-- Offset of HJF_T_DUP (R324). -/
def HJF_T_DUP : Nat := 0xC00184
def HJF_T_DUP_COUNT : Fld := ⟨HJF_T_DUP, 0, 32, .rl, 0, false⟩
/-- Offset of HJF_T_STALE (R324). -/
def HJF_T_STALE : Nat := 0xC00188
def HJF_T_STALE_COUNT : Fld := ⟨HJF_T_STALE, 0, 32, .rl, 0, false⟩
/-- Offset of HJF_T_DUPACK (R324). -/
def HJF_T_DUPACK : Nat := 0xC0018C
def HJF_T_DUPACK_COUNT : Fld := ⟨HJF_T_DUPACK, 0, 32, .rl, 0, false⟩
/-- Offset of HJF_T_TIMEOUT (R324). -/
def HJF_T_TIMEOUT : Nat := 0xC00190
def HJF_T_TIMEOUT_COUNT : Fld := ⟨HJF_T_TIMEOUT, 0, 32, .rl, 0, false⟩
/-- Offset of HJF_T_HOTLINE (R324). -/
def HJF_T_HOTLINE : Nat := 0xC00194
def HJF_T_HOTLINE_COUNT : Fld := ⟨HJF_T_HOTLINE, 0, 32, .rl, 0, false⟩
/-- Offset of HJF_T_FENCED (R324). -/
def HJF_T_FENCED : Nat := 0xC00198
def HJF_T_FENCED_COUNT : Fld := ⟨HJF_T_FENCED, 0, 32, .rl, 0, false⟩
/-- Offset of HJF_T_COMBWAIT (R324). -/
def HJF_T_COMBWAIT : Nat := 0xC0019C
def HJF_T_COMBWAIT_COUNT : Fld := ⟨HJF_T_COMBWAIT, 0, 32, .rl, 0, false⟩
/-- Offset of SCHED_CTRL (R348). -/
def SCHED_CTRL : Nat := 0xD00000
def SCHED_CTRL_BLOCK : Fld := ⟨SCHED_CTRL, 0, 16, .rw, 2048, false⟩
/-- Offset of SCHED_STAT (R348). -/
def SCHED_STAT : Nat := 0xD00004
def SCHED_STAT_CTXS : Fld := ⟨SCHED_STAT, 0, 12, .ro, 0, false⟩
def SCHED_STAT_MBX_OVR : Fld := ⟨SCHED_STAT, 16, 1, .w1c, 0, false⟩
def SCHED_STAT_DLOG_OVF : Fld := ⟨SCHED_STAT, 17, 1, .w1c, 0, false⟩
def SCHED_STAT_LOST_BOUND : Fld := ⟨SCHED_STAT, 18, 1, .w1c, 0, false⟩
/-- Offset of SCHED_EVT_MASK (R348). -/
def SCHED_EVT_MASK : Nat := 0xD00008
def SCHED_EVT_MASK_MASK : Fld := ⟨SCHED_EVT_MASK, 16, 3, .rw, 0, false⟩
/-- Offset of SCHED_EVT_VEC (R348). -/
def SCHED_EVT_VEC : Nat := 0xD0000C
def SCHED_EVT_VEC_VEC : Fld := ⟨SCHED_EVT_VEC, 0, 11, .rw, 0, false⟩
/-- Offset of SCHED_T_SWAP (R348). -/
def SCHED_T_SWAP : Nat := 0xD00020
def SCHED_T_SWAP_COUNT : Fld := ⟨SCHED_T_SWAP, 0, 32, .rl, 0, false⟩
/-- Offset of SCHED_T_BLOCK (R348). -/
def SCHED_T_BLOCK : Nat := 0xD00024
def SCHED_T_BLOCK_COUNT : Fld := ⟨SCHED_T_BLOCK, 0, 32, .rl, 0, false⟩
/-- Offset of SCHED_T_SPILL (R348). -/
def SCHED_T_SPILL : Nat := 0xD00028
def SCHED_T_SPILL_COUNT : Fld := ⟨SCHED_T_SPILL, 0, 32, .rl, 0, false⟩
/-- Offset of SCHED_T_RESTART (R348). -/
def SCHED_T_RESTART : Nat := 0xD0002C
def SCHED_T_RESTART_COUNT : Fld := ⟨SCHED_T_RESTART, 0, 32, .rl, 0, false⟩
/-- Offset of SCHED_T_FALLBACK (R348). -/
def SCHED_T_FALLBACK : Nat := 0xD00030
def SCHED_T_FALLBACK_COUNT : Fld := ⟨SCHED_T_FALLBACK, 0, 32, .rl, 0, false⟩
/-- Offset of SCHED_T_REFSTALL (R362). -/
def SCHED_T_REFSTALL : Nat := 0xD00034
def SCHED_T_REFSTALL_COUNT : Fld := ⟨SCHED_T_REFSTALL, 0, 32, .rl, 0, false⟩
/-- Offset of SCHED_DET (R362). -/
def SCHED_DET : Nat := 0xD00040
def SCHED_DET_NUMERIC : Fld := ⟨SCHED_DET, 0, 8, .ro, 0x01, false⟩
def SCHED_DET_PARTS : Fld := ⟨SCHED_DET, 8, 8, .ro, 0, false⟩
/-- Offset of SCHED_DET_FW (R362). -/
def SCHED_DET_FW : Nat := 0xD00044
def SCHED_DET_FW_FWVER : Fld := ⟨SCHED_DET_FW, 0, 32, .ro, 0, false⟩
/-- Offset of SCHED_DET_PAD (R362). -/
def SCHED_DET_PAD : Nat := 0xD00048
def SCHED_DET_PAD_T0 : Fld := ⟨SCHED_DET_PAD, 0, 16, .ro, 160, false⟩
def SCHED_DET_PAD_T1 : Fld := ⟨SCHED_DET_PAD, 16, 16, .ro, 640, false⟩
def SCHED_DET_PAD_T2 : Fld := ⟨SCHED_DET_PAD, 32, 16, .ro, 1280, false⟩
/-- Offset of SCHED_Pp_INFO (R348). -/
def SCHED_Pp_INFO (p : Nat) : Nat := 0xD01000 + p * 0x80
def SCHED_Pp_INFO_STATE (p : Nat) : Fld := ⟨SCHED_Pp_INFO p, 0, 2, .ro, 0, false⟩
def SCHED_Pp_INFO_FUNC (p : Nat) : Fld := ⟨SCHED_Pp_INFO p, 8, 6, .ro, 0, false⟩
def SCHED_Pp_INFO_NRES (p : Nat) : Fld := ⟨SCHED_Pp_INFO p, 16, 7, .ro, 0, false⟩
def SCHED_Pp_INFO_DET (p : Nat) : Fld := ⟨SCHED_Pp_INFO p, 24, 1, .ro, 0, false⟩
/-- Offset of SCHED_Pp_CTX (R348). -/
def SCHED_Pp_CTX (p : Nat) : Nat := 0xD01004 + p * 0x80
def SCHED_Pp_CTX_CTXS (p : Nat) : Fld := ⟨SCHED_Pp_CTX p, 0, 10, .ro, 0, false⟩
def SCHED_Pp_CTX_RESIDENT (p : Nat) : Fld := ⟨SCHED_Pp_CTX p, 10, 7, .ro, 0, false⟩
def SCHED_Pp_CTX_WAITING (p : Nat) : Fld := ⟨SCHED_Pp_CTX p, 17, 10, .ro, 0, false⟩
/-- Offset of SCHED_Pp_CORESi (R348). -/
def SCHED_Pp_CORESi (p i : Nat) : Nat := 0xD01008 + p * 0x80 + i * 0x8
def SCHED_Pp_CORESi_CORES (p i : Nat) : Fld := ⟨SCHED_Pp_CORESi p i, 0, 64, .ro, 0, false⟩
/-- Offset of SCHED_Pp_REG_T1 (R348). -/
def SCHED_Pp_REG_T1 (p : Nat) : Nat := 0xD01020 + p * 0x80
def SCHED_Pp_REG_T1_RATE (p : Nat) : Fld := ⟨SCHED_Pp_REG_T1 p, 0, 16, .rw, 0, false⟩
def SCHED_Pp_REG_T1_BURST (p : Nat) : Fld := ⟨SCHED_Pp_REG_T1 p, 32, 16, .rw, 64, false⟩
/-- Offset of SCHED_Pp_REG_T2 (R348). -/
def SCHED_Pp_REG_T2 (p : Nat) : Nat := 0xD01028 + p * 0x80
def SCHED_Pp_REG_T2_RATE (p : Nat) : Fld := ⟨SCHED_Pp_REG_T2 p, 0, 16, .rw, 0, false⟩
def SCHED_Pp_REG_T2_BURST (p : Nat) : Fld := ⟨SCHED_Pp_REG_T2 p, 32, 16, .rw, 64, false⟩
/-- Offset of SCHED_Pp_REG_FAB (R348). -/
def SCHED_Pp_REG_FAB (p : Nat) : Nat := 0xD01030 + p * 0x80
def SCHED_Pp_REG_FAB_RATE (p : Nat) : Fld := ⟨SCHED_Pp_REG_FAB p, 0, 16, .rw, 0, false⟩
def SCHED_Pp_REG_FAB_BURST (p : Nat) : Fld := ⟨SCHED_Pp_REG_FAB p, 32, 16, .rw, 64, false⟩
/-- Offset of SCHED_Pp_WAIT_T1 (R348). -/
def SCHED_Pp_WAIT_T1 (p : Nat) : Nat := 0xD01038 + p * 0x80
def SCHED_Pp_WAIT_T1_COUNT (p : Nat) : Fld := ⟨SCHED_Pp_WAIT_T1 p, 0, 32, .rl, 0, false⟩
/-- Offset of SCHED_Pp_WAIT_T2 (R348). -/
def SCHED_Pp_WAIT_T2 (p : Nat) : Nat := 0xD0103C + p * 0x80
def SCHED_Pp_WAIT_T2_COUNT (p : Nat) : Fld := ⟨SCHED_Pp_WAIT_T2 p, 0, 32, .rl, 0, false⟩
/-- Offset of SCHED_Pp_WAIT_FAB (R348). -/
def SCHED_Pp_WAIT_FAB (p : Nat) : Nat := 0xD01040 + p * 0x80
def SCHED_Pp_WAIT_FAB_COUNT (p : Nat) : Fld := ⟨SCHED_Pp_WAIT_FAB p, 0, 32, .rl, 0, false⟩
/-- Offset of SCHED_Pp_LEASE (R348). -/
def SCHED_Pp_LEASE (p : Nat) : Nat := 0xD01044 + p * 0x80
def SCHED_Pp_LEASE_COUNT (p : Nat) : Fld := ⟨SCHED_Pp_LEASE p, 0, 32, .rl, 0, false⟩
/-- Offset of SCHED_DLOGv_CTRL (R348). -/
def SCHED_DLOGv_CTRL (v : Nat) : Nat := 0xD02000 + v * 0x40
def SCHED_DLOGv_CTRL_EN (v : Nat) : Fld := ⟨SCHED_DLOGv_CTRL v, 0, 1, .rw, 0, false⟩
def SCHED_DLOGv_CTRL_SWAP (v : Nat) : Fld := ⟨SCHED_DLOGv_CTRL v, 1, 1, .wo, 0, false⟩
/-- Offset of SCHED_DLOGv_STAT (R348). -/
def SCHED_DLOGv_STAT (v : Nat) : Nat := 0xD02004 + v * 0x40
def SCHED_DLOGv_STAT_ACTIVE (v : Nat) : Fld := ⟨SCHED_DLOGv_STAT v, 0, 1, .ro, 0, false⟩
def SCHED_DLOGv_STAT_FLUSH (v : Nat) : Fld := ⟨SCHED_DLOGv_STAT v, 1, 1, .ro, 0, false⟩
def SCHED_DLOGv_STAT_OVF (v : Nat) : Fld := ⟨SCHED_DLOGv_STAT v, 2, 1, .w1c, 0, false⟩
def SCHED_DLOGv_STAT_SWAP_REFUSED (v : Nat) : Fld := ⟨SCHED_DLOGv_STAT v, 3, 1, .w1c, 0, false⟩
/-- Offset of SCHED_DLOGv_BASE (R348). -/
def SCHED_DLOGv_BASE (v : Nat) : Nat := 0xD02008 + v * 0x40
def SCHED_DLOGv_BASE_BASE (v : Nat) : Fld := ⟨SCHED_DLOGv_BASE v, 12, 52, .rw, 0, false⟩
/-- Offset of SCHED_DLOGv_PAGES (R348). -/
def SCHED_DLOGv_PAGES (v : Nat) : Nat := 0xD02010 + v * 0x40
def SCHED_DLOGv_PAGES_PAGES (v : Nat) : Fld := ⟨SCHED_DLOGv_PAGES v, 0, 29, .rw, 0, false⟩
/-- Offset of SCHED_DLOGv_BUF0 (R348). -/
def SCHED_DLOGv_BUF0 (v : Nat) : Nat := 0xD02018 + v * 0x40
def SCHED_DLOGv_BUF0_ADDR (v : Nat) : Fld := ⟨SCHED_DLOGv_BUF0 v, 3, 61, .rw, 0, false⟩
/-- Offset of SCHED_DLOGv_BUF1 (R348). -/
def SCHED_DLOGv_BUF1 (v : Nat) : Nat := 0xD02020 + v * 0x40
def SCHED_DLOGv_BUF1_ADDR (v : Nat) : Fld := ⟨SCHED_DLOGv_BUF1 v, 3, 61, .rw, 0, false⟩
/-- Offset of SCHED_DLOGv_T_PAGES (R348). -/
def SCHED_DLOGv_T_PAGES (v : Nat) : Nat := 0xD02028 + v * 0x40
def SCHED_DLOGv_T_PAGES_COUNT (v : Nat) : Fld := ⟨SCHED_DLOGv_T_PAGES v, 0, 32, .rl, 0, false⟩
/-- Offset of SCHED_MBXv_CTRL (R348). -/
def SCHED_MBXv_CTRL (v : Nat) : Nat := 0xD03000 + v * 0x10
def SCHED_MBXv_CTRL_V2P_POST (v : Nat) : Fld := ⟨SCHED_MBXv_CTRL v, 0, 1, .wo, 0, false⟩
def SCHED_MBXv_CTRL_V2P_FULL (v : Nat) : Fld := ⟨SCHED_MBXv_CTRL v, 1, 1, .ro, 0, false⟩
def SCHED_MBXv_CTRL_V2P_ACK (v : Nat) : Fld := ⟨SCHED_MBXv_CTRL v, 2, 1, .wo, 0, false⟩
def SCHED_MBXv_CTRL_P2V_POST (v : Nat) : Fld := ⟨SCHED_MBXv_CTRL v, 8, 1, .wo, 0, false⟩
def SCHED_MBXv_CTRL_P2V_FULL (v : Nat) : Fld := ⟨SCHED_MBXv_CTRL v, 9, 1, .ro, 0, false⟩
def SCHED_MBXv_CTRL_P2V_ACK (v : Nat) : Fld := ⟨SCHED_MBXv_CTRL v, 10, 1, .wo, 0, false⟩
/-- Offset of SCHED_MBXv_VEC (R348). -/
def SCHED_MBXv_VEC (v : Nat) : Nat := 0xD03004 + v * 0x10
def SCHED_MBXv_VEC_PF_VEC (v : Nat) : Fld := ⟨SCHED_MBXv_VEC v, 0, 11, .rw, 0, false⟩
def SCHED_MBXv_VEC_VF_VEC (v : Nat) : Fld := ⟨SCHED_MBXv_VEC v, 16, 11, .rw, 0, false⟩
/-- Offset of FLT_STAT (R390). -/
def FLT_STAT : Nat := 0xE00000
def FLT_STAT_ITEM_FAILED : Fld := ⟨FLT_STAT, 0, 1, .w1c, 0, false⟩
def FLT_STAT_SUSPECT : Fld := ⟨FLT_STAT, 1, 1, .w1c, 0, false⟩
def FLT_STAT_SPARED : Fld := ⟨FLT_STAT, 2, 1, .w1c, 0, false⟩
def FLT_STAT_NO_SPARE : Fld := ⟨FLT_STAT, 3, 1, .w1c, 0, false⟩
def FLT_STAT_SHADOW : Fld := ⟨FLT_STAT, 4, 1, .w1c, 0, false⟩
def FLT_STAT_WDOG : Fld := ⟨FLT_STAT, 5, 1, .w1c, 0, false⟩
def FLT_STAT_REFMON : Fld := ⟨FLT_STAT, 6, 1, .w1c, 0, false⟩
def FLT_STAT_LEDGER_LOW : Fld := ⟨FLT_STAT, 7, 1, .ro, 0, false⟩
/-- Offset of FLT_EVT_MASK (R390). -/
def FLT_EVT_MASK : Nat := 0xE00004
def FLT_EVT_MASK_MASK : Fld := ⟨FLT_EVT_MASK, 0, 8, .rw, 0, false⟩
/-- Offset of FLT_EVT_VEC (R390). -/
def FLT_EVT_VEC : Nat := 0xE00008
def FLT_EVT_VEC_VEC : Fld := ⟨FLT_EVT_VEC, 0, 11, .rw, 0, false⟩
/-- Offset of FLT_ASSAY (R390). -/
def FLT_ASSAY : Nat := 0xE00010
def FLT_ASSAY_PERIOD : Fld := ⟨FLT_ASSAY, 0, 8, .rw, 10, false⟩
def FLT_ASSAY_THR : Fld := ⟨FLT_ASSAY, 8, 2, .rwp, 2, true⟩
/-- Offset of FLT_WDOG (R390). -/
def FLT_WDOG : Nat := 0xE00014
def FLT_WDOG_TD : Fld := ⟨FLT_WDOG, 0, 3, .rw, 6, false⟩
def FLT_WDOG_MISS : Fld := ⟨FLT_WDOG, 4, 4, .rw, 2, false⟩
/-- Offset of FLT_HEART (R390). -/
def FLT_HEART : Nat := 0xE00018
def FLT_HEART_ALIVE : Fld := ⟨FLT_HEART, 0, 10, .ro, 0x3FF, false⟩
/-- Offset of FLT_REFMON (R390). -/
def FLT_REFMON : Nat := 0xE00020
def FLT_REFMON_PROC : Fld := ⟨FLT_REFMON, 0, 4, .ro, 0, false⟩
def FLT_REFMON_STATE : Fld := ⟨FLT_REFMON, 8, 8, .ro, 0, false⟩
def FLT_REFMON_OPCODE : Fld := ⟨FLT_REFMON, 16, 16, .ro, 0, false⟩
def FLT_REFMON_SEQ : Fld := ⟨FLT_REFMON, 32, 32, .ro, 0, false⟩
/-- Offset of FLT_SPARE (R390). -/
def FLT_SPARE : Nat := 0xE00028
def FLT_SPARE_MC : Fld := ⟨FLT_SPARE, 0, 6, .ro, 16, true⟩
def FLT_SPARE_SC : Fld := ⟨FLT_SPARE, 6, 4, .ro, 8, true⟩
def FLT_SPARE_CP : Fld := ⟨FLT_SPARE, 10, 1, .ro, 1, true⟩
def FLT_SPARE_LDPC : Fld := ⟨FLT_SPARE, 11, 5, .ro, 16, true⟩
def FLT_SPARE_POLAR : Fld := ⟨FLT_SPARE, 16, 4, .ro, 8, true⟩
def FLT_SPARE_FH : Fld := ⟨FLT_SPARE, 20, 3, .ro, 4, true⟩
def FLT_SPARE_HJF : Fld := ⟨FLT_SPARE, 27, 5, .ro, 16, true⟩
def FLT_SPARE_HBMCH : Fld := ⟨FLT_SPARE, 32, 16, .ro, 0xFFF, true⟩
/-- Offset of FLT_SPARE_CFG (R390). -/
def FLT_SPARE_CFG : Nat := 0xE00030
def FLT_SPARE_CFG_CE_THR : Fld := ⟨FLT_SPARE_CFG, 0, 8, .rwp, 16, true⟩
def FLT_SPARE_CFG_CH_THR : Fld := ⟨FLT_SPARE_CFG, 8, 16, .rwp, 64, true⟩
/-- Offset of FLT_HOURS (R390). -/
def FLT_HOURS : Nat := 0xE00034
def FLT_HOURS_HOURS : Fld := ⟨FLT_HOURS, 0, 32, .ro, 0, true⟩
/-- Offset of FLT_HIST_SEL (R390). -/
def FLT_HIST_SEL : Nat := 0xE00038
def FLT_HIST_SEL_ENTRY : Fld := ⟨FLT_HIST_SEL, 0, 8, .rw, 0, false⟩
/-- Offset of FLT_HIST_ENT0 (R390). -/
def FLT_HIST_ENT0 : Nat := 0xE00040
def FLT_HIST_ENT0_EVENT_LO : Fld := ⟨FLT_HIST_ENT0, 0, 64, .ro, 0, true⟩
/-- Offset of FLT_HIST_ENT1 (R390). -/
def FLT_HIST_ENT1 : Nat := 0xE00048
def FLT_HIST_ENT1_EVENT_HI : Fld := ⟨FLT_HIST_ENT1, 0, 64, .ro, 0, true⟩
/-- Offset of FLT_T_ITEMS (R390). -/
def FLT_T_ITEMS : Nat := 0xE00080
def FLT_T_ITEMS_COUNT : Fld := ⟨FLT_T_ITEMS, 0, 32, .rl, 0, false⟩
/-- Offset of FLT_T_ASSAY (R390). -/
def FLT_T_ASSAY : Nat := 0xE00084
def FLT_T_ASSAY_COUNT : Fld := ⟨FLT_T_ASSAY, 0, 32, .rl, 0, false⟩
/-- Offset of FLT_T_MISMATCH (R390). -/
def FLT_T_MISMATCH : Nat := 0xE00088
def FLT_T_MISMATCH_COUNT : Fld := ⟨FLT_T_MISMATCH, 0, 32, .rl, 0, false⟩
/-- Offset of FLT_T_SHADOW (R390). -/
def FLT_T_SHADOW : Nat := 0xE0008C
def FLT_T_SHADOW_COUNT : Fld := ⟨FLT_T_SHADOW, 0, 32, .rl, 0, false⟩
/-- Offset of FLT_T_SPARED (R390). -/
def FLT_T_SPARED : Nat := 0xE00090
def FLT_T_SPARED_COUNT : Fld := ⟨FLT_T_SPARED, 0, 32, .rl, 0, false⟩
/-- Offset of FLT_T_WDOG (R390). -/
def FLT_T_WDOG : Nat := 0xE00094
def FLT_T_WDOG_COUNT : Fld := ⟨FLT_T_WDOG, 0, 32, .rl, 0, false⟩
/-- Offset of FLT_T_REFMON (R390). -/
def FLT_T_REFMON : Nat := 0xE00098
def FLT_T_REFMON_COUNT : Fld := ⟨FLT_T_REFMON, 0, 32, .rl, 0, false⟩
/-- Offset of FLT_T_LGSTALL (R390). -/
def FLT_T_LGSTALL : Nat := 0xE0009C
def FLT_T_LGSTALL_COUNT : Fld := ⟨FLT_T_LGSTALL, 0, 32, .rl, 0, false⟩
/-- Offset of FLT_LGf_CFG (R390). -/
def FLT_LGf_CFG (f : Nat) : Nat := 0xE01000 + f * 0x40
def FLT_LGf_CFG_EN (f : Nat) : Fld := ⟨FLT_LGf_CFG f, 0, 1, .rw, 0, false⟩
def FLT_LGf_CFG_SIZE (f : Nat) : Fld := ⟨FLT_LGf_CFG f, 1, 4, .rw, 0, false⟩
def FLT_LGf_CFG_VEC (f : Nat) : Fld := ⟨FLT_LGf_CFG f, 5, 11, .rw, 0, false⟩
def FLT_LGf_CFG_IRQ_EN (f : Nat) : Fld := ⟨FLT_LGf_CFG f, 16, 1, .rw, 0, false⟩
/-- Offset of FLT_LGf_BASE (R390). -/
def FLT_LGf_BASE (f : Nat) : Nat := 0xE01008 + f * 0x40
def FLT_LGf_BASE_ADDR (f : Nat) : Fld := ⟨FLT_LGf_BASE f, 12, 52, .rw, 0, false⟩
/-- Offset of FLT_LGf_HEAD (R390). -/
def FLT_LGf_HEAD (f : Nat) : Nat := 0xE01010 + f * 0x40
def FLT_LGf_HEAD_HEAD (f : Nat) : Fld := ⟨FLT_LGf_HEAD f, 0, 32, .rw, 0, false⟩
/-- Offset of FLT_LGf_TAIL (R390). -/
def FLT_LGf_TAIL (f : Nat) : Nat := 0xE01014 + f * 0x40
def FLT_LGf_TAIL_TAIL (f : Nat) : Fld := ⟨FLT_LGf_TAIL f, 0, 32, .ro, 0, false⟩
/-- Offset of FLT_LGf_NEXT (R390). -/
def FLT_LGf_NEXT (f : Nat) : Nat := 0xE01018 + f * 0x40
def FLT_LGf_NEXT_NEXT (f : Nat) : Fld := ⟨FLT_LGf_NEXT f, 0, 32, .ro, 0, false⟩
/-- Offset of FLT_LGf_BACKLOG (R390). -/
def FLT_LGf_BACKLOG (f : Nat) : Nat := 0xE01020 + f * 0x40
def FLT_LGf_BACKLOG_HELD (f : Nat) : Fld := ⟨FLT_LGf_BACKLOG f, 0, 23, .ro, 0, false⟩
def FLT_LGf_BACKLOG_RESV (f : Nat) : Fld := ⟨FLT_LGf_BACKLOG f, 32, 23, .ro, 0, false⟩
/-- Offset of FLT_MCp_ASSAY (R390). -/
def FLT_MCp_ASSAY (p : Nat) : Nat := 0xE02000 + p * 0x20
def FLT_MCp_ASSAY_BAND_LAST (p : Nat) : Fld := ⟨FLT_MCp_ASSAY p, 0, 8, .ro, 0, false⟩
def FLT_MCp_ASSAY_PERIOD_CNT (p : Nat) : Fld := ⟨FLT_MCp_ASSAY p, 8, 8, .ro, 0, false⟩
def FLT_MCp_ASSAY_SUSPECT (p : Nat) : Fld := ⟨FLT_MCp_ASSAY p, 16, 1, .ro, 0, true⟩
/-- Offset of FLT_MCp_ACELL0 (R390). -/
def FLT_MCp_ACELL0 (p : Nat) : Nat := 0xE02008 + p * 0x20
def FLT_MCp_ACELL0_CELLS (p : Nat) : Fld := ⟨FLT_MCp_ACELL0 p, 0, 64, .ro, 0, true⟩
/-- Offset of FLT_MCp_ACELL1 (R390). -/
def FLT_MCp_ACELL1 (p : Nat) : Nat := 0xE02010 + p * 0x20
def FLT_MCp_ACELL1_CELLS (p : Nat) : Fld := ⟨FLT_MCp_ACELL1 p, 0, 64, .ro, 0, true⟩
/-- Offset of FLT_SCq_ASSAY (R390). -/
def FLT_SCq_ASSAY (q : Nat) : Nat := 0xE04000 + q * 0x20
def FLT_SCq_ASSAY_BAND_LAST (q : Nat) : Fld := ⟨FLT_SCq_ASSAY q, 0, 8, .ro, 0, false⟩
def FLT_SCq_ASSAY_PERIOD_CNT (q : Nat) : Fld := ⟨FLT_SCq_ASSAY q, 8, 8, .ro, 0, false⟩
def FLT_SCq_ASSAY_SUSPECT (q : Nat) : Fld := ⟨FLT_SCq_ASSAY q, 16, 1, .ro, 0, true⟩
/-- Offset of FLT_SCq_ACELL0 (R390). -/
def FLT_SCq_ACELL0 (q : Nat) : Nat := 0xE04008 + q * 0x20
def FLT_SCq_ACELL0_CELLS (q : Nat) : Fld := ⟨FLT_SCq_ACELL0 q, 0, 64, .ro, 0, true⟩
/-- Offset of FLT_SCq_ACELL1 (R390). -/
def FLT_SCq_ACELL1 (q : Nat) : Nat := 0xE04010 + q * 0x20
def FLT_SCq_ACELL1_CELLS (q : Nat) : Fld := ⟨FLT_SCq_ACELL1 q, 0, 64, .ro, 0, true⟩
/-- Offset of PWR_STAT (R406). -/
def PWR_STAT : Nat := 0xF00000
def PWR_STAT_THERM_WARN : Fld := ⟨PWR_STAT, 0, 1, .w1c, 0, false⟩
def PWR_STAT_THERM_LIMIT : Fld := ⟨PWR_STAT, 1, 1, .w1c, 0, false⟩
def PWR_STAT_CAP : Fld := ⟨PWR_STAT, 2, 1, .w1c, 0, false⟩
def PWR_STAT_DOM_FAULT : Fld := ⟨PWR_STAT, 3, 1, .w1c, 0, false⟩
def PWR_STAT_PIN : Fld := ⟨PWR_STAT, 4, 1, .w1c, 0, false⟩
/-- Offset of PWR_EVT_MASK (R406). -/
def PWR_EVT_MASK : Nat := 0xF00004
def PWR_EVT_MASK_MASK : Fld := ⟨PWR_EVT_MASK, 0, 5, .rw, 0, false⟩
/-- Offset of PWR_EVT_VEC (R406). -/
def PWR_EVT_VEC : Nat := 0xF00008
def PWR_EVT_VEC_VEC : Fld := ⟨PWR_EVT_VEC, 0, 11, .rw, 0, false⟩
/-- Offset of PWR_THROTTLE (R406). -/
def PWR_THROTTLE : Nat := 0xF00010
def PWR_THROTTLE_DUTY : Fld := ⟨PWR_THROTTLE, 0, 7, .rw, 50, false⟩
def PWR_THROTTLE_FORCE : Fld := ⟨PWR_THROTTLE, 8, 1, .rw, 0, false⟩
def PWR_THROTTLE_HOLD_US : Fld := ⟨PWR_THROTTLE, 16, 8, .rw, 10, false⟩
/-- Offset of PWR_TSTAT (R406). -/
def PWR_TSTAT : Nat := 0xF00014
def PWR_TSTAT_PIN : Fld := ⟨PWR_TSTAT, 0, 1, .ro, 0, false⟩
def PWR_TSTAT_FORCE : Fld := ⟨PWR_TSTAT, 1, 1, .ro, 0, false⟩
def PWR_TSTAT_THERMAL : Fld := ⟨PWR_TSTAT, 2, 1, .ro, 0, false⟩
def PWR_TSTAT_CAP : Fld := ⟨PWR_TSTAT, 3, 1, .ro, 0, false⟩
def PWR_TSTAT_RELEASING : Fld := ⟨PWR_TSTAT, 4, 1, .ro, 0, false⟩
def PWR_TSTAT_TRIPPED : Fld := ⟨PWR_TSTAT, 5, 1, .ro, 0, true⟩
def PWR_TSTAT_IN_FORCE : Fld := ⟨PWR_TSTAT, 8, 7, .ro, 100, false⟩
/-- Offset of PWR_CAP (R406). -/
def PWR_CAP : Nat := 0xF00018
def PWR_CAP_WATTS : Fld := ⟨PWR_CAP, 0, 13, .rw, 0, false⟩
/-- Offset of PWR_EST (R406). -/
def PWR_EST : Nat := 0xF00020
def PWR_EST_POWER : Fld := ⟨PWR_EST, 0, 16, .ro, 0, false⟩
def PWR_EST_CURRENT : Fld := ⟨PWR_EST, 32, 16, .ro, 0, false⟩
/-- Offset of PWR_PEAK (R406). -/
def PWR_PEAK : Nat := 0xF00028
def PWR_PEAK_POWER : Fld := ⟨PWR_PEAK, 0, 16, .rc, 0, false⟩
/-- Offset of PWR_THERM (R406). -/
def PWR_THERM : Nat := 0xF00030
def PWR_THERM_WARN : Fld := ⟨PWR_THERM, 0, 8, .rw, 95, false⟩
def PWR_THERM_LIMIT : Fld := ⟨PWR_THERM, 8, 8, .rw, 100, false⟩
def PWR_THERM_HYST : Fld := ⟨PWR_THERM, 16, 8, .rw, 3, false⟩
def PWR_THERM_TRIP : Fld := ⟨PWR_THERM, 24, 8, .ro, 110, true⟩
/-- Offset of PWR_T_ACTIVE (R406). -/
def PWR_T_ACTIVE : Nat := 0xF00080
def PWR_T_ACTIVE_COUNT : Fld := ⟨PWR_T_ACTIVE, 0, 32, .rl, 0, false⟩
/-- Offset of PWR_T_PIN (R406). -/
def PWR_T_PIN : Nat := 0xF00084
def PWR_T_PIN_COUNT : Fld := ⟨PWR_T_PIN, 0, 32, .rl, 0, false⟩
/-- Offset of PWR_T_THERMAL (R406). -/
def PWR_T_THERMAL : Nat := 0xF00088
def PWR_T_THERMAL_COUNT : Fld := ⟨PWR_T_THERMAL, 0, 32, .rl, 0, false⟩
/-- Offset of PWR_T_CAP (R406). -/
def PWR_T_CAP : Nat := 0xF0008C
def PWR_T_CAP_COUNT : Fld := ⟨PWR_T_CAP, 0, 32, .rl, 0, false⟩
/-- Offset of PWR_TEMPi (R406). -/
def PWR_TEMPi (i : Nat) : Nat := 0xF00100 + i * 0x4
def PWR_TEMPi_NOW (i : Nat) : Fld := ⟨PWR_TEMPi i, 0, 12, .ro, 0, false⟩
def PWR_TEMPi_MAX (i : Nat) : Fld := ⟨PWR_TEMPi i, 16, 12, .ro, 0, false⟩
def PWR_TEMPi_BAND (i : Nat) : Fld := ⟨PWR_TEMPi i, 28, 3, .ro, 0, false⟩
/-- Offset of PWR_DOMd (R406). -/
def PWR_DOMd (d : Nat) : Nat := 0xF00400 + d * 0x4
def PWR_DOMd_STATE (d : Nat) : Fld := ⟨PWR_DOMd d, 0, 2, .ro, (Config.domReset d), true⟩
def PWR_DOMd_FAULT (d : Nat) : Fld := ⟨PWR_DOMd d, 2, 1, .ro, 0, true⟩
def PWR_DOMd_UNIT (d : Nat) : Fld := ⟨PWR_DOMd d, 8, 8, .ro, (Config.domUnit d), true⟩
/-- Offset of SEC_STAT (R427). -/
def SEC_STAT : Nat := 0x1000000
def SEC_STAT_AUTH_FAIL : Fld := ⟨SEC_STAT, 0, 1, .w1c, 0, false⟩
def SEC_STAT_REVERTED : Fld := ⟨SEC_STAT, 1, 1, .w1c, 0, false⟩
def SEC_STAT_VAULT : Fld := ⟨SEC_STAT, 2, 1, .w1c, 0, false⟩
/-- Offset of SEC_EVT_MASK (R427). -/
def SEC_EVT_MASK : Nat := 0x1000004
def SEC_EVT_MASK_MASK : Fld := ⟨SEC_EVT_MASK, 0, 3, .rw, 0, false⟩
/-- Offset of SEC_EVT_VEC (R427). -/
def SEC_EVT_VEC : Nat := 0x1000008
def SEC_EVT_VEC_VEC : Fld := ⟨SEC_EVT_VEC, 0, 11, .rw, 0, false⟩
/-- Offset of SEC_LC (R427). -/
def SEC_LC : Nat := 0x1000010
def SEC_LC_STATE : Fld := ⟨SEC_LC, 0, 3, .ro, Config.lcReset, true⟩
def SEC_LC_OWNED : Fld := ⟨SEC_LC, 3, 1, .ro, 0, true⟩
def SEC_LC_COUNT : Fld := ⟨SEC_LC, 8, 24, .ro, 0, true⟩
/-- Offset of SEC_BOOT (R427). -/
def SEC_BOOT : Nat := 0x1000040
def SEC_BOOT_BANK : Fld := ⟨SEC_BOOT, 0, 1, .ro, 0, true⟩
def SEC_BOOT_PENDING : Fld := ⟨SEC_BOOT, 1, 1, .ro, 0, true⟩
def SEC_BOOT_REVERTED : Fld := ⟨SEC_BOOT, 2, 1, .w1c, 0, false⟩
def SEC_BOOT_RESULT : Fld := ⟨SEC_BOOT, 4, 2, .ro, 0, false⟩
def SEC_BOOT_REASON : Fld := ⟨SEC_BOOT, 8, 4, .ro, 0, false⟩
/-- Offset of SEC_SVN (R427). -/
def SEC_SVN : Nat := 0x1000044
def SEC_SVN_RUNNING : Fld := ⟨SEC_SVN, 0, 16, .ro, 0, false⟩
def SEC_SVN_MIN : Fld := ⟨SEC_SVN, 16, 16, .ro, 0, true⟩
/-- Offset of SEC_FW_VER (R427). -/
def SEC_FW_VER : Nat := 0x1000048
def SEC_FW_VER_FWVER : Fld := ⟨SEC_FW_VER, 0, 32, .ro, 0, false⟩
/-- Offset of SEC_STAGE (R427). -/
def SEC_STAGE : Nat := 0x100004C
def SEC_STAGE_STATE : Fld := ⟨SEC_STAGE, 0, 2, .ro, 0, false⟩
def SEC_STAGE_BANK : Fld := ⟨SEC_STAGE, 2, 1, .ro, 0, false⟩
def SEC_STAGE_REASON : Fld := ⟨SEC_STAGE, 8, 8, .ro, 0, false⟩
/-- Offset of SEC_VAULT_SEL (R427). -/
def SEC_VAULT_SEL : Nat := 0x10000A0
def SEC_VAULT_SEL_WORD : Fld := ⟨SEC_VAULT_SEL, 0, 12, .rw, 0, false⟩
/-- Offset of SEC_VAULT_DATA (R427). -/
def SEC_VAULT_DATA : Nat := 0x10000A8
def SEC_VAULT_DATA_DATA : Fld := ⟨SEC_VAULT_DATA, 0, 64, .ro, 0, true⟩
/-- Offset of SEC_VAULT_WEAR (R427). -/
def SEC_VAULT_WEAR : Nat := 0x10000B0
def SEC_VAULT_WEAR_WRITES : Fld := ⟨SEC_VAULT_WEAR, 0, 24, .ro, 0, true⟩
/-- Offset of SEC_VAULT_STAT (R427). -/
def SEC_VAULT_STAT : Nat := 0x10000B4
def SEC_VAULT_STAT_WORN : Fld := ⟨SEC_VAULT_STAT, 0, 1, .w1c, 0, false⟩
def SEC_VAULT_STAT_UE : Fld := ⟨SEC_VAULT_STAT, 1, 1, .w1c, 0, false⟩
def SEC_VAULT_STAT_PENDING : Fld := ⟨SEC_VAULT_STAT, 4, 8, .ro, 0, false⟩
/-- Offset of SEC_LC_NONCEn (R427). -/
def SEC_LC_NONCEn (n : Nat) : Nat := 0x1000020 + n * 0x8
def SEC_LC_NONCEn_NONCE (n : Nat) : Fld := ⟨SEC_LC_NONCEn n, 0, 64, .ro, 0, false⟩
/-- Offset of SEC_DEVID_HASHn (R427). -/
def SEC_DEVID_HASHn (n : Nat) : Nat := 0x1000060 + n * 0x8
def SEC_DEVID_HASHn_HASH (n : Nat) : Fld := ⟨SEC_DEVID_HASHn n, 0, 64, .ro, 0, false⟩
/-- Offset of SEC_T_AUTHFAIL (R427). -/
def SEC_T_AUTHFAIL : Nat := 0x10000C0
def SEC_T_AUTHFAIL_COUNT : Fld := ⟨SEC_T_AUTHFAIL, 0, 32, .rl, 0, false⟩
/-- Offset of SEC_T_VAULTWR (R427). -/
def SEC_T_VAULTWR : Nat := 0x10000C4
def SEC_T_VAULTWR_COUNT : Fld := ⟨SEC_T_VAULTWR, 0, 32, .rl, 0, false⟩
/-- Offset of CAL_F_k (R427). -/
def CAL_F_k (k : Nat) : Nat := 0x1000400 + k * 0x4
def CAL_F_k_VALUE (k : Nat) : Fld := ⟨CAL_F_k k, 0, 16, .ro, 0, true⟩
/-- Offset of CAL_U_k (R427). -/
def CAL_U_k (k : Nat) : Nat := 0x1000500 + k * 0x4
def CAL_U_k_VALUE (k : Nat) : Fld := ⟨CAL_U_k k, 0, 16, .ro, 0, true⟩

/-- The DEV registers. -/
def regTableDEV : List RegDef := [
  { name := "DEV_IDENT", base := 0x0, n1 := 1, s1 := 0x0, n2 := 1, s2 := 0x0, width := 32, grp := .none,
    fields := fun _ _ => [DEV_IDENT_FAMILY, DEV_IDENT_GRADE, DEV_IDENT_STEPPING] },
  { name := "DEV_STAT", base := 0x8, n1 := 1, s1 := 0x0, n2 := 1, s2 := 0x0, width := 32, grp := .none,
    fields := fun _ _ => [DEV_STAT_READY] },
  { name := "DEV_HOSTERR", base := 0xC, n1 := 1, s1 := 0x0, n2 := 1, s2 := 0x0, width := 32, grp := .none,
    fields := fun _ _ => [DEV_HOSTERR_BAR0, DEV_HOSTERR_BAR2_W, DEV_HOSTERR_B4_DENIED, DEV_HOSTERR_B4_REFUSED, DEV_HOSTERR_VEC, DEV_HOSTERR_NO_MASTER, DEV_HOSTERR_CPL_ERR, DEV_HOSTERR_EP_RX, DEV_HOSTERR_IDE, DEV_HOSTERR_FUNC] },
  { name := "DEV_EVT_MASK", base := 0x10, n1 := 1, s1 := 0x0, n2 := 1, s2 := 0x0, width := 32, grp := .none,
    fields := fun _ _ => [DEV_EVT_MASK_MASK] },
  { name := "DEV_EVT_VEC", base := 0x14, n1 := 1, s1 := 0x0, n2 := 1, s2 := 0x0, width := 32, grp := .none,
    fields := fun _ _ => [DEV_EVT_VEC_VEC] },
  { name := "DEV_LINK", base := 0x18, n1 := 1, s1 := 0x0, n2 := 1, s2 := 0x0, width := 32, grp := .none,
    fields := fun _ _ => [DEV_LINK_SPEED, DEV_LINK_WIDTH, DEV_LINK_FLIT] },
  { name := "DEV_PTM", base := 0x1C, n1 := 1, s1 := 0x0, n2 := 1, s2 := 0x0, width := 32, grp := .none,
    fields := fun _ _ => [DEV_PTM_PERIOD, DEV_PTM_VALID] },
  { name := "DEV_DBG", base := 0x20, n1 := 1, s1 := 0x0, n2 := 1, s2 := 0x0, width := 32, grp := .none,
    fields := fun _ _ => [DEV_DBG_WDOG_HOLD, DEV_DBG_HALTED] },
  { name := "DEV_MCTP", base := 0x24, n1 := 1, s1 := 0x0, n2 := 1, s2 := 0x0, width := 32, grp := .none,
    fields := fun _ _ => [DEV_MCTP_EID_I3C, DEV_MCTP_EID_VDM, DEV_MCTP_I3C_ADDR] },
  { name := "DEV_SYNCE", base := 0x28, n1 := 1, s1 := 0x0, n2 := 1, s2 := 0x0, width := 32, grp := .none,
    fields := fun _ _ => [DEV_SYNCE_PORT0, DEV_SYNCE_EN0, DEV_SYNCE_PORT1, DEV_SYNCE_EN1] },
  { name := "DEV_BOOT", base := 0x30, n1 := 1, s1 := 0x0, n2 := 1, s2 := 0x0, width := 32, grp := .none,
    fields := fun _ _ => [DEV_BOOT_PHASE, DEV_BOOT_FAIL, DEV_BOOT_CAUSE, DEV_BOOT_UNIT, DEV_BOOT_ELAPSED] },
  { name := "DEV_BOOT_MEM", base := 0x38, n1 := 1, s1 := 0x0, n2 := 1, s2 := 0x0, width := 64, grp := .none,
    fields := fun _ _ => [DEV_BOOT_MEM_HBM_SPARE, DEV_BOOT_MEM_DDR_USED, DEV_BOOT_MEM_DDR_RATE, DEV_BOOT_MEM_DIMM_SIZE] },
  { name := "DEV_T_B4DENY", base := 0x80, n1 := 1, s1 := 0x0, n2 := 1, s2 := 0x0, width := 32, grp := (.fixed 1),
    fields := fun _ _ => [DEV_T_B4DENY_COUNT] },
  { name := "DEV_T_NOMASTER", base := 0x84, n1 := 1, s1 := 0x0, n2 := 1, s2 := 0x0, width := 32, grp := (.fixed 1),
    fields := fun _ _ => [DEV_T_NOMASTER_COUNT] },
  { name := "DEV_T_CPLERR", base := 0x88, n1 := 1, s1 := 0x0, n2 := 1, s2 := 0x0, width := 32, grp := (.fixed 1),
    fields := fun _ _ => [DEV_T_CPLERR_COUNT] },
  { name := "DEV_T_BAR0ERR", base := 0x8C, n1 := 1, s1 := 0x0, n2 := 1, s2 := 0x0, width := 32, grp := (.fixed 1),
    fields := fun _ _ => [DEV_T_BAR0ERR_COUNT] },
  { name := "DEV_B4f_BASE", base := 0x1000, n1 := 33, s1 := 0x8, n2 := 1, s2 := 0x0, width := 64, grp := .none,
    fields := fun i _ => [DEV_B4f_BASE_BASE i] }]

/-- The AIR registers. -/
def regTableAIR : List RegDef := [
  { name := "AIR_TDn_CTRL", base := 0x100000, n1 := 8, s1 := 0x100, n2 := 1, s2 := 0x0, width := 32, grp := .none,
    fields := fun i _ => [AIR_TDn_CTRL_EN i, AIR_TDn_CTRL_SRC i, AIR_TDn_CTRL_SYNCE i, AIR_TDn_CTRL_PTPDOM i] },
  { name := "AIR_TDn_PORTS", base := 0x100004, n1 := 8, s1 := 0x100, n2 := 1, s2 := 0x0, width := 32, grp := .none,
    fields := fun i _ => [AIR_TDn_PORTS_MASK i] },
  { name := "AIR_TDn_COUNT", base := 0x100008, n1 := 8, s1 := 0x100, n2 := 1, s2 := 0x0, width := 64, grp := .none,
    fields := fun i _ => [AIR_TDn_COUNT_VALUE i] },
  { name := "AIR_TDn_EPOCH", base := 0x100010, n1 := 8, s1 := 0x100, n2 := 1, s2 := 0x0, width := 64, grp := .none,
    fields := fun i _ => [AIR_TDn_EPOCH_EPOCH i] },
  { name := "AIR_TDn_STATE", base := 0x100018, n1 := 8, s1 := 0x100, n2 := 1, s2 := 0x0, width := 32, grp := .none,
    fields := fun i _ => [AIR_TDn_STATE_STATE i, AIR_TDn_STATE_SLEWING i, AIR_TDn_STATE_EPOCH_REFUSED i, AIR_TDn_STATE_CELLS i] },
  { name := "AIR_TDn_HOLDOVER", base := 0x100020, n1 := 8, s1 := 0x100, n2 := 1, s2 := 0x0, width := 64, grp := .none,
    fields := fun i _ => [AIR_TDn_HOLDOVER_ACTIVE i, AIR_TDn_HOLDOVER_EXCEEDED i, AIR_TDn_HOLDOVER_ENTERED i, AIR_TDn_HOLDOVER_CAUSE i, AIR_TDn_HOLDOVER_AGE i] },
  { name := "AIR_TDn_SERVO", base := 0x100028, n1 := 8, s1 := 0x100, n2 := 1, s2 := 0x0, width := 32, grp := .none,
    fields := fun i _ => [AIR_TDn_SERVO_KP_SHIFT i, AIR_TDn_SERVO_KI_SHIFT i, AIR_TDn_SERVO_SLEW_MAX i] },
  { name := "AIR_TDn_LOCK", base := 0x10002C, n1 := 8, s1 := 0x100, n2 := 1, s2 := 0x0, width := 32, grp := .none,
    fields := fun i _ => [AIR_TDn_LOCK_THR i, AIR_TDn_LOCK_CNT i, AIR_TDn_LOCK_QUAL i, AIR_TDn_LOCK_LOSS_MS i, AIR_TDn_LOCK_LIMIT_S i] },
  { name := "AIR_TDn_RATE", base := 0x100030, n1 := 8, s1 := 0x100, n2 := 1, s2 := 0x0, width := 64, grp := .none,
    fields := fun i _ => [AIR_TDn_RATE_NOW i, AIR_TDn_RATE_FROZEN i] },
  { name := "AIR_TDn_OFFSET", base := 0x100038, n1 := 8, s1 := 0x100, n2 := 1, s2 := 0x0, width := 64, grp := .none,
    fields := fun i _ => [AIR_TDn_OFFSET_OFS i, AIR_TDn_OFFSET_MPD i] },
  { name := "AIR_TDn_GM", base := 0x100040, n1 := 8, s1 := 0x100, n2 := 1, s2 := 0x0, width := 64, grp := .none,
    fields := fun i _ => [AIR_TDn_GM_CLOCKID i] },
  { name := "AIR_TDn_TOD", base := 0x100048, n1 := 8, s1 := 0x100, n2 := 1, s2 := 0x0, width := 64, grp := .none,
    fields := fun i _ => [AIR_TDn_TOD_SECONDS i] },
  { name := "AIR_SNAP", base := 0x100800, n1 := 1, s1 := 0x0, n2 := 1, s2 := 0x0, width := 32, grp := .none,
    fields := fun _ _ => [AIR_SNAP_GO] },
  { name := "AIR_SNAP_TDn", base := 0x100808, n1 := 8, s1 := 0x8, n2 := 1, s2 := 0x0, width := 64, grp := .none,
    fields := fun i _ => [AIR_SNAP_TDn_VALUE i] },
  { name := "AIR_PPS_OUT", base := 0x100880, n1 := 1, s1 := 0x0, n2 := 1, s2 := 0x0, width := 32, grp := .none,
    fields := fun _ _ => [AIR_PPS_OUT_EN, AIR_PPS_OUT_TD, AIR_PPS_OUT_OFS] },
  { name := "AIR_DEFAULT_TD", base := 0x100884, n1 := 1, s1 := 0x0, n2 := 1, s2 := 0x0, width := 32, grp := .none,
    fields := fun _ _ => [AIR_DEFAULT_TD_TD] },
  { name := "AIR_EVT", base := 0x100888, n1 := 1, s1 := 0x0, n2 := 1, s2 := 0x0, width := 32, grp := .none,
    fields := fun _ _ => [AIR_EVT_HOLD, AIR_EVT_LOCKED, AIR_EVT_EXCEED, AIR_EVT_TSQ_OVF] },
  { name := "AIR_EVT_MASK", base := 0x10088C, n1 := 1, s1 := 0x0, n2 := 1, s2 := 0x0, width := 32, grp := .none,
    fields := fun _ _ => [AIR_EVT_MASK_MASK] },
  { name := "AIR_EVT_VEC", base := 0x100890, n1 := 1, s1 := 0x0, n2 := 1, s2 := 0x0, width := 32, grp := .none,
    fields := fun _ _ => [AIR_EVT_VEC_VEC] },
  { name := "AIR_FHp_TSQ_ENT0", base := 0x101000, n1 := 4, s1 := 0x40, n2 := 1, s2 := 0x0, width := 64, grp := .none,
    fields := fun i _ => [AIR_FHp_TSQ_ENT0_LOW i] },
  { name := "AIR_FHp_TSQ_ENT1", base := 0x101008, n1 := 4, s1 := 0x40, n2 := 1, s2 := 0x0, width := 64, grp := .none,
    fields := fun i _ => [AIR_FHp_TSQ_ENT1_HIGH i] },
  { name := "AIR_FHp_TSQ_STAT", base := 0x101010, n1 := 4, s1 := 0x40, n2 := 1, s2 := 0x0, width := 32, grp := .none,
    fields := fun i _ => [AIR_FHp_TSQ_STAT_COUNT i, AIR_FHp_TSQ_STAT_OVF i] },
  { name := "AIR_FHp_TSQ_LOST", base := 0x101014, n1 := 4, s1 := 0x40, n2 := 1, s2 := 0x0, width := 32, grp := .none,
    fields := fun i _ => [AIR_FHp_TSQ_LOST_LOST i] }]

/-- The TALLY registers. -/
def regTableTALLY : List RegDef := [
  { name := "TALLY_Gg_CFG", base := 0x1100000, n1 := 1024, s1 := 0x20, n2 := 1, s2 := 0x0, width := 32, grp := .tally,
    fields := fun i _ => [TALLY_Gg_CFG_DOMAIN i, TALLY_Gg_CFG_PERIOD i, TALLY_Gg_CFG_PEND i, TALLY_Gg_CFG_CELL i] },
  { name := "TALLY_Gg_AT", base := 0x1100008, n1 := 1024, s1 := 0x20, n2 := 1, s2 := 0x0, width := 64, grp := .tally,
    fields := fun i _ => [TALLY_Gg_AT_AT i] },
  { name := "TALLY_Gg_SEQ", base := 0x1100010, n1 := 1024, s1 := 0x20, n2 := 1, s2 := 0x0, width := 32, grp := .tally,
    fields := fun i _ => [TALLY_Gg_SEQ_SEQ i] },
  { name := "TALLY_Gg_SAT", base := 0x1100014, n1 := 1024, s1 := 0x20, n2 := 1, s2 := 0x0, width := 32, grp := .tally,
    fields := fun i _ => [TALLY_Gg_SAT_SAT i] }]

/-- The ESC registers. -/
def regTableESC : List RegDef := [
  { name := "ESC_CTRL", base := 0x200000, n1 := 1, s1 := 0x0, n2 := 1, s2 := 0x0, width := 32, grp := .none,
    fields := fun _ _ => [ESC_CTRL_RELEASE_US, ESC_CTRL_RETURN_MIN_US, ESC_CTRL_GUARD_NS] },
  { name := "ESC_CEILING", base := 0x200008, n1 := 1, s1 := 0x0, n2 := 1, s2 := 0x0, width := 64, grp := .none,
    fields := fun _ _ => [ESC_CEILING_MC, ESC_CEILING_SC, ESC_CEILING_COD, ESC_CEILING_T1, ESC_CEILING_FH] },
  { name := "ESC_DUTY", base := 0x200010, n1 := 1, s1 := 0x0, n2 := 1, s2 := 0x0, width := 32, grp := .none,
    fields := fun _ _ => [ESC_DUTY_DUTY] },
  { name := "ESC_STAT", base := 0x200014, n1 := 1, s1 := 0x0, n2 := 1, s2 := 0x0, width := 32, grp := .none,
    fields := fun _ _ => [ESC_STAT_DUTY_REFUSED, ESC_STAT_CEIL_REFUSED, ESC_STAT_OVERCOMMIT, ESC_STAT_AT_RISK, ESC_STAT_CAP_CHANGED, ESC_STAT_SHORT] },
  { name := "ESC_EVT_MASK", base := 0x200018, n1 := 1, s1 := 0x0, n2 := 1, s2 := 0x0, width := 32, grp := .none,
    fields := fun _ _ => [ESC_EVT_MASK_MASK] },
  { name := "ESC_EVT_VEC", base := 0x20001C, n1 := 1, s1 := 0x0, n2 := 1, s2 := 0x0, width := 32, grp := .none,
    fields := fun _ _ => [ESC_EVT_VEC_VEC] },
  { name := "ESC_CELLS", base := 0x200020, n1 := 1, s1 := 0x0, n2 := 1, s2 := 0x0, width := 32, grp := .none,
    fields := fun _ _ => [ESC_CELLS_COUNT] },
  { name := "ESC_CAP_MC", base := 0x200040, n1 := 1, s1 := 0x0, n2 := 1, s2 := 0x0, width := 64, grp := .none,
    fields := fun _ _ => [ESC_CAP_MC_CAP] },
  { name := "ESC_CAP_SC", base := 0x200048, n1 := 1, s1 := 0x0, n2 := 1, s2 := 0x0, width := 64, grp := .none,
    fields := fun _ _ => [ESC_CAP_SC_CAP] },
  { name := "ESC_CAP_COD", base := 0x200050, n1 := 1, s1 := 0x0, n2 := 1, s2 := 0x0, width := 64, grp := .none,
    fields := fun _ _ => [ESC_CAP_COD_CAP] },
  { name := "ESC_CAP_T1", base := 0x200058, n1 := 1, s1 := 0x0, n2 := 1, s2 := 0x0, width := 64, grp := .none,
    fields := fun _ _ => [ESC_CAP_T1_CAP] },
  { name := "ESC_USED_MC", base := 0x200080, n1 := 1, s1 := 0x0, n2 := 1, s2 := 0x0, width := 64, grp := .none,
    fields := fun _ _ => [ESC_USED_MC_USED] },
  { name := "ESC_USED_SC", base := 0x200088, n1 := 1, s1 := 0x0, n2 := 1, s2 := 0x0, width := 64, grp := .none,
    fields := fun _ _ => [ESC_USED_SC_USED] },
  { name := "ESC_USED_COD", base := 0x200090, n1 := 1, s1 := 0x0, n2 := 1, s2 := 0x0, width := 64, grp := .none,
    fields := fun _ _ => [ESC_USED_COD_USED] },
  { name := "ESC_USED_T1", base := 0x200098, n1 := 1, s1 := 0x0, n2 := 1, s2 := 0x0, width := 64, grp := .none,
    fields := fun _ _ => [ESC_USED_T1_USED] },
  { name := "ESC_FHk", base := 0x200100, n1 := 32, s1 := 0x8, n2 := 1, s2 := 0x0, width := 64, grp := .none,
    fields := fun i _ => [ESC_FHk_USED_IN i, ESC_FHk_USED_OUT i] },
  { name := "ESC_T_PREEMPT", base := 0x200200, n1 := 1, s1 := 0x0, n2 := 1, s2 := 0x0, width := 32, grp := (.fixed 2),
    fields := fun _ _ => [ESC_T_PREEMPT_COUNT] },
  { name := "ESC_T_RELEASE", base := 0x200204, n1 := 1, s1 := 0x0, n2 := 1, s2 := 0x0, width := 32, grp := (.fixed 2),
    fields := fun _ _ => [ESC_T_RELEASE_COUNT] },
  { name := "ESC_T_RETURN", base := 0x200208, n1 := 1, s1 := 0x0, n2 := 1, s2 := 0x0, width := 32, grp := (.fixed 2),
    fields := fun _ _ => [ESC_T_RETURN_COUNT] },
  { name := "ESC_T_LATEJOB", base := 0x20020C, n1 := 1, s1 := 0x0, n2 := 1, s2 := 0x0, width := 32, grp := (.fixed 2),
    fields := fun _ _ => [ESC_T_LATEJOB_COUNT] },
  { name := "ESC_CELLc_INFO", base := 0x208000, n1 := 512, s1 := 0x20, n2 := 1, s2 := 0x0, width := 32, grp := .none,
    fields := fun i _ => [ESC_CELLc_INFO_ADMITTED i, ESC_CELLc_INFO_TD i, ESC_CELLc_INFO_MU i, ESC_CELLc_INFO_PORT i, ESC_CELLc_INFO_DRAINING i] },
  { name := "ESC_CELLc_NEURAL", base := 0x208004, n1 := 512, s1 := 0x20, n2 := 1, s2 := 0x0, width := 32, grp := .cell,
    fields := fun i _ => [ESC_CELLc_NEURAL_COUNT i] },
  { name := "ESC_CELLc_FALLBACK", base := 0x208008, n1 := 512, s1 := 0x20, n2 := 1, s2 := 0x0, width := 32, grp := .cell,
    fields := fun i _ => [ESC_CELLc_FALLBACK_COUNT i] },
  { name := "ESC_CELLc_LATEJOB", base := 0x20800C, n1 := 512, s1 := 0x20, n2 := 1, s2 := 0x0, width := 32, grp := .cell,
    fields := fun i _ => [ESC_CELLc_LATEJOB_COUNT i] },
  { name := "ESC_CELLc_LATEDLV", base := 0x208010, n1 := 512, s1 := 0x20, n2 := 1, s2 := 0x0, width := 32, grp := .cell,
    fields := fun i _ => [ESC_CELLc_LATEDLV_COUNT i] }]

/-- The CMD registers. -/
def regTableCMD : List RegDef := [
  { name := "CMD_CTRL", base := 0x300000, n1 := 1, s1 := 0x0, n2 := 1, s2 := 0x0, width := 32, grp := .none,
    fields := fun _ _ => [CMD_CTRL_EN, CMD_CTRL_PCRC_REQ] },
  { name := "CMD_STAT", base := 0x300004, n1 := 1, s1 := 0x0, n2 := 1, s2 := 0x0, width := 32, grp := .none,
    fields := fun _ _ => [CMD_STAT_SWEEP_REFUSED] },
  { name := "CMD_LOAD", base := 0x300008, n1 := 1, s1 := 0x0, n2 := 1, s2 := 0x0, width := 32, grp := .none,
    fields := fun _ _ => [CMD_LOAD_DEMAND] },
  { name := "CMD_TIMED", base := 0x30000C, n1 := 1, s1 := 0x0, n2 := 1, s2 := 0x0, width := 32, grp := .none,
    fields := fun _ _ => [CMD_TIMED_PENDING] },
  { name := "CMD_PWw_CTRL", base := 0x301000, n1 := 132, s1 := 0x40, n2 := 1, s2 := 0x0, width := 32, grp := .none,
    fields := fun i _ => [CMD_PWw_CTRL_EN i, CMD_PWw_CTRL_SWEEP i, CMD_PWw_CTRL_ERR_IRQ i, CMD_PWw_CTRL_IRQ_EN i] },
  { name := "CMD_PWw_RR_BASE", base := 0x301008, n1 := 132, s1 := 0x40, n2 := 1, s2 := 0x0, width := 64, grp := .none,
    fields := fun i _ => [CMD_PWw_RR_BASE_ADDR i] },
  { name := "CMD_PWw_RR_CFG", base := 0x301010, n1 := 132, s1 := 0x40, n2 := 1, s2 := 0x0, width := 32, grp := .none,
    fields := fun i _ => [CMD_PWw_RR_CFG_SIZE i, CMD_PWw_RR_CFG_VEC i] },
  { name := "CMD_PWw_RR_HEAD", base := 0x301014, n1 := 132, s1 := 0x40, n2 := 1, s2 := 0x0, width := 32, grp := .none,
    fields := fun i _ => [CMD_PWw_RR_HEAD_HEAD i] },
  { name := "CMD_PWw_RR_TAIL", base := 0x301018, n1 := 132, s1 := 0x40, n2 := 1, s2 := 0x0, width := 32, grp := .none,
    fields := fun i _ => [CMD_PWw_RR_TAIL_TAIL i] },
  { name := "CMD_PWw_STAT", base := 0x30101C, n1 := 132, s1 := 0x40, n2 := 1, s2 := 0x0, width := 32, grp := .none,
    fields := fun i _ => [CMD_PWw_STAT_SEAL_ERR i, CMD_PWw_STAT_RR_FULL i, CMD_PWw_STAT_BUSY i, CMD_PWw_STAT_STALLED i, CMD_PWw_STAT_HEAD_ERR i, CMD_PWw_STAT_ERR_SLOT i] },
  { name := "CMD_PWw_LASTSEQ", base := 0x301020, n1 := 132, s1 := 0x40, n2 := 1, s2 := 0x0, width := 32, grp := .none,
    fields := fun i _ => [CMD_PWw_LASTSEQ_SEQ i] },
  { name := "CMD_PWw_ACCEPT", base := 0x301024, n1 := 132, s1 := 0x40, n2 := 1, s2 := 0x0, width := 32, grp := (.fixed 3),
    fields := fun i _ => [CMD_PWw_ACCEPT_COUNT i] },
  { name := "CMD_PWw_REJECT", base := 0x301028, n1 := 132, s1 := 0x40, n2 := 1, s2 := 0x0, width := 32, grp := (.fixed 3),
    fields := fun i _ => [CMD_PWw_REJECT_COUNT i] },
  { name := "CMD_PWw_DEFER", base := 0x30102C, n1 := 132, s1 := 0x40, n2 := 1, s2 := 0x0, width := 32, grp := (.fixed 3),
    fields := fun i _ => [CMD_PWw_DEFER_COUNT i] }]

/-- The FH registers. -/
def regTableFH : List RegDef := [
  { name := "FH_PORT_CFG", base := 0x400000, n1 := 4, s1 := 0x40000, n2 := 1, s2 := 0x0, width := 32, grp := .none,
    fields := fun i _ => [FH_PORT_CFG_MODE i] },
  { name := "FH_PORT_STAT", base := 0x400004, n1 := 4, s1 := 0x40000, n2 := 1, s2 := 0x0, width := 32, grp := .none,
    fields := fun i _ => [FH_PORT_STAT_LINK i, FH_PORT_STAT_SPARE_IN i, FH_PORT_STAT_LANE_OUT i] },
  { name := "FH_STAT", base := 0x400008, n1 := 4, s1 := 0x40000, n2 := 1, s2 := 0x0, width := 32, grp := .none,
    fields := fun i _ => [FH_STAT_MODE_REFUSED i, FH_STAT_WP_REFUSED i, FH_STAT_SHAPE_REFUSED i, FH_STAT_POL_REFUSED i, FH_STAT_TX_MISS i] },
  { name := "FH_EVT_MASK", base := 0x40000C, n1 := 4, s1 := 0x40000, n2 := 1, s2 := 0x0, width := 32, grp := .none,
    fields := fun i _ => [FH_EVT_MASK_MASK i] },
  { name := "FH_EVT_VEC", base := 0x400010, n1 := 4, s1 := 0x40000, n2 := 1, s2 := 0x0, width := 32, grp := .none,
    fields := fun i _ => [FH_EVT_VEC_VEC i] },
  { name := "FH_WPk_CFG", base := 0x400100, n1 := 4, s1 := 0x40000, n2 := 16, s2 := 0x20, width := 32, grp := .none,
    fields := fun i j => [FH_WPk_CFG_EARLY_ACC i j] },
  { name := "FH_WPk_T1A_MAX_UP", base := 0x400104, n1 := 4, s1 := 0x40000, n2 := 16, s2 := 0x20, width := 32, grp := .none,
    fields := fun i j => [FH_WPk_T1A_MAX_UP_T1A_x i j] },
  { name := "FH_WPk_T1A_MIN_UP", base := 0x400108, n1 := 4, s1 := 0x40000, n2 := 16, s2 := 0x20, width := 32, grp := .none,
    fields := fun i j => [FH_WPk_T1A_MIN_UP_T1A_x i j] },
  { name := "FH_WPk_T1A_MAX_CP_DL", base := 0x40010C, n1 := 4, s1 := 0x40000, n2 := 16, s2 := 0x20, width := 32, grp := .none,
    fields := fun i j => [FH_WPk_T1A_MAX_CP_DL_T1A_x i j] },
  { name := "FH_WPk_T1A_MIN_CP_DL", base := 0x400110, n1 := 4, s1 := 0x40000, n2 := 16, s2 := 0x20, width := 32, grp := .none,
    fields := fun i j => [FH_WPk_T1A_MIN_CP_DL_T1A_x i j] },
  { name := "FH_WPk_T1A_MAX_CP_UL", base := 0x400114, n1 := 4, s1 := 0x40000, n2 := 16, s2 := 0x20, width := 32, grp := .none,
    fields := fun i j => [FH_WPk_T1A_MAX_CP_UL_T1A_x i j] },
  { name := "FH_WPk_T1A_MIN_CP_UL", base := 0x400118, n1 := 4, s1 := 0x40000, n2 := 16, s2 := 0x20, width := 32, grp := .none,
    fields := fun i j => [FH_WPk_T1A_MIN_CP_UL_T1A_x i j] },
  { name := "FH_WPk_TA4", base := 0x40011C, n1 := 4, s1 := 0x40000, n2 := 16, s2 := 0x20, width := 32, grp := .none,
    fields := fun i j => [FH_WPk_TA4_TA4_MIN i j, FH_WPk_TA4_TA4_MAX i j] },
  { name := "FH_Qq_CFG", base := 0x401000, n1 := 4, s1 := 0x40000, n2 := 128, s2 := 0x10, width := 32, grp := .none,
    fields := fun i j => [FH_Qq_CFG_PRIO i j, FH_Qq_CFG_QUANTUM i j] },
  { name := "FH_Qq_SHAPE", base := 0x401008, n1 := 4, s1 := 0x40000, n2 := 128, s2 := 0x10, width := 64, grp := .none,
    fields := fun i j => [FH_Qq_SHAPE_RATE i j, FH_Qq_SHAPE_BURST i j] },
  { name := "FH_Ss_CFG", base := 0x402000, n1 := 4, s1 := 0x40000, n2 := 8, s2 := 0x40, width := 32, grp := .none,
    fields := fun i j => [FH_Ss_CFG_VLAN i j, FH_Ss_CFG_VID i j, FH_Ss_CFG_PCP i j, FH_Ss_CFG_ACC_FCS i j] },
  { name := "FH_Ss_MAC", base := 0x402008, n1 := 4, s1 := 0x40000, n2 := 8, s2 := 0x40, width := 64, grp := .none,
    fields := fun i j => [FH_Ss_MAC_ADDR i j] },
  { name := "FH_Ss_RX_ONTIME", base := 0x402010, n1 := 4, s1 := 0x40000, n2 := 8, s2 := 0x40, width := 32, grp := .fh,
    fields := fun i j => [FH_Ss_RX_ONTIME_COUNT i j] },
  { name := "FH_Ss_RX_EARLY", base := 0x402014, n1 := 4, s1 := 0x40000, n2 := 8, s2 := 0x40, width := 32, grp := .fh,
    fields := fun i j => [FH_Ss_RX_EARLY_COUNT i j] },
  { name := "FH_Ss_RX_LATE", base := 0x402018, n1 := 4, s1 := 0x40000, n2 := 8, s2 := 0x40, width := 32, grp := .fh,
    fields := fun i j => [FH_Ss_RX_LATE_COUNT i j] },
  { name := "FH_Ss_RX_RED", base := 0x40201C, n1 := 4, s1 := 0x40000, n2 := 8, s2 := 0x40, width := 32, grp := .fh,
    fields := fun i j => [FH_Ss_RX_RED_COUNT i j] },
  { name := "FH_Ss_RX_YELLOW", base := 0x402020, n1 := 4, s1 := 0x40000, n2 := 8, s2 := 0x40, width := 32, grp := .fh,
    fields := fun i j => [FH_Ss_RX_YELLOW_COUNT i j] },
  { name := "FH_Ss_RX_NOFLOW", base := 0x402024, n1 := 4, s1 := 0x40000, n2 := 8, s2 := 0x40, width := 32, grp := .fh,
    fields := fun i j => [FH_Ss_RX_NOFLOW_COUNT i j] },
  { name := "FH_Ss_RX_BAD", base := 0x402028, n1 := 4, s1 := 0x40000, n2 := 8, s2 := 0x40, width := 32, grp := .fh,
    fields := fun i j => [FH_Ss_RX_BAD_COUNT i j] },
  { name := "FH_Ss_TX_MSG", base := 0x40202C, n1 := 4, s1 := 0x40000, n2 := 8, s2 := 0x40, width := 32, grp := .fh,
    fields := fun i j => [FH_Ss_TX_MSG_COUNT i j] },
  { name := "FH_Ss_TX_MISS", base := 0x402030, n1 := 4, s1 := 0x40000, n2 := 8, s2 := 0x40, width := 32, grp := .fh,
    fields := fun i j => [FH_Ss_TX_MISS_COUNT i j] },
  { name := "FH_DIQa_CFG", base := 0x404000, n1 := 4, s1 := 0x40000, n2 := 64, s2 := 0x20, width := 32, grp := .fh,
    fields := fun i j => [FH_DIQa_CFG_EN i j, FH_DIQa_CFG_FS i j, FH_DIQa_CFG_SPM i j, FH_DIQa_CFG_RATE2 i j, FH_DIQa_CFG_TAPS i j, FH_DIQa_CFG_BANK i j, FH_DIQa_CFG_FAW_TOL i j, FH_DIQa_CFG_FAW_CONFIRM i j, FH_DIQa_CFG_FAW_LOSS i j] },
  { name := "FH_DIQa_AGC", base := 0x404004, n1 := 4, s1 := 0x40000, n2 := 64, s2 := 0x20, width := 32, grp := .fh,
    fields := fun i j => [FH_DIQa_AGC_TARGET i j, FH_DIQa_AGC_STEP i j, FH_DIQa_AGC_DET i j, FH_DIQa_AGC_HOLD i j] },
  { name := "FH_DIQa_FAW", base := 0x404008, n1 := 4, s1 := 0x40000, n2 := 64, s2 := 0x20, width := 64, grp := .fh,
    fields := fun i j => [FH_DIQa_FAW_WORD i j] },
  { name := "FH_DIQa_STAT", base := 0x404010, n1 := 4, s1 := 0x40000, n2 := 64, s2 := 0x20, width := 32, grp := .fh,
    fields := fun i j => [FH_DIQa_STAT_ALIGN i j, FH_DIQa_STAT_FROZEN i j, FH_DIQa_STAT_GAIN i j] },
  { name := "FH_DIQa_MISS", base := 0x404014, n1 := 4, s1 := 0x40000, n2 := 64, s2 := 0x20, width := 32, grp := .fh,
    fields := fun i j => [FH_DIQa_MISS_MISS i j, FH_DIQa_MISS_STRAY i j, FH_DIQa_MISS_FCSERR i j] },
  { name := "FH_DIQa_RSSI", base := 0x404018, n1 := 4, s1 := 0x40000, n2 := 64, s2 := 0x20, width := 64, grp := .fh,
    fields := fun i j => [FH_DIQa_RSSI_FAW i j, FH_DIQa_RSSI_FAW_SEQ i j, FH_DIQa_RSSI_PRACH i j, FH_DIQa_RSSI_PRACH_SEQ i j] },
  { name := "FH_Ff_MAP", base := 0x408000, n1 := 4, s1 := 0x40000, n2 := 1024, s2 := 0x20, width := 64, grp := .flow,
    fields := fun i j => [FH_Ff_MAP_VALID i j, FH_Ff_MAP_SUBPORT i j, FH_Ff_MAP_KIND i j, FH_Ff_MAP_DIR i j, FH_Ff_MAP_WP i j, FH_Ff_MAP_QUEUE i j, FH_Ff_MAP_W i j, FH_Ff_MAP_STREAM i j, FH_Ff_MAP_EAXC i j, FH_Ff_MAP_CELL i j] },
  { name := "FH_Ff_RATE", base := 0x408008, n1 := 4, s1 := 0x40000, n2 := 1024, s2 := 0x20, width := 64, grp := .flow,
    fields := fun i j => [FH_Ff_RATE_CIR i j, FH_Ff_RATE_PIR i j] },
  { name := "FH_Ff_BURST", base := 0x408010, n1 := 4, s1 := 0x40000, n2 := 1024, s2 := 0x20, width := 64, grp := .flow,
    fields := fun i j => [FH_Ff_BURST_CBS i j, FH_Ff_BURST_PBS i j] },
  { name := "FH_Ff_LATE", base := 0x408018, n1 := 4, s1 := 0x40000, n2 := 1024, s2 := 0x20, width := 32, grp := .flow,
    fields := fun i j => [FH_Ff_LATE_COUNT i j] },
  { name := "FH_Ff_YELLOW", base := 0x40801C, n1 := 4, s1 := 0x40000, n2 := 1024, s2 := 0x20, width := 32, grp := .flow,
    fields := fun i j => [FH_Ff_YELLOW_COUNT i j] }]

/-- The SIG registers. -/
def regTableSIG : List RegDef := [
  { name := "SIG_STAT", base := 0x500000, n1 := 1, s1 := 0x0, n2 := 1, s2 := 0x0, width := 32, grp := .none,
    fields := fun _ _ => [SIG_STAT_ACTIVE, SIG_STAT_SPARES, SIG_STAT_FAULT, SIG_STAT_RETIRED] },
  { name := "SIG_EVT_MASK", base := 0x500004, n1 := 1, s1 := 0x0, n2 := 1, s2 := 0x0, width := 32, grp := .none,
    fields := fun _ _ => [SIG_EVT_MASK_MASK] },
  { name := "SIG_EVT_VEC", base := 0x500008, n1 := 1, s1 := 0x0, n2 := 1, s2 := 0x0, width := 32, grp := .none,
    fields := fun _ _ => [SIG_EVT_VEC_VEC] },
  { name := "SIG_KVER", base := 0x50000C, n1 := 1, s1 := 0x0, n2 := 1, s2 := 0x0, width := 32, grp := .none,
    fields := fun _ _ => [SIG_KVER_VERSION] },
  { name := "SIG_Cn_INFO", base := 0x501000, n1 := 64, s1 := 0x40, n2 := 1, s2 := 0x0, width := 32, grp := (.fixed 4),
    fields := fun i _ => [SIG_Cn_INFO_PHYS i, SIG_Cn_INFO_DIE i, SIG_Cn_INFO_STATE i, SIG_Cn_INFO_KERNEL i] },
  { name := "SIG_Cn_FAULT", base := 0x501004, n1 := 64, s1 := 0x40, n2 := 1, s2 := 0x0, width := 32, grp := (.fixed 4),
    fields := fun i _ => [SIG_Cn_FAULT_CAUSE i, SIG_Cn_FAULT_VALID i, SIG_Cn_FAULT_KERNEL i, SIG_Cn_FAULT_PC i] },
  { name := "SIG_Cn_BUSY", base := 0x501008, n1 := 64, s1 := 0x40, n2 := 1, s2 := 0x0, width := 32, grp := (.fixed 4),
    fields := fun i _ => [SIG_Cn_BUSY_COUNT i] },
  { name := "SIG_Cn_RUNS", base := 0x50100C, n1 := 64, s1 := 0x40, n2 := 1, s2 := 0x0, width := 32, grp := (.fixed 4),
    fields := fun i _ => [SIG_Cn_RUNS_COUNT i] },
  { name := "SIG_Cn_SAT", base := 0x501010, n1 := 64, s1 := 0x40, n2 := 1, s2 := 0x0, width := 32, grp := (.fixed 4),
    fields := fun i _ => [SIG_Cn_SAT_COUNT i] },
  { name := "SIG_Cn_ECC", base := 0x501014, n1 := 64, s1 := 0x40, n2 := 1, s2 := 0x0, width := 32, grp := (.fixed 4),
    fields := fun i _ => [SIG_Cn_ECC_COUNT i] }]

/-- The COD registers. -/
def regTableCOD : List RegDef := [
  { name := "COD_STAT", base := 0x600000, n1 := 1, s1 := 0x0, n2 := 1, s2 := 0x0, width := 32, grp := (.fixed 5),
    fields := fun _ _ => [COD_STAT_ACTIVE, COD_STAT_POLAR, COD_STAT_FAULT, COD_STAT_RETIRED, COD_STAT_POLAR_LOW, COD_STAT_TWIN_REPAIR, COD_STAT_CTX_LOST, COD_STAT_REBUILD] },
  { name := "COD_EVT_MASK", base := 0x600004, n1 := 1, s1 := 0x0, n2 := 1, s2 := 0x0, width := 32, grp := (.fixed 5),
    fields := fun _ _ => [COD_EVT_MASK_MASK] },
  { name := "COD_EVT_VEC", base := 0x600008, n1 := 1, s1 := 0x0, n2 := 1, s2 := 0x0, width := 32, grp := (.fixed 5),
    fields := fun _ _ => [COD_EVT_VEC_VEC] },
  { name := "COD_REBUILD", base := 0x600010, n1 := 1, s1 := 0x0, n2 := 1, s2 := 0x0, width := 32, grp := (.fixed 5),
    fields := fun _ _ => [COD_REBUILD_CELLS] },
  { name := "COD_TWIN_REPAIR", base := 0x600014, n1 := 1, s1 := 0x0, n2 := 1, s2 := 0x0, width := 32, grp := (.fixed 5),
    fields := fun _ _ => [COD_TWIN_REPAIR_COUNT] },
  { name := "COD_CTX_LOST", base := 0x600018, n1 := 1, s1 := 0x0, n2 := 1, s2 := 0x0, width := 32, grp := (.fixed 5),
    fields := fun _ _ => [COD_CTX_LOST_COUNT] },
  { name := "COD_CCm_INFO", base := 0x601000, n1 := 8, s1 := 0x40, n2 := 1, s2 := 0x0, width := 32, grp := (.fixed 5),
    fields := fun i _ => [COD_CCm_INFO_IN_SERVICE i, COD_CCm_INFO_LANES i, COD_CCm_INFO_POLAR i] },
  { name := "COD_CCm_FAULT", base := 0x601004, n1 := 8, s1 := 0x40, n2 := 1, s2 := 0x0, width := 32, grp := (.fixed 5),
    fields := fun i _ => [COD_CCm_FAULT_CAUSE i, COD_CCm_FAULT_VALID i, COD_CCm_FAULT_LANE i] },
  { name := "COD_CCm_DEC_CB", base := 0x601008, n1 := 8, s1 := 0x40, n2 := 1, s2 := 0x0, width := 32, grp := (.fixed 5),
    fields := fun i _ => [COD_CCm_DEC_CB_COUNT i] },
  { name := "COD_CCm_CB_FAIL", base := 0x60100C, n1 := 8, s1 := 0x40, n2 := 1, s2 := 0x0, width := 32, grp := (.fixed 5),
    fields := fun i _ => [COD_CCm_CB_FAIL_COUNT i] },
  { name := "COD_CCm_ITER", base := 0x601010, n1 := 8, s1 := 0x40, n2 := 1, s2 := 0x0, width := 32, grp := (.fixed 5),
    fields := fun i _ => [COD_CCm_ITER_COUNT i] },
  { name := "COD_CCm_ENC_CB", base := 0x601014, n1 := 8, s1 := 0x40, n2 := 1, s2 := 0x0, width := 32, grp := (.fixed 5),
    fields := fun i _ => [COD_CCm_ENC_CB_COUNT i] },
  { name := "COD_CCm_POLAR", base := 0x601018, n1 := 8, s1 := 0x40, n2 := 1, s2 := 0x0, width := 32, grp := (.fixed 5),
    fields := fun i _ => [COD_CCm_POLAR_COUNT i] },
  { name := "COD_CCm_BUSY", base := 0x60101C, n1 := 8, s1 := 0x40, n2 := 1, s2 := 0x0, width := 32, grp := (.fixed 5),
    fields := fun i _ => [COD_CCm_BUSY_COUNT i] }]

/-- The MXC registers. -/
def regTableMXC : List RegDef := [
  { name := "MXC_STAT", base := 0x800000, n1 := 1, s1 := 0x0, n2 := 1, s2 := 0x0, width := 32, grp := .none,
    fields := fun _ _ => [MXC_STAT_ACTIVE, MXC_STAT_SPARES, MXC_STAT_FAULT, MXC_STAT_RETIRED] },
  { name := "MXC_EVT_MASK", base := 0x800004, n1 := 1, s1 := 0x0, n2 := 1, s2 := 0x0, width := 32, grp := .none,
    fields := fun _ _ => [MXC_EVT_MASK_MASK] },
  { name := "MXC_EVT_VEC", base := 0x800008, n1 := 1, s1 := 0x0, n2 := 1, s2 := 0x0, width := 32, grp := .none,
    fields := fun _ _ => [MXC_EVT_VEC_VEC] },
  { name := "MXC_GOV", base := 0x80000C, n1 := 1, s1 := 0x0, n2 := 1, s2 := 0x0, width := 32, grp := .none,
    fields := fun _ _ => [MXC_GOV_STEP_CYCLES, MXC_GOV_HOLD, MXC_GOV_LEVELS] },
  { name := "MXC_Cn_INFO", base := 0x700000, n1 := 144, s1 := 0x1000, n2 := 1, s2 := 0x0, width := 32, grp := (.fixed 6),
    fields := fun i _ => [MXC_Cn_INFO_PHYS i, MXC_Cn_INFO_DIE i, MXC_Cn_INFO_STATE i, MXC_Cn_INFO_CLOVER i, MXC_Cn_INFO_CTX i] },
  { name := "MXC_Cn_FAULT", base := 0x700004, n1 := 144, s1 := 0x1000, n2 := 1, s2 := 0x0, width := 32, grp := (.fixed 6),
    fields := fun i _ => [MXC_Cn_FAULT_CAUSE i, MXC_Cn_FAULT_VALID i, MXC_Cn_FAULT_RETRIED i, MXC_Cn_FAULT_PASS i] },
  { name := "MXC_Cn_LEVEL", base := 0x700008, n1 := 144, s1 := 0x1000, n2 := 1, s2 := 0x0, width := 32, grp := (.fixed 6),
    fields := fun i _ => [MXC_Cn_LEVEL_LEVEL i, MXC_Cn_LEVEL_DEMAND i] },
  { name := "MXC_Cn_PASS", base := 0x70000C, n1 := 144, s1 := 0x1000, n2 := 1, s2 := 0x0, width := 32, grp := (.fixed 6),
    fields := fun i _ => [MXC_Cn_PASS_LAST i] },
  { name := "MXC_Cn_BUSY", base := 0x700010, n1 := 144, s1 := 0x1000, n2 := 1, s2 := 0x0, width := 32, grp := (.fixed 6),
    fields := fun i _ => [MXC_Cn_BUSY_COUNT i] },
  { name := "MXC_Cn_STALL", base := 0x700014, n1 := 144, s1 := 0x1000, n2 := 1, s2 := 0x0, width := 32, grp := (.fixed 6),
    fields := fun i _ => [MXC_Cn_STALL_COUNT i] },
  { name := "MXC_Cn_SKIP", base := 0x700018, n1 := 144, s1 := 0x1000, n2 := 1, s2 := 0x0, width := 32, grp := (.fixed 6),
    fields := fun i _ => [MXC_Cn_SKIP_COUNT i] },
  { name := "MXC_Cn_DUMMY", base := 0x70001C, n1 := 144, s1 := 0x1000, n2 := 1, s2 := 0x0, width := 32, grp := (.fixed 6),
    fields := fun i _ => [MXC_Cn_DUMMY_COUNT i] },
  { name := "MXC_Cn_LOADS", base := 0x700020, n1 := 144, s1 := 0x1000, n2 := 1, s2 := 0x0, width := 32, grp := (.fixed 6),
    fields := fun i _ => [MXC_Cn_LOADS_COUNT i] },
  { name := "MXC_Cn_ABANDON", base := 0x700024, n1 := 144, s1 := 0x1000, n2 := 1, s2 := 0x0, width := 32, grp := (.fixed 6),
    fields := fun i _ => [MXC_Cn_ABANDON_COUNT i] },
  { name := "MXC_Cn_ECC", base := 0x700028, n1 := 144, s1 := 0x1000, n2 := 1, s2 := 0x0, width := 32, grp := (.fixed 6),
    fields := fun i _ => [MXC_Cn_ECC_COUNT i] },
  { name := "MXC_Cn_ENG", base := 0x700040, n1 := 144, s1 := 0x1000, n2 := 1, s2 := 0x0, width := 32, grp := (.fixed 6),
    fields := fun i _ => [MXC_Cn_ENG_LOAD i, MXC_Cn_ENG_MATRIX i, MXC_Cn_ENG_VECTOR i, MXC_Cn_ENG_STORE i, MXC_Cn_ENG_FABERR i] },
  { name := "MXC_Cn_TOK0", base := 0x700048, n1 := 144, s1 := 0x1000, n2 := 1, s2 := 0x0, width := 64, grp := (.fixed 6),
    fields := fun i _ => [MXC_Cn_TOK0_TK0 i, MXC_Cn_TOK0_TK1 i, MXC_Cn_TOK0_TK2 i, MXC_Cn_TOK0_TK3 i, MXC_Cn_TOK0_TK4 i, MXC_Cn_TOK0_TK5 i, MXC_Cn_TOK0_TK6 i, MXC_Cn_TOK0_TK7 i] },
  { name := "MXC_Cn_TOK1", base := 0x700050, n1 := 144, s1 := 0x1000, n2 := 1, s2 := 0x0, width := 64, grp := (.fixed 6),
    fields := fun i _ => [MXC_Cn_TOK1_TK8 i, MXC_Cn_TOK1_TK9 i, MXC_Cn_TOK1_TK10 i, MXC_Cn_TOK1_TK11 i, MXC_Cn_TOK1_TK12 i, MXC_Cn_TOK1_TK13 i, MXC_Cn_TOK1_TK14 i, MXC_Cn_TOK1_TK15 i] },
  { name := "MXC_Cn_TQ", base := 0x700058, n1 := 144, s1 := 0x1000, n2 := 1, s2 := 0x0, width := 32, grp := (.fixed 6),
    fields := fun i _ => [MXC_Cn_TQ_COUNT i, MXC_Cn_TQ_PENDING i, MXC_Cn_TQ_PASSQ i] },
  { name := "MXC_Cn_VSTAT", base := 0x70005C, n1 := 144, s1 := 0x1000, n2 := 1, s2 := 0x0, width := 32, grp := (.fixed 6),
    fields := fun i _ => [MXC_Cn_VSTAT_INV i, MXC_Cn_VSTAT_DZ i, MXC_Cn_VSTAT_OVF i, MXC_Cn_VSTAT_UNF i, MXC_Cn_VSTAT_SAT i] },
  { name := "MXC_Cn_INFLT", base := 0x700060, n1 := 144, s1 := 0x1000, n2 := 1, s2 := 0x0, width := 32, grp := (.fixed 6),
    fields := fun i _ => [MXC_Cn_INFLT_LOAD_TRK i, MXC_Cn_INFLT_STORE_TRK i, MXC_Cn_INFLT_FAB i] },
  { name := "MXC_Cn_TQWAIT", base := 0x700064, n1 := 144, s1 := 0x1000, n2 := 1, s2 := 0x0, width := 32, grp := (.fixed 6),
    fields := fun i _ => [MXC_Cn_TQWAIT_COUNT i] },
  { name := "MXC_Cn_FTTWAIT", base := 0x700068, n1 := 144, s1 := 0x1000, n2 := 1, s2 := 0x0, width := 32, grp := (.fixed 6),
    fields := fun i _ => [MXC_Cn_FTTWAIT_COUNT i] },
  { name := "MXC_Cn_TRKWAIT", base := 0x70006C, n1 := 144, s1 := 0x1000, n2 := 1, s2 := 0x0, width := 32, grp := (.fixed 6),
    fields := fun i _ => [MXC_Cn_TRKWAIT_COUNT i] }]

/-- The TIER registers. -/
def regTableTIER : List RegDef := [
  { name := "TIER_STAT", base := 0x900000, n1 := 1, s1 := 0x0, n2 := 1, s2 := 0x0, width := 32, grp := .none,
    fields := fun _ _ => [TIER_STAT_AGE_EVICT, TIER_STAT_POOL_REFUSED, TIER_STAT_POOL_LOW_T0, TIER_STAT_POOL_LOW_T1] },
  { name := "TIER_EVT_MASK", base := 0x900004, n1 := 1, s1 := 0x0, n2 := 1, s2 := 0x0, width := 32, grp := .none,
    fields := fun _ _ => [TIER_EVT_MASK_MASK] },
  { name := "TIER_EVT_VEC", base := 0x900008, n1 := 1, s1 := 0x0, n2 := 1, s2 := 0x0, width := 32, grp := .none,
    fields := fun _ _ => [TIER_EVT_VEC_VEC] },
  { name := "TIER_CAP", base := 0x900010, n1 := 1, s1 := 0x0, n2 := 1, s2 := 0x0, width := 64, grp := .none,
    fields := fun _ _ => [TIER_CAP_T0, TIER_CAP_T1, TIER_CAP_T2] },
  { name := "TIER_RADIO", base := 0x900018, n1 := 1, s1 := 0x0, n2 := 1, s2 := 0x0, width := 64, grp := .none,
    fields := fun _ _ => [TIER_RADIO_T0, TIER_RADIO_T1] },
  { name := "TIER_POOLUSE", base := 0x900030, n1 := 1, s1 := 0x0, n2 := 1, s2 := 0x0, width := 64, grp := .none,
    fields := fun _ _ => [TIER_POOLUSE_T0, TIER_POOLUSE_T1] },
  { name := "TIER_AGE_NOW", base := 0x900040, n1 := 1, s1 := 0x0, n2 := 1, s2 := 0x0, width := 32, grp := .none,
    fields := fun _ _ => [TIER_AGE_NOW_NOW] },
  { name := "TIER_MIG", base := 0x900044, n1 := 1, s1 := 0x0, n2 := 1, s2 := 0x0, width := 32, grp := .none,
    fields := fun _ _ => [TIER_MIG_RATE, TIER_MIG_RUNNING, TIER_MIG_QUEUED] },
  { name := "TIER_BMAP_SEL", base := 0x900048, n1 := 1, s1 := 0x0, n2 := 1, s2 := 0x0, width := 32, grp := .none,
    fields := fun _ _ => [TIER_BMAP_SEL_BLOCK] },
  { name := "TIER_BMAP_ENT", base := 0x900050, n1 := 1, s1 := 0x0, n2 := 1, s2 := 0x0, width := 64, grp := .none,
    fields := fun _ _ => [TIER_BMAP_ENT_ENTRY] },
  { name := "TIER_POOL_Tn", base := 0x900020, n1 := 2, s1 := 0x8, n2 := 1, s2 := 0x0, width := 64, grp := .none,
    fields := fun i _ => [TIER_POOL_Tn_SIZE i, TIER_POOL_Tn_LOW i, TIER_POOL_Tn_HIGH i] },
  { name := "TIER_T_PROMOTE", base := 0x900080, n1 := 1, s1 := 0x0, n2 := 1, s2 := 0x0, width := 32, grp := (.fixed 7),
    fields := fun _ _ => [TIER_T_PROMOTE_COUNT] },
  { name := "TIER_T_EVICT", base := 0x900084, n1 := 1, s1 := 0x0, n2 := 1, s2 := 0x0, width := 32, grp := (.fixed 7),
    fields := fun _ _ => [TIER_T_EVICT_COUNT] },
  { name := "TIER_T_AGEEVICT", base := 0x900088, n1 := 1, s1 := 0x0, n2 := 1, s2 := 0x0, width := 32, grp := (.fixed 7),
    fields := fun _ _ => [TIER_T_AGEEVICT_COUNT] },
  { name := "TIER_T_WBACK", base := 0x90008C, n1 := 1, s1 := 0x0, n2 := 1, s2 := 0x0, width := 32, grp := (.fixed 7),
    fields := fun _ _ => [TIER_T_WBACK_COUNT] },
  { name := "TIER_T_CLEAN", base := 0x900090, n1 := 1, s1 := 0x0, n2 := 1, s2 := 0x0, width := 32, grp := (.fixed 7),
    fields := fun _ _ => [TIER_T_CLEAN_COUNT] },
  { name := "TIER_T_HOLD", base := 0x900094, n1 := 1, s1 := 0x0, n2 := 1, s2 := 0x0, width := 32, grp := (.fixed 7),
    fields := fun _ _ => [TIER_T_HOLD_COUNT] },
  { name := "TIER_Pp_T0", base := 0x901000, n1 := 8, s1 := 0x40, n2 := 1, s2 := 0x0, width := 64, grp := .none,
    fields := fun i _ => [TIER_Pp_T0_QUOTA i, TIER_Pp_T0_USED i] },
  { name := "TIER_Pp_T1", base := 0x901008, n1 := 8, s1 := 0x40, n2 := 1, s2 := 0x0, width := 64, grp := .none,
    fields := fun i _ => [TIER_Pp_T1_QUOTA i, TIER_Pp_T1_USED i] },
  { name := "TIER_Pp_T2", base := 0x901010, n1 := 8, s1 := 0x40, n2 := 1, s2 := 0x0, width := 64, grp := .none,
    fields := fun i _ => [TIER_Pp_T2_LIMIT i, TIER_Pp_T2_USED i] },
  { name := "TIER_Pp_POOL", base := 0x901018, n1 := 8, s1 := 0x40, n2 := 1, s2 := 0x0, width := 64, grp := .none,
    fields := fun i _ => [TIER_Pp_POOL_T0 i, TIER_Pp_POOL_T1 i] },
  { name := "TIER_Pp_OBJS", base := 0x901020, n1 := 8, s1 := 0x40, n2 := 1, s2 := 0x0, width := 32, grp := .none,
    fields := fun i _ => [TIER_Pp_OBJS_COUNT i] },
  { name := "TIER_Pp_AGEVICT", base := 0x901024, n1 := 8, s1 := 0x40, n2 := 1, s2 := 0x0, width := 32, grp := (.fixed 7),
    fields := fun i _ => [TIER_Pp_AGEVICT_COUNT i] }]

/-- The MEMC registers. -/
def regTableMEMC : List RegDef := [
  { name := "MEMC_STAT", base := 0xA00000, n1 := 1, s1 := 0x0, n2 := 1, s2 := 0x0, width := 32, grp := .none,
    fields := fun _ _ => [MEMC_STAT_CE, MEMC_STAT_UE, MEMC_STAT_REFETCH_FAIL, MEMC_STAT_PDROP, MEMC_STAT_SCRUB_SLOW, MEMC_STAT_FILLING] },
  { name := "MEMC_EVT_MASK", base := 0xA00004, n1 := 1, s1 := 0x0, n2 := 1, s2 := 0x0, width := 32, grp := .none,
    fields := fun _ _ => [MEMC_EVT_MASK_MASK] },
  { name := "MEMC_EVT_VEC", base := 0xA00008, n1 := 1, s1 := 0x0, n2 := 1, s2 := 0x0, width := 32, grp := .none,
    fields := fun _ _ => [MEMC_EVT_VEC_VEC] },
  { name := "MEMC_FILL", base := 0xA00010, n1 := 1, s1 := 0x0, n2 := 1, s2 := 0x0, width := 32, grp := .none,
    fields := fun _ _ => [MEMC_FILL_DONE, MEMC_FILL_PCT] },
  { name := "MEMC_CODE", base := 0xA00014, n1 := 1, s1 := 0x0, n2 := 1, s2 := 0x0, width := 32, grp := .none,
    fields := fun _ _ => [MEMC_CODE_PARITY, MEMC_CODE_ACTIVE] },
  { name := "MEMC_REFETCH", base := 0xA00018, n1 := 1, s1 := 0x0, n2 := 1, s2 := 0x0, width := 32, grp := .none,
    fields := fun _ _ => [MEMC_REFETCH_BOUND, MEMC_REFETCH_ACTIVE] },
  { name := "MEMC_SCRUB_Tn", base := 0xA00020, n1 := 3, s1 := 0x4, n2 := 1, s2 := 0x0, width := 32, grp := .none,
    fields := fun i _ => [MEMC_SCRUB_Tn_PERIOD i] },
  { name := "MEMC_T_POISON", base := 0xA00040, n1 := 1, s1 := 0x0, n2 := 1, s2 := 0x0, width := 32, grp := (.fixed 12),
    fields := fun _ _ => [MEMC_T_POISON_COUNT] },
  { name := "MEMC_T_REFETCH", base := 0xA00044, n1 := 1, s1 := 0x0, n2 := 1, s2 := 0x0, width := 32, grp := (.fixed 12),
    fields := fun _ _ => [MEMC_T_REFETCH_COUNT] },
  { name := "MEMC_T_REFAIL", base := 0xA00048, n1 := 1, s1 := 0x0, n2 := 1, s2 := 0x0, width := 32, grp := (.fixed 12),
    fields := fun _ _ => [MEMC_T_REFAIL_COUNT] },
  { name := "MEMC_T_PDROP", base := 0xA0004C, n1 := 1, s1 := 0x0, n2 := 1, s2 := 0x0, width := 32, grp := (.fixed 12),
    fields := fun _ _ => [MEMC_T_PDROP_COUNT] },
  { name := "MEMC_Xk_INFO", base := 0xA01000, n1 := 32, s1 := 0x40, n2 := 1, s2 := 0x0, width := 32, grp := (.fixed 12),
    fields := fun i _ => [MEMC_Xk_INFO_TIER i, MEMC_Xk_INFO_UNIT i] },
  { name := "MEMC_Xk_CE", base := 0xA01004, n1 := 32, s1 := 0x40, n2 := 1, s2 := 0x0, width := 32, grp := (.fixed 12),
    fields := fun i _ => [MEMC_Xk_CE_COUNT i] },
  { name := "MEMC_Xk_UE", base := 0xA01008, n1 := 32, s1 := 0x40, n2 := 1, s2 := 0x0, width := 32, grp := (.fixed 12),
    fields := fun i _ => [MEMC_Xk_UE_COUNT i] },
  { name := "MEMC_Xk_LOGHEAD", base := 0xA0100C, n1 := 32, s1 := 0x40, n2 := 1, s2 := 0x0, width := 32, grp := (.fixed 12),
    fields := fun i _ => [MEMC_Xk_LOGHEAD_NEXT i, MEMC_Xk_LOGHEAD_TOTAL i] },
  { name := "MEMC_LOG_ENT0", base := 0xA04000, n1 := 32, s1 := 0x200, n2 := 32, s2 := 0x10, width := 64, grp := .none,
    fields := fun i j => [MEMC_LOG_ENT0_ENT i j] },
  { name := "MEMC_LOG_ENT1", base := 0xA04008, n1 := 32, s1 := 0x200, n2 := 32, s2 := 0x10, width := 64, grp := .none,
    fields := fun i j => [MEMC_LOG_ENT1_ENT i j] }]

/-- The CHK registers. -/
def regTableCHK : List RegDef := [
  { name := "CHK_STAT", base := 0xB00000, n1 := 1, s1 := 0x0, n2 := 1, s2 := 0x0, width := 32, grp := (.fixed 13),
    fields := fun _ _ => [CHK_STAT_DONE, CHK_STAT_ERR] },
  { name := "CHK_EVT_MASK", base := 0xB00004, n1 := 1, s1 := 0x0, n2 := 1, s2 := 0x0, width := 32, grp := (.fixed 13),
    fields := fun _ _ => [CHK_EVT_MASK_MASK] },
  { name := "CHK_EVT_VEC", base := 0xB00008, n1 := 1, s1 := 0x0, n2 := 1, s2 := 0x0, width := 32, grp := (.fixed 13),
    fields := fun _ _ => [CHK_EVT_VEC_VEC] },
  { name := "CHK_T_SCANS", base := 0xB00010, n1 := 1, s1 := 0x0, n2 := 1, s2 := 0x0, width := 32, grp := (.fixed 13),
    fields := fun _ _ => [CHK_T_SCANS_COUNT] },
  { name := "CHK_T_BYTES", base := 0xB00014, n1 := 1, s1 := 0x0, n2 := 1, s2 := 0x0, width := 32, grp := (.fixed 13),
    fields := fun _ _ => [CHK_T_BYTES_COUNT] },
  { name := "CHK_DONE", base := 0xB00018, n1 := 1, s1 := 0x0, n2 := 1, s2 := 0x0, width := 64, grp := (.fixed 13),
    fields := fun _ _ => [CHK_DONE_UNIT] },
  { name := "CHK_Uu_CTRL", base := 0xB01000, n1 := 64, s1 := 0x40, n2 := 1, s2 := 0x0, width := 32, grp := .none,
    fields := fun i _ => [CHK_Uu_CTRL_GO i, CHK_Uu_CTRL_STOP i, CHK_Uu_CTRL_RESEED i, CHK_Uu_CTRL_MODE i, CHK_Uu_CTRL_CMP i, CHK_Uu_CTRL_OWNER i] },
  { name := "CHK_Uu_STAT", base := 0xB01004, n1 := 64, s1 := 0x40, n2 := 1, s2 := 0x0, width := 32, grp := .none,
    fields := fun i _ => [CHK_Uu_STAT_STATE i, CHK_Uu_STAT_ERR i, CHK_Uu_STAT_MATCH i, CHK_Uu_STAT_REFUSED i] },
  { name := "CHK_Uu_SEEDADDR", base := 0xB01008, n1 := 64, s1 := 0x40, n2 := 1, s2 := 0x0, width := 64, grp := .none,
    fields := fun i _ => [CHK_Uu_SEEDADDR_A i] },
  { name := "CHK_Uu_START", base := 0xB01010, n1 := 64, s1 := 0x40, n2 := 1, s2 := 0x0, width := 64, grp := .none,
    fields := fun i _ => [CHK_Uu_START_START i] },
  { name := "CHK_Uu_LEN", base := 0xB01018, n1 := 64, s1 := 0x40, n2 := 1, s2 := 0x0, width := 64, grp := .none,
    fields := fun i _ => [CHK_Uu_LEN_LEN i] },
  { name := "CHK_Uu_RUN", base := 0xB01020, n1 := 64, s1 := 0x40, n2 := 1, s2 := 0x0, width := 64, grp := .none,
    fields := fun i _ => [CHK_Uu_RUN_RUN i] },
  { name := "CHK_Uu_RESULT", base := 0xB01028, n1 := 64, s1 := 0x40, n2 := 1, s2 := 0x0, width := 64, grp := .none,
    fields := fun i _ => [CHK_Uu_RESULT_RESULT i] },
  { name := "CHK_Uu_EXPECT", base := 0xB01030, n1 := 64, s1 := 0x40, n2 := 1, s2 := 0x0, width := 64, grp := .none,
    fields := fun i _ => [CHK_Uu_EXPECT_EXPECT i] }]

/-- The HJF registers. -/
def regTableHJF : List RegDef := [
  { name := "HJF_CFG", base := 0xC00000, n1 := 1, s1 := 0x0, n2 := 1, s2 := 0x0, width := 32, grp := .none,
    fields := fun _ _ => [HJF_CFG_DEVID, HJF_CFG_EN] },
  { name := "HJF_STAT", base := 0xC00004, n1 := 1, s1 := 0x0, n2 := 1, s2 := 0x0, width := 32, grp := .none,
    fields := fun _ _ => [HJF_STAT_DENIED, HJF_STAT_DISCARD, HJF_STAT_PORT_FAIL, HJF_STAT_SPARE] },
  { name := "HJF_EVT_MASK", base := 0xC00008, n1 := 1, s1 := 0x0, n2 := 1, s2 := 0x0, width := 32, grp := .none,
    fields := fun _ _ => [HJF_EVT_MASK_MASK] },
  { name := "HJF_EVT_VEC", base := 0xC0000C, n1 := 1, s1 := 0x0, n2 := 1, s2 := 0x0, width := 32, grp := .none,
    fields := fun _ _ => [HJF_EVT_VEC_VEC] },
  { name := "HJF_FTT", base := 0xC00010, n1 := 1, s1 := 0x0, n2 := 1, s2 := 0x0, width := 32, grp := .none,
    fields := fun _ _ => [HJF_FTT_USED] },
  { name := "HJF_TIME", base := 0xC00014, n1 := 1, s1 := 0x0, n2 := 1, s2 := 0x0, width := 32, grp := .none,
    fields := fun _ _ => [HJF_TIME_ROOT, HJF_TIME_RSRC, HJF_TIME_PARENT] },
  { name := "HJF_ROUTE_SEL", base := 0xC00018, n1 := 1, s1 := 0x0, n2 := 1, s2 := 0x0, width := 32, grp := .none,
    fields := fun _ _ => [HJF_ROUTE_SEL_DST] },
  { name := "HJF_ROUTE_ENT", base := 0xC00020, n1 := 1, s1 := 0x0, n2 := 1, s2 := 0x0, width := 64, grp := .none,
    fields := fun _ _ => [HJF_ROUTE_ENT_ENTRY] },
  { name := "HJF_GROUP_SEL", base := 0xC00028, n1 := 1, s1 := 0x0, n2 := 1, s2 := 0x0, width := 32, grp := .none,
    fields := fun _ _ => [HJF_GROUP_SEL_GROUP] },
  { name := "HJF_GROUP_ENT", base := 0xC00030, n1 := 1, s1 := 0x0, n2 := 1, s2 := 0x0, width := 64, grp := .none,
    fields := fun _ _ => [HJF_GROUP_ENT_ENTRY] },
  { name := "HJF_LOGHEAD", base := 0xC00040, n1 := 1, s1 := 0x0, n2 := 1, s2 := 0x0, width := 32, grp := .none,
    fields := fun _ _ => [HJF_LOGHEAD_NEXT, HJF_LOGHEAD_TOTAL] },
  { name := "HJF_T_REQIN", base := 0xC00080, n1 := 1, s1 := 0x0, n2 := 1, s2 := 0x0, width := 32, grp := (.fixed 14),
    fields := fun _ _ => [HJF_T_REQIN_COUNT] },
  { name := "HJF_T_DENIED", base := 0xC00084, n1 := 1, s1 := 0x0, n2 := 1, s2 := 0x0, width := 32, grp := (.fixed 14),
    fields := fun _ _ => [HJF_T_DENIED_COUNT] },
  { name := "HJF_T_DISCARD", base := 0xC00088, n1 := 1, s1 := 0x0, n2 := 1, s2 := 0x0, width := 32, grp := (.fixed 14),
    fields := fun _ _ => [HJF_T_DISCARD_COUNT] },
  { name := "HJF_T_TRANSIT", base := 0xC0008C, n1 := 1, s1 := 0x0, n2 := 1, s2 := 0x0, width := 32, grp := (.fixed 14),
    fields := fun _ _ => [HJF_T_TRANSIT_COUNT] },
  { name := "HJF_Pp_STAT", base := 0xC01000, n1 := 16, s1 := 0x40, n2 := 1, s2 := 0x0, width := 32, grp := (.fixed 14),
    fields := fun i _ => [HJF_Pp_STAT_STATE i, HJF_Pp_STAT_SPARE_IN i, HJF_Pp_STAT_LANE_OUT i, HJF_Pp_STAT_PEER_SWITCH i] },
  { name := "HJF_Pp_PEER", base := 0xC01004, n1 := 16, s1 := 0x40, n2 := 1, s2 := 0x0, width := 32, grp := (.fixed 14),
    fields := fun i _ => [HJF_Pp_PEER_ID i, HJF_Pp_PEER_VALID i] },
  { name := "HJF_Pp_RETRY", base := 0xC01008, n1 := 16, s1 := 0x40, n2 := 1, s2 := 0x0, width := 32, grp := (.fixed 14),
    fields := fun i _ => [HJF_Pp_RETRY_COUNT i] },
  { name := "HJF_Pp_FECCOR", base := 0xC0100C, n1 := 16, s1 := 0x40, n2 := 1, s2 := 0x0, width := 32, grp := (.fixed 14),
    fields := fun i _ => [HJF_Pp_FECCOR_COUNT i] },
  { name := "HJF_Pp_TXFLIT", base := 0xC01010, n1 := 16, s1 := 0x40, n2 := 1, s2 := 0x0, width := 32, grp := (.fixed 14),
    fields := fun i _ => [HJF_Pp_TXFLIT_COUNT i] },
  { name := "HJF_Pp_RXFLIT", base := 0xC01014, n1 := 16, s1 := 0x40, n2 := 1, s2 := 0x0, width := 32, grp := (.fixed 14),
    fields := fun i _ => [HJF_Pp_RXFLIT_COUNT i] },
  { name := "HJF_LOG_ENT0", base := 0xC04000, n1 := 32, s1 := 0x10, n2 := 1, s2 := 0x0, width := 64, grp := .none,
    fields := fun i _ => [HJF_LOG_ENT0_ENT i] },
  { name := "HJF_LOG_ENT1", base := 0xC04008, n1 := 32, s1 := 0x10, n2 := 1, s2 := 0x0, width := 64, grp := .none,
    fields := fun i _ => [HJF_LOG_ENT1_ENT i] },
  { name := "HJF_ORD", base := 0xC00100, n1 := 1, s1 := 0x0, n2 := 1, s2 := 0x0, width := 32, grp := .none,
    fields := fun _ _ => [HJF_ORD_TIMEOUT] },
  { name := "HJF_DF", base := 0xC00104, n1 := 1, s1 := 0x0, n2 := 1, s2 := 0x0, width := 32, grp := .none,
    fields := fun _ _ => [HJF_DF_IDLE, HJF_DF_STREAMS] },
  { name := "HJF_COMB", base := 0xC00108, n1 := 1, s1 := 0x0, n2 := 1, s2 := 0x0, width := 32, grp := .none,
    fields := fun _ _ => [HJF_COMB_CRED, HJF_COMB_HOT_THR] },
  { name := "HJF_HOT", base := 0xC00110, n1 := 1, s1 := 0x0, n2 := 1, s2 := 0x0, width := 64, grp := .none,
    fields := fun _ _ => [HJF_HOT_LINE, HJF_HOT_COMB] },
  { name := "HJF_GATE", base := 0xC00118, n1 := 1, s1 := 0x0, n2 := 1, s2 := 0x0, width := 32, grp := .none,
    fields := fun _ _ => [HJF_GATE_FENCED, HJF_GATE_ELEC] },
  { name := "HJF_OSTAT", base := 0xC00140, n1 := 1, s1 := 0x0, n2 := 1, s2 := 0x0, width := 32, grp := .none,
    fields := fun _ _ => [HJF_OSTAT_TIMEOUT, HJF_OSTAT_STALE, HJF_OSTAT_HOTLINE, HJF_OSTAT_FENCED, HJF_OSTAT_DF_REFUSED] },
  { name := "HJF_OEVT_MASK", base := 0xC00144, n1 := 1, s1 := 0x0, n2 := 1, s2 := 0x0, width := 32, grp := .none,
    fields := fun _ _ => [HJF_OEVT_MASK_MASK] },
  { name := "HJF_OEVT_VEC", base := 0xC00148, n1 := 1, s1 := 0x0, n2 := 1, s2 := 0x0, width := 32, grp := .none,
    fields := fun _ _ => [HJF_OEVT_VEC_VEC] },
  { name := "HJF_GATE_KEYp", base := 0xC00120, n1 := 8, s1 := 0x4, n2 := 1, s2 := 0x0, width := 32, grp := .none,
    fields := fun i _ => [HJF_GATE_KEYp_EXTKEY i] },
  { name := "HJF_T_REISSUE", base := 0xC00180, n1 := 1, s1 := 0x0, n2 := 1, s2 := 0x0, width := 32, grp := (.fixed 14),
    fields := fun _ _ => [HJF_T_REISSUE_COUNT] },
  { name := "HJF_T_DUP", base := 0xC00184, n1 := 1, s1 := 0x0, n2 := 1, s2 := 0x0, width := 32, grp := (.fixed 14),
    fields := fun _ _ => [HJF_T_DUP_COUNT] },
  { name := "HJF_T_STALE", base := 0xC00188, n1 := 1, s1 := 0x0, n2 := 1, s2 := 0x0, width := 32, grp := (.fixed 14),
    fields := fun _ _ => [HJF_T_STALE_COUNT] },
  { name := "HJF_T_DUPACK", base := 0xC0018C, n1 := 1, s1 := 0x0, n2 := 1, s2 := 0x0, width := 32, grp := (.fixed 14),
    fields := fun _ _ => [HJF_T_DUPACK_COUNT] },
  { name := "HJF_T_TIMEOUT", base := 0xC00190, n1 := 1, s1 := 0x0, n2 := 1, s2 := 0x0, width := 32, grp := (.fixed 14),
    fields := fun _ _ => [HJF_T_TIMEOUT_COUNT] },
  { name := "HJF_T_HOTLINE", base := 0xC00194, n1 := 1, s1 := 0x0, n2 := 1, s2 := 0x0, width := 32, grp := (.fixed 14),
    fields := fun _ _ => [HJF_T_HOTLINE_COUNT] },
  { name := "HJF_T_FENCED", base := 0xC00198, n1 := 1, s1 := 0x0, n2 := 1, s2 := 0x0, width := 32, grp := (.fixed 14),
    fields := fun _ _ => [HJF_T_FENCED_COUNT] },
  { name := "HJF_T_COMBWAIT", base := 0xC0019C, n1 := 1, s1 := 0x0, n2 := 1, s2 := 0x0, width := 32, grp := (.fixed 14),
    fields := fun _ _ => [HJF_T_COMBWAIT_COUNT] }]

/-- The SCHED registers. -/
def regTableSCHED : List RegDef := [
  { name := "SCHED_CTRL", base := 0xD00000, n1 := 1, s1 := 0x0, n2 := 1, s2 := 0x0, width := 32, grp := .none,
    fields := fun _ _ => [SCHED_CTRL_BLOCK] },
  { name := "SCHED_STAT", base := 0xD00004, n1 := 1, s1 := 0x0, n2 := 1, s2 := 0x0, width := 32, grp := .none,
    fields := fun _ _ => [SCHED_STAT_CTXS, SCHED_STAT_MBX_OVR, SCHED_STAT_DLOG_OVF, SCHED_STAT_LOST_BOUND] },
  { name := "SCHED_EVT_MASK", base := 0xD00008, n1 := 1, s1 := 0x0, n2 := 1, s2 := 0x0, width := 32, grp := .none,
    fields := fun _ _ => [SCHED_EVT_MASK_MASK] },
  { name := "SCHED_EVT_VEC", base := 0xD0000C, n1 := 1, s1 := 0x0, n2 := 1, s2 := 0x0, width := 32, grp := .none,
    fields := fun _ _ => [SCHED_EVT_VEC_VEC] },
  { name := "SCHED_T_SWAP", base := 0xD00020, n1 := 1, s1 := 0x0, n2 := 1, s2 := 0x0, width := 32, grp := (.fixed 15),
    fields := fun _ _ => [SCHED_T_SWAP_COUNT] },
  { name := "SCHED_T_BLOCK", base := 0xD00024, n1 := 1, s1 := 0x0, n2 := 1, s2 := 0x0, width := 32, grp := (.fixed 15),
    fields := fun _ _ => [SCHED_T_BLOCK_COUNT] },
  { name := "SCHED_T_SPILL", base := 0xD00028, n1 := 1, s1 := 0x0, n2 := 1, s2 := 0x0, width := 32, grp := (.fixed 15),
    fields := fun _ _ => [SCHED_T_SPILL_COUNT] },
  { name := "SCHED_T_RESTART", base := 0xD0002C, n1 := 1, s1 := 0x0, n2 := 1, s2 := 0x0, width := 32, grp := (.fixed 15),
    fields := fun _ _ => [SCHED_T_RESTART_COUNT] },
  { name := "SCHED_T_FALLBACK", base := 0xD00030, n1 := 1, s1 := 0x0, n2 := 1, s2 := 0x0, width := 32, grp := (.fixed 15),
    fields := fun _ _ => [SCHED_T_FALLBACK_COUNT] },
  { name := "SCHED_T_REFSTALL", base := 0xD00034, n1 := 1, s1 := 0x0, n2 := 1, s2 := 0x0, width := 32, grp := (.fixed 15),
    fields := fun _ _ => [SCHED_T_REFSTALL_COUNT] },
  { name := "SCHED_DET", base := 0xD00040, n1 := 1, s1 := 0x0, n2 := 1, s2 := 0x0, width := 32, grp := .none,
    fields := fun _ _ => [SCHED_DET_NUMERIC, SCHED_DET_PARTS] },
  { name := "SCHED_DET_FW", base := 0xD00044, n1 := 1, s1 := 0x0, n2 := 1, s2 := 0x0, width := 32, grp := .none,
    fields := fun _ _ => [SCHED_DET_FW_FWVER] },
  { name := "SCHED_DET_PAD", base := 0xD00048, n1 := 1, s1 := 0x0, n2 := 1, s2 := 0x0, width := 64, grp := .none,
    fields := fun _ _ => [SCHED_DET_PAD_T0, SCHED_DET_PAD_T1, SCHED_DET_PAD_T2] },
  { name := "SCHED_Pp_INFO", base := 0xD01000, n1 := 8, s1 := 0x80, n2 := 1, s2 := 0x0, width := 32, grp := .none,
    fields := fun i _ => [SCHED_Pp_INFO_STATE i, SCHED_Pp_INFO_FUNC i, SCHED_Pp_INFO_NRES i, SCHED_Pp_INFO_DET i] },
  { name := "SCHED_Pp_CTX", base := 0xD01004, n1 := 8, s1 := 0x80, n2 := 1, s2 := 0x0, width := 32, grp := .none,
    fields := fun i _ => [SCHED_Pp_CTX_CTXS i, SCHED_Pp_CTX_RESIDENT i, SCHED_Pp_CTX_WAITING i] },
  { name := "SCHED_Pp_CORESi", base := 0xD01008, n1 := 8, s1 := 0x80, n2 := 3, s2 := 0x8, width := 64, grp := .none,
    fields := fun i j => [SCHED_Pp_CORESi_CORES i j] },
  { name := "SCHED_Pp_REG_T1", base := 0xD01020, n1 := 8, s1 := 0x80, n2 := 1, s2 := 0x0, width := 64, grp := .none,
    fields := fun i _ => [SCHED_Pp_REG_T1_RATE i, SCHED_Pp_REG_T1_BURST i] },
  { name := "SCHED_Pp_REG_T2", base := 0xD01028, n1 := 8, s1 := 0x80, n2 := 1, s2 := 0x0, width := 64, grp := .none,
    fields := fun i _ => [SCHED_Pp_REG_T2_RATE i, SCHED_Pp_REG_T2_BURST i] },
  { name := "SCHED_Pp_REG_FAB", base := 0xD01030, n1 := 8, s1 := 0x80, n2 := 1, s2 := 0x0, width := 64, grp := .none,
    fields := fun i _ => [SCHED_Pp_REG_FAB_RATE i, SCHED_Pp_REG_FAB_BURST i] },
  { name := "SCHED_Pp_WAIT_T1", base := 0xD01038, n1 := 8, s1 := 0x80, n2 := 1, s2 := 0x0, width := 32, grp := (.fixed 15),
    fields := fun i _ => [SCHED_Pp_WAIT_T1_COUNT i] },
  { name := "SCHED_Pp_WAIT_T2", base := 0xD0103C, n1 := 8, s1 := 0x80, n2 := 1, s2 := 0x0, width := 32, grp := (.fixed 15),
    fields := fun i _ => [SCHED_Pp_WAIT_T2_COUNT i] },
  { name := "SCHED_Pp_WAIT_FAB", base := 0xD01040, n1 := 8, s1 := 0x80, n2 := 1, s2 := 0x0, width := 32, grp := (.fixed 15),
    fields := fun i _ => [SCHED_Pp_WAIT_FAB_COUNT i] },
  { name := "SCHED_Pp_LEASE", base := 0xD01044, n1 := 8, s1 := 0x80, n2 := 1, s2 := 0x0, width := 32, grp := (.fixed 15),
    fields := fun i _ => [SCHED_Pp_LEASE_COUNT i] },
  { name := "SCHED_DLOGv_CTRL", base := 0xD02000, n1 := 32, s1 := 0x40, n2 := 1, s2 := 0x0, width := 32, grp := .none,
    fields := fun i _ => [SCHED_DLOGv_CTRL_EN i, SCHED_DLOGv_CTRL_SWAP i] },
  { name := "SCHED_DLOGv_STAT", base := 0xD02004, n1 := 32, s1 := 0x40, n2 := 1, s2 := 0x0, width := 32, grp := .none,
    fields := fun i _ => [SCHED_DLOGv_STAT_ACTIVE i, SCHED_DLOGv_STAT_FLUSH i, SCHED_DLOGv_STAT_OVF i, SCHED_DLOGv_STAT_SWAP_REFUSED i] },
  { name := "SCHED_DLOGv_BASE", base := 0xD02008, n1 := 32, s1 := 0x40, n2 := 1, s2 := 0x0, width := 64, grp := .none,
    fields := fun i _ => [SCHED_DLOGv_BASE_BASE i] },
  { name := "SCHED_DLOGv_PAGES", base := 0xD02010, n1 := 32, s1 := 0x40, n2 := 1, s2 := 0x0, width := 32, grp := .none,
    fields := fun i _ => [SCHED_DLOGv_PAGES_PAGES i] },
  { name := "SCHED_DLOGv_BUF0", base := 0xD02018, n1 := 32, s1 := 0x40, n2 := 1, s2 := 0x0, width := 64, grp := .none,
    fields := fun i _ => [SCHED_DLOGv_BUF0_ADDR i] },
  { name := "SCHED_DLOGv_BUF1", base := 0xD02020, n1 := 32, s1 := 0x40, n2 := 1, s2 := 0x0, width := 64, grp := .none,
    fields := fun i _ => [SCHED_DLOGv_BUF1_ADDR i] },
  { name := "SCHED_DLOGv_T_PAGES", base := 0xD02028, n1 := 32, s1 := 0x40, n2 := 1, s2 := 0x0, width := 32, grp := (.fixed 15),
    fields := fun i _ => [SCHED_DLOGv_T_PAGES_COUNT i] },
  { name := "SCHED_MBXv_CTRL", base := 0xD03000, n1 := 32, s1 := 0x10, n2 := 1, s2 := 0x0, width := 32, grp := .none,
    fields := fun i _ => [SCHED_MBXv_CTRL_V2P_POST i, SCHED_MBXv_CTRL_V2P_FULL i, SCHED_MBXv_CTRL_V2P_ACK i, SCHED_MBXv_CTRL_P2V_POST i, SCHED_MBXv_CTRL_P2V_FULL i, SCHED_MBXv_CTRL_P2V_ACK i] },
  { name := "SCHED_MBXv_VEC", base := 0xD03004, n1 := 32, s1 := 0x10, n2 := 1, s2 := 0x0, width := 32, grp := .none,
    fields := fun i _ => [SCHED_MBXv_VEC_PF_VEC i, SCHED_MBXv_VEC_VF_VEC i] }]

/-- The FLT registers. -/
def regTableFLT : List RegDef := [
  { name := "FLT_STAT", base := 0xE00000, n1 := 1, s1 := 0x0, n2 := 1, s2 := 0x0, width := 32, grp := .none,
    fields := fun _ _ => [FLT_STAT_ITEM_FAILED, FLT_STAT_SUSPECT, FLT_STAT_SPARED, FLT_STAT_NO_SPARE, FLT_STAT_SHADOW, FLT_STAT_WDOG, FLT_STAT_REFMON, FLT_STAT_LEDGER_LOW] },
  { name := "FLT_EVT_MASK", base := 0xE00004, n1 := 1, s1 := 0x0, n2 := 1, s2 := 0x0, width := 32, grp := .none,
    fields := fun _ _ => [FLT_EVT_MASK_MASK] },
  { name := "FLT_EVT_VEC", base := 0xE00008, n1 := 1, s1 := 0x0, n2 := 1, s2 := 0x0, width := 32, grp := .none,
    fields := fun _ _ => [FLT_EVT_VEC_VEC] },
  { name := "FLT_ASSAY", base := 0xE00010, n1 := 1, s1 := 0x0, n2 := 1, s2 := 0x0, width := 32, grp := .none,
    fields := fun _ _ => [FLT_ASSAY_PERIOD, FLT_ASSAY_THR] },
  { name := "FLT_WDOG", base := 0xE00014, n1 := 1, s1 := 0x0, n2 := 1, s2 := 0x0, width := 32, grp := .none,
    fields := fun _ _ => [FLT_WDOG_TD, FLT_WDOG_MISS] },
  { name := "FLT_HEART", base := 0xE00018, n1 := 1, s1 := 0x0, n2 := 1, s2 := 0x0, width := 32, grp := .none,
    fields := fun _ _ => [FLT_HEART_ALIVE] },
  { name := "FLT_REFMON", base := 0xE00020, n1 := 1, s1 := 0x0, n2 := 1, s2 := 0x0, width := 64, grp := .none,
    fields := fun _ _ => [FLT_REFMON_PROC, FLT_REFMON_STATE, FLT_REFMON_OPCODE, FLT_REFMON_SEQ] },
  { name := "FLT_SPARE", base := 0xE00028, n1 := 1, s1 := 0x0, n2 := 1, s2 := 0x0, width := 64, grp := .none,
    fields := fun _ _ => [FLT_SPARE_MC, FLT_SPARE_SC, FLT_SPARE_CP, FLT_SPARE_LDPC, FLT_SPARE_POLAR, FLT_SPARE_FH, FLT_SPARE_HJF, FLT_SPARE_HBMCH] },
  { name := "FLT_SPARE_CFG", base := 0xE00030, n1 := 1, s1 := 0x0, n2 := 1, s2 := 0x0, width := 32, grp := .none,
    fields := fun _ _ => [FLT_SPARE_CFG_CE_THR, FLT_SPARE_CFG_CH_THR] },
  { name := "FLT_HOURS", base := 0xE00034, n1 := 1, s1 := 0x0, n2 := 1, s2 := 0x0, width := 32, grp := .none,
    fields := fun _ _ => [FLT_HOURS_HOURS] },
  { name := "FLT_HIST_SEL", base := 0xE00038, n1 := 1, s1 := 0x0, n2 := 1, s2 := 0x0, width := 32, grp := .none,
    fields := fun _ _ => [FLT_HIST_SEL_ENTRY] },
  { name := "FLT_HIST_ENT0", base := 0xE00040, n1 := 1, s1 := 0x0, n2 := 1, s2 := 0x0, width := 64, grp := .none,
    fields := fun _ _ => [FLT_HIST_ENT0_EVENT_LO] },
  { name := "FLT_HIST_ENT1", base := 0xE00048, n1 := 1, s1 := 0x0, n2 := 1, s2 := 0x0, width := 64, grp := .none,
    fields := fun _ _ => [FLT_HIST_ENT1_EVENT_HI] },
  { name := "FLT_T_ITEMS", base := 0xE00080, n1 := 1, s1 := 0x0, n2 := 1, s2 := 0x0, width := 32, grp := (.fixed 16),
    fields := fun _ _ => [FLT_T_ITEMS_COUNT] },
  { name := "FLT_T_ASSAY", base := 0xE00084, n1 := 1, s1 := 0x0, n2 := 1, s2 := 0x0, width := 32, grp := (.fixed 16),
    fields := fun _ _ => [FLT_T_ASSAY_COUNT] },
  { name := "FLT_T_MISMATCH", base := 0xE00088, n1 := 1, s1 := 0x0, n2 := 1, s2 := 0x0, width := 32, grp := (.fixed 16),
    fields := fun _ _ => [FLT_T_MISMATCH_COUNT] },
  { name := "FLT_T_SHADOW", base := 0xE0008C, n1 := 1, s1 := 0x0, n2 := 1, s2 := 0x0, width := 32, grp := (.fixed 16),
    fields := fun _ _ => [FLT_T_SHADOW_COUNT] },
  { name := "FLT_T_SPARED", base := 0xE00090, n1 := 1, s1 := 0x0, n2 := 1, s2 := 0x0, width := 32, grp := (.fixed 16),
    fields := fun _ _ => [FLT_T_SPARED_COUNT] },
  { name := "FLT_T_WDOG", base := 0xE00094, n1 := 1, s1 := 0x0, n2 := 1, s2 := 0x0, width := 32, grp := (.fixed 16),
    fields := fun _ _ => [FLT_T_WDOG_COUNT] },
  { name := "FLT_T_REFMON", base := 0xE00098, n1 := 1, s1 := 0x0, n2 := 1, s2 := 0x0, width := 32, grp := (.fixed 16),
    fields := fun _ _ => [FLT_T_REFMON_COUNT] },
  { name := "FLT_T_LGSTALL", base := 0xE0009C, n1 := 1, s1 := 0x0, n2 := 1, s2 := 0x0, width := 32, grp := (.fixed 16),
    fields := fun _ _ => [FLT_T_LGSTALL_COUNT] },
  { name := "FLT_LGf_CFG", base := 0xE01000, n1 := 33, s1 := 0x40, n2 := 1, s2 := 0x0, width := 32, grp := .none,
    fields := fun i _ => [FLT_LGf_CFG_EN i, FLT_LGf_CFG_SIZE i, FLT_LGf_CFG_VEC i, FLT_LGf_CFG_IRQ_EN i] },
  { name := "FLT_LGf_BASE", base := 0xE01008, n1 := 33, s1 := 0x40, n2 := 1, s2 := 0x0, width := 64, grp := .none,
    fields := fun i _ => [FLT_LGf_BASE_ADDR i] },
  { name := "FLT_LGf_HEAD", base := 0xE01010, n1 := 33, s1 := 0x40, n2 := 1, s2 := 0x0, width := 32, grp := .none,
    fields := fun i _ => [FLT_LGf_HEAD_HEAD i] },
  { name := "FLT_LGf_TAIL", base := 0xE01014, n1 := 33, s1 := 0x40, n2 := 1, s2 := 0x0, width := 32, grp := .none,
    fields := fun i _ => [FLT_LGf_TAIL_TAIL i] },
  { name := "FLT_LGf_NEXT", base := 0xE01018, n1 := 33, s1 := 0x40, n2 := 1, s2 := 0x0, width := 32, grp := .none,
    fields := fun i _ => [FLT_LGf_NEXT_NEXT i] },
  { name := "FLT_LGf_BACKLOG", base := 0xE01020, n1 := 33, s1 := 0x40, n2 := 1, s2 := 0x0, width := 64, grp := .none,
    fields := fun i _ => [FLT_LGf_BACKLOG_HELD i, FLT_LGf_BACKLOG_RESV i] },
  { name := "FLT_MCp_ASSAY", base := 0xE02000, n1 := 160, s1 := 0x20, n2 := 1, s2 := 0x0, width := 32, grp := .none,
    fields := fun i _ => [FLT_MCp_ASSAY_BAND_LAST i, FLT_MCp_ASSAY_PERIOD_CNT i, FLT_MCp_ASSAY_SUSPECT i] },
  { name := "FLT_MCp_ACELL0", base := 0xE02008, n1 := 160, s1 := 0x20, n2 := 1, s2 := 0x0, width := 64, grp := .none,
    fields := fun i _ => [FLT_MCp_ACELL0_CELLS i] },
  { name := "FLT_MCp_ACELL1", base := 0xE02010, n1 := 160, s1 := 0x20, n2 := 1, s2 := 0x0, width := 64, grp := .none,
    fields := fun i _ => [FLT_MCp_ACELL1_CELLS i] },
  { name := "FLT_SCq_ASSAY", base := 0xE04000, n1 := 72, s1 := 0x20, n2 := 1, s2 := 0x0, width := 32, grp := .none,
    fields := fun i _ => [FLT_SCq_ASSAY_BAND_LAST i, FLT_SCq_ASSAY_PERIOD_CNT i, FLT_SCq_ASSAY_SUSPECT i] },
  { name := "FLT_SCq_ACELL0", base := 0xE04008, n1 := 72, s1 := 0x20, n2 := 1, s2 := 0x0, width := 64, grp := .none,
    fields := fun i _ => [FLT_SCq_ACELL0_CELLS i] },
  { name := "FLT_SCq_ACELL1", base := 0xE04010, n1 := 72, s1 := 0x20, n2 := 1, s2 := 0x0, width := 64, grp := .none,
    fields := fun i _ => [FLT_SCq_ACELL1_CELLS i] }]

/-- The PWR registers. -/
def regTablePWR : List RegDef := [
  { name := "PWR_STAT", base := 0xF00000, n1 := 1, s1 := 0x0, n2 := 1, s2 := 0x0, width := 32, grp := .none,
    fields := fun _ _ => [PWR_STAT_THERM_WARN, PWR_STAT_THERM_LIMIT, PWR_STAT_CAP, PWR_STAT_DOM_FAULT, PWR_STAT_PIN] },
  { name := "PWR_EVT_MASK", base := 0xF00004, n1 := 1, s1 := 0x0, n2 := 1, s2 := 0x0, width := 32, grp := .none,
    fields := fun _ _ => [PWR_EVT_MASK_MASK] },
  { name := "PWR_EVT_VEC", base := 0xF00008, n1 := 1, s1 := 0x0, n2 := 1, s2 := 0x0, width := 32, grp := .none,
    fields := fun _ _ => [PWR_EVT_VEC_VEC] },
  { name := "PWR_THROTTLE", base := 0xF00010, n1 := 1, s1 := 0x0, n2 := 1, s2 := 0x0, width := 32, grp := .none,
    fields := fun _ _ => [PWR_THROTTLE_DUTY, PWR_THROTTLE_FORCE, PWR_THROTTLE_HOLD_US] },
  { name := "PWR_TSTAT", base := 0xF00014, n1 := 1, s1 := 0x0, n2 := 1, s2 := 0x0, width := 32, grp := .none,
    fields := fun _ _ => [PWR_TSTAT_PIN, PWR_TSTAT_FORCE, PWR_TSTAT_THERMAL, PWR_TSTAT_CAP, PWR_TSTAT_RELEASING, PWR_TSTAT_TRIPPED, PWR_TSTAT_IN_FORCE] },
  { name := "PWR_CAP", base := 0xF00018, n1 := 1, s1 := 0x0, n2 := 1, s2 := 0x0, width := 32, grp := .none,
    fields := fun _ _ => [PWR_CAP_WATTS] },
  { name := "PWR_EST", base := 0xF00020, n1 := 1, s1 := 0x0, n2 := 1, s2 := 0x0, width := 64, grp := .none,
    fields := fun _ _ => [PWR_EST_POWER, PWR_EST_CURRENT] },
  { name := "PWR_PEAK", base := 0xF00028, n1 := 1, s1 := 0x0, n2 := 1, s2 := 0x0, width := 32, grp := .none,
    fields := fun _ _ => [PWR_PEAK_POWER] },
  { name := "PWR_THERM", base := 0xF00030, n1 := 1, s1 := 0x0, n2 := 1, s2 := 0x0, width := 32, grp := .none,
    fields := fun _ _ => [PWR_THERM_WARN, PWR_THERM_LIMIT, PWR_THERM_HYST, PWR_THERM_TRIP] },
  { name := "PWR_T_ACTIVE", base := 0xF00080, n1 := 1, s1 := 0x0, n2 := 1, s2 := 0x0, width := 32, grp := (.fixed 17),
    fields := fun _ _ => [PWR_T_ACTIVE_COUNT] },
  { name := "PWR_T_PIN", base := 0xF00084, n1 := 1, s1 := 0x0, n2 := 1, s2 := 0x0, width := 32, grp := (.fixed 17),
    fields := fun _ _ => [PWR_T_PIN_COUNT] },
  { name := "PWR_T_THERMAL", base := 0xF00088, n1 := 1, s1 := 0x0, n2 := 1, s2 := 0x0, width := 32, grp := (.fixed 17),
    fields := fun _ _ => [PWR_T_THERMAL_COUNT] },
  { name := "PWR_T_CAP", base := 0xF0008C, n1 := 1, s1 := 0x0, n2 := 1, s2 := 0x0, width := 32, grp := (.fixed 17),
    fields := fun _ _ => [PWR_T_CAP_COUNT] },
  { name := "PWR_TEMPi", base := 0xF00100, n1 := 24, s1 := 0x4, n2 := 1, s2 := 0x0, width := 32, grp := .none,
    fields := fun i _ => [PWR_TEMPi_NOW i, PWR_TEMPi_MAX i, PWR_TEMPi_BAND i] },
  { name := "PWR_DOMd", base := 0xF00400, n1 := 192, s1 := 0x4, n2 := 1, s2 := 0x0, width := 32, grp := .none,
    fields := fun i _ => [PWR_DOMd_STATE i, PWR_DOMd_FAULT i, PWR_DOMd_UNIT i] }]

/-- The SEC registers. -/
def regTableSEC : List RegDef := [
  { name := "SEC_STAT", base := 0x1000000, n1 := 1, s1 := 0x0, n2 := 1, s2 := 0x0, width := 32, grp := .none,
    fields := fun _ _ => [SEC_STAT_AUTH_FAIL, SEC_STAT_REVERTED, SEC_STAT_VAULT] },
  { name := "SEC_EVT_MASK", base := 0x1000004, n1 := 1, s1 := 0x0, n2 := 1, s2 := 0x0, width := 32, grp := .none,
    fields := fun _ _ => [SEC_EVT_MASK_MASK] },
  { name := "SEC_EVT_VEC", base := 0x1000008, n1 := 1, s1 := 0x0, n2 := 1, s2 := 0x0, width := 32, grp := .none,
    fields := fun _ _ => [SEC_EVT_VEC_VEC] },
  { name := "SEC_LC", base := 0x1000010, n1 := 1, s1 := 0x0, n2 := 1, s2 := 0x0, width := 32, grp := .none,
    fields := fun _ _ => [SEC_LC_STATE, SEC_LC_OWNED, SEC_LC_COUNT] },
  { name := "SEC_BOOT", base := 0x1000040, n1 := 1, s1 := 0x0, n2 := 1, s2 := 0x0, width := 32, grp := .none,
    fields := fun _ _ => [SEC_BOOT_BANK, SEC_BOOT_PENDING, SEC_BOOT_REVERTED, SEC_BOOT_RESULT, SEC_BOOT_REASON] },
  { name := "SEC_SVN", base := 0x1000044, n1 := 1, s1 := 0x0, n2 := 1, s2 := 0x0, width := 32, grp := .none,
    fields := fun _ _ => [SEC_SVN_RUNNING, SEC_SVN_MIN] },
  { name := "SEC_FW_VER", base := 0x1000048, n1 := 1, s1 := 0x0, n2 := 1, s2 := 0x0, width := 32, grp := .none,
    fields := fun _ _ => [SEC_FW_VER_FWVER] },
  { name := "SEC_STAGE", base := 0x100004C, n1 := 1, s1 := 0x0, n2 := 1, s2 := 0x0, width := 32, grp := .none,
    fields := fun _ _ => [SEC_STAGE_STATE, SEC_STAGE_BANK, SEC_STAGE_REASON] },
  { name := "SEC_VAULT_SEL", base := 0x10000A0, n1 := 1, s1 := 0x0, n2 := 1, s2 := 0x0, width := 32, grp := .none,
    fields := fun _ _ => [SEC_VAULT_SEL_WORD] },
  { name := "SEC_VAULT_DATA", base := 0x10000A8, n1 := 1, s1 := 0x0, n2 := 1, s2 := 0x0, width := 64, grp := .none,
    fields := fun _ _ => [SEC_VAULT_DATA_DATA] },
  { name := "SEC_VAULT_WEAR", base := 0x10000B0, n1 := 1, s1 := 0x0, n2 := 1, s2 := 0x0, width := 32, grp := .none,
    fields := fun _ _ => [SEC_VAULT_WEAR_WRITES] },
  { name := "SEC_VAULT_STAT", base := 0x10000B4, n1 := 1, s1 := 0x0, n2 := 1, s2 := 0x0, width := 32, grp := .none,
    fields := fun _ _ => [SEC_VAULT_STAT_WORN, SEC_VAULT_STAT_UE, SEC_VAULT_STAT_PENDING] },
  { name := "SEC_LC_NONCEn", base := 0x1000020, n1 := 4, s1 := 0x8, n2 := 1, s2 := 0x0, width := 64, grp := .none,
    fields := fun i _ => [SEC_LC_NONCEn_NONCE i] },
  { name := "SEC_DEVID_HASHn", base := 0x1000060, n1 := 6, s1 := 0x8, n2 := 1, s2 := 0x0, width := 64, grp := .none,
    fields := fun i _ => [SEC_DEVID_HASHn_HASH i] },
  { name := "SEC_T_AUTHFAIL", base := 0x10000C0, n1 := 1, s1 := 0x0, n2 := 1, s2 := 0x0, width := 32, grp := (.fixed 18),
    fields := fun _ _ => [SEC_T_AUTHFAIL_COUNT] },
  { name := "SEC_T_VAULTWR", base := 0x10000C4, n1 := 1, s1 := 0x0, n2 := 1, s2 := 0x0, width := 32, grp := (.fixed 18),
    fields := fun _ _ => [SEC_T_VAULTWR_COUNT] }]

/-- The CAL registers. -/
def regTableCAL : List RegDef := [
  { name := "CAL_F_k", base := 0x1000400, n1 := 64, s1 := 0x4, n2 := 1, s2 := 0x0, width := 32, grp := .none,
    fields := fun i _ => [CAL_F_k_VALUE i] },
  { name := "CAL_U_k", base := 0x1000500, n1 := 64, s1 := 0x4, n2 := 1, s2 := 0x0, width := 32, grp := .none,
    fields := fun i _ => [CAL_U_k_VALUE i] }]

/-- Every register of the device (R463). -/
def regTable : List RegDef :=
  regTableDEV ++ regTableAIR ++ regTableTALLY ++ regTableESC ++ regTableCMD ++ regTableFH ++ regTableSIG ++ regTableCOD ++ regTableMXC ++ regTableTIER ++ regTableMEMC ++ regTableCHK ++ regTableHJF ++ regTableSCHED ++ regTableFLT ++ regTablePWR ++ regTableSEC ++ regTableCAL

end Sys2Proof.Machine
end

