-- ==== Sys2Proof/Machine/Ops.lean ====
section
/-! DEFINITION. The named operations over registers, memories and the host port that every meaning is written with. -/

namespace Sys2Proof.Machine

/-! ### Outcomes -/

/-- The next state that a meaning answers: the command's effect on everything but the queue of waiting commands. -/
def goesOn (s t : State) : Host.Outcome State Fault Refusal := .next { t with pending := s.pending }

/-! ### Ordered stores -/

/-- The value an ordered list of pairs holds for a key. -/
def lookup {β : Type} (k : Nat) : List (Nat × β) → Option β
  | [] => none
  | (j, y) :: r => if j = k then some y else lookup k r

/-- Removes a key. -/
def del {β : Type} (k : Nat) : List (Nat × β) → List (Nat × β)
  | [] => []
  | (j, y) :: r => if j = k then del k r else (j, y) :: del k r

/-- Enters a pair before the first greater key. -/
def ins {β : Type} (k : Nat) (x : β) : List (Nat × β) → List (Nat × β)
  | [] => [(k, x)]
  | (j, y) :: r => if k < j then (k, x) :: (j, y) :: r else (j, y) :: ins k x r

/-- Gives a key a value, or removes it, keeping the keys strictly rising. -/
def put {β : Type} (k : Nat) (v : Option β) (m : List (Nat × β)) : List (Nat × β) :=
  match v with
  | none => del k m
  | some x => ins k x (del k m)

/-- The keys are strictly rising. -/
def rising {β : Type} : List (Nat × β) → Bool
  | [] => true
  | [_] => true
  | (a, _) :: (b, y) :: r => decide (a < b) && rising ((b, y) :: r)

/-- The value a store holds for a key, or what an unlisted key reads as. -/
def look {β : Type} (d : β) (k : Nat) (m : List (Nat × β)) : β := (lookup k m).getD d

/-- Adds a number to a list kept without repeats. -/
def insertNat (n : Nat) (l : List Nat) : List Nat := if n ∈ l then l else n :: l

/-! ### Numbers -/

/-- A signed number as w bits, two's complement. -/
def intBits (w : Nat) (i : Int) : Nat := (i % (2 ^ w : Int)).toNat

/-- The signed number that w bits spell, two's complement. -/
def bitsInt (w n : Nat) : Int := if n % 2 ^ w < 2 ^ (w - 1) then ((n % 2 ^ w : Nat) : Int) else ((n % 2 ^ w : Nat) : Int) - (2 ^ w : Int)

/-- Division of signed numbers rounding toward zero. -/
def divZero (a b : Int) : Int := Int.tdiv a b

/-- A signed number held within limits. -/
def clampInt (lo hi x : Int) : Int := if x < lo then lo else if hi < x then hi else x

/-- Bit i of a number. -/
def bitAt (i n : Nat) : Bool := n / 2 ^ i % 2 = 1

/-- Bits hi down to lo of a number. -/
def bitsAt (hi lo n : Nat) : Nat := n / 2 ^ lo % 2 ^ (hi + 1 - lo)

/-- A number with bit i set. -/
def setBit (i n : Nat) : Nat := if bitAt i n then n else n + 2 ^ i

/-- 1 for true, 0 for false. -/
def b2n (b : Bool) : Nat := if b then 1 else 0

/-- a is less than b as serial numbers of n bits, in the manner of RFC 1982 (R480). -/
def serialLt (n a b : Nat) : Bool :=
  let d := (b + 2 ^ n - a % 2 ^ n) % 2 ^ n
  if d = 0 then false else if d < 2 ^ (n - 1) then true else if d = 2 ^ (n - 1) then decide (a % 2 ^ n < b % 2 ^ n) else false

/-- The n low bytes of a number, little-endian (R9). -/
def natLE : Nat → Nat → List Byte
  | 0, _ => []
  | n + 1, v => BitVec.ofNat 8 v :: natLE n (v / 256)

/-- The number that bytes spell, little-endian (R9). -/
def leNat : List Byte → Nat
  | [] => 0
  | b :: r => b.toNat + 256 * leNat r

/-- n bytes of a list from an offset, as a number; bytes past the end read as zero. -/
def fieldLE (l : List Byte) (off n : Nat) : Nat := leNat ((l.drop off).take n)

/-- n zero bytes. -/
def zeros (n : Nat) : List Byte := List.replicate n 0

/-- A list of bytes cut or padded with zeros to n bytes. -/
def padTo (n : Nat) (l : List Byte) : List Byte := (l ++ zeros (n - l.length)).take n

/-! ### Checksums (R92, R273) -/

/-- One bit step of a reflected CRC with polynomial poly. -/
def crcBit (poly c : Nat) : Nat := if c % 2 = 1 then (c / 2) ^^^ poly else c / 2

/-- Eight bit steps. -/
def crcByte (poly c : Nat) (b : Byte) : Nat :=
  (List.range 8).foldl (fun c _ => crcBit poly c) (c ^^^ b.toNat)

/-- CRC-32C: polynomial 0x1EDC_6F41 reflected, initial value and final XOR all ones (R92). -/
def crc32c (l : List Byte) : Nat := (l.foldl (crcByte 0x82F63B78) 0xFFFFFFFF) ^^^ 0xFFFFFFFF

/-! ### Byte memories -/

/-- The canonical form of a memory: addresses strictly rising and no zero byte listed. -/
def Memory.wf (m : Memory) : Bool := rising m && m.all (fun c => c.2 ≠ 0)

/-- One byte of a memory. -/
def readByte (m : Memory) (a : Nat) : Byte := look 0 a m

/-- Writes one byte of a memory. -/
def writeByte (a : Nat) (b : Byte) (m : Memory) : Memory := put a (if b = 0 then none else some b) m

/-- n bytes of a memory from an address. -/
def readBytes (m : Memory) (a : Nat) : Nat → List Byte
  | 0 => []
  | n + 1 => readByte m a :: readBytes m (a + 1) n

/-- Writes bytes to a memory from an address up. -/
def writeBytes (a : Nat) : List Byte → Memory → Memory
  | [], m => m
  | b :: r, m => writeBytes (a + 1) r (writeByte a b m)

/-- Fills n bytes of a memory from an address with zeros. -/
def fillZero (a n : Nat) (m : Memory) : Memory := m.filter (fun c => !(decide (a ≤ c.1) && decide (c.1 < a + n)))

/-! ### Register fields -/

/-- The value of a field. -/
def getF (f : Fld) (s : State) : Nat := look f.reset f.key s.regs

/-- Gives a field a value, cut to the field's width. -/
def setF (f : Fld) (v : Nat) (s : State) : State :=
  { s with regs := put f.key (if v % 2 ^ f.width = f.reset then none else some (v % 2 ^ f.width)) s.regs }

/-- A field read as a flag. -/
def flagF (f : Fld) (s : State) : Bool := getF f s ≠ 0

/-- Sets one bit of a field. -/
def orF (f : Fld) (i : Nat) (s : State) : State := setF f (setBit i (getF f s)) s

/-- Adds to a field, saturating at its greatest value. -/
def addSatF (f : Fld) (n : Nat) (s : State) : State := setF f (min (2 ^ f.width - 1) (getF f s + n)) s

/-- Adds to a field that runs modulo its width. -/
def addF (f : Fld) (n : Nat) (s : State) : State := setF f (getF f s + n) s

/-- Takes from a field, stopping at zero. -/
def subF (f : Fld) (n : Nat) (s : State) : State := setF f (getF f s - n) s

/-! ### Tally counters (R54) -/

/-- The key of a field's counter in a Tally group. -/
def tallyKey (g : Nat) (f : Fld) : Nat := g * 2 ^ 40 + f.key

/-- The live counter of a field in a group. -/
def liveOf (g : Nat) (f : Fld) (s : State) : Nat := look 0 (tallyKey g f) s.live

/-- Counts n events in the live counter of a field of group g, saturating; a saturation is remembered for SAT (R54,
R61). -/
def tally (g : Nat) (f : Fld) (n : Nat) (s : State) : State :=
  let v := min (2 ^ f.width - 1) (liveOf g f s + n)
  { s with
    live := put (tallyKey g f) (if v = 0 then none else some v) s.live
    satLive := if 2 ^ f.width - 1 < liveOf g f s + n then insertNat g s.satLive else s.satLive }

/-! ### Functions, MSI-X and the writes the device issues (R434, R435) -/

/-- A function's bus state; a function that is not present masters nothing. -/
def fnOf (f : Nat) (s : State) : Func := look ⟨false, false, false, false, []⟩ f s.fns

/-- Changes a function's bus state. -/
def setFn (f : Nat) (x : Func) (s : State) : State := { s with fns := put f (some x) s.fns }

/-- The function's traffic rides an Insecure IDE stream, on which no TLP is taken or sent (R439). -/
def streamOut (f : Nat) (s : State) : Bool := s.insecure.any (fun x => decide (f ∈ x.2))

/-- The device is up for the host, and function f's stream takes TLPs (R436, R439). -/
def hostUp (f : Nat) (s : State) : Bool := flagF DEV_STAT_READY s && !streamOut f s

/-- The function may issue requests: Bus Master Enable is 1 and it is in D0 (R435), on a stream that is not Insecure
(R439). -/
def mayMaster (f : Nat) (s : State) : Bool := (fnOf f s).present && (fnOf f s).bme && !(fnOf f s).d3 && !streamOut f s

/-- Vectors of a function's MSI-X table (R434). -/
def vecCount (f : Nat) : Nat := if f = 0 then 2048 else 64

/-- Key of 32-bit word i of entry v of a function's MSI-X table. -/
def msixKey (f v i : Nat) : Nat := f * 2 ^ 16 + v * 4 + i

/-- The mask bit of a vector: set after reset (the PCIe MSI-X rules, R434). -/
def vecMasked (f v : Nat) (s : State) : Bool := look 1 (msixKey f v 3) s.msix % 2 = 1

/-- Sets an error bit of DEV_HOSTERR and the function it is recorded for (R448), raising no vector. -/
def hostErrBit (e : Fld) (f : Nat) (s : State) : State := setF DEV_HOSTERR_FUNC f (setF e 1 s)

/-- Counts one request that R435 discards: DEV_T_NOMASTER and DEV_HOSTERR.NO_MASTER. -/
def noMaster (f : Nat) (s : State) : State := hostErrBit DEV_HOSTERR_NO_MASTER f (tally 1 DEV_T_NOMASTER_COUNT 1 s)

/-- Raises a vector that lies within the function's table: the message is sent, kept pending under a mask, or
discarded while the function may not master the bus (R434, R435). -/
def raiseIn (f v : Nat) (s : State) : State :=
  if mayMaster f s then
    if (fnOf f s).fmask || vecMasked f v s then
      setFn f { fnOf f s with pend := insertNat v (fnOf f s).pend } s
    else { s with msgs := s.msgs ++ [⟨f, v⟩] }
  else noMaster f s

/-- An enabled bit of DEV_HOSTERR raises DEV_EVT_VEC of the PF (R448). -/
def hostErrRaise (e : Fld) (s : State) : State :=
  if bitAt e.lo (getF DEV_EVT_MASK_MASK s) && decide (getF DEV_EVT_VEC_VEC s < 2048) then raiseIn 0 (getF DEV_EVT_VEC_VEC s) s else s

/-- Records an error of the host interface for a function and raises its vector where it is enabled (R448). -/
def hostErr (e : Fld) (f : Nat) (s : State) : State := hostErrRaise e (hostErrBit e f s)

/-- Raises vector v of function f.  A value at or above the table's size raises nothing and sets DEV_HOSTERR.VEC
(R434). -/
def raiseVec (f v : Nat) (s : State) : State :=
  if v < vecCount f then raiseIn f v s else hostErr DEV_HOSTERR_VEC f s

/-- Sets one bit of an event or status field and raises the block's vector when the bit is enabled: bit i of the
field st, enabled by bit e of the mask field, raising the PF vector in vec. -/
def event (st : Fld) (i : Nat) (mask : Fld) (e : Nat) (vec : Fld) (s : State) : State :=
  let s1 := orF st i s
  if bitAt e (getF mask s1) then raiseVec 0 (getF vec s1) s1 else s1

/-! ### The dirty logs (R347) -/

/-- A write of VF v outside its log's range. -/
def dlogOvf (v : Nat) (s : State) : State :=
  event SCHED_STAT_DLOG_OVF 0 SCHED_EVT_MASK_MASK (SCHED_STAT_DLOG_OVF.lo - 16) SCHED_EVT_VEC_VEC (setF (SCHED_DLOGv_STAT_OVF v) 1 s)

/-- Sets the bit of one 4 KiB page in the active bitmap of log v: a read, OR and write as the PF. -/
def dlogBit (v i : Nat) (s : State) : State :=
  let buf := if flagF (SCHED_DLOGv_STAT_ACTIVE v) s then getF (SCHED_DLOGv_BUF1_ADDR v) s else getF (SCHED_DLOGv_BUF0_ADDR v) s
  let a := buf * 8 + i / 8
  let b := (readByte s.hostMem a).toNat
  if !mayMaster 0 s then hostErrRaise DEV_HOSTERR_NO_MASTER (noMaster 0 s)
  else if bitAt (i % 8) b then s
  else tally 15 (SCHED_DLOGv_T_PAGES_COUNT v) 1 { s with hostMem := writeByte a (BitVec.ofNat 8 (setBit (i % 8) b)) s.hostMem }

/-- Logs a page that VF f = v + 1 has written. -/
def dlogPage (v pg : Nat) (s : State) : State :=
  let base := getF (SCHED_DLOGv_BASE_BASE v) s
  if base ≤ pg ∧ pg < base + getF (SCHED_DLOGv_PAGES_PAGES v) s then dlogBit v (pg - base) s else dlogOvf v s

/-- Logs the pages of a write that the device makes as a VF. -/
def dlogWrite (f a n : Nat) (s : State) : State :=
  if f = 0 ∨ n = 0 ∨ !flagF (SCHED_DLOGv_CTRL_EN (f - 1)) s then s
  else (List.range ((a + n - 1) / 4096 + 1 - a / 4096)).foldl (fun s i => dlogPage (f - 1) (a / 4096 + i) s) s

/-- Writes bytes to host memory as function f, or discards the write and counts it (R435, R347). -/
def hostWrite (f a : Nat) (l : List Byte) (s : State) : State :=
  if mayMaster f s then dlogWrite f a l.length { s with hostMem := writeBytes a l s.hostMem } else hostErrRaise DEV_HOSTERR_NO_MASTER (noMaster f s)

/-- What a read of host memory as function f that fails records: one that R435 keeps from being issued counts under R435, any
other sets CPL_ERR and counts in DEV_T_CPLERR (R438). -/
def readFails (f : Nat) (s : State) : State :=
  if mayMaster f s then hostErr DEV_HOSTERR_CPL_ERR f (tally 1 DEV_T_CPLERR_COUNT 1 s) else hostErrRaise DEV_HOSTERR_NO_MASTER (noMaster f s)

/-- Draws a free value: a number of w bits that nothing constrains, and the state with the counter advanced. -/
def drawFree (w : Nat) (s : State) : Nat × State :=
  ((Config.freeValue s.draws).toNat % 2 ^ w, { s with draws := s.draws + 1 })

/-! ### The Vault (R423, R424) -/

/-- The newest value of a Vault word, buffered or stored. -/
def vaultNow (w : Nat) (s : State) : Nat :=
  match (s.vbuf.reverse.find? (fun x => decide (x.word = w))) with
  | some x => x.value
  | none => look 0 w s.vault

/-- Shows the writes in the buffer, at most 8. -/
def showVault (s : State) : State := setF SEC_VAULT_STAT_PENDING (min 8 s.vbuf.length) s

/-- A Vault write that a command waits for; after it the device may reset. -/
def vaultPutFor (pkt : Nat) (reset : Bool) (w v : Nat) (s : State) : State :=
  showVault { s with vbuf := s.vbuf ++ [⟨w, v % 2 ^ 64, pkt, reset⟩] }

/-- A Vault write; one equal to the newest value changes nothing. -/
def vaultPut (w v : Nat) (s : State) : State := if vaultNow w s = v % 2 ^ 64 then s else vaultPutFor 0 false w v s

/-! ### Reset and thermal trip (R402, R450) -/

/-- Every unit is held in reset: PERST# is asserted, VIN_CORE is absent, or VIO has dropped, which acts as PERST# (R405, R450, R469). -/
def inReset (s : State) : Bool := s.perst || !s.vin || !s.vio

/-- The units of R23 issue: no thermal trip is latched. -/
def issues (s : State) : Bool := !flagF PWR_TSTAT_TRIPPED s

/-! ### Air time -/

/-- The Air Counter of domain n, in whole Tc (R34). -/
def counter (n : Nat) (s : State) : Nat := getF (AIR_TDn_COUNT_VALUE n) s

/-- Nanoseconds, which are core cycles, since power-on (R11). -/
def nowNs (s : State) : Nat := s.now / 1536

/-! ### Replies (R93 to R98) -/

/-- Status codes (R98). -/
def stOK : Nat := 0x0000
def stACCEPTED : Nat := 0x0001
def stBAD_OPCODE : Nat := 0x0101
def stBAD_PARAM : Nat := 0x0102
def stBAD_LENGTH : Nat := 0x0103
def stHDR_CRC : Nat := 0x0104
def stSTATE_CONFLICT : Nat := 0x0201
def stLATE : Nat := 0x0202
def stNO_ESCROW : Nat := 0x0203
def stBUSY : Nat := 0x0204
def stPINNED_DEFERRED : Nat := 0x0205
def stITEM_FAILED : Nat := 0x0301
def stPOISONED : Nat := 0x0302
def stCONTEXT_LOST : Nat := 0x0303
def stFENCED : Nat := 0x0304
def stNOT_PERMITTED : Nat := 0x0401
def stAUTH_FAIL : Nat := 0x0402
def stLIFECYCLE : Nat := 0x0403

/-- BAD_PARAM with the offset of the first bad field, counted from header byte 0, and a limit (R98). -/
def badParam (off lim : Nat) : Nat × Nat := (stBAD_PARAM, off + lim * 2 ^ 32)

/-- The DETAIL of STATE_CONFLICT: state code, kind of object, index (R98, R99). -/
def conflictDetail (kind idx code : Nat) : Nat := code % 256 + kind * 256 + idx * 65536

/-- A field of a packet's payload, little-endian, by its offset and size in bytes. -/
def pf (p : Pkt) (off n : Nat) : Nat := fieldLE p.payload off n

/-- Entries of window w's reply ring (R94). -/
def ringSize (w : Nat) (s : State) : Nat := 2 ^ (getF (CMD_PWw_RR_CFG_SIZE w) s + 6)

/-- The 32 bytes of a reply (R93) with ring counter n. -/
def replyBytes (p : Pkt) (status : Nat) (final : Bool) (detail cat size n : Nat) : List Byte :=
  natLE 4 p.seq ++ natLE 4 (status + b2n final * 2 ^ 16 + ((n / size + 1) % 2) * 2 ^ 31) ++ natLE 4 p.tag ++
    natLE 8 detail ++ natLE 8 cat ++ natLE 4 (p.opcode + p.td * 2 ^ 16)

/-- Writes a reply at TAIL of its window's ring as the window's function, advances TAIL, and raises the window's
vector where R97 says so.  A write that R435 discards still counts as written. -/
def writeReply (p : Pkt) (status : Nat) (final : Bool) (detail cat : Nat) (s : State) : State :=
  let n := getF (CMD_PWw_RR_TAIL_TAIL p.window) s
  let size := ringSize p.window s
  let s1 := hostWrite (p.window / 4) (getF (CMD_PWw_RR_BASE_ADDR p.window) s * 4096 + n % size * 32)
    (replyBytes p status final detail cat size n) s
  let s2 := addF (CMD_PWw_RR_TAIL_TAIL p.window) 1 s1
  if flagF (CMD_PWw_CTRL_IRQ_EN p.window) s2 &&
      (p.irq || (flagF (CMD_PWw_CTRL_ERR_IRQ p.window) s2 && decide (0x100 ≤ status))) then
    raiseVec (p.window / 4) (getF (CMD_PWw_RR_CFG_VEC p.window) s2) s2
  else s2

/-- A reply, unless QUIET keeps it back (R91): ACCEPTED replies carry the acceptance air time, final replies the air
time of the effect (R93). -/
def reply (p : Pkt) (status : Nat) (final : Bool) (detail cat : Nat) (s : State) : State :=
  if p.quiet && decide (status < 2) then s else writeReply p status final detail cat s

/-- Shows in CMD_TIMED how many packets the timed-command table holds (R101). -/
def showTimed (s : State) : State := setF CMD_TIMED_PENDING s.timed.length s

/-- A packet leaves the timed-command table at its effect (R101). -/
def leaveTimed (p : Pkt) (s : State) : State :=
  if p.id ∈ s.timed then showTimed { s with timed := s.timed.filter (· ≠ p.id) } else s

/-- BUSY of a disabled window reads 0 once its last outstanding reply is written (R87). -/
def showBusy (w : Nat) (s : State) : State :=
  if s.accepted.any (fun q => decide (q.window = w)) then s else setF (CMD_PWw_STAT_BUSY w) 0 s

/-- The final reply of a packet: it is written, and the packet and the ring entries reserved for it are released
(R95). -/
def finish (p : Pkt) (status detail : Nat) (s : State) : State :=
  let s1 := reply p status true detail (counter p.td s) (leaveTimed p s)
  showBusy p.window { s1 with accepted := s1.accepted.filter (fun q => decide (q.id ≠ p.id)), begun := s1.begun.filter (fun i => decide (i ≠ p.id)) }

/-- The final reply of an accepted packet named by its place in the acceptance order. -/
def finishId (id status detail : Nat) (s : State) : State :=
  match s.accepted.find? (fun p => decide (p.id = id)) with
  | none => s
  | some p => finish p status detail s

/-- A BARRIER packet waits for the final replies of every packet accepted earlier from its window (R102). -/
def waitsBarrier (p : Pkt) (s : State) : Bool :=
  p.barrier && s.accepted.any (fun q => decide (q.window = p.window) && decide (q.id < p.id))

/-- The packet's effective air time has come (R91, R51). -/
def due (p : Pkt) (s : State) : Bool := decide (p.at_ = 0) || decide (p.at_ ≤ counter p.td s)

/-- The Supervisor restarts, and the packet's class is one whose effects wait for it (R385). -/
def waitsSupervisor (p : Pkt) (s : State) : Bool :=
  !bitAt 9 (getF FLT_HEART_ALIVE s) && (decide (p.opcode / 256 = 1) || decide (p.opcode / 256 = 2) || decide (p.opcode / 256 = 7) || decide (p.opcode / 256 = 8))

/-- The time of the packet's effect has come, and nothing that it waits for is left. -/
def timeCome (p : Pkt) (s : State) : Bool := due p s && !waitsBarrier p s && !waitsSupervisor p s

/-- The packet has been accepted and its effect has not begun. -/
def waiting (p : Pkt) (s : State) : Bool := decide (p ∈ s.accepted) && decide (p.id ∉ s.begun)

/-- The packet's effect may begin. -/
def ready (p : Pkt) (s : State) : Bool := waiting p s && timeCome p s

/-- An effect whose time has come is remembered when it waits for the Supervisor's restart. -/
def defer (p : Pkt) (s : State) : State :=
  if waiting p s ∧ due p s ∧ !waitsBarrier p s ∧ p.id ∉ s.deferred then { s with deferred := s.deferred ++ [p.id] } else s

/-- A state check of R100: the status and DETAIL of the refusal, or none when the command is legal. -/
abbrev Check := Pkt → State → Option (Nat × Nat)

/-- The effect of a command that ends with its final reply: the new state, the status and DETAIL. -/
abbrev Effect := Pkt → State → State × Nat × Nat

/-- A command whose effect ends with its final reply: when its time has come, the state is checked against the
effects before it and the effect is applied, or the command ends with the refusal and no effect (R100, R102). -/
def runCmd (chk : Check) (eff : Effect) (p : Pkt) (s : State) : State :=
  if ready p s then
    let s1 := leaveTimed p s
    match chk p s1 with
    | some (st, d) => finish p st d s1
    | none => match eff p s1 with
      | (s2, st, d) => finish p st d s2
  else defer p s

/-- A command whose final reply comes later, at another event. -/
def runCmdOpen (chk : Check) (eff : Pkt → State → State) (p : Pkt) (s : State) : State :=
  if ready p s then
    let s1 := leaveTimed p s
    match chk p s1 with
    | some (st, d) => finish p st d s1
    | none => eff p { s1 with begun := insertNat p.id s1.begun }
  else defer p s

/-- A command legal in any state. -/
def anyState : Check := fun _ _ => none

/-- The security engine is busy: a SEC_LC_ADVANCE, SEC_FW_STAGE or SEC_FW_ACTIVATE accepted earlier has no final reply
(R415). -/
def secBusy : Check := fun p s =>
  if s.accepted.any (fun q => decide (q.id < p.id) && decide (0x0801 ≤ q.opcode) && decide (q.opcode ≤ 0x0803)) then some (stBUSY, 5) else none

/-- The effect of a command that writes a record to a host buffer and succeeds; the buffer is written as the posting
function (R104). -/
def writeRecord (addr : Pkt → Nat) (record : Pkt → State → List Byte) : Effect := fun p s =>
  (hostWrite (p.window / 4) (addr p) (record p s) s, stOK, 0)

end Sys2Proof.Machine
end

