-- ==== Sys2Proof/Machine/Air.lean ====
section
/-! DEFINITION. Air time and time domains: the Air Counters, the servo and its states, PTP and 1PPS, time-stamps, Tally
boundaries and the Time-class commands (R31 to R61). -/

namespace Sys2Proof.Machine

/-- The servo and BMCA state of domain n. -/
def airOf (n : Nat) (s : State) : AirDom := look AirDom.reset n s.air

/-- Changes the servo and BMCA state of domain n. -/
def setAir (n : Nat) (x : AirDom) (s : State) : State := { s with air := put n (some x) s.air }

/-- State code of domain n (R40). -/
def tdState (n : Nat) (s : State) : Nat := getF (AIR_TDn_STATE_STATE n) s

/-- The number of cells bound to domain n that are not ABSENT (R36, R39). -/
def boundCells (n : Nat) (s : State) : Nat :=
  (s.cells.filter (fun c => decide (fieldLE c.2.cfg 2 1 % 8 = n))).length

/-- A cell is bound to domain n: no step of its counter is made and it is not disabled (R36, R43). -/
def cellBound (n : Nat) (s : State) : Bool := decide (boundCells n s ≠ 0)

/-! ### Conversion between air time and Tc (R37, R38) -/

/-- Length of a symbol that is not the first of its half-subframe, in Tc. -/
def symTc (mu : Nat) (ecp : Bool) : Nat := if ecp then 40960 else 140288 / 2 ^ mu

/-- Symbols in a slot. -/
def symPerSlot (ecp : Bool) : Nat := if ecp then 12 else 14

/-- The air time frame.slot.symbol in Tc (R37). -/
def airToTc (mu : Nat) (ecp : Bool) (frame slot symbol : Nat) : Nat :=
  let n := slot * symPerSlot ecp + symbol
  if ecp then frame * Config.frameTc + n * 40960
  else
    let h := 7 * 2 ^ mu
    let k := n % h
    frame * Config.frameTc + n / h * Config.halfSubTc + k * symTc mu false + (if 0 < k then 1024 else 0)

/-- The frame, slot, symbol and offset of an air time in Tc (R37, reverse conversion). -/
def tcToAir (mu : Nat) (ecp : Bool) (t : Nat) : Nat × Nat × Nat × Nat :=
  let frame := t / Config.frameTc
  let r := t % Config.frameTc
  if ecp then
    let n := r / 40960
    (frame, n / 12, n % 12, r % 40960)
  else
    let l := symTc mu false
    let h := r / Config.halfSubTc
    let r1 := r % Config.halfSubTc
    let k := if r1 < l + 1024 then 0 else (r1 - 1024) / l
    let off := if r1 < l + 1024 then r1 else r1 - 1024 - k * l
    let n := h * (7 * 2 ^ mu) + k
    (frame, n / 14, n % 14, off)

/-- Slot length in Tc: the slots of a frame divide it evenly in time only as R37 lays them out; this is the length of
the slot that starts at t. -/
def slotStart (mu : Nat) (ecp : Bool) (t : Nat) : Bool :=
  let a := tcToAir mu ecp t
  decide (a.2.2.1 = 0) && decide (a.2.2.2 = 0)

/-- The start of the slot after the one that holds t. -/
def nextSlot (mu : Nat) (ecp : Bool) (t : Nat) : Nat :=
  let a := tcToAir mu ecp t
  airToTc mu ecp a.1 (a.2.1 + 1) 0

/-- Tc in a time of x ns, rounded up (1.96608 Tc per ns, R35). -/
def nsToTc (x : Nat) : Nat := ceilDiv (x * 6144) 3125

/-- Tc in a time of x µs, rounded up (R96). -/
def usToTc (x : Nat) : Nat := nsToTc (x * 1000)

/-- Core cycles in a time of x Tc at the nominal rate, rounded down (R78). -/
def tcToNs (x : Nat) : Nat := x * 3125 / 6144

/-! ### The servo (R39) -/

/-- Greatest rate offset, in units of 2^-40: SLEW_MAX ppb while a cell is bound, 100 ppm otherwise.  The limits are
rounded toward zero to whole units (DEDUCED, log entry 6). -/
def rateLimit (n : Nat) (s : State) : Int :=
  if cellBound n s then ((getF (AIR_TDn_SERVO_SLEW_MAX n) s * 2 ^ 40 / 10 ^ 9 : Nat) : Int) else ((2 ^ 40 / 10 ^ 4 : Nat) : Int)

/-- The rate offset in use (AIR_TDn_RATE.NOW). -/
def rateOf (n : Nat) (s : State) : Int := bitsInt 32 (getF (AIR_TDn_RATE_NOW n) s)

/-- Steps the Air Counter of domain n by a signed amount in units of 2^-40 Tc: the reference R is cleared, and after
a backward step the boundaries up to the landing value do not latch again (R36, R39, R56). -/
def stepCounter (n : Nat) (d : Int) (s : State) : State :=
  let a := airOf n s
  let x := (((counter n s * 2 ^ 40 + a.frac : Nat) : Int) + d) % (2 ^ 104 : Int)
  let c := x.toNat / 2 ^ 40
  setF (AIR_TDn_COUNT_VALUE n) c
    (setAir n { a with frac := x.toNat % 2 ^ 40, ref := none, floor := if d < 0 then c else a.floor }
      { s with tallyLast := if d < 0 then s.tallyLast.map (fun g => (g.1, if getF (TALLY_Gg_CFG_DOMAIN g.1) s = n then min g.2 c else g.2)) else s.tallyLast })

/-- The step that writes of EPOCH made due; a cell bound since then takes the write back (R36 case 3; DEDUCED, log entry 33). -/
def stepDue (n : Nat) (s : State) : State :=
  let d := (airOf n s).due
  if d = 0 then s
  else
    let s1 := setAir n { airOf n s with due := 0 } s
    if cellBound n s then setF (AIR_TDn_STATE_EPOCH_REFUSED n) 1 (setF (AIR_TDn_EPOCH_EPOCH n) (intBits 64 ((getF (AIR_TDn_EPOCH_EPOCH n) s : Int) + d)) s1)
    else stepCounter n (d * 2 ^ 40) s1

/-- One tick of domain n: 4 × (1 + rate × 2^-40) Tc; a DISABLED domain holds its value, a FREE one counts at the
nominal rate (R34, R39, R40). -/
def tickDomain (n : Nat) (s : State) : State :=
  if tdState n s = 0 then s
  else
    let a := airOf n s
    let rate := if tdState n s = 1 then 0 else rateOf n s
    let x := (((counter n s * 2 ^ 40 + a.frac : Nat) : Int) + 4 * 2 ^ 40 + 4 * rate) % (2 ^ 104 : Int)
    setF (AIR_TDn_COUNT_VALUE n) (x.toNat / 2 ^ 40) (setAir n { a with frac := x.toNat % 2 ^ 40 } s)

/-- HOLDOVER.AGE counts milliseconds since the entry to HOLDOVER (R42). -/
def ageDomain (n : Nat) (s : State) : State :=
  if tdState n s = 4 then setF (AIR_TDn_HOLDOVER_AGE n) ((s.now - (airOf n s).holdAt) / (1536 * 10 ^ 6)) s else s

/-- The eight domains. -/
def domains : List Nat := [0, 1, 2, 3, 4, 5, 6, 7]

/-- End of a window in Tc of its domain, at the nominal rate. -/
def windowEnd (w : Window) : Nat := w.start + nsToTc w.len

/-- The end of a window has passed. -/
def windowOver (s : State) (w : Window) : Bool := decide (windowEnd w ≤ counter w.td s)

/-- A core whose window is over is idle, unless another window is open on it (R70, R215). -/
def idleAfter (s : State) (w : Window) : State :=
  if getF (MXC_Cn_INFO_STATE w.core) s = 1 ∧ !s.windows.any (fun v => decide (v.core = w.core) && v.opened) then setF (MXC_Cn_INFO_STATE w.core) 0 s else s

/-- Windows whose end has passed are over. -/
def endWindows (s : State) : State :=
  (s.windows.filter (windowOver s)).foldl idleAfter { s with windows := s.windows.filter (fun w => !windowOver s w) }

/-- An AIR_EVT bit is set and raises AIR_EVT_VEC where it is enabled (R60). -/
def airEvent (f : Fld) (i : Nat) (s : State) : State := event f i AIR_EVT_MASK_MASK (f.lo + i) AIR_EVT_VEC_VEC s

/-- Entry to HOLDOVER (R42): the rate is frozen at the integral term, R is cleared, ACTIVE, ENTERED and CAUSE are set, and SLEWING
reads 0 unless that term lies at the clamp. -/
def holdoverEntry (n cause : Nat) (s : State) : State :=
  let a := airOf n s
  let s1 := setF (AIR_TDn_RATE_FROZEN n) (intBits 32 a.integ) (setF (AIR_TDn_RATE_NOW n) (intBits 32 a.integ) s)
  let s2 := setF (AIR_TDn_HOLDOVER_CAUSE n) cause (setF (AIR_TDn_HOLDOVER_AGE n) 0 (setF (AIR_TDn_HOLDOVER_ENTERED n) 1 (setF (AIR_TDn_HOLDOVER_ACTIVE n) 1 s1)))
  let s3 := if a.integ.natAbs < (rateLimit n s).natAbs then setF (AIR_TDn_STATE_SLEWING n) 0 s2 else s2
  airEvent AIR_EVT_HOLD n (setAir n { a with ref := none, run := 0, holdAt := s.now } (setF (AIR_TDn_STATE_STATE n) 4 s3))

/-- Leaves HOLDOVER or ACQUIRING for another state: the consecutive count starts again, and outside HOLDOVER ACTIVE and
AGE read 0 (R60). -/
def enterState (n st : Nat) (s : State) : State :=
  setF (AIR_TDn_HOLDOVER_AGE n) 0 (setF (AIR_TDn_HOLDOVER_ACTIVE n) 0
    (setAir n { airOf n s with run := 0 } (setF (AIR_TDn_STATE_STATE n) st s)))

/-- Sets the rate offset and I, clamped, and SLEWING while the rate is held at the clamp (R39, R60). -/
def setRate (n : Nat) (i rate : Int) (s : State) : State :=
  let l := rateLimit n s
  let r := clampInt (-l) l rate
  setF (AIR_TDn_STATE_SLEWING n) (b2n (decide (r ≠ rate)))
    (setF (AIR_TDn_RATE_NOW n) (intBits 32 r) (setAir n { airOf n s with integ := clampInt (-l) l i } s))

/-- The limits of domain n have changed, by a cell's binding or a write of SLEW_MAX: the rate in use and I are held within them
(R39). -/
def reclamp (n : Nat) (s : State) : State :=
  let l := rateLimit n s
  let r := clampInt (-l) l (rateOf n s)
  let s1 := setAir n { airOf n s with integ := clampInt (-l) l (airOf n s).integ } s
  if tdState n s < 2 then s1
  else if r ≠ rateOf n s then setF (AIR_TDn_STATE_SLEWING n) 1 (setF (AIR_TDn_RATE_NOW n) (intBits 32 r) s1)
  else if r.natAbs < l.natAbs then setF (AIR_TDn_STATE_SLEWING n) 0 s1
  else s1

/-- The servo's act on a valid measurement of offset off16 / 16 Tc (R39).  A measurement at the same Air Counter
value as the reference changes neither term (DEDUCED, log entry 6). -/
def servoAct (n : Nat) (off16 : Int) (s : State) : State :=
  let a := airOf n s
  let c := counter n s
  match a.ref with
  | none => setAir n { a with ref := some c } s
  | some r =>
    if tdState n s = 4 || c = r then setAir n { a with ref := some c } s
    else
      let d : Int := (c : Int) - (r : Int)
      let i := a.integ - divZero (off16 * 2 ^ (40 - getF (AIR_TDn_SERVO_KI_SHIFT n) s)) (16 * d)
      let i' := clampInt (-rateLimit n s) (rateLimit n s) i
      let rate := i' - divZero (off16 * 2 ^ (40 - getF (AIR_TDn_SERVO_KP_SHIFT n) s)) (16 * d)
      let s1 := setRate n i rate s
      setAir n { airOf n s1 with ref := some c } s1

/-- The magnitude of an offset in 1/16 Tc. -/
def mag16 (off16 : Int) : Nat := off16.natAbs

/-- Counts one measurement that meets the test of the state, or starts the count again. -/
def countRun (n : Nat) (ok : Bool) (s : State) : State :=
  setAir n { airOf n s with run := if ok then (airOf n s).run + 1 else 0 } s

/-- The state machine of R40 on a valid measurement, after the servo. -/
def lockAdvance (n : Nat) (off16 : Int) (s : State) : State :=
  let thr := 16 * getF (AIR_TDn_LOCK_THR n) s
  let cnt := getF (AIR_TDn_LOCK_CNT n) s
  match tdState n s with
  | 2 =>
    let s1 := countRun n (decide (mag16 off16 ≤ thr)) s
    if cnt ≤ (airOf n s1).run then airEvent AIR_EVT_LOCKED n (enterState n 3 s1) else s1
  | 3 =>
    let s1 := countRun n (decide (4 * thr < mag16 off16)) s
    if cnt ≤ (airOf n s1).run then enterState n 2 s1 else s1
  | 4 =>
    let s1 := countRun n true s
    if getF (AIR_TDn_LOCK_QUAL n) s + 1 ≤ (airOf n s1).run then enterState n 2 s1 else s1
  | _ => s

/-- A valid measurement (R36 case 1, R39, R40): in FREE the counter steps to the source phase when no cell is bound
and the domain goes to ACQUIRING; otherwise the servo acts and the lock state advances.  It restarts the LOSS_MS
timer (R43). -/
def validMeasurement (n : Nat) (off16 : Int) (mpd : Nat) (s : State) : State :=
  if tdState n s = 0 then s
  else
    let s0 := setF (AIR_TDn_OFFSET_MPD n) mpd (setF (AIR_TDn_OFFSET_OFS n) (intBits 32 off16) s)
    let s1 := setAir n { airOf n s0 with lastMeas := s0.now } s0
    if tdState n s = 1 then
      let s2 := if cellBound n s then s1 else stepCounter n (-(off16 * 2 ^ 36)) s1
      enterState n 2 (setAir n { airOf n s2 with ref := some (counter n s2) } s2)
    else lockAdvance n off16 (servoAct n off16 s1)

/-- A measurement that is not valid breaks a run of consecutive valid measurements (R40). -/
def invalidMeasurement (n : Nat) (s : State) : State := if tdState n s = 4 then countRun n false s else s

/-- A measurement of a PTP domain is valid: it comes from the selected grandmaster, whose Announce messages carry
clockClass 6, 7 or 135, on a port in AIR_TDn_PORTS (R41).  The other sources have no grandmaster to choose. -/
def measurementValid (n clockId lport : Nat) (s : State) : Bool :=
  if getF (AIR_TDn_CTRL_SRC n) s = 0 then
    decide ((airOf n s).gm = some (clockId, true)) && bitAt lport (getF (AIR_TDn_PORTS_MASK n) s)
  else true

/-- SERVO_MEASUREMENT (R39). -/
def execServoMeasurement (n : Fin 8) (off16 : Int) (mpd : Nat) (clockId : Word64) (lport : Fin 32) (s : State) :
    Host.Outcome State Fault Refusal :=
  goesOn s (if measurementValid n clockId.toNat lport s then validMeasurement n off16 mpd s else invalidMeasurement n s)

/-- MEASUREMENT_LOSS_TIMEOUT (R40): an ACQUIRING or LOCKED domain without a valid measurement for LOSS_MS (in units of
5 ms) enters HOLDOVER. -/
def execMeasurementLossTimeout (n : Fin 8) (s : State) : Host.Outcome State Fault Refusal :=
  goesOn s (if (tdState n s = 2 ∨ tdState n s = 3) ∧
      (airOf n s).lastMeas + getF (AIR_TDn_LOCK_LOSS_MS n) s * 5 * (1536 * 10 ^ 6) ≤ s.now
    then holdoverEntry n 1 s else s)

/-- HOLDOVER_LIMIT (R42): AGE reaches LIMIT_S × 60,000 ms and EXCEEDED is set. -/
def execHoldoverLimit (n : Fin 8) (s : State) : Host.Outcome State Fault Refusal :=
  goesOn s (if tdState n s = 4 ∧ getF (AIR_TDn_LOCK_LIMIT_S n) s * 60000 = getF (AIR_TDn_HOLDOVER_AGE n) s
    then airEvent AIR_EVT_EXCEED n (setF (AIR_TDn_HOLDOVER_EXCEEDED n) 1 s) else s)

/-! ### BMCA (R40, R41) -/

/-- The better of two candidates: the lower rank, and of equal ranks the lower clockIdentity (log entry 7). -/
def betterCand (a b : Candidate) : Candidate :=
  if b.rank < a.rank || (b.rank = a.rank && decide (b.clockId < a.clockId)) then b else a

/-- The best candidate. -/
def bestCand : List Candidate → Option Candidate
  | [] => none
  | c :: r => some (r.foldl betterCand c)

/-- The BMCA selects among the candidates: another identity than the last one selected is a grandmaster change, which
takes a LOCKED domain to HOLDOVER and starts the count of a domain in HOLDOVER again; no candidate at all is none (R40, R41). -/
def reselect (n : Nat) (s : State) : State :=
  match bestCand (airOf n s).cands with
  | none => setAir n { airOf n s with gm := none } s
  | some c =>
    let old := getF (AIR_TDn_GM_CLOCKID n) s
    let s1 := setAir n { airOf n s with gm := some (c.clockId, decide (c.clockClass = 6 ∨ c.clockClass = 7 ∨ c.clockClass = 135)) }
      (setF (AIR_TDn_GM_CLOCKID n) c.clockId s)
    if old ≠ c.clockId ∧ tdState n s = 3 then holdoverEntry n 2 s1
    else if old ≠ c.clockId ∧ tdState n s = 4 then countRun n false s1
    else s1

/-- Domain n takes PTP messages of a domainNumber arriving on a logical port (R46). -/
def ptpQualifies (n lport dom : Nat) (s : State) : Bool :=
  flagF (AIR_TDn_CTRL_EN n) s && decide (getF (AIR_TDn_CTRL_SRC n) s = 0) &&
    decide (getF (AIR_TDn_CTRL_PTPDOM n) s = dom) && bitAt lport (getF (AIR_TDn_PORTS_MASK n) s)

/-- The lowest-numbered domain among TD0 to TD5 that takes such a message (R46); domainNumbers outside 24 to 43 are
discarded (R44). -/
def ptpDomain (lport dom : Nat) (s : State) : Option Nat :=
  if 24 ≤ dom ∧ dom ≤ 43 then [0, 1, 2, 3, 4, 5].find? (fun n => ptpQualifies n lport dom s) else none

/-- Three announce intervals of 2^logInterval seconds, in the model's unit of time (R41). -/
def announceTimeout (logInterval : Int) : Nat :=
  if logInterval < 0 then 3 * (1536 * 10 ^ 9) / 2 ^ logInterval.natAbs else 3 * (1536 * 10 ^ 9) * 2 ^ logInterval.natAbs

/-- ANNOUNCE_MESSAGE (R41): the transmitter is a candidate on the port until its announce receipt timeout expires, and
the BMCA selects again. -/
def execAnnounceMessage (lport : Fin 32) (domainNumber : Byte) (clockId : Word64) (clockClass : Byte) (rank : Nat)
    (logInterval : Int) (s : State) : Host.Outcome State Fault Refusal :=
  goesOn s (match ptpDomain lport domainNumber.toNat s with
    | none => s
    | some n =>
      let a := airOf n s
      let c : Candidate := ⟨clockId.toNat, lport, clockClass.toNat, rank, s.now + announceTimeout logInterval⟩
      reselect n (setAir n { a with cands := c :: a.cands.filter (fun d => !(decide (d.clockId = c.clockId) && decide (d.port = c.port))) } s))

/-- ANNOUNCE_RECEIPT_TIMEOUT (R41): a candidate whose timeout has expired stops being one, and the BMCA selects
again. -/
def execAnnounceReceiptTimeout (n : Fin 8) (clockId : Word64) (lport : Fin 32) (s : State) :
    Host.Outcome State Fault Refusal :=
  let a := airOf n s
  goesOn s (reselect n (setAir n { a with cands := a.cands.filter (fun d =>
    !(decide (d.clockId = clockId.toNat) && decide (d.port = lport.val) && decide (d.until_ ≤ s.now))) } s))

/-- ESMC_MESSAGE (R45): the Supervisor keeps the port's SyncE quality level. -/
def execEsmcMessage (lport : Fin 32) (ql : Nat) (s : State) : Host.Outcome State Fault Refusal :=
  goesOn s { s with airQl := put lport (some ql) s.airQl }

/-! ### Time-stamps (R46 to R50) -/

/-- The effective value of calibrated item k (R425). -/
def calEffective (k umax : Nat) (lo hi : Int) (signedF : Bool) (s : State) : Int :=
  let f : Int := if signedF then bitsInt 16 (getF (CAL_F_k_VALUE k) s) else (getF (CAL_F_k_VALUE k) s : Int)
  clampInt lo hi (f + clampInt (-(umax : Int)) umax (bitsInt 16 (getF (CAL_U_k_VALUE k) s)))

/-- Latency of port p at speed code sp, receive (dir 0) or transmit (dir 1), in 1/16 Tc (R47, R425). -/
def stampLatency (p sp dir : Nat) (s : State) : Int := calEffective (8 * p + 2 * sp + dir) 4096 0 65535 false s

/-- The speed code of a port (0 800G, 1 400G, 2 200G, 3 100G, R425) at its present breakout MODE (R108). -/
def portSpeedCode (p : Nat) (s : State) : Nat := getF (FH_PORT_CFG_MODE p) s

/-- The Air Counter of domain n in 1/16 Tc. -/
def count16 (n : Nat) (s : State) : Nat := counter n s * 16 + (airOf n s).frac / 2 ^ 36

/-- PTP_RX_STAMP (R46, R47): the message is taken by the lowest-numbered qualifying domain and its stamp, less the
receive latency, is kept; with none it is discarded. -/
def execPtpRxStamp (lport : Fin 32) (domainNumber : Byte) (s : State) : Host.Outcome State Fault Refusal :=
  goesOn s (match ptpDomain lport domainNumber.toNat s with
    | none => s
    | some n => { s with airRx := some (n, lport.val,
        ((count16 n s : Int) - stampLatency (lport.val / 8) (portSpeedCode (lport.val / 8) s) 0 s).toNat) })

/-- Shows the head of port p's time-stamp queue and its length (R48, R49). -/
def showTsq (p : Nat) (s : State) : State :=
  let q := look [] p s.airTsq
  let h := q.headD 0
  setF (AIR_FHp_TSQ_STAT_COUNT p) q.length
    (setF (AIR_FHp_TSQ_ENT0_LOW p) h (setF (AIR_FHp_TSQ_ENT1_HIGH p) (h / 2 ^ 64) s))

/-- A transmit stamp of domain n is taken for a packet of logical port lp with descriptor identifier ident: it enters
the queue of the port, or is dropped with OVF and counted when the queue holds 32 entries; SEQ advances either way
(R48, R50). -/
def takeTxStamp (n lp ident : Nat) (s : State) : State :=
  let p := lp / 8
  let q := look [] p s.airTsq
  let sq := look 0 p s.airTsqSeq
  let t := ((count16 n s : Int) + stampLatency p (portSpeedCode p s) 1 s).toNat
  let s1 := { s with airTsqSeq := put p (some ((sq + 1) % 2 ^ 16)) s.airTsqSeq }
  if q.length < 32 then
    let e := t / 16 % 2 ^ 64 + t % 16 * 2 ^ 64 + n * 2 ^ 68 + lp * 2 ^ 71 + ident % 2 ^ 16 * 2 ^ 80 + sq * 2 ^ 96 + 2 ^ 127
    showTsq p { s1 with airTsq := put p (some (q ++ [e])) s1.airTsq }
  else
    airEvent AIR_EVT_TSQ_OVF p (addSatF (AIR_FHp_TSQ_LOST_LOST p) 1 (setF (AIR_FHp_TSQ_STAT_OVF p) 1 s1))

/-- TSQ_ENT1_READ (R49): the read returns bits [127:64] of the head entry, and removes it when VALID is 1. -/
def execTsqEnt1Read (p : Fin 4) (s : State) : Host.Outcome State Fault Refusal :=
  let q := look [] p.val s.airTsq
  goesOn s (if !hostUp 0 s then { s with rdata := 0, rstat := 0 } else showTsq p { s with airTsq := put p (some q.tail) s.airTsq, rdata := q.headD 0 / 2 ^ 64, rstat := 0 })

/-- TSQ_LOST_READ (R14, R50): the read returns the count of dropped stamps and clears it. -/
def execTsqLostRead (p : Fin 4) (s : State) : Host.Outcome State Fault Refusal :=
  goesOn s (if !hostUp 0 s then { s with rdata := 0, rstat := 0 } else setF (AIR_FHp_TSQ_LOST_LOST p) 0 { s with rdata := getF (AIR_FHp_TSQ_LOST_LOST p) s, rstat := 0 })

/-- AIR_SNAP_GO (R53): all eight Air Counters are sampled on one tick. -/
def execAirSnapGo (s : State) : Host.Outcome State Fault Refusal :=
  goesOn s (if !hostUp 0 s then s else domains.foldl (fun t n => setF (AIR_SNAP_TDn_VALUE n) (counter n s) t) s)

/-! ### 1PPS (R45) -/

/-- Tc in one second. -/
def secTc : Nat := 1966080000

/-- The measurement that a 1PPS edge gives a domain with SRC 1: the edge, less the input delay (CAL item 56), marks the
whole second of T_src that TOD or the previous edge fixed (R45). -/
def ppsMeasure (n : Nat) (s : State) : State :=
  if flagF (AIR_TDn_CTRL_EN n) s && decide (getF (AIR_TDn_CTRL_SRC n) s = 1) && decide (n < 6) then
    let sec := (airOf n s).ppsNext.getD (getF (AIR_TDn_TOD_SECONDS n) s)
    let src16 : Int := 16 * (((sec * secTc : Nat) : Int) - (getF (AIR_TDn_EPOCH_EPOCH n) s : Int))
    let off16 : Int := (count16 n s : Int) - calEffective 56 4096 0 65535 false s - src16
    let s1 := setAir n { airOf n s with ppsNext := some (sec + 1) } s
    validMeasurement n off16 0 s1
  else s

/-- PPS_IN_EDGE (R45). -/
def execPpsInEdge (s : State) : Host.Outcome State Fault Refusal :=
  goesOn s (domains.foldl (fun s n => ppsMeasure n s) s)

/-- PPS_OUT_EDGE (R45): the output of the selected domain rises at each multiple of a second plus OFS, less the output
advance (CAL item 57), in steps of 1/16 Tc; the edge is recorded when it fell due in the last tick. -/
def execPpsOutEdge (s : State) : Host.Outcome State Fault Refusal :=
  let n := getF AIR_PPS_OUT_TD s
  let ofs := bitsInt 24 (getF AIR_PPS_OUT_OFS s)
  let x : Int := (count16 n s : Int) + calEffective 57 4096 0 65535 false s - 16 * ofs
  let late := x % (16 * secTc : Int)
  goesOn s (if flagF AIR_PPS_OUT_EN s ∧ tdState n s ≠ 0 ∧ late < 80 then
      { s with airPps := (n, ((count16 n s : Int) - late).toNat) :: s.airPps } else s)

/-! ### Writes of the domain registers (R31, R36, R40, R43, R60) -/

/-- SRC is allowed for domain n (R31). -/
def srcAllowed (n src : Nat) : Bool :=
  if n < 6 then decide (src ≤ 1) else if n = 6 then decide (src = 2) else decide (src = 3)

/-- EN is set: the domain leaves DISABLED for FREE with I at 0, R clear and the nominal rate (R39, R40). -/
def domainEnable (n : Nat) (s : State) : State :=
  enterState n 1 (setF (AIR_TDn_STATE_SLEWING n) 0 (setF (AIR_TDn_RATE_NOW n) 0
    (setAir n { airOf n s with integ := 0, ref := none, run := 0, lastMeas := s.now, cands := [], gm := none, ppsNext := none }
      (setF (AIR_TDn_CTRL_EN n) 1 s))))

/-- EN is cleared with no cell bound: the domain is DISABLED and its counter holds (R40). -/
def domainDisable (n : Nat) (s : State) : State :=
  enterState n 0 (setF (AIR_TDn_STATE_SLEWING n) 0
    (setAir n { airOf n s with run := 0, cands := [], gm := none, ppsNext := none } (setF (AIR_TDn_CTRL_EN n) 0 s)))

/-- A write of SRC: a value R31 does not allow leaves it unchanged, and another value than the one held takes a LOCKED
domain to HOLDOVER (R31, R40). -/
def writeSrc (n src : Nat) (s : State) : State :=
  if srcAllowed n src then
    let s1 := setF (AIR_TDn_CTRL_SRC n) src s
    if getF (AIR_TDn_CTRL_SRC n) s ≠ src ∧ tdState n s = 3 then holdoverEntry n 3 s1 else s1
  else s

/-- TD_CTRL_EN_WRITE (R43): a write of AIR_TDn_CTRL sets its fields at once; EN enables the domain into FREE, and its
clear has no effect while a cell is bound.  The clear of EN is applied first. -/
def execTdCtrlEnWrite (n : Fin 8) (w : BitVec 32) (s : State) : Host.Outcome State Fault Refusal :=
  let v := w.toNat
  let en := v % 2 = 1
  let was := flagF (AIR_TDn_CTRL_EN n) s
  let s1 := if ¬ en ∧ was ∧ ¬ cellBound n s then domainDisable n s else s
  let s2 := writeSrc n (v / 2 % 8) s1
  let s3 := setF (AIR_TDn_CTRL_PTPDOM n) (v / 256) (setF (AIR_TDn_CTRL_SYNCE n) (v / 16) s2)
  goesOn s (if !hostUp 0 s then s else if en ∧ ¬ was then domainEnable n s3 else s3)

/-- EPOCH_WRITE (R36 case 3): the counter steps by the old EPOCH minus the new one from the tick after, or the write is ignored
and EPOCH_REFUSED set while a cell is bound. -/
def execEpochWrite (n : Fin 8) (v : BitVec 64) (s : State) : Host.Outcome State Fault Refusal :=
  goesOn s (if !hostUp 0 s then s else if cellBound n s then setF (AIR_TDn_STATE_EPOCH_REFUSED n) 1 s
    else
      let old := getF (AIR_TDn_EPOCH_EPOCH n) s
      setF (AIR_TDn_EPOCH_EPOCH n) v.toNat (setAir n { airOf n s with due := (airOf n s).due + (old : Int) - (v.toNat : Int) } s))

/-! ### Tally boundaries (R54 to R56) -/

/-- The domain of Tally group g: for a cell group that of its cell, none while the cell is ABSENT (R55). -/
def tallyDomain (g : Nat) (s : State) : Option Nat :=
  if g < 128 then some (getF (TALLY_Gg_CFG_DOMAIN g) s)
  else if g < 640 then (lookup (g - 128) s.cells).map (fun c => fieldLE c.cfg 2 1 % 8) else none

/-- The period of Tally group g in Tc: 1, 10 or 100 frames (R61). -/
def tallyPeriod (g : Nat) (s : State) : Nat := Config.frameTc * 10 ^ getF (TALLY_Gg_CFG_PERIOD g) s

/-- The air time up to which boundaries of group g on domain n are past. -/
def tallySeen (g n : Nat) (s : State) : Nat := max (look 0 g s.tallyLast) (airOf n s).floor

/-- The group a Tally key belongs to. -/
def keyGroup (k : Nat) : Nat := k / 2 ^ 40

/-- Latches group g at boundary b: the live counters become the RL values and restart, AT takes the boundary, SEQ
advances, SAT shows a saturation (R54, R61). -/
def latchGroup (g b : Nat) (s : State) : State :=
  let s1 := { s with
    latched := s.latched.filter (fun k => decide (keyGroup k.1 < g)) ++ s.live.filter (fun k => decide (keyGroup k.1 = g)) ++
      s.latched.filter (fun k => decide (g < keyGroup k.1))
    live := s.live.filter (fun k => decide (keyGroup k.1 ≠ g))
    satLive := s.satLive.filter (fun h => decide (h ≠ g)) }
  setF (TALLY_Gg_SAT_SAT g) (b2n (decide (g ∈ s.satLive)))
    (addF (TALLY_Gg_SEQ_SEQ g) 1 (setF (TALLY_Gg_AT_AT g) b s1))

/-- The setting that awaits the boundary takes effect (R55). -/
def takePending (g : Nat) (s : State) : State :=
  match lookup g s.tallyPend with
  | none => s
  | some (d, p) =>
    let s1 := setF (TALLY_Gg_CFG_PEND g) 0 (setF (TALLY_Gg_CFG_PERIOD g) p (if g < 128 then setF (TALLY_Gg_CFG_DOMAIN g) d s else s))
    { s1 with tallyPend := put g none s1.tallyPend
              tallyLast := put g (some (counter (if g < 128 then d else getF (TALLY_Gg_CFG_DOMAIN g) s1) s1)) s1.tallyLast }

/-- TALLY_BOUNDARY (R54 to R56): when the group's domain is not DISABLED and its counter has reached a boundary that
has not latched, the group latches once, with AT the highest boundary reached, and a pending setting takes effect. -/
def execTallyBoundary (g : Fin 1024) (s : State) : Host.Outcome State Fault Refusal :=
  goesOn s (match tallyDomain g s with
    | none => s
    | some n =>
      let c := counter n s
      let b := c / tallyPeriod g s * tallyPeriod g s
      if tdState n s ≠ 0 ∧ tallySeen g n s < b then
        takePending g { latchGroup g b s with tallyLast := put g.val (some c) s.tallyLast }
      else s)

/-- A write of TALLY_Gg_CFG (R55, R61): DOMAIN of a cell group ignores writes, a PERIOD of 3 is ignored; a change waits
for the next boundary, but a cell group without a domain takes PERIOD at once. -/
def writeTallyCfg (g v : Nat) (s : State) : State :=
  let cur := (lookup g s.tallyPend).getD (getF (TALLY_Gg_CFG_DOMAIN g) s, getF (TALLY_Gg_CFG_PERIOD g) s)
  let d := if g < 128 then v % 8 else cur.1
  let p := if v / 16 % 4 = 3 then cur.2 else v / 16 % 4
  if 128 ≤ g ∧ (tallyDomain g s).isNone then setF (TALLY_Gg_CFG_PERIOD g) p s
  else if d = getF (TALLY_Gg_CFG_DOMAIN g) s ∧ p = getF (TALLY_Gg_CFG_PERIOD g) s ∧ (lookup g s.tallyPend).isNone then s
  else setF (TALLY_Gg_CFG_PEND g) 1 { s with tallyPend := put g (some (d, p)) s.tallyPend }

/-- Group 128 + c takes its cell's domain with no latch: the live counters restart, and the first boundary is the next
one on that domain (R55). -/
def tallyCellJoin (c n : Nat) (s : State) : State :=
  let g := 128 + c
  setF (TALLY_Gg_CFG_DOMAIN g) n
    { s with live := s.live.filter (fun k => decide (keyGroup k.1 ≠ g))
             satLive := s.satLive.filter (fun h => decide (h ≠ g))
             tallyPend := put g none s.tallyPend
             tallyLast := put g (some (counter n s)) s.tallyLast }

/-- Group 128 + c has no domain while its cell is ABSENT; DOMAIN reads 0 (R55). -/
def tallyCellLeave (c : Nat) (s : State) : State :=
  let g := 128 + c
  match lookup g s.tallyPend with
  | none => setF (TALLY_Gg_CFG_DOMAIN g) 0 s
  | some (_, p) => setF (TALLY_Gg_CFG_PEND g) 0 (setF (TALLY_Gg_CFG_PERIOD g) p (setF (TALLY_Gg_CFG_DOMAIN g) 0
      { s with tallyPend := put g none s.tallyPend }))

/-! ### Time-class commands (R58, R59) -/

/-- The domain a Time-class payload names. -/
def pTd (p : Pkt) : Nat := pf p 0 1 % 8

/-- A refusal for the domain's state (R32, R99). -/
def tdConflict (n : Nat) (s : State) : Nat × Nat := (stSTATE_CONFLICT, conflictDetail 2 n (tdState n s))

/-- Legal when the domain is DISABLED. -/
def chkTdDisabled : Check := fun p s => if tdState (pTd p) s = 0 then none else some (tdConflict (pTd p) s)

/-- Legal when the domain is not DISABLED and no cell is bound to it. -/
def chkTdStep : Check := fun p s =>
  if tdState (pTd p) s ≠ 0 ∧ ¬ cellBound (pTd p) s then none else some (tdConflict (pTd p) s)

/-- Another enabled domain already qualifies for a (port, domainNumber) pair of domain n (R46). -/
def ptpClash (n : Nat) (s : State) : Option Nat :=
  if n < 6 ∧ getF (AIR_TDn_CTRL_SRC n) s = 0 then
    [0, 1, 2, 3, 4, 5].find? (fun m => decide (m ≠ n) && flagF (AIR_TDn_CTRL_EN m) s && decide (getF (AIR_TDn_CTRL_SRC m) s = 0) &&
      decide (getF (AIR_TDn_CTRL_PTPDOM m) s = getF (AIR_TDn_CTRL_PTPDOM n) s) &&
      decide (getF (AIR_TDn_PORTS_MASK m) s &&& getF (AIR_TDn_PORTS_MASK n) s ≠ 0))
  else none

/-- Legal for TIME_ENABLE: the domain is DISABLED and clashes with no enabled domain (R46). -/
def chkTimeEnable : Check := fun p s =>
  if tdState (pTd p) s ≠ 0 then some (tdConflict (pTd p) s)
  else (ptpClash (pTd p) s).map (fun m => tdConflict m s)

/-- The payload fields that must be zero or in range; the offset of the first bad one, counted from header byte 0, and
a limit (R58). -/
def timeParam (p : Pkt) : Option (Nat × Nat) :=
  let op := p.opcode
  let b0 := pf p 0 1
  if op = 0x0206 then none
  else if 8 ≤ b0 then some (32, 0)
  else if op = 0x0201 then
    let b1 := pf p 1 1
    let src := b1 % 8
    if 16 ≤ b1 ∨ !srcAllowed (b0 % 8) src ∨ (b1 / 8 % 2 = 1 ∧ src ≠ 0) then some (33, 0)
    else if src = 0 ∧ ¬ (24 ≤ pf p 2 1 ∧ pf p 2 1 ≤ 43) then some (34, 0)
    else if pf p 3 1 ≠ 0 then some (35, 0)
    else if src ≠ 1 ∧ pf p 8 8 ≠ 0 then some (40, 0)
    else none
  else
    match [1, 2, 3].find? (fun i => decide (pf p i 1 ≠ 0)) with
    | some i => some (32 + i, 0)
    | none => none

/-- TIME_CONFIG: SRC, SYNCE, PTPDOM, PORTS and TOD in one tick (R58). -/
def effTimeConfig : Effect := fun p s =>
  let n := pTd p
  (setF (AIR_TDn_TOD_SECONDS n) (pf p 8 8) (setF (AIR_TDn_PORTS_MASK n) (pf p 4 4)
    (setF (AIR_TDn_CTRL_PTPDOM n) (pf p 2 1) (setF (AIR_TDn_CTRL_SYNCE n) (pf p 1 1 / 8) (writeSrc n (pf p 1 1 % 8) s)))), stOK, 0)

/-- TIME_ENABLE: sets EN (R58). -/
def effTimeEnable : Effect := fun p s => (domainEnable (pTd p) s, stOK, 0)

/-- TIME_DISABLE: clears EN under R43 (R58). -/
def effTimeDisable : Effect := fun p s => (domainDisable (pTd p) s, stOK, 0)

/-- TIME_STEP: steps the counter by the signed amount; a STEP of 0 changes nothing (R36, R58). -/
def effTimeStep : Effect := fun p s =>
  (if pf p 4 8 = 0 then s else stepCounter (pTd p) (bitsInt 64 (pf p 4 8) * 2 ^ 40) s, stOK, 0)

/-- The 64-byte domain record (R59). -/
def domainRecord (n : Nat) (s : State) : List Byte :=
  natLE 1 n ++ natLE 1 (tdState n s) ++
  natLE 1 (getF (AIR_TDn_CTRL_SRC n) s + getF (AIR_TDn_CTRL_SYNCE n) s * 8 + getF (AIR_TDn_CTRL_EN n) s * 16 +
    getF (AIR_TDn_STATE_SLEWING n) s * 32 + getF (AIR_TDn_HOLDOVER_EXCEEDED n) s * 64) ++
  natLE 1 (getF (AIR_TDn_CTRL_PTPDOM n) s) ++ natLE 4 (getF (AIR_TDn_PORTS_MASK n) s) ++
  natLE 8 (counter n s) ++ natLE 8 (getF (AIR_TDn_EPOCH_EPOCH n) s) ++
  natLE 8 (getF (AIR_TDn_HOLDOVER_ACTIVE n) s + getF (AIR_TDn_HOLDOVER_EXCEEDED n) s * 2 + getF (AIR_TDn_HOLDOVER_ENTERED n) s * 4 +
    getF (AIR_TDn_HOLDOVER_CAUSE n) s * 2 ^ 8 + getF (AIR_TDn_HOLDOVER_AGE n) s * 2 ^ 32) ++
  natLE 8 (getF (AIR_TDn_RATE_NOW n) s + getF (AIR_TDn_RATE_FROZEN n) s * 2 ^ 32) ++
  natLE 8 (getF (AIR_TDn_OFFSET_OFS n) s + getF (AIR_TDn_OFFSET_MPD n) s * 2 ^ 32) ++
  natLE 8 (getF (AIR_TDn_GM_CLOCKID n) s) ++ natLE 1 (getF (AIR_TDn_STATE_CELLS n) s) ++ [0] ++
  natLE 6 (getF (AIR_TDn_TOD_SECONDS n) s)

/-- TIME_QUERY: writes the domain record to the host buffer (R59). -/
def effTimeQuery : Effect := writeRecord (fun p => pf p 4 8) (fun p s => domainRecord (pTd p) s)

/-- TIME_MARK is legal while its bound domain is not DISABLED (R104). -/
def chkTimeMark : Check := fun p s => if tdState p.td s ≠ 0 then none else some (tdConflict p.td s)

/-- A command whose only effect is its final reply. -/
def effNothing : Effect := fun _ s => (s, stOK, 0)

/-- TIME_CONFIG (R58). -/
def execTimeConfig (p : Pkt) (s : State) : Host.Outcome State Fault Refusal := goesOn s (runCmd chkTdDisabled effTimeConfig p s)

/-- TIME_ENABLE (R58). -/
def execTimeEnable (p : Pkt) (s : State) : Host.Outcome State Fault Refusal := goesOn s (runCmd chkTimeEnable effTimeEnable p s)

/-- TIME_DISABLE (R58). -/
def execTimeDisable (p : Pkt) (s : State) : Host.Outcome State Fault Refusal := goesOn s (runCmd chkTdStep effTimeDisable p s)

/-- TIME_STEP (R36). -/
def execTimeStep (p : Pkt) (s : State) : Host.Outcome State Fault Refusal := goesOn s (runCmd chkTdStep effTimeStep p s)

/-- TIME_QUERY (R59). -/
def execTimeQuery (p : Pkt) (s : State) : Host.Outcome State Fault Refusal := goesOn s (runCmd anyState effTimeQuery p s)

/-- TIME_MARK (R104). -/
def execTimeMark (p : Pkt) (s : State) : Host.Outcome State Fault Refusal := goesOn s (runCmd chkTimeMark effNothing p s)

end Sys2Proof.Machine
end

