-- ==== Sys2Proof/Machine/Float.lean ====
section
/-! DEFINITION. The number formats of the arrays and the Vector Engine: exact values, their encodings, and rounding to
nearest even (R190, R191, R195, R231, R232, R294). -/

namespace Sys2Proof.Machine

/-- An exact value: a signed magnitude times a power of two, an infinity, or a NaN (quiet or signalling). -/
inductive Num where
  | fin (neg : Bool) (m : Nat) (e : Int)
  | inf (neg : Bool)
  | nan (signalling : Bool)
  deriving DecidableEq, Repr

/-- A binary format: exponent and mantissa bits, bias; whether the top exponent holds infinities and NaNs (IEEE); and the
greatest finite magnitude code of a format without them. -/
structure FloatFmt where
  eb : Nat
  mb : Nat
  bias : Int
  ieee : Bool
  top : Nat
  deriving DecidableEq, Repr

/-- The formats of R190 by code; codes 5 and 6 are BF16 and FP16. -/
def fmtOf (code : Nat) : FloatFmt :=
  match code with
  | 0 => ⟨2, 1, 1, false, 7⟩
  | 1 => ⟨3, 2, 3, false, 31⟩
  | 2 => ⟨2, 3, 1, false, 31⟩
  | 3 => ⟨4, 3, 7, false, 0x7E⟩
  | 4 => ⟨5, 2, 15, true, 0x7B⟩
  | 5 => ⟨8, 7, 127, true, 0x7F7F⟩
  | _ => ⟨5, 10, 15, true, 0x7BFF⟩

/-- FP32. -/
def fp32 : FloatFmt := ⟨8, 23, 127, true, 0x7F7FFFFF⟩

/-- The value that an encoding spells.  E4M3 has one NaN, S.1111.111 (R190). -/
def decodeNum (f : FloatFmt) (n : Nat) : Num :=
  let neg := bitAt (f.eb + f.mb) n
  let e := n / 2 ^ f.mb % 2 ^ f.eb
  let m := n % 2 ^ f.mb
  if f.ieee ∧ e = 2 ^ f.eb - 1 then (if m = 0 then .inf neg else .nan (!bitAt (f.mb - 1) n))
  else if f.eb = 4 ∧ e = 15 ∧ m = 7 then .nan false
  else if e = 0 then .fin neg m (1 - f.bias - f.mb)
  else .fin neg (2 ^ f.mb + m) ((e : Int) - f.bias - f.mb)

/-- What rounding did: inexact, overflow, and a subnormal or zero result. -/
structure Rounded where
  bits : Nat
  inexact : Bool
  ovf : Bool
  tiny : Bool
  deriving DecidableEq, Repr

/-- m × 2^e with its last place at q, rounded to nearest even; and whether it was inexact. -/
def roundAt (m : Nat) (e q : Int) : Nat × Bool :=
  if q ≤ e then (m * 2 ^ (e - q).toNat, false)
  else
    let d := 2 ^ (q - e).toNat
    let r := m % d
    let u := if d < 2 * r ∨ (2 * r = d ∧ m / d % 2 = 1) then 1 else 0
    (m / d + u, decide (r ≠ 0))

/-- A finite value rounded to nearest even in a format, subnormals kept; past the greatest finite value an IEEE format
gives infinity and another one its greatest finite value. -/
def roundNum (f : FloatFmt) (neg : Bool) (m : Nat) (e : Int) : Rounded :=
  let sign := b2n neg * 2 ^ (f.eb + f.mb)
  if m = 0 then ⟨sign, false, false, true⟩
  else
    let emin : Int := 1 - f.bias - f.mb
    let q := max ((Nat.log2 m : Int) + e - f.mb) emin
    let r := roundAt m e q
    let r1 := if r.1 = 2 ^ (f.mb + 1) then 2 ^ f.mb else r.1
    let q1 := if r.1 = 2 ^ (f.mb + 1) then q + 1 else q
    let code := if r1 < 2 ^ f.mb then r1 else ((q1 + f.bias + f.mb).toNat) * 2 ^ f.mb + (r1 - 2 ^ f.mb)
    if f.top < code then ⟨sign + (if f.ieee then (2 ^ f.eb - 1) * 2 ^ f.mb else f.top), true, true, false⟩
    else ⟨sign + code, r.2, false, decide (r1 < 2 ^ f.mb)⟩

/-- The canonical NaN of an IEEE format: 0x7FC0_0000 for FP32, 0x7FC0 for BF16 (R195, R231, R294). -/
def canonNan (f : FloatFmt) : Nat := (2 ^ f.eb - 1) * 2 ^ f.mb + 2 ^ (f.mb - 1)

/-- Flags of R232 as bits: INV 1, DZ 2, OVF 4, UNF 8, SAT 16. -/
def mkFlags (inv ovf unf sat : Bool) : Nat := b2n inv + 4 * b2n ovf + 8 * b2n unf + 16 * b2n sat

/-- A value as an encoding, with the flags that rounding it raises: OVF, and UNF for an inexact subnormal result. -/
def encodeNum (f : FloatFmt) : Num → Nat × Nat
  | .nan _ => (canonNan f, 0)
  | .inf neg => (b2n neg * 2 ^ (f.eb + f.mb) + (2 ^ f.eb - 1) * 2 ^ f.mb, 0)
  | .fin neg m e => let r := roundNum f neg m e
    (r.bits, mkFlags false r.ovf (r.inexact && r.tiny) false)

/-- A signed magnitude as an integer. -/
def signedOf (neg : Bool) (m : Nat) : Int := if neg then -(m : Int) else (m : Int)

/-- The exact sum of two finite values as an integer and an exponent. -/
def sumExact (a : Int) (ea : Int) (b : Int) (eb : Int) : Int × Int :=
  let e := min ea eb
  (a * (2 : Int) ^ (ea - e).toNat + b * (2 : Int) ^ (eb - e).toNat, e)

/-- The sum of two values, exact; the flag says the operation is invalid.  An exact-zero sum of numbers that are not both
−0 is +0. -/
def addNum : Num → Num → Num × Bool
  | .nan x, .nan y => (.nan false, x || y)
  | .nan x, _ => (.nan false, x)
  | _, .nan y => (.nan false, y)
  | .inf a, .inf b => if a = b then (.inf a, false) else (.nan false, true)
  | .inf a, _ => (.inf a, false)
  | _, .inf b => (.inf b, false)
  | .fin a m e, .fin b n f =>
    let r := sumExact (signedOf a m) e (signedOf b n) f
    (.fin (if r.1 = 0 then a && b else decide (r.1 < 0)) r.1.natAbs r.2, false)

/-- The product of two values, exact; the flag says the operation is invalid (infinity × 0, a signalling NaN). -/
def mulNum : Num → Num → Num × Bool
  | .nan x, .nan y => (.nan false, x || y)
  | .nan x, _ => (.nan false, x)
  | _, .nan y => (.nan false, y)
  | .inf a, .inf b => (.inf (a != b), false)
  | .inf a, .fin b m _ => if m = 0 then (.nan false, true) else (.inf (a != b), false)
  | .fin a m _, .inf b => if m = 0 then (.nan false, true) else (.inf (a != b), false)
  | .fin a m e, .fin b n f => (.fin (a != b) (m * n) (e + f), false)

/-- The value is a NaN. -/
def isNan : Num → Bool
  | .nan _ => true
  | _ => false

/-- The value is a signalling NaN. -/
def isSnan : Num → Bool
  | .nan x => x
  | _ => false

/-- a is below b, for values that are not NaN; −0 is below +0 when zeros are told apart (R294). -/
def ltNum (zeros : Bool) : Num → Num → Bool
  | .inf a, .inf b => a && !b
  | .inf a, _ => a
  | _, .inf b => !b
  | .fin a m e, .fin b n f =>
    let d := sumExact (signedOf a m) e (-(signedOf b n)) f
    if m = 0 ∧ n = 0 then zeros && a && !b else decide (d.1 < 0)
  | _, _ => false

/-- The lesser or greater of two values: the canonical NaN when either is one, and −0 below +0 (R294). -/
def minmaxNum (mx : Bool) (a b : Num) : Num × Bool :=
  if isNan a || isNan b then (.nan false, isSnan a || isSnan b)
  else if ltNum true b a then (if mx then (a, false) else (b, false))
  else (if mx then (b, false) else (a, false))

/-- An FP32 operation on encodings: the result, canonical where it is a NaN, and the flags. -/
def fpOp (f : FloatFmt) (r : Num × Bool) : Nat × Nat :=
  let x := encodeNum f r.1
  (x.1, x.2 + b2n r.2)

/-- Addition, multiplication, fused multiply-add (rounded once), minimum and maximum in a format. -/
def fpAdd (f : FloatFmt) (a b : Nat) : Nat × Nat := fpOp f (addNum (decodeNum f a) (decodeNum f b))
def fpMul (f : FloatFmt) (a b : Nat) : Nat × Nat := fpOp f (mulNum (decodeNum f a) (decodeNum f b))
def fpFma (f : FloatFmt) (a b c : Nat) : Nat × Nat :=
  let p := mulNum (decodeNum f a) (decodeNum f b)
  let r := addNum p.1 (decodeNum f c)
  fpOp f (r.1, r.2 || p.2)
def fpMinMax (f : FloatFmt) (mx : Bool) (a b : Nat) : Nat × Nat := fpOp f (minmaxNum mx (decodeNum f a) (decodeNum f b))

/-- A value rounded to the nearest integer, ties to even. -/
def roundInt (neg : Bool) (m : Nat) (e : Int) : Int := signedOf neg (roundAt m e 0).1

/-! ### Integers -/

/-- A signed integer clamped to w bits, and whether the clamp acted. -/
def satInt (w : Nat) (x : Int) : Int × Bool :=
  let c := clampInt (-(2 ^ (w - 1) : Int)) ((2 ^ (w - 1) : Int) - 1) x
  (c, decide (c ≠ x))

/-- One element of a remote reduction (R294): ROP 0 SUM, 1 MIN, 2 MAX; RTYPE 0 FP32, 1 BF16, 2 INT32, 3 INT64. -/
def redElem (rop rtype a b : Nat) : Nat :=
  if rtype < 2 then
    let f := if rtype = 0 then fp32 else fmtOf 5
    if rop = 0 then (fpAdd f a b).1 else (fpMinMax f (decide (rop = 2)) a b).1
  else
    let w := if rtype = 2 then 32 else 64
    if rop = 0 then (a + b) % 2 ^ w
    else if (bitsInt w b < bitsInt w a) = (rop = 1) then b else a

/-- Bytes of an element of a reduction. -/
def redSize (rtype : Nat) : Nat := if rtype = 1 then 2 else if rtype = 3 then 8 else 4

/-- A line reduced with data, element by element. -/
def redLine (rop rtype : Nat) (line data : List Byte) : List Byte :=
  let w := redSize rtype
  (List.range (data.length / w)).flatMap (fun i => natLE w (redElem rop rtype (fieldLE line (w * i) w) (fieldLE data (w * i) w)))

end Sys2Proof.Machine
end

