-- ==== Sys2Proof/Machine/Ledger.lean ====
section
/-! DEFINITION. The Ledger: entries, their assignment, the backlog and its flow control (R363 to R369). -/

namespace Sys2Proof.Machine

/-- What an entry says before its INDEX and PHASE are known (R365). -/
structure LedgerEvent where
  kind : Nat
  flags : Nat
  status : Nat
  seq : Nat
  func : Nat
  part : Nat
  cause : Nat
  td : Nat
  band : Nat
  at_ : Nat
  lunit : Nat
  punit : Nat
  object : Nat
  /-- Bytes 32 to 63 (R366). -/
  body : List Byte
  deriving DecidableEq, Repr

/-- The 64 bytes of an entry with its index (R365); PHASE is set when the entry is written. -/
def ledgerBytes (e : LedgerEvent) (index : Nat) : List Byte :=
  natLE 4 index ++ natLE 1 e.kind ++ natLE 1 e.flags ++ natLE 2 e.status ++ natLE 4 e.seq ++ natLE 1 e.func ++
    natLE 1 e.part ++ natLE 1 e.cause ++ natLE 1 (e.td + e.band * 16) ++ natLE 8 e.at_ ++ natLE 2 e.lunit ++
    natLE 2 e.punit ++ natLE 4 e.object ++ padTo 32 e.body

/-- Backlog entries of function f (R368, R369). -/
def backlogSize (f : Nat) : Nat := if f = 0 then 4194304 else 65536

/-- The backlog of function f's Ledger. -/
def backlog (f : Nat) (s : State) : List (List Byte) := look [] f s.ledger

/-- RESV_0: one entry for each accepted slot job without a final reply and HARQ_HANDLES for each admitted cell; 0 for
a VF (R369). -/
def ledgerResv (f : Nat) (s : State) : Nat :=
  if f = 0 then (s.accepted.filter (fun p => decide (p.opcode / 256 = 4))).length + (s.cells.map (fun c => fieldLE c.2.cfg 30 2)).sum else 0

/-- FREE_f < RESV_f + 32,768 (R369). -/
def ledgerLow (f : Nat) (s : State) : Bool :=
  decide (backlogSize f - (backlog f s).length < ledgerResv f s + 32768)

/-- Shows the backlog, the reservation and LEDGER_LOW (R369, R390). -/
def showLedger (f : Nat) (s : State) : State :=
  let s1 := setF (FLT_LGf_BACKLOG_RESV f) (ledgerResv f s) (setF (FLT_LGf_BACKLOG_HELD f) (backlog f s).length s)
  let low := ledgerLow f s || (s.ledger.any (fun g => ledgerLow g.1 s))
  if low && !flagF FLT_STAT_LEDGER_LOW s1 then event FLT_STAT_LEDGER_LOW 0 FLT_EVT_MASK_MASK 7 FLT_EVT_VEC_VEC s1
  else setF FLT_STAT_LEDGER_LOW (b2n low) s1

/-- Assigns the next Ledger index of function e.func to an entry and puts it in the backlog (R364, R368);
an entry with a failure STATUS sets FLT_STAT.ITEM_FAILED (R390).  The result is the index. -/
def ledgerAssign (e0 : LedgerEvent) (s : State) : Nat × State :=
  let e := if s.injecting then { e0 with flags := e0.flags ||| 32 } else e0
  let i := getF (FLT_LGf_NEXT_NEXT e.func) s
  let s := if 0x301 ≤ e.status then event FLT_STAT_ITEM_FAILED 0 FLT_EVT_MASK_MASK 0 FLT_EVT_VEC_VEC s else s
  let s1 := { s with ledger := put e.func (some (backlog e.func s ++ [ledgerBytes e i])) s.ledger }
  (i, showLedger e.func (addF (FLT_LGf_NEXT_NEXT e.func) 1 s1))

/-- Assigns an entry whose index is not needed. -/
def ledgerAdd (e : LedgerEvent) (s : State) : State := (ledgerAssign e s).2

/-- The air time and domain an event of no cell is recorded with: AIR_DEFAULT_TD's (R33, R365). -/
def eventTd (s : State) : Nat := getF AIR_DEFAULT_TD_TD s

/-- The temperature band of the die that carries a unit, or of a stack, by spare class and physical number (R18, R371,
R379, R406). -/
def unitBand (cls p : Nat) (s : State) : Nat :=
  let i := match cls with
    | 1 => 4 + p / 20
    | 2 => 4 + p / 9
    | 3 => if p < 8 then 4 + p else 0
    | 4 => 4 + p
    | 5 => 4 + p
    | 7 => p / 4
    | 10 => 12 + p
    | _ => p
  getF (PWR_TEMPi_BAND i) s

/-- The number by which unitBand knows a unit: the physical core of the classes 1 to 3, else the cluster, port or stack. -/
def bandUnit (cls lunit punit : Nat) : Nat := if cls ≤ 3 then punit else lunit

/-- A UNIT entry of a spareable unit (R366 KIND 5): its class, action, source and cause, logical and physical number,
the spare's physical number, load bucket, count and temperature band. -/
def unitEvent (cls action cause lunit punit spare bucket count band : Nat) (s : State) : LedgerEvent :=
  { kind := 5, flags := 0, status := 0, seq := 0, func := 0, part := 0xFF, cause := cause, td := eventTd s, band := band,
    at_ := counter (eventTd s) s, lunit := lunit, punit := punit, object := cls,
    body := natLE 1 action ++ natLE 1 bucket ++ natLE 2 spare ++ natLE 4 count }

/-- A PORT entry (R366 KIND 6): Hjelo or fronthaul, port number, state after the event, lane. -/
def portEvent (fronthaul : Bool) (port state lane cause : Nat) (s : State) : LedgerEvent :=
  { kind := 6, flags := 0, status := 0, seq := 0, func := 0, part := 0xFF, cause := cause, td := eventTd s,
    band := unitBand (if fronthaul then 6 else 7) port s, at_ := counter (eventTd s) s, lunit := 0xFFFF, punit := 0xFFFF,
    object := port + b2n fronthaul * 256,
    body := natLE 1 state ++ natLE 1 lane }

/-- Sets a bit of FLT_STAT and raises its vector where enabled (R390). -/
def fltEvent (f : Fld) (s : State) : State := event f 0 FLT_EVT_MASK_MASK f.lo FLT_EVT_VEC_VEC s

/-- n items have ended FAILED (R363, R390). -/
def countItems (n : Nat) (s : State) : State := tally 16 FLT_T_ITEMS_COUNT n s

/-- Marks an entry INJECTED (R389). -/
def injectedIf (b : Bool) (e : LedgerEvent) : LedgerEvent := if b then { e with flags := e.flags ||| 32 } else e

/-- An ordered error of a kind on a unit is pending (R389). -/
def injected (kind unit sub : Nat) (s : State) : Bool :=
  s.inject.any (fun i => decide (i.kind = kind) && decide (i.unit = unit) && decide (i.sub = sub))

/-- Takes one repeat off the first order for a unit; an order with none left is gone. -/
def spendInject (kind unit sub : Nat) : List Inject → List Inject
  | [] => []
  | i :: r =>
    if i.kind = kind ∧ i.unit = unit ∧ i.sub = sub then (if i.count ≤ 1 then r else { i with count := i.count - 1 } :: r)
    else i :: spendInject kind unit sub r

/-- One repeat of an ordered error has come about. -/
def takeInject (kind unit sub : Nat) (s : State) : State :=
  { s with inject := spendInject kind unit sub s.inject }

/-- An event that an ordered error brings about: one repeat of it is spent and the entries it causes carry INJECTED (R389). -/
def withInject (kind unit sub : Nat) (f : State → State) (s : State) : State :=
  if injected kind unit sub s then { f { takeInject kind unit sub s with injecting := true } with injecting := false } else f s

/-- The function that a partition's entries go to: the one PART_SET bound (R364). -/
def partFunc (p : Nat) (s : State) : Nat := if p < 8 then getF (SCHED_Pp_INFO_FUNC p) s else 0

/-- The status of a command of several items from the statuses of its failed ones (R98). -/
def itemsStatus (failed : List Nat) : Nat := failed.headD 0

/-- The DETAIL of ITEM_FAILED and its kin: the number of failed items and the Ledger index of the first (R98). -/
def itemsDetail (n index : Nat) : Nat := n + index % 2 ^ 32 * 2 ^ 32

/-! ### The fault history (R372, R373) -/

/-- Appends an entry to the fault history, which holds the last 256 events in the Vault's words 576 to 1,087. -/
def historyAdd (b : List Byte) (s : State) : State :=
  let w := 576 + s.histNext % 256 * 2
  vaultPut (w + 1) (leNat ((padTo 16 b).drop 8)) (vaultPut w (leNat ((padTo 16 b).take 8)) { s with histNext := s.histNext + 1 })

/-- The history entry of a UNIT or PORT event: bytes 12 to 15 and 24 to 35 of its Ledger entry (R373). -/
def historyOf (e : LedgerEvent) : List Byte :=
  let l := ledgerBytes e 0
  (l.drop 12).take 4 ++ (l.drop 24).take 12

/-- Writes an event to the Ledger and to the fault history (R372). -/
def unitRecord (e : LedgerEvent) (s : State) : State := historyAdd (historyOf e) (ledgerAdd e s)

/-- Adds to a counter that counts in units of 1,024, keeping what is left below a unit. -/
def tally1024 (g : Nat) (f : Fld) (n : Nat) (s : State) : State :=
  let x := look 0 (tallyKey g f) s.tallyRem + n
  tally g f (x / 1024) { s with tallyRem := put (tallyKey g f) (if x % 1024 = 0 then none else some (x % 1024)) s.tallyRem }

end Sys2Proof.Machine
end

