-- ==== Sys2Proof/Machine/Operands.lean ====
section
/-! DEFINITION. The operand layouts that commands carry in their payloads: the cell configuration and its flow set
(R155 to R157), and the slot job (R166, R167). -/

namespace Sys2Proof.Machine

/-! ### Cell configuration (R155) -/

def cfgCell (l : List Byte) : Nat := fieldLE l 0 2
def cfgTd (l : List Byte) : Nat := fieldLE l 2 1 % 8
def cfgMu (l : List Byte) : Nat := bitsAt 4 3 (fieldLE l 2 1)
def cfgEcp (l : List Byte) : Bool := bitAt 5 (fieldLE l 2 1)
def cfgCatB (l : List Byte) : Bool := bitAt 6 (fieldLE l 2 1)
def cfgDiq (l : List Byte) : Bool := bitAt 7 (fieldLE l 2 1)
def cfgLport (l : List Byte) : Nat := fieldLE l 3 1 % 32
def cfgNprb (l : List Byte) : Nat := fieldLE l 4 2
def cfgS (l : List Byte) : Nat := fieldLE l 6 1
def cfgA (l : List Byte) : Nat := fieldLE l 7 1
def cfgL (l : List Byte) : Nat := fieldLE l 8 1
def cfgImax (l : List Byte) : Nat := fieldLE l 9 1
def cfgW (l : List Byte) : Nat := fieldLE l 10 1
def cfgTbsUl (l : List Byte) : Nat := fieldLE l 12 4
def cfgTbsDl (l : List Byte) : Nat := fieldLE l 16 4
def cfgDelivery (l : List Byte) : Nat := fieldLE l 20 4
def cfgLead (l : List Byte) : Nat := fieldLE l 24 4
def cfgJobWindow (l : List Byte) : Nat := fieldLE l 28 2
def cfgHandles (l : List Byte) : Nat := fieldLE l 30 2
def cfgHarqSize (l : List Byte) : Nat := fieldLE l 32 4

/-- Flow entry i (R157), 64 bits. -/
def cfgFlow (l : List Byte) (i : Nat) : Nat := fieldLE l (128 + 8 * i) 8
def flowEaxc (e : Nat) : Nat := bitsAt 15 0 e
def flowStream (e : Nat) : Nat := bitsAt 20 16 e
def flowWp (e : Nat) : Nat := bitsAt 24 21 e
def flowQueue (e : Nat) : Nat := bitsAt 28 25 e
def flowKind (e : Nat) : Nat := bitsAt 31 29 e
def flowW (e : Nat) : Nat := bitsAt 36 32 e

/-- The 80 flow entries. -/
def cfgFlows (l : List Byte) : List Nat := (List.range 80).map (cfgFlow l)

/-- The flow entries in use. -/
def cfgUsedFlows (l : List Byte) : List Nat := (cfgFlows l).filter (fun e => decide (flowKind e ≠ 6))

/-- Slot length in µs. -/
def slotUs (mu : Nat) : Nat := 1000 / 2 ^ mu

/-- Resource elements per slot per stream (R66). -/
def resourceElements (nprb : Nat) : Nat := 12 * nprb * 14

/-- Rounds up to a multiple of 64. -/
def ceil64 (n : Nat) : Nat := ceilDiv n 64 * 64

/-! ### Window Profile values of a cell (stage quantities of R163 and R165) -/

/-- The largest value over the profiles that the flows of some kinds name, on the cell's engine. -/
def wpMax (l : List Byte) (kinds : List Nat) (f : Nat → Nat → Fld) (s : State) : Nat :=
  ((cfgUsedFlows l).filter (fun e => decide (flowKind e ∈ kinds))).foldl
    (fun m e => max m (getF (f (cfgLport l / 8) (flowWp e)) s)) 0

/-- TA4_MAX in Tc. -/
def ta4Max (l : List Byte) (s : State) : Nat := 64 * wpMax l [0, 4] FH_WPk_TA4_TA4_MAX s

/-- t_in in Tc after the slot's end: TA4_MAX minus the length of the slot's last symbol (R163). -/
def tIn (l : List Byte) (s : State) : Int := (ta4Max l s : Int) - (symTc (cfgMu l) (cfgEcp l) : Int)

/-- Rounds a signed division up. -/
def ceilInt (a b : Int) : Int := -((-a) / b)

/-- FP_min = ceil(t_in + T_s) µs (R163). -/
def fpMin (l : List Byte) (s : State) : Nat :=
  (ceilInt (tIn l s * 3125 + (slotUs (cfgMu l) * 6144000 : Nat)) 6144000).toNat

/-- Minimum Delivery Offset, in µs: FP_min + T_s + 20 (R163). -/
def minDelivery (l : List Byte) (s : State) : Nat := fpMin l s + slotUs (cfgMu l) + 20

/-- Minimum Lead Time, in µs, rounded up (R165): the terms are summed in units of 1/6144 ns. -/
def minLead (l : List Byte) (s : State) : Nat :=
  let us := 6144000
  let ts := slotUs (cfgMu l) * us
  let up := wpMax l [1, 5] FH_WPk_T1A_MAX_UP_T1A_x s * 3125
  let cdl := wpMax l [3] FH_WPk_T1A_MAX_CP_DL_T1A_x s * 3125
  let cul := wpMax l [2] FH_WPk_T1A_MAX_CP_UL_T1A_x s * 3125
  let sweep := getF (CMD_PWw_CTRL_SWEEP (cfgJobWindow l)) s * 125 * 6144
  let m1 := max (up + 20 * us + 2 * ts) (up + 10 * us + ts + getF ESC_CTRL_RELEASE_US s * us)
  let m2 := if cfgDiq l then m1 else max m1 (max (cul + 10 * us) (cdl + 10 * us))
  ceilDiv (sweep + 2 * us + m2) us

/-- The neural receiver runs in a slot of a cell: a CELL_NEURAL applies from the first slot planned after its effect (R183). -/
def neuralIn (c : Cell) (slot : Nat) : Bool := if slot < c.neuralFrom then c.neuralWas else c.neural

/-- FP_US for a slot of a cell. -/
def fpUsIn (c : Cell) (slot : Nat) : Nat := if slot < c.neuralFrom then c.fpWas else c.fpUs

/-- The Fallback Point of a cell's slot, in µs after slot end: FP_US with the neural receiver, FP_min without (R163, R183). -/
def cellFp (c : Cell) (slot : Nat) (s : State) : Nat := if neuralIn c slot then fpUsIn c slot else fpMin c.cfg s

/-! ### Slot jobs (R166, R167) -/

def jobCell (l : List Byte) : Nat := fieldLE l 0 2
def jobCount (l : List Byte) : Nat := fieldLE l 2 2
def jobSlot (l : List Byte) : Nat := fieldLE l 8 8
def jobBuf (l : List Byte) : Nat := fieldLE l 16 8
def jobBufLen (l : List Byte) : Nat := fieldLE l 24 4
def jobSyms (l : List Byte) : Nat := fieldLE l 28 2

/-- The 32 bytes of allocation k. -/
def jobAlloc (l : List Byte) (k : Nat) : List Byte := (l.drop (64 + 32 * k)).take 32
def alType (a : List Byte) : Nat := fieldLE a 0 1
def alNew (a : List Byte) : Bool := bitAt 0 (fieldLE a 1 1)
def alRnti (a : List Byte) : Nat := fieldLE a 2 2
def alPrbStart (a : List Byte) : Nat := fieldLE a 4 2
def alPrbNum (a : List Byte) : Nat := fieldLE a 6 2
def alSym (a : List Byte) : Nat := fieldLE a 8 1 % 16
def alSymNum (a : List Byte) : Nat := fieldLE a 8 1 / 16
def alLayers (a : List Byte) : Nat := fieldLE a 9 1
def alQm (a : List Byte) : Nat := fieldLE a 10 1
def alHandle (a : List Byte) : Nat := fieldLE a 14 2
def alTbs (a : List Byte) : Nat := fieldLE a 16 4
def alOfs (a : List Byte) : Nat := fieldLE a 28 4

/-- The allocations of a slot job. -/
def jobAllocs (l : List Byte) : List (List Byte) := (List.range (jobCount l)).map (jobAlloc l)

end Sys2Proof.Machine
end

