-- ==== Sys2Proof/Machine/Escrow.lean ====
section
/-! DEFINITION. The Escrow: throttled capacity, Radio Credit, admission, windows and the writes it judges (R62 to R73,
R82, R128, R158, R160). -/

namespace Sys2Proof.Machine

/-! ### Throttled capacity (R62) -/

/-- D in percent, as used by the Escrow. -/
def dutyPct (s : State) : Nat := getF ESC_DUTY_DUTY s

/-- Work cycles per ms of n units at duty d percent. -/
def cyclesCap (n d : Nat) : Nat := n * 10000 * d

/-- Throttled capacity per ms at duty d percent of resource x: 0 MC, 1 SC, 2 COD, 3 T1. -/
def capAt (d x : Nat) (s : State) : Nat :=
  match x with
  | 0 => cyclesCap (getF MXC_STAT_ACTIVE s) d
  | 1 => cyclesCap (getF SIG_STAT_ACTIVE s) d
  | 2 => getF COD_STAT_ACTIVE s * 150 * 10000 * d
  | _ => 2560000000 * (12 - s.stacksOut.length)

/-- Line rate of a logical port in bytes per ms (R62, R108). -/
def portCap (k : Nat) (s : State) : Nat := 100000000 / 2 ^ getF (FH_PORT_CFG_MODE (k / 8)) s

/-- The sub-port exists in the present breakout (R108). -/
def subPortExists (k : Nat) (s : State) : Bool := decide (k % 8 < 2 ^ getF (FH_PORT_CFG_MODE (k / 8)) s)

/-- Escrow Ceiling of resource x in percent: 0 MC, 1 SC, 2 COD, 3 T1, 4 FH (R63). -/
def ceiling (x : Nat) (s : State) : Nat :=
  match x with
  | 0 => getF ESC_CEILING_MC s
  | 1 => getF ESC_CEILING_SC s
  | 2 => getF ESC_CEILING_COD s
  | 3 => getF ESC_CEILING_T1 s
  | _ => getF ESC_CEILING_FH s

/-- The component x of a credit. -/
def creditOf (x : Nat) (c : Credit) : Nat :=
  match x with
  | 0 => c.mc
  | 1 => c.sc
  | 2 => c.cod
  | _ => c.t1

/-- Credit of resource x that cells hold and accepted commands reserve. -/
def usedCredit (x : Nat) (s : State) : Nat :=
  (s.cells.map (fun c => creditOf x c.2.credit)).sum + (s.resv.map (fun r => creditOf x r.credit)).sum

/-- Ingress and egress FH credit on logical port k. -/
def usedFh (k : Nat) (s : State) : Nat × Nat :=
  let cs := (s.cells.filter (fun c => decide (cfgLport c.2.cfg = k))).map (fun c => c.2.credit)
  let rs := (s.resv.filter (fun r => decide (r.lport = k))).map (fun r => r.credit)
  (((cs ++ rs).map (fun c => c.fhIn)).sum, ((cs ++ rs).map (fun c => c.fhOut)).sum)

/-- At or below a percentage of a capacity. -/
def within (used cap pct : Nat) : Bool := decide (used * 100 ≤ cap * pct)

/-- Every FH credit is within pct percent of its port's capacity. -/
def fhWithin (pct : Nat) (s : State) : Bool :=
  (List.range 32).all (fun k => within (usedFh k s).1 (portCap k s) pct && within (usedFh k s).2 (portCap k s) pct)

/-- Every resource's credit is within its percentage of the throttled capacity at duty d. -/
def allWithin (d : Nat) (pct : Nat → Nat) (s : State) : Bool :=
  [0, 1, 2, 3].all (fun x => within (usedCredit x s) (capAt d x s) (pct x)) && fhWithin (pct 4) s

/-- An ESC_STAT event (R83). -/
def escEvent (f : Fld) (s : State) : State := event f 0 ESC_EVT_MASK_MASK f.lo ESC_EVT_VEC_VEC s

/-- Shows a condition in a bit of ESC_STAT, which raises the vector when it becomes 1 (R65, R83). -/
def escLevel (f : Fld) (b : Bool) (s : State) : State :=
  if b then (if flagF f s then s else escEvent f s) else setF f 0 s

/-- Shows the throttled capacities (ESC_CAP_x), and whether credit exceeds a ceiling (OVERCOMMIT) or a capacity
(AT_RISK), in ESC_STAT (R62, R65). -/
def showEscrow (s : State) : State :=
  let s1 := setF ESC_CAP_T1_CAP (capAt (dutyPct s) 3 s) (setF ESC_CAP_COD_CAP (capAt (dutyPct s) 2 s)
    (setF ESC_CAP_SC_CAP (capAt (dutyPct s) 1 s) (setF ESC_CAP_MC_CAP (capAt (dutyPct s) 0 s) s)))
  escLevel ESC_STAT_AT_RISK (!allWithin (dutyPct s) (fun _ => 100) s)
    (escLevel ESC_STAT_OVERCOMMIT (!allWithin (dutyPct s) (fun x => ceiling x s) s) s1)

/-- CAPACITY_RECOMPUTE (R65): a unit has left service without a spare. -/
def capacityRecompute (s : State) : State := escEvent ESC_STAT_CAP_CHANGED (showEscrow s)

/-! ### Radio Credit (R66, R128, R158) -/

/-- Stream number of a Direct IQ flow on its engine: the spec does not say how the streams of an engine are given to
flows; here ingress stream a serves eAxC IDs a modulo 32, and egress streams follow from 32 (DESIGN CHOICE, log
entry 10). -/
def diqStream (kind eaxc : Nat) : Nat := if kind = 5 then 32 + eaxc % 32 else eaxc % 32

/-- The first Direct IQ ingress stream of a cell. -/
def cellStream (l : List Byte) : Nat :=
  match (cfgUsedFlows l).find? (fun e => decide (flowKind e = 4)) with
  | some e => diqStream 4 (flowEaxc e)
  | none => 0

/-- Samples per slot: f_s × 10^-3 / 2^μ (R128). -/
def slotSamples (fs mu : Nat) : Nat := 30720 * 2 ^ fs / 2 ^ mu

/-- FFT size N: f_s divided by the subcarrier spacing (R148). -/
def fftSize (fs mu : Nat) : Nat := 2048 * 2 ^ fs / 2 ^ mu

/-- Worst-case cycles of the FFT kernel: stages × (N / 32 + 24) + 40, radix-4 stages and one radix-2 stage when log2 N
is odd (R148). -/
def fftCycles (n : Nat) : Nat := (Nat.log2 n + 1) / 2 * (n / 32 + 24) + 40

/-- The Radio Credit of a cell per ms, from its configuration, the neural cost and, for a Direct IQ cell, its streams'
settings. -/
def cellCredit (l : List Byte) (gnr : Nat) (s : State) : Credit :=
  let re := resourceElements (cfgNprb l)
  let st := cfgS l
  let slots := 2 ^ cfgMu l
  let p := cfgLport l / 8
  let fs := getF (FH_DIQa_CFG_FS p (cellStream l)) s
  let spm := 256 * 2 ^ getF (FH_DIQa_CFG_SPM p (cellStream l)) s
  let ns := slotSamples fs (cfgMu l)
  let fh := if cfgDiq l then st * (4 * ns + 72 * ceilDiv ns spm) else 14 * st * (cfgNprb l * (3 * cfgW l + 1) + 64)
  let diqSc := if cfgDiq l then 28 * st * fftCycles (fftSize fs (cfgMu l)) else 0
  { mc := (ceilDiv (re * st * cfgL l) 512 + cfgA l * cfgL l * cfgNprb l + 32768 + ceilDiv (re * st * gnr) 64) * slots
    sc := (ceilDiv (re * st) 8 + 14500 + diqSc) * slots
    cod := (ceilDiv (cfgTbsUl l * cfgImax l) 6 + ceilDiv (cfgTbsDl l * 3) 8) * slots
    t1 := (9 * cfgTbsUl l + 64 * st * cfgNprb l) * slots
    fhIn := fh * slots
    fhOut := fh * slots }

/-- What a credit adds over another, component by component. -/
def creditMore (new old : Credit) : Credit :=
  ⟨new.mc - old.mc, new.sc - old.sc, new.cod - old.cod, new.t1 - old.t1, new.fhIn - old.fhIn, new.fhOut - old.fhOut⟩

/-- No credit. -/
def creditZero : Credit := ⟨0, 0, 0, 0, 0, 0⟩

/-! ### Memory carve (R160, R67) -/

/-- Bytes of a block and of a frame. -/
def frameBytes : Nat := 2097152

/-- T0 carve of a cell in frames. -/
def t0Carve (l : List Byte) : Nat :=
  ceilDiv (8 * resourceElements (cfgNprb l) * cfgS l + 3 * cfgTbsUl l + ceilDiv (cfgTbsDl l) 2 + 262144) frameBytes

/-- Bytes of one T1 copy of a Cell Context. -/
def t1CopyBytes (l : List Byte) (image : Nat) : Nat :=
  4096 + ceil64 (16 * cfgS l * cfgNprb l) + cfgHandles l * cfgHarqSize l + image

/-- T1 carve of a cell in frames: two copies, each rounded up on its own. -/
def t1Carve (l : List Byte) (image : Nat) : Nat := 2 * ceilDiv (t1CopyBytes l image) frameBytes

/-- Frames of a tier outside every quota, the shared pool and the radio carve. -/
def freeT0 (s : State) : Nat :=
  getF TIER_CAP_T0 s - ((List.range 8).map (fun p => getF (TIER_Pp_T0_QUOTA p) s)).sum - getF (TIER_POOL_Tn_SIZE 0) s -
    getF TIER_RADIO_T0 s - (s.resv.map (fun r => r.t0Frames)).sum
def freeT1 (s : State) : Nat :=
  getF TIER_CAP_T1 s - ((List.range 8).map (fun p => getF (TIER_Pp_T1_QUOTA p) s)).sum - getF (TIER_POOL_Tn_SIZE 1) s -
    getF TIER_RADIO_T1 s - (s.resv.map (fun r => r.t1Frames)).sum

/-- Flow Table entries of an engine in use. -/
def flowsUsed (p : Nat) (s : State) : Nat :=
  ((s.cells.filter (fun c => decide (cfgLport c.2.cfg / 8 = p))).map (fun c => (cfgUsedFlows c.2.cfg).length)).sum +
    ((s.resv.filter (fun r => decide (r.lport / 8 = p))).map (fun r => r.flows)).sum

/-! ### Admission (R68) -/

/-- The DETAIL of NO_ESCROW when adding a credit, carve frames, Flow Table entries and Ledger handles would break R63,
R67, R157 or R369; 0 when the addition fits.  An addition of credit is judged against every resource and port, so none fits while
OVERCOMMIT reads 1 (R65). -/
def admitDetail (lport : Nat) (add : Credit) (t0 t1 flows handles : Nat) (s : State) : Nat :=
  let more := decide (add ≠ creditZero)
  let bad (x : Nat) : Bool := more && !within (usedCredit x s + creditOf x add) (capAt (dutyPct s) x s) (ceiling x s)
  let fhBad (k : Nat) : Bool := more &&
    (!within ((usedFh k s).1 + if k = lport then add.fhIn else 0) (portCap k s) (ceiling 4 s) ||
      !within ((usedFh k s).2 + if k = lport then add.fhOut else 0) (portCap k s) (ceiling 4 s))
  let memBad := decide (freeT0 s < t0) || decide (freeT1 s < t1) || (decide (0 < flows) && decide (1024 < flowsUsed (lport / 8) s + flows)) ||
    (decide (0 < handles) && decide (backlogSize 0 - (backlog 0 s).length < ledgerResv 0 s + handles + 32768))
  b2n (bad 0) + 2 * b2n (bad 1) + 4 * b2n (bad 2) + 8 * b2n (bad 3) + 32 * b2n memBad +
    match (List.range 32).find? fhBad with
    | some k => 16 + k * 256
    | none => 0

/-- The admission of R68: none when the addition is admitted, otherwise NO_ESCROW and its DETAIL. -/
def admitCell (lport : Nat) (add : Credit) (t0 t1 flows handles : Nat) (s : State) : Option (Nat × Nat) :=
  let d := admitDetail lport add t0 t1 flows handles s
  if d ≠ 0 ∨ (add ≠ creditZero ∧ flagF ESC_STAT_OVERCOMMIT s) then some (stNO_ESCROW, d) else none

/-! ### Judged writes (R64, R397) -/

/-- CEILING_WRITE (R64): a field outside 10 to 95 is ignored; the write is judged only on the fields it lowers, and is
refused whole with CEIL_REFUSED when the admitted credit of one of them would exceed the new ceiling. -/
def execCeilingWrite (v : BitVec 64) (s : State) : Host.Outcome State Fault Refusal :=
  let raw (x : Nat) : Nat := v.toNat / 2 ^ (8 * x) % 128
  let new (x : Nat) : Nat := if 10 ≤ raw x ∧ raw x ≤ 95 then raw x else ceiling x s
  let bad := [0, 1, 2, 3].any (fun x => decide (new x < ceiling x s) && !within (usedCredit x s) (capAt (dutyPct s) x s) (new x)) ||
    (decide (new 4 < ceiling 4 s) && !fhWithin (new 4) s)
  goesOn s (if !hostUp 0 s then s else if bad then escEvent ESC_STAT_CEIL_REFUSED s
    else showEscrow (setF ESC_CEILING_FH (new 4) (setF ESC_CEILING_T1 (new 3) (setF ESC_CEILING_COD (new 2)
      (setF ESC_CEILING_SC (new 1) (setF ESC_CEILING_MC (new 0) s))))))

/-- The Escrow accepts a duty: raised or unchanged always, lowered when every resource stays within its ceiling (R64). -/
def dutyAccepted (d : Nat) (s : State) : Bool :=
  decide (dutyPct s ≤ d) || allWithin d (fun x => ceiling x s) s

/-! ### Cells' registers and counts (R83) -/

/-- Shows the credit that cells hold, the per-port FH credit of logical port k, and the number of cells (R83). -/
def showCredit (k : Nat) (s : State) : State :=
  let s1 := setF ESC_USED_T1_USED (usedCredit 3 s) (setF ESC_USED_COD_USED (usedCredit 2 s)
    (setF ESC_USED_SC_USED (usedCredit 1 s) (setF ESC_USED_MC_USED (usedCredit 0 s) s)))
  let s2 := setF (ESC_FHk_USED_OUT k) (usedFh k s).2 (setF (ESC_FHk_USED_IN k) (usedFh k s).1 s1)
  showEscrow (setF ESC_CELLS_COUNT s.cells.length s2)

/-- Shows the cells bound to a domain, saturating at 255 (R60). -/
def showBound (n : Nat) (s : State) : State := reclamp n (setF (AIR_TDn_STATE_CELLS n) (min 255 (boundCells n s)) s)

/-! ### Windows (R70 to R73) -/

/-- Core cycles that hold a number of work cycles at D (R62, R70). -/
def workToCycles (work : Nat) (s : State) : Nat := ceilDiv (work * 100) (dutyPct s)

/-- Start of the latest slot of numerology μ that begins at or before t. -/
def slotFloor (mu : Nat) (ecp : Bool) (t : Nat) : Nat :=
  let a := tcToAir mu ecp t
  airToTc mu ecp a.1 a.2.1 0

/-- The planning point of a window: the start of the latest slot of the cell that begins at least T_s + RELEASE_US
before the window's start (R70). -/
def planPoint (l : List Byte) (start : Nat) (s : State) : Nat :=
  slotFloor (cfgMu l) (cfgEcp l) (start - usToTc (slotUs (cfgMu l) + getF ESC_CTRL_RELEASE_US s))

/-- Logical Matrix Core n is in service: its number is below the grade's count and has not been removed (R19). -/
def coreInService (n : Nat) (s : State) : Bool := decide (n < getF DEV_IDENT_GRADE s) && decide (n ∉ s.mcRemoved)

/-- The physical core of a logical Matrix Core. -/
def mcPhys (n : Nat) (s : State) : Nat := getF (MXC_Cn_INFO_PHYS n) s

/-- A logical core's physical core is Suspect, or is retired and awaits its spare: no new window or Lease is placed on it (R19, R214). -/
def coreSuspect (n : Nat) (s : State) : Bool := flagF (FLT_MCp_ASSAY_SUSPECT (mcPhys n s)) s || (lookup n s.mcRetiring).isSome

/-- Two windows of one core overlap. -/
def overlaps (core start len : Nat) (s : State) : Bool :=
  s.windows.any (fun w => decide (w.core = core) && decide (start < windowEnd w) && decide (w.start < start + nsToTc len))

/-- The interval in which a window of a slot may lie, in Tc of the cell's domain (R163, R165, R184). -/
def windowInterval (c : Cell) (slot : Nat) (ul neural : Bool) (s : State) : Int × Int :=
  let l := c.cfg
  let slotEnd : Int := nextSlot (cfgMu l) (cfgEcp l) slot
  let ts : Int := usToTc (slotUs (cfgMu l))
  if ul then
    if neural then (slotEnd + tIn l s, slotEnd + (usToTc (fpUsIn c slot - 2) : Int)) else (slotEnd + tIn l s, slotEnd + tIn l s + ts)
  else
    let tr : Int := (slot : Int) - (wpMax l [1, 5] FH_WPk_T1A_MAX_UP_T1A_x s : Int) - (usToTc 10 : Int)
    (tr - ts, tr)

/-- WINDOW_PLAN (R70): at its planning point the Escrow places a window for a cell's slot on a logical core in service
that is not Suspect and holds no other window there, within the stage's interval, as long as its work divided by D; a
window placed in part sets SHORT.  Which core and start it takes is the Escrow's choice, and an operand. -/
def execWindowPlan (core : Nat) (c : Fin 512) (slot : Nat) (ul neural : Bool) (start work : Nat) (short : Bool) (s : State) :
    Host.Outcome State Fault Refusal :=
  goesOn s (match lookup c.val s.cells with
    | none => s
    | some cell =>
      let len := workToCycles work s
      let iv := windowInterval cell slot ul neural s
      if coreInService core s ∧ ¬ coreSuspect core s ∧ ¬ overlaps core start len s ∧ iv.1 ≤ start ∧
          ((start + nsToTc len : Nat) : Int) ≤ iv.2 ∧ planPoint cell.cfg start s ≤ counter (cfgTd cell.cfg) s then
        let w : Window := ⟨core, c.val, slot, ul, neural, cfgTd cell.cfg, start, len, getF ESC_CTRL_RELEASE_US s, false, false⟩
        let s1 := { s with windows := s.windows ++ [w] }
        if short then escEvent ESC_STAT_SHORT s1 else s1
      else s)

/-- The MC work of the jobs accepted for a slot in one direction, by R66 with their actual PRBs and layers; none when
no job has been accepted (R72). -/
def actualWork (c : Cell) (cn slot : Nat) (ul neural : Bool) (s : State) : Nat :=
  match s.jobs.find? (fun j => decide (j.cell = cn) && decide (j.slot = slot) && decide (j.ul = ul)) with
  | none => 0
  | some j =>
    let al := jobAllocs j.pkt.payload
    let prb := min (cfgNprb c.cfg) ((al.map alPrbNum).sum)
    let lay := (al.map alLayers).foldl max 0
    let re := resourceElements prb
    if neural then ceilDiv (re * cfgS c.cfg * c.gnr) 64
    else ceilDiv (re * cfgS c.cfg * lay) 512 + cfgA c.cfg * lay * prb + 32768

/-- The length that the windows of one slot retain in all: the actual work divided by D, rounded up to a multiple of
512 cycles, and 0 with no job (R72). -/
def retainedTotal (c : Cell) (w : Window) (s : State) : Nat :=
  let x := actualWork c w.cell w.slot w.ul w.neural s
  if x = 0 then 0 else ceilDiv (workToCycles x s) 512 * 512

/-- The windows of the same slot, direction and path that the Escrow placed before this one hold the retained length
first (DESIGN CHOICE, log entry 11). -/
def heldBefore (w : Window) : List Window → Nat
  | [] => 0
  | v :: r => if v.core = w.core ∧ v.start = w.start then 0
    else (if v.cell = w.cell ∧ v.slot = w.slot ∧ v.ul = w.ul ∧ v.neural = w.neural then v.len else 0) + heldBefore w r

/-- The window of a core that starts at a given air time. -/
def findWindow (core start : Nat) (s : State) : Option Window :=
  s.windows.find? (fun w => decide (w.core = core) && decide (w.start = start))

/-- Replaces a window, or removes it. -/
def setWindow (w : Window) (new : Option Window) (s : State) : State :=
  { s with windows := s.windows.flatMap (fun v => if v.core = w.core ∧ v.start = w.start then new.toList else [v]) }

/-- RELEASE_HORIZON (R72): RELEASE_US before its start a window keeps what the accepted jobs need and the rest is
released to the Teller; a window never grows. -/
def execReleaseHorizon (core start : Nat) (s : State) : Host.Outcome State Fault Refusal :=
  goesOn s (match findWindow core start s with
    | none => s
    | some w =>
      match lookup w.cell s.cells with
      | none => s
      | some c =>
        if w.retained ∨ counter w.td s + usToTc w.releaseUs < w.start then s
        else
          let keep := min w.len (retainedTotal c w s - heldBefore w s.windows)
          tally1024 2 ESC_T_RELEASE_COUNT (w.len - keep)
            (setWindow w (if keep = 0 then none else some { w with len := keep, retained := true }) s))

/-- WINDOW_OPEN (R71): the window opens when its cell's domain reaches its start, and radio work begins on the core. -/
def execWindowOpen (core start : Nat) (s : State) : Host.Outcome State Fault Refusal :=
  goesOn s (match findWindow core start s with
    | none => s
    | some w =>
      if w.start ≤ counter w.td s ∧ ¬ w.opened then
        setF (MXC_Cn_INFO_CTX core) 0 (setF (MXC_Cn_INFO_STATE core) 1 (setWindow w (some { w with opened := true }) s))
      else s)

/-- Core cycles left of an open window. -/
def windowLeft (w : Window) (s : State) : Nat := tcToNs (windowEnd w - counter w.td s)

/-- The rest of a window goes back to the Teller when at least RETURN_MIN_US of it remains; a shorter rest stays idle
(R73). -/
def returnRest (w : Window) (s : State) : State :=
  if getF ESC_CTRL_RETURN_MIN_US s * 1000 ≤ windowLeft w s then
    setF (MXC_Cn_INFO_STATE w.core) 0
      (tally1024 2 ESC_T_RETURN_COUNT (min w.len (windowLeft w s)) (setWindow w none s))
  else s

/-- EARLY_RETURN (R73): the radio work of an open window has ended. -/
def execEarlyReturn (core start : Nat) (s : State) : Host.Outcome State Fault Refusal :=
  goesOn s (match findWindow core start s with
    | none => s
    | some w => if w.opened then returnRest w s else s)

end Sys2Proof.Machine
end

