-- ==== Sys2Proof/Machine/Spares.lean ====
section
/-! DEFINITION. The Spare Bank's part that belongs to no chapter of its own: the units of the Coding Clusters, and the
records of a substitution (R172, R173, R371, R372). -/

namespace Sys2Proof.Machine

/-- Writes a UNIT entry to the Ledger and the fault history (R366, R372). -/
def unitNote (cls action cause lunit punit spare count : Nat) (s : State) : State :=
  unitRecord (unitEvent cls action cause lunit punit spare 0 count (unitBand cls (bandUnit cls lunit punit) s) s) s

/-- A unit becomes Suspect: FLT_STAT.SUSPECT and a UNIT entry with ACTION 2 (R380). -/
def noteSuspect (cls cause lunit punit count : Nat) (s : State) : State :=
  fltEvent FLT_STAT_SUSPECT (ledgerAdd (unitEvent cls 2 cause lunit punit 0xFFFF 0 count (unitBand cls (bandUnit cls lunit punit) s) s) s)

/-- A unit is replaced by a spare: UNIT entries with ACTION 3 and ACTION 4, FLT_STAT.SPARED and FLT_T_SPARED (R372). -/
def noteSpared (cls cause lunit punit spare count : Nat) (s : State) : State :=
  fltEvent FLT_STAT_SPARED (tally 16 FLT_T_SPARED_COUNT 1
    (unitNote cls 4 cause lunit spare spare count (unitNote cls 3 cause lunit punit spare count s)))

/-- A unit is retired and no spare remains: a UNIT entry with ACTION 5 and FLT_STAT.NO_SPARE (R372). -/
def noteNoSpare (cls cause lunit punit count : Nat) (s : State) : State :=
  fltEvent FLT_STAT_NO_SPARE (unitNote cls 5 cause lunit punit 0xFFFF count s)

/-- The physical cores below n that no logical number holds and that have not been retired: the spares (R371). -/
def sparesOf (n : Nat) (held retired : List Nat) : List Nat := (List.range n).filter (fun p => decide (p ∉ held) && decide (p ∉ retired))

/-- The spare R372 chooses for a core of a die: on the die, on the other die of its Base Die, or the lowest; per is the
number of physical cores on a die. -/
def chooseSpare (per die : Nat) (l : List Nat) : Option Nat :=
  ((l.find? (fun p => decide (p / per = die))).or (l.find? (fun p => decide (p / per / 2 = die / 2)))).or l.head?

/-- The final replies of the DIAG_SPARE commands whose spare has taken effect (R376). -/
def spareDone (cls unit : Nat) (s : State) : State :=
  (s.spareCmd.filter (fun x => decide (x.1 = cls) && decide (x.2.1 = unit))).foldl (fun s x => finishId x.2.2 stOK 0 s)
    { s with spareCmd := s.spareCmd.filter (fun x => !(decide (x.1 = cls) && decide (x.2.1 = unit))) }

/-- A DIAG_SPARE of a unit waits for its spare. -/
def spareWaits (cls unit : Nat) (s : State) : Bool := s.spareCmd.any (fun x => decide (x.1 = cls) && decide (x.2.1 = unit))

/-! ### Coding Clusters (R172, R173) -/

/-- Sets a bit of COD_STAT and raises its vector where enabled (R186). -/
def codEvent (f : Fld) (s : State) : State := event f 0 COD_EVT_MASK_MASK (f.lo - 16) COD_EVT_VEC_VEC s

/-- Shows the polar engines in service and POLAR_LOW below 16 (R175). -/
def showPolar (n : Nat) (s : State) : State :=
  let s1 := setF COD_STAT_POLAR n s
  if n < 16 then
    if flagF COD_STAT_POLAR_LOW s1 then s1 else codEvent COD_STAT_POLAR_LOW s1
  else setF COD_STAT_POLAR_LOW 0 s1

/-- Cluster m is in service. -/
def clusterIn (m : Nat) (s : State) : Bool := flagF (COD_CCm_INFO_IN_SERVICE m) s

/-- Unit u of cluster m has been retired: a lane 0 to 17, or polar engine u - 24. -/
def codRetired (m u : Nat) (s : State) : Bool := decide (m * 32 + u ∈ s.laneRetired)

/-- Retires LDPC lane u of cluster m: a spare lane takes its place, or the cluster leaves service and the Escrow
recomputes its capacity (R172, R65). -/
def retireLane (m u cause count : Nat) (s : State) : State :=
  let left := getF (COD_CCm_INFO_LANES m) s - 1
  let s1 := codEvent COD_STAT_RETIRED (setF (COD_CCm_INFO_LANES m) left { s with laneRetired := insertNat (m * 32 + u) s.laneRetired })
  if 16 ≤ left then
    noteSpared 4 cause m u (16 + (17 - left)) count (subF FLT_SPARE_LDPC 1 s1)
  else if clusterIn m s1 then
    capacityRecompute (noteNoSpare 4 cause m u count (subF COD_STAT_ACTIVE 1 (setF (COD_CCm_INFO_IN_SERVICE m) 0 s1)))
  else noteNoSpare 4 cause m u count s1

/-- Retires polar engine e of cluster m: its cluster's spare takes its place, or the pool loses an engine (R173,
R175). -/
def retirePolar (m e cause count : Nat) (s : State) : State :=
  let left := getF (COD_CCm_INFO_POLAR m) s - 1
  let s1 := codEvent COD_STAT_RETIRED (setF (COD_CCm_INFO_POLAR m) left { s with laneRetired := insertNat (m * 32 + 24 + e) s.laneRetired })
  if 4 ≤ left then noteSpared 5 cause m e 4 count (subF FLT_SPARE_POLAR 1 s1)
  else showPolar (getF COD_STAT_POLAR s1 - 1) (noteNoSpare 5 cause m e count s1)

end Sys2Proof.Machine
end

