-- ==== Sys2Proof/Machine/Radio.lean ====
section
/-! DEFINITION. The Cell class: the checks of a cell configuration, admission, the Flow Table, deletion, the cell record
and the neural receiver (R32, R66 to R69, R75, R112, R155 to R160, R179, R183, R458). -/

namespace Sys2Proof.Machine

/-! ### The configuration payload (R155 to R157) -/

/-- PRBs of the cell's numerology that one occasion of a preamble format occupies: a short format is taken at the
cell's own subcarrier spacing (PRESUMED from TS 38.211 table 6.3.3.2-1, log entry 12). -/
def prachPrbs (fmt mu : Nat) : Nat := if fmt ≤ 3 then ceilDiv (839 * (if fmt = 3 then 4 else 1)) (144 * 2 ^ mu) else 12

/-- A fixed field of R156 that differs from the configuration in force. -/
def fixedDiffers (old : Option (List Byte)) (l : List Byte) (off n : Nat) : Bool :=
  match old with
  | none => false
  | some o => decide (fieldLE o off n ≠ fieldLE l off n)

/-- The payload offsets of R155 in ascending order, each with whether its field is bad; old is the configuration in
force for a CELL_RECONFIG. -/
def cfgFieldBad (l : List Byte) (old : Option (List Byte)) (s : State) : List (Nat × Bool) :=
  let zero (o : Nat) : Nat × Bool := (o, decide (fieldLE l o 1 ≠ 0))
  [(0, decide (511 < cfgCell l)),
   (2, (cfgEcp l && decide (cfgMu l ≠ 2)) || (cfgDiq l && decide (1 < cfgMu l)) || fixedDiffers old l 2 1),
   (3, decide (32 ≤ fieldLE l 3 1) || !subPortExists (cfgLport l) s || fixedDiffers old l 3 1),
   (4, decide (cfgNprb l = 0) || decide (275 < cfgNprb l)),
   (6, decide (cfgS l = 0) || decide (32 < cfgS l) || (cfgDiq l && decide (4 < cfgS l))),
   (7, decide (cfgA l < cfgS l) || decide (64 < cfgA l) || (!cfgCatB l && decide (cfgA l ≠ cfgS l))),
   (8, decide (cfgL l = 0) || decide (16 < cfgL l)),
   (9, decide (cfgImax l = 0) || decide (16 < cfgImax l)),
   (10, decide (cfgW l < 9) || decide (16 < cfgW l)),
   zero 11,
   (12, decide (4000000 < cfgTbsUl l)),
   (16, decide (4000000 < cfgTbsDl l)),
   (28, decide (3 < cfgJobWindow l)),
   (30, decide (4096 < cfgHandles l) || fixedDiffers old l 30 2),
   (32, decide (cfgHarqSize l % 64 ≠ 0) || fixedDiffers old l 32 4),
   (36, decide (1007 < fieldLE l 36 2)),
   zero 38, zero 39,
   (40, decide (12 < fieldLE l 40 1)),
   (41, decide ((if fieldLE l 40 1 ≤ 3 then 837 else 137) < fieldLE l 41 2)),
   (43, decide (64 ≤ fieldLE l 43 1) || decide (fieldLE l 43 1 / 16 = 3)),
   (44, decide (255 < fieldLE l 44 2)),
   (46, decide (cfgNprb l < fieldLE l 46 2 + prachPrbs (fieldLE l 40 1) (cfgMu l))),
   zero 50, zero 51] ++ (List.range 72).map (fun i => zero (56 + i))

/-- An ingress eAxC that another cell not ABSENT, or a cell command accepted and not yet in effect, holds on a logical
port (R157). -/
def ingressHeld (c lport eaxc : Nat) (s : State) : Bool :=
  let holds (l : List Byte) : Bool := decide (cfgLport l = lport) &&
    (cfgFlows l).any (fun g => (decide (flowKind g = 0) || decide (flowKind g = 4)) && decide (flowEaxc g = eaxc))
  s.cells.any (fun x => decide (x.1 ≠ c) && holds x.2.cfg) ||
    s.accepted.any (fun q => (decide (q.opcode = 0x0301) || decide (q.opcode = 0x0302)) && decide (cfgCell q.payload ≠ c) && holds q.payload)

/-- Flow entry i breaks no condition of R157. -/
def flowOk (l : List Byte) (s : State) (i : Nat) : Bool :=
  let e := cfgFlow l i
  let k := flowKind e
  let before := (List.range i).map (cfgFlow l)
  if k = 6 then true
  else
    decide (flowStream e < cfgS l) && decide (flowQueue e ≠ 15) && decide (9 ≤ flowW e) && decide (flowW e ≤ 16) && (if cfgDiq l then decide (k = 4) || decide (k = 5) else decide (k < 4)) &&
    !before.any (fun g => decide (flowKind g = k) && (decide (k = 2) || decide (k = 3) || decide (flowStream g = flowStream e))) &&
    (if k = 0 ∨ k = 4 then
      !before.any (fun g => (decide (flowKind g = 0) || decide (flowKind g = 4)) && decide (flowEaxc g = flowEaxc e)) &&
        !ingressHeld (cfgCell l) (cfgLport l) (flowEaxc e) s
    else true)

/-- Every entry that R157 requires is there. -/
def flowsComplete (l : List Byte) : Bool :=
  let has (k st : Nat) : Bool := (cfgFlows l).any (fun e => decide (flowKind e = k) && (decide (k = 2) || decide (k = 3) || decide (flowStream e = st)))
  let ks := if cfgDiq l then [4, 5] else [0, 1]
  ((List.range (cfgS l)).all (fun st => ks.all (fun k => has k st))) && (cfgDiq l || (has 2 0 && has 3 0))

/-- The checks of R156 on a configuration payload: fields in ascending offset, the flow set, then the minima of R75. -/
def cfgCheck (old : Option (List Byte)) (l : List Byte) (s : State) : Option (Nat × Nat) :=
  match (cfgFieldBad l old s).find? (fun x => x.2) with
  | some x => some (badParam (32 + x.1) 0)
  | none =>
    match (List.range 80).find? (fun i => !flowOk l s i) with
    | some i => some (badParam (160 + 8 * i) 0)
    | none =>
      if !flowsComplete l then some (badParam 160 0)
      else if cfgDelivery l < minDelivery l s ∨ 4000 < cfgDelivery l then some (badParam 52 (minDelivery l s))
      else if cfgLead l < minLead l s ∨ 4000 < cfgLead l then some (badParam 56 (minLead l s))
      else none

/-! ### The states of a cell -/

/-- State code of cell c: 0 ABSENT, 1 ADMITTED, 2 DRAINING (R99). -/
def cellSt (c : Nat) (s : State) : Nat := match lookup c s.cells with
  | none => 0
  | some x => x.st

/-- The refusal for a cell's state. -/
def cellConflict (c : Nat) (s : State) : Nat × Nat := (stSTATE_CONFLICT, conflictDetail 3 c (cellSt c s))

/-- The cell a Cell-class or slot-job payload names. -/
def pCell (p : Pkt) : Nat := pf p 0 2

/-- Legal while the cell is ADMITTED (R104). -/
def chkCellAdmitted : Check := fun p s => if cellSt (pCell p) s = 1 then none else some (cellConflict (pCell p) s)

/-- Legal while the cell is ABSENT and its domain is one of TD0 to TD5 and enabled (R32, R104). -/
def chkCellCreate : Check := fun p s =>
  let td := cfgTd p.payload
  if cellSt (pCell p) s ≠ 0 then some (cellConflict (pCell p) s)
  else if 6 ≤ td ∨ ¬ flagF (AIR_TDn_CTRL_EN td) s then some (tdConflict td s)
  else none

/-- Shows cell c in ESC_CELLc_INFO (R83). -/
def showCell (c : Nat) (s : State) : State :=
  match lookup c s.cells with
  | none => setF (ESC_CELLc_INFO_DRAINING c) 0 (setF (ESC_CELLc_INFO_PORT c) 0 (setF (ESC_CELLc_INFO_MU c) 0
      (setF (ESC_CELLc_INFO_TD c) 0 (setF (ESC_CELLc_INFO_ADMITTED c) 0 s))))
  | some x => setF (ESC_CELLc_INFO_DRAINING c) (b2n (decide (x.st = 2))) (setF (ESC_CELLc_INFO_PORT c) (cfgLport x.cfg)
      (setF (ESC_CELLc_INFO_MU c) (cfgMu x.cfg) (setF (ESC_CELLc_INFO_TD c) (cfgTd x.cfg) (setF (ESC_CELLc_INFO_ADMITTED c) 1 s))))

/-- Shows the frames of the radio carve (R160, R258). -/
def showRadio (s : State) : State :=
  setF TIER_RADIO_T1 ((s.cells.map (fun c => c.2.t1Frames)).sum) (setF TIER_RADIO_T0 ((s.cells.map (fun c => c.2.t0Frames)).sum) s)

/-- Gives cell c a record, or removes it, and shows it in every register that shows cells. -/
def putCell (c : Nat) (x : Option Cell) (td lport : Nat) (s : State) : State :=
  showLedger 0 (showCredit lport (showBound td (showRadio (showCell c { s with cells := put c x s.cells }))))

/-! ### The Flow Table (R112, R134) -/

/-- KIND and DIR of FH_Ff_MAP for a flow entry's KIND. -/
def mapKind (k : Nat) : Nat := if k < 2 then 0 else if k < 4 then 1 else 2
def mapDir (k : Nat) : Nat := if k = 0 ∨ k = 4 then 0 else 1

/-- The per-flow registers and counters of an entry start at zero (R112). -/
def flowRegsZero (p f : Nat) (s : State) : State :=
  let keys := [(FH_Ff_LATE_COUNT p f).key, (FH_Ff_YELLOW_COUNT p f).key]
  let keep (k : Nat × Nat) : Bool := !decide (k.1 % 2 ^ 40 ∈ keys)
  setF (FH_Ff_BURST_PBS p f) 0 (setF (FH_Ff_BURST_CBS p f) 0 (setF (FH_Ff_RATE_PIR p f) 0 (setF (FH_Ff_RATE_CIR p f) 0
    { s with live := s.live.filter keep
             latched := s.latched.filter keep
             marker := put (p * 1024 + f) none s.marker })))

/-- Removes Flow Table entry f of engine p. -/
def flowRemove (p f : Nat) (s : State) : State :=
  setF (FH_Ff_MAP_CELL p f) 0 (setF (FH_Ff_MAP_EAXC p f) 0 (setF (FH_Ff_MAP_STREAM p f) 0 (setF (FH_Ff_MAP_W p f) 0
    (setF (FH_Ff_MAP_QUEUE p f) 0 (setF (FH_Ff_MAP_WP p f) 0 (setF (FH_Ff_MAP_DIR p f) 0 (setF (FH_Ff_MAP_KIND p f) 0
      (setF (FH_Ff_MAP_SUBPORT p f) 0 (setF (FH_Ff_MAP_VALID p f) 0 (flowRegsZero p f s))))))))))

/-- Writes Flow Table entry f of engine p. -/
def flowWrite (p f lport c e : Nat) (s : State) : State :=
  let k := flowKind e
  setF (FH_Ff_MAP_CELL p f) c (setF (FH_Ff_MAP_EAXC p f) (flowEaxc e) (setF (FH_Ff_MAP_STREAM p f) (flowStream e)
    (setF (FH_Ff_MAP_W p f) (flowW e) (setF (FH_Ff_MAP_QUEUE p f) (flowQueue e) (setF (FH_Ff_MAP_WP p f) (flowWp e)
      (setF (FH_Ff_MAP_DIR p f) (mapDir k) (setF (FH_Ff_MAP_KIND p f) (mapKind k)
        (setF (FH_Ff_MAP_SUBPORT p f) (lport % 8) (setF (FH_Ff_MAP_VALID p f) 1 s)))))))))

/-- The valid Flow Table entries of engine p. -/
def flowsValid (p : Nat) (s : State) : List Nat := (List.range 1024).filter (fun f => flagF (FH_Ff_MAP_VALID p f) s)

/-- Entry f carries the flow of a configuration's entry e: the same eAxC ID and KIND (the sub-port of a cell is
fixed). -/
def flowSame (p f e : Nat) (s : State) : Bool :=
  decide (getF (FH_Ff_MAP_EAXC p f) s = flowEaxc e) && decide (getF (FH_Ff_MAP_KIND p f) s = mapKind (flowKind e)) &&
    decide (getF (FH_Ff_MAP_DIR p f) s = mapDir (flowKind e))

/-- Places the flows es of cell c: each keeps the entry among mine that carries it already, or takes the lowest free
one with its registers at zero (R112). -/
def flowsPlace (p lport c : Nat) : List Nat → List Nat → State → State
  | [], mine, s => mine.foldl (fun s f => flowRemove p f s) s
  | e :: es, mine, s =>
    match mine.find? (fun f => flowSame p f e s) with
    | some f => flowsPlace p lport c es (mine.filter (fun g => decide (g ≠ f))) (flowWrite p f lport c e s)
    | none =>
      match (List.range 1024).find? (fun f => !flagF (FH_Ff_MAP_VALID p f) s) with
      | some f => flowsPlace p lport c es mine (flowWrite p f lport c e (flowRegsZero p f s))
      | none => flowsPlace p lport c es mine s

/-- Writes the Flow Table entries of cell c from its configuration; entries that it no longer uses are removed. -/
def flowsSet (c : Nat) (l : List Byte) (s : State) : State :=
  let p := cfgLport l / 8
  flowsPlace p (cfgLport l) c (cfgUsedFlows l) ((flowsValid p s).filter (fun f => decide (getF (FH_Ff_MAP_CELL p f) s = c))) s

/-- Removes the Flow Table entries of cell c. -/
def flowsClear (c lport : Nat) (s : State) : State :=
  ((flowsValid (lport / 8) s).filter (fun f => decide (getF (FH_Ff_MAP_CELL (lport / 8) f) s = c))).foldl (fun s f => flowRemove (lport / 8) f s) s

/-! ### Admission of the Cell class (R68, R101, R112) -/

/-- The packet holds a reservation that its acceptance made. -/
def reserved (p : Pkt) (s : State) : Bool := s.resv.any (fun r => decide (r.id = p.id))

/-- What a cell command adds: logical port, credit, frames of T0 and T1, Flow Table entries and Ledger handles. -/
structure Adds where
  lport : Nat
  credit : Credit
  t0 : Nat
  t1 : Nat
  flows : Nat
  handles : Nat
  deriving DecidableEq, Repr

/-- What CELL_CREATE adds. -/
def createAdds (p : Pkt) (s : State) : Adds :=
  let l := p.payload
  ⟨cfgLport l, cellCredit l 0 s, t0Carve l, t1Carve l 0, (cfgUsedFlows l).length, cfgHandles l⟩

/-- What accepted commands on a cell that are not yet in effect have reserved for it: credit, frames of T0 and T1, and Flow
Table entries (R68, R101). -/
def cellResv (c : Nat) (s : State) : List Resv :=
  s.resv.filter (fun r => s.accepted.any (fun q => decide (q.id = r.id) && decide (pCell q = c)))

/-- The sum of two credits. -/
def creditPlus (a b : Credit) : Credit := ⟨a.mc + b.mc, a.sc + b.sc, a.cod + b.cod, a.t1 + b.t1, a.fhIn + b.fhIn, a.fhOut + b.fhOut⟩

/-- The credit a cell holds: its own and what its waiting commands have reserved. -/
def heldCredit (c : Nat) (x : Cell) (s : State) : Credit := (cellResv c s).foldl (fun a r => creditPlus a r.credit) x.credit

/-- What CELL_RECONFIG adds to a cell. -/
def reconfigAdds (p : Pkt) (s : State) : Adds :=
  let l := p.payload
  match lookup (pCell p) s.cells with
  | none => ⟨0, creditZero, 0, 0, 0, 0⟩
  | some x => ⟨cfgLport l, creditMore (cellCredit l x.gnr s) (heldCredit (pCell p) x s),
      t0Carve l - (x.t0Frames + ((cellResv (pCell p) s).map (fun r => r.t0Frames)).sum),
      t1Carve l x.imageLen - (x.t1Frames + ((cellResv (pCell p) s).map (fun r => r.t1Frames)).sum),
      (cfgUsedFlows l).length - ((cfgUsedFlows x.cfg).length + ((cellResv (pCell p) s).map (fun r => r.flows)).sum), 0⟩

/-- The image a CELL_NEURAL names, as the posting function's host memory holds it. -/
def neuralImage (p : Pkt) (s : State) : List Byte := readBytes s.hostMem (pf p 8 8) (pf p 16 4)

/-- CELL_NEURAL's EN bit. -/
def neuralEn (p : Pkt) : Bool := bitAt 0 (pf p 2 1)

/-- G_nr of the new neural receiver, from its descriptor; 0 when it is disabled (R66, R183). -/
def neuralGnr (p : Pkt) (s : State) : Nat := if neuralEn p then Config.descriptorGnr ((neuralImage p s).take 256) else 0

/-- What CELL_NEURAL adds to a cell. -/
def neuralAdds (p : Pkt) (s : State) : Adds :=
  match lookup (pCell p) s.cells with
  | none => ⟨0, creditZero, 0, 0, 0, 0⟩
  | some x => ⟨cfgLport x.cfg, creditMore (cellCredit x.cfg (neuralGnr p s) s) (heldCredit (pCell p) x s), 0,
      t1Carve x.cfg (if neuralEn p then pf p 16 4 else 0) - (x.t1Frames + ((cellResv (pCell p) s).map (fun r => r.t1Frames)).sum), 0, 0⟩

/-- The admission of what a command adds, unless its acceptance reserved it (R68). -/
def admitAdds (adds : Pkt → State → Adds) : Check := fun p s =>
  if reserved p s then none
  else
    let a := adds p s
    if a = ⟨a.lport, creditZero, 0, 0, 0, a.handles⟩ ∧ a.handles = 0 then none else admitCell a.lport a.credit a.t0 a.t1 a.flows a.handles s

/-- Two checks, one after the other. -/
def andThen (a b : Check) : Check := fun p s => (a p s).or (b p s)

/-- Keeps what an accepted command will add until its effect (R101, R112). -/
def reserve (adds : Pkt → State → Adds) (p : Pkt) (s : State) : State :=
  let a := adds p s
  showCredit a.lport { s with resv := s.resv ++ [⟨p.id, a.lport, a.credit, a.t0, a.t1, a.flows⟩] }

/-- Gives back what a command reserved. -/
def unreserve (p : Pkt) (s : State) : State :=
  match s.resv.find? (fun r => decide (r.id = p.id)) with
  | none => s
  | some r => showCredit r.lport { s with resv := s.resv.filter (fun r => decide (r.id ≠ p.id)) }

/-- A Cell-class command at its effect: its reservation ends with it (R100). -/
def runCell (chk : Check) (eff : Effect) (p : Pkt) (s : State) : State :=
  if ready p s then unreserve p (runCmd chk eff p s) else s

/-! ### CELL_CREATE, CELL_RECONFIG, CELL_DELETE, CELL_QUERY -/

/-- The start of the earliest slot at or after t. -/
def slotFrom (mu : Nat) (ecp : Bool) (t : Nat) : Nat := if slotStart mu ecp t then t else nextSlot mu ecp t

/-- The cell's first slot: the earliest slot all of whose windows, which start with their stage intervals at the
earliest, have their planning points at or after the effect (R458, DEDUCED, log entry 13). -/
def firstSlotOf (l : List Byte) (eff : Nat) (s : State) : Nat :=
  let mu := cfgMu l
  let ecp := cfgEcp l
  let b := slotFrom mu ecp eff + usToTc (slotUs mu + getF ESC_CTRL_RELEASE_US s)
  let dl := slotFrom mu ecp (b + usToTc (slotUs mu) + wpMax l [1, 5] FH_WPk_T1A_MAX_UP_T1A_x s + usToTc 10)
  let y := ((b : Int) - tIn l s).toNat
  let ul := slotFloor mu ecp (slotFrom mu ecp y - 1)
  max dl ul

/-- The lowest stack in service of a Base Die, for a Cell Context copy (R179; which of its stacks is a DESIGN CHOICE,
log entry 14). -/
def stackOn (bd : Nat) (s : State) : Nat :=
  match [3 * bd, 3 * bd + 1, 3 * bd + 2].find? (fun k => decide (k ∉ s.stacksOut)) with
  | some k => k
  | none => 3 * bd

/-- The air time at which a command takes effect: its AT, or now for a command without one (R69). -/
def effectTime (p : Pkt) (td : Nat) (s : State) : Nat := if p.at_ = 0 then counter td s else p.at_

/-- CELL_CREATE's effect: the cell is ADMITTED with its credit, carve, flows and Cell Context copies (R68, R69, R112,
R160, R179). -/
def effCellCreate : Effect := fun p s =>
  let l := p.payload.take 768
  let c := cfgCell l
  let bd := cfgLport l / 8
  let x : Cell := ⟨1, l, false, 0, 0, false, 0, 0, 0, cellCredit l 0 s, t0Carve l, t1Carve l 0, firstSlotOf l (effectTime p (cfgTd l) s) s,
    stackOn bd s, stackOn ((bd + 2) % 4) s, true, true, false, []⟩
  (flowsSet c l (tallyCellJoin c (cfgTd l) (putCell c (some x) (cfgTd l) (cfgLport l) s)), stOK, 0)

/-- CELL_RECONFIG's effect: the configuration, credit, carve and flows change (R68, R112). -/
def effCellReconfig : Effect := fun p s =>
  match lookup (pCell p) s.cells with
  | none => (s, (cellConflict (pCell p) s))
  | some x =>
    let l := p.payload.take 768
    let y := { x with cfg := l, credit := cellCredit l x.gnr s, t0Frames := t0Carve l, t1Frames := t1Carve l x.imageLen }
    (flowsSet (pCell p) l (putCell (pCell p) (some y) (cfgTd l) (cfgLport l) s), stOK, 0)

/-- CELL_DELETE's effect: the cell is DRAINING; its final reply comes when it is ABSENT (R69, R104). -/
def effCellDelete (p : Pkt) (s : State) : State :=
  match lookup (pCell p) s.cells with
  | none => s
  | some x => putCell (pCell p) (some { x with st := 2 }) (cfgTd x.cfg) (cfgLport x.cfg) s

/-- The 832-byte cell record (R159). -/
def cellRecord (c : Nat) (s : State) : List Byte :=
  match lookup c s.cells with
  | none => padTo 832 (natLE 2 c ++ natLE 1 0)
  | some x =>
    padTo 832 (natLE 2 c ++ natLE 1 x.st ++ natLE 1 (b2n x.neural) ++ natLE 4 x.fpUs ++ natLE 4 (minDelivery x.cfg s) ++
      natLE 4 (minLead x.cfg s) ++ natLE 8 x.credit.mc ++ natLE 8 x.credit.sc ++ natLE 8 x.credit.cod ++ natLE 8 x.credit.t1 ++
      natLE 4 x.credit.fhIn ++ natLE 4 x.credit.fhOut ++ natLE 8 x.firstSlot ++ padTo 768 x.cfg)

/-- CELL_QUERY's effect. -/
def effCellQuery : Effect := writeRecord (fun p => pf p 4 8) (fun p s => cellRecord (pCell p) s)

/-- A payload that names a cell alone: CELL at most 511, bytes 2 and 3 zero (R159). -/
def cellNameCheck (p : Pkt) : Option (Nat × Nat) :=
  if 511 < pCell p then some (badParam 32 0)
  else if pf p 2 1 ≠ 0 then some (badParam 34 0)
  else if pf p 3 1 ≠ 0 then some (badParam 35 0)
  else none

/-- CELL_NEURAL's payload checks (R183): FP_US before the image. -/
def neuralCheck (p : Pkt) (s : State) : Option (Nat × Nat) :=
  if 511 < pCell p then some (badParam 32 0)
  else
    match lookup (pCell p) s.cells with
    | none => none
    | some x =>
      if !neuralEn p then none
      else if pf p 4 4 < fpMin x.cfg s then some (badParam 36 (fpMin x.cfg s))
      else if cfgDelivery x.cfg < pf p 4 4 + slotUs (cfgMu x.cfg) + 20 then some (badParam 36 (cfgDelivery x.cfg - slotUs (cfgMu x.cfg) - 20))
      else if 268435456 < pf p 16 4 then some (badParam 48 268435456)
      else if !mayMaster p.func s then some (stITEM_FAILED, 0)
      else if crc32c (neuralImage p s) ≠ pf p 20 4 then some (badParam 52 0)
      else none

/-- CELL_NEURAL's effect: the model, its Fallback Point, credit and carve (R183). -/
def effCellNeural : Effect := fun p s =>
  match lookup (pCell p) s.cells with
  | none => (s, (cellConflict (pCell p) s))
  | some x =>
    let len := if neuralEn p then pf p 16 4 else 0
    let g := neuralGnr p s
    let y := { x with neural := neuralEn p, fpUs := (if neuralEn p then pf p 4 4 else 0), imageLen := len, gnr := g,
                      neuralFrom := firstSlotOf x.cfg (effectTime p (cfgTd x.cfg) s) s, neuralWas := x.neural, fpWas := x.fpUs,
                      credit := cellCredit x.cfg g s, t1Frames := t1Carve x.cfg len }
    (putCell (pCell p) (some y) (cfgTd x.cfg) (cfgLport x.cfg) s, stOK, 0)

/-- CELL_CREATE (R68). -/
def execCellCreate (p : Pkt) (s : State) : Host.Outcome State Fault Refusal :=
  goesOn s (runCell (andThen chkCellCreate (andThen secBusy (admitAdds createAdds))) effCellCreate p s)

/-- CELL_RECONFIG (R68). -/
def execCellReconfig (p : Pkt) (s : State) : Host.Outcome State Fault Refusal :=
  goesOn s (runCell (andThen chkCellAdmitted (admitAdds reconfigAdds)) effCellReconfig p s)

/-- CELL_DELETE (R69). -/
def execCellDelete (p : Pkt) (s : State) : Host.Outcome State Fault Refusal := goesOn s (runCmdOpen chkCellAdmitted effCellDelete p s)

/-- CELL_QUERY (R159). -/
def execCellQuery (p : Pkt) (s : State) : Host.Outcome State Fault Refusal := goesOn s (runCmd anyState effCellQuery p s)

/-- CELL_NEURAL (R183). -/
def execCellNeural (p : Pkt) (s : State) : Host.Outcome State Fault Refusal :=
  goesOn s (runCell (andThen chkCellAdmitted (admitAdds neuralAdds)) effCellNeural p s)

/-- The CELL_DELETE whose final reply the end of draining brings. -/
def deletePkt (c : Nat) (s : State) : Option Pkt :=
  s.accepted.find? (fun q => decide (q.opcode = 0x0303) && decide (pCell q = c))

/-- CELL_DRAIN_END (R69): after the last window of the last slot that holds an accepted job, a DRAINING cell becomes
ABSENT; its credit, carve and flows are returned and the CELL_DELETE gets its final reply. -/
def execCellDrainEnd (c : Fin 512) (s : State) : Host.Outcome State Fault Refusal :=
  goesOn s (match lookup c.val s.cells with
    | none => s
    | some x =>
      if x.st = 2 ∧ ¬ s.jobs.any (fun j => decide (j.cell = c.val)) ∧ ¬ s.windows.any (fun w => decide (w.cell = c.val)) then
        let s1 := flowsClear c (cfgLport x.cfg) { s with
          soft := s.soft.filter (fun k => decide (k.1 / 2 ^ 38 ≠ c.val))
          slotBuf := s.slotBuf.filter (fun d => decide (d.cell ≠ c.val)) }
        let s2 := putCell c none (cfgTd x.cfg) (cfgLport x.cfg) (tallyCellLeave c s1)
        match deletePkt c s2 with
        | none => s2
        | some p => finish p stOK 0 s2
      else s)

end Sys2Proof.Machine
end

