-- ==== Sys2Proof/Machine/Slots.lean ====
section
/-! DEFINITION. Slot jobs from acceptance to delivery, the Coding Clusters, the HARQ soft buffers and the twin copies of
Cell Contexts (R75 to R77, R81, R82, R162 to R182). -/

namespace Sys2Proof.Machine

/-! ### Code blocks of a transport block (TS 38.212, R168, R177) -/

/-- Base graph of a transport block of a size in bits and a rate × 1,024 (PRESUMED from TS 38.212 7.2.2, log entry 12). -/
def baseGraph (tbs rate : Nat) : Nat :=
  if tbs ≤ 292 ∨ (tbs ≤ 3824 ∧ rate * 100 ≤ 67 * 1024) ∨ rate * 4 ≤ 1024 then 2 else 1

/-- The 51 lifting sizes of TS 38.212 table 5.3.2-1, in ascending order. -/
def liftingSizes : List Nat :=
  [2, 3, 4, 5, 6, 7, 8, 9, 10, 11, 12, 13, 14, 15, 16, 18, 20, 22, 24, 26, 28, 30, 32, 36, 40, 44, 48, 52, 56, 60, 64, 72,
   80, 88, 96, 104, 112, 120, 128, 144, 160, 176, 192, 208, 224, 240, 256, 288, 320, 352, 384]

/-- Number of code blocks, lifting size and circular-buffer length of a transport block (TS 38.212 5.1, 5.2.2, 5.4.2),
not shortened by LBRM. -/
def cbOf (tbs rate : Nat) : CbParams :=
  let bg := baseGraph tbs rate
  let b := tbs + (if 3824 < tbs then 24 else 16)
  let kcb := if bg = 1 then 8448 else 3840
  let c := if b ≤ kcb then 1 else ceilDiv b (kcb - 24)
  let k := if c = 1 then b else ceilDiv (b + c * 24) c
  let kb := if bg = 1 then 22 else if 640 < b then 10 else if 560 < b then 9 else if 192 < b then 8 else 6
  let z := (liftingSizes.find? (fun z => decide (k ≤ kb * z))).getD 384
  ⟨c, z, bg, (if bg = 1 then 66 else 50) * z⟩

/-- Bytes of the soft buffer of a transport block: the header and C regions (R177). -/
def softBytes (x : CbParams) : Nat := 64 + x.c * (ceilDiv (x.ncb * 6) 512 * 64)

/-! ### Slot-job checks (R75, R76, R166 to R168, R175, R458) -/

/-- The allocation types a direction carries (DEDUCED, log entry 15). -/
def typesOf (ul : Bool) : List Nat := if ul then [1, 2, 7] else [3, 4, 5, 6]

/-- The packet is an uplink slot job. -/
def jobUl (p : Pkt) : Bool := decide (p.opcode = 0x0401)

/-- The bad field of one allocation entry, as its offset in the entry, or none. -/
def allocBad (c : Cell) (a : List Byte) (ul : Bool) (bitsBefore : Nat) : Option Nat :=
  let l := c.cfg
  let bits := bitsBefore + alTbs a
  let coded := alType a = 1 ∨ alType a = 3
  if alType a ∉ typesOf ul then some 0
  else if cfgNprb l < alPrbStart a + alPrbNum a then some 4
  else if alLayers a = 0 ∨ cfgL l < alLayers a then some 9
  else if alQm a ∉ [1, 2, 4, 6, 8, 10] then some 10
  else if alType a = 1 ∧ cfgHandles l ≤ alHandle a then some 14
  else if coded ∧ (if ul then cfgTbsUl l else cfgTbsDl l) < bits then some 16
  else if alType a = 1 ∧ cfgHarqSize l < softBytes (cbOf (alTbs a) (fieldLE a 12 2)) then some 16
  else none

/-- The first bad field of the allocations from entry k on: its payload offset. -/
def allocsBad (c : Cell) (ul : Bool) : List (List Byte) → Nat → Nat → Option Nat
  | [], _, _ => none
  | a :: r, k, bitsBefore =>
    match allocBad c a ul bitsBefore with
    | some o => some (64 + 32 * k + o)
    | none => allocsBad c ul r (k + 1) (bitsBefore + (if alType a = 1 ∨ alType a = 3 then alTbs a else 0))

/-- A job of the same cell, direction and slot is accepted already. -/
def jobHeld (p : Pkt) (s : State) : Bool :=
  s.jobs.any (fun j => decide (j.cell = jobCell p.payload) && decide (j.slot = jobSlot p.payload) && decide (j.ul = jobUl p)) ||
    s.accepted.any (fun q => decide (q.id ≠ p.id) && decide (q.opcode = p.opcode) && decide (jobCell q.payload = jobCell p.payload) &&
      decide (jobSlot q.payload = jobSlot p.payload))

/-- The payload checks of a slot job: N_ALLOC, the length, then the fields in ascending offset. -/
def slotCheck : Check := fun p s =>
  let l := p.payload
  let n := jobCount l
  if 511 < jobCell l then some (badParam 32 0)
  else if n = 0 ∨ 123 < n then some (badParam 34 0)
  else if l.length ≠ 64 + 32 * n then
    let m := 64 + 32 * n + (if p.pcrc then 4 else 0)
    some (stBAD_LENGTH, m + m * 65536)
  else
    match lookup (jobCell l) s.cells with
    | none => none
    | some c =>
      let slot := jobSlot l
      let al := jobAllocs l
      let polar := (al.filter (fun a => decide (alType a ∈ (if jobUl p then [2] else [4, 5])))).length
      if (if jobUl p then 4 else 8) < polar then some (badParam 34 0)
      else if ¬ slotStart (cfgMu c.cfg) (cfgEcp c.cfg) slot ∨ slot < c.firstSlot ∨ p.acceptAt + usToTc 40000 < slot ∨ jobHeld p s then
        some (badParam 40 0)
      else
        match allocsBad c (jobUl p) al 0 0 with
        | some o => some (badParam (32 + o) 0)
        | none => none

/-- The air time by which a slot job must be accepted: slot start − Lead Time (R76). -/
def jobBy (c : Cell) (slot : Nat) : Int := (slot : Int) - (usToTc (cfgLead c.cfg) : Int)

/-- The Lead Time rule: LATE with how much too late the job was read (R76, R96). -/
def slotLate : Check := fun p s =>
  match lookup (jobCell p.payload) s.cells with
  | none => none
  | some c =>
    let d := (p.acceptAt : Int) - jobBy c (jobSlot p.payload)
    if 0 < d then some (stLATE, d.toNat) else none

/-- Counts a slot job answered LATE (R76, R83). -/
def countLate (c : Nat) (s : State) : State := tally 2 ESC_T_LATEJOB_COUNT 1 (tally (128 + c) (ESC_CELLc_LATEJOB_COUNT c) 1 s)

/-- No unit is concerned (R365). -/
def noUnit : FaultUnit := ⟨0xFFFF, 0xFFFF, 0, false⟩

/-- The outcome of an allocation as a job starts: types without a code block have nothing to decode. -/
def allocStart (a : List Byte) : AllocRes :=
  ⟨0, false, false, false, 0, 0, 0, [], decide (alType a = 6) || decide (alType a = 7), 0, false, noUnit⟩

/-- A slot job is accepted: the Escrow holds it (R101, R164). -/
def jobAdd (p : Pkt) (s : State) : State :=
  if s.jobs.any (fun j => decide (j.pkt.id = p.id)) then s
  else
    let l := p.payload
    showLedger 0 { s with jobs := s.jobs ++ [⟨p, jobCell l, jobUl p, jobSlot l, false, false, false, none, false, false, false, false, 0, 0,
      (jobAllocs l).map allocStart, []⟩] }

/-- SLOT_UL (R166): an accepted uplink job is held until its delivery. -/
def execSlotUl (p : Pkt) (s : State) : Host.Outcome State Fault Refusal := goesOn s (runCmdOpen chkCellAdmitted jobAdd p s)

/-- SLOT_DL (R166): an accepted downlink job is held until its last message has left. -/
def execSlotDl (p : Pkt) (s : State) : Host.Outcome State Fault Refusal := goesOn s (runCmdOpen chkCellAdmitted jobAdd p s)

/-! ### Jobs -/

/-- The job of a cell, direction and slot. -/
def findJob (c slot : Nat) (ul : Bool) (s : State) : Option Job :=
  s.jobs.find? (fun j => decide (j.cell = c) && decide (j.slot = slot) && decide (j.ul = ul))

/-- Changes the job of a cell, direction and slot. -/
def modJob (c slot : Nat) (ul : Bool) (f : Job → Job) (s : State) : State :=
  { s with jobs := s.jobs.map (fun j => if j.cell = c ∧ j.slot = slot ∧ j.ul = ul then f j else j) }

/-- Changes the outcome of allocation k of a job. -/
def modAlloc (k : Nat) (f : AllocRes → AllocRes) (j : Job) : Job := { j with res := j.res.modify k f }

/-- An allocation ends FAILED (R169) with a CAUSE (R367), on the unit concerned. -/
def allocFail (cause : Nat) (retried : Bool) (u : FaultUnit) (r : AllocRes) : AllocRes :=
  if r.done ∧ r.status ≠ 0 then r else { r with status := 1, done := true, cause := cause, retried := retried, unit := u }

/-- The reads of a downlink job's host buffers that R435 keeps from being issued: each allocation that needs its payload ends
FAILED (R438). -/
def fetchStopped (c slot : Nat) (s : State) : State :=
  match findJob c slot false s with
  | none => s
  | some j => ((List.range j.res.length).filter (fun k => (j.res[k]?).any (fun r => !r.done))).foldl
      (fun s k => readFails 0 (modJob c slot false (modAlloc k (allocFail 0 false noUnit)) s)) s

/-- SLOT_JOB_PLAN (R164): the Escrow takes an accepted job into its plan at a sweep tick of the cell's job window, and
the device fetches the job's host buffers. -/
def execSlotJobPlan (c : Fin 512) (ul : Bool) (slot : Nat) (s : State) : Host.Outcome State Fault Refusal :=
  goesOn s (let s1 := if ul ∨ mayMaster 0 s ∨ (findJob c slot ul s).all (fun j => j.planned) then s else fetchStopped c slot s
    modJob c slot ul (fun j => { j with planned := true, fetched := true }) s1)

/-- Air time of the end of a cell's slot. -/
def slotEndOf (c : Cell) (slot : Nat) : Nat := nextSlot (cfgMu c.cfg) (cfgEcp c.cfg) slot

/-- RX_PATH of an uplink job at its Fallback Point (R81, R82). -/
def rxPathOf (c : Cell) (j : Job) : Nat :=
  if !neuralIn c j.slot then 0 else if j.neuralFailed then 4 else if !j.neuralDone then 2 else if j.neuralInvalid then 3 else 1

/-- Counts the choice of the deadline monitor (R82). -/
def countPath (c path : Nat) (s : State) : State :=
  if path = 0 then s else if path = 1 then tally (128 + c) (ESC_CELLc_NEURAL_COUNT c) 1 s
  else tally (128 + c) (ESC_CELLc_FALLBACK_COUNT c) 1 s

/-- FALLBACK_POINT (R81, R82): FP after the slot's end the deadline monitor chooses between the neural and the
classical result; unfinished neural work is abandoned and the rest of its windows returned (R73). -/
def execFallbackPoint (c : Fin 512) (slot : Nat) (s : State) : Host.Outcome State Fault Refusal :=
  goesOn s (match lookup c.val s.cells, findJob c slot true s with
    | some x, some j =>
      if j.planned ∧ j.rxPath.isNone ∧ slotEndOf x slot + usToTc (cellFp x slot s) ≤ counter (cfgTd x.cfg) s then
        let path := rxPathOf x j
        let s1 := countPath c path (modJob c slot true (fun j => { j with rxPath := some path }) s)
        if path = 2 then
          (s1.windows.filter (fun w => decide (w.cell = c.val) && decide (w.slot = slot) && w.neural && w.opened)).foldl (fun s w => returnRest w s) s1
        else s1
      else s
    | _, _ => s)

/-! ### Code blocks (R162, R170 to R178) -/

/-- The interval in which a job's code blocks run, in Tc of the cell's domain: decode from the Fallback Point, encode
as R165 gives it. -/
def codeInterval (x : Cell) (j : Job) (s : State) : Int × Int :=
  let ts : Int := usToTc (slotUs (cfgMu x.cfg))
  if j.ul then
    let b : Int := slotEndOf x j.slot + usToTc (cellFp x j.slot s)
    (b, b + ts)
  else
    let tr : Int := (j.slot : Int) - (wpMax x.cfg [1, 5] FH_WPk_T1A_MAX_UP_T1A_x s : Int) - (usToTc 10 : Int)
    (tr - 2 * ts, tr - ts)

/-- A job's code blocks may be dispatched: it is in the plan and its interval has begun. -/
def codeReady (x : Cell) (j : Job) (s : State) : Bool :=
  j.planned && (!j.ul || j.rxPath.isSome) && decide ((codeInterval x j s).1 ≤ (counter (cfgTd x.cfg) s : Int))

/-- A code block of an allocation is in hand. -/
def inHand (j : Job) (k : Nat) (s : State) : Bool :=
  s.code.any (fun w => decide (w.cell = j.cell) && decide (w.slot = j.slot) && decide (w.ul = j.ul) && decide (w.alloc = k))

/-- A job has a coded allocation of which no code block has been dispatched. -/
def codeWaits (j : Job) (s : State) : Bool :=
  (List.range j.res.length).any (fun k => match j.res[k]? with
    | some r => !r.done && decide (r.iters = 0) && (let t := alType (jobAlloc j.pkt.payload k); decide (t = 1) || decide (t = 3)) && !inHand j k s
    | none => false)

/-- Another ready job's interval ends earlier and waits: it is served first (R162).  Ends are compared as time left on
each cell's own domain. -/
def servedFirst (x : Cell) (j : Job) (s : State) : Bool :=
  let left (y : Cell) (k : Job) : Int := (codeInterval y k s).2 - (counter (cfgTd y.cfg) s : Int)
  s.jobs.any (fun k => decide (k.pkt.id ≠ j.pkt.id) && (match lookup k.cell s.cells with
    | none => false
    | some y => codeReady y k s && codeWaits k s && decide (left y k < left x j)))

/-- CODE_BLOCK_DISPATCH (R162): a Control Processor gives a code block of a planned job to a Coding Cluster in service,
earliest interval end first. -/
def execCodeBlockDispatch (m : Fin 8) (c : Fin 512) (slot : Nat) (ul : Bool) (alloc cb : Nat) (s : State) :
    Host.Outcome State Fault Refusal :=
  goesOn s (match lookup c.val s.cells, findJob c slot ul s with
    | some x, some j =>
      let w : CodeWork := ⟨m, c, slot, ul, alloc, cb, false⟩
      let free := (j.res[alloc]?).any (fun r => !r.done) && !s.code.any (fun v => decide (v = { w with cluster := v.cluster, retried := v.retried }))
      if clusterIn m s ∧ issues s ∧ codeReady x j s ∧ free ∧ ¬ servedFirst x j s then { s with code := s.code ++ [w] } else s
    | _, _ => s)

/-- Compression of an LLR to a 6-bit code (R176). -/
def llrCode (l : Int) : Nat :=
  let m := l.natAbs
  (if l < 0 then 32 else 0) + (if m < 16 then m else 16 + (m - 16) / 7)

/-- Decompression of a 6-bit code; s = 1 with q = 0 reads as 0 (R176). -/
def codeLlr (c : Nat) : Int :=
  let q := c % 32
  let m : Int := if q < 16 then q else 16 + 7 * (q - 16) + 3
  if 32 ≤ c % 64 then -m else m

/-- Saturation to 127 in magnitude. -/
def sat127 (x : Int) : Int := clampInt (-127) 127 x

/-- Key of the code of a position of a code block of handle h of cell c. -/
def softKey (c h cb pos : Nat) : Nat := ((c * 8192 + h) * 1024 + cb) * 32768 + pos

/-- The handle header of a cell, empty when it holds no data. -/
def handleOf (x : Cell) (h : Nat) : Handle := look ⟨0, 0, false, 0, 0, 0, 0, 0, 0⟩ h x.handles

/-- A handle's header differs from the transport block that names it (R178). -/
def handleMismatch (hd : Handle) (tbs : Nat) (q : CbParams) : Bool :=
  !(decide (hd.tbs = tbs) && decide (hd.c = q.c) && decide (hd.zc = q.zc) && decide (hd.bg = q.bg) && decide (hd.ncb = q.ncb))

/-- The stored codes count as zero: NEW data, an empty handle, a lost one, or a mismatch (R178, R182). -/
def softZero (hd : Handle) (new : Bool) (tbs : Nat) (q : CbParams) : Bool :=
  new || decide (hd.gen = 0) || hd.lost || handleMismatch hd tbs q

/-- HARQ combining of one code block: received LLRs are added to the stored ones and both twin copies written (R178). -/
def harqCombine (c h cb : Nat) (zero : Bool) (rx : List (Nat × Int)) (s : State) : State :=
  let base := if zero then s.soft.filter (fun k => decide (k.1 / 32768 ≠ (c * 8192 + h) * 1024 + cb)) else s.soft
  { s with soft := rx.foldl (fun m p =>
      let v := llrCode (sat127 (codeLlr (look 0 (softKey c h cb p.1) m) + p.2))
      put (softKey c h cb p.1) (if v = 0 then none else some v) m) base }

/-- GEN + 1, 0 skipped on wrap (R178). -/
def genNext (g : Nat) : Nat := if g = 65535 then 1 else g + 1

/-- The updated handle header (R178): NEW clears LOST (R182). -/
def handleAfter (hd : Handle) (rnti : Nat) (new zero : Bool) (tbs : Nat) (q : CbParams) : Handle :=
  ⟨rnti, genNext hd.gen, hd.lost && !new, if zero then 1 else min 255 (hd.rounds + 1), q.c, tbs, q.zc, q.bg, q.ncb⟩

/-- Writes a cell's handle header. -/
def setHandle (c h : Nat) (hd : Handle) (s : State) : State :=
  match lookup c s.cells with
  | none => s
  | some x => { s with cells := put c (some { x with handles := put h (some hd) x.handles }) s.cells }

/-! ### Twin copies (R179 to R182) -/

/-- Shows the cells with a rebuild in progress (R181, R186). -/
def showRebuild (s : State) : State :=
  let n := (s.cells.filter (fun c => c.2.rebuilding)).length
  let s1 := setF COD_REBUILD_CELLS n s
  if 0 < n then (if flagF COD_STAT_REBUILD s1 then s1 else codEvent COD_STAT_REBUILD s1) else setF COD_STAT_REBUILD 0 s1

/-- One HANDLE entry for a lost handle (R182, R366). -/
def handleEntry (c : Nat) (x : Cell) (h : Nat) (hd : Handle) (s : State) : LedgerEvent :=
  { kind := 3, flags := 0, status := stCONTEXT_LOST, seq := 0, func := 0, part := 0xF0, cause := 0x43, td := cfgTd x.cfg, band := 0,
    at_ := counter (cfgTd x.cfg) s, lunit := 0xFFFF, punit := 0xFFFF, object := c,
    body := natLE 2 h ++ natLE 2 hd.rnti ++ natLE 2 hd.gen ++ natLE 1 x.stackA ++ natLE 1 x.stackB }

/-- Handles of cell c are lost: each with GEN not zero gets LOST and a Ledger entry, in ascending order, and its codes
are gone (R182). -/
def loseHandles (c : Nat) (which : Nat → Bool) (s : State) : State :=
  match lookup c s.cells with
  | none => s
  | some x =>
    let hs := x.handles.filter (fun h => decide (h.2.gen ≠ 0) && which h.1)
    let s1 := hs.foldl (fun s h => tally 5 COD_CTX_LOST_COUNT 1 (ledgerAdd (handleEntry c x h.1 h.2 s) s)) s
    let y := { x with handles := x.handles.map (fun h => (h.1, if h.2.gen ≠ 0 ∧ which h.1 then { h.2 with lost := true } else h.2)) }
    let s2 := { s1 with
      cells := put c (some y) s1.cells
      soft := s1.soft.filter (fun k => !(decide (k.1 / 2 ^ 38 = c) && which (k.1 / 2 ^ 25 % 8192))) }
    if hs.isEmpty then s2 else codEvent COD_STAT_CTX_LOST s2

/-- The only readable copy of cell c's context has failed: the cell stays ADMITTED, its handles are lost, and two
healthy copies are placed anew (R182). -/
def contextLoss (c : Nat) (s : State) : State :=
  match lookup c s.cells with
  | none => s
  | some x =>
    let s1 := loseHandles c (fun _ => true) s
    let bd := cfgLport x.cfg / 8
    match lookup c s1.cells with
    | none => s1
    | some y => showRebuild { s1 with cells := put c (some { y with stackA := stackOn bd s1, stackB := stackOn ((bd + 2) % 4) s1, okA := true, okB := true, rebuilding := false }) s1.cells }

/-- A stack that holds a copy of cell c leaves service: the copy is rebuilt on a Base Die other than the survivor's, or
the context is lost when no other copy is readable (R181, R182). -/
def copyLost (c stack : Nat) (s : State) : State :=
  match lookup c s.cells with
  | none => s
  | some x =>
    if x.stackA = stack ∧ x.okA then
      if x.okB then
        let bd := ([0, 1, 2, 3].find? (fun b => decide (b ≠ x.stackB / 3) && [3 * b, 3 * b + 1, 3 * b + 2].any (fun k => decide (k ∉ s.stacksOut)))).getD 0
        showRebuild { s with cells := put c (some { x with stackA := stackOn bd s, okA := false, rebuilding := true }) s.cells }
      else contextLoss c s
    else if x.stackB = stack ∧ x.okB then
      if x.okA then
        let bd := ([0, 1, 2, 3].find? (fun b => decide (b ≠ x.stackA / 3) && [3 * b, 3 * b + 1, 3 * b + 2].any (fun k => decide (k ∉ s.stacksOut)))).getD 0
        showRebuild { s with cells := put c (some { x with stackB := stackOn bd s, okB := false, rebuilding := true }) s.cells }
      else contextLoss c s
    else s

/-- Line reads of a cell's context find lines of a handle, or of the header and channel state, uncorrectable in copy A or
copy B.  Reads come from copy A, or from the survivor; a line bad in copy A alone is repaired from copy B, and one that
no copy gives loses its handle, or the context (R180, R182). -/
def twinRead (c : Nat) (h : Option Nat) (badA badB : Bool) (s : State) : State :=
  match lookup c s.cells with
  | none => s
  | some x =>
    let bad := if x.okA then badA else badB
    if !bad then s
    else if x.okA && x.okB && !badB then codEvent COD_STAT_TWIN_REPAIR (tally 5 COD_TWIN_REPAIR_COUNT 1 s)
    else match h with
      | some h => loseHandles c (fun k => decide (k = h)) s
      | none => contextLoss c s

/-- The work of a code block in hand. -/
def findWork (m c slot : Nat) (ul : Bool) (alloc cb : Nat) (s : State) : Option CodeWork :=
  s.code.find? (fun w => decide (w.cluster = m) && decide (w.cell = c) && decide (w.slot = slot) && decide (w.ul = ul) &&
    decide (w.alloc = alloc) && decide (w.cb = cb))

/-- An uplink code block ends: soft combining, then the counts and the allocation's outcome (R170, R178, R182). -/
def decodeDone (x : Cell) (j : Job) (r : CbDone) (s : State) : State :=
  let a := jobAlloc j.pkt.payload r.alloc
  let h := alHandle a
  let hd := handleOf x h
  let zero := softZero hd (alNew a) (alTbs a) r.params
  let lost := hd.lost && !alNew a
  let mism := !alNew a && decide (hd.gen ≠ 0) && !hd.lost && handleMismatch hd (alTbs a) r.params
  let s1 := if alType a = 1 then harqCombine r.cell h r.cb zero r.rx s else s
  let s2 := tally1024 5 (COD_CCm_ITER_COUNT r.cluster) r.iters (tally 5 (COD_CCm_DEC_CB_COUNT r.cluster) 1 s1)
  let s3 := if r.crcOk then s2 else tally 5 (COD_CCm_CB_FAIL_COUNT r.cluster) 1 s2
  let s4 := if r.last ∧ alType a = 1 then setHandle r.cell h (handleAfter hd (alRnti a) (alNew a) zero (alTbs a) r.params) s3 else s3
  modJob r.cell r.slot true (modAlloc r.alloc (fun y =>
    let y1 := { y with iters := max y.iters (min 255 r.iters), cbFail := min 255 (y.cbFail + b2n (!r.crcOk)), mismatch := y.mismatch || mism }
    if r.last ∧ ¬ y1.done then
      { y1 with done := true, crcOk := r.tbOk, payload := r.payload, status := if lost then 2 else 0, cause := 0 }
    else y1)) s4

/-- The LDPC lanes of cluster m that DIAG_SPARE has named are replaced at a code-block boundary (R371, R376). -/
def laneSpares (m : Nat) (s : State) : State :=
  (s.spareCmd.filter (fun x => decide (x.1 = 4) && decide (x.2.1 / 32 = m))).foldl (fun s x => spareDone 4 x.2.1 (retireLane m (x.2.1 % 32) 0x30 0 s)) s

/-- CODE_BLOCK_DONE (R170): a Coding Cluster ends the decode or encode of one code block. -/
def execCodeBlockDone (r : CbDone) (s : State) : Host.Outcome State Fault Refusal :=
  goesOn s (if !issues s then s else laneSpares r.cluster (match findWork r.cluster r.cell r.slot r.ul r.alloc r.cb s, lookup r.cell s.cells, findJob r.cell r.slot r.ul s with
    | some w, some x, some j =>
      let s1 := { s with code := s.code.filter (fun v => decide (v ≠ w)) }
      if r.ul then
        let a := jobAlloc j.pkt.payload r.alloc
        let s2 := if alType a = 1 then twinRead r.cell (some (alHandle a)) r.badA r.badB s1 else s1
        decodeDone ((lookup r.cell s2.cells).getD x) j r s2
      else
        let s2 := tally 5 (COD_CCm_ENC_CB_COUNT r.cluster) 1 s1
        if r.last then modJob r.cell r.slot false (modAlloc r.alloc (fun y => { y with done := true })) s2 else s2
    | _, _, _ => s))

/-- Records a fault of a unit of cluster m (R186). -/
def codFault (m unit cause : Nat) (s : State) : State :=
  codEvent COD_STAT_FAULT (setF (COD_CCm_FAULT_LANE m) unit (setF (COD_CCm_FAULT_VALID m) 1 (setF (COD_CCm_FAULT_CAUSE m) cause s)))

/-- A lane's faults in the Assay period: the second makes it Suspect, and it is retired (R172). -/
def laneFault (m lane cause : Nat) (s : State) : State :=
  let n := look 0 (m * 32 + lane) s.laneFaults + 1
  let s1 := { s with laneFaults := put (m * 32 + lane) (some n) s.laneFaults }
  if n = 2 ∧ ¬ codRetired m lane s1 then
    retireLane m lane (0x30 + cause) n (noteSuspect 4 (0x30 + cause) m lane n s1)
  else s1

/-- CODE_BLOCK_RETRY (R172): a code block faults; it is redone once on another cluster, and a second fault ends its
allocation FAILED. -/
def execCodeBlockRetry (m : Fin 8) (lane cause : Nat) (m2 : Fin 8) (c : Fin 512) (slot : Nat) (ul : Bool) (alloc cb : Nat) (s : State) :
    Host.Outcome State Fault Refusal :=
  goesOn s (match findWork m c slot ul alloc cb s with
    | none => s
    | some w => withInject 5 m lane (fun s =>
      let s1 := codFault m lane cause { s with code := s.code.filter (fun v => decide (v ≠ w)) }
      let u : FaultUnit := ⟨m, lane, unitBand 4 (bandUnit 4 m lane) s, s.injecting⟩
      let s2 :=
        if w.retried then modJob c slot ul (modAlloc alloc (allocFail (0x30 + cause) true u)) s1
        else if m2 ≠ m ∧ clusterIn m2 s1 then { s1 with code := s1.code ++ [{ w with cluster := m2, retried := true }] }
        else modJob c slot ul (modAlloc alloc (allocFail (0x30 + cause) false u)) s1
      laneFault m lane cause s2) s)

/-- POLAR_OPERATION_DONE (R173, R174): a polar or small-block operation of an allocation ends on an engine of cluster m
within its bound, or the engine faults and its cluster's spare takes its place. -/
def execPolarOperationDone (m : Fin 8) (fault : Option Nat) (c : Fin 512) (slot : Nat) (ul : Bool) (alloc : Nat) (ok : Bool)
    (payload : List Byte) (s : State) : Host.Outcome State Fault Refusal :=
  goesOn s (match findJob c slot ul s with
    | none => s
    | some j =>
      let t := alType (jobAlloc j.pkt.payload alloc)
      if alloc < j.res.length ∧ (t = 2 ∨ t = 4 ∨ t = 5) ∧ j.planned ∧ issues s then
        let s1 := tally 5 (COD_CCm_POLAR_COUNT m) 1 s
        match fault with
        | some e => if e < 5 ∧ ¬ codRetired m (24 + e) s1 then retirePolar m e 0x32 1 (codFault m (24 + e) 2 s1) else s1
        | none => modJob c slot ul (modAlloc alloc (fun y => if y.done then y else { y with done := true, crcOk := ok, payload := payload })) s1
      else s)

/-- REBUILD_DONE (R181): the rebuilt copy is whole and reads may come from copy A again. -/
def execRebuildDone (c : Fin 512) (s : State) : Host.Outcome State Fault Refusal :=
  goesOn s (match lookup c.val s.cells with
    | none => s
    | some x => if x.rebuilding then showRebuild { s with cells := put c.val (some { x with okA := true, okB := true, rebuilding := false }) s.cells } else s)

/-! ### Delivery (R77, R169, R368) -/

/-- The slot buffer holds the PRB of a stream and symbol (R117, R169). -/
def prbPresent (c st sym prb : Nat) (s : State) : Bool :=
  s.slotBuf.any (fun d => decide (d.cell = c) && decide (d.stream = st) && decide (d.sym = sym) && decide (d.first ≤ prb) && decide (prb < d.first + d.vals.length / 12))

/-- Samples of a Direct IQ stream cover the air time from t to e: each entry's samples lie 64 / 2^FS Tc apart. -/
def samplesCover (l : List RxData) (step e : Nat) : Nat → Nat → Bool
  | 0, t => decide (e ≤ t)
  | n + 1, t =>
    if e ≤ t then true
    else match l.find? (fun d => decide (d.sym ≤ t) && decide (t < d.sym + d.vals.length * step)) with
      | some d => samplesCover l step e n (d.sym + d.vals.length * step)
      | none => false

/-- All the data of a symbol of a stream are in the slot buffer. -/
def dataPresent (x : Cell) (c st slot i : Nat) (prbs : List Nat) (s : State) : Bool :=
  let a := tcToAir (cfgMu x.cfg) (cfgEcp x.cfg) slot
  let t := airToTc (cfgMu x.cfg) (cfgEcp x.cfg) a.1 a.2.1 i
  if cfgDiq x.cfg then
    let l := s.slotBuf.filter (fun d => decide (d.cell = c) && decide (d.stream = st))
    let p := cfgLport x.cfg / 8
    let step := 64 / 2 ^ getF (FH_DIQa_CFG_FS p (cellStream x.cfg)) s * (1 + getF (FH_DIQa_CFG_RATE2 p (cellStream x.cfg)) s)
    samplesCover l step (airToTc (cfgMu x.cfg) (cfgEcp x.cfg) a.1 a.2.1 (i + 1)) l.length t
  else prbs.all (fun k => prbPresent c st t k s)

/-- Symbols and PRBs of an allocation. -/
def alSymbols (a : List Byte) : List Nat := (List.range (alSymNum a)).map (· + alSym a)
def alPrbs (a : List Byte) : List Nat := (List.range (alPrbNum a)).map (· + alPrbStart a)

/-- The (symbol, stream) pairs in which an allocation has missing data. -/
def alMissing (x : Cell) (c slot : Nat) (a : List Byte) (s : State) : List (Nat × Nat) :=
  (alSymbols a).flatMap (fun i => ((List.range (cfgS x.cfg)).filter (fun st => !dataPresent x c st slot i (alPrbs a) s)).map (fun st => (i, st)))

/-- The bits of a list of numbers. -/
def maskOf (l : List Nat) : Nat := l.foldl (fun m i => setBit i m) 0

/-- Offsets of the payloads in BUF: after the record, in entry order, each aligned to 64 bytes (DESIGN CHOICE, log entry
16). -/
def payloadOffsets : List AllocRes → Nat → List Nat
  | [], _ => []
  | r :: t, o => o :: payloadOffsets t (o + ceil64 r.payload.length)

/-- The 16 bytes of an allocation result (R169). -/
def allocRecord (k : Nat) (r : AllocRes) (ofs bits : Nat) : List Byte :=
  natLE 2 k ++ natLE 1 r.status ++ natLE 1 (b2n r.crcOk + 2 * b2n r.mismatch + 4 * b2n r.missing) ++ natLE 1 r.iters ++ natLE 1 r.cbFail ++
    natLE 2 r.sinr ++ natLE 4 ofs ++ natLE 4 bits

/-- An uplink job's allocations as they are delivered: what is not decoded by its stage's end is FAILED (R70), and
missing data are marked (R169). -/
def finalRes (x : Cell) (j : Job) (s : State) : List AllocRes :=
  (List.range j.res.length).map (fun k => match j.res[k]? with
    | none => ⟨1, false, false, false, 0, 0, 0, [], true, 0, false, noUnit⟩
    | some r =>
      let r1 := if r.done then r else allocFail 0 false noUnit r
      { r1 with missing := !(alMissing x j.cell j.slot (jobAlloc j.pkt.payload k) s).isEmpty })

/-- The result record of an uplink job (R169). -/
def ulRecord (x : Cell) (j : Job) (res : List AllocRes) (s : State) : List Byte :=
  let al := jobAllocs j.pkt.payload
  let miss := al.flatMap (fun a => alMissing x j.cell j.slot a s)
  let base := ceil64 (64 + 16 * res.length + 16 * j.prach.length)
  let ofs := payloadOffsets res base
  padTo 64 (natLE 4 j.pkt.seq ++ natLE 2 j.cell ++ natLE 1 (j.rxPath.getD 0) ++ natLE 1 (b2n (!miss.isEmpty) + 2 * b2n j.sat) ++ natLE 8 j.slot ++
    natLE 2 res.length ++ natLE 1 j.prach.length ++ natLE 1 0 ++ natLE 2 (maskOf (miss.map Prod.fst)) ++ natLE 2 0 ++
    natLE 4 (maskOf (miss.map Prod.snd)) ++ natLE 2 j.timeOfs ++ natLE 2 j.freqOfs) ++
  ((List.range res.length).flatMap (fun k => match res[k]? with
    | some r => allocRecord k r (ofs.getD k 0) (if r.status = 1 ∨ r.payload.isEmpty then 0 else alTbs (jobAlloc j.pkt.payload k))
    | none => [])) ++
  j.prach.flatMap (padTo 16)

/-- Writes the payloads of a job into BUF. -/
def writePayloads (f buf : Nat) : List AllocRes → List Nat → State → State
  | r :: t, o :: os, s => writePayloads f buf t os (if r.payload.isEmpty then s else hostWrite f (buf + o) r.payload s)
  | _, _, s => s

/-- The SLOT entry of a job with failed allocations (R366 KIND 2). -/
def slotEntry (x : Cell) (j : Job) (res : List AllocRes) : LedgerEvent :=
  let idx (st : Nat) : List Nat := (List.range res.length).filter (fun k => decide ((res[k]?).map (fun r => r.status) = some st))
  let first := res.find? (fun r => decide (r.status ≠ 0))
  let u := (first.map (fun r => r.unit)).getD noUnit
  { kind := 2, flags := (if (first.map (fun r => r.retried)).getD false then 8 else 0) + 32 * b2n u.injected,
    status := (if (first.map (fun r => r.status)).getD 1 = 2 then stCONTEXT_LOST else stITEM_FAILED), seq := j.pkt.seq, func := 0, part := 0xF0,
    cause := (first.map (fun r => r.cause)).getD 0, td := cfgTd x.cfg, band := u.band, at_ := j.slot, lunit := u.lunit, punit := u.punit,
    object := j.cell + b2n (!j.ul) * 65536, body := natLE 16 (maskOf (idx 1)) ++ natLE 16 (maskOf (idx 2)) }

/-- A job ends: the SLOT entry of failed allocations, then the final reply (R98, R169, R368). -/
def jobEnd (x : Cell) (j : Job) (res : List AllocRes) (s : State) : State :=
  let bad := (res.filter (fun r => decide (r.status ≠ 0))).length
  let s1 := { s with
    jobs := s.jobs.filter (fun k => decide (k.pkt.id ≠ j.pkt.id))
    code := s.code.filter (fun w => !(decide (w.cell = j.cell) && decide (w.slot = j.slot) && decide (w.ul = j.ul))) }
  if bad = 0 then showLedger 0 (finish j.pkt stOK 0 s1)
  else
    let e := slotEntry x j res
    match ledgerAssign e (countItems bad s1) with
    | (i, s2) => showLedger 0 (finish j.pkt e.status (itemsDetail bad i) s2)

/-- No earlier slot's job of the cell and direction is without its final reply (R368). -/
def firstInOrder (j : Job) (s : State) : Bool :=
  !s.jobs.any (fun k => decide (k.cell = j.cell) && decide (k.ul = j.ul) && decide (k.slot < j.slot))

/-- UL_DELIVERY (R169): an uplink job whose Fallback Point has passed and whose allocations have all ended, or whose
decode interval is over, writes its transport blocks, then its result record, then its final reply; a delivery held up
by host credits is counted (R77). -/
def execUlDelivery (c : Fin 512) (slot : Nat) (late : Bool) (s : State) : Host.Outcome State Fault Refusal :=
  goesOn s (match lookup c.val s.cells, findJob c slot true s with
    | some x, some j =>
      if j.rxPath.isSome ∧ firstInOrder j s ∧
          (j.res.all (fun r => r.done) ∨ (codeInterval x j s).2 ≤ (counter (cfgTd x.cfg) s : Int)) then
        let res := finalRes x j s
        let buf := jobBuf j.pkt.payload
        let f := j.pkt.window / 4
        let s1 := writePayloads f buf res (payloadOffsets res (ceil64 (64 + 16 * res.length + 16 * j.prach.length))) s
        let s2 := hostWrite f buf (ulRecord x j res s) s1
        let s3 := if late then tally (128 + c.val) (ESC_CELLc_LATEDLV_COUNT c) 1 s2 else s2
        let s4 := { s3 with slotBuf := s3.slotBuf.filter (fun d => !(decide (d.cell = c.val) && decide (slot ≤ d.sym) && decide (d.sym < slotEndOf x slot))) }
        jobEnd x j res s4
      else s
    | _, _ => s)

/-- A message of a job waits in a far list, on a wheel or in a queue. -/
def messagesLeft (j : Job) (s : State) : Bool :=
  let mine (m : TxMsg) : Bool := decide (m.cell = j.cell) && decide (m.slot = j.slot) && decide (m.ul = j.ul)
  s.fhFar.any mine || s.fhWheel.any (fun x => mine x.2) || s.fhQueue.any (fun q => q.2.any mine)

/-- DL_JOB_COMPLETE (R169): the last message of a downlink job has left; its final reply is written. -/
def execDlJobComplete (c : Fin 512) (slot : Nat) (s : State) : Host.Outcome State Fault Refusal :=
  goesOn s (match lookup c.val s.cells, findJob c slot false s with
    | some x, some j =>
      if j.planned ∧ j.handed ∧ ¬ messagesLeft j s ∧ firstInOrder j s then jobEnd x j (j.res.map (fun r => if r.done then r else allocFail 0 false noUnit r)) s else s
    | _, _ => s)

end Sys2Proof.Machine
end

