-- ==== Sys2Proof/Machine/Mem.lean ====
section
/-! DEFINITION. The memory tiers as every engine, DMA and fabric request reaches them: the Block Map and its checks, the
place that serves an access, poison marks, the error counts and logs, and what an uncorrectable error does to an object
(R238 to R242, R247, R252, R253, R259 to R272, R300, R301). -/

namespace Sys2Proof.Machine

/-! ### The Block Map (R239) -/

/-- The Block Map entry of a block. -/
def bent (b : Nat) (s : State) : Nat := look 0 b s.bmap
/-- Fields of a Block Map entry. -/
def entTier (e : Nat) : Nat := e % 4
def entFrame (e : Nat) : Nat := bitsAt 22 2 e
def entObj (e : Nat) : Nat := bitsAt 42 23 e
def entPart (e : Nat) : Nat := bitsAt 46 43 e
def entExtent (e : Nat) : Nat := bitsAt 56 47 e
def entRo (e : Nat) : Bool := bitAt 60 e
/-- A Block Map entry. -/
def mkEnt (tier frame obj part extent : Nat) (ro : Bool) : Nat :=
  tier + frame * 2 ^ 2 + obj * 2 ^ 23 + part * 2 ^ 43 + extent * 2 ^ 47 + b2n ro * 2 ^ 60
/-- Gives a block an entry; 0 unmaps it. -/
def setEnt (b e : Nat) (s : State) : State := { s with bmap := put b (if e = 0 then none else some e) s.bmap }
/-- Sets or clears one bit of a block's entry. -/
def entBit (i b : Nat) (v : Bool) (s : State) : State :=
  let e := bent b s
  setEnt b (if bitAt i e = v then e else if v then e + 2 ^ i else e - 2 ^ i) s
/-- The tier and frame of a block's entry. -/
def setEntFrame (b tier frame : Nat) (s : State) : State :=
  let e := bent b s
  setEnt b (e / 2 ^ 23 * 2 ^ 23 + tier + frame * 4) s

/-- The checks of R240 on a run of bytes for a partition. -/
def rangeOk (part : Nat) (write : Bool) (a len : Nat) (s : State) : Bool :=
  decide (0 < len) && decide (a + len ≤ 2 ^ 43) &&
    (List.range ((a + len - 1) / 2 ^ 21 + 1 - a / 2 ^ 21)).all (fun i =>
      let b := a / 2 ^ 21 + i
      let e := bent b s
      decide (entTier e ≠ 0) && decide (entPart e = part) && decide (min ((b + 1) * 2 ^ 21) (a + len) ≤ b * 2 ^ 21 + entExtent e * 4096) &&
        !(write && entRo e))

/-! ### Objects -/

/-- Blocks of an object. -/
def objBlocks (o : Obj) : Nat := ceilDiv o.len 512

/-- State code of object i (R99). -/
def objSt (i : Nat) (s : State) : Nat := match lookup i s.objs with
  | none => 0
  | some o => o.st

/-- Replaces object i, or removes it. -/
def putObj (i : Nat) (o : Option Obj) (s : State) : State := { s with objs := put i o s.objs }

/-- Objects that are REFETCHING (R278). -/
def showRefetch (s : State) : State :=
  setF MEMC_REFETCH_ACTIVE (min 255 (s.objs.filter (fun o => decide (o.2.st = 5))).length) s

/-! ### Where a line lies (R252, R300, R301) -/

/-- The XOR of the successive w-bit fields of x, from bit 0 (R288). -/
def foldw (w x : Nat) : Nat := (List.range 64).foldl (fun a i => a ^^^ (x / 2 ^ (w * i) % 2 ^ w)) 0

/-- The byte address in mem of a place. -/
def memAddr (tier frame off : Nat) : Nat := tier * 2 ^ 43 + frame * 2 ^ 21 + off

/-- Stack, channel and channel unit of a byte of a T1 frame: frames of objects lie in striped groups (R300). -/
def t1Place (frame off : Nat) : Nat × Nat × Nat :=
  let u := (frame % 12 * 2 ^ 21 + off) / 256
  let v := u / 12
  ((u % 12 + foldw 4 v % 12) % 12, (v % 32) ^^^ foldw 5 (v / 32), frame / 12 * 256 + v / 32)

/-- The T2 channel of a byte offset in T2, among the n fitted (R301). -/
def t2Chan (n x : Nat) : Nat := if n = 0 then 0 else (x / 4096 % n + foldw 4 (x / 4096 / n) % n) % n

/-- The physical channel of fitted channel i (R301, R452). -/
def fittedChan (i : Nat) (s : State) : Nat := ((List.range 16).filter (fun k => bitAt k (getF DEV_BOOT_MEM_DDR_USED s))).getD i 0

/-- The controller of a byte of mem: T0 banks 0 to 3, stacks 4 to 15, channels 16 to 31. -/
def ctlOf (m : Nat) (s : State) : Nat :=
  let x := m % 2 ^ 43
  match m / 2 ^ 43 with
  | 1 => x / 2 ^ 29
  | 2 => 4 + (t1Place (x / 2 ^ 21) (x % 2 ^ 21)).1
  | _ => 16 + fittedChan (t2Chan s.ddrChans x) s

/-- A byte of mem lies on a stack that has left service (R375). -/
def stackGone (m : Nat) (s : State) : Bool :=
  decide (m / 2 ^ 43 = 2) && decide ((t1Place (m % 2 ^ 43 / 2 ^ 21) (m % 2 ^ 21)).1 ∈ s.stacksOut)

/-- The migration that moves a block. -/
def migOf (b : Nat) (s : State) : Option (Mig × Obj) :=
  s.migs.findSome? (fun m => match lookup m.obj s.objs with
    | none => none
    | some o => if o.block + m.blk = b then some (m, o) else none)

/-- The byte of mem that serves a load of a Unified Range byte (R252). -/
def loadAddr (a : Nat) (s : State) : Nat :=
  let e := bent (a / 2 ^ 21) s
  match migOf (a / 2 ^ 21) s with
  | none => memAddr (entTier e) (entFrame e) (a % 2 ^ 21)
  | some (m, o) =>
    if a % 2 ^ 21 / 65536 < m.cur then memAddr o.target m.dst (a % 2 ^ 21) else memAddr (entTier e) (entFrame e) (a % 2 ^ 21)

/-- A store to a byte of mem waits for the cursor of a channel copy, which moves on by one unit of 256 bytes each 4 ns, at
64 GB/s (R375). -/
def chanWaits (m : Nat) (s : State) : Bool :=
  decide (m / 2 ^ 43 = 2) &&
    (let x := t1Place (m % 2 ^ 43 / 2 ^ 21) (m % 2 ^ 21)
     s.chanCopy.any (fun c => decide (c.stack = x.1) && decide (c.chan = x.2.1) && decide ((s.now - c.start) / 6144 = x.2.2)))

/-- The byte of mem that takes a store to a Unified Range byte; none while the store waits on a cursor (R252, R375). -/
def storeAddr (a : Nat) (s : State) : Option Nat :=
  let e := bent (a / 2 ^ 21) s
  let src := memAddr (entTier e) (entFrame e) (a % 2 ^ 21)
  let m := match migOf (a / 2 ^ 21) s with
    | none => some src
    | some (m, o) =>
      if a % 2 ^ 21 / 65536 < m.cur then some (memAddr o.target m.dst (a % 2 ^ 21))
      else if a % 2 ^ 21 / 65536 = m.cur then none else some src
  m.bind (fun m => if chanWaits m s then none else some m)

/-- A run of bytes can be stored now. -/
def storable (a len : Nat) (s : State) : Bool :=
  (List.range ((a % 64 + len + 63) / 64)).all (fun i => (storeAddr (a / 64 * 64 + 64 * i) s).isSome)

/-! ### Poison (R259, R268 to R270) -/

/-- Line number of a byte of mem. -/
def lineOf (m : Nat) : Nat := m / 64

/-- A line of mem carries a mark, or reads as uncorrectable because its stack is gone. -/
def marked (m : Nat) (s : State) : Bool := (lookup (lineOf m) s.poison).isSome || stackGone m s

/-- The object of a Unified Range byte is POISONED. -/
def objPoisoned (a : Nat) (s : State) : Bool := decide (entTier (bent (a / 2 ^ 21) s) ≠ 0) && decide (objSt (entObj (bent (a / 2 ^ 21) s)) s = 4)

/-- A read of a Unified Range line meets poison (R269). -/
def poisoned (a : Nat) (s : State) : Bool := marked (loadAddr a s) s || objPoisoned a s

/-- A read of a poisoned line is held while its object is REFETCHING (R272). -/
def readHeld (a : Nat) (s : State) : Bool :=
  marked (loadAddr a s) s && decide (objSt (entObj (bent (a / 2 ^ 21) s)) s = 5)

/-- The lines of a run of bytes. -/
def linesOf (a len : Nat) : List Nat := (List.range ((a % 64 + len + 63) / 64)).map (fun i => a / 64 * 64 + 64 * i)

/-- Some line of a run of bytes meets poison. -/
def anyPoison (a len : Nat) (s : State) : Bool := (linesOf a len).any (fun l => poisoned l s)

/-- Some line of a run of bytes is held. -/
def anyHeld (a len : Nat) (s : State) : Bool := (linesOf a len).any (fun l => readHeld l s)

/-- Bytes of the Unified Range. -/
def urRead (a n : Nat) (s : State) : List Byte := (List.range n).map (fun i => readByte s.mem (loadAddr (a + i) s))

/-- Sets a bit of MEMC_STAT and raises its vector where enabled (R278). -/
def memEvent (f : Fld) (s : State) : State := event f 0 MEMC_EVT_MASK_MASK f.lo MEMC_EVT_VEC_VEC s

/-- Marks a line of mem, or clears its mark. -/
def markLine (m : Nat) (v : Bool) (s : State) : State :=
  { s with poison := put (lineOf m) (if v then some 1 else none) s.poison }

/-- A write sets the dirty bit of a sub-block whose block has a shadow, or is being given one (R253). -/
def setDirty (a : Nat) (s : State) : State :=
  let s1 := match lookup (a / 2 ^ 21) s.shadows with
    | none => s
    | some h => { s with shadows := put (a / 2 ^ 21) (some { h with dirty := setBit (a % 2 ^ 21 / 65536) h.dirty }) s.shadows }
  match migOf (a / 2 ^ 21) s with
  | none => s1
  | some (m, _) =>
    if a % 2 ^ 21 / 65536 < m.cur then
      { s1 with migs := s1.migs.map (fun x => if x.obj = m.obj then { x with dirty := setBit (a % 2 ^ 21 / 65536) x.dirty } else x) }
    else s1

/-- A T2 write enters a page buffer of its channel; the buffer written longest ago is written out when all 64 are in
use (R262). -/
def touchPage (m : Nat) (s : State) : State :=
  if m / 2 ^ 43 = 3 then
    let c := t2Chan s.ddrChans (m % 2 ^ 43)
    let p := m % 2 ^ 43 / 4096
    let rest := s.pageBufs.filter (fun x => !(decide (x.1 = c) && decide (x.2.1 = p)))
    let mine := rest.filter (fun x => decide (x.1 = c))
    { s with pageBufs := (c, p, s.now) :: (if mine.length < 64 then rest else rest.filter (fun x => decide (some x ≠ mine.getLast?))) }
  else s

/-- Writes bytes within one line of the Unified Range (R252, R253, R270): a whole line clears its mark, a part of a
marked line is discarded, and a store into a POISONED object or a gone stack fails.  The flag says it failed. -/
def writeLine (a : Nat) (l : List Byte) (s : State) : State × Bool :=
  match storeAddr a s with
  | none => (s, false)
  | some m =>
    if objPoisoned a s ∨ stackGone m s then (s, true)
    else if marked m s ∧ l.length < 64 then (memEvent MEMC_STAT_PDROP (tally 12 MEMC_T_PDROP_COUNT 1 s), false)
    else
      let s1 := if marked m s then markLine m false s else s
      (setDirty a (touchPage m { s1 with mem := writeBytes m l s1.mem }), false)

/-- A run of bytes cut into lines. -/
def lineChunks : Nat → Nat → List Byte → List (Nat × List Byte)
  | 0, _, _ => []
  | f + 1, a, l => if l.isEmpty then [] else (a, l.take (64 - a % 64)) :: lineChunks f (a + (64 - a % 64)) (l.drop (64 - a % 64))

/-- Writes bytes to the Unified Range; the flag says that some line failed POISONED. -/
def urWrite (a : Nat) (l : List Byte) (s : State) : State × Bool :=
  (lineChunks l.length a l).foldl (fun x c => let y := writeLine c.1 c.2 x.1; (y.1, x.2 || y.2)) (s, false)

/-! ### Error counts, logs and reports (R266, R268, R371) -/

/-- Writes a log entry of the controller of a byte of mem: symbols corrected, or 63; the source of the read. -/
def memLog (m syms source : Nat) (ue : Bool) (s : State) : State :=
  let k := ctlOf m s
  let e := getF (MEMC_Xk_LOGHEAD_NEXT k) s
  let td := getF AIR_DEFAULT_TD_TD s
  let ent0 := m / 2 ^ 43 + m % 2 ^ 43 / 2 ^ 21 * 4 + m % 2 ^ 21 / 64 * 2 ^ 23 + syms * 2 ^ 38 + source * 2 ^ 44 + b2n ue * 2 ^ 47 +
    td * 2 ^ 48 + 2 ^ 63
  addSatF (MEMC_Xk_LOGHEAD_TOTAL k) 1 (setF (MEMC_Xk_LOGHEAD_NEXT k) (e + 1)
    (setF (MEMC_LOG_ENT1_ENT k e) (counter td s) (setF (MEMC_LOG_ENT0_ENT k e) ent0 s)))

/-- A row calls for a repair at the fill of the next device reset (R371). -/
def callRepair (m : Nat) (s : State) : State := { s with repairs := put (Config.rowOf (lineOf m)) (some 1) s.repairs }

/-- A corrected read is counted and logged, and calls for a row repair at CE_THR (R266, R371). -/
def correctedRead (m syms source : Nat) (s : State) : State :=
  let row := Config.rowOf (lineOf m)
  let n := look 0 row s.ceRows + 1
  let s1 := memEvent MEMC_STAT_CE (memLog m syms source false (tally 12 (MEMC_Xk_CE_COUNT (ctlOf m s)) 1 { s with ceRows := put row (some n) s.ceRows }))
  if getF FLT_SPARE_CFG_CE_THR s1 ≤ n then callRepair m s1 else s1

/-- Offset in its object of a Unified Range byte. -/
def objOff (o : Obj) (a : Nat) : Nat := a - o.block * 2 ^ 21

/-- The 4 KiB units of an object that hold a marked line, in ascending order (R271). -/
def markUnits (o : Obj) (s : State) : List Nat :=
  (List.range (objBlocks o)).flatMap (fun j =>
    let e := bent (o.block + j) s
    let base := memAddr (entTier e) (entFrame e) 0
    ((s.poison.filter (fun k => decide (base / 64 ≤ k.1) && decide (k.1 < base / 64 + 32768))).map (fun k => j * 512 + (k.1 - base / 64) / 64)).eraseDups)

/-- What an uncorrectable error does to a SETTLED object (R247): REFETCHING with the units that hold marks, or
POISONED. -/
def ueSettled (i : Nat) (o : Obj) (s : State) : State :=
  showRefetch (if o.recon then putObj i (some { o with st := 5, ue := false, since := s.now, units := (markUnits o s).map (fun u => (u, 0)) }) s
    else putObj i (some { o with st := 4, ue := false }) s)

/-- An uncorrectable error in a block is reported to the tier manager (R247, R271). -/
def reportUe (i : Nat) (s : State) : State :=
  match lookup i s.objs with
  | none => s
  | some o =>
    match o.st with
    | 1 => ueSettled i o s
    | 2 => putObj i (some { o with ue := true }) s
    | 3 => putObj i (some { o with ue := true }) s
    | 5 => putObj i (some { o with units := o.units ++ ((markUnits o s).filter (fun u => !o.units.any (fun x => decide (x.1 = u)))).map (fun u => (u, 0)) }) s
    | _ => s

/-- The block that a frame is mapped to. -/
def blockOf (tier frame : Nat) (s : State) : Option Nat :=
  ((s.bmap.find? (fun e => decide (entTier e.2 = tier) && decide (entFrame e.2 = frame))).map (fun e => e.1)).or
    (s.migs.findSome? (fun m => match lookup m.obj s.objs with
      | none => none
      | some o => if o.target = tier ∧ m.dst = frame then some (o.block + m.blk) else none))

/-- Uncorrectable reads of an HBM4 channel within the present second (R371). -/
def chanUeCount (stack chan : Nat) (s : State) : Nat :=
  let x := look 0 (stack * 32 + chan) s.chanUe
  if x / 2 ^ 32 = nowNs s / 10 ^ 9 then x % 2 ^ 32 else 0

/-- Counts an uncorrectable read of a T1 line for its channel. -/
def countChanUe (m : Nat) (s : State) : State :=
  if m / 2 ^ 43 = 2 then
    let x := t1Place (m % 2 ^ 43 / 2 ^ 21) (m % 2 ^ 21)
    { s with chanUe := put (x.1 * 32 + x.2.1) (some (nowNs s / 10 ^ 9 * 2 ^ 32 + chanUeCount x.1 x.2.1 s + 1)) s.chanUe }
  else s

/-- A read finds a line of mem uncorrectable (R268): the mark, POISON of the mapped block, the count and the log, and the
report.  A line that is marked already is not counted again. -/
def uncorrectableRead (m source : Nat) (s : State) : State :=
  if (lookup (lineOf m) s.poison).isSome then s
  else
    let s1 := tally 12 MEMC_T_POISON_COUNT 1 (markLine m true s)
    let s2 := memEvent MEMC_STAT_UE (memLog m 63 source true (tally 12 (MEMC_Xk_UE_COUNT (ctlOf m s1)) 1 (countChanUe m s1)))
    let s3 := if m / 2 ^ 43 = 1 then s2 else callRepair m s2
    match blockOf (m / 2 ^ 43) (m % 2 ^ 43 / 2 ^ 21) s3 with
    | none => s3
    | some b => reportUe (entObj (bent b s3)) (entBit 59 b true s3)

/-- What the decoder of a store makes of the errors it finds in a line: none, a number corrected, or uncorrectable.
The codes' reach is R259's; what lies beyond the errors it names is a free value.  For T0 the operand lists the bits
wrong in each 64-bit word, for T1 the stored symbols wrong and whether an error is placed in an address symbol, for T2
the symbols wrong in each codeword of the page. -/
inductive LineErr where
  | none
  | corrected (n : Nat)
  | uncorrectable
  deriving DecidableEq, Repr

/-- The outcome of a decode (R259): T0 corrects one bit a word and reports two; the Line Code corrects up to 3 symbols
and reports 4 or 5 and every address symbol; the Page Code corrects up to P/2 symbols in each codeword. -/
def decodeLine (tier : Nat) (errs : List Nat) (addr : Bool) (s : State) : LineErr × State :=
  let worst := errs.foldl max 0
  let total := errs.sum
  let open_ (s : State) : LineErr × State := let d := drawFree 1 s; (if d.1 = 1 then .uncorrectable else .none, d.2)
  if total = 0 ∧ !addr then (.none, s)
  else if tier = 1 then
    if worst ≤ 1 then (.corrected total, s) else if worst = 2 then (.uncorrectable, s) else open_ s
  else if tier = 2 then
    if addr then (.uncorrectable, s) else if total ≤ 3 then (.corrected total, s) else if total ≤ 5 then (.uncorrectable, s) else open_ s
  else
    if worst ≤ 8 * 2 ^ getF MEMC_CODE_ACTIVE s then (.corrected total, s) else (.uncorrectable, s)

/-- A read of a line of mem meets errors: corrections are counted and logged, and an uncorrectable line is poisoned. -/
def readErrors (m source : Nat) (errs : List Nat) (addr : Bool) (s : State) : State :=
  if marked m s then s
  else match decodeLine (m / 2 ^ 43) errs addr s with
    | (.none, s1) => s1
    | (.corrected n, s1) => correctedRead m (min 62 n) source s1
    | (.uncorrectable, s1) => uncorrectableRead m source s1

/-! ### Regulators (R344) -/

/-- Regulator x of partition p: 0 T1, 1 T2, 2 fabric egress. -/
def regulOf (p x : Nat) (s : State) : Regul := look ⟨0, 0, 65536⟩ (p * 3 + x) s.regul

/-- A request of a partition may issue: its regulator is open or holds tokens.  The radio partition and firmware are
outside every regulator (R74, R344). -/
def mayIssue (p x : Nat) (s : State) : Bool := decide (8 ≤ p) || decide ((regulOf p x s).rate = 0) || decide (0 < (regulOf p x s).tokens)

/-- A request's bytes are subtracted at issue. -/
def spend (p x n : Nat) (s : State) : State :=
  if 8 ≤ p ∨ (regulOf p x s).rate = 0 then s
  else { s with regul := put (p * 3 + x) (some { regulOf p x s with tokens := (regulOf p x s).tokens - (n : Int) }) s.regul }

/-- The regulator that a Unified Range access counts against: none for T0. -/
def regulFor (a : Nat) (s : State) : Option Nat :=
  match entTier (bent (a / 2 ^ 21) s) with
  | 2 => some 0
  | 3 => some 1
  | _ => none

end Sys2Proof.Machine
end

