-- ==== Sys2Proof/Machine/Tiers.lean ====
section
/-! DEFINITION. Objects: their commands, placement and charges, migration, shadows and age eviction (R238 to R257). -/

namespace Sys2Proof.Machine

/-! ### Charges (R245, R246) -/

/-- The quota and use fields of partition p in a tier, and the pool fields. -/
def quotaF (p t : Nat) : Fld := if t = 1 then TIER_Pp_T0_QUOTA p else if t = 2 then TIER_Pp_T1_QUOTA p else TIER_Pp_T2_LIMIT p
def usedF (p t : Nat) : Fld := if t = 1 then TIER_Pp_T0_USED p else if t = 2 then TIER_Pp_T1_USED p else TIER_Pp_T2_USED p
def poolF (p t : Nat) : Fld := if t = 1 then TIER_Pp_POOL_T0 p else TIER_Pp_POOL_T1 p
def poolUseF (t : Nat) : Fld := if t = 1 then TIER_POOLUSE_T0 else TIER_POOLUSE_T1

/-- Free frames of a tier's pool; n is 0 for T0 and 1 for T1. -/
def poolFree (n : Nat) (s : State) : Nat := getF (TIER_POOL_Tn_SIZE n) s - getF (poolUseF (n + 1)) s

/-- The pool of tier n is below a percentage of its size (R255). -/
def poolBelow (n pct : Nat) (s : State) : Bool := decide (poolFree n s * 100 < pct * getF (TIER_POOL_Tn_SIZE n) s)

/-- Shows POOL_LOW of tier n (R258). -/
def showPool (n : Nat) (s : State) : State :=
  let f := if n = 0 then TIER_STAT_POOL_LOW_T0 else TIER_STAT_POOL_LOW_T1
  if poolBelow n (getF (TIER_POOL_Tn_LOW n) s) s then
    if flagF f s then s else event f 0 TIER_EVT_MASK_MASK f.lo TIER_EVT_VEC_VEC s
  else setF f 0 s

/-- Charges n frames of tier t to partition p: its quota or limit, or the pool. -/
def charge (p t n : Nat) (pool : Bool) (s : State) : State :=
  if pool then showPool (t - 1) (addF (poolUseF t) n (addF (poolF p t) n s)) else addF (usedF p t) n s

/-- Takes a charge back. -/
def uncharge (p t n : Nat) (pool : Bool) (s : State) : State :=
  if pool then showPool (t - 1) (subF (poolUseF t) n (subF (poolF p t) n s)) else subF (usedF p t) n s

/-- Where n frames of tier t are charged for partition p: the quota when it covers them all, else the pool when it
does; none when neither does (R245, R246). -/
def chargeTo (p t n : Nat) (s : State) : Option Bool :=
  if getF (usedF p t) s + n ≤ getF (quotaF p t) s then some false
  else if t < 3 ∧ n ≤ poolFree (t - 1) s then some true
  else none

/-- Releases what an accepted packet reserved. -/
def unreserveObj (id : Nat) (s : State) : State :=
  (s.objResv.filter (fun r => decide (r.id = id))).foldl (fun s r => uncharge r.part r.tier r.n r.pool s)
    { s with objResv := s.objResv.filter (fun r => decide (r.id ≠ id)) }

/-- Reserves frames for an accepted packet until its effect (R246). -/
def reserveObj (id p t n bank idx blk : Nat) (s : State) : State :=
  match chargeTo p t n s with
  | none => s
  | some pool => charge p t n pool { s with objResv := s.objResv ++ [⟨id, p, t, n, pool, bank, idx, blk⟩] }

/-! ### Frames (R238, R250) -/

/-- A frame is mapped, a shadow, the destination of a migration, waiting to return, or of a partition's regions (R341). -/
def heldFrames (t : Nat) (s : State) : List Nat :=
  (s.bmap.filter (fun e => decide (entTier e.2 = t))).map (fun e => entFrame e.2) ++
    (s.shadows.filter (fun h => decide (h.2.tier = t))).map (fun h => h.2.frame) ++
    (s.migs.filter (fun m => match lookup m.obj s.objs with
      | none => false
      | some o => decide (o.target = t) && decide (m.blk < objBlocks o))).map (fun m => m.dst) ++
    (s.freeing.filter (fun x => decide (x.1 = t))).map (fun x => x.2.1) ++
    s.parts.flatMap (fun q => (q.2.regions.filter (fun r => decide (r.1 = t))).map (fun r => r.2))

/-- The lowest frame from f up that is not in a list; in T0 the lowest 4 of each bank are reserved. -/
def freeFrom (t : Nat) (held : List Nat) : Nat → Nat → Nat
  | 0, f => f
  | n + 1, f => if decide (f ∈ held) || (decide (t = 1) && decide (f % 256 < 4)) then freeFrom t held n (f + 1) else f

/-- The lowest free data frame of a tier, or of a T0 bank; the reserved frames are the lowest of each bank and of T1
(R238; DESIGN CHOICE, log entry 20). -/
def freeFrame (t bank : Nat) (any : Bool) (s : State) : Nat :=
  let held := heldFrames t s
  freeFrom t held (held.length + 17) (if t = 1 then (if any then 0 else bank * 256) else if t = 2 then 512 else 0)

/-- Fills a frame with zeros and valid check bits (R243, R250, R270). -/
def fillFrame (t f : Nat) (s : State) : State :=
  let a := memAddr t f 0
  { s with mem := fillZero a (2 ^ 21) s.mem
           poison := s.poison.filter (fun k => !(decide (a / 64 ≤ k.1) && decide (k.1 < a / 64 + 32768))) }

/-- Frames of a T0 bank that neither blocks nor accepted promotions hold. -/
def bankFree (bank : Nat) (s : State) : Nat :=
  252 - ((heldFrames 1 s).filter (fun f => decide (f / 256 = bank))).length -
    ((s.objs.filter (fun o => decide (o.2.target = 1) && decide (o.2.tbank = bank) && !o.2.tany)).map (fun o => o.2.resv)).sum -
    ((s.objResv.filter (fun r => decide (r.tier = 1) && decide (r.bank = bank))).map (fun r => r.n)).sum

/-- A tier, or the T0 bank named, has room for n more frames of partition p (R246). -/
def roomFor (p t bank : Nat) (any : Bool) (n : Nat) (s : State) : Bool :=
  (chargeTo p t n s).isSome && (decide (t ≠ 1) || any || decide (n ≤ bankFree bank s))

/-- NO_ESCROW with detail bit [5] (R68, R246). -/
def noFrames : Nat × Nat := (stNO_ESCROW, 32)

/-! ### The Object Table (R241) -/

/-- The 64 bytes of an object's entry. -/
def objBytes (o : Obj) : List Byte :=
  natLE 8 (o.block * 2 ^ 21) ++ natLE 4 o.len ++ natLE 1 (o.st + o.part * 16) ++
    natLE 1 (o.tier + (if o.tier = 1 ∧ !o.any then o.bank * 4 else 0) + b2n o.any * 16 + b2n o.ro * 32 + b2n o.recon * 64 + b2n o.pool * 128) ++
    natLE 2 o.pin ++ natLE 4 o.age ++ natLE 4 (o.target + b2n o.started * 4 + b2n o.drop * 8) ++
    (o.keys.flatMap (fun k => natLE 4 k)) ++ natLE 4 o.perm ++ natLE 4 o.moved ++ natLE 2 o.bkind ++ natLE 2 o.bdev ++ zeros 4 ++ natLE 8 o.baddr

/-- TIER_AGE_NOW: milliseconds since reset, counted on the core clock (R258). -/
def ageNow (s : State) : Nat := (s.now - s.resetAt) / (1536 * 10 ^ 6) % 2 ^ 32

/-- Elapsed age (R255). -/
def elapsed (o : Obj) (s : State) : Nat := (ageNow s + 2 ^ 32 - o.age) % 2 ^ 32

/-- Partition state code (R99). -/
def partSt (p : Nat) (s : State) : Nat := getF (SCHED_Pp_INFO_STATE p) s

/-- The refusal of a command on a fenced partition (R98, R257). -/
def fencedRefusal (p : Nat) : Nat × Nat := (stFENCED, p)

/-- The index an object command names. -/
def pObj (p : Pkt) : Nat := pf p 0 4

/-- The payload check of the object commands other than OBJ_CREATE: the index (R244).  An index that no object holds is
left to the state check (DEDUCED, log entry 21). -/
def parIndex : Check := fun p s =>
  if 2 ^ 20 ≤ pObj p ∨ pObj p < 256 then some (badParam 32 0)
  else match lookup (pObj p) s.objs with
    | none => none
    | some o => if o.part ≠ p.part then some (badParam 32 0) else none

/-- The state check: the partition is not fenced and the object is in one of the states given (R96, R104, R257). -/
def stObj (fence : Bool) (ok : Obj → Bool) : Check := fun p s =>
  if fence ∧ partSt p.part s = 2 then some (fencedRefusal p.part)
  else match lookup (pObj p) s.objs with
    | none => some (stSTATE_CONFLICT, conflictDetail 5 (pObj p) 0)
    | some o => if ok o then none else some (stSTATE_CONFLICT, conflictDetail 5 (pObj p) o.st)

/-- Checks one after the other. -/
def checks (l : List Check) : Check := fun p s => l.findSome? (fun c => c p s)

/-- A command whose checks see the state without what it has itself reserved. -/
def runObj (run : Pkt → State → State) (p : Pkt) (s : State) : Host.Outcome State Fault Refusal :=
  goesOn s (if ready p s then run p (unreserveObj p.id s) else s)

/-! ### OBJ_CREATE and OBJ_FREE (R243, R250) -/

/-- Blocks of a length in 4 KiB units. -/
def lenBlocks (n : Nat) : Nat := ceilDiv n 512

/-- A run of n blocks from b lies in the Unified Range and is unmapped, and no accepted OBJ_CREATE holds one of them. -/
def runFree (b n : Nat) (s : State) : Bool :=
  decide (b + n ≤ 2 ^ 22) && !s.bmap.any (fun e => decide (b ≤ e.1) && decide (e.1 < b + n)) &&
    !s.objResv.any (fun r => decide (r.idx ≠ 0) && decide (r.blk < b + n) && decide (b < r.blk + r.n))

/-- The lowest free run of n blocks: it starts at 0 or just after a mapped or reserved block (R243). -/
def lowestRun (n : Nat) (s : State) : Option Nat :=
  ((0 :: s.bmap.map (fun e : Nat × Nat => e.1 + 1) ++ (s.objResv.filter (fun r : ObjResv => decide (r.idx ≠ 0))).map (fun r : ObjResv => r.blk + r.n)).filter (fun b => runFree b n s)).min?

/-- The device chooses BASE. -/
def baseFree (p : Pkt) : Bool := decide (pf p 0 8 = 2 ^ 64 - 1)

/-- The payload check of OBJ_CREATE, fields in ascending offset. -/
def parCreate : Check := fun p s =>
  let n := lenBlocks (pf p 8 4)
  if !baseFree p ∧ (pf p 0 8 % 2 ^ 21 ≠ 0 ∨ !runFree (pf p 0 8 / 2 ^ 21) (max n 1) s) then some (badParam 32 0)
  else if pf p 8 4 = 0 ∨ 2 ^ 31 < pf p 8 4 then some (badParam 40 0)
  else if pf p 12 1 % 4 = 0 then some (badParam 44 0)
  else if bitAt 1 (pf p 13 1) ∧ (!bitAt 0 (pf p 13 1) ∨ pf p 40 1 % 4 = 0) then some (badParam 45 0)
  else if pf p 40 1 % 4 = 3 then some (badParam 72 0)
  else none

/-- OBJ_CREATE is legal while its partition is OPEN (R104, R257). -/
def stPartOpen : Check := fun p s =>
  if partSt p.part s = 2 then some (fencedRefusal p.part)
  else if partSt p.part s = 1 then none
  else some (stSTATE_CONFLICT, conflictDetail 6 p.part (partSt p.part s))

/-- An object index of the partitions is free: no object has it, and no accepted OBJ_CREATE. -/
def indexFree (i : Nat) (s : State) : Bool :=
  (lookup i s.objs).isNone && !s.objResv.any (fun r => decide (r.idx = i)) && decide (256 ≤ i) && decide (i < 2 ^ 20)

/-- The lowest free object index of the partitions. -/
def freeIndex (s : State) : Option Nat :=
  (List.range (s.objs.length + s.objResv.length + 1)).findSome? (fun i => if indexFree (256 + i) s then some (256 + i) else none)

/-- The first block of a new object: BASE, or the lowest free run. -/
def createBlock (p : Pkt) (s : State) : Nat := if baseFree p then (lowestRun (lenBlocks (pf p 8 4)) s).getD 0 else pf p 0 8 / 2 ^ 21

/-- The entry and the first block that an OBJ_CREATE takes: those its acceptance reserved, else the lowest free ones (R98, R100). -/
def createPlace (p : Pkt) (s : State) : Option (Nat × Nat) :=
  let s1 := unreserveObj p.id s
  match s.objResv.find? (fun r => decide (r.id = p.id)) with
  | some r => if indexFree r.idx s1 ∧ runFree r.blk r.n s1 then some (r.idx, r.blk) else (freeIndex s1).map (fun i => (i, createBlock p s1))
  | none => (freeIndex s1).map (fun i => (i, createBlock p s1))

/-- The resource check of OBJ_CREATE: the Object Table, the run of blocks, the frames. -/
def resCreate : Check := fun p s =>
  let n := lenBlocks (pf p 8 4)
  let b := pf p 12 1
  if (freeIndex s).isNone then some (stBUSY, 4)
  else if baseFree p ∧ (lowestRun n s).isNone then some noFrames
  else if !roomFor p.part (b % 4) (bitsAt 3 2 b) (bitAt 4 b) n s then some noFrames
  else none

/-- Maps block j of a new object to a free frame; with ANY the T0 frames go round the banks. -/
def mapBlock (i : Nat) (o : Obj) (j : Nat) (s : State) : State :=
  let f := if o.tier = 1 ∧ o.any ∧ 0 < bankFree (j % 4) s then freeFrame 1 (j % 4) false s else freeFrame o.tier o.bank o.any s
  let extent := min 512 (o.len - j * 512)
  setEnt (o.block + j) (mkEnt o.tier f i o.part extent o.ro) (fillFrame o.tier f s)

/-- The effect of OBJ_CREATE: a SETTLED object of zeros; DETAIL is its index. -/
def effCreate (place : Option (Nat × Nat)) : Effect := fun p s =>
  match place with
  | none => (s, stBUSY, 4)
  | some (i, blk) =>
    let n := lenBlocks (pf p 8 4)
    let b := pf p 12 1
    let fl := pf p 13 1
    let pool := (chargeTo p.part (b % 4) n s).getD false
    let o : Obj := ⟨blk, pf p 8 4, 1, p.part, b % 4, bitsAt 3 2 b, bitAt 4 b, bitAt 0 fl, bitAt 1 fl, pool, b2n (bitAt 2 fl), ageNow s, 0, false, false,
      [pf p 16 4, pf p 20 4, pf p 24 4, pf p 28 4], pf p 32 2, 0, pf p 40 1 % 4, pf p 42 2, pf p 48 8, 0, false, false, 0, [], false, 0, []⟩
    let s1 := (List.range n).foldl (fun s j => mapBlock i o j s) (charge p.part (b % 4) n pool s)
    (addF (TIER_Pp_OBJS_COUNT p.part) 1 (putObj i (some o) s1), stOK, i)

/-- The checks of OBJ_CREATE. -/
def chkCreate : Check := checks [parCreate, stPartOpen, resCreate]

/-- OBJ_CREATE (R243). -/
def execObjCreate (p : Pkt) (s : State) : Host.Outcome State Fault Refusal := runObj (runCmd chkCreate (effCreate (createPlace p s))) p s

/-- The shadow of a block lies in a tier. -/
def shadowIn (b t : Nat) (s : State) : Bool := match lookup b s.shadows with
  | none => false
  | some h => decide (h.tier = t)

/-- Unmaps block j of an object: its frame and its shadow wait for the accesses that translated through it (R250). -/
def unmapBlock (o : Obj) (j : Nat) (s : State) : State :=
  let b := o.block + j
  let e := bent b s
  let code (pool : Bool) : Nat := o.part + 16 * b2n pool
  let moved := decide (o.target ≠ 0) && decide (entTier e = o.target)
  let sh := match lookup b s.shadows with
    | none => []
    | some h => [(h.tier, h.frame, code h.pool)]
  setEnt b 0 { s with freeing := s.freeing ++ [(entTier e, entFrame e, code (if moved then o.tpool else o.pool))] ++ sh, shadows := put b none s.shadows }

/-- Removes object i: it becomes ABSENT, its migration ends, and its frames wait to return (R247, R250). -/
def removeObj (i : Nat) (s : State) : State :=
  match lookup i s.objs with
  | none => s
  | some o =>
    let dst := (s.migs.filter (fun m => decide (m.obj = i) && decide (m.blk < objBlocks o) && !shadowIn (o.block + m.blk) o.target s)).map (fun m => (o.target, m.dst, o.part + 16 * b2n o.tpool))
    let moving := s.migs.any (fun m => decide (m.obj = i))
    let s1 := (List.range (objBlocks o)).foldl (fun s j => unmapBlock o j s) s
    let s2 := if moving ∨ o.target ≠ 0 then uncharge o.part o.target (o.resv - dst.length) o.tpool s1 else s1
    showRefetch (subF (TIER_Pp_OBJS_COUNT o.part) 1
      (putObj i none { s2 with migs := s2.migs.filter (fun m => decide (m.obj ≠ i)), migQueue := s2.migQueue.filter (fun x => decide (x ≠ i)),
                               freeing := s2.freeing ++ dst }))

/-- SETTLED or POISONED with pin count 0. -/
def mayFree (o : Obj) : Bool := (decide (o.st = 1) || decide (o.st = 4)) && decide (o.pin = 0)

/-- The checks of OBJ_FREE. -/
def chkFree : Check := checks [parIndex, stObj true mayFree]

/-- OBJ_FREE (R247, R250). -/
def execObjFree (p : Pkt) (s : State) : Host.Outcome State Fault Refusal :=
  goesOn s (runCmd chkFree (fun p s => (removeObj (pObj p) s, stOK, 0)) p s)

/-- FRAME_RETURN (R250): every access that translated through the block has completed; the frame is filled and returns to
its tier. -/
def execFrameReturn (tier frame : Nat) (s : State) : Host.Outcome State Fault Refusal :=
  goesOn s (match s.freeing.find? (fun x => decide (x.1 = tier) && decide (x.2.1 = frame)) with
    | none => s
    | some x => uncharge (x.2.2 % 16) tier 1 (decide (16 ≤ x.2.2))
        (fillFrame tier frame { s with freeing := s.freeing.filter (fun y => !(decide (y.1 = tier) && decide (y.2.1 = frame))) }))

/-! ### OBJ_PIN, OBJ_UNPIN, OBJ_KEYS, OBJ_QUERY (R244) -/

/-- Changes the object a packet names. -/
def modObj (p : Pkt) (f : Obj → Obj) (s : State) : State :=
  match lookup (pObj p) s.objs with
  | none => s
  | some o => putObj (pObj p) (some (f o)) s

/-- A pin past 65,535 is answered BAD_PARAM. -/
def parPin : Check := fun p s =>
  match lookup (pObj p) s.objs with
  | none => none
  | some o => if 65535 ≤ o.pin then some (badParam 32 0) else none

/-- The checks of OBJ_PIN. -/
def chkPin : Check := checks [parIndex, parPin, stObj true (fun o => decide (o.st ≠ 4))]

/-- OBJ_PIN. -/
def execObjPin (p : Pkt) (s : State) : Host.Outcome State Fault Refusal :=
  goesOn s (runCmd chkPin (fun p s => (modObj p (fun o => { o with pin := o.pin + 1 }) s, stOK, 0)) p s)

/-- The checks of OBJ_UNPIN. -/
def chkUnpin : Check := checks [parIndex, stObj true (fun o => decide (0 < o.pin))]

/-- OBJ_UNPIN. -/
def execObjUnpin (p : Pkt) (s : State) : Host.Outcome State Fault Refusal :=
  goesOn s (runCmd chkUnpin (fun p s => (modObj p (fun o => { o with pin := o.pin - 1 }) s, stOK, 0)) p s)

/-- The checks of OBJ_KEYS. -/
def chkKeys : Check := checks [parIndex, stObj true (fun _ => true)]

/-- OBJ_KEYS. -/
def execObjKeys (p : Pkt) (s : State) : Host.Outcome State Fault Refusal :=
  goesOn s (runCmd chkKeys (fun p s =>
    (modObj p (fun o => { o with keys := [pf p 4 4, pf p 8 4, pf p 12 4, pf p 16 4], perm := pf p 20 2 }) s, stOK, 0)) p s)

/-- The buffer length of OBJ_QUERY. -/
def parQueryLen : Check := fun p _ => if pf p 4 4 < 64 then some (badParam 36 64) else none

/-- The checks of OBJ_QUERY, which a fence does not refuse. -/
def chkObjQuery : Check := checks [parIndex, parQueryLen, stObj false (fun _ => true)]

/-- OBJ_QUERY: the 64-byte entry is written to the host buffer. -/
def execObjQuery (p : Pkt) (s : State) : Host.Outcome State Fault Refusal :=
  goesOn s (runCmd chkObjQuery (writeRecord (fun p => pf p 8 8) (fun p s => match lookup (pObj p) s.objs with
    | none => []
    | some o => objBytes o)) p s)

/-! ### Promotion and eviction (R247, R248, R254) -/

/-- TARGET of OBJ_PROMOTE and OBJ_EVICT, and BANK, ANY and DROP of OBJ_PROMOTE. -/
def pTarget (p : Pkt) : Nat := pf p 4 1 % 4
def pBank (p : Pkt) : Nat := bitsAt 3 2 (pf p 4 1)
def pAny (p : Pkt) : Bool := bitAt 4 (pf p 4 1)
def pDrop (p : Pkt) : Bool := bitAt 5 (pf p 4 1)

/-- The promotion under way is the one the packet asks for. -/
def sameProm (p : Pkt) (o : Obj) : Bool := decide (o.target = pTarget p) && (decide (pTarget p ≠ 1) || (decide (o.tany = pAny p) && (pAny p || decide (o.tbank = pBank p))))

/-- The payload check of OBJ_PROMOTE. -/
def parPromote : Check := fun p s =>
  match lookup (pObj p) s.objs with
  | none => if pTarget p = 0 then some (badParam 36 0) else none
  | some o =>
    if pTarget p = 0 ∨ o.tier < pTarget p then some (badParam 36 0)
    else if o.st = 2 ∧ !sameProm p o then some (badParam 36 o.target)
    else none

/-- The resource check of OBJ_PROMOTE: frames for every block of a SETTLED object that is to move. -/
def resPromote : Check := fun p s =>
  match lookup (pObj p) s.objs with
  | none => none
  | some o => if o.st = 1 ∧ pTarget p < o.tier ∧ !roomFor o.part (pTarget p) (pBank p) (pAny p) (objBlocks o) s then some noFrames else none

/-- Shows the migrations running and waiting (R258). -/
def showMig (s : State) : State := setF TIER_MIG_QUEUED s.migQueue.length (setF TIER_MIG_RUNNING s.migs.length s)

/-- A migration of object i to a tier is accepted: its frames are charged and it waits in the queue (R246, R251). -/
def queueMig (i : Nat) (o : Obj) (st target bank : Nat) (any drop : Bool) (n : Nat) (w : List Nat) (s : State) : State :=
  let shPool := match lookup o.block s.shadows with
    | none => false
    | some h => h.pool
  let pool := if n = 0 then shPool else (chargeTo o.part target n s).getD false
  showMig (putObj i (some { o with st := st, target := target, started := false, drop := drop, tbank := bank, tany := any, tpool := pool, resv := n, waiters := w, moved := 0 })
    (charge o.part target n pool { s with migQueue := s.migQueue ++ [i] }))

/-- The effect of OBJ_PROMOTE: a touch, a join, or a promotion (R244, R248). -/
def effPromote (p : Pkt) (s : State) : State :=
  match lookup (pObj p) s.objs with
  | none => s
  | some o =>
    if o.st = 2 then putObj (pObj p) (some { o with waiters := o.waiters ++ [p.id] }) s
    else if pTarget p = o.tier then finish p stOK 0 (putObj (pObj p) (some { o with age := ageNow s }) s)
    else queueMig (pObj p) o 2 (pTarget p) (pBank p) (pAny p) (pDrop p) (objBlocks o) [p.id] s

/-- The checks of OBJ_PROMOTE. -/
def chkPromote : Check := checks [parIndex, parPromote, stObj true (fun o => decide (o.st = 1) || decide (o.st = 2)), resPromote]

/-- OBJ_PROMOTE. -/
def execObjPromote (p : Pkt) (s : State) : Host.Outcome State Fault Refusal := runObj (runCmdOpen chkPromote effPromote) p s

/-- Frames an eviction to a tier needs: one for each block without a shadow there (R254). -/
def evictFrames (o : Obj) (t : Nat) (s : State) : Nat :=
  ((List.range (objBlocks o)).filter (fun j => !shadowIn (o.block + j) t s)).length

/-- The payload check of OBJ_EVICT. -/
def parEvict : Check := fun p s =>
  match lookup (pObj p) s.objs with
  | none => if pTarget p = 0 then some (badParam 36 0) else none
  | some o => if pTarget p ≤ o.tier then some (badParam 36 0) else none

/-- The resource check of OBJ_EVICT: a pinned object is deferred, then the frames. -/
def resEvict : Check := fun p s =>
  match lookup (pObj p) s.objs with
  | none => none
  | some o =>
    if 0 < o.pin then some (stPINNED_DEFERRED, o.pin)
    else if !roomFor o.part (pTarget p) 0 true (evictFrames o (pTarget p) s) s then some noFrames
    else none

/-- Cancels a promotion that has not started: its frames are returned and its replies carry STATE_CONFLICT with the
state EVICTING (R248). -/
def cancelProm (i : Nat) (o : Obj) (s : State) : State :=
  let s1 := uncharge o.part o.target o.resv o.tpool { s with migQueue := s.migQueue.filter (fun x => decide (x ≠ i)) }
  o.waiters.foldl (fun s w => finishId w stSTATE_CONFLICT (conflictDetail 5 i 3) s) s1

/-- The effect of OBJ_EVICT. -/
def effEvict (p : Pkt) (s : State) : State :=
  match lookup (pObj p) s.objs with
  | none => s
  | some o =>
    let s1 := if o.st = 2 then cancelProm (pObj p) o s else s
    queueMig (pObj p) o 3 (pTarget p) 0 true false (evictFrames o (pTarget p) s1) [p.id] s1

/-- SETTLED, or PROMOTING and not started: a promotion that has started wins (R248). -/
def mayEvict (o : Obj) : Bool := decide (o.st = 1) || (decide (o.st = 2) && !o.started)

/-- The checks of OBJ_EVICT. -/
def chkEvict : Check := checks [parIndex, parEvict, stObj true mayEvict, resEvict]

/-- OBJ_EVICT. -/
def execObjEvict (p : Pkt) (s : State) : Host.Outcome State Fault Refusal := runObj (runCmdOpen chkEvict effEvict) p s

/-! ### Migration (R251 to R254, R256) -/

/-- The frame that block j of a migrating object moves to: its shadow when it lies in the target, else a free frame. -/
def migDst (o : Obj) (j : Nat) (s : State) : Nat :=
  match lookup (o.block + j) s.shadows with
  | some h => if h.tier = o.target then h.frame else freeFrame o.target o.tbank o.tany s
  | none => freeFrame o.target o.tbank o.tany s

/-- A slice begins a block: MOVING is set and the cursor stands at its first sub-block.  A new frame is filled. -/
def beginBlock (i : Nat) (o : Obj) (j : Nat) (s : State) : State :=
  let f := migDst o j s
  let s1 := if shadowIn (o.block + j) o.target s then s else fillFrame o.target f s
  entBit 57 (o.block + j) true { s1 with migs := s1.migs.filter (fun m => decide (m.obj ≠ i)) ++ [⟨i, j, 0, f, 0⟩] }

/-- MIGRATION_START (R251, R257): a free slice takes the earliest accepted migration whose partition is not fenced. -/
def execMigrationStart (i : Nat) (s : State) : Host.Outcome State Fault Refusal :=
  goesOn s (match s.migQueue.find? (fun x => match lookup x s.objs with
      | none => false
      | some o => decide (partSt o.part s ≠ 2)), lookup i s.objs with
    | some h, some o =>
      if h = i ∧ s.migs.length < 4 then
        showMig (beginBlock i { o with started := true } 0
          (putObj i (some { o with started := true }) { s with migQueue := s.migQueue.filter (fun x => decide (x ≠ i)) }))
      else s
    | _, _ => s)

/-- Copies the marks and data of n bytes of mem from one place to another (R256). -/
def copyMem (src dst n : Nat) (s : State) : State :=
  let s1 := touchPage dst { s with mem := writeBytes dst (readBytes s.mem src n) s.mem }
  (List.range (n / 64)).foldl (fun s k => markLine (dst + 64 * k) (marked (src + 64 * k) s1) s) s1

/-- The eviction of block j goes to its shadow and sub-block c of it is clean (R254). -/
def cleanSub (o : Obj) (j c : Nat) (s : State) : Bool :=
  match lookup (o.block + j) s.shadows with
  | none => false
  | some h => decide (h.tier = o.target) && !bitAt c h.dirty

/-- SUB_BLOCK_COPY_DONE (R252, R254, R256): the sub-block under the cursor has been copied, or was clean and is left; bad
lists the lines of it that the copy read uncorrectable. -/
def execSubBlockCopyDone (i : Nat) (bad : List Nat) (s : State) : Host.Outcome State Fault Refusal :=
  goesOn s (match s.migs.find? (fun m => decide (m.obj = i)), lookup i s.objs with
    | some m, some o =>
      if m.cur < 32 ∧ m.blk < objBlocks o then
        let e := bent (o.block + m.blk) s
        let src := memAddr (entTier e) (entFrame e) (m.cur * 65536)
        let dst := memAddr o.target m.dst (m.cur * 65536)
        let step (s : State) : State := { s with migs := s.migs.map (fun x => if x.obj = i then { x with cur := m.cur + 1 } else x) }
        if cleanSub o m.blk m.cur s then step (tally 7 TIER_T_CLEAN_COUNT 1 s)
        else
          let s1 := bad.foldl (fun s k => uncorrectableRead (src + k % 1024 * 64) 2 s) s
          let n := if shadowIn (o.block + m.blk) o.target s then 1 else 0
          let moves (s : State) (x : Option Nat) : State := match x with
            | none => s
            | some x => spend o.part x 65536 s
          let reg (t : Nat) : Option Nat := if t = 2 then some 0 else if t = 3 then some 1 else none
          step (tally 7 TIER_T_WBACK_COUNT n (copyMem src dst 65536 (moves (moves s1 (reg (entTier e))) (reg o.target))))
      else s
    | _, _ => s)

/-- What becomes of the source frame and the shadow of a block whose move ends (R253, R254). -/
def settleBlock (o : Obj) (m : Mig) (s : State) : State :=
  let b := o.block + m.blk
  let e := bent b s
  let src (s : State) : State := uncharge o.part (entTier e) 1 o.pool (fillFrame (entTier e) (entFrame e) s)
  match lookup b s.shadows with
  | some h =>
    if h.tier = o.target then src (entBit 58 b false { s with shadows := put b none s.shadows }) else src s
  | none =>
    if o.st = 2 ∧ !o.drop then
      entBit 58 b true { s with shadows := put b (some ⟨entTier e, entFrame e, o.pool, m.dirty⟩) s.shadows }
    else src s

/-- BLOCK_MIGRATION_DONE (R252): the last sub-block of a block has been copied; its entry takes the new frame, MOVING
clears, MOVED advances, and the next block begins. -/
def execBlockMigrationDone (i : Nat) (s : State) : Host.Outcome State Fault Refusal :=
  goesOn s (match s.migs.find? (fun m => decide (m.obj = i)), lookup i s.objs with
    | some m, some o =>
      if m.cur = 32 ∧ m.blk < objBlocks o then
        let b := o.block + m.blk
        let used := if shadowIn b o.target s then 0 else 1
        let s1 := settleBlock o m s
        let s2 := entBit 57 b false (setEntFrame b o.target m.dst s1)
        let o' := { o with moved := o.moved + 1, resv := o.resv - used }
        let s3 := putObj i (some o') s2
        if m.blk + 1 < objBlocks o then beginBlock i o' (m.blk + 1) s3
        else { s3 with migs := s3.migs.map (fun x => if x.obj = i then { x with blk := m.blk + 1, cur := 0 } else x) }
      else s
    | _, _ => s)

/-- MIGRATION_COMPLETE (R247, R256): every block has moved; the object is SETTLED in TARGET, its commands end OK, and an
error reported meanwhile is applied.  An eviction without a command is an age eviction (R255). -/
def execMigrationComplete (i : Nat) (s : State) : Host.Outcome State Fault Refusal :=
  goesOn s (match s.migs.find? (fun m => decide (m.obj = i)), lookup i s.objs with
    | some m, some o =>
      if m.blk = objBlocks o then
        let prom := decide (o.st = 2)
        let o' : Obj := { o with st := 1, tier := o.target, bank := o.tbank, any := o.tany, pool := o.tpool, target := 0, started := false, drop := false,
                                 age := if prom then ageNow s else o.age, resv := 0, waiters := [], moved := 0 }
        let s1 := showMig (putObj i (some o') { s with migs := s.migs.filter (fun x => decide (x.obj ≠ i)) })
        let s2 :=
          if prom then tally 7 TIER_T_PROMOTE_COUNT 1 s1
          else if o.waiters.isEmpty then
            event TIER_STAT_AGE_EVICT 0 TIER_EVT_MASK_MASK 0 TIER_EVT_VEC_VEC
              (tally 7 (TIER_Pp_AGEVICT_COUNT o.part) 1 (tally 7 TIER_T_AGEEVICT_COUNT 1 s1))
          else tally 7 TIER_T_EVICT_COUNT 1 s1
        let s3 := if o.ue then ueSettled i o' s2 else s2
        o.waiters.foldl (fun s w => finishId w stOK 0 s) s3
      else s
    | _, _ => s)

/-! ### Age (R255) -/

/-- AGE_SWEEP: every object whose elapsed age has reached 2^31 ms is held there. -/
def execAgeSweep (s : State) : Host.Outcome State Fault Refusal :=
  goesOn s { s with objs := s.objs.map (fun o => if 2 ^ 31 ≤ elapsed o.2 s then (o.1, { o.2 with age := (ageNow s + 2 ^ 31) % 2 ^ 32 }) else o) }

/-- Candidates of tier n: SETTLED, not pinned, charged to the pool. -/
def ageCands (n : Nat) (s : State) : List (Nat × Obj) :=
  s.objs.filter (fun o => decide (o.2.st = 1) && decide (o.2.pin = 0) && o.2.pool && decide (o.2.tier = n + 1) && decide (o.2.part < 8))

/-- The target of an age eviction: the tier of the shadows when every block has one, else the next slower tier, or T2
when that one has no room; none when no target has room. -/
def ageTarget (o : Obj) (s : State) : Option Nat :=
  let ok (t : Nat) : Bool := roomFor o.part t 0 true (evictFrames o t s) s
  let sh := (List.range (objBlocks o)).map (fun j => lookup (o.block + j) s.shadows)
  match sh.head? with
  | some (some h) =>
    if sh.all (fun x => x.isSome) then (if ok h.tier then some h.tier else none)
    else if ok (o.tier + 1) then some (o.tier + 1) else if ok 3 then some 3 else none
  | _ => if ok (o.tier + 1) then some (o.tier + 1) else if ok 3 then some 3 else none

/-- The older of two candidates; of equals the lower index. -/
def older (s : State) (a b : Nat × Obj) : Nat × Obj := if elapsed a.2 s < elapsed b.2 s then b else a

/-- Pool frames of tier n that age evictions under way will free. -/
def leaving (n : Nat) (s : State) : Nat :=
  ((s.objs.filter (fun o => decide (o.2.st = 3) && o.2.waiters.isEmpty && o.2.pool && decide (o.2.tier = n + 1))).map (fun o => objBlocks o.2)).sum

/-- The age evictions under way do not yet bring the free frames of tier n to HIGH percent. -/
def moreToGo (n : Nat) (s : State) : Bool :=
  decide ((poolFree n s + leaving n s) * 100 < getF (TIER_POOL_Tn_HIGH n) s * getF (TIER_POOL_Tn_SIZE n) s)

/-- AGE_EVICTION (R255): below LOW percent free, and until HIGH percent is reached, the pool-charged object of the
largest elapsed age that some target has room for is evicted. -/
def execAgeEviction (n : Fin 2) (s : State) : Host.Outcome State Fault Refusal :=
  goesOn s (let low := poolBelow n (getF (TIER_POOL_Tn_LOW n) s) s
    let going := low || (decide (n.val ∈ s.ageRun) && poolBelow n (getF (TIER_POOL_Tn_HIGH n) s) s)
    let s0 := { s with ageRun := if going then insertNat n s.ageRun else s.ageRun.filter (fun x => decide (x ≠ n.val)) }
    if going ∧ moreToGo n s then
      match (ageCands n s).filter (fun o => (ageTarget o.2 s).isSome) with
      | [] => s0
      | c :: r =>
        let o := r.foldl (older s) c
        let t := (ageTarget o.2 s).getD 3
        queueMig o.1 o.2 3 t 0 true false (evictFrames o.2 t s) [] s0
    else s0)

/-- POOL_SIZE_WRITE (R246, R258): SIZE is refused below the frames charged, or when with the quotas and the radio carve
it passes the tier's data frames; HIGH is ignored when it is not above the LOW of the same write or above 100. -/
def execPoolSizeWrite (n : Fin 2) (v : BitVec 64) (s : State) : Host.Outcome State Fault Refusal :=
  goesOn s (if !hostUp 0 s then s else let size := v.toNat % 2 ^ 22
    let low := bitsAt 38 32 v.toNat
    let high := bitsAt 46 40 v.toNat
    let t := n.val + 1
    let cap := if t = 1 then getF TIER_CAP_T0 s else getF TIER_CAP_T1 s
    let radio := if t = 1 then getF TIER_RADIO_T0 s else getF TIER_RADIO_T1 s
    let resv := (s.resv.map (fun r => if t = 1 then r.t0Frames else r.t1Frames)).sum
    let bad := decide (size < getF (poolUseF t) s) || decide (cap < size + ((List.range 8).map (fun p => getF (quotaF p t) s)).sum + radio + resv)
    let s1 := setF (TIER_POOL_Tn_LOW n) low s
    let s2 := if low < high ∧ high ≤ 100 then setF (TIER_POOL_Tn_HIGH n) high s1 else s1
    showPool n (if bad then event TIER_STAT_POOL_REFUSED 0 TIER_EVT_MASK_MASK 1 TIER_EVT_VEC_VEC s2 else setF (TIER_POOL_Tn_SIZE n) size s2))

end Sys2Proof.Machine
end

