-- ==== Sys2Proof/Machine/Protect.lean ====
section
/-! DEFINITION. Patrol scrubbing, the page buffers of T2 and the Check Units (R262, R265, R273 to R277). -/

namespace Sys2Proof.Machine

/-- The tier code of controller k. -/
def ctlTier (k : Nat) : Nat := if k < 4 then 1 else if k < 16 then 2 else 3

/-- The first line of mem that may be controller k's, and how many lines follow it: its bank, or its tier. -/
def ctlLines (k : Nat) (s : State) : Nat × Nat :=
  if k < 4 then (memAddr 1 (256 * k) 0 / 64, 2 ^ 23)
  else (memAddr (ctlTier k) 0 0 / 64, (if k < 16 then 294912 else getF TIER_CAP_T2 s) * 32768)

/-- The first line of controller k among n from l up. -/
def ownFrom (k : Nat) (s : State) : Nat → Nat → Option Nat
  | 0, _ => none
  | n + 1, l => if ctlOf (l * 64) s = k then some l else ownFrom k s n (l + 1)

/-- The line that controller k's patrol reads next: the next of its own in ascending order, within a span that holds one
of every controller's, or its first again (R265). -/
def patrolNext (k : Nat) (s : State) : Option Nat :=
  let r := ctlLines k s
  let next := match lookup k s.patrol with
    | none => none
    | some l => (ownFrom k s 4096 (l + 1)).filter (fun x => decide (x < r.1 + r.2))
  next.or ((ownFrom k s 4096 r.1).filter (fun x => decide (x < r.1 + r.2)))

/-- Reads on in a patrol pass, or begins one: a pass that has run past its period sets SCRUB_SLOW once (R265). -/
def patrolPass (k l : Nat) (s : State) : State :=
  let new := (lookup k s.patrol).all (fun x => decide (l ≤ x))
  let s1 := { s with patrol := put k (some l) s.patrol, patrolStart := if new then put k (some (s.now * 2)) s.patrolStart else s.patrolStart }
  let t := look 0 k s1.patrolStart
  if t % 2 = 0 ∧ t / 2 + getF (MEMC_SCRUB_Tn_PERIOD (ctlTier k - 1)) s * 60 * 10 ^ 9 * 1536 < s.now then
    memEvent MEMC_STAT_SCRUB_SLOW { s1 with patrolStart := put k (some (t + 1)) s1.patrolStart }
  else s1

/-- PATROL_READ (R265): controller k reads its next line; the errors it holds are corrected and written back, or poison
the line.  A read that finds lines of a Cell Context instead applies R180. -/
def execPatrolRead (k : Fin 32) (errs : List Nat) (addr : Bool) (twin : Option TwinLine) (s : State) :
    Host.Outcome State Fault Refusal :=
  goesOn s (if getF (MEMC_SCRUB_Tn_PERIOD (ctlTier k - 1)) s = 0 ∨ inReset s then s
    else match twin with
      | some t => twinRead t.cell t.handle t.badA t.badB s
      | none => match patrolNext k s with
        | none => s
        | some l => readErrors (l * 64) 1 errs addr (patrolPass k l s))

/-- PAGE_BUFFER_WRITEOUT (R262): a buffer that has not been written for 2 µs is written out. -/
def execPageBufferWriteout (chan page : Nat) (s : State) : Host.Outcome State Fault Refusal :=
  goesOn s { s with pageBufs := s.pageBufs.filter (fun x => !(decide (x.1 = chan) && decide (x.2.1 = page) && decide (x.2.2 + 2000 * 1536 ≤ s.now))) }

/-! ### Check Units -/

/-- One bit step of CRC-64, ECMA-182, not reflected (R273). -/
def crc64Bit (c : Nat) : Nat := if c / 2 ^ 63 % 2 = 1 then (c * 2 % 2 ^ 64) ^^^ 0x42F0E1EBA9EA3693 else c * 2 % 2 ^ 64

/-- One byte of CRC-64. -/
def crc64Byte (c : Nat) (b : Byte) : Nat := (List.range 8).foldl (fun c _ => crc64Bit c) (c ^^^ (b.toNat * 2 ^ 56))

/-- The running register after a run of bytes, by MODE (R273). -/
def chkFeed (mode : Nat) (run : Nat) (l : List Byte) : Nat :=
  if mode = 0 then l.foldl (crcByte 0x82F63B78) run else l.foldl crc64Byte run

/-- XOROUT by MODE. -/
def chkXorOut (mode : Nat) : Nat := if mode = 0 then 0xFFFFFFFF else 0

/-- RUN as RESEED loads it from SEEDADDR (R274). -/
def chkSeed (mode a : Nat) : Nat := if mode = 0 then 0xFFFFFFFF ^^^ ((a % 2 ^ 32) ^^^ (a / 2 ^ 32)) else a

/-- RESULT reads RUN XOR XOROUT (R274). -/
def showResult (u : Nat) (s : State) : State :=
  setF (CHK_Uu_RESULT_RESULT u) (getF (CHK_Uu_RUN_RUN u) s ^^^ chkXorOut (getF (CHK_Uu_CTRL_MODE u) s)) s

/-- Sets a bit of CHK_STAT and raises its vector where enabled (R279). -/
def chkEvent (f : Fld) (s : State) : State := event f 0 CHK_EVT_MASK_MASK f.lo CHK_EVT_VEC_VEC s

/-- The unit stops with an error (R275, R277). -/
def chkError (u code : Nat) (s : State) : State := chkEvent CHK_STAT_ERR (setF (CHK_Uu_STAT_ERR u) code (setF (CHK_Uu_STAT_STATE u) 4 s))

/-- The partition a function is bound to: the lowest whose FUNC names it (R345). -/
def funcPart (f : Nat) (s : State) : Option Nat :=
  (List.range 8).find? (fun p => decide (getF (SCHED_Pp_INFO_STATE p) s ≠ 0) && decide (getF (SCHED_Pp_INFO_FUNC p) s = f))

/-- The owner of a unit; units 16n to 16n + 3 belong to firmware (R277). -/
def chkOwner (u : Nat) (s : State) : Nat := if u % 16 < 4 then 14 else getF (CHK_Uu_CTRL_OWNER u) s

/-- Function f sees the unit's set (R279). -/
def chkSees (f u : Nat) (s : State) : Bool := decide (f = 0) || decide (funcPart f s = some (chkOwner u s))

/-- A unit is running. -/
def chkRunning (u : Nat) (s : State) : Bool := decide (getF (CHK_Uu_STAT_STATE u) s = 1)

/-- The end of a scan (R275). -/
def chkEnd (u : Nat) (s : State) : State :=
  let m := if getF (CHK_Uu_CTRL_MODE u) s = 0 then 2 ^ 32 else 2 ^ 64
  let ok := flagF (CHK_Uu_CTRL_CMP u) s && decide (getF (CHK_Uu_RESULT_RESULT u) s % m = getF (CHK_Uu_EXPECT_EXPECT u) s % m)
  chkEvent CHK_STAT_DONE (orF CHK_DONE_UNIT u (tally 13 CHK_T_SCANS_COUNT 1 (setF (CHK_Uu_STAT_MATCH u) (b2n ok) (setF (CHK_Uu_STAT_STATE u) 3 s))))

/-- The next chunk of a scan: what is left of the line START lies in (R275). -/
def chkChunk (u : Nat) (s : State) : Nat := min (getF (CHK_Uu_LEN_LEN u) s) (64 - getF (CHK_Uu_START_START u) s % 64)

/-- Bytes scanned are counted in MiB. -/
def chkCount (n : Nat) (s : State) : State :=
  let k := tallyKey 13 CHK_T_BYTES_COUNT
  let x := look 0 k s.tallyRem + n
  tally 13 CHK_T_BYTES_COUNT (x / 2 ^ 20) { s with tallyRem := put k (if x % 2 ^ 20 = 0 then none else some (x % 2 ^ 20)) s.tallyRem }

/-- The scan engine reads one chunk, or the scan stops at it with an error (R275); a held read leaves the scan where it
is (R272). -/
def scanLine (u : Nat) (s : State) : State :=
  let a := getF (CHK_Uu_START_START u) s
  let n := chkChunk u s
  let o := chkOwner u s
  if partSt o s = 2 ∧ o < 8 then chkError u 4 s
  else if !rangeOk o false a n s then chkError u 1 s
  else if readHeld a s then s
  else if poisoned a s then chkError u 2 s
  else
    let s1 := match regulFor a s with
      | none => s
      | some x => spend o x n s
    let s2 := setF (CHK_Uu_RUN_RUN u) (chkFeed (getF (CHK_Uu_CTRL_MODE u) s) (getF (CHK_Uu_RUN_RUN u) s) (urRead a n s)) (chkCount n s1)
    let s3 := showResult u (setF (CHK_Uu_LEN_LEN u) (getF (CHK_Uu_LEN_LEN u) s - n) (setF (CHK_Uu_START_START u) (a + n) s2))
    if getF (CHK_Uu_LEN_LEN u) s3 = 0 then chkEnd u s3 else s3

/-- Up to n chunks of a running scan. -/
def scanLoop (u : Nat) : Nat → State → State
  | 0, s => s
  | n + 1, s => if chkRunning u s then scanLoop u n (scanLine u s) else s

/-- GO (R274, R277). -/
def chkStart (u : Nat) (s : State) : State :=
  if getF (CHK_Uu_LEN_LEN u) s = 0 then chkError u 3 s
  else
    let s1 := setF (CHK_Uu_STAT_MATCH u) 0 (setF (CHK_Uu_STAT_ERR u) 0 (setF (CHK_Uu_STAT_STATE u) 1 s))
    if flagF (CHK_Uu_CTRL_RESEED u) s then
      showResult u (setF (CHK_Uu_RUN_RUN u) (chkSeed (getF (CHK_Uu_CTRL_MODE u) s) (getF (CHK_Uu_SEEDADDR_A u) s)) s1)
    else s1

/-- The fields that a write of CHK_Uu_CTRL gives; a VF cannot write OWNER (R277). -/
def chkFields (f u w : Nat) (s : State) : State :=
  let s1 := setF (CHK_Uu_CTRL_CMP u) (w / 16) (setF (CHK_Uu_CTRL_MODE u) (w / 8) (setF (CHK_Uu_CTRL_RESEED u) (w / 4) s))
  showResult u (if f = 0 ∧ 4 ≤ u % 16 then setF (CHK_Uu_CTRL_OWNER u) (w / 256) s1 else s1)

/-- A write of CHK_Uu_CTRL while the scan runs leaves the fields and sets REFUSED; a STOP that repeats them does not
(DEDUCED, log entry 22). -/
def chkRefused (u : Nat) (s : State) : State := setF (CHK_Uu_STAT_REFUSED u) 1 s

/-- The fields of a CTRL write repeat those in force. -/
def chkSame (u w : Nat) (s : State) : Bool :=
  decide (w / 4 % 2 = getF (CHK_Uu_CTRL_RESEED u) s) && decide (w / 8 % 2 = getF (CHK_Uu_CTRL_MODE u) s) &&
    decide (w / 16 % 2 = getF (CHK_Uu_CTRL_CMP u) s) && decide (w / 256 % 16 = chkOwner u s)

/-- A write of CHK_Uu_CTRL by function f (R277): both GO and STOP are applied as STOP alone; lines is how many chunks
the scan has read when a STOP reaches it. -/
def chkCtrlWrite (f u w lines : Nat) (s : State) : State :=
  if !chkSees f u s then s
  else if chkRunning u s then
    if bitAt 1 w then
      let s1 := scanLoop u (if getF (CHK_Uu_START_START u) s % 64 = 0 then lines else max 1 lines) s
      let s2 := if chkRunning u s1 then setF (CHK_Uu_STAT_STATE u) 2 s1 else s1
      if chkSame u w s then s2 else chkRefused u s2
    else chkRefused u s
  else
    let s1 := chkFields f u w s
    if bitAt 0 w ∧ !bitAt 1 w then chkStart u s1 else s1

/-- CHK_GO: a write of CHK_Uu_CTRL with GO. -/
def execChkGo (f : Fin 33) (u : Fin 64) (w : BitVec 32) (s : State) : Host.Outcome State Fault Refusal :=
  goesOn s (if !hostUp f s then s else if w.toNat % 2 = 1 then chkCtrlWrite f u w.toNat 0 s else s)

/-- CHK_STOP: a write of CHK_Uu_CTRL with STOP (R276). -/
def execChkStop (f : Fin 33) (u : Fin 64) (w : BitVec 32) (lines : Nat) (s : State) : Host.Outcome State Fault Refusal :=
  goesOn s (if !hostUp f s then s else if bitAt 1 w.toNat then chkCtrlWrite f u w.toNat lines s else s)

/-- CHK_SCAN_END (R275): a running scan reads on to its end, or to the line that stops it. -/
def execChkScanEnd (u : Fin 64) (s : State) : Host.Outcome State Fault Refusal :=
  goesOn s (scanLoop u (getF (CHK_Uu_LEN_LEN u) s / 64 + 2) s)

end Sys2Proof.Machine
end

