-- ==== Sys2Proof/Machine/Engines.lean ====
section
/-! DEFINITION. Engine sets and what they reach: scalar registers, tokens, Core Scratch, the words of an instruction, the
Tile Queue, and the contexts and partitions they work for (R188, R216 to R225, R236, R325, R348). -/

namespace Sys2Proof.Machine

/-! ### Contexts and partitions -/

/-- Context c. -/
def ctxOf (c : Nat) (s : State) : Option Ctx := lookup c s.ctxs

/-- Contexts of partition p. -/
def ctxsOf (p : Nat) (s : State) : List (Nat × Ctx) := s.ctxs.filter (fun c => decide (c.2.part = p))

/-- Shows the context counts of partition p and of the device (R348). -/
def showCtx (p : Nat) (s : State) : State :=
  let l := ctxsOf p s
  setF SCHED_STAT_CTXS s.ctxs.length
    (setF (SCHED_Pp_CTX_WAITING p) (l.filter (fun c => decide (c.2.sub = 1) && !c.2.resident)).length
      (setF (SCHED_Pp_CTX_RESIDENT p) (l.filter (fun c => c.2.resident)).length (setF (SCHED_Pp_CTX_CTXS p) l.length s)))

/-- Replaces context c, or removes it. -/
def putCtx (c : Nat) (x : Option Ctx) (s : State) : State :=
  let p := ((x.or (ctxOf c s)).map (fun y => y.part)).getD 0
  showCtx p { s with ctxs := put c x s.ctxs }

/-- Changes context c. -/
def modCtx (c : Nat) (f : Ctx → Ctx) (s : State) : State :=
  match ctxOf c s with
  | none => s
  | some x => putCtx c (some (f x)) s

/-- Changes the STEP that context c runs, which heads its queue. -/
def modStep (c : Nat) (f : Step → Step) (s : State) : State :=
  modCtx c (fun x => match x.queue with
    | [] => x
    | q :: r => { x with queue := f q :: r }) s

/-- The STEP that context c runs. -/
def stepOf (c : Nat) (s : State) : Option Step := (ctxOf c s).bind (fun x => x.queue.head?)

/-- Partition p is in Deterministic mode (R356). -/
def detPart (p : Nat) (s : State) : Bool := decide (p < 8) && flagF (SCHED_Pp_INFO_DET p) s

/-- Partition p holds logical core n (R332, R340). -/
def partHolds (p n : Nat) (s : State) : Bool :=
  bitAt (n % 64) (getF (SCHED_Pp_CORESi_CORES p (n / 64)) s)

/-- The logical cores of partition p, ascending. -/
def partCores (p : Nat) (s : State) : List Nat := (List.range 144).filter (fun n => partHolds p n s)

/-- A Lease of core n. -/
def leaseOf (n : Nat) (s : State) : Option Lease := s.leases.find? (fun l => decide (l.core = n))

/-- The cores on which context c holds a Lease. -/
def leaseCores (c : Nat) (s : State) : List Nat := (s.leases.filter (fun l => decide (l.ctx = c))).map (fun l => l.core)

/-- Changes the Lease of core n, or removes it. -/
def setLease (n : Nat) (l : Option Lease) (s : State) : State :=
  { s with leases := s.leases.flatMap (fun x => if x.core = n then l.toList else [x]) }

/-! ### Engine sets -/

/-- The engine set of core n. -/
def engAt (n : Nat) (s : State) : Option EngSet := lookup n s.eng

/-- Replaces the engine set of core n, or removes it. -/
def putEng (n : Nat) (x : Option EngSet) (s : State) : State := { s with eng := put n x s.eng }

/-- Changes the engine set of core n. -/
def modEng (n : Nat) (f : EngSet → EngSet) (s : State) : State :=
  match engAt n s with
  | none => s
  | some x => putEng n (some (f x)) s

/-- The set goes forward now. -/
def moved (s : State) (x : EngSet) : EngSet := { x with act := s.now }

/-- Engine e of a set: 0 Load, 1 Matrix, 2 Vector, 3 Store. -/
def engine (x : EngSet) (e : Nat) : Engine :=
  match e with
  | 0 => x.ld
  | 1 => x.mx
  | 2 => x.vc
  | _ => x.sr

/-- Changes engine e of a set. -/
def putEngine (x : EngSet) (e : Nat) (g : Engine) : EngSet :=
  match e with
  | 0 => { x with ld := g }
  | 1 => { x with mx := g }
  | 2 => { x with vc := g }
  | _ => { x with sr := g }

/-- Scalar register r: G0 reads 0 (R216). -/
def gReg (g : Engine) (r : Nat) : Nat := if r = 0 then 0 else look 0 r g.g % 2 ^ 64

/-- Writes scalar register r; a write of G0 is discarded (R216). -/
def setG (r v : Nat) (g : Engine) : Engine :=
  if r = 0 then g else { g with g := put r (if v % 2 ^ 64 = 0 then none else some (v % 2 ^ 64)) g.g }

/-- Token counter k (R219). -/
def tokOf (x : EngSet) (k : Nat) : Nat := look 0 k x.tok

/-- Gives token counter k a value. -/
def setTok (k v : Nat) (x : EngSet) : EngSet := { x with tok := put k (if v = 0 then none else some v) x.tok }

/-- An engine waits: its state code of R237, its instruction evaluated again later. -/
def waitAs (code e : Nat) (x : EngSet) : EngSet := putEngine x e { engine x e with st := code }

/-- An engine goes on after an instruction of n words. -/
def advance (e n : Nat) (x : EngSet) : EngSet :=
  let g := engine x e
  putEngine x e { g with pc := g.pc + 8 * n, st := 1 }

/-! ### Core Scratch (R188) -/

/-- A range lies in the area of Core Scratch that a set may reach: the STEP area, or the radio area of firmware. -/
def inArea (x : EngSet) (a n : Nat) : Bool :=
  if x.radio.isSome then decide (0x1C0000 ≤ a) && decide (a + n ≤ 0x200000) else decide (a + n ≤ 0x1C0000)

/-- Bytes of core n's Core Scratch. -/
def csRead (n a len : Nat) (s : State) : List Byte := readBytes s.scratch (n * 2 ^ 21 + a) len

/-- Writes bytes of core n's Core Scratch. -/
def csWrite (n a : Nat) (l : List Byte) (s : State) : State := { s with scratch := writeBytes (n * 2 ^ 21 + a) l s.scratch }

/-- Fills the STEP area of core n with zeros (R333). -/
def fillStep (n : Nat) (s : State) : State := { s with scratch := fillZero (n * 2 ^ 21) 0x1C0000 s.scratch }

/-! ### Instruction words (R217, R218, R482) -/

/-- Fields of a word. -/
def insOp (w : Nat) : Nat := w % 256
def insD (w : Nat) : Nat := bitsAt 12 8 w
def insA (w : Nat) : Nat := bitsAt 17 13 w
def insB (w : Nat) : Nat := bitsAt 22 18 w
def insC (w : Nat) : Nat := bitsAt 27 23 w
def insMode (w : Nat) : Nat := bitsAt 31 28 w
def insImm (w : Nat) : Int := bitsInt 32 (w / 2 ^ 32)
/-- Token layout. -/
def insTok (w : Nat) : Nat := bitsAt 11 8 w
def insCount (w : Nat) : Nat := bitsAt 19 12 w
/-- Vector layout. -/
def insK (w : Nat) : Nat := bitsAt 30 28 w
def insFkd (w : Nat) : Nat := bitsAt 34 32 w
def insVimm (w : Nat) : Nat := bitsAt 63 40 w

/-- Bits hi to lo as a mask. -/
def fieldMask (hi lo : Nat) : Nat := 2 ^ (hi + 1) - 2 ^ lo

/-- The fields of the scalar layout, by which of GD, GA, GB, GC, mode and the immediate an instruction uses. -/
def scalarMask (d a b c m i : Bool) : Nat :=
  255 + (if d then fieldMask 12 8 else 0) + (if a then fieldMask 17 13 else 0) + (if b then fieldMask 22 18 else 0) +
    (if c then fieldMask 27 23 else 0) + (if m then fieldMask 31 28 else 0) + (if i then fieldMask 63 32 else 0)

/-- The bits an instruction may set: its opcode and the fields it uses (R218, R482).  OC is bits 9 and 8 of a fabric
instruction's immediate, and ROP and RTYPE its bits 7 to 0 (R297). -/
def usedMask (op : Nat) : Nat :=
  if op = 0x00 ∨ op = 0x01 ∨ op = 0x41 ∨ op = 0xA9 then 255
  else if op = 0x03 then scalarMask true true false false false true
  else if op ≤ 0x0D then scalarMask true true true false false false
  else if op = 0x0E then scalarMask true false false false false true
  else if op = 0x0F then scalarMask true true false false false true
  else if op ≤ 0x13 then scalarMask false true true false false true
  else if op = 0x14 then scalarMask false false false false false true
  else if op = 0x15 then scalarMask false true false false false true
  else if op = 0x20 ∨ op = 0x21 then 255 + fieldMask 11 8 + fieldMask 19 12
  else if op = 0x28 ∨ op = 0x29 then scalarMask false true true true false true
  else if op = 0x2A then scalarMask false false false false true false
  else if op = 0x32 then scalarMask false true true true true false + fieldMask 41 40 + fieldMask 39 32
  else if op = 0x30 ∨ op = 0x31 ∨ op = 0x33 then scalarMask false true true true true false + fieldMask 41 40
  else if op = 0x34 ∨ op = 0x35 then scalarMask false false false false true false + fieldMask 41 40
  else if op = 0x40 then 255 + fieldMask 22 8
  else if op = 0x48 ∨ op = 0xA8 then scalarMask true false false false false false
  else 255 + fieldMask 30 8 + fieldMask 34 32 + fieldMask 63 40

/-- The opcode is one of R218's that engine e may issue. -/
def opAllowed (e op : Nat) : Bool :=
  if op ≤ 0x15 ∨ op = 0x20 ∨ op = 0x21 then true
  else match e with
    | 0 => decide (op = 0x28 ∨ op = 0x2A ∨ op = 0x30 ∨ op = 0x35)
    | 1 => decide (op = 0x40 ∨ op = 0x41)
    | 2 => decide (op = 0x48 ∨ (0x50 ≤ op ∧ op ≤ 0x53) ∨ (0x60 ≤ op ∧ op ≤ 0xA0) ∨ op = 0xA8 ∨ op = 0xA9)
    | _ => decide (op = 0x29 ∨ op = 0x2A ∨ (0x31 ≤ op ∧ op ≤ 0x35))

/-- Field ranges that R217, R219, R221, R224, R227 and R297 set beyond the fields in use. -/
def insRanges (e w : Nat) : Bool :=
  let op := insOp w
  if op = 0x20 ∨ op = 0x21 then decide (1 ≤ insCount w)
  else if op = 0x2A then decide (insMode w = 1) || (decide (insMode w = 0) && decide (e = 3))
  else if op = 0x48 then decide (insD w % 2 = 0) && decide (2 ≤ insD w) && decide (insD w ≤ 30)
  else if 0x30 ≤ op ∧ op ≤ 0x35 then decide (insMode w < 8)
  else if op = 0x40 then (bitAt 12 w || decide (bitsAt 11 8 w = 0)) && (bitAt 17 w || decide (bitsAt 16 13 w = 0)) && (bitAt 22 w || decide (bitsAt 21 18 w = 0))
  else true

/-- A word is legal on engine e (R218). -/
def insLegal (e w : Nat) : Bool :=
  opAllowed e (insOp w) && decide (w &&& (2 ^ 64 - 1 - usedMask (insOp w)) = 0) && insRanges e w

/-! ### Tile tables (R235, R350) -/

/-- The 32 bytes of entry j of a tile table. -/
def tileEntry (image : Nat) (t : TileTab) (j : Nat) (s : State) : List Byte := urRead (image + t.tileTab + 32 * j) 32 s

/-- First item and item count of tile j. -/
def tileItems (image : Nat) (t : TileTab) (j : Nat) (s : State) : Nat × Nat :=
  let l := tileEntry image t j s
  (fieldLE l 24 4, fieldLE l 28 4)

/-- First tile of stage k; the tile count past the last stage. -/
def stageStart (image : Nat) (t : TileTab) (k : Nat) (s : State) : Nat :=
  if k < t.nStages then leNat (urRead (image + t.stageTab + 4 * k) 4 s) else t.nTiles

/-! ### Events of the Matrix Cores -/

/-- Sets a bit of MXC_STAT and raises its vector where enabled (R215). -/
def mxcEvent (f : Fld) (s : State) : State := event f 0 MXC_EVT_MASK_MASK (f.lo - 16) MXC_EVT_VEC_VEC s

/-- Sets a bit of SCHED_STAT and raises its vector where enabled (R348). -/
def schedEvent (f : Fld) (s : State) : State := event f 0 SCHED_EVT_MASK_MASK (f.lo - 16) SCHED_EVT_VEC_VEC s

end Sys2Proof.Machine
end

