-- ==== Sys2Proof/Machine/Fronthaul.lean ====
section
/-! DEFINITION. The Fronthaul Engines: ports and their writes, ingress classification and policing, block floating
point, the timing wheels and egress queues, and Direct IQ (R108 to R134). -/

namespace Sys2Proof.Machine

/-! ### Port, profile, shaper and policer writes -/

/-- Sets a bit of FH_STAT of engine p and raises its vector where enabled (R134). -/
def fhEvent (p : Nat) (f : Fld) (s : State) : State := event f 0 (FH_EVT_MASK_MASK p) f.lo (FH_EVT_VEC_VEC p) s

/-- The registers at offsets from a up to b hold their reset values. -/
def clearRegs (a b : Nat) (s : State) : State :=
  { s with regs := s.regs.filter (fun k => !(decide (a ≤ k.1 / 64) && decide (k.1 / 64 < b))) }

/-- A port is down on every sub-port while it retrains (R109, R110). -/
def portRetrain (p : Nat) (s : State) : State := setF (FH_PORT_STAT_LINK p) 0 s

/-- Empties the egress queues of engine p with the round robin's state. -/
def queuesClear (p : Nat) (s : State) : State :=
  { s with fhQueue := s.fhQueue.filter (fun q => decide (q.1 / 128 ≠ p))
           fhActive := s.fhActive.filter (fun q => decide (q.1 / 64 ≠ p))
           fhDeficit := s.fhDeficit.filter (fun q => decide (q.1 / 128 ≠ p))
           fhVisit := s.fhVisit.filter (fun q => decide (q.1 / 64 ≠ p))
           fhTokens := s.fhTokens.filter (fun q => decide (q.1 / 128 ≠ p))
           fhShape := s.fhShape.filter (fun q => decide (q.1 / 128 ≠ p)) }

/-- PORT_MODE_WRITE (R109): refused while a cell not ABSENT is bound to the port; otherwise every sub-port retrains and
the port's Flow Table entries and queue settings are cleared. -/
def execPortModeWrite (p : Fin 4) (w : BitVec 32) (s : State) : Host.Outcome State Fault Refusal :=
  goesOn s (if !hostUp 0 s then s else if s.cells.any (fun c => decide (cfgLport c.2.cfg / 8 = p.val)) then fhEvent p (FH_STAT_MODE_REFUSED p) s
    else
      let s1 := (flowsValid p s).foldl (fun s f => flowRemove p f s) s
      let s2 := queuesClear p (clearRegs (FH_Qq_CFG p 0) (FH_Qq_CFG p 128) s1)
      portRetrain p (setF (FH_PORT_CFG_MODE p) (w.toNat % 4) s2))

/-- A flow of a cell not ABSENT names Window Profile k of engine p (R115). -/
def profileUsed (p k : Nat) (s : State) : Bool :=
  s.cells.any (fun c => decide (cfgLport c.2.cfg / 8 = p) && (cfgUsedFlows c.2.cfg).any (fun e => decide (flowWp e = k)))

/-- The field of T1A register i (1 to 6) of Window Profile k: maxima at the odd numbers, minima at the even ones. -/
def t1aFld (p k i : Nat) : Fld :=
  match i with
  | 1 => FH_WPk_T1A_MAX_UP_T1A_x p k
  | 2 => FH_WPk_T1A_MIN_UP_T1A_x p k
  | 3 => FH_WPk_T1A_MAX_CP_DL_T1A_x p k
  | 4 => FH_WPk_T1A_MIN_CP_DL_T1A_x p k
  | 5 => FH_WPk_T1A_MAX_CP_UL_T1A_x p k
  | _ => FH_WPk_T1A_MIN_CP_UL_T1A_x p k

/-- A T1A minimum and maximum are in order and span at least 8,192 Tc (R115). -/
def t1aOk (lo hi : Nat) : Bool := decide (lo + 8192 ≤ hi)

/-- WP_WRITE (R115): a write of register i of Window Profile k (0 CFG, 1 to 6 T1A, 7 TA4) takes effect or is refused with
WP_REFUSED; each value is compared with its partner as the partner stands after the write. -/
def execWpWrite (p : Fin 4) (k : Fin 16) (i : Fin 8) (w : BitVec 32) (s : State) : Host.Outcome State Fault Refusal :=
  let v := w.toNat
  let refuse := fhEvent p (FH_STAT_WP_REFUSED p) s
  goesOn s (if !hostUp 0 s then s else if profileUsed p k s then refuse
    else if i.val = 0 then setF (FH_WPk_CFG_EARLY_ACC p k) v s
    else if i.val = 7 then
      (if v / 65536 ≤ v % 65536 then refuse else setF (FH_WPk_TA4_TA4_MAX p k) (v / 65536) (setF (FH_WPk_TA4_TA4_MIN p k) v s))
    else
      let x := v % 2 ^ 24
      let ok := if i.val % 2 = 1 then t1aOk (getF (t1aFld p k (i.val + 1)) s) x else t1aOk x (getF (t1aFld p k (i.val - 1)) s)
      if ok then setF (t1aFld p k i) x s else refuse)

/-- Admitted egress FH credit of the flows mapped to queue q of engine p, in bytes per ms (R124): each downlink flow of a
cell carries an equal part of the cell's credit. -/
def queueCredit (p q : Nat) (s : State) : Nat :=
  (s.cells.map (fun c =>
    if cfgLport c.2.cfg = p * 8 + q / 16 then
      ((cfgUsedFlows c.2.cfg).filter (fun e => (decide (flowKind e = 1) || decide (flowKind e = 5)) && decide (flowQueue e = q % 16))).length *
        (c.2.credit.fhOut / cfgS c.2.cfg)
    else 0)).sum

/-- SHAPE_WRITE (R124): refused when a RATE other than 0 is below the credit of the queue's flows (1 B per ms is
8 kb/s); an accepted write takes effect at the next refill (R123). -/
def execShapeWrite (p : Fin 4) (q : Fin 128) (v : BitVec 64) (s : State) : Host.Outcome State Fault Refusal :=
  let rate := v.toNat % 2 ^ 20
  goesOn s (if !hostUp 0 s then s else if rate ≠ 0 ∧ rate * 125 < queueCredit p q s then fhEvent p (FH_STAT_SHAPE_REFUSED p) s
    else setF (FH_Qq_SHAPE_BURST p q) (v.toNat / 2 ^ 32) (setF (FH_Qq_SHAPE_RATE p q) rate s))

/-- Units of the markers' buckets in one byte: 1/1,536,000 bit, in which CIR Mb/s adds CIR for each unit of time. -/
def markerByte : Nat := 8 * 1536000

/-- POLICER_WRITE (R126): a write of FH_Ff_RATE, or of FH_Ff_BURST, is refused when PIR is below CIR, or when CBS or PBS
is 0 while PIR is not; an accepted write fills both buckets. -/
def execPolicerWrite (p : Fin 4) (f : Fin 1024) (burst : Bool) (v : BitVec 64) (s : State) : Host.Outcome State Fault Refusal :=
  let lo := v.toNat % 2 ^ 32
  let hi := v.toNat / 2 ^ 32
  let cir := if burst then getF (FH_Ff_RATE_CIR p f) s else lo
  let pir := if burst then getF (FH_Ff_RATE_PIR p f) s else hi
  let cbs := if burst then lo else getF (FH_Ff_BURST_CBS p f) s
  let pbs := if burst then hi else getF (FH_Ff_BURST_PBS p f) s
  goesOn s (if !hostUp 0 s then s else if pir < cir ∨ (pir ≠ 0 ∧ (cbs = 0 ∨ pbs = 0)) then fhEvent p (FH_STAT_POL_REFUSED p) s
    else
      let s1 := setF (FH_Ff_BURST_PBS p f) pbs (setF (FH_Ff_BURST_CBS p f) cbs (setF (FH_Ff_RATE_PIR p f) pir (setF (FH_Ff_RATE_CIR p f) cir s)))
      { s1 with marker := put (p.val * 1024 + f.val) (some ⟨cbs * markerByte, pbs * markerByte, s.now⟩) s1.marker })

/-! ### Links (R108, R110) -/

/-- SUB_PORT_LINK_UP (R110): a sub-port's link comes up; a sub-port that the breakout does not create has none. -/
def execSubPortLinkUp (lport : Fin 32) (s : State) : Host.Outcome State Fault Refusal :=
  goesOn s (if subPortExists lport s then spareDone 6 (lport.val / 8) (orF (FH_PORT_STAT_LINK (lport.val / 8)) (lport.val % 8) s) else s)

/-- The link of a logical port is up. -/
def linkUp (k : Nat) (s : State) : Bool := bitAt (k % 8) (getF (FH_PORT_STAT_LINK (k / 8)) s)

/-- SUB_PORT_LINK_DOWN (R447): a sub-port's link goes down; a SyncE output that selects it is held low while it is. -/
def execSubPortLinkDown (lport : Fin 32) (s : State) : Host.Outcome State Fault Refusal :=
  let f := FH_PORT_STAT_LINK (lport.val / 8)
  goesOn s (if linkUp lport s then setF f (getF f s - 2 ^ (lport.val % 8)) s else s)

/-- FH_LANE_SPARE (R371 class 6, R110): a lane of a port fails, or is to be replaced; the spare takes its place and the
port retrains, or, with the spare in use already, the port leaves service. -/
def laneSpareIn (p lane : Nat) (s : State) : State :=
  if flagF (FH_PORT_STAT_SPARE_IN p) s then
    unitRecord (portEvent true p 0 lane 0xA0 s) (noteNoSpare 6 0xA0 p lane 1 (portRetrain p s))
  else
    portRetrain p (noteSpared 6 0xA0 p lane 4 1 (subF FLT_SPARE_FH 1 (setF (FH_PORT_STAT_LANE_OUT p) lane (setF (FH_PORT_STAT_SPARE_IN p) 1 s))))

/-- FH_LANE_SPARE (R371). -/
def execFhLaneSpare (p : Fin 4) (lane : Nat) (s : State) : Host.Outcome State Fault Refusal :=
  goesOn s (withInject 7 p lane (laneSpareIn p lane) s)

/-! ### Block floating point (R113, R114) -/

/-- Saturation to 16 bits. -/
def sat16 (x : Int) : Int := clampInt (-32768) 32767 x

/-- The exponent and the mantissas of one PRB at iqWidth w (R113). -/
def bfpCompress (w : Nat) (l : List Int) : Nat × List Int :=
  let m := l.foldl (fun m x => max m (if 0 ≤ x then x.toNat else (-x - 1).toNat)) 0
  let b := if m = 0 then 1 else Nat.log2 m + 2
  let e := b - w
  (e, l.map (fun x => clampInt (-(2 ^ (w - 1) : Int)) ((2 ^ (w - 1) : Int) - 1) (if e = 0 then x else (x + 2 ^ (e - 1)) / (2 ^ e : Int))))

/-- The 16-bit values of one PRB (R114); bits [7:4] of udCompParam are ignored, and an uncompressed flow has none. -/
def bfpDecompress (w comp : Nat) (l : List Int) : List Int :=
  if w = 16 then l.map sat16 else l.map (fun x => sat16 (x * 2 ^ (comp % 16)))

/-- I and Q pairs from a list of I then Q. -/
def pairs : List Int → List (Int × Int)
  | i :: q :: r => (i, q) :: pairs r
  | _ => []

/-! ### Ingress (R112, R116 to R119, R126) -/

/-- The valid ingress flow of a Fronthaul Engine for a sub-port and eAxC ID (R112). -/
def ingressFlow (lport eaxc : Nat) (s : State) : Option Nat :=
  let p := lport / 8
  (List.range 1024).find? (fun f => flagF (FH_Ff_MAP_VALID p f) s && decide (getF (FH_Ff_MAP_DIR p f) s = 0) && decide (getF (FH_Ff_MAP_KIND p f) s ≠ 1) &&
    decide (getF (FH_Ff_MAP_SUBPORT p f) s = lport % 8) && decide (getF (FH_Ff_MAP_EAXC p f) s = eaxc))

/-- A colour of the marker. -/
inductive Colour where
  | green | yellow | red
  deriving DecidableEq, Repr

/-- The two-rate three-colour marker of flow f, colour-blind (R126): the buckets refill exactly from the elapsed time,
then the message of len bytes is coloured and draws its tokens. -/
def police (p f len : Nat) (s : State) : Colour × State :=
  let pir := getF (FH_Ff_RATE_PIR p f) s
  if pir = 0 then (.green, s)
  else
    let m := look ⟨0, 0, s.now⟩ (p * 1024 + f) s.marker
    let dt := s.now - m.last
    let tc := min (getF (FH_Ff_BURST_CBS p f) s * markerByte) (m.tc + getF (FH_Ff_RATE_CIR p f) s * dt)
    let tp := min (getF (FH_Ff_BURST_PBS p f) s * markerByte) (m.tp + pir * dt)
    let b := len * markerByte
    let keep (tc tp : Nat) : State := { s with marker := put (p * 1024 + f) (some ⟨tc, tp, s.now⟩) s.marker }
    if tp < b then (.red, keep tc tp)
    else if tc < b then (.yellow, keep tc (tp - b))
    else (.green, keep (tc - b) (tp - b))

/-- Counts a message in a counter of its sub-port (R134). -/
def countSub (f : Nat → Nat → Fld) (lport : Nat) (s : State) : State := tally (8 + lport / 8) (f (lport / 8) (lport % 8)) 1 s

/-- The classes of R117. -/
inductive RxClass where
  | early | ontime | late
  deriving DecidableEq, Repr

/-- The class of a message whose corrected stamp is t16 in 1/16 Tc, for a symbol or sample that starts at tsym (R117). -/
def classify (p wp : Nat) (t16 : Int) (tsym : Nat) (s : State) : RxClass :=
  let d := t16 - 16 * (tsym : Int)
  if d < (1024 * getF (FH_WPk_TA4_TA4_MIN p wp) s : Nat) then .early
  else if ((1024 * getF (FH_WPk_TA4_TA4_MAX p wp) s : Nat) : Int) < d then .late else .ontime

/-- The decisions of R119 after the flow lookup: class, policer, counters; the result says whether the message is
written. -/
def admitRx (lport f len : Nat) (cl : RxClass) (s : State) : Bool × State :=
  let p := lport / 8
  let c := getF (FH_Ff_MAP_CELL p f) s
  match police p f len s with
  | (col, s1) =>
    match cl with
    | .late => (false, tally (128 + c) (FH_Ff_LATE_COUNT p f) 1 (countSub FH_Ss_RX_LATE_COUNT lport s1))
    | _ =>
      if cl = .early ∧ ¬ flagF (FH_WPk_CFG_EARLY_ACC p (getF (FH_Ff_MAP_WP p f) s)) s then (false, countSub FH_Ss_RX_EARLY_COUNT lport s1)
      else if col = .red then (false, countSub FH_Ss_RX_RED_COUNT lport s1)
      else
        let s2 := countSub (if cl = .early then FH_Ss_RX_EARLY_COUNT else FH_Ss_RX_ONTIME_COUNT) lport s1
        (true, if col = .yellow then tally (128 + c) (FH_Ff_YELLOW_COUNT p f) 1 (countSub FH_Ss_RX_YELLOW_COUNT lport s2) else s2)

/-- The whole frame that frameId names, nearest the present frame (R116). -/
def nearestFrame (frameId now : Nat) : Int :=
  let d : Int := ((frameId : Int) - (now : Int)) % 256
  (now : Int) + (if 128 ≤ d then d - 256 else d)

/-- The arrival stamp of a frame on a domain, corrected by the receive latency, in 1/16 Tc (R46, R47, R117). -/
def rxStamp (n lport : Nat) (s : State) : Int := (count16 n s : Int) - stampLatency (lport / 8) (portSpeedCode (lport / 8) s) 0 s

/-- The start of the symbol that a U-plane message names, none where it names no symbol of its cell (R116). -/
def messageSym (l : List Byte) (m : RxMsg) (s : State) : Option Nat :=
  if 9 < m.subframeId ∨ 2 ^ cfgMu l ≤ m.slotId ∨ symPerSlot (cfgEcp l) ≤ m.symbolId then none
  else
    let f := nearestFrame m.frameId (counter (cfgTd l) s / Config.frameTc)
    if f < 0 then none else some (airToTc (cfgMu l) (cfgEcp l) f.toNat (m.subframeId * 2 ^ cfgMu l + m.slotId) m.symbolId)

/-- UPLANE_INGRESS (R119): an ingress message passes flow lookup, timing-window classification and the policer in one
cycle, and is written to the slot buffer or dropped and counted once. -/
def execUplaneIngress (msg : RxMsg) (s : State) : Host.Outcome State Fault Refusal :=
  let lp := msg.lport
  goesOn s (if !subPortExists lp s then s
    else if msg.bad then countSub FH_Ss_RX_BAD_COUNT lp s
    else if msg.msgType ≠ 0 then countSub FH_Ss_RX_NOFLOW_COUNT lp s
    else match ingressFlow lp msg.eaxc s with
      | none => countSub FH_Ss_RX_NOFLOW_COUNT lp s
      | some f =>
        let p := lp / 8
        let c := getF (FH_Ff_MAP_CELL p f) s
        match lookup c s.cells with
        | none => countSub FH_Ss_RX_NOFLOW_COUNT lp s
        | some x =>
          if getF (FH_Ff_MAP_KIND p f) s = 2 then s
          else match messageSym x.cfg msg s with
            | none => countSub FH_Ss_RX_BAD_COUNT lp s
            | some t =>
              match admitRx lp f msg.len (classify p (getF (FH_Ff_MAP_WP p f) s) (rxStamp (cfgTd x.cfg) lp s) t s) s with
              | (false, s1) => s1
              | (true, s1) =>
                let w := getF (FH_Ff_MAP_W p f) s
                let st := getF (FH_Ff_MAP_STREAM p f) s
                { s1 with slotBuf := (msg.prbs.map (fun r => (⟨c, st, t, r.prb, pairs (bfpDecompress w r.comp.toNat r.mant), 0⟩ : RxData))) ++ s1.slotBuf })

/-! ### Direct IQ (R129 to R133) -/

/-- What stream a of engine p holds. -/
def diqOf (p a : Nat) (s : State) : Diq := look Diq.reset (p * 64 + a) s.diq

/-- Changes what stream a of engine p holds. -/
def setDiq (p a : Nat) (d : Diq) (s : State) : State := { s with diq := put (p * 64 + a) (some d) s.diq }

/-- Samples in a frame (R129). -/
def frameSamples (p a : Nat) (s : State) : Nat := 307200 * 2 ^ getF (FH_DIQa_CFG_FS p a) s

/-- Ones among the n low bits of a number. -/
def ones : Nat → Nat → Nat
  | 0, _ => 0
  | n + 1, x => x % 2 + ones n (x / 2)

/-- A Frame Word matches FH_DIQa_FAW within FAW_TOL (R129). -/
def fawMatch (p a word : Nat) (s : State) : Bool :=
  decide (ones 64 (word ^^^ getF (FH_DIQa_FAW_WORD p a) s) ≤ getF (FH_DIQa_CFG_FAW_TOL p a) s)

/-- The RSSI of a stream now: the mean power of the last 256 input samples (R132). -/
def rssiNow (p a : Nat) (s : State) : Nat := (Config.powerDb ((diqOf p a s).last256.sum / 256)).toNat

/-- Latches RSSI.FAW (R132). -/
def latchFaw (p a : Nat) (s : State) : State := addF (FH_DIQa_RSSI_FAW_SEQ p a) 1 (setF (FH_DIQa_RSSI_FAW p a) (rssiNow p a s) s)

/-- A Direct IQ counter of a cell's stream counts in the engine's Tally group. -/
def countDiq (f : Fld) (p : Nat) (s : State) : State := tally (8 + p) f 1 s

/-- The whole frame whose start lies nearest t_a − TA4_MIN (R129). -/
def syncFrame (p wp : Nat) (t16 : Int) (s : State) : Nat :=
  let x := t16 / 16 - (64 * getF (FH_WPk_TA4_TA4_MIN p wp) s : Nat)
  ((x + (Config.frameTc / 2 : Nat)) / (Config.frameTc : Int)).toNat

/-- A stream goes to an alignment state. -/
def setAlign (p a v : Nat) (s : State) : State := setF (FH_DIQa_STAT_ALIGN p a) v s

/-- The alignment state machine on one Frame Word (R129): m says whether it matches; in HUNT a match starts frame 0 of
the count. -/
def alignStep (p a wp : Nat) (t16 : Int) (m : Bool) (s : State) : State :=
  let d := diqOf p a s
  let st := getF (FH_DIQa_STAT_ALIGN p a) s
  let missed (s : State) : State := countDiq (FH_DIQa_MISS_MISS p a) p s
  if st = 0 then
    if m then setAlign p a 1 (setDiq p a { d with cnt := 0, confirm := 0, miss := 0 } s) else s
  else if d.cnt ≠ 0 then (if m then countDiq (FH_DIQa_MISS_STRAY p a) p s else s)
  else if st = 1 then
    if m then
      if getF (FH_DIQa_CFG_FAW_CONFIRM p a) s ≤ d.confirm + 1 then
        setAlign p a 2 (setDiq p a { d with confirm := 0, miss := 0, frame := syncFrame p wp t16 s, symPow := 0, symCnt := 0, prevPow := none } s)
      else setDiq p a { d with confirm := d.confirm + 1 } s
    else setAlign p a 0 (missed s)
  else
    if m then setDiq p a { d with miss := 0 } s
    else if getF (FH_DIQa_CFG_FAW_LOSS p a) s ≤ d.miss + 1 then setAlign p a 0 (missed (setDiq p a { d with miss := 0 } s))
    else missed (setDiq p a { d with miss := d.miss + 1 } s)

/-- The message's samples pass the count: the next message starts that much later, in the next frame past its end
(R129, R130). -/
def advanceCount (p a n : Nat) (s : State) : State :=
  let d := diqOf p a s
  let x := d.cnt + n
  let fs := frameSamples p a s
  if x < fs then setDiq p a { d with cnt := x } s
  else setDiq p a { d with cnt := x - fs, frame := d.frame + 1, bank := getF (FH_DIQa_CFG_BANK p a) s } s

/-- The AGC's gain on one value: clamp((x × G + 2,048) >> 12) (R131). -/
def applyGain (g : Nat) (x : Int) : Int := sat16 ((x * g + 2048) / 4096)

/-- Coefficient k of bank b of stream a, signed (R133). -/
def coef (p a b k : Nat) (s : State) : Int := bitsInt 16 (look 0 (((p * 64 + a) * 2 + b) * 128 + k) s.diqCoef)

/-- One output of the filter over its delay line, newest first: the exact sum, rounded half up, shifted right by 15 and
saturated (R133). -/
def firOut (co : List Int) (line : List (Int × Int)) : Int × Int :=
  let sum (f : Int × Int → Int) : Int := ((co.zip line).map (fun x => x.1 * f x.2)).sum
  (sat16 ((sum Prod.fst + 16384) / 32768), sat16 ((sum Prod.snd + 16384) / 32768))

/-- The coefficients in use of stream a. -/
def coefs (p a : Nat) (s : State) : List Int := (List.range (getF (FH_DIQa_CFG_TAPS p a) s)).map (fun k => coef p a (diqOf p a s).bank k s)

/-- Filters samples from index i of the frame on: with decimation only even indices give an output (R133). -/
def firRun (co : List Int) (dec : Bool) : Nat → List (Int × Int) → List (Int × Int) → List (Int × Int) × List (Int × Int)
  | _, line, [] => ([], line)
  | i, line, x :: r =>
    let line1 := (x :: line).take 96
    let o := firRun co dec (i + 1) line1 r
    (if dec ∧ i % 2 = 1 then o.1 else firOut co line1 :: o.1, o.2)

/-- Power of a sample. -/
def powerOf (x : Int × Int) : Nat := (x.1 * x.1 + x.2 * x.2).toNat

/-- The input samples of a message are measured for RSSI (R132). -/
def measure (p a : Nat) (xs : List (Int × Int)) (s : State) : State :=
  let d := diqOf p a s
  setDiq p a { d with last256 := ((xs.map powerOf).reverse ++ d.last256).take 256 } s

/-- The samples of a written message: gain, filter, slot buffer, and the symbol's power (R131, R133). -/
def writeSamples (p a c st t : Nat) (xs : List (Int × Int)) (s : State) : State :=
  let d := diqOf p a s
  let g := getF (FH_DIQa_STAT_GAIN p a) s
  match firRun (coefs p a s) (flagF (FH_DIQa_CFG_RATE2 p a) s) d.cnt d.line (xs.map (fun x => (applyGain g x.1, applyGain g x.2))) with
  | (out, line) =>
    let s1 := setDiq p a { d with line := line, symPow := d.symPow + (xs.map powerOf).sum, symCnt := d.symCnt + xs.length } s
    { s1 with slotBuf := ⟨c, st, t, d.cnt, out, g⟩ :: s1.slotBuf }

/-- DIQ_INGRESS (R129, R130): a Direct IQ message of stream a is aligned, classified by its first sample's air time,
measured, and in SYNC written through gain and filter or dropped; either way the sample count advances. -/
def execDiqIngress (msg : DiqMsg) (s : State) : Host.Outcome State Fault Refusal :=
  let lp := msg.lport
  let p := lp / 8
  goesOn s (if !subPortExists lp s then s
    else match (ingressFlow lp msg.eaxc s).filter (fun f => decide (getF (FH_Ff_MAP_KIND p f) s = 2)) with
      | none => if msg.fcsBad then s else countSub FH_Ss_RX_NOFLOW_COUNT lp s
      | some f =>
        let a := diqStream 4 msg.eaxc
        match lookup (getF (FH_Ff_MAP_CELL p f) s) s.cells with
        | none => s
        | some x =>
          if (msg.fcsBad ∧ ¬ flagF (FH_Ss_CFG_ACC_FCS p (lp % 8)) s) ∨ ¬ flagF (FH_DIQa_CFG_EN p a) s then s
          else
            let wp := getF (FH_Ff_MAP_WP p f) s
            let t16 := rxStamp (cfgTd x.cfg) lp s
            let m := fawMatch p a msg.frameWord s
            let s1 := if msg.fcsBad then countDiq (FH_DIQa_MISS_FCSERR p a) p s else s
            let s2 := alignStep p a wp t16 m (if m then latchFaw p a s1 else s1)
            let d := diqOf p a s2
            let n := msg.samples.length
            let s3 := if getF (FH_DIQa_STAT_ALIGN p a) s2 = 2 then
                let t := d.frame * Config.frameTc + d.cnt * 64 / 2 ^ getF (FH_DIQa_CFG_FS p a) s2
                match admitRx lp f msg.len (classify p wp t16 t s2) s2 with
                | (true, s3) => writeSamples p a (getF (FH_Ff_MAP_CELL p f) s) (getF (FH_Ff_MAP_STREAM p f) s) t msg.samples s3
                | (false, s3) => s3
              else s2
            let s4 := measure p a msg.samples s3
            if getF (FH_DIQa_STAT_ALIGN p a) s4 = 0 then s4 else advanceCount p a n s4)

/-- A detection freezes the gain of an ingress stream for HOLD slots, or restarts the count (R131). -/
def freeze (p a td mu : Nat) (s : State) : State :=
  let d := diqOf p a s
  setF (FH_DIQa_STAT_FROZEN p a) 1
    (setDiq p a { d with holdUntil := counter td s + usToTc (slotUs mu * getF (FH_DIQa_AGC_HOLD p a) s) } s)

/-- The cell whose flow feeds ingress stream a of engine p. -/
def streamCell (p a : Nat) (s : State) : Option Cell :=
  (s.cells.find? (fun c => cfgDiq c.2.cfg && decide (cfgLport c.2.cfg / 8 = p) &&
    (cfgUsedFlows c.2.cfg).any (fun e => decide (flowKind e = 4) && decide (diqStream 4 (flowEaxc e) = a)))).map Prod.snd

/-- The largest gain that a test allows, found bit by bit from bit n down. -/
def bisect (ok : Nat → Bool) : Nat → Nat → Nat
  | 0, g => g
  | n + 1, g => bisect ok n (if ok (g + 2 ^ n) then g + 2 ^ n else g)

/-- The greatest gain that one move of STEP × 0.5 dB reaches: (g' / g)^40 ≤ 10^STEP. -/
def gainUp (g step : Nat) : Nat := bisect (fun h => decide (h ^ 40 ≤ g ^ 40 * 10 ^ step)) 16 0

/-- The least gain that one move reaches: (g / g')^40 ≤ 10^STEP. -/
def gainDown (g step : Nat) : Nat := min g (bisect (fun h => decide (h ^ 40 * 10 ^ step < g ^ 40)) 16 0 + 1)

/-- The mean power pw of a symbol at gain g lies below TARGET: pw × (g / 4,096)² against 2^30 × 10^(−TARGET / 160). -/
def belowTarget (pw g target : Nat) : Bool := decide ((pw * g ^ 2) ^ 160 * 10 ^ target < (2 ^ 54) ^ 160)

/-- The next gain: which value the AGC takes is not given, only its direction and the bound of the move, so it is a
free value within them (R131, log entry 18). -/
def nextGain (pw g step target : Nat) (s : State) : Nat × State :=
  match drawFree 16 s with
  | (v, s1) =>
    let lo := if belowTarget pw g target then g else gainDown g step
    let hi := if belowTarget pw g target then gainUp g step else g
    (lo + v % (hi + 1 - lo), s1)

/-- AGC_SYMBOL_BOUNDARY (R131): at a symbol boundary of an aligned stream a rise by DET × 0.5 dB over the previous
symbol is a detection; otherwise a gain that is not frozen moves toward the value that brings the symbol's power to
TARGET, by at most STEP × 0.5 dB. -/
def execAgcSymbolBoundary (p : Fin 4) (a : Fin 32) (s : State) : Host.Outcome State Fault Refusal :=
  let d := diqOf p a s
  goesOn s (match streamCell p a s with
    | none => s
    | some x =>
      if flagF (FH_DIQa_CFG_EN p a) s ∧ getF (FH_DIQa_STAT_ALIGN p a) s = 2 ∧ d.symCnt ≠ 0 then
        let pw := d.symPow / d.symCnt
        let rise := match d.prevPow with
          | none => false
          | some q => decide (q ^ 20 * 10 ^ getF (FH_DIQa_AGC_DET p a) s < pw ^ 20)
        let s1 := setDiq p a { d with symPow := 0, symCnt := 0, prevPow := some pw } s
        if rise then freeze p a (cfgTd x.cfg) (cfgMu x.cfg) s1
        else if flagF (FH_DIQa_STAT_FROZEN p a) s then s1
        else match nextGain pw (getF (FH_DIQa_STAT_GAIN p a) s) (getF (FH_DIQa_AGC_STEP p a) s) (getF (FH_DIQa_AGC_TARGET p a) s) s1 with
          | (g, s2) => setF (FH_DIQa_STAT_GAIN p a) g s2
      else s)

/-- AGC_HOLD_EXPIRY (R131): the HOLD count of a frozen stream has expired, and tracking resumes at the next boundary. -/
def execAgcHoldExpiry (p : Fin 4) (a : Fin 32) (s : State) : Host.Outcome State Fault Refusal :=
  goesOn s (match streamCell p a s with
    | none => s
    | some x =>
      if flagF (FH_DIQa_STAT_FROZEN p a) s ∧ (diqOf p a s).holdUntil ≤ counter (cfgTd x.cfg) s then setF (FH_DIQa_STAT_FROZEN p a) 0 s else s)

/-- A PRACH detection for cell c: every ingress stream of the cell freezes its gain and latches RSSI.PRACH (R131, R132,
R149). -/
def prachDetect (c : Nat) (s : State) : State :=
  match lookup c s.cells with
  | none => s
  | some x =>
    if !cfgDiq x.cfg then s
    else
      let p := cfgLport x.cfg / 8
      ((cfgUsedFlows x.cfg).filter (fun e => decide (flowKind e = 4))).foldl (fun s e =>
        let a := diqStream 4 (flowEaxc e)
        freeze p a (cfgTd x.cfg) (cfgMu x.cfg) (addF (FH_DIQa_RSSI_PRACH_SEQ p a) 1 (setF (FH_DIQa_RSSI_PRACH p a) (rssiNow p a s) s))) s

/-- DIQ_BANK_SWITCH (R133): at a stream's frame start the bank that FH_DIQa_CFG.BANK names is in force. -/
def execDiqBankSwitch (p : Fin 4) (a : Fin 64) (s : State) : Host.Outcome State Fault Refusal :=
  goesOn s (setDiq p a { diqOf p a s with bank := getF (FH_DIQa_CFG_BANK p a) s } s)

/-- A write to a coefficient of stream a, bank b (R133): ignored for the bank in use. -/
def writeCoef (p a b k v : Nat) (s : State) : State :=
  if (diqOf p a s).bank = b then s
  else { s with diqCoef := put (((p * 64 + a) * 2 + b) * 128 + k) (if v % 65536 = 0 then none else some (v % 65536)) s.diqCoef }

/-! ### Egress (R120 to R125) -/

/-- Queue number of a message on its engine: sub-port × 16 + queue (R122). -/
def queueOf (lport q : Nat) : Nat := lport % 8 * 16 + q

/-- Key of a queue. -/
def queueKey (lport q : Nat) : Nat := lport / 8 * 128 + queueOf lport q

/-- The release time and the deadline of a message (R120): T_sym less the T1A maximum, and less the minimum. -/
def txWindow (l : List Byte) (wp : Nat) (m : TxMsg) (s : State) : Nat × Nat :=
  let p := cfgLport l / 8
  let i := if !m.cplane then 1 else if m.ul then 5 else 3
  (m.sym - getF (t1aFld p wp i) s, m.sym - getF (t1aFld p wp (i + 1)) s)

/-- The horizon of a timing wheel in Tc, and the width of a bucket (R121). -/
def wheelHorizon : Nat := 8388608
def bucketTc : Nat := 2048

/-- A message is lost to its transmit window (R121, R125): counted as TX_MISS; a downlink allocation whose symbol it
carried cannot be sent and is FAILED (R169). -/
def txMiss (m : TxMsg) (s : State) : State :=
  let s1 := fhEvent (m.lport / 8) (FH_STAT_TX_MISS (m.lport / 8)) (countSub FH_Ss_TX_MISS_COUNT m.lport s)
  if m.cplane ∨ m.ul then s1
  else match lookup m.cell s1.cells with
    | none => s1
    | some x =>
      let i := (tcToAir (cfgMu x.cfg) (cfgEcp x.cfg) m.sym).2.2.1
      modJob m.cell m.slot false (fun j => { j with res := (List.range j.res.length).map (fun k => match j.res[k]? with
        | none => ⟨1, false, false, false, 0, 0, 0, [], true, 0xA0, false, noUnit⟩
        | some r => if i ∈ alSymbols (jobAlloc j.pkt.payload k) then { r with status := 1, done := true, cause := 0xA0 } else r) }) s1

/-- The contents of a message as the engine sends them: compressed PRBs at the flow's iqWidth (R113), or the filtered
samples and the Frame Word of a Direct IQ message (R129, R133). -/
def txContents (p f : Nat) (m : TxMsg) (s : State) : TxMsg × State :=
  if getF (FH_Ff_MAP_KIND p f) s = 2 then
    let a := diqStream 5 (getF (FH_Ff_MAP_EAXC p f) s)
    let d := diqOf p a s
    let x := if flagF (FH_DIQa_CFG_RATE2 p a) s then m.samples.flatMap (fun v => [v, (0, 0)]) else m.samples
    match firRun (coefs p a s) false 0 d.line x with
    | (out, line) =>
      let faw := getF (FH_DIQa_FAW_WORD p a) s
      ({ m with samples := out, frameWord := if m.sample0 = 0 then faw else 2 ^ 64 - 1 - faw }, setDiq p a { d with line := line } s)
  else
    let w := getF (FH_Ff_MAP_W p f) s
    ({ m with prbs := m.prbs.map (fun r => if w = 16 then r else match bfpCompress w r.mant with
      | (e, q) => { r with comp := BitVec.ofNat 8 e, mant := q }) }, s)

/-- A message goes to the first bucket that starts at or after its release time, to the current bucket when that has
passed, to the far list beyond the horizon, or is lost after its deadline (R121). -/
def wheelPut (m : TxMsg) (s : State) : State :=
  let c := counter m.td s
  if m.release < c then
    if c ≤ m.deadline then { s with fhWheel := s.fhWheel ++ [(c / bucketTc * bucketTc, m)] } else txMiss m s
  else if c + wheelHorizon < m.release then { s with fhFar := s.fhFar ++ [m] }
  else { s with fhWheel := s.fhWheel ++ [(ceilDiv m.release bucketTc * bucketTc, m)] }

/-- WHEEL_PLACE (R121): a message of a cell, on an egress flow of its engine, is handed to the timing wheel with its
transmit window. -/
def execWheelPlace (msg : TxMsg) (s : State) : Host.Outcome State Fault Refusal :=
  let p := msg.lport / 8
  goesOn s (match lookup msg.cell s.cells with
    | none => s
    | some x =>
      if flagF (FH_Ff_MAP_VALID p msg.flow) s ∧ getF (FH_Ff_MAP_DIR p msg.flow) s = 1 ∧ getF (FH_Ff_MAP_CELL p msg.flow) s = msg.cell ∧
          msg.lport = cfgLport x.cfg then
        let w := txWindow x.cfg (getF (FH_Ff_MAP_WP p msg.flow) s) msg s
        match txContents p msg.flow { msg with td := cfgTd x.cfg, release := w.1, deadline := w.2 } s with
        | (m, s1) => wheelPut m (modJob m.cell m.slot m.ul (fun j => { j with handed := true }) s1)
      else s)

/-- FAR_LIST_ENTER (R121): messages of an engine whose release times have come within the horizon enter its wheels. -/
def execFarListEnter (p : Fin 4) (s : State) : Host.Outcome State Fault Refusal :=
  let near (m : TxMsg) : Bool := decide (m.lport / 8 = p.val) && decide (m.release ≤ counter m.td s + wheelHorizon)
  goesOn s ((s.fhFar.filter near).foldl (fun s m => wheelPut m s) { s with fhFar := s.fhFar.filter (fun m => !near m) })

/-- The order in which a bucket's messages enter their queues (R122): release time, C-plane before U-plane, flow. -/
def txBefore (a b : Nat × TxMsg) : Bool :=
  if a.1 ≠ b.1 then decide (a.1 < b.1)
  else if a.2.release ≠ b.2.release then decide (a.2.release < b.2.release)
  else if a.2.cplane ≠ b.2.cplane then a.2.cplane
  else decide (a.2.flow < b.2.flow)

/-- Puts a message into a sorted list, after those it does not come before. -/
def txInsert (x : Nat × TxMsg) : List (Nat × TxMsg) → List (Nat × TxMsg)
  | [] => [x]
  | y :: r => if txBefore x y then x :: y :: r else y :: txInsert x r

/-- The messages of a queue. -/
def queueMsgs (k : Nat) (s : State) : List TxMsg := look [] k s.fhQueue

/-- Sets the messages of a queue. -/
def setQueue (k : Nat) (l : List TxMsg) (s : State) : State := { s with fhQueue := put k (if l.isEmpty then none else some l) s.fhQueue }

/-- The active list of a priority of a logical port. -/
def activeOf (lport prio : Nat) (s : State) : List Nat := look [] (lport * 8 + prio) s.fhActive

/-- Sets an active list. -/
def setActive (lport prio : Nat) (l : List Nat) (s : State) : State :=
  { s with fhActive := put (lport * 8 + prio) (if l.isEmpty then none else some l) s.fhActive }

/-- A message enters queue q of its sub-port; a queue that becomes non-empty joins the end of its priority's list (R122). -/
def enqueue (lport q : Nat) (m : TxMsg) (s : State) : State :=
  let k := queueKey lport q
  let l := queueMsgs k s
  let s1 := setQueue k (l ++ [m]) s
  let prio := getF (FH_Qq_CFG_PRIO (lport / 8) (queueOf lport q)) s
  if l.isEmpty ∧ q ≠ 15 then setActive lport prio (activeOf lport prio s1 ++ [q]) s1 else s1

/-- BUCKET_DUE (R122): the messages of every bucket of domain n that has come due on an engine enter their queues. -/
def execBucketDue (p : Fin 4) (n : Fin 6) (s : State) : Host.Outcome State Fault Refusal :=
  let dueNow (x : Nat × TxMsg) : Bool := decide (x.2.lport / 8 = p.val) && decide (x.2.td = n.val) && decide (x.1 ≤ counter n s)
  let l := (s.fhWheel.filter dueNow).foldl (fun acc x => txInsert x acc) []
  goesOn s (l.foldl (fun s x => enqueue x.2.lport (getF (FH_Ff_MAP_QUEUE p x.2.flow) s) x.2 s) { s with fhWheel := s.fhWheel.filter (fun x => !dueNow x) })

/-- Tokens of a queue's shaper, in units of 1/125 B. -/
def tokensOf (k : Nat) (s : State) : Int := look 0 k s.fhTokens

/-- The RATE and BURST of a queue's shaper in force (R123). -/
def shapeOf (k : Nat) (s : State) : Nat × Nat := look (0, 152) k s.fhShape

/-- A queue's shaper allows a frame: the queue is unshaped or has tokens above zero (R123). -/
def shaperAllows (k : Nat) (s : State) : Bool := decide ((shapeOf k s).1 = 0) || decide (0 < tokensOf k s)

/-- A queue leaves its active list, its deficit 0 (R122). -/
def queueLeaves (lport q : Nat) (s : State) : State :=
  let k := queueKey lport q
  let s1 := (List.range 8).foldl (fun s prio => setActive lport prio ((activeOf lport prio s).filter (fun x => decide (x ≠ q))) s) s
  { s1 with fhDeficit := put k none s1.fhDeficit
            fhVisit := (List.range 8).foldl (fun v prio => if look 0 (lport * 8 + prio) v = q + 1 then put (lport * 8 + prio) none v else v) s1.fhVisit }

/-- A queue moves to the end of its list and its visit ends. -/
def queueRotates (lport prio q : Nat) (s : State) : State :=
  let s1 := setActive lport prio ((activeOf lport prio s).tail ++ [q]) s
  { s1 with fhVisit := put (lport * 8 + prio) none s1.fhVisit }

/-- Serves the queues of one priority by deficit round robin until one may send its head frame (R122): a visited queue
adds its quantum once, sends while its head fits its deficit and its shaper allows it, and otherwise moves to the end
with its deficit kept. -/
def drr (lport prio : Nat) : Nat → State → Option Nat × State
  | 0, s => (none, s)
  | n + 1, s =>
    match activeOf lport prio s with
    | [] => (none, s)
    | q :: _ =>
      if (activeOf lport prio s).all (fun q => !shaperAllows (queueKey lport q) s) then (none, s)
      else
        let k := queueKey lport q
        let fresh := decide (look 0 (lport * 8 + prio) s.fhVisit ≠ q + 1)
        let d := look 0 k s.fhDeficit + (if fresh then getF (FH_Qq_CFG_QUANTUM (lport / 8) (queueOf lport q)) s * 64 else 0)
        let s1 := { s with fhDeficit := put k (some d) s.fhDeficit, fhVisit := put (lport * 8 + prio) (some (q + 1)) s.fhVisit }
        match queueMsgs k s1 with
        | [] => drr lport prio n (queueLeaves lport q s1)
        | m :: _ => if m.len ≤ d ∧ shaperAllows k s1 then (some q, s1) else drr lport prio n (queueRotates lport prio q s1)

/-- The queue that a sub-port serves next: queue 15, then strict priority 7 down to 0 (R122). -/
def nextQueue (lport : Nat) (s : State) : Option Nat × State :=
  if (queueMsgs (queueKey lport 15) s).isEmpty then
    [7, 6, 5, 4, 3, 2, 1, 0].foldl (fun r prio => match r with
      | (some q, s) => (some q, s)
      | (none, s) => drr lport prio 4096 s) (none, s)
  else (some 15, s)

/-- Sending the head frame of a queue takes it from the queue and charges deficit and shaper (R122, R123). -/
def sendHead (lport q : Nat) (m : TxMsg) (rest : List TxMsg) (s : State) : State :=
  let k := queueKey lport q
  let s1 := setQueue k rest s
  if q = 15 then s1
  else
    let s2 := { s1 with
      fhDeficit := put k (some (look 0 k s1.fhDeficit - m.len)) s1.fhDeficit
      fhTokens := if (shapeOf k s1).1 = 0 then s1.fhTokens else put k (some (tokensOf k s1 - (m.len + 20) * 125)) s1.fhTokens }
    if rest.isEmpty then queueLeaves lport q s2 else s2

/-- The last bit of a message's frame crosses the interface at or before its deadline when its first bit crosses now, at the line
rate of its logical port (R108, R120). -/
def fitsWindow (m : TxMsg) (s : State) : Bool :=
  let gbps := 800 / 2 ^ getF (FH_PORT_CFG_MODE (m.lport / 8)) s
  decide (count16 m.td s * 3125 * gbps + 16 * 8 * m.len * 6144 ≤ 16 * m.deadline * 3125 * gbps)

/-- The head of a queue can no longer be sent inside its window and is discarded (R125; DEDUCED, log entry 45). -/
def discardHead (lport q : Nat) (m : TxMsg) (rest : List TxMsg) (s : State) : State :=
  let s1 := setQueue (queueKey lport q) rest s
  txMiss m (if rest.isEmpty then queueLeaves lport q s1 else s1)

/-- FRAME_TRANSMIT (R122): a sub-port whose link is up starts sending the frame that priority, round robin and shaper
select; it is counted, and a descriptor that asks for a stamp gets one (R46, R48).  A message that its window cannot hold any more
is discarded instead (R125). -/
def execFrameTransmit (lport : Fin 32) (s : State) : Host.Outcome State Fault Refusal :=
  goesOn s (if subPortExists lport s ∧ linkUp lport s then
      match nextQueue lport s with
      | (none, s1) => s1
      | (some q, s1) => match queueMsgs (queueKey lport q) s1 with
        | [] => s1
        | m :: rest =>
          if q ≠ 15 ∧ !fitsWindow m s1 then discardHead lport q m rest s1
          else
          let s2 := countSub FH_Ss_TX_MSG_COUNT lport (sendHead lport q m rest s1)
          let s3 := match m.stamp with
            | none => s2
            | some (n, ident) => takeTxStamp n lport ident s2
          { s3 with fhSent := m :: s3.fhSent }
    else s)

/-- SHAPER_REFILL (R123): every 128 cycles the writes to the shapers take effect and tokens rise by RATE × 128 ns, up to
BURST × 64 B. -/
def execShaperRefill (p : Fin 4) (s : State) : Host.Outcome State Fault Refusal :=
  goesOn s ((List.range 128).foldl (fun s q =>
    if q % 16 = 15 then s
    else
      let k := p.val * 128 + q
      let rate := getF (FH_Qq_SHAPE_RATE p q) s
      let burst := getF (FH_Qq_SHAPE_BURST p q) s
      { s with fhShape := put k (if rate = 0 ∧ burst = 152 then none else some (rate, burst)) s.fhShape
               fhTokens := let t : Int := min (burst * 64 * 125 : Nat) (tokensOf k s + 2 * rate)
                 put k (if t = 0 then none else some t) s.fhTokens }) s)

/-- Removes from a queue the messages that are past their deadlines, counting each (R125). -/
def dropLate (lport q : Nat) (s : State) : State :=
  let k := queueKey lport q
  let l := queueMsgs k s
  let lost (m : TxMsg) : Bool := decide (q ≠ 15) && decide (m.deadline ≤ counter m.td s)
  let rest := l.filter (fun m => !lost m)
  if rest.length = l.length then s
  else
    let s1 := (l.filter lost).foldl (fun s m => txMiss m s) (setQueue k rest s)
    if rest.isEmpty then queueLeaves lport q s1 else s1

/-- TX_DEADLINE_MISS (R125): messages still queued at their deadlines are discarded and counted as TX_MISS. -/
def execTxDeadlineMiss (lport : Fin 32) (s : State) : Host.Outcome State Fault Refusal :=
  goesOn s ((List.range 15).foldl (fun s q => dropLate lport q s) s)

/-- PTP_TRANSMIT (R44): a PTP message enters queue 15 of a sub-port (R122), its descriptor asking for the time-stamp that
its domain needs. -/
def execPtpTransmit (lport : Fin 32) (msg : TxMsg) (s : State) : Host.Outcome State Fault Refusal :=
  goesOn s (if subPortExists lport s then enqueue lport 15 { msg with lport := lport } s else s)

end Sys2Proof.Machine
end

