-- ==== Sys2Proof/Machine/Signal.lean ====
section
/-! DEFINITION. The Signal Cores: bundles, addressing, complex arithmetic, kernels, faults and spares (R135 to R154). -/

namespace Sys2Proof.Machine

/-- Logical Signal Core n. -/
def sigOf (n : Nat) (s : State) : SigCore := look SigCore.reset n s.sigCore

/-- Changes logical Signal Core n. -/
def setSig (n : Nat) (c : SigCore) (s : State) : State := { s with sigCore := put n (some c) s.sigCore }

/-- Bytes of Signal Core Memory. -/
def scmBytes : Nat := 524288

/-! ### Registers (R136) -/

/-- 32 lanes of zero. -/
def zeroLanes : List (Int × Int) := List.replicate 32 (0, 0)

/-- X register d. -/
def xReg (c : SigCore) (d : Nat) : List (Int × Int) := look zeroLanes d c.x

/-- Accumulator d. -/
def accReg (c : SigCore) (d : Nat) : List (Int × Int) := look zeroLanes d c.acc

/-- Predicate p; P0 reads all ones. -/
def prReg (c : SigCore) (p : Nat) : Nat := if p = 0 then 2 ^ 32 - 1 else look 0 p c.pr

/-- Scalar d; S0 reads 0. -/
def scReg (c : SigCore) (d : Nat) : Nat := if d = 0 then 0 else look 0 d c.sc

/-- A write of one register, or another effect, that a slot makes. -/
inductive ScWrite where
  | x (d : Nat) (v : List (Int × Int))
  | acc (d : Nat) (v : List (Int × Int))
  | sc (d v : Nat)
  | ad (d v : Nat)
  | md (d v : Nat)
  | amode (d v : Nat)
  | base (d v : Nat)
  | len (d v : Nat)
  | pr (d v : Nat)
  | lc (d v : Nat)
  | bhMin (h : Nat)
  | bhSet
  | sat
  | wrap
  | store (a : Nat) (l : List Byte)
  | branch (t : Nat)
  deriving DecidableEq, Repr

/-- Two writes name the same register (R135); the sticky flags and the stores name none. -/
def ScWrite.clash : ScWrite → ScWrite → Bool
  | .x a _, .x b _ => decide (a = b)
  | .acc a _, .acc b _ => decide (a = b)
  | .sc a _, .sc b _ => decide (a = b) && decide (a ≠ 0)
  | .ad a _, .ad b _ => decide (a = b)
  | .md a _, .md b _ => decide (a = b)
  | .amode a _, .amode b _ => decide (a = b)
  | .base a _, .base b _ => decide (a = b)
  | .len a _, .len b _ => decide (a = b)
  | .pr a _, .pr b _ => decide (a = b)
  | .lc a _, .lc b _ => decide (a = b)
  | .bhSet, .bhSet => true
  | .bhSet, .bhMin _ => true
  | .bhMin _, .bhSet => true
  | _, _ => false

/-- What a slot answers: a fault cause, or the writes it makes. -/
inductive SlotResult where
  | fault (cause : Nat)
  | ok (ws : List ScWrite)
  deriving DecidableEq, Repr

/-! ### Addressing (R138, R139) -/

/-- The low k bits of a number in reverse order. -/
def bitrev : Nat → Nat → Nat
  | 0, _ => 0
  | k + 1, n => n % 2 * 2 ^ k + bitrev k (n / 2)

/-- A circular buffer meets the constraints of R139. -/
def cbValid (c : SigCore) (b : Nat) : Bool :=
  let base := look 0 b c.cbBase
  let len := look 0 b c.cbLen
  decide (base % 4 = 0) && decide (len % 4 = 0) && decide (128 ≤ len) && decide (len ≤ scmBytes) && decide (base + len ≤ scmBytes)

/-- The addresses of n elements accessed through A[r], and the writes of the post-increment. -/
def scAddrs (c : SigCore) (r n : Nat) : Nat ⊕ (List Int × List ScWrite) :=
  let a : Int := ((look 0 r c.ad : Nat) : Int)
  let inc := bitsInt 20 (look 0 r c.md)
  let mode := look 0 r c.amode
  let idx : List Int := (List.range n).map (fun (i : Nat) => (i : Int))
  if mode = 0 then .inr (idx.map (fun i => a + 4 * i), [.ad r (intBits 20 (a + inc))])
  else if mode ≤ 8 then
    let b := mode - 1
    let base : Int := ((look 0 b c.cbBase : Nat) : Int)
    let len : Int := ((look 0 b c.cbLen : Nat) : Int)
    if !cbValid c b ∨ a < base ∨ base + len ≤ a then .inl 3
    else
      let w := idx.any (fun i => decide (len ≤ a - base + 4 * i)) || decide (len ≤ a - base + inc)
      .inr (idx.map (fun i => base + (a - base + 4 * i) % len), .ad r (intBits 20 (base + (a - base + inc) % len)) :: (if w then [.wrap] else []))
  else if mode = 9 then .inr (idx.map (fun i => a + i * inc), [.ad r (intBits 20 (a + 32 * inc))])
  else if mode = 10 then
    let m := look 0 r c.md
    let k := m % 32
    let j := m / 32 % 2 ^ 15
    .inr ((List.range n).map (fun i => a + 4 * (bitrev k (i + j) : Nat)), [.md r (k + (j + 32) % 2 ^ 15 * 32)])
  else .inl 1

/-- Every element of 4 bytes lies within Signal Core Memory (R137). -/
def inScm (l : List Int) : Bool := l.all (fun a => decide (0 ≤ a) && decide (a + 4 ≤ scmBytes))

/-- A CI16 element at an address. -/
def ciAt (c : SigCore) (a : Int) : Int × Int :=
  let v := leNat (readBytes c.mem a.toNat 4)
  (bitsInt 16 v, bitsInt 16 (v / 65536))

/-- The four bytes of a CI16 element. -/
def ciBytes (v : Int × Int) : List Byte := natLE 2 (intBits 16 v.1) ++ natLE 2 (intBits 16 v.2)

/-- A load or store through A[r] of n elements: its checks, then what it does with the addresses. -/
def scAccess (c : SigCore) (r n : Nat) (k : List Int → List ScWrite) : SlotResult :=
  match scAddrs c r n with
  | .inl f => .fault f
  | .inr (l, ws) => if inScm l then .ok (k l ++ ws) else .fault 2

/-! ### Complex arithmetic (R140 to R145) -/

/-- Saturation to 40 bits. -/
def sat40 (x : Int) : Int := clampInt (-(2 ^ 39)) (2 ^ 39 - 1) x

/-- The complex product of two elements, exact. -/
def cmul (a b : Int × Int) : Int × Int := (a.1 * b.1 - a.2 * b.2, a.1 * b.2 + a.2 * b.1)

/-- The conjugate. -/
def conjIf (b : Bool) (x : Int × Int) : Int × Int := if b then (x.1, -x.2) else x

/-- A write of lanes, and SAT when a lane had to be clamped. -/
def satWrite (mk : List (Int × Int) → ScWrite) (sat : Int → Int) (l : List (Int × Int)) : List ScWrite :=
  mk (l.map (fun v => (sat v.1, sat v.2))) :: (if l.any (fun v => decide (sat v.1 ≠ v.1) || decide (sat v.2 ≠ v.2)) then [.sat] else [])

/-- Lane by lane, a where the predicate's bit is set and b elsewhere. -/
def lanesBy (p : Nat) (a b : List (Int × Int)) : List (Int × Int) :=
  (List.range 32).map (fun l => if bitAt l p then a.getD l (0, 0) else b.getD l (0, 0))

/-- Headroom of a signed 16-bit value (R144). -/
def headroom (v : Int) : Nat :=
  let u := if 0 ≤ v then v.toNat else (-v - 1).toNat
  if u = 0 then 15 else 14 - Nat.log2 u

/-- Least headroom over elements. -/
def headroomOf (l : List (Int × Int)) : Nat := l.foldl (fun m v => min m (min (headroom v.1) (headroom v.2))) 15

/-- Arithmetic shift right by k with rounding half up. -/
def shiftRound (k : Nat) (v : Int) : Int := if k = 0 then v else (v + 2 ^ (k - 1)) / (2 ^ k : Int)

/-- Both components shifted with rounding. -/
def shiftC (k : Nat) (v : Int × Int) : Int × Int := (shiftRound k v.1, shiftRound k v.2)

/-- A twiddle product, rounded half up to 16 bits (R145). -/
def twiddle (x w : Int × Int) : Int × Int :=
  let p := cmul x w
  (sat16 (shiftRound 15 p.1), sat16 (shiftRound 15 p.2))

/-- Sum and difference, and multiplication by j or -j. -/
def addC (a b : Int × Int) : Int × Int := (a.1 + b.1, a.2 + b.2)
def subC (a b : Int × Int) : Int × Int := (a.1 - b.1, a.2 - b.2)
def rotC (inv : Bool) (a : Int × Int) : Int × Int := if inv then (-a.2, a.1) else (a.2, -a.1)

/-- One radix-2 butterfly. -/
def fly2 (a b w : Int × Int) : List (Int × Int) :=
  let t := twiddle b w
  [addC a t, subC a t]

/-- One radix-4 butterfly; the second and fourth outputs turn by -j forward, by j inverse. -/
def fly4 (inv : Bool) (a b c d w1 w2 w3 : Int × Int) : List (Int × Int) :=
  let b := twiddle b w1
  let c := twiddle c w2
  let d := twiddle d w3
  let e := addC a c
  let f := subC a c
  let g := addC b d
  let h := rotC inv (subC b d)
  [addC e g, addC f h, subC e g, subC f h]

/-- The outputs of the butterflies whose inputs are the lanes listed, in groups of 2 or 4, with their twiddles. -/
def flies (four inv : Bool) : List (Int × Int) → List (Int × Int) → List (Int × Int)
  | a :: b :: c :: d :: r, w1 :: w2 :: w3 :: ws => if four then fly4 inv a b c d w1 w2 w3 ++ flies four inv r ws else fly2 a b w1 ++ fly2 c d w2 ++ flies four inv r (w3 :: ws)
  | a :: b :: r, w :: ws => if four then [] else fly2 a b w ++ flies four inv r ws
  | _, _ => []

/-- Puts values back into the lanes listed. -/
def putLanes (l : List (Int × Int)) : List Nat → List (Int × Int) → List (Int × Int)
  | i :: is, v :: vs => putLanes (l.set i v) is vs
  | _, _ => l

/-- BFLY2 or BFLY4 on X[x]: inputs shifted right by s with rounding, outputs saturated, headroom folded (R144, R145). -/
def butterfly (c : SigCore) (four inv : Bool) (x tw s : Nat) (lanes twLanes : List Nat) : List ScWrite :=
  let src := xReg c x
  let ins := lanes.map (fun i => shiftC s (src.getD i (0, 0)))
  let ws := twLanes.map (fun i => (xReg c tw).getD i (0, 0))
  let outs := flies four inv ins ws
  satWrite (fun l => .x x (putLanes src lanes l)) sat16 outs ++ [.bhMin (headroomOf (outs.map (fun v => (sat16 v.1, sat16 v.2))))]

/-- A MAC of lanes under a predicate (R140). -/
def macLanes (acc a b : List (Int × Int)) : List (Int × Int) := (List.range 32).map (fun l => addC (acc.getD l (0, 0)) (cmul (a.getD l (0, 0)) (b.getD l (0, 0))))

/-- Makes one write. -/
def scWrite (c : SigCore) : ScWrite → SigCore
  | .x d v => { c with x := put d (some v) c.x }
  | .acc d v => { c with acc := put d (some v) c.acc }
  | .sc d v => if d = 0 then c else { c with sc := put d (some v) c.sc }
  | .ad d v => { c with ad := put d (some v) c.ad }
  | .md d v => { c with md := put d (some v) c.md }
  | .amode d v => { c with amode := put d (some v) c.amode }
  | .base d v => { c with cbBase := put d (some v) c.cbBase }
  | .len d v => { c with cbLen := put d (some v) c.cbLen }
  | .pr d v => if d = 0 then c else { c with pr := put d (some v) c.pr }
  | .lc d v => { c with lc := put d (some v) c.lc }
  | .bhMin h => { c with bh := min c.bh h }
  | .bhSet => { c with bh := 15 }
  | .sat => { c with ssr := setBit 0 c.ssr }
  | .wrap => { c with ssr := setBit 1 c.ssr }
  | .store a l => { c with mem := writeBytes a l c.mem }
  | .branch t => { c with pend := some t }

/-- What one slot's operation does, from the registers before the bundle. -/
def slotDo (c : SigCore) : ScOp → SlotResult
  | .nop => .ok []
  | .ldx d a => scAccess c a 32 (fun l => [.x d (l.map (ciAt c))])
  | .lds d a => scAccess c a 1 (fun l => [.sc d (leNat (readBytes c.mem (l.headD 0).toNat 4))])
  | .stx x a => scAccess c a 32 (fun l => (l.zip (xReg c x)).map (fun p => .store p.1.toNat (ciBytes p.2)))
  | .sts r a => scAccess c a 1 (fun l => [.store (l.headD 0).toNat (natLE 4 (scReg c r))])
  | .cmac cj acc xa xb p =>
    .ok (satWrite (.acc acc) sat40 (lanesBy (prReg c p) (macLanes (accReg c acc) (xReg c xa) ((xReg c xb).map (conjIf cj))) (accReg c acc)))
  | .ftap cj acc x ac an =>
    match scAddrs c ac 1, scAddrs c an 1 with
    | .inl f, _ => .fault f
    | _, .inl f => .fault f
    | .inr (la, wa), .inr (ln, wn) =>
      if inScm la && inScm ln then
        let co := conjIf cj (ciAt c (la.headD 0))
        .ok (satWrite (.acc acc) sat40 ((List.range 32).map (fun l => addC ((accReg c acc).getD l (0, 0)) (cmul co ((xReg c x).getD l (0, 0))))) ++
          [.x x ((xReg c x).drop 1 ++ [ciAt c (ln.headD 0)])] ++ wa ++
          (match scAddrs (wa.foldl scWrite c) an 1 with
            | .inr (_, w) => w
            | .inl _ => wn))
      else .fault 2
  | .bfly four inv x tw s lanes twLanes => .ok (butterfly c four inv x tw s lanes twLanes)
  | .vadd sub d xa xb =>
    .ok (satWrite (.x d) sat16 ((List.range 32).map (fun l => (if sub then subC else addC) ((xReg c xa).getD l (0, 0)) ((xReg c xb).getD l (0, 0)))))
  | .vshift d lanes => .ok [.x d (((lanes ++ zeroLanes).take 32).map (fun v => (sat16 v.1, sat16 v.2)))]
  | .vcmp p mask => .ok [.pr p (mask % 2 ^ 32)]
  | .vsel d xa xb p => .ok [.x d (lanesBy (prReg c p) (xReg c xa) (xReg c xb))]
  | .vperm d xa idx => .ok [.x d ((List.range 32).map (fun l => (xReg c xa).getD (idx.getD l 0 % 32) (0, 0)))]
  | .vext acc x s => .ok (satWrite (.x x) sat16 ((accReg c acc).map (shiftC s)))
  | .bexp xa p => .ok [.bhMin (headroomOf ((List.range 32).filterMap (fun l => if bitAt l (prReg c p) then some ((xReg c xa).getD l (0, 0)) else none)))]
  | .bhrst => .ok [.bhSet]
  | .ctl kind d v =>
    .ok [match kind with
      | 0 => .sc d (v % 2 ^ 32)
      | 1 => .ad d (v % 2 ^ 20)
      | 2 => .md d (v % 2 ^ 20)
      | 3 => .amode d (v % 16)
      | 4 => .base d (v % 2 ^ 20)
      | 5 => .len d (v % 2 ^ 20)
      | 6 => .pr d (v % 2 ^ 32)
      | _ => .lc d (v % 2 ^ 16)]
  | .branch t => .ok [.branch t]

/-- The slot an operation may stand in: 0 and 1 the load slots (stores in LS1 alone), 2 MAC, 3 ALU, 4 CTL. -/
def inSlot (i : Nat) : ScOp → Bool
  | .nop => true
  | .ldx _ _ => decide (i ≤ 1)
  | .lds _ _ => decide (i ≤ 1)
  | .stx _ _ => decide (i = 1)
  | .sts _ _ => decide (i = 1)
  | .cmac _ _ _ _ _ => decide (i = 2)
  | .ftap _ _ _ _ _ => decide (i = 2)
  | .bfly _ _ _ _ _ _ _ => decide (i = 2)
  | .vadd _ _ _ _ => decide (i = 3)
  | .vshift _ _ => decide (i = 3)
  | .vcmp _ _ => decide (i = 3)
  | .vsel _ _ _ _ => decide (i = 3)
  | .vperm _ _ _ => decide (i = 3)
  | .vext _ _ _ => decide (i = 3)
  | .bexp _ _ => decide (i = 3)
  | .bhrst => decide (i = 3)
  | .ctl _ _ _ => decide (i = 4)
  | .branch _ => decide (i = 4)

/-- The operations of a bundle stand in their slots. -/
def bundleWf (b : ScBundle) : Bool := inSlot 0 b.ls0 && inSlot 1 b.ls1 && inSlot 2 b.mac && inSlot 3 b.alu && inSlot 4 b.ctl

/-- The banks that a load slot's operation touches (R137). -/
def banksOf (c : SigCore) : ScOp → List Nat
  | .ldx _ a => match scAddrs c a 32 with
    | .inr (l, _) => l.map (fun x => x.toNat / 128 % 16)
    | .inl _ => []
  | .stx _ a => match scAddrs c a 32 with
    | .inr (l, _) => l.map (fun x => x.toNat / 128 % 16)
    | .inl _ => []
  | .lds _ a => match scAddrs c a 1 with
    | .inr (l, _) => l.map (fun x => x.toNat / 128 % 16)
    | .inl _ => []
  | .sts _ a => match scAddrs c a 1 with
    | .inr (l, _) => l.map (fun x => x.toNat / 128 % 16)
    | .inl _ => []
  | _ => []

/-- The writes of several slots, or the first fault. -/
def joinSlots : List SlotResult → SlotResult
  | [] => .ok []
  | .fault f :: _ => .fault f
  | .ok ws :: r => match joinSlots r with
    | .fault f => .fault f
    | .ok vs => if ws.any (fun w => vs.any (fun v => w.clash v)) then .fault 1 else .ok (ws ++ vs)

/-- One bundle: every slot reads the registers before it, then all write; a branch takes effect after one delay bundle
(R135). -/
def bundleDo (c : SigCore) (b : ScBundle) : Nat ⊕ SigCore :=
  if !bundleWf b then .inl 1
  else match joinSlots [slotDo c b.ls0, slotDo c b.ls1, slotDo c b.mac, slotDo c b.alu, slotDo c b.ctl] with
    | .fault f => .inl f
    | .ok ws =>
      let c1 := ws.foldl scWrite { c with pc := c.pend.getD (c.pc + 1), pend := none }
      .inr (if (banksOf c b.ls0).any (fun k => decide (k ∈ banksOf c b.ls1)) then { c1 with ssr := setBit 2 c1.ssr } else c1)

/-! ### Faults (R151 to R153) -/

/-- Sets a bit of SIG_STAT and raises its vector where enabled (R154). -/
def sigEvent (f : Fld) (s : State) : State := event f 0 SIG_EVT_MASK_MASK (f.lo - 16) SIG_EVT_VEC_VEC s

/-- The physical core of a logical Signal Core. -/
def scPhys (n : Nat) (s : State) : Nat := getF (SIG_Cn_INFO_PHYS n) s

/-- Logical Signal Core n is in service (R20). -/
def sigIn (n : Nat) (s : State) : Bool := decide (n < 64) && decide (n ∉ s.scRemoved)

/-- A physical Signal Core is Suspect (R153, R390). -/
def scSuspect (q : Nat) (s : State) : Bool := flagF (FLT_SCq_ASSAY_SUSPECT q) s

/-- The items that depend on an invocation whose retry fails end FAILED (R152): the allocations of its job not yet
done. -/
def failJob (c slot : Nat) (ul : Bool) (cause : Nat) (retried : Bool) (u : FaultUnit) (s : State) : State :=
  modJob c slot ul (fun j => { j with res := j.res.map (fun r => if r.done then r else allocFail cause retried u r) }) s

/-- Logical Signal Core n as the unit of a failure. -/
def scUnit (n : Nat) (s : State) : FaultUnit := ⟨n, scPhys n s, unitBand 2 (scPhys n s) s, s.injecting⟩

/-- Marks a physical Signal Core Suspect with the fault that led to it (R153, R380). -/
def scMarkSuspect (n q cause count : Nat) (s : State) : State :=
  if scSuspect q s then s
  else noteSuspect 2 cause n q count (setF (FLT_SCq_ASSAY_SUSPECT q) 1 { s with unitCause := put (2 * 2 ^ 16 + q) (some (cause + 256 * count)) s.unitCause })

/-- A fault stops the invocation on core n: its stores are discarded, SIG_Cn_FAULT records it, and a second fault of a
cause of the core's own in one Assay period makes the core Suspect (R151 to R153).  The items of a retry that faults end
FAILED. -/
def sigFault (n cause : Nat) (s : State) : State :=
  let c := sigOf n s
  let q := scPhys n s
  match c.run with
  | none => s
  | some r =>
    let s1 := setSig n { c with run := some { r with fault := some cause, stores := [] } } s
    let s2 := setF (SIG_Cn_FAULT_PC n) c.pc (setF (SIG_Cn_FAULT_KERNEL n) r.kernel (setF (SIG_Cn_FAULT_VALID n) 1 (setF (SIG_Cn_FAULT_CAUSE n) cause s1)))
    let s3 := sigEvent SIG_STAT_FAULT (setF (SIG_Cn_INFO_KERNEL n) 0 (setF (SIG_Cn_INFO_STATE n) 0 s2))
    let s4 := if r.retry then setSig n { c with run := none } (failJob r.cell r.slot (decide (r.kernel ≠ 0x11)) (0x20 + cause) true (scUnit n s) s3) else s3
    if cause = 2 ∨ cause = 3 then s4
    else
      let k := look 0 q s4.sigFaults + 1
      let s5 := { s4 with sigFaults := put q (some k) s4.sigFaults }
      if 2 ≤ k then scMarkSuspect n q (0x20 + cause) k s5 else s5

/-- BUNDLE_ISSUE (R135): the core of a running invocation issues one bundle, or faults on it.  What the error correction of its
memory finds in that bundle is the operand hw: 1 for a corrected error, which is counted, 2 for an uncorrectable one in data
memory and 3 in instruction memory (R137). -/
def execBundleIssue (n : Fin 64) (b : ScBundle) (hw : Nat) (s : State) : Host.Outcome State Fault Refusal :=
  let c := sigOf n s
  goesOn s (match c.run with
    | none => s
    | some r =>
      if r.fault.isSome ∨ !issues s then s
      else if injected 4 n 0 s then sigFault n 4 (takeInject 4 n 0 s)
      else if hw = 2 ∨ hw = 3 then sigFault n (hw + 2) s
      else
        let s1 := if hw = 1 then tally 4 (SIG_Cn_ECC_COUNT n) 1 s else s
        match bundleDo c b with
        | .inl f => sigFault n f s1
        | .inr c1 => setSig n c1 s1)

/-! ### Kernels (R142, R146 to R150, R152) -/

/-- Worst-case cycles of a kernel for a cell (R148). -/
def kernelCycles (k : Nat) (l : List Byte) (s : State) : Nat :=
  let re := resourceElements (cfgNprb l) * cfgS l
  let fs := getF (FH_DIQa_CFG_FS (cfgLport l / 8) (cellStream l)) s
  match k with
  | 0x01 => ceilDiv (re * 3) 64
  | 0x02 => ceilDiv re 64
  | 0x03 => ceilDiv (re * 4) 64
  | 0x04 => 2500
  | 0x05 => 9000
  | 0x06 => 3000
  | _ => fftCycles (fftSize fs (cfgMu l))

/-- The kernels of the library (R148). -/
def kernelIds : List Nat := [1, 2, 3, 4, 5, 6, 0x10, 0x11]

/-- A logical Signal Core may take an invocation: in service, not Suspect, idle. -/
def sigFree (n : Nat) (s : State) : Bool :=
  sigIn n s && !scSuspect (scPhys n s) s && !spareWaits 2 n s && (sigOf n s).run.all (fun r => r.fault.isSome) && decide (getF (SIG_Cn_INFO_STATE n) s = 0)

/-- A faulted invocation whose core is given to another before it was run again can no longer finish: the items that depend
on it end FAILED (R152). -/
def dropFaulted (n : Nat) (s : State) : State :=
  match (sigOf n s).run with
  | some r => match r.fault with
    | some f => failJob r.cell r.slot (decide (r.kernel ≠ 0x11)) (0x20 + f) false (scUnit n s) (setSig n { sigOf n s with run := none } s)
    | none => s
  | none => s

/-- An invocation starts on core n: SSR is cleared (R142). -/
def invoke (n : Nat) (r : Invocation) (s : State) : State :=
  let c := sigOf n s
  setF (SIG_Cn_INFO_KERNEL n) r.kernel (setF (SIG_Cn_INFO_STATE n) 1
    (setSig n { c with ssr := 0, pc := 0, pend := none, run := some { r with start := s.now, fault := none, stores := [] } } s))

/-- KERNEL_INVOKE (R148): a Control Processor places an invocation of a kernel for a cell's slot on a logical Signal
Core. -/
def execKernelInvoke (n : Fin 64) (kernel : Nat) (c : Fin 512) (slot : Nat) (s : State) : Host.Outcome State Fault Refusal :=
  goesOn s (match lookup c.val s.cells with
    | none => s
    | some x =>
      if kernel ∈ kernelIds ∧ sigFree n s ∧ issues s then invoke n ⟨kernel, c, slot, 2 * kernelCycles kernel x.cfg s, 0, false, none, []⟩ (dropFaulted n s) else s)

/-- The 16 bytes of a PRACH detection (R169). -/
def prachBytes (h : PrachHit) : List Byte :=
  natLE 1 h.preamble ++ natLE 1 h.occasion ++ natLE 2 h.advance ++ natLE 2 (intBits 16 h.power) ++ natLE 2 0 ++ natLE 8 h.at_

/-- What a kernel reports goes into its uplink job: PRACH detections, time and frequency offsets, SINR, and SAT of a
classical kernel (R149, R169). -/
def jobReport (r : Invocation) (sat : Bool) (k : KernelResult) (j : Job) : Job :=
  { j with
    prach := if r.kernel = 5 then j.prach ++ k.prach.map prachBytes else j.prach
    timeOfs := if r.kernel = 4 then intBits 16 k.timeOfs else j.timeOfs
    freqOfs := if r.kernel = 4 then intBits 16 k.freqOfs else j.freqOfs
    sat := j.sat || (sat && decide (r.kernel ≤ 6))
    res := if r.kernel = 3 then k.sinr.foldl (fun l x => l.modify x.1 (fun a => { a with sinr := intBits 16 x.2 })) j.res else j.res }

/-- The largest exponent of the CI16 format's shared block exponent (R193). -/
def ciExpMax : Nat := 15

/-- An FFT output in the CI16 format: beyond the largest exponent the elements are shifted right by the excess, and the
true E is kept (R147). -/
def fftStore (r : Invocation) (f : Nat × Nat × Nat × List (Int × Int)) : FftOut :=
  ⟨r.cell, f.1, f.2.1, f.2.2.1, f.2.2.2.map (shiftC (f.2.2.1 - ciExpMax))⟩

/-- KERNEL_COMPLETE (R142): an invocation ends; SAT after an FFT or iFFT is a fault (R146, R151); otherwise its stores
reach the radio carve and its report the job. -/
def execKernelComplete (n : Fin 64) (k : KernelResult) (s : State) : Host.Outcome State Fault Refusal :=
  let c := sigOf n s
  goesOn s (match c.run with
    | none => s
    | some r =>
      let sat := bitAt 0 c.ssr
      if r.fault.isSome ∨ !issues s then s
      else if 0x10 ≤ r.kernel ∧ sat then sigFault n 7 (tally 4 (SIG_Cn_SAT_COUNT n) 1 s)
      else
        let s1 := r.stores.foldl (fun s w => { s with radioMem := writeBytes w.1 w.2 s.radioMem }) (setSig n { c with run := none } s)
        let s2 := modJob r.cell r.slot true (jobReport r sat k) s1
        let s3 := match k.fft with
          | some f => if 0x10 ≤ r.kernel then { s2 with fftOut := fftStore r f :: s2.fftOut } else s2
          | none => s2
        let s4 := if r.kernel = 5 ∧ ¬ k.prach.isEmpty then prachDetect r.cell s3 else s3
        let s5 := tally 4 (SIG_Cn_RUNS_COUNT n) 1 (if sat then tally 4 (SIG_Cn_SAT_COUNT n) 1 s4 else s4)
        tally1024 4 (SIG_Cn_BUSY_COUNT n) ((s.now - r.start) / 1536) (setF (SIG_Cn_INFO_KERNEL n) 0 (setF (SIG_Cn_INFO_STATE n) 0 s5)))

/-- CYCLE_BUDGET_SPENT (R150): an invocation that has run for its cycle budget raises fault cause 6. -/
def execCycleBudgetSpent (n : Fin 64) (s : State) : Host.Outcome State Fault Refusal :=
  goesOn s (match (sigOf n s).run with
    | none => s
    | some r => if r.fault.isNone ∧ r.budget ≤ (s.now - r.start) / 1536 then sigFault n 6 s else s)

/-- KERNEL_RETRY (R152): a faulted invocation runs once more, from its start, on another logical Signal Core. -/
def execKernelRetry (n m : Fin 64) (s : State) : Host.Outcome State Fault Refusal :=
  goesOn s (match (sigOf n s).run with
    | none => s
    | some r =>
      if r.fault.isSome ∧ m ≠ n ∧ sigFree m s then invoke m { r with retry := true } (dropFaulted m (setSig n { sigOf n s with run := none } s))
      else s)

/-- SC_DMA_DONE (R137): a DMA transfer between Signal Core Memory and the radio carve completes; a store of an
invocation that then faults is discarded (R151). -/
def execScDmaDone (n : Fin 64) (toCore : Bool) (scm carve len : Nat) (s : State) : Host.Outcome State Fault Refusal :=
  let c := sigOf n s
  goesOn s (match c.run with
    | none => s
    | some r =>
      if r.fault.isSome then s
      else if scmBytes < scm + len then sigFault n 2 s
      else if toCore then setSig n { c with mem := writeBytes scm (readBytes s.radioMem carve len) c.mem } s
      else setSig n { c with run := some { r with stores := r.stores ++ [(carve, readBytes c.mem scm len)] } } s)

/-! ### Spares (R153, R372) -/

/-- The spare Signal Cores. -/
def scSpares (s : State) : List Nat :=
  sparesOf 72 (((List.range 64).filter (fun n => sigIn n s)).map (fun n => scPhys n s)) s.scRetired

/-- Retires the physical core of logical Signal Core n: a spare takes the number, or the number leaves service and the
Escrow recomputes its capacity (R153, R20, R65, R372). -/
def scRetire (n cause count : Nat) (s : State) : State :=
  let q := scPhys n s
  let s1 := sigEvent SIG_STAT_RETIRED { s with scRetired := insertNat q s.scRetired, sigCore := put n ((sigOf n s).run.map (fun r => { SigCore.reset with run := some r })) s.sigCore }
  match chooseSpare 9 (q / 9) (scSpares s) with
  | some p =>
    noteSpared 2 cause n q p count (subF FLT_SPARE_SC 1 (subF SIG_STAT_SPARES 1
      (setF (SIG_Cn_INFO_DIE n) (p / 9) (setF (SIG_Cn_INFO_PHYS n) p s1))))
  | none =>
    capacityRecompute (noteNoSpare 2 cause n q count (subF SIG_STAT_ACTIVE 1 { s1 with scRemoved := insertNat n s1.scRemoved }))

/-- SIGNAL_CORE_SPARE_IN (R153): at the end of the invocation on a Suspect core, or at once when none runs, a spare takes
its logical number; with no spare left the number leaves service. -/
def execSignalCoreSpareIn (n : Fin 64) (s : State) : Host.Outcome State Fault Refusal :=
  let running := (sigOf n s).run.any (fun r => r.fault.isNone)
  let why := look 0 (2 * 2 ^ 16 + scPhys n s) s.unitCause
  goesOn s (if sigIn n s ∧ (scSuspect (scPhys n s) s ∨ spareWaits 2 n s) ∧ ¬ running ∧ scPhys n s ∉ s.scRetired then spareDone 2 n (scRetire n (why % 256) (why / 256) s) else s)

end Sys2Proof.Machine
end

