-- ==== Sys2Proof/Machine/Passes.lean ====
section
/-! DEFINITION. Passes of the array: descriptors and their checks, the arithmetic of the formats, and what a complete pass
leaves (R187 to R204, R206, R209, R224, R225). -/

namespace Sys2Proof.Machine

/-! ### Descriptors (R190, R194, R199, R200, R201) -/

/-- A descriptor from its 32 bytes. -/
def descOf (l : List Byte) : PassDesc :=
  let b := fieldLE l 0 1
  ⟨b % 16, bitAt 4 b, bitAt 5 b, bitAt 6 b, bitAt 7 b, fieldLE l 1 1 % 16, fieldLE l 1 1 / 16, fieldLE l 2 1, fieldLE l 4 2,
    fieldLE l 6 2, fieldLE l 8 2, fieldLE l 12 4, fieldLE l 16 4, fieldLE l 20 4, fieldLE l 24 4, fieldLE l 28 4⟩

/-- Bits of an element. -/
def fmtBits (c : Nat) : Nat :=
  match c with
  | 0 => 4
  | 1 => 6
  | 2 => 6
  | 3 => 8
  | 4 => 8
  | 5 => 16
  | 6 => 16
  | 8 => 4
  | 9 => 8
  | 10 => 16
  | _ => 32

/-- The family of a pair: 0 MX float, 1 16-bit float, 2 integer, 3 complex; none for a pair that is not allowed. -/
def pairFamily (a b : Nat) : Option Nat :=
  if a ≤ 4 ∧ b ≤ 4 then some 0
  else if (a = 5 ∨ a = 6) ∧ (b = 5 ∨ b = 6) then some 1
  else if ((a = 8 ∨ a = 9) ∧ (b = 8 ∨ b = 9)) ∨ (a = 10 ∧ b = 10) then some 2
  else if a = 12 ∧ b = 12 then some 3
  else none

/-- The family of a descriptor's pair; a pair not allowed counts as MX float, and is refused at issue. -/
def family (d : PassDesc) : Nat := (pairFamily d.fmtS d.fmtM).getD 0

/-- Both operands are 4-bit. -/
def bothFour (d : PassDesc) : Bool := decide ((d.fmtS = 0 ∧ d.fmtM = 0) ∨ (d.fmtS = 8 ∧ d.fmtM = 8))

/-- A Clover shape. -/
def isClover (sh : Nat) : Bool := decide (8 ≤ sh)

/-- Units, unit K and unit N of a shape; none for a code not listed. -/
def shapeDims (sh : Nat) (four : Bool) : Option (Nat × Nat × Nat) :=
  let x := if four then 2 else 1
  match sh with
  | 0 => some (1, 256 * x, 256)
  | 1 => some (2, 128 * x, 256)
  | 2 => some (4, 128 * x, 128)
  | 8 => some (1, 128, 128)
  | 9 => some (16, 64, 16)
  | 10 => some (64, 16, 16)
  | _ => none

/-- The shape of a descriptor. -/
def shape (d : PassDesc) : Nat × Nat × Nat := (shapeDims d.shape (bothFour d)).getD (1, 256, 256)

/-- Bytes of a result element: FP32 and INT32 4, 64-bit integers and CI32 8, raw Clover 16. -/
def elemBytes (d : PassDesc) : Nat :=
  if isClover d.shape then (if d.shift = 0xFF then 16 else 8) else if d.acc64 then 8 else 4

/-- Bytes of the results of a pass, and of its ACC_IN rows. -/
def resultBytes (d : PassDesc) : Nat := (shape d).1 * d.m * d.n * elemBytes d

/-- c_f / e as a number of issue cycles per moving vector (R194, R199). -/
def issueCycles (d : PassDesc) : Nat :=
  let cf := if family d = 0 ∨ (family d = 2 ∧ d.fmtS ≠ 10) then 1 else 2
  let e := if d.shape = 10 then (if d.shift = 0xFF then 4 else 2)
    else if (d.shape = 1 ∨ d.shape = 2) ∧ d.acc64 ∧ d.fmtS ≠ 10 then 2 else 1
  cf * e

/-- P = 256 + ceil(M × c_f / e) (R201). -/
def passLength (d : PassDesc) : Nat := 256 + d.m * issueCycles d

/-- The demand of a pass: ceil(64 × e × u) (R206). -/
def demandOf (d : PassDesc) : Nat :=
  let e := if d.shape = 10 then (if d.shift = 0xFF then 4 else 2) else if (d.shape = 1 ∨ d.shape = 2) ∧ d.acc64 ∧ d.fmtS ≠ 10 then 2 else 1
  ceilDiv (64 * d.k * d.n) (e * (shape d).2.1 * (shape d).2.2)

/-- The pass uses scales or exponents. -/
def usesScale (d : PassDesc) : Bool := decide (d.fmtS ≤ 4) || decide (d.fmtM ≤ 4) || decide (d.fmtS = 12)

/-- Elements that share a scale or exponent, and its rows of a stationary operand. -/
def groupLen (d : PassDesc) : Nat := if family d = 0 then 32 else 16

/-- Bytes of a unit's stationary operand and of its moving operand (R192). -/
def statBytes (d : PassDesc) : Nat := ceilDiv (d.k * d.n * fmtBits d.fmtS) 8
def movBytes (d : PassDesc) : Nat := ceilDiv (d.m * d.k * fmtBits d.fmtM) 8

/-- Bytes of the scales of all units. -/
def scaleBytes (d : PassDesc) : Nat := (shape d).1 * (d.k / groupLen d * d.n + d.m * (d.k / groupLen d))

/-- K lies in range and is a multiple as R191 and R200 ask. -/
def kOk (d : PassDesc) : Bool :=
  decide (1 ≤ d.k) && decide (d.k ≤ (shape d).2.1) &&
    (match family d with
     | 0 => decide (d.k % 32 = 0)
     | 2 => decide (d.fmtS ≠ 8 ∧ d.fmtM ≠ 8) || decide (d.k % 2 = 0)
     | 3 => decide (d.k % 16 = 0)
     | _ => true)

/-- Two ranges of n bytes overlap. -/
def overlap (a b n : Nat) : Bool := decide (a < b + n) && decide (b < a + n)

/-- The fields of a descriptor are legal (R190, R191, R194, R196, R199, R200, R203, R205). -/
def descLegal (radio : Bool) (cap : Nat) (d : PassDesc) : Bool :=
  (pairFamily d.fmtS d.fmtM).isSome && (shapeDims d.shape (bothFour d)).isSome && decide (isClover d.shape = decide (family d = 3)) &&
    (radio || !isClover d.shape) && (decide (family d = 2) || !d.acc64) && (decide (d.fmtS ≠ 10) || d.acc64) && (isClover d.shape || !d.conj) &&
    (decide (d.shift = 0xFF) || (isClover d.shape && decide (d.shift ≤ 63))) && decide (1 ≤ d.m) && decide (d.m ≤ 8192) && kOk d &&
    decide (1 ≤ d.n) && decide (d.n ≤ (shape d).2.2) && decide (passLength d ≤ cap) &&
    decide (d.stat % 64 = 0) && decide (d.mov % 64 = 0) && decide (d.out % 64 = 0) &&
    (!d.accIn || (decide (d.acc % 64 = 0) && !overlap d.acc d.out (resultBytes d))) && (!usesScale d || decide (d.scale % 64 = 0))

/-- The ranges of a pass lie in its area (R188). -/
def descArea (x : EngSet) (d : PassDesc) : Bool :=
  let u := (shape d).1
  inArea x d.stat (u * statBytes d) && inArea x d.mov (u * movBytes d) && inArea x d.out (resultBytes d) &&
    (!d.accIn || inArea x d.acc (resultBytes d)) && (!usesScale d || inArea x d.scale (scaleBytes d))

/-! ### Operands (R192, R193) -/

/-- Element j of a packed operand at address a of core n. -/
def elemAt (n a w j : Nat) (s : State) : Nat := leNat (csRead n (a + w * j / 8) 5 s) / 2 ^ (w * j % 8) % 2 ^ w

/-- Stationary element (k, c) and moving element k of vector i, of unit u. -/
def statElem (n : Nat) (d : PassDesc) (u k c : Nat) (s : State) : Nat := elemAt n (d.stat + u * statBytes d) (fmtBits d.fmtS) (k * d.n + c) s
def movElem (n : Nat) (d : PassDesc) (u i k : Nat) (s : State) : Nat := elemAt n (d.mov + u * movBytes d) (fmtBits d.fmtM) (i * d.k + k) s

/-- Scale or exponent bytes of group g: stationary column c and moving vector i, of unit u; the stationary ones of every
unit come first. -/
def statScale (n : Nat) (d : PassDesc) (u g c : Nat) (s : State) : Nat :=
  leNat (csRead n (d.scale + u * (d.k / groupLen d * d.n) + g * d.n + c) 1 s)
def movScale (n : Nat) (d : PassDesc) (u i g : Nat) (s : State) : Nat :=
  leNat (csRead n (d.scale + (shape d).1 * (d.k / groupLen d * d.n) + u * (d.m * (d.k / groupLen d)) + i * (d.k / groupLen d) + g) 1 s)

/-- The address of element (i, c) of unit u in the result layout. -/
def resultAddr (d : PassDesc) (base u i c : Nat) : Nat := base + ((u * d.m + i) * d.n + c) * elemBytes d

/-! ### Accumulation (R195 to R197) -/

/-- A result element: its bytes as a number, INV and OVF. -/
abbrev ElemOut := Nat × Bool × Bool

/-- An element times its block's scale: NaN under the scale 0xFF. -/
def scaled (fmt : Nat) (bits scale : Nat) : Num :=
  if scale = 0xFF then .nan false
  else match decodeNum (fmtOf fmt) bits with
    | .fin g m e => .fin g m (e + (scale : Int) - 127)
    | v => v

/-- The terms of group g of a floating pass. -/
def floatTerms (n : Nat) (d : PassDesc) (u i c g : Nat) (s : State) : List (Num × Bool) :=
  let mx := family d = 0
  let ss := if mx then statScale n d u g c s else 127
  let sm := if mx then movScale n d u i g s else 127
  (List.range (min (groupLen d) (d.k - g * groupLen d))).map (fun j =>
    mulNum (scaled d.fmtS (statElem n d u (g * groupLen d + j) c s) ss) (scaled d.fmtM (movElem n d u i (g * groupLen d + j) s) sm))

/-- The exact sum of the terms of a group; an exact zero is +0. -/
def groupSum (l : List (Num × Bool)) : Num :=
  match l.foldl (fun a t => (addNum a t.1).1) (.fin false 0 0) with
  | .fin g m e => .fin (g && decide (m ≠ 0)) m e
  | v => v

/-- One step of R195: the sum of a group added to the accumulator, rounded to FP32. -/
def floatStep (n : Nat) (d : PassDesc) (u i c : Nat) (s : State) (x : ElemOut) (g : Nat) : ElemOut :=
  let r := (addNum (decodeNum fp32 x.1) (groupSum (floatTerms n d u i c g s))).1
  let y := encodeNum fp32 r
  (y.1, x.2.1 || isNan r, x.2.2 || bitAt 2 y.2)

/-- A floating result element (R195). -/
def floatElem (n : Nat) (d : PassDesc) (u i c : Nat) (s : State) : ElemOut :=
  let acc := if d.accIn then leNat (csRead n (resultAddr d d.acc u i c) 4 s) else 0
  (List.range (ceilDiv d.k (groupLen d))).foldl (floatStep n d u i c s) (acc, false, false)

/-- An integer result element (R196). -/
def intElem (n : Nat) (d : PassDesc) (u i c : Nat) (s : State) : ElemOut :=
  let w := 8 * elemBytes d
  let acc : Int := if d.accIn then bitsInt w (leNat (csRead n (resultAddr d d.acc u i c) (elemBytes d) s)) else 0
  let r := (List.range d.k).foldl (fun (x : Int × Bool) k =>
    let y := satInt w (x.1 + bitsInt (fmtBits d.fmtS) (statElem n d u k c s) * bitsInt (fmtBits d.fmtM) (movElem n d u i k s))
    (y.1, x.2 || y.2)) (acc, false)
  (intBits w r.1, false, r.2)

/-- A CI16 element. -/
def ciElem (b : Nat) : Int × Int := (bitsInt 16 b, bitsInt 16 (b / 2 ^ 16))

/-- One step of R197: a group of 16 complex products, times two to the exponents, added with saturation. -/
def cloverStep (n : Nat) (d : PassDesc) (u i c : Nat) (s : State) (x : Int × Int × Bool) (g : Nat) : Int × Int × Bool :=
  let e := statScale n d u g c s % 16 + movScale n d u i g s % 16
  let t := (List.range 16).foldl (fun (a : Int × Int) j =>
    let p := cmul (conjIf d.conj (ciElem (statElem n d u (16 * g + j) c s))) (ciElem (movElem n d u i (16 * g + j) s))
    (a.1 + p.1, a.2 + p.2)) (0, 0)
  let yi := satInt 64 (x.1 + t.1 * 2 ^ e)
  let yq := satInt 64 (x.2.1 + t.2 * 2 ^ e)
  (yi.1, yq.1, x.2.2 || yi.2 || yq.2)

/-- A component as OUT_SHIFT writes it. -/
def cloverOut (sh : Nat) (v : Int) : Int × Bool := satInt 32 (if sh = 0 then v else (v + 2 ^ (sh - 1)) / (2 ^ sh : Int))

/-- A Clover result element (R197). -/
def cloverElem (n : Nat) (d : PassDesc) (u i c : Nat) (s : State) : ElemOut :=
  let w := 4 * elemBytes d
  let a := resultAddr d d.acc u i c
  let acc : Int × Int := if d.accIn then (bitsInt w (leNat (csRead n a (w / 8) s)), bitsInt w (leNat (csRead n (a + w / 8) (w / 8) s))) else (0, 0)
  let r := (List.range (d.k / 16)).foldl (cloverStep n d u i c s) (acc.1, acc.2, false)
  if d.shift = 0xFF then (intBits 64 r.1 + intBits 64 r.2.1 * 2 ^ 64, false, r.2.2)
  else
    let i1 := cloverOut d.shift r.1
    let q1 := cloverOut d.shift r.2.1
    (intBits 32 i1.1 + intBits 32 q1.1 * 2 ^ 32, false, r.2.2 || i1.2 || q1.2)

/-- A result element of a pass. -/
def passElem (n : Nat) (d : PassDesc) (u i c : Nat) (s : State) : ElemOut :=
  match family d with
  | 2 => intElem n d u i c s
  | 3 => cloverElem n d u i c s
  | _ => floatElem n d u i c s

/-- The result elements of a pass in the order of R192: unit by unit, row by row. -/
def passElems (n : Nat) (d : PassDesc) (s : State) : List ElemOut :=
  (List.range ((shape d).1 * d.m * d.n)).map (fun j => passElem n d (j / d.n / d.m) (j / d.n % d.m) (j % d.n) s)

/-- A pass with its results and flags. -/
def passResult (n : Nat) (p : Pass) (s : State) : Pass :=
  let l := passElems n p.d s
  { p with result := l.flatMap (fun x => natLE (elemBytes p.d) x.1), inv := l.any (fun x => x.2.1), ovf := l.any (fun x => x.2.2) }

/-! ### Completion (R198, R203, R209, R224, R225) -/

/-- The Tile Queue entries of a complete pass: by unit, then by run of 64 rows. -/
def tqEntries (p : Pass) : List Nat :=
  let d := p.d
  let runs := ceilDiv d.m 64
  let total := (shape d).1 * runs
  if d.tq then
    (List.range total).map (fun j =>
      let u := j / runs
      let r := j % runs
      (resultAddr d d.out u (64 * r) 0) % 2 ^ 21 + min 64 (d.m - 64 * r) * 2 ^ 21 + d.n * 2 ^ 28 + u % 4 * 2 ^ 37 +
        b2n (decide (elemBytes d = 8)) * 2 ^ 39 + p.idx % 2 ^ 24 * 2 ^ 64 + b2n p.inv * 2 ^ 88 + b2n p.ovf * 2 ^ 89 + b2n (decide (j + 1 = total)) * 2 ^ 90)
  else []

/-- Entries enter the Tile Queue while it has room; the rest await posting. -/
def tqPost (l : List Nat) (x : EngSet) : EngSet :=
  let room := if x.tqPend.isEmpty then 8 - x.tq.length else 0
  { x with tq := x.tq ++ l.take room, tqPend := x.tqPend ++ l.drop room }

/-- ORs flags into VSTAT. -/
def raiseV (f : Nat) (x : EngSet) : EngSet := { x with vstat := x.vstat ||| f }

/-- The token a pass signals, if any. -/
def signal (t : Option Nat) (x : EngSet) : EngSet :=
  match t with
  | none => x
  | some k => setTok k (tokOf x k + 1) x

/-- The first draining pass of core n is complete (R209): its last row written, its flags in VSTAT, its DT token
signalled, its Tile Queue entries made. -/
def completePass (n : Nat) (p : Pass) (s : State) : State :=
  let s1 := csWrite n p.d.out p.result s
  setF (MXC_Cn_PASS_LAST n) p.idx
    (modEng n (fun x => tqPost (tqEntries p) (raiseV (b2n p.inv + 4 * b2n p.ovf) (signal p.dt
      (moved s { x with drain := x.drain.drop 1, done := p.idx + 1 })))) s1)

/-- Every pass whose stream has ended completes (R209). -/
def completeDrain (n : Nat) (s : State) : State :=
  match engAt n s with
  | none => s
  | some x => x.drain.foldl (fun s p => completePass n p s) s

end Sys2Proof.Machine
end

