-- ==== Sys2Proof/Machine/WorkTiles.lean ====
section
/-! DEFINITION. Work tiles and STEPs: how they start, stop, fault and end, and what their ends leave in the STEP, the Ledger
and the Matrix Core's registers (R209 to R214, R234 to R236, R326 to R334, R350 to R356, R363, R366, R382, R383). -/

namespace Sys2Proof.Machine

/-! ### Suspect Matrix Cores (R214, R380) -/

/-- Marks the physical core p of logical core n Suspect with the fault that led to it. -/
def mcMarkSuspect (n p cause count : Nat) (s : State) : State :=
  if flagF (FLT_MCp_ASSAY_SUSPECT p) s then s
  else noteSuspect 1 cause n p count (setF (FLT_MCp_ASSAY_SUSPECT p) 1 { s with unitCause := put (2 ^ 16 + p) (some (cause + 256 * count)) s.unitCause })

/-- A fault of cause 3 or 4 on the physical core of n: the second in one Assay period makes it Suspect. -/
def mcCountFault (n cause : Nat) (s : State) : State :=
  let p := mcPhys n s
  let k := look 0 p s.mcFaults + 1
  let s1 := { s with mcFaults := put p (some k) s.mcFaults }
  if 2 ≤ k then mcMarkSuspect n p (0x10 + cause) k s1 else s1

/-- Charges a physical core one SHADOW mismatch, schedules an Assay, and marks it Suspect at THR (R380, R383). -/
def mcMismatch (n cause : Nat) (s : State) : State :=
  let p := mcPhys n s
  let s1 := addSatF (FLT_MCp_ASSAY_PERIOD_CNT p) 1 { s with assayDue := insertNat (2 ^ 16 + p) s.assayDue }
  let k := getF (FLT_MCp_ASSAY_PERIOD_CNT p) s1
  if getF FLT_ASSAY_THR s1 ≤ k then mcMarkSuspect n p cause k s1 else s1

/-! ### Stopping a set (R210, R233) -/

/-- A set as it is saved: the pass that loaded or streamed is to be issued again, loads not yet written are discarded, and
every transfer not complete is to be issued again whole. -/
def stopSet (x : EngSet) : EngSet :=
  { x with passQ := x.run.toList ++ x.passQ, run := none, xacts := [], xfers := x.xfers.map (fun t => { t with row := 0, off := 0 }) }

/-- Takes the engine set off core n; its issued stores still complete. -/
def dropEng (n : Nat) (s : State) : State :=
  match engAt n s with
  | none => s
  | some x => putEng n none { s with loose := s.loose ++ (x.xacts.filter (fun t => !t.load)).map (fun t => (x.part, t)) }

/-- A pass that loads or streams on core n is abandoned and counted (R210, R215). -/
def countAbandon (n : Nat) (x : EngSet) (s : State) : State :=
  if x.run.isSome then tally 6 (MXC_Cn_ABANDON_COUNT n) 1 s else s

/-! ### Ends of work tiles (R213, R234, R236, R331, R363, R366) -/

/-- Adds the end of a tile to its STEP, with the tile's VSTAT. -/
def recordEnd (c : Nat) (e : TileEnd) (v : Nat) (s : State) : State :=
  modStep c (fun st => { st with ended := st.ended ++ [e], vstat := st.vstat ||| v }) s

/-- What the end of a tile on core n records. -/
def tileEndOf (n : Nat) (x : EngSet) (status cause link : Nat) (inj : Bool) (s : State) : TileEnd :=
  let p := mcPhys n s
  ⟨x.tile, x.first, x.count, status, cause, 2 * b2n x.fb + 8 * b2n x.retry + 16 * b2n (detPart x.part s) + 32 * b2n inj, link, x.done, n, p, unitBand 1 p s⟩

/-- Ends the tile of a set that has been taken off core n. -/
def endTile (n : Nat) (x : EngSet) (status cause link : Nat) (inj : Bool) (s : State) : State :=
  recordEnd x.ctx (tileEndOf n x status cause link inj s) x.vstat s

/-- The retry of a radio tile has failed, or a program cause ends it: its allocations end FAILED; a neural tile that
failed twice is marked for RX_PATH 4 (R82, R213). -/
def radioFail (n : Nat) (r : RadioTile) (cause : Nat) (retried : Bool) (s : State) : State :=
  if r.neural then modJob r.cell r.slot true (fun j => { j with neuralFailed := j.neuralFailed || retried }) s
  else failJob r.cell r.slot r.ul cause retried ⟨n, mcPhys n s, unitBand 1 (mcPhys n s) s, s.injecting⟩ s

/-- The partition of a context holds one core, or is in Deterministic mode: a retry stays on its core (R213, R356). -/
def retryHere (p : Nat) (s : State) : Bool := detPart p s || decide ((partCores p s).length ≤ 1)

/-- Queues a tile of context c to be run again. -/
def runAgain (c : Nat) (a : Again) (s : State) : State := modStep c (fun st => { st with again := st.again ++ [a] }) s

/-- A tile taken off core n for a hardware cause is retried once, and ends FAILED when the retry faults (R213). -/
def hardwareEnd (n : Nat) (x : EngSet) (cause : Nat) (inj : Bool) (s : State) : State :=
  match x.radio with
  | some r => if x.retry then radioFail n r (0x10 + cause) true s else { s with radioAgain := s.radioAgain ++ [(n, r)] }
  | none =>
    if x.retry then endTile n x stITEM_FAILED (0x10 + cause) 0xFFFFFFFF inj s
    else runAgain x.ctx ⟨x.tile, if retryHere x.part s then none else some n, x.fb, x.shadow, true⟩ s

/-- A tile taken off core n for a program cause ends FAILED with no retry (R210). -/
def programEnd (n : Nat) (x : EngSet) (cause : Nat) (s : State) : State :=
  match x.radio with
  | some r => radioFail n r (0x10 + cause) false s
  | none => endTile n x stITEM_FAILED (0x10 + cause) 0xFFFFFFFF false s

/-- MXC_Cn_FAULT and MXC_STAT.FAULT after a fault of the set of core n (R215). -/
def faultRegs (n cause : Nat) (x : EngSet) (s : State) : State :=
  mxcEvent MXC_STAT_FAULT (setF (MXC_Cn_FAULT_PASS n) x.done (setF (MXC_Cn_FAULT_RETRIED n) (b2n x.retry)
    (setF (MXC_Cn_FAULT_VALID n) 1 (setF (MXC_Cn_FAULT_CAUSE n) cause s))))

/-- A fabric operation belongs to the tile that a set runs on core n. -/
def opOf (n : Nat) (x : EngSet) (f : Ftt) : Bool := decide (f.core = n) && decide (f.ctx = x.ctx) && decide (f.tile = x.tile)

/-- The operations of a tile that ends with a fault still end, for no engine set (R233, R315). -/
def detachOps (n : Nat) (x : EngSet) (s : State) : State :=
  { s with ftt := s.ftt.map (fun f => if opOf n x f then { f with core := 0xFFFF } else f) }

/-- The set of core n stops at once: passes whose stream has ended complete, the pass in progress is abandoned, and the
set leaves the core (R209, R210). -/
def haltSet (n : Nat) (s : State) : Option (EngSet × State) :=
  let s1 := completeDrain n s
  (engAt n s1).map (fun x => (x, detachOps n x (dropEng n (countAbandon n x s1))))

/-- A fault of the set of core n (R210, R214, R234): causes 1, 2, 5 and 6 are program causes, 3 and 4 hardware causes. -/
def tileFaultBy (inj : Bool) (n cause : Nat) (s : State) : State :=
  match haltSet n s with
  | none => s
  | some (x, s1) =>
    let s2 := faultRegs n cause x s1
    if cause = 3 ∨ cause = 4 then hardwareEnd n x cause inj (mcCountFault n cause s2) else programEnd n x cause s2

/-- A fault that no injection brought about. -/
def tileFault (n cause : Nat) (s : State) : State := tileFaultBy false n cause s

/-- The STEP of a tile may run it from the fallback image (R331). -/
def mayFallBack (x : EngSet) (s : State) : Bool :=
  match ctxOf x.ctx s, stepOf x.ctx s with
  | some c, some st => bitAt 1 st.flags && decide (c.fbImage ≠ 0) && st.fbTab.isSome && !x.sentFab && !x.fb
  | _, _ => false

/-- A tile taken off core n whose items would end POISONED: it runs once more from the fallback image, or ends so (R269,
R331). -/
def poisonEnd (n : Nat) (x : EngSet) (cause link : Nat) (s : State) : State :=
  match x.radio with
  | some r => radioFail n r cause false s
  | none =>
    if mayFallBack x s then runAgain x.ctx ⟨x.tile, none, true, x.shadow, false⟩ s else endTile n x stPOISONED cause link false s

/-- A read of the set of core n met poisoned data: the tile stops as for a program cause (R269). -/
def tilePoison (n : Nat) (s : State) : State :=
  match haltSet n s with
  | none => s
  | some (x, s1) => poisonEnd n x 0x41 0xFFFFFFFF s1

/-- Every engine of a set has executed END, and its transfers, passes and fabric operations are complete (R236). -/
def tileDone (n : Nat) (x : EngSet) (s : State) : Bool :=
  [0, 1, 2, 3].all (fun e => decide ((engine x e).st = 0)) && x.xfers.isEmpty && x.passQ.isEmpty && x.run.isNone && x.drain.isEmpty &&
    !s.ftt.any (opOf n x)

/-- The end of a primary run that awaits its shadow run (R382). -/
def awaitShadow (n : Nat) (x : EngSet) (s : State) : State :=
  runAgain x.ctx ⟨x.tile, some n, x.fb, true, false⟩
    (modStep x.ctx (fun st => { st with vstat := st.vstat ||| x.vstat, shadow := st.shadow ++ [(x.tile, n, x.digest, x.vstat)] }) s)

/-- The end of a radio work tile: the neural result is complete with its last tile, and an invalid-operation flag marks it
(R81, R232). -/
def radioEnd (r : RadioTile) (x : EngSet) (s : State) : State :=
  if r.neural then
    modJob r.cell r.slot true (fun j => { j with neuralDone := j.neuralDone || r.last, neuralInvalid := j.neuralInvalid || bitAt 0 x.vstat }) s
  else s

/-- How a finished tile that has been taken off core n ends: COMPLETE, or FAILED with its fabric operations (R229). -/
def finishTile (n : Nat) (x : EngSet) (s : State) : State :=
  match x.radio with
  | some r => radioEnd r x s
  | none =>
    if x.faberr then
      if x.failStatus = stPOISONED then poisonEnd n x (0x50 + x.failCause) x.firstFail s
      else endTile n x x.failStatus (0x50 + x.failCause) x.firstFail false s
    else if (stepOf x.ctx s).any (fun st => bitAt 0 st.flags) then awaitShadow n x s
    else endTile n x 0 0 0xFFFFFFFF false s

/-- WORK_TILE_END (R236): the tile of core n ends when its engines and all its work have ended; entries left in the Tile
Queue, or awaiting posting, are fault cause 1 (R224). -/
def execWorkTileEnd (n : Nat) (s : State) : Host.Outcome State Fault Refusal :=
  goesOn s (match engAt n s with
    | none => s
    | some x =>
      if x.shadow ∨ !tileDone n x s then s
      else if !x.tq.isEmpty ∨ !x.tqPend.isEmpty then tileFault n 1 s
      else finishTile n x (dropEng n s))

/-- The SHADOW entry of a mismatch (R366 KIND 8). -/
def shadowEntry (c n primary : Nat) (x : EngSet) (st : Step) (s : State) : LedgerEvent :=
  let p := mcPhys primary s
  { kind := 8, flags := 16 * b2n (detPart x.part s), status := 0, seq := st.seq, func := partFunc x.part s, part := x.part, cause := 0x90,
    td := eventTd s, band := unitBand 1 p s, at_ := counter (eventTd s) s, lunit := primary, punit := p, object := c,
    body := natLE 4 x.first ++ natLE 4 x.count ++ natLE 4 x.tile ++ natLE 2 (mcPhys n s) }

/-- The digests or the VSTAT values of the two runs of a tile differ (R383). -/
def shadowMismatch (n primary : Nat) (x : EngSet) (st : Step) (s : State) : State :=
  let s1 := fltEvent FLT_STAT_SHADOW (tally 16 FLT_T_SHADOW_COUNT 1 (ledgerAdd (shadowEntry x.ctx n primary x st s) s))
  mcMismatch n 0x90 (mcMismatch primary 0x90 (endTile primary x stITEM_FAILED 0x90 0xFFFFFFFF false s1))

/-- SHADOW_RUN_END (R383): the shadow run on core n ends and is compared with the primary run. -/
def execShadowRunEnd (n : Nat) (s : State) : Host.Outcome State Fault Refusal :=
  goesOn s (match engAt n s with
    | none => s
    | some x =>
      if !x.shadow ∨ !tileDone n x s then s
      else if !x.tq.isEmpty ∨ !x.tqPend.isEmpty then tileFault n 1 s
      else match stepOf x.ctx s with
        | none => s
        | some st =>
          let s1 := modStep x.ctx (fun q => { q with shadow := q.shadow.filter (fun r => decide (r.1 ≠ x.tile)) }) (dropEng n s)
          match st.shadow.find? (fun r => decide (r.1 = x.tile)) with
          | none => endTile n x 0 0 0xFFFFFFFF false s1
          | some (_, m, dig, v) => if dig = x.digest ∧ v = x.vstat then endTile n x 0 0 0xFFFFFFFF false s1 else shadowMismatch n m x st s1)

/-! ### Giving out tiles (R213, R333, R334, R352, R356) -/

/-- The tile table of a run. -/
def runTab (st : Step) (fb : Bool) : TileTab := if fb then st.fbTab.getD st.tab else st.tab

/-- The image of a run. -/
def runImage (c : Ctx) (st : Step) (fb : Bool) : Nat := if fb then c.fbImage else st.image

/-- Tile j has ended. -/
def tileEnded (st : Step) (j : Nat) : Bool := st.ended.any (fun e => decide (e.tile = j))

/-- The stage whose tiles are given out: the first with a tile that has not ended (R352). -/
def curStage (st : Step) (s : State) : Nat :=
  ((List.range st.tab.nStages).find? (fun k =>
    (List.range (stageStart st.image st.tab (k + 1) s - stageStart st.image st.tab k s)).any (fun j => !tileEnded st (stageStart st.image st.tab k s + j)))).getD st.tab.nStages

/-- A tile of an earlier stage has failed: no tile of a later stage runs (R352). -/
def cascades (st : Step) (s : State) : Bool :=
  st.ended.any (fun e => decide (e.status ≠ 0) && decide (e.tile < stageStart st.image st.tab (curStage st s) s))

/-- Tile j of context c has been given out, or waits to run again. -/
def tileGiven (cn : Nat) (c : Ctx) (st : Step) (j : Nat) (s : State) : Bool :=
  tileEnded st j || st.again.any (fun a => decide (a.tile = j)) || st.shadow.any (fun a => decide (a.1 = j)) ||
    c.saved.any (fun x => decide (x.2.tile = j)) || s.eng.any (fun x => decide (x.2.ctx = cn) && decide (x.2.tile = j))

/-- The cores that a STEP in Deterministic mode runs on: those of the partition in service, up to MAXCORES (R356). -/
def detCores (p : Nat) (st : Step) (s : State) : List Nat := ((partCores p s).filter (fun n => coreInService n s)).take st.maxCores

/-- Core n may run tile j of the stage that begins at tile f (R356). -/
def mayRun (n p f j : Nat) (st : Step) (s : State) : Bool :=
  if detPart p s then decide ((detCores p st s)[(j - f) % max 1 (detCores p st s).length]? = some n) else true

/-- A tile runs again on core n: not on the core it must avoid, and a shadow run on another die where the partition has
one (R213, R382). -/
def againOn (n p : Nat) (a : Again) (s : State) : Bool :=
  match a.avoid with
  | none => true
  | some m =>
    let die (k : Nat) : Nat := mcPhys k s / 20
    decide (n ≠ m) && (!a.shadow || decide (die n ≠ die m) || (partCores p s).all (fun k => decide (die k = die m)))

/-- Saved tiles of a context that must restart: not bound, and of a core on which it holds no Lease (R334). -/
def restartable (cn : Nat) (c : Ctx) (s : State) : List (Nat × EngSet) :=
  c.saved.filter (fun x => !x.2.bound && decide (x.1 ∉ leaseCores cn s))

/-- The tile that core n takes next: the lowest that restarts, else the lowest not yet started. -/
def nextTile (n cn : Nat) (c : Ctx) (st : Step) (s : State) : Option Again :=
  let f := stageStart st.image st.tab (curStage st s) s
  let e := stageStart st.image st.tab (curStage st s + 1) s
  let re := (restartable cn c s).map (fun x => (⟨x.2.tile, none, x.2.fb, x.2.shadow, x.2.retry⟩ : Again))
  let l := ((st.again.filter (fun a => !a.retry && againOn n c.part a s)) ++ re).filter (fun a => mayRun n c.part f a.tile st s)
  let low (a b : Again) : Again := if b.tile < a.tile then b else a
  match l with
  | a :: r => some (r.foldl low a)
  | [] => ((List.range (e - f)).find? (fun j => !tileGiven cn c st (f + j) s && mayRun n c.part f (f + j) st s)).map (fun j => ⟨f + j, none, st.allFb, false, false⟩)

/-- An engine at its entry offset with no register set but G1 and G2 (R236). -/
def engineAt (entry tile param : Nat) : Engine := setG 2 param (setG 1 tile ⟨entry, [], 1⟩)

/-- The engine set of R236. -/
def freshSet (ctx part tile first count image codeEnd passP fabMax scratch param : Nat) (entry : List Nat) (a : Again) (radio : Option RadioTile) (now : Nat) : EngSet :=
  { ctx := ctx, part := part, tile := tile, first := first, count := count, image := image, codeEnd := codeEnd, passP := passP, fabMax := fabMax,
    scratch := scratch, fb := a.fb, retry := a.retry, shadow := a.shadow, bound := false, radio := radio,
    ld := engineAt (entry.getD 0 0) tile param, mx := engineAt (entry.getD 1 0) tile param, vc := engineAt (entry.getD 2 0) tile param,
    sr := engineAt (entry.getD 3 0) tile param, tok := [], tq := [], tqPend := [], passQ := [], run := none, drain := [], issued := 0, done := 0,
    v := [], k := [], vstat := 0, xfers := [], xacts := [], nextX := 0, faberr := false, firstFail := 0xFFFFFFFF, failStatus := 0, failCause := 0, digest := 0,
    sentFab := false, start := now, act := now, fabAct := 0, spilled := false }

/-- A work tile starts on core n (R236): the tile leaves the list of those to run again, or the saved state that it
restarts from, which is counted (R334). -/
def startTile (n cn : Nat) (c : Ctx) (st : Step) (a : Again) (s : State) : State :=
  let image := runImage c st a.fb
  let h := urRead image 64 s
  let l := tileEntry image (runTab st a.fb) a.tile s
  let code := fieldLE h 20 4
  let x := freshSet cn c.part a.tile (fieldLE l 24 4) (fieldLE l 28 4) image (code + fieldLE h 24 4) (fieldLE h 8 4) (fieldLE h 32 2) (fieldLE h 28 4) (fieldLE l 16 8)
    [code + fieldLE l 0 4, code + fieldLE l 4 4, code + fieldLE l 8 4, code + fieldLE l 12 4] a none s.now
  let re := c.saved.any (fun y => decide (y.2.tile = a.tile))
  let s1 := modCtx cn (fun y => { y with saved := y.saved.filter (fun z => decide (z.2.tile ≠ a.tile)) }) s
  let s2 := modStep cn (fun q => { q with again := q.again.filter (fun b => !(decide (b.tile = a.tile) && (b.shadow == a.shadow))), restarts := q.restarts + b2n re, fbTiles := q.fbTiles + b2n a.fb, fbUsed := q.fbUsed || a.fb }) s1
  let s3 := if re then tally 15 SCHED_T_RESTART_COUNT 1 s2 else s2
  let s4 := if a.fb then tally 15 SCHED_T_FALLBACK_COUNT 1 s3 else s3
  setF (MXC_Cn_PASS_LAST n) 0 (putEng n (some x) s4)

/-- A radio work tile starts on core n (R213, R236). -/
def startRadio (n : Nat) (r : RadioTile) (retry : Bool) (s : State) : State :=
  putEng n (some (freshSet 0 15 0 r.cell r.slot r.image r.codeEnd 8192 0 0x40000 r.param r.entry ⟨0, none, false, false, retry⟩ (some r) s.now)) s

/-- Core n is in an open window of a cell's slot. -/
def inWindow (n : Nat) (r : RadioTile) (s : State) : Bool :=
  s.windows.any (fun w => decide (w.core = n) && w.opened && decide (w.cell = r.cell) && decide (w.slot = r.slot) && (w.ul == r.ul) && (w.neural == r.neural))

/-- The Lease under which core n may take a tile of its context's started STEP: it runs, the core is free, and the Ledger of
the partition's function is not low (R333, R369). -/
def freeLease (n : Nat) (s : State) : Option (Nat × Ctx × Step) :=
  match leaseOf n s with
  | none => none
  | some l => match ctxOf l.ctx s with
    | none => none
    | some c => match c.queue with
      | [] => none
      | st :: _ =>
        if issues s ∧ !l.saving ∧ (engAt n s).isNone ∧ st.started ∧ !ledgerLow (partFunc c.part s) s ∧ !(lookup n c.saved).isSome ∧ !s.spills.any (fun x => decide (x.1 = n)) then
          some (l.ctx, c, st)
        else none

/-- WORK_TILE_START (R236): the next tile of the Lease's STEP starts on core n, or a radio tile in an open window. -/
def execWorkTileStart (n : Nat) (radio : Option RadioTile) (s : State) : Host.Outcome State Fault Refusal :=
  goesOn s (match radio with
    | some r => if inWindow n r s ∧ (engAt n s).isNone ∧ issues s then startRadio n r false s else s
    | none => match freeLease n s with
      | none => s
      | some (cn, c, st) =>
        if cascades st s then s
        else match nextTile n cn c st s with
          | none => s
          | some a => startTile n cn c st a s)

/-- WORK_TILE_RETRY (R213): a tile that faulted for a hardware cause runs once more from its start on core n. -/
def execWorkTileRetry (n : Nat) (radio : Bool) (s : State) : Host.Outcome State Fault Refusal :=
  goesOn s (if radio then
      match s.radioAgain.find? (fun x => decide (x.1 ≠ n) && inWindow n x.2 s) with
      | none => s
      | some (m, r) =>
        if (engAt n s).isNone ∧ issues s then startRadio n r true { s with radioAgain := s.radioAgain.filter (fun x => !(decide (x.1 = m) && decide (x.2 = r))) } else s
    else match freeLease n s with
      | none => s
      | some (cn, c, st) =>
        match st.again.find? (fun a => a.retry && againOn n c.part a s) with
        | none => s
        | some a => startTile n cn c st a s)

/-! ### STEPs (R326, R330, R331, R363 to R368) -/

/-- A deadline has passed when the STEP starts. -/
def lateStep (st : Step) (s : State) : Bool := decide (st.deadline ≠ 0) && decide (st.deadline < counter (eventTd s) s)

/-- STEP_START (R326, R329, R331): the queued STEP of context c starts: the step counter advances, FABERR clears, and the
ARGS are written. -/
def execStepStart (c : Nat) (s : State) : Host.Outcome State Fault Refusal :=
  goesOn s (match ctxOf c s with
    | none => s
    | some x => match x.queue with
      | [] => s
      | st :: _ =>
        if st.started ∨ x.st ≠ 2 then s
        else
          let fb := bitAt 1 st.flags && decide (x.fbImage ≠ 0) && lateStep st s
          let s1 := modStep c (fun q => { q with started := true, startAt := counter (eventTd s) s, allFb := fb })
            (modCtx c (fun y => { y with counter := (y.counter + 1) % 2 ^ 64, faberr := false, firstFail := 0 }) s)
          if st.args.isEmpty ∨ !rangeOk x.part true st.argsAddr st.args.length s then s1 else (urWrite st.argsAddr st.args s1).1)

/-- Puts an end of a tile into a list by its first item. -/
def insertEnd (e : TileEnd) : List TileEnd → List TileEnd
  | [] => [e]
  | x :: r => if e.first ≤ x.first then e :: x :: r else x :: insertEnd e r

/-- The failed tiles of a STEP by ascending item. -/
def failedTiles (st : Step) : List TileEnd := (st.ended.filter (fun e => decide (e.status ≠ 0))).foldr insertEnd []

/-- The cascade of a STEP: the tiles of the stages after a failed one, as one run of items (R352, R366). -/
def cascadeEnd (st : Step) (s : State) : Option TileEnd :=
  match failedTiles st with
  | [] => none
  | e :: _ =>
    let f := stageStart st.image st.tab (curStage st s) s
    let l := (List.range (st.tab.nTiles - f)).map (fun j => tileItems st.image st.tab (f + j) s)
    if l.isEmpty then none
    else some ⟨f, (l.map (fun x => x.1)).foldl min (2 ^ 32 - 1), (l.map (fun x => x.2)).sum, e.status, 0x70, 4 + e.flags / 16 % 2 * 16, 0xFFFFFFFF, 0, 0xFFFF, 0xFFFF, 0⟩

/-- The ITEMS entry of a failed tile (R366 KIND 1). -/
def itemsEntry (c : Nat) (x : Ctx) (st : Step) (e : TileEnd) (s : State) : LedgerEvent :=
  { kind := 1, flags := e.flags, status := e.status, seq := st.seq, func := partFunc x.part s, part := x.part, cause := e.cause, td := eventTd s,
    band := e.band, at_ := counter (eventTd s) s, lunit := e.lunit, punit := e.punit, object := c,
    body := natLE 4 e.first ++ natLE 4 e.count ++ natLE 4 e.tile ++ natLE 4 e.link ++ natLE 4 e.pass ++ natLE 4 0 ++ natLE 8 x.counter }

/-- Assigns the entries of failed tiles in ascending item order; the index of the first. -/
def assignItems (c : Nat) (x : Ctx) (st : Step) : List TileEnd → State → Option Nat × State
  | [], s => (none, s)
  | e :: r, s =>
    let a := ledgerAssign (itemsEntry c x st e s) s
    (some a.1, (assignItems c x st r a.2).2)

/-- The result record of R330. -/
def resultRecord (c : Nat) (x : Ctx) (st : Step) (failed complete first : Nat) (s : State) : List Byte :=
  natLE 4 st.seq ++ natLE 4 c ++ natLE 8 x.counter ++ natLE 4 complete ++ natLE 4 failed ++ natLE 4 first ++
    natLE 1 (st.vstat % 32 + 32 * b2n st.fbUsed) ++ natLE 1 st.maxHeld ++ zeros 2 ++ natLE 8 st.startAt ++ natLE 8 (counter (eventTd s) s) ++
    natLE 4 st.refStall ++ natLE 4 st.replays ++ natLE 4 st.restarts ++ natLE 4 st.fbTiles

/-- The DETAIL of a STEP's final reply (R98). -/
def stepDetail (status part failed first : Nat) : Nat := if status = stFENCED then part else if failed = 0 then 0 else itemsDetail failed first

/-- Counts the core cycles of a Lease that ends (R348). -/
def countLease (l : Lease) (s : State) : State :=
  match ctxOf l.ctx s with
  | none => s
  | some c => tally1024 15 (SCHED_Pp_LEASE_COUNT c.part) (nowNs s - l.granted) s

/-- The DEV_QUIESCE commands end once no Lease is held. -/
def quiesceDone (s : State) : State :=
  if s.leases.isEmpty then s.quiesce.foldl (fun s i => finishId i stOK 0 s) { s with quiesce := [] } else s

/-- The context's Leases end with its last STEP, with nothing to save. -/
def endLeases (c : Nat) (s : State) : State :=
  let ls := s.leases.filter (fun l => decide (l.ctx = c))
  quiesceDone (ls.foldl (fun s l => countLease l (setF (MXC_Cn_INFO_CTX l.core) 0 (setF (MXC_Cn_INFO_STATE l.core) 0 s))) { s with leases := s.leases.filter (fun l => decide (l.ctx ≠ c)) })

/-- The context goes on after a STEP: with nothing queued it becomes IDLE, frees its place and answers a CTX_SUSPEND that
waits. -/
def afterStep (c : Nat) (s : State) : State :=
  match ctxOf c s with
  | none => s
  | some x =>
    let r := x.queue.drop 1
    if r.isEmpty then
      let s1 := endLeases c (modCtx c (fun y => { y with queue := [], st := 1, sub := 0, resident := false, saved := [], suspend := [], yielding := false }) s)
      x.suspend.foldl (fun s id => finishId id stOK 0 s) s1
    else modCtx c (fun y => { y with queue := r }) s

/-- A STEP ends: its failed tiles get their Ledger entries, the result record is written when REC is 1, and the final reply
follows (R330, R363, R368). -/
def completeStep (c : Nat) (x : Ctx) (st : Step) (fails : List TileEnd) (total : Nat) (s : State) : State :=
  let failed := (fails.map (fun e => e.count)).sum
  let a := assignItems c x st fails s
  let first := a.1.getD 0
  let s1 := if failed = 0 then a.2 else countItems failed a.2
  let w := (s.accepted.find? (fun p => decide (p.id = st.id))).map (fun p => p.window)
  let s2 := if bitAt 2 st.flags then hostWrite (w.getD 0 / 4) st.result (resultRecord c x st failed (total - failed) first s1) s1 else s1
  let status := itemsStatus (fails.map (fun e => e.status))
  finishId st.id status (stepDetail status x.part failed first) s2

/-- Items that a table names. -/
def totalItems (image : Nat) (t : TileTab) (s : State) : Nat := ((List.range t.nTiles).map (fun j => (tileItems image t j s).2)).sum

/-- STEP_COMPLETE (R330): every tile of the STEP of context c has ended, or a failed stage fails all that come after it. -/
def execStepComplete (c : Nat) (s : State) : Host.Outcome State Fault Refusal :=
  goesOn s (match ctxOf c s with
    | none => s
    | some x => match x.queue with
      | [] => s
      | st :: _ =>
        let idle := !s.eng.any (fun y => decide (y.2.ctx = c)) && st.again.isEmpty && st.shadow.isEmpty && x.saved.isEmpty
        if st.started ∧ idle ∧ (curStage st s = st.tab.nStages ∨ cascades st s) then
          let cas := if cascades st s then (cascadeEnd st s).toList else []
          let fails := (failedTiles st ++ cas).foldr insertEnd []
          afterStep c (completeStep c x st fails (totalItems st.image st.tab s) s)
        else s)

end Sys2Proof.Machine
end

