-- ==== Sys2Proof/Machine/Scalar.lean ====
section
/-! DEFINITION. Instruction issue, and the scalar, control, token and status instructions that every engine has (R216 to
R220, R222, R235, R482). -/

namespace Sys2Proof.Machine

/-! ### Issue -/

/-- What a fetch finds. -/
inductive Fetched where
  | word (w : Nat)
  | fault (cause : Nat)
  | poison
  | held
  deriving DecidableEq, Repr

/-- The bytes that a set reads of its memory: the Unified Range of its partition, or the radio carve (R161). -/
def setRead (x : EngSet) (a n : Nat) (s : State) : List Byte := if x.radio.isSome then readBytes s.radioMem a n else urRead a n s

/-- A fetch of n words at an offset of the image (R216, R226, R235, R269). -/
def fetchAt (x : EngSet) (pc n : Nat) (s : State) : Fetched :=
  let a := x.image + pc
  if x.codeEnd < pc + 8 * n then .fault 1
  else if x.radio.isSome then .word (leNat (setRead x a (8 * n) s))
  else if !rangeOk x.part false a (8 * n) s then .fault 6
  else if anyHeld a (8 * n) s then .held
  else if anyPoison a (8 * n) s then .poison
  else .word (leNat (urRead a (8 * n) s))

/-- A transfer has transactions still to issue. -/
def issuing (t : Xfer) : Bool := decide (t.row < t.rows)

/-- An engine waits while its own transfer waits for a tracker or a regulator (R227). -/
def engineHeld (x : EngSet) (e : Nat) : Bool := x.xfers.any (fun t => issuing t && (t.load == decide (e = 0)) && decide (e = 0 ∨ e = 3))

/-- The set of core n may issue: no trip is latched, and its Lease runs, or a radio tile has its window (R71, R78, R402). -/
def setRuns (n : Nat) (x : EngSet) (s : State) : Bool :=
  issues s && (match x.radio with
    | some r => inWindow n r s
    | none => (leaseOf n s).any (fun l => !l.saving))

/-- Engine e of core n issues the word at its position when its opcode is one of the command's (R216, R218).  A word that
is not legal on the engine, or lies past CODE, is fault cause 1 whatever it holds. -/
def engineRun (ok : Nat → Bool) (n e : Nat) (body : EngSet → Nat → State → State) (s : State) : State :=
  match engAt n s with
  | none => s
  | some x =>
    if (engine x e).st = 0 ∨ !setRuns n x s ∨ engineHeld x e then s
    else match fetchAt x (engine x e).pc 1 s with
      | .held => s
      | .poison => tilePoison n s
      | .fault c => tileFault n c s
      | .word w => if !insLegal e w then tileFault n 1 s else if ok (insOp w) then body x w s else s

/-- The set after an instruction: the change, and the engine past the word. -/
def doneWith (n e : Nat) (x : EngSet) (s : State) : State := putEng n (some (moved s (advance e 1 x))) s

/-- The set while an instruction waits. -/
def waitWith (n code e : Nat) (x : EngSet) (s : State) : State := putEng n (some (waitAs code e x)) s

/-! ### Scalar instructions (R482) -/

/-- An instruction that writes GD. -/
def scalarOp (op n e : Nat) (f : Engine → Nat → Nat) (s : State) : State :=
  engineRun (fun o => decide (o = op)) n e (fun x w s => doneWith n e (putEngine x e (setG (insD w) (f (engine x e) w) (engine x e))) s) s

/-- GD from GA and GB. -/
def scalar3 (op n e : Nat) (f : Nat → Nat → Nat) (s : State) : State :=
  scalarOp op n e (fun g w => f (gReg g (insA w)) (gReg g (insB w))) s

/-- The target of a branch: 8 × sext(imm) from its own address. -/
def branchTo (pc w : Nat) : Nat := intBits 64 ((pc : Int) + 8 * insImm w)

/-- A branch that first changes the engine and then decides. -/
def branchOp (op n e : Nat) (pre : Engine → Nat → Engine) (take : Engine → Nat → Bool) (s : State) : State :=
  engineRun (fun o => decide (o = op)) n e (fun x w s =>
    let g := pre (engine x e) w
    let pc := if take g w then branchTo g.pc w else g.pc + 8
    putEng n (some (moved s (putEngine x e { g with pc := pc, st := 1 }))) s) s

/-- A branch on GA and GB. -/
def branch2 (op n e : Nat) (take : Nat → Nat → Bool) (s : State) : State :=
  branchOp op n e (fun g _ => g) (fun g w => take (gReg g (insA w)) (gReg g (insB w))) s

/-- NOP. -/
def execNop (n : Nat) (e : Fin 4) (s : State) : Host.Outcome State Fault Refusal :=
  goesOn s (engineRun (fun o => decide (o = 0x00)) n e (fun x _ s => doneWith n e x s) s)

/-- END: the engine issues nothing further in the work tile. -/
def execEndOp (n : Nat) (e : Fin 4) (s : State) : Host.Outcome State Fault Refusal :=
  goesOn s (engineRun (fun o => decide (o = 0x01)) n e (fun x _ s => putEng n (some (moved s (waitAs 0 e x))) s) s)

/-- ADD. -/
def execAdd (n : Nat) (e : Fin 4) (s : State) : Host.Outcome State Fault Refusal := goesOn s (scalar3 0x02 n e (fun a b => a + b) s)

/-- ADDI. -/
def execAddi (n : Nat) (e : Fin 4) (s : State) : Host.Outcome State Fault Refusal :=
  goesOn s (scalarOp 0x03 n e (fun g w => intBits 64 ((gReg g (insA w) : Int) + insImm w)) s)

/-- SUB. -/
def execSub (n : Nat) (e : Fin 4) (s : State) : Host.Outcome State Fault Refusal :=
  goesOn s (scalar3 0x04 n e (fun a b => intBits 64 ((a : Int) - b)) s)

/-- AND. -/
def execAndOp (n : Nat) (e : Fin 4) (s : State) : Host.Outcome State Fault Refusal := goesOn s (scalar3 0x05 n e (fun a b => a &&& b) s)

/-- OR. -/
def execOrOp (n : Nat) (e : Fin 4) (s : State) : Host.Outcome State Fault Refusal := goesOn s (scalar3 0x06 n e (fun a b => a ||| b) s)

/-- XOR. -/
def execXorOp (n : Nat) (e : Fin 4) (s : State) : Host.Outcome State Fault Refusal := goesOn s (scalar3 0x07 n e (fun a b => a ^^^ b) s)

/-- SHL. -/
def execShl (n : Nat) (e : Fin 4) (s : State) : Host.Outcome State Fault Refusal := goesOn s (scalar3 0x08 n e (fun a b => a * 2 ^ (b % 64)) s)

/-- SHR. -/
def execShr (n : Nat) (e : Fin 4) (s : State) : Host.Outcome State Fault Refusal := goesOn s (scalar3 0x09 n e (fun a b => a / 2 ^ (b % 64)) s)

/-- SAR. -/
def execSar (n : Nat) (e : Fin 4) (s : State) : Host.Outcome State Fault Refusal :=
  goesOn s (scalar3 0x0A n e (fun a b => intBits 64 (bitsInt 64 a / (2 ^ (b % 64) : Int))) s)

/-- MUL. -/
def execMul (n : Nat) (e : Fin 4) (s : State) : Host.Outcome State Fault Refusal := goesOn s (scalar3 0x0B n e (fun a b => a * b) s)

/-- SLT. -/
def execSlt (n : Nat) (e : Fin 4) (s : State) : Host.Outcome State Fault Refusal :=
  goesOn s (scalar3 0x0C n e (fun a b => b2n (decide (bitsInt 64 a < bitsInt 64 b))) s)

/-- SLTU. -/
def execSltu (n : Nat) (e : Fin 4) (s : State) : Host.Outcome State Fault Refusal := goesOn s (scalar3 0x0D n e (fun a b => b2n (decide (a < b))) s)

/-- LI. -/
def execLi (n : Nat) (e : Fin 4) (s : State) : Host.Outcome State Fault Refusal := goesOn s (scalarOp 0x0E n e (fun _ w => intBits 64 (insImm w)) s)

/-- LUI. -/
def execLui (n : Nat) (e : Fin 4) (s : State) : Host.Outcome State Fault Refusal :=
  goesOn s (scalarOp 0x0F n e (fun g w => w / 2 ^ 32 % 2 ^ 32 * 2 ^ 32 + gReg g (insA w) % 2 ^ 32) s)

/-- BEQ. -/
def execBeq (n : Nat) (e : Fin 4) (s : State) : Host.Outcome State Fault Refusal := goesOn s (branch2 0x10 n e (fun a b => decide (a = b)) s)

/-- BNE. -/
def execBne (n : Nat) (e : Fin 4) (s : State) : Host.Outcome State Fault Refusal := goesOn s (branch2 0x11 n e (fun a b => decide (a ≠ b)) s)

/-- BLT. -/
def execBlt (n : Nat) (e : Fin 4) (s : State) : Host.Outcome State Fault Refusal :=
  goesOn s (branch2 0x12 n e (fun a b => decide (bitsInt 64 a < bitsInt 64 b)) s)

/-- BGE. -/
def execBge (n : Nat) (e : Fin 4) (s : State) : Host.Outcome State Fault Refusal :=
  goesOn s (branch2 0x13 n e (fun a b => decide (bitsInt 64 b ≤ bitsInt 64 a)) s)

/-- J. -/
def execJ (n : Nat) (e : Fin 4) (s : State) : Host.Outcome State Fault Refusal := goesOn s (branch2 0x14 n e (fun _ _ => true) s)

/-- LOOP: the register named by GA is decremented, and the branch is taken when it is then not 0. -/
def execLoopOp (n : Nat) (e : Fin 4) (s : State) : Host.Outcome State Fault Refusal :=
  goesOn s (branchOp 0x15 n e (fun g w => setG (insA w) (gReg g (insA w) + 2 ^ 64 - 1) g) (fun g w => decide (gReg g (insA w) ≠ 0)) s)

/-! ### Tokens (R219, R222) -/

/-- TSIG t, n: adds n to TKt, waiting while the sum would exceed 255. -/
def execTsig (n : Nat) (e : Fin 4) (s : State) : Host.Outcome State Fault Refusal :=
  goesOn s (engineRun (fun o => decide (o = 0x20)) n e (fun x w s =>
    if tokOf x (insTok w) + insCount w ≤ 255 then doneWith n e (setTok (insTok w) (tokOf x (insTok w) + insCount w) x) s else waitWith n 2 e x s) s)

/-- TWAIT t, n: waits until TKt is at least n, then subtracts n. -/
def execTwait (n : Nat) (e : Fin 4) (s : State) : Host.Outcome State Fault Refusal :=
  goesOn s (engineRun (fun o => decide (o = 0x21)) n e (fun x w s =>
    if insCount w ≤ tokOf x (insTok w) then doneWith n e (setTok (insTok w) (tokOf x (insTok w) - insCount w) x) s else waitWith n 2 e x s) s)

/-- The array waits for the WT token of the pass at the head of its queue (R221, R223). -/
def waitsWt (x : EngSet) : Bool :=
  x.run.isNone && (match x.passQ with
    | [] => false
    | p :: _ => !p.taken && (match p.wt with
      | none => false
      | some t => decide (tokOf x t = 0)))

/-- Every engine of a set that has not ended waits at an instruction of a list, as its last attempt to issue it showed. -/
def allWait (ops : List Nat) (x : EngSet) (s : State) : Bool :=
  [0, 1, 2, 3].all (fun e =>
    decide ((engine x e).st = 0) || (decide (2 ≤ (engine x e).st) && (match fetchAt x (engine x e).pc 1 s with
      | .word w => decide (insOp w ∈ ops)
      | _ => false)))

/-- Some engine has not ended. -/
def anyRuns (x : EngSet) : Bool := [0, 1, 2, 3].any (fun e => decide ((engine x e).st ≠ 0))

/-- A set holds entries of the Fabric Transaction Table. -/
def holdsFtt (n : Nat) (x : EngSet) (s : State) : Bool := s.ftt.any (opOf n x)

/-- TOKEN_DEADLOCK (R222): for 4,096 cycles every engine not at END has waited in TWAIT, TSIG, TQPOP or in MPASS on its WT
token, with nothing outstanding: fault cause 5. -/
def execTokenDeadlock (n : Nat) (s : State) : Host.Outcome State Fault Refusal :=
  goesOn s (match engAt n s with
    | none => s
    | some x =>
      let stuck := anyRuns x && allWait (if waitsWt x then [0x20, 0x21, 0x48, 0x40] else [0x20, 0x21, 0x48]) x s
      if stuck ∧ setRuns n x s ∧ x.xfers.isEmpty ∧ x.run.isNone ∧ x.drain.isEmpty ∧ !holdsFtt n x s ∧ max x.act x.fabAct + 4096 * 1536 ≤ s.now then tileFault n 5 s else s)

/-! ### Status (R232) -/

/-- VRDF: GD = VSTAT. -/
def execVrdf (n : Nat) (s : State) : Host.Outcome State Fault Refusal :=
  goesOn s (engineRun (fun o => decide (o = 0xA8)) n 2 (fun x w s => doneWith n 2 (putEngine x 2 (setG (insD w) x.vstat (engine x 2))) s) s)

/-- VCLRF: VSTAT = 0. -/
def execVclrf (n : Nat) (s : State) : Host.Outcome State Fault Refusal :=
  goesOn s (engineRun (fun o => decide (o = 0xA9)) n 2 (fun x _ s => doneWith n 2 { x with vstat := 0 } s) s)

end Sys2Proof.Machine
end

