-- ==== Sys2Proof/Machine/Transfers.lean ====
section
/-! DEFINITION. Transfers between the Unified Range and Core Scratch, and their transactions (R226, R227, R233, R357). -/

namespace Sys2Proof.Machine

/-- The Unified Range address of the next transaction of a transfer. -/
def xactAddr (t : Xfer) : Nat := ((t.ua : Int) + (t.row : Int) * t.stride).toNat + t.off

/-- Its length: at most 512 B, within its row and its 4 KiB of the Unified Range (R226). -/
def xactLen (t : Xfer) : Nat := min 512 (min (t.rowLen - t.off) (4096 - xactAddr t % 4096))

/-- A transfer past its next transaction. -/
def xferNext (t : Xfer) : Xfer :=
  if t.off + xactLen t < t.rowLen then { t with off := t.off + xactLen t } else { t with row := t.row + 1, off := 0 }

/-- The next transaction of a transfer of core n, a store with its data. -/
def xactOf (n : Nat) (t : Xfer) (s : State) : Xact :=
  ⟨t.id, t.load, xactAddr t, t.sa + t.row * t.rowLen + t.off, xactLen t,
    if t.load then [] else csRead n (t.sa + t.row * t.rowLen + t.off) (xactLen t) s, s.now⟩

/-- Trackers that an engine of a set holds. -/
def trackers (x : EngSet) (load : Bool) : Nat := (x.xacts.filter (fun t => t.load == load)).length

/-- A tracker is free for an engine: 192 each, 256 together (R227). -/
def trackerFree (x : EngSet) (load : Bool) : Bool := decide (trackers x load < 192) && decide (x.xacts.length < 256)

/-- The digest of R382 with one more transaction: the CRC-64 of its data, seeded with its address in MODE 1. -/
def foldDigest (a : Nat) (l : List Byte) (x : EngSet) : EngSet := { x with digest := x.digest ^^^ chkFeed 1 (chkSeed 1 a) l }

/-- Puts a transfer back in its place. -/
def setXfer (t : Xfer) (x : EngSet) : EngSet := { x with xfers := x.xfers.map (fun u => if u.id = t.id then t else u) }

/-- Transfers with nothing left to issue or to complete are complete. -/
def reapXfers (x : EngSet) : EngSet :=
  { x with xfers := x.xfers.filter (fun t => issuing t || x.xacts.any (fun u => decide (u.xfer = t.id))) }

/-- A transfer issues its next transaction, when a tracker and its regulator allow it (R227, R344).  The store of a shadow
run writes nothing: it enters the digest alone (R382). -/
def issueXact (n : Nat) (x : EngSet) (t : Xfer) (s : State) : Option State :=
  let u := xactOf n t s
  let reg := if x.radio.isSome then none else regulFor u.ua s
  if !trackerFree x t.load ∨ !(reg.all (fun r => mayIssue x.part r s)) then none
  else
    let s1 := match reg with
      | none => s
      | some r => spend x.part r u.len s
    let x1 := setXfer (xferNext t) (if t.load then x else foldDigest u.ua u.data x)
    some (putEng n (some (reapXfers (moved s (if x.shadow ∧ !t.load then x1 else { x1 with xacts := x1.xacts ++ [u] })))) s1)

/-- Transactions of core n issue while they can. -/
def pump (n : Nat) : Nat → State → State
  | 0, s => s
  | f + 1, s => match engAt n s with
    | none => s
    | some x => match (x.xfers.filter issuing).findSome? (fun t => issueXact n x t s) with
      | none => s
      | some s1 => pump n f s1

/-- As many transactions as a set could ever issue at once. -/
def pumpAll (n : Nat) (s : State) : State :=
  match engAt n s with
  | none => s
  | some x => pump n ((x.xfers.map (fun t => t.rows * (t.rowLen / 64))).sum + 1) s

/-- The rows of a transfer lie in the partition's objects (R226, R240). -/
def rowsOk (x : EngSet) (t : Xfer) (s : State) : Bool :=
  x.radio.isSome || (List.range t.rows).all (fun i =>
    let a : Int := (t.ua : Int) + (i : Int) * t.stride
    decide (0 ≤ a) && rangeOk x.part (!t.load) a.toNat t.rowLen s)

/-- LDT and STT (R226): alignment and lengths, then the Core Scratch area, then the Unified Range; and the transfer's
transactions. -/
def transfer (op n e : Nat) (s : State) : State :=
  engineRun (fun o => decide (o = op)) n e (fun x w s =>
    let g := engine x e
    let c := gReg g (insC w)
    let t : Xfer := ⟨x.nextX, decide (e = 0), gReg g (insA w), gReg g (insB w), c / 2 ^ 32 % 2 ^ 16, c % 2 ^ 32, insImm w, 0, 0⟩
    if t.ua % 64 ≠ 0 ∨ t.sa % 64 ≠ 0 ∨ t.rowLen % 64 ≠ 0 ∨ t.stride % 64 ≠ 0 ∨ t.rows = 0 ∨ t.rowLen < 64 ∨ 1048576 < t.rowLen then tileFault n 1 s
    else if !inArea x t.sa (t.rows * t.rowLen) then tileFault n 2 s
    else if !rowsOk x t s then tileFault n 6 s
    else pumpAll n (doneWith n e { x with xfers := x.xfers ++ [t], nextX := x.nextX + 1 } s)) s

/-- LDT. -/
def execLdt (n : Nat) (s : State) : Host.Outcome State Fault Refusal := goesOn s (transfer 0x28 n 0 s)

/-- STT. -/
def execStt (n : Nat) (s : State) : Host.Outcome State Fault Refusal := goesOn s (transfer 0x29 n 3 s)

/-- XWAIT (R227): mode 0 waits until every STT has read its source bytes, which it has once its transactions are issued;
mode 1 until every transfer of the engine is complete. -/
def execXwait (n : Nat) (e : Fin 4) (s : State) : Host.Outcome State Fault Refusal :=
  goesOn s (engineRun (fun o => decide (o = 0x2A)) n e (fun x w s =>
    if insMode w = 0 ∨ !x.xfers.any (fun t => t.load == decide (e.val = 0)) then doneWith n e x s else waitWith n 3 e x s) s)

/-! ### Completion -/

/-- The padded latency of an access in Deterministic mode (R357). -/
def padded (a : Nat) (s : State) : Nat :=
  match entTier (bent (a / 2 ^ 21) s) with
  | 1 => getF SCHED_DET_PAD_T0 s
  | 2 => getF SCHED_DET_PAD_T1 s
  | _ => getF SCHED_DET_PAD_T2 s

/-- Cycles by which a transaction completes after its padded latency, which are recorded (R330, R357, R359); outside
Deterministic mode, the cycles that refresh stalled it. -/
def recordStall (x : EngSet) (u : Xact) (stall : Nat) (s : State) : State :=
  let late := if detPart x.part s then (s.now - u.at_) / 1536 - padded u.ua s else stall
  let s1 := modStep x.ctx (fun st => { st with refStall := (st.refStall + late) % 2 ^ 32 }) s
  if detPart x.part s then tally1024 15 SCHED_T_REFSTALL_COUNT late s1 else s1

/-- An older store of the set still holds a line that a store writes (R227). -/
def olderStore (x : EngSet) (i : Nat) (u : Xact) : Bool :=
  !u.load && (x.xacts.take i).any (fun v => !v.load && (linesOf v.ua v.len).any (fun l => decide (l ∈ linesOf u.ua u.len)))

/-- Transaction i leaves its tracker, and the set issues what waited for it. -/
def leaveXact (n i : Nat) (s : State) : State := pumpAll n (modEng n (fun x => reapXfers (moved s { x with xacts := x.xacts.eraseIdx i })) s)

/-- A load's data reach Core Scratch, or meet poison (R269). -/
def loadDone (n i : Nat) (x : EngSet) (u : Xact) (s : State) : State :=
  if x.radio.isSome then leaveXact n i (csWrite n u.sa (readBytes s.radioMem u.ua u.len) s)
  else if !rangeOk x.part false u.ua u.len s then tileFault n 6 s
  else if anyHeld u.ua u.len s then s
  else if anyPoison u.ua u.len s then tilePoison n s
  else leaveXact n i (csWrite n u.sa (urRead u.ua u.len s) s)

/-- A store is acknowledged, or fails POISONED (R252, R270). -/
def storeDone (n i : Nat) (x : EngSet) (u : Xact) (s : State) : State :=
  if x.radio.isSome then leaveXact n i { s with radioMem := writeBytes u.ua u.data s.radioMem }
  else if !rangeOk x.part true u.ua u.len s then tileFault n 6 s
  else if !storable u.ua u.len s ∨ olderStore x i u then s
  else
    let y := urWrite u.ua u.data s
    if y.2 then tilePoison n y.1 else leaveXact n i y.1

/-- The store of a stopped tile is acknowledged (R233). -/
def looseDone (i : Nat) (s : State) : State :=
  match s.loose[i]? with
  | none => s
  | some (_, u) => if storable u.ua u.len s then (urWrite u.ua u.data { s with loose := s.loose.eraseIdx i }).1 else s

/-- TRANSACTION_COMPLETE (R227): transaction i of core n's set, or of the stopped tiles, completes.  A load meets the errors
of one of its lines (R259, R266, R268). -/
def execTransactionComplete (n i : Nat) (loose : Bool) (line : Nat) (errs : List Nat) (addr : Bool) (stall : Nat) (s : State) :
    Host.Outcome State Fault Refusal :=
  goesOn s (if loose then looseDone i s
    else match engAt n s with
      | none => s
      | some x => match x.xacts[i]? with
        | none => s
        | some u =>
          if detPart x.part s ∧ s.now < u.at_ + padded u.ua s * 1536 then s
          else
            let s1 := if u.load ∧ x.radio.isNone then readErrors (loadAddr (u.ua + 64 * (line % max 1 (u.len / 64))) s) 0 errs addr s else s
            let s2 := recordStall x u stall s1
            if u.load then loadDone n i x u s2 else storeDone n i x u s2)

end Sys2Proof.Machine
end

