-- ==== Sys2Proof/Machine/Array.lean ====
section
/-! DEFINITION. The array of a Matrix Core: issuing passes, their events, the Tile Queue, the current governor, Clover mode,
and the retirement of a core (R19, R200 to R209, R214, R221 to R225, R372). -/

namespace Sys2Proof.Machine

/-! ### MPASS and MWAIT (R200, R217, R221, R223) -/

/-- A token field of MPASS, by its place. -/
def passTok (lo : Nat) (w : Nat) : Option Nat := if bitAt (lo + 4) w then some (bitsAt (lo + 3) lo w) else none

/-- The longest pass that a set may issue (R202). -/
def passCap (x : EngSet) : Nat := if x.radio.isSome then 8192 else min 2048 x.passP

/-- MPASS (R221): the descriptor is checked at issue, and the pass enters the pass queue of 2, waiting while it is full. -/
def execMpass (n : Nat) (s : State) : Host.Outcome State Fault Refusal :=
  goesOn s (engineRun (fun o => decide (o = 0x40)) n 1 (fun x w s =>
    if 2 ≤ x.passQ.length then waitWith n 5 1 x s
    else match fetchAt x ((engine x 1).pc + 8) 4 s with
      | .held => s
      | .poison => tilePoison n s
      | .fault c => tileFault n c s
      | .word l =>
        let d := descOf (natLE 32 l)
        if !descLegal x.radio.isSome (passCap x) d then tileFault n 1 s
        else if !descArea x d then tileFault n 2 s
        else putEng n (some (moved s (advance 1 5 { x with passQ := x.passQ ++ [⟨x.issued, d, passTok 8 w, passTok 13 w, passTok 18 w, false, [], false, false⟩], issued := x.issued + 1 }))) s) s)

/-- MWAIT: waits until every pass issued is complete. -/
def execMwait (n : Nat) (s : State) : Host.Outcome State Fault Refusal :=
  goesOn s (engineRun (fun o => decide (o = 0x41)) n 1 (fun x _ s =>
    if x.passQ.isEmpty ∧ x.run.isNone ∧ x.drain.isEmpty then doneWith n 1 x s else waitWith n 5 1 x s) s)

/-! ### The events of a pass (R203, R209, R221, R223, R224) -/

/-- The pass at the head of the queue has its WT token, or takes it now. -/
def takeWt (p : Pass) (x : EngSet) : Option EngSet :=
  match p.wt with
  | none => some x
  | some t => if p.taken then some x else if 1 ≤ tokOf x t then some (setTok t (tokOf x t - 1) x) else none

/-- The array is in the mode that a pass needs (R205). -/
def modeFits (n : Nat) (d : PassDesc) (s : State) : Bool := flagF (MXC_Cn_INFO_CLOVER n) s == isClover d.shape

/-- The Lease lets one more pass start: its start has come, and its context is not to stop at the end of the running passes
(R78, R335, R339). -/
def passGranted (n : Nat) (x : EngSet) (s : State) : Bool :=
  x.radio.isSome || ((leaseOf n s).any (fun l => decide (0 < l.passes) && decide (l.start ≤ nowNs s)) &&
    (ctxOf x.ctx s).all (fun c => c.suspend.isEmpty && !c.yielding))

/-- A pass begins its stationary load. -/
def loadPass (n : Nat) (p : Pass) (x : EngSet) (s : State) : State :=
  let s1 := if x.radio.isSome then s else
    { s with leases := s.leases.map (fun l => if l.core = n then { l with passes := l.passes - 1 } else l) }
  tally 6 (MXC_Cn_LOADS_COUNT n) 1 (setF (MXC_Cn_LEVEL_DEMAND n) (demandOf p.d)
    (putEng n (some (moved s { x with run := some { p with taken := true }, passQ := x.passQ.drop 1 })) { s1 with gapAt := put n none s1.gapAt }))

/-- A hardware error that an operation of the array meets: 1 a corrected error of Core Scratch, which is counted (R188);
3 an uncorrectable one; 4 an array check mismatch, or one that DIAG_INJECT has ordered (R389). -/
def arrayError (n hw : Nat) (s : State) : State × Bool :=
  if injected 3 n 0 s then (tileFaultBy true n 4 (takeInject 3 n 0 s), true)
  else if hw = 3 ∨ hw = 4 then (tileFault n hw s, true)
  else if hw = 1 then (tally 6 (MXC_Cn_ECC_COUNT n) 1 s, false)
  else (s, false)

/-- PASS_LOAD_START (R223): the array is idle, the WT token is taken, and the Tile Queue has room. -/
def execPassLoadStart (n hw : Nat) (s : State) : Host.Outcome State Fault Refusal :=
  goesOn s (match engAt n s with
    | none => s
    | some x => match x.passQ with
      | [] => s
      | p :: _ =>
        if x.run.isSome ∨ 8 ≤ x.tq.length ∨ !x.tqPend.isEmpty ∨ !setRuns n x s ∨ !modeFits n p.d s ∨ !passGranted n x s then s
        else match takeWt p x with
          | none => s
          | some x1 =>
            let s1 := loadPass n p x1 s
            let r := arrayError n hw s1
            r.1)

/-- A pass reads ACC_IN rows that an earlier pass is still draining (R203). -/
def accWaits (x : EngSet) (p : Pass) : Bool :=
  p.d.accIn && x.drain.any (fun q => decide (p.d.acc < q.d.out + resultBytes q.d) && decide (q.d.out < p.d.acc + resultBytes p.d))

/-- The token a pass would signal fits its counter. -/
def tokenFits (x : EngSet) (t : Option Nat) : Bool :=
  match t with
  | none => true
  | some k => decide (tokOf x k < 255)

/-- PASS_STREAM_END (R221): the stream of the running pass has ended: its results are what the operands give, its ET token
is signalled, and it drains. -/
def execPassStreamEnd (n hw : Nat) (s : State) : Host.Outcome State Fault Refusal :=
  goesOn s (match engAt n s with
    | none => s
    | some x => match x.run with
      | none => s
      | some p =>
        if accWaits x p ∨ 2 ≤ x.drain.length ∨ !tokenFits x p.et ∨ !setRuns n x s then s
        else
          let r := arrayError n hw s
          if r.2 then r.1
          else tally1024 6 (MXC_Cn_BUSY_COUNT n) (passLength p.d) (setF (MXC_Cn_LEVEL_DEMAND n) 0
            (putEng n (some (moved s (signal p.et { x with run := none, drain := x.drain ++ [passResult n p r.1] })))
              { r.1 with gapAt := put n (some s.now) r.1.gapAt })))

/-- PASS_COMPLETE (R209): the last result row of the first draining pass is written. -/
def execPassComplete (n : Nat) (s : State) : Host.Outcome State Fault Refusal :=
  goesOn s (match engAt n s with
    | none => s
    | some x => match x.drain with
      | [] => s
      | p :: _ => if tokenFits x p.dt then completePass n p s else s)

/-- TQ_ENTRY_POST (R224): the first entry that awaits posting enters the Tile Queue. -/
def execTqEntryPost (n : Nat) (s : State) : Host.Outcome State Fault Refusal :=
  goesOn s (modEng n (fun x => if x.tq.length < 8 then { x with tq := x.tq ++ x.tqPend.take 1, tqPend := x.tqPend.drop 1 } else x) s)

/-- TQPOP (R224): the head entry in GD and GD + 1, waiting while the queue is empty. -/
def execTqpop (n : Nat) (s : State) : Host.Outcome State Fault Refusal :=
  goesOn s (engineRun (fun o => decide (o = 0x48)) n 2 (fun x w s =>
    match x.tq with
    | [] => waitWith n 4 2 x s
    | q :: r => doneWith n 2 (putEngine { x with tq := r } 2 (setG (insD w + 1) (q / 2 ^ 64) (setG (insD w) q (engine x 2)))) s) s)

/-! ### The current governor (R206 to R208) -/

/-- Core n has been in a gap for n cycles: its array neither loads nor streams. -/
def gapFor (n cycles : Nat) (s : State) : Bool :=
  !((engAt n s).any (fun x => x.run.isSome)) && decide (look 0 n s.gapAt + cycles * 1536 ≤ s.now)

/-- Eight cycles have passed since core n's governor last stepped. -/
def govReady (n : Nat) (s : State) : Bool := decide (look 0 n s.govAt + 8 * 1536 ≤ s.now)

/-- The governor of core n moves to a level; dummy operations that hold or raise it outside passes are counted. -/
def govTo (n l : Nat) (s : State) : State :=
  let dummy := if (engAt n s).any (fun x => x.run.isSome) then 0 else 8
  tally1024 6 (MXC_Cn_DUMMY_COUNT n) dummy (setF (MXC_Cn_LEVEL_LEVEL n) l { s with govAt := put n (some s.now) s.govAt })

/-- GOVERNOR_STEP (R206, R207): L rises by 1 toward the demand, or falls by 1 after 64 cycles of a gap. -/
def execGovernorStep (n : Nat) (s : State) : Host.Outcome State Fault Refusal :=
  let l := getF (MXC_Cn_LEVEL_LEVEL n) s
  goesOn s (if !govReady n s then s
    else if l < getF (MXC_Cn_LEVEL_DEMAND n) s then govTo n (l + 1) s
    else if getF (MXC_Cn_LEVEL_DEMAND n) s = 0 ∧ gapFor n 64 s ∧ 0 < l then govTo n (l - 1) s
    else s)

/-- The governor of core n has not stepped since the first 64 cycles of its gap. -/
def gapHeld (n : Nat) (s : State) : Bool := decide (look 0 n s.govAt < look 0 n s.gapAt + 64 * 1536)

/-- GAP_HOLD_EXPIRY (R207): 64 cycles of a gap have passed with dummy operations at L; from now L falls. -/
def execGapHoldExpiry (n : Nat) (s : State) : Host.Outcome State Fault Refusal :=
  goesOn s (if gapFor n 64 s ∧ gapHeld n s = true ∧ getF (MXC_Cn_LEVEL_DEMAND n) s = 0 ∧ 0 < getF (MXC_Cn_LEVEL_LEVEL n) s then
      tally1024 6 (MXC_Cn_DUMMY_COUNT n) 64 { s with govAt := put n (some s.now) s.govAt }
    else s)

/-- The next window of core n that has not opened. -/
def nextWindow (n : Nat) (s : State) : Option Window :=
  (s.windows.filter (fun w => decide (w.core = n) && !w.opened)).foldl
    (fun m w => match m with
      | none => some w
      | some v => if w.start < v.start then some w else some v) none

/-- The start of core n's next window is at most a number of Tc away. -/
def windowWithin (n tc : Nat) (s : State) : Bool := (nextWindow n s).any (fun w => decide (w.start ≤ counter w.td s + tc))

/-- GUARD_RAMP_START (R80, R208): from W − 600 dummy operations ramp the level to what the window needs. -/
def execGuardRampStart (n demand : Nat) (s : State) : Host.Outcome State Fault Refusal :=
  goesOn s (if windowWithin n (nsToTc 600) s ∧ (leaseOf n s).all (fun l => l.saving) then setF (MXC_Cn_LEVEL_DEMAND n) (min 64 demand) s else s)

/-! ### Clover mode (R205) -/

/-- Core n is in an open window. -/
def windowOpen (n : Nat) (s : State) : Bool := s.windows.any (fun w => decide (w.core = n) && w.opened)

/-- The gap before core n's next window can hold an Assay at the duty in force (R377, R378). -/
def gapHolds (n : Nat) (s : State) : Bool :=
  match nextWindow n s with
  | none => true
  | some w => decide (8192 * 100 ≤ tcToNs (w.start - counter w.td s) * getF PWR_TSTAT_IN_FORCE s)

/-- The last Assay of core n started more than one Assay period ago (R377). -/
def assayOverdue (n : Nat) (s : State) : Bool :=
  decide (getF FLT_ASSAY_PERIOD s * 10 ^ 9 * 1536 < s.now - max s.resetAt (look 0 (2 ^ 16 + mcPhys n s) s.assayLast))

/-- CLOVER_MODE_CHANGE (R205): the change begins when no pass loads or streams, at W − 700 before a window, or back before
its end; 64 cycles later it is done. -/
def execCloverModeChange (n : Nat) (done : Bool) (s : State) : Host.Outcome State Fault Refusal :=
  let clover := flagF (MXC_Cn_INFO_CLOVER n) s
  let st := getF (MXC_Cn_INFO_STATE n) s
  goesOn s (if done then
      if st = 5 then setF (MXC_Cn_INFO_STATE n) (if windowOpen n s then 1 else 0) (setF (MXC_Cn_INFO_CLOVER n) (b2n (!clover)) s) else s
    else if (engAt n s).any (fun x => x.run.isSome) ∨ (leaseOf n s).isSome ∨ st = 5 then s
    else if clover ∨ windowOpen n s ∨ windowWithin n (nsToTc 700) s then setF (MXC_Cn_INFO_STATE n) 5 s
    else s)

/-! ### Retirement (R19, R214, R371, R372) -/

/-- The logical cores in service. -/
def coresIn (s : State) : List Nat := (List.range (getF DEV_IDENT_GRADE s)).filter (fun n => coreInService n s)

/-- The spare Matrix Cores: physical cores that hold no logical number, are kept for none, and have not been retired. -/
def mcSpares (s : State) : List Nat :=
  (sparesOf 160 ((coresIn s).map (fun n => mcPhys n s)) s.mcRetired).filter (fun p => decide (p ∉ s.mcRetiring.map (fun x => x.2)) && decide (getF (PWR_DOMd_STATE p) s ≠ 3))

/-- Core n holds neither a window nor a Lease. -/
def coreFree (n : Nat) (s : State) : Bool := !s.windows.any (fun w => decide (w.core = n)) && (leaseOf n s).isNone

/-- A saved tile of context c on a core that leaves service: a bound tile's items end FAILED, another restarts (R334). -/
def lostTile (c n cause : Nat) (x : EngSet) (s : State) : State :=
  let s1 := modCtx c (fun y => { y with saved := y.saved.filter (fun z => decide (z.1 ≠ n)) }) s
  if x.bound then schedEvent SCHED_STAT_LOST_BOUND (endTile n x stITEM_FAILED cause 0xFFFFFFFF false s1)
  else runAgain c ⟨x.tile, none, x.fb, x.shadow, x.retry⟩ s1

/-- The logical number n leaves service (R19, R65); the domain of its core goes to OFF, or stays in FAULT (R391, R393). -/
def removeCore (n cause count : Nat) (s : State) : State :=
  let p := mcPhys n s
  let s1 := { s with mcRemoved := insertNat n s.mcRemoved, mcRetired := insertNat p s.mcRetired }
  let s2 := (fun t => if getF (PWR_DOMd_STATE p) t = 3 then t else setF (PWR_DOMd_STATE p) 0 t) (mxcEvent MXC_STAT_RETIRED (subF MXC_STAT_ACTIVE 1 s1))
  let s3 := s.ctxs.foldl (fun s c => match lookup n c.2.saved with
    | none => s
    | some x => lostTile c.1 n cause x s) s2
  capacityRecompute (noteNoSpare 1 cause n p count s3)

/-- The physical core of n is retired: a spare is kept for its number and its domain powers up, or the number leaves
service at once when it holds neither window nor Lease (R214, R372, R392). -/
def mcRetire (n cause count : Nat) (s : State) : State :=
  let p := mcPhys n s
  match chooseSpare 20 (p / 20) (mcSpares s) with
  | some q =>
    let s1 := { s with mcRetired := insertNat p s.mcRetired, mcRetiring := put n (some q) s.mcRetiring, unitCause := put (2 ^ 16 + p) (some (cause + 256 * count)) s.unitCause }
    mxcEvent MXC_STAT_RETIRED (if getF (PWR_DOMd_STATE q) s = 0 then setF (PWR_DOMd_STATE q) 1 s1 else s1)
  | none => if coreFree n s then removeCore n cause count s else s

/-- MATRIX_CORE_RETIRE (R214): the Suspect core of logical number n is retired. -/
def execMatrixCoreRetire (n : Nat) (s : State) : Host.Outcome State Fault Refusal :=
  let why := look 0 (2 ^ 16 + mcPhys n s) s.unitCause
  goesOn s (if coreInService n s ∧ coreSuspect n s ∧ mcPhys n s ∉ s.mcRetired then mcRetire n (why % 256) (why / 256) s else s)

/-- The spare kept for number n takes it once the core holds neither window nor Lease and the spare is filled. -/
def mcSpareIn (n : Nat) (s : State) : State :=
  match lookup n s.mcRetiring with
    | none => s
    | some q =>
      if coreFree n s ∧ getF (PWR_DOMd_STATE q) s = 2 then
        let p := mcPhys n s
        let why := look 0 (2 ^ 16 + p) s.unitCause
        let s1 := { s with mcRetiring := put n none s.mcRetiring, scratch := fillZero (n * 2 ^ 21) (2 ^ 21) s.scratch, lastCtx := put n none s.lastCtx }
        let s2 := setF (MXC_Cn_INFO_DIE n) (q / 20) (setF (MXC_Cn_INFO_PHYS n) q (if getF (PWR_DOMd_STATE p) s = 3 then s1 else setF (PWR_DOMd_STATE p) 0 s1))
        spareDone 1 n (noteSpared 1 (why % 256) n p q (why / 256) (subF FLT_SPARE_MC 1 (subF MXC_STAT_SPARES 1 s2)))
      else s

/-- MATRIX_CORE_SPARE_IN (R214, R372, R392). -/
def execMatrixCoreSpareIn (n : Nat) (s : State) : Host.Outcome State Fault Refusal := goesOn s (mcSpareIn n s)

end Sys2Proof.Machine
end

