-- ==== Sys2Proof/Machine/Link.lean ====
section
/-! DEFINITION. Hjelo ports, their link layer and routing (R280 to R290, R310, R311). -/

namespace Sys2Proof.Machine

/-! ### Ports -/

/-- Port p; 16 is the local home. -/
def hpOf (p : Nat) (s : State) : HPort := look HPort.reset p s.hport

/-- Replaces port p. -/
def setHp (p : Nat) (x : HPort) (s : State) : State := { s with hport := put p (some x) s.hport }

/-- State code of port p (R99). -/
def portSt (p : Nat) (s : State) : Nat := getF (HJF_Pp_STAT_STATE p) s

/-- Port p is UP. -/
def portUp (p : Nat) (s : State) : Bool := decide (p < 16) && decide (portSt p s = 2)

/-- The device's own ID (R286). -/
def ownId (s : State) : Nat := getF HJF_CFG_DEVID s

/-- Sets a bit of HJF_STAT, or of HJF_OSTAT, and raises its vector where enabled (R304, R324). -/
def hjfEvent (f : Fld) (s : State) : State := event f 0 HJF_EVT_MASK_MASK f.lo HJF_EVT_VEC_VEC s
def hjfOevent (f : Fld) (s : State) : State := event f 0 HJF_OEVT_MASK_MASK f.lo HJF_OEVT_VEC_VEC s

/-! ### Packets (R284, R288, R289, R293) -/

/-- A request, as against a response. -/
def isReq (k : FabPkt) : Bool := decide (k.type < 8)

/-- A TYPE of R292. -/
def knownType (k : FabPkt) : Bool := decide (k.type ≤ 3) || decide (k.type = 8) || decide (k.type = 9)

/-- The virtual lane of a packet: 4 × class + hop class (R284). -/
def vlane (k : FabPkt) : Nat := (if isReq k then 0 else 4) + k.hop % 4

/-- The 32-byte slots of a packet: its header and its data (R283). -/
def slotsOf (k : FabPkt) : Nat := 1 + k.data.length / 32

/-- The flits that carry a packet, which begins in one of its own. -/
def flitsOf (k : FabPkt) : Nat := ceilDiv (slotsOf k) 8

/-- The destination a Transaction ID counts for: a device, or 2^16 + a group (R293, R312). -/
def destOf (k : FabPkt) : Nat := if k.type = 3 then 2 ^ 16 + k.group else k.dst

/-- A request that this device has issued. -/
def ownReq (k : FabPkt) (s : State) : Bool := isReq k && decide (k.src = ownId s)

/-- The entry of an operation's own request is first sent now (R315). -/
def markSent (k : FabPkt) (s : State) : State :=
  if ownReq k s then
    { s with ftt := s.ftt.map (fun f => if f.fence.isNone ∧ f.req.txid = k.txid ∧ f.dest = destOf k then { f with sent := some (f.sent.getD s.now) } else f) }
  else s

/-- Discards a packet (R289). -/
def discardPkt (k : FabPkt) (s : State) : State :=
  hjfEvent HJF_STAT_DISCARD (tally 14 HJF_T_DISCARD_COUNT 1 (markSent k { s with fabDrop := k :: s.fabDrop }))

/-! ### Sending (R283 to R285) -/

/-- Credits of a virtual lane at the peer of a port. -/
def laneCredit (x : HPort) (v : Nat) : Nat := look 0 v x.credit

/-- Flits sent and not yet acknowledged. -/
def unacked (x : HPort) : Nat := (x.replay.map (fun r => flitsOf r.2)).sum

/-- Place i of a port's queue may be sent: no packet before it is of its virtual lane, its lane holds credits for all its
slots, and the replay buffer has room. -/
def sendable (x : HPort) (i : Nat) : Bool :=
  match x.queue[i]? with
  | none => false
  | some k => (x.queue.take i).all (fun j => decide (vlane j ≠ vlane k)) && decide (slotsOf k ≤ laneCredit x (vlane k)) &&
      decide (unacked x + flitsOf k ≤ 512)

/-- The port after it has sent packet k, at place i of its queue. -/
def sentFrom (x : HPort) (i : Nat) (k : FabPkt) : HPort :=
  let q := (x.seq + flitsOf k) % 1024
  { x with queue := x.queue.eraseIdx i, credit := put (vlane k) (some (laneCredit x (vlane k) - slotsOf k)) x.credit, seq := q,
           replay := x.replay ++ [((q + 1023) % 1024, k)] }

/-- The packets of a port's queue that may be sent are sent. -/
def portPump (p : Nat) : Nat → State → State
  | 0, s => s
  | f + 1, s =>
    let x := hpOf p s
    match (List.range x.queue.length).find? (sendable x) with
    | none => s
    | some i => match x.queue[i]? with
      | none => s
      | some k => portPump p f (markSent k (tally1024 14 (HJF_Pp_TXFLIT_COUNT p) (flitsOf k) { setHp p (sentFrom x i k) s with fabSent := (p, k) :: s.fabSent }))

/-- Hands a packet to a port, which sends it when it can. -/
def sendOn (p : Nat) (k : FabPkt) (s : State) : State :=
  if portUp p s then
    let x := hpOf p s
    portPump p (x.queue.length + 1) (setHp p { x with queue := x.queue ++ [k] } s)
  else discardPkt k s

/-- Hands a packet to the local home. -/
def sendHome (k : FabPkt) (s : State) : State :=
  let x := hpOf 16 s
  markSent k (setHp 16 { x with inq := x.inq ++ [(s.now, k)] } s)

/-! ### Routing (R287 to R289) -/

/-- The route entry of a destination. -/
def routeOf (d : Nat) (s : State) : Nat := look 0 d s.routes
def rtValid (e : Nat) : Bool := bitAt 16 e
def rtPaths (e : Nat) : List Nat := (List.range (bitsAt 18 17 e + 1)).map (fun i => bitsAt (22 + 4 * i) (19 + 4 * i) e)
def rtHopInc (e : Nat) : Bool := bitAt 35 e

/-- The path hash of a packet (R288).  A response carries no address to enter it. -/
def pathKey (e : Nat) (k : FabPkt) : Nat :=
  let h := k.src ^^^ k.dst ^^^ (k.oc * 2 ^ 14)
  if k.oc = 0 ∧ bitAt 37 e ∧ isReq k then h ^^^ foldw 16 (bitsAt 42 12 k.addr) else h

/-- The paths of an entry from the hashed one on, whose ports are UP. -/
def upPaths (e : Nat) (k : FabPkt) (s : State) : List Nat :=
  let l := rtPaths e
  let i := foldw 4 (pathKey e k) % l.length
  (l.drop i ++ l.take i).filter (fun p => portUp p s)

/-- The port of a packet (R288): the hashed path, or the next that is UP; with ADAPT the one with the most credits. -/
def pathOf (k : FabPkt) (s : State) : Option Nat :=
  let e := routeOf k.dst s
  let l := upPaths e k s
  if k.oc = 0 ∧ bitAt 36 e then
    match l with
    | [] => none
    | a :: r => some (r.foldl (fun b p => if laneCredit (hpOf b s) (vlane k) < laneCredit (hpOf p s) (vlane k) then p else b) a)
  else l.head?

/-- The entry of an operation's own request takes the path of its request. -/
def markPort (k : FabPkt) (p : Nat) (s : State) : State :=
  if ownReq k s then
    { s with ftt := s.ftt.map (fun f => if f.fence.isNone ∧ f.req.txid = k.txid ∧ f.dest = destOf k then { f with port := some p } else f) }
  else s

/-- Sends a packet towards its destination: the local home, or the port that R288 chooses. -/
def routeOut (k : FabPkt) (s : State) : State :=
  if k.dst = ownId s then sendHome k s
  else if !rtValid (routeOf k.dst s) then discardPkt k s
  else match pathOf k s with
    | none => discardPkt k s
    | some p => sendOn p k (markPort k p s)

/-! ### Arrival -/

/-- The first packet of a port's arrivals that a test accepts and that no packet of its virtual lane precedes: its place,
when it came, and the packet. -/
def headIn (ok : FabPkt → Bool) (p : Nat) (s : State) : Option (Nat × Nat × FabPkt) :=
  let l := (hpOf p s).inq
  (List.range l.length).findSome? (fun i => match l[i]? with
    | none => none
    | some (t, k) => if ok k ∧ (l.take i).all (fun j => decide (vlane j.2 ≠ vlane k)) then some (i, t, k) else none)

/-- Takes the packet at place i from a port's arrivals. -/
def takeIn (p i : Nat) (s : State) : State :=
  let x := hpOf p s
  setHp p { x with inq := x.inq.eraseIdx i } s

/-- An ACK that arrives on port p for a gather entry of this device (R296). -/
def gatherFor (p : Nat) (k : FabPkt) (s : State) : Option Gather :=
  if k.type = 9 then s.gathers.find? (fun g => decide (p ∈ g.wait) && decide (p < 16) && decide (g.req.src = k.dst) && decide (g.req.txid = k.txid)) else none

/-- A packet that only crosses the device. -/
def isTransit (p : Nat) (s : State) (k : FabPkt) : Bool := decide (k.type ≠ 3) && decide (k.dst ≠ ownId s) && (gatherFor p k s).isNone

/-- TRANSIT_FORWARD (R289): the first transit packet of port p's arrivals goes on, or is discarded when its TTL or its hop
classes are used up, or no path leads on. -/
def execTransitForward (p : Fin 16) (s : State) : Host.Outcome State Fault Refusal :=
  goesOn s (match headIn (isTransit p s) p s with
    | none => s
    | some (i, _, k) =>
      let s1 := takeIn p i s
      let k1 := { k with ttl := k.ttl - 1, hop := k.hop + b2n (rtHopInc (routeOf k.dst s)) }
      if k1.ttl = 0 ∨ 3 < k1.hop ∨ !rtValid (routeOf k.dst s) ∨ (pathOf k1 s).isNone then discardPkt k1 s1
      else routeOut k1 (tally1024 14 HJF_T_TRANSIT_COUNT 1 s1))

/-! ### Flits (R283 to R285) -/

/-- Packets of a replay buffer that the peer has not acknowledged: those after the last one that ends at ACKSEQ or before. -/
def unackedAfter (ack : Nat) (l : List (Nat × FabPkt)) : List (Nat × FabPkt) :=
  l.filter (fun r => decide (0 < (r.1 + 1024 - ack % 1024) % 1024) && decide ((r.1 + 1024 - ack % 1024) % 1024 ≤ 512))

/-- ACKSEQ of the peer releases what it acknowledges; progress ends the run of fruitless replays. -/
def takeAck (ack : Nat) (x : HPort) : HPort :=
  let l := unackedAfter ack x.replay
  { x with replay := l, stuck := if l.length < x.replay.length then 0 else x.stuck }

/-- The packets of a flit: one with a bad header CRC or a reserved TYPE is discarded (R292, R293). -/
def acceptPkts (p : Nat) (l : List FabPkt) (s : State) : State :=
  l.foldl (fun s k =>
    if k.hdrOk ∧ knownType k then
      let x := hpOf p s
      setHp p { x with inq := x.inq ++ [(s.now, k)] } s
    else discardPkt k s) s

/-- FLIT_RECEIVE (R283 to R285): a flit whose CRC fails after FEC, or that is not the next in order, is discarded and
answered with NAK; otherwise its control word and its packets are taken. -/
def execFlitReceive (p : Fin 16) (f : Flit) (s : State) : Host.Outcome State Fault Refusal :=
  goesOn s (if !portUp p s then s
    else
      let cor := (if f.errA ≤ 2 then f.errA else 0) + (if f.errB ≤ 2 then f.errB else 0)
      let s1 := tally1024 14 (HJF_Pp_FECCOR_COUNT p) cor (tally1024 14 (HJF_Pp_RXFLIT_COUNT p) 1 s)
      let x := hpOf p s1
      if !f.crcOk then setHp p { x with nak := true } s1
      else if f.seq % 1024 ≠ x.expect then s1
      else
        let y := takeAck f.ackSeq x
        let z := { y with expect := (x.expect + 1) % 1024, nak := false, lastCtl := s.now,
                          credit := put (f.cvl % 8) (some (laneCredit y (f.cvl % 8) + f.ccnt % 256)) y.credit }
        acceptPkts p f.pkts (portPump p (z.queue.length) (setHp p z s1)))

/-! ### Ports that leave service (R280, R310, R311) -/

/-- A destination whose route entry names port p as a path. -/
def routesOver (p : Nat) (s : State) : List Nat :=
  (s.routes.filter (fun r => rtValid r.2 && decide (p ∈ rtPaths r.2))).map (fun r => r.1)

/-- Packets held for a port that has left UP: the device's own requests are dropped, and every other packet is routed
again; a copy of a multicast has no route of its own (R311). -/
def reroute (l : List FabPkt) (s : State) : State :=
  l.foldl (fun s k => if ownReq k s then { s with fabDrop := k :: s.fabDrop } else if k.type = 3 then discardPkt k s else routeOut k s) s

/-- The power domain of a port (R391). -/
def portDomain (p : Nat) (on : Bool) (s : State) : State :=
  if getF (PWR_DOMd_STATE (176 + p)) s = 3 then s else setF (PWR_DOMd_STATE (176 + p)) (if on then 2 else 0) s

/-- Port p leaves its state for OFF or FAILED: what it held is handled under R311, and the destinations it carried are
due a new epoch (R310). -/
def portDown (p st : Nat) (s : State) : State :=
  let x := hpOf p s
  let held := x.replay.map (fun r => r.2) ++ x.queue
  let s1 := setF (HJF_Pp_PEER_VALID p) 0 (setF (HJF_Pp_STAT_STATE p) st s)
  let s2 := setHp p { HPort.reset with inq := x.inq, pkts := x.pkts } s1
  let s3 := if portSt p s = 2 then { s2 with epochPend := (routesOver p s).foldl (fun l d => insertNat d l) s2.epochPend } else s2
  portDomain p (decide (st ≠ 0)) (reroute held s3)

/-- The PORT entry of a port that enters FAILED, with the SEQ of a FAB_PORT whose item it fails (R281, R366). -/
def portFailEntry (p cause : Nat) (q : Option Pkt) (s : State) : LedgerEvent :=
  let e := portEvent false p 3 0 cause s
  match q with
  | none => e
  | some q => { e with status := stITEM_FAILED, seq := q.seq }

/-- A FAB_PORT that waits ends ITEM_FAILED, with an entry of its own. -/
def failFabPort (p cause : Nat) (s : State) (q : Pkt) : State :=
  let r := ledgerAssign (portFailEntry p cause (some q) s) s
  finish q stITEM_FAILED (itemsDetail 1 r.1) (countItems 1 r.2)

/-- The FAB_PORT commands that wait on port p. -/
def portWaiters (p : Nat) (s : State) : List Pkt := s.accepted.filter (fun q => decide (q.id ∈ (hpOf p s).pkts))

/-- Port p enters FAILED (R280, R311): the event is recorded, and each FAB_PORT that waits ends ITEM_FAILED. -/
def portFailed (p cause : Nat) (s : State) : State :=
  let e := portFailEntry p cause none s
  let ws := portWaiters p s
  let s1 := portDown p 3 (setHp p { hpOf p s with pkts := [] } s)
  let s2 := historyAdd (historyOf e) (hjfEvent HJF_STAT_PORT_FAIL s1)
  if ws.isEmpty then ledgerAdd e s2 else ws.foldl (failFabPort p cause) s2

/-- PORT_FAIL (R280, R311): a second lane of an UP port fails while the spare is in use. -/
def execPortFail (p : Fin 16) (s : State) : Host.Outcome State Fault Refusal :=
  goesOn s (if portUp p s ∧ flagF (HJF_Pp_STAT_SPARE_IN p) s then portFailed p 0xB0 s else s)

/-- CONTROL_WORD_TIMEOUT (R280): the peer of an UP port has returned no control word for 10 µs. -/
def execControlWordTimeout (p : Fin 16) (s : State) : Host.Outcome State Fault Refusal :=
  goesOn s (if portUp p s ∧ (hpOf p s).lastCtl + 10000 * 1536 ≤ s.now then portFailed p 0xB0 s else s)

/-- PORT_TRAINING_TIMEOUT (R280): 100 ms pass without UP. -/
def execPortTrainingTimeout (p : Fin 16) (s : State) : Host.Outcome State Fault Refusal :=
  goesOn s (if portSt p s = 1 ∧ (hpOf p s).since + 10 ^ 8 * 1536 ≤ s.now then portFailed p 0xB0 s else s)

/-- PORT_TRAINING_DONE (R280, R281): the lanes of a TRAINING port are locked and the peer has sent its identity, which is
accepted, or refused. -/
def execPortTrainingDone (p : Fin 16) (peer : Nat) (switch : Bool) (s : State) : Host.Outcome State Fault Refusal :=
  goesOn s (if portSt p s ≠ 1 then s
    else
      let x := hpOf p s
      if (x.check.any (fun c => decide (c ≠ peer % 65536))) ∨ (switch ∧ !x.allowSwitch) then portFailed p 0xB0 s
      else
        let s1 := setF (HJF_Pp_PEER_VALID p) 1 (setF (HJF_Pp_PEER_ID p) peer (setF (HJF_Pp_STAT_PEER_SWITCH p) (b2n switch) (setF (HJF_Pp_STAT_STATE p) 2 s)))
        let s2 := setHp p { HPort.reset with inq := x.inq, lastCtl := s.now } s1
        x.pkts.foldl (fun s i => finishId i stOK 0 s) s2)

/-- A replay of port p's packets after ACKSEQ is counted for the port and for every STEP whose packet it carries (R285,
R330). -/
def countReplay (p : Nat) (l : List FabPkt) (s : State) : State :=
  let cs := (s.ftt.filter (fun f => l.any (fun k => ownReq k s && decide (f.req.txid = k.txid) && decide (f.dest = destOf k)))).map (fun f => f.ctx)
  cs.eraseDups.foldl (fun s c => modStep c (fun st => { st with replays := (st.replays + 1) % 2 ^ 32 }) s) (tally 14 (HJF_Pp_RETRY_COUNT p) 1 s)

/-- FLIT_REPLAY (R285): the peer's NAK makes the port send again from the flit after ACKSEQ, in order; after 16 replays in a
row without progress the port goes to FAILED. -/
def execFlitReplay (p : Fin 16) (ackSeq : Nat) (s : State) : Host.Outcome State Fault Refusal :=
  goesOn s (if !portUp p s then s
    else
      let x := takeAck ackSeq (hpOf p s)
      if 16 ≤ x.stuck then portFailed p 0xB0 (setHp p x s)
      else
        let l := x.replay.map (fun r => r.2)
        let s1 := countReplay p l (setHp p { x with stuck := x.stuck + 1, lastCtl := s.now } s)
        tally1024 14 (HJF_Pp_TXFLIT_COUNT p) ((l.map flitsOf).sum) { s1 with fabSent := (l.map (fun k => (p.val, k))).reverse ++ s1.fabSent })

/-- The spare lane of port p takes the place of a lane (R282, R371). -/
def hjfSpareIn (p lane : Nat) (s : State) : State :=
  hjfEvent HJF_STAT_SPARE (noteSpared 7 0xB0 p lane 4 1 (subF FLT_SPARE_HJF 1 (setF (HJF_Pp_STAT_LANE_OUT p) lane (setF (HJF_Pp_STAT_SPARE_IN p) 1 s))))

/-- HJELO_LANE_SPARE (R282): a lane of an UP port loses lock or has too many symbols corrected, and the spare is free. -/
def execHjeloLaneSpare (p : Fin 16) (lane : Nat) (s : State) : Host.Outcome State Fault Refusal :=
  goesOn s (if portUp p s ∧ !flagF (HJF_Pp_STAT_SPARE_IN p) s ∧ lane < 4 then withInject 6 p lane (hjfSpareIn p lane) s else s)

end Sys2Proof.Machine
end

