-- ==== Sys2Proof/Machine/Home.lean ====
section
/-! DEFINITION. The home side of the fabric: the receiver's checks, the Fence Gate, the Combiners, the Duplicate Filter and
multicast (R291, R294 to R299, R305 to R307, R312 to R321). -/

namespace Sys2Proof.Machine

/-! ### Checks (R298, R299, R321) -/

/-- Partition p is fenced (R321). -/
def gateClosed (p : Nat) (s : State) : Bool := decide (p < 8) && bitAt p (getF HJF_GATE_FENCED s)

/-- The partitions. -/
def eightParts : List Nat := [0, 1, 2, 3, 4, 5, 6, 7]

/-- The Fence Gate refuses a request: it names an object of a fenced partition, or carries its Job Key or EXTKEY (R321). -/
def gateRefuses (k : FabPkt) (s : State) : Bool :=
  eightParts.any (fun p => gateClosed p s &&
    ((decide (entTier (bent (k.addr / 2 ^ 21) s) ≠ 0) && decide (entPart (bent (k.addr / 2 ^ 21) s) = p)) ||
      (lookup p s.parts).any (fun q => decide (q.key = k.key)) ||
      (decide (getF (HJF_GATE_KEYp_EXTKEY p) s ≠ 0) && decide (getF (HJF_GATE_KEYp_EXTKEY p) s = k.key))))

/-- The permission bit that an operation needs (R242, R292). -/
def permBit (type : Nat) : Nat := match type with
  | 0 => 0
  | 1 => 1
  | 2 => 2
  | _ => 3

/-- The keys of an object that a request's key matches. -/
def keysOf (k : FabPkt) (o : Obj) : List Nat := (List.range 4).filter (fun i => decide (o.keys[i]? = some k.key))

/-- The reason of R298 for which a request is refused, or none. -/
def refusal (k : FabPkt) (s : State) : Option Nat :=
  let e := bent (k.addr / 2 ^ 21) s
  if entTier e = 0 ∨ entExtent e * 4096 < k.addr % 2 ^ 21 + k.len then some 1
  else if entPart e = 14 ∨ entPart e = 15 then some 2
  else
    let ks := ((lookup (entObj e) s.objs).map (keysOf k)).getD []
    if k.key = 0 ∨ ks.isEmpty then some 3
    else if !ks.any (fun i => bitAt (4 * i + permBit k.type) (((lookup (entObj e) s.objs).map (fun o => o.perm)).getD 0)) then some 4
    else if k.type ≠ 0 ∧ entRo e then some 5
    else if !flagF HJF_CFG_EN s then some 6
    else if k.type = 2 ∧ (2 < k.rop ∨ 3 < k.rtype) then some 7
    else none

/-- A refusal is counted and logged (R299). -/
def logRefusal (k : FabPkt) (reason : Nat) (s : State) : State :=
  let e := getF HJF_LOGHEAD_NEXT s
  let ent0 := k.src + k.type * 2 ^ 16 + reason * 2 ^ 20 + 2 ^ 23 + k.key * 2 ^ 24
  let ent1 := k.addr + ageNow s % 2 ^ 21 * 2 ^ 43
  hjfEvent HJF_STAT_DENIED (tally 14 HJF_T_DENIED_COUNT 1
    (addSatF HJF_LOGHEAD_TOTAL 1 (setF HJF_LOGHEAD_NEXT (e + 1) (setF (HJF_LOG_ENT1_ENT e) ent1 (setF (HJF_LOG_ENT0_ENT e) ent0 s)))))

/-- The Fence Gate has refused a request. -/
def countFenced (s : State) : State := hjfOevent HJF_OSTAT_FENCED (tally 14 HJF_T_FENCED_COUNT 1 s)

/-- The STATUS with which a request is refused, and the state after: 3 FENCED, 1 NOT_PERMITTED, or none. -/
def admitCheck (k : FabPkt) (s : State) : Option Nat × State :=
  if gateRefuses k s then (some 3, countFenced s)
  else match refusal k s with
    | some r => (some 1, logRefusal k r s)
    | none => (none, s)

/-! ### Responses (R292, R293, R296) -/

/-- The response to a request. -/
def mkRsp (k : FabPkt) (status members poison : Nat) (data : List Byte) (s : State) : FabPkt :=
  { type := if k.type = 0 then 8 else 9, oc := k.oc, hop := 0, ttl := 63, dst := k.src, src := ownId s, len := k.len, epoch := k.epoch,
    txid := k.txid, key := 0, status := status, members := members, addr := 0, poison := poison, rop := 0, rtype := 0,
    group := if k.type = 3 then k.group else 0, data := data, hdrOk := true }

/-- The local store of a multicast has ended with a status (R296). -/
def gatherLocal (g status : Nat) (s : State) : State :=
  { s with gathers := s.gathers.map (fun x => if x.id = g then { x with wait := x.wait.filter (fun p => decide (p ≠ 16)), status := max x.status status, count := x.count + b2n (decide (status = 0)) } else x) }

/-- Answers a request: to its gather entry, or with a response of its own. -/
def answer (k : FabPkt) (gather : Option Nat) (status poison : Nat) (data : List Byte) (s : State) : State :=
  match gather with
  | some g => gatherLocal g status s
  | none => routeOut (mkRsp k status 0 poison data s) s

/-! ### The Duplicate Filter (R312 to R314) -/

/-- The stream of a request: its source, and its group for a multicast. -/
def streamKey (k : FabPkt) : Nat × Option Nat := (k.src, if k.type = 3 then some k.group else none)

/-- The entry of a request's stream. -/
def streamOf (k : FabPkt) (s : State) : Option Stream := s.streams.find? (fun x => decide ((x.src, x.group) = streamKey k))

/-- Replaces a stream entry. -/
def putStream (x : Stream) (s : State) : State :=
  { s with streams := s.streams.map (fun y => if (y.src, y.group) = (x.src, x.group) then x else y) }

/-- An ID lies in the window that ends at TOP. -/
def inWindowId (top id : Nat) : Bool := decide ((top + 2 ^ 32 - id) % 2 ^ 32 < 4096)

/-- A request of a new stream waits while no entry is free. -/
def streamRoom (k : FabPkt) (s : State) : Bool := (streamOf k s).isSome || decide (s.streams.length < 8192)

/-- A request arrives: its stream takes an entry, or TOP the higher ID (R312). -/
def touchStream (k : FabPkt) (s : State) : State :=
  match streamOf k s with
  | none =>
    let s1 := { s with streams := s.streams ++ [⟨(streamKey k).1, (streamKey k).2, k.txid, [], [(1, k.epoch), (2, k.epoch), (3, k.epoch)], [], s.now⟩] }
    setF HJF_DF_STREAMS s1.streams.length s1
  | some x =>
    let top := if serialLt 32 x.top k.txid then k.txid else x.top
    putStream { x with top := top, done := x.done.filter (inWindowId top), last := s.now } s

/-- What the filter decides of a write at the head of its queue (R313). -/
inductive Filtered where
  | dup
  | stale
  | apply
  deriving DecidableEq, Repr

/-- The checks of R313, in order. -/
def dupFilter (k : FabPkt) (x : Stream) : Filtered :=
  let below := !inWindowId x.top k.txid
  let ordered := decide (k.oc ≠ 0)
  if below then .dup
  else if ordered && serialLt 8 k.epoch (look 0 k.oc x.cur) then .stale
  else if k.txid ∈ x.done then .dup
  else if ordered && (lookup k.oc x.high).any (fun h => serialLt 32 k.txid h) then .stale
  else .apply

/-- A write is applied: its bit is set, and its class takes its ID and a newer EPOCH. -/
def recordApplied (k : FabPkt) (x : Stream) : Stream :=
  let y := { x with done := k.txid :: x.done }
  if k.oc = 0 then y
  else { y with high := put k.oc (some k.txid) y.high, cur := if serialLt 8 (look 0 k.oc y.cur) k.epoch then put k.oc (some k.epoch) y.cur else y.cur }

/-- STREAM_ENTRY_IDLE (R314): a stream that has sent nothing for IDLE µs frees its entry. -/
def execStreamEntryIdle (src : Nat) (group : Option Nat) (s : State) : Host.Outcome State Fault Refusal :=
  goesOn s (let s1 := { s with streams := s.streams.filter (fun x => !(decide ((x.src, x.group) = (src, group)) && decide (x.last + getF HJF_DF_IDLE s * 1000 * 1536 ≤ s.now))) }
    setF HJF_DF_STREAMS s1.streams.length s1)

/-! ### Combiners (R317 to R320) -/

/-- The Combiner that serves a line's offset. -/
def combOf (a : Nat) : Nat := foldw 4 (bitsAt 42 6 a)

/-- Requests in the queue of a Combiner. -/
def combQueue (b : Nat) (s : State) : List CombReq := s.comb.filter (fun r => decide (combOf r.pkt.addr = b))

/-- A request may enter its Combiner's queue: it has room, and its source holds fewer than CRED entries. -/
def combRoom (k : FabPkt) (s : State) : Bool :=
  let q := combQueue (combOf k.addr) s
  decide (q.length < 4096) && decide ((q.filter (fun r => decide (r.pkt.src = k.src))).length < getF HJF_COMB_CRED s)

/-- Requests that a line holds in its queue. -/
def lineQueue (line : Nat) (s : State) : List CombReq := s.comb.filter (fun r => decide (r.pkt.addr / 64 = line))

/-- A line whose requests reach HOT_THR counts one event until its queue empties (R320). -/
def hotLine (line : Nat) (s : State) : State :=
  if getF HJF_COMB_HOT_THR s ≤ (lineQueue line s).length ∧ line ∉ s.hotSeen then
    hjfOevent HJF_OSTAT_HOTLINE (tally 14 HJF_T_HOTLINE_COUNT 1 (setF HJF_HOT_COMB (combOf (line * 64)) (setF HJF_HOT_LINE (line * 64) { s with hotSeen := insertNat line s.hotSeen })))
  else s

/-- A request enters its Combiner's queue. -/
def combPush (k : FabPkt) (port : Nat) (gather : Option Nat) (t : Nat) (s : State) : State :=
  let s1 := touchStream k s
  hotLine (k.addr / 64) { s1 with comb := s1.comb ++ [⟨k, port, gather, t⟩], lineBufs := insertNat (k.addr / 64) s1.lineBufs }

/-- A request leaves its queue: its wait is counted, and a line without requests gives up its buffer. -/
def combPop (i : Nat) (r : CombReq) (s : State) : State :=
  let s1 := tally1024 14 HJF_T_COMBWAIT_COUNT ((s.now - r.at_) * 10 / (8 * 1536)) { s with comb := s.comb.eraseIdx i }
  if (lineQueue (r.pkt.addr / 64) s1).isEmpty then
    { s1 with hotSeen := s1.hotSeen.filter (fun l => decide (l ≠ r.pkt.addr / 64)), lineBufs := s1.lineBufs.filter (fun l => decide (l ≠ r.pkt.addr / 64)) }
  else s1

/-- A unicast request to this device. -/
def isRequest (s : State) (k : FabPkt) : Bool := decide (k.type ≤ 2) && decide (k.dst = ownId s)

/-- A request that came earlier on another port waits for the same Combiner, and its source has credit (R317). -/
def earlierWaits (p t : Nat) (k : FabPkt) (s : State) : Bool :=
  (List.range 17).any (fun q => decide (q ≠ p) && (match headIn (isRequest s) q s with
    | none => false
    | some (_, u, j) => decide (u < t) && decide (combOf j.addr = combOf k.addr) && combRoom j s))

/-- FABRIC_REQUEST_RECEIVE (R298, R299, R317, R321): the first request of port p's arrivals is refused, enters its Combiner's
queue, or waits at its ingress. -/
def execFabricRequestReceive (p : Fin 17) (s : State) : Host.Outcome State Fault Refusal :=
  goesOn s (match headIn (isRequest s) p s with
    | none => s
    | some (i, t, k) => match admitCheck k s with
      | (some st, s1) => answer k none st 0 [] (takeIn p i s1)
      | (none, _) => if combRoom k s ∧ streamRoom k s ∧ !earlierWaits p t k s then combPush k p none t (takeIn p i s) else s)

/-- The lines of a request. -/
def reqLines (k : FabPkt) : List Nat := linesOf k.addr k.len

/-- Two requests share a line. -/
def shareLine (a b : FabPkt) : Bool := (reqLines a).any (fun l => decide (l ∈ reqLines b))

/-- A write meets poison: a POISONED object, a stack out of service, or a marked line that a reduction would read (R269,
R270). -/
def writePoison (k : FabPkt) (s : State) : Bool :=
  (reqLines k).any (fun l => objPoisoned l s || (storeAddr l s).any (fun m => stackGone m s || (decide (k.type = 2) && marked m s)))

/-- The poison marks of a load, bit j for line j (R293). -/
def poisonBits (k : FabPkt) (s : State) : Nat :=
  ((List.range (k.len / 64)).map (fun j => if poisoned (k.addr + 64 * j) s then 2 ^ j else 0)).sum

/-- A load is served: its data, and its poison marks (R269, R318). -/
def serveLoad (r : CombReq) (s : State) : State :=
  let b := poisonBits r.pkt s
  answer r.pkt r.gather (if b = 0 then 0 else 2) b (urRead r.pkt.addr r.pkt.len s) (tally 14 HJF_T_REQIN_COUNT 1 s)

/-- The data that a write leaves in its range. -/
def writeData (k : FabPkt) (s : State) : List Byte :=
  if k.type = 2 then redLine k.rop k.rtype (urRead k.addr k.len s) k.data else k.data

/-- A write passes the Duplicate Filter and is applied, or is acknowledged or dropped without (R307, R313). -/
def serveWrite (r : CombReq) (s : State) : State :=
  let s1 := tally 14 HJF_T_REQIN_COUNT 1 (if (streamOf r.pkt s).isSome then s else touchStream r.pkt s)
  match streamOf r.pkt s1 with
  | none => s1
  | some x => match dupFilter r.pkt x with
    | .dup => answer r.pkt r.gather 0 0 [] (tally 14 HJF_T_DUP_COUNT 1 s1)
    | .stale => hjfOevent HJF_OSTAT_STALE (tally 14 HJF_T_STALE_COUNT 1 s1)
    | .apply => answer r.pkt r.gather 0 0 [] (putStream (recordApplied r.pkt x) (urWrite r.pkt.addr (writeData r.pkt s1) s1).1)

/-- Serves the request at place i of the Combiners' queues. -/
def serveAt (i : Nat) (r : CombReq) (s : State) : State :=
  match admitCheck r.pkt s with
  | (some st, s1) => answer r.pkt r.gather st 0 [] (combPop i r s1)
  | (none, _) =>
    if r.pkt.type = 0 then
      if anyHeld r.pkt.addr r.pkt.len s then { combPop i r s with fabHeld := s.fabHeld ++ [r] } else serveLoad r (combPop i r s)
    else if !storable r.pkt.addr r.pkt.len s ∨ (r.pkt.type = 2 ∧ anyHeld r.pkt.addr r.pkt.len s) then s
    else if writePoison r.pkt s then answer r.pkt r.gather 2 0 [] (tally 14 HJF_T_REQIN_COUNT 1 (combPop i r s))
    else serveWrite r (combPop i r s)

/-- COMBINER_OPERATION (R317, R318): Combiner b serves the first request of a line, when no earlier request shares a line with
it. -/
def execCombinerOperation (b : Fin 16) (line : Nat) (s : State) : Host.Outcome State Fault Refusal :=
  goesOn s (if combOf (line * 64) ≠ b.val then s
    else match (List.range s.comb.length).find? (fun i => (s.comb[i]?).any (fun r => decide (r.pkt.addr / 64 = line))) with
      | none => s
      | some i => match s.comb[i]? with
        | none => s
        | some r => if (s.comb.take i).any (fun q => shareLine q.pkt r.pkt) then s else serveAt i r s)

/-- Loads held on the lines of an object are answered in arrival order once its refetch has ended (R272). -/
def releaseHeld (s : State) : State :=
  let go := s.fabHeld.filter (fun r => !anyHeld r.pkt.addr r.pkt.len s)
  go.foldl (fun s r => match admitCheck r.pkt s with
    | (some st, s1) => answer r.pkt r.gather st 0 [] s1
    | (none, _) => serveLoad r s) { s with fabHeld := s.fabHeld.filter (fun r => anyHeld r.pkt.addr r.pkt.len s) }

/-! ### Multicast (R295, R296) -/

/-- A group entry and its fields. -/
def groupOf (g : Nat) (s : State) : Nat := look 0 g s.groups
def gpValid (e : Nat) : Bool := bitAt 12 e
def gpLocal (e : Nat) : Bool := bitAt 13 e
def gpHopInc (e : Nat) : Bool := bitAt 14 e
def gpPorts (p e : Nat) : List Nat := (List.range 16).filter (fun q => bitAt (16 + q) e && decide (q ≠ p))
def gpMembers (e : Nat) : Nat := bitsAt 44 32 e

/-- Sends the gathered ACK of a multicast back on the port the packet came in on. -/
def ackUp (k : FabPkt) (port status count : Nat) (s : State) : State :=
  let r := mkRsp k status count 0 [] s
  if port = 16 then sendHome r s else sendOn port { r with group := 0 } s

/-- A copy of a multicast on port q: its TTL lowered at a forwarding device, its hop class raised where the entry says so. -/
def sendCopy (fwd inc : Bool) (k : FabPkt) (s : State) (q : Nat) : State :=
  let c := { k with ttl := k.ttl - b2n fwd, hop := k.hop + b2n inc }
  if c.ttl = 0 ∨ 3 < c.hop then discardPkt c s else sendOn q c s

/-- The local store of a multicast: refused, or in its Combiner's queue. -/
def mcastLocal (k : FabPkt) (p g t : Nat) (s : State) : State :=
  match admitCheck k s with
  | (some st, s1) => gatherLocal g st s1
  | (none, _) => combPush k p (some g) t s

/-- MCAST_RECEIVE (R295, R296): the first multicast of port p's arrivals is copied to the group's other ports and applied
locally; it waits while no gather entry is free, or its local store finds no room. -/
def execMcastReceive (p : Fin 17) (s : State) : Host.Outcome State Fault Refusal :=
  goesOn s (match headIn (fun k => decide (k.type = 3)) p s with
    | none => s
    | some (i, t, k) =>
      let e := groupOf k.group s
      if !gpValid e then ackUp k p 0 0 (takeIn p i s)
      else if 4096 ≤ s.gathers.length then s
      else if gpLocal e ∧ (admitCheck k s).1.isNone ∧ !(combRoom k s && streamRoom k s) then s
      else
        let g := (s.gathers.map (fun x => x.id)).foldl max 0 + 1
        let ports := gpPorts p e
        let s1 := { takeIn p i s with gathers := s.gathers ++ [⟨g, k, p, ports ++ (if gpLocal e then [16] else []), 0, 0⟩] }
        let s2 := ports.foldl (sendCopy (decide (p.val ≠ 16)) (gpHopInc e) k) s1
        if gpLocal e then mcastLocal k p g t s2 else s2)

/-- MCAST_GATHER_COMPLETE (R296): every ACK of gather entry g has come, and one ACK goes upstream. -/
def execMcastGatherComplete (g : Nat) (s : State) : Host.Outcome State Fault Refusal :=
  goesOn s (match s.gathers.find? (fun x => decide (x.id = g) && x.wait.isEmpty) with
    | none => s
    | some x => ackUp x.req x.port x.status x.count { s with gathers := s.gathers.filter (fun y => decide (y.id ≠ g)) })

end Sys2Proof.Machine
end

