-- ==== Sys2Proof/Machine/FabOps.lean ====
section
/-! DEFINITION. Fabric operations at their source: the instructions, the Fabric Transaction Table, fences, path epochs,
responses and the Fabric Timeout (R229, R291 to R293, R296, R297, R302, R305 to R310, R315, R316, R336, R353, R382). -/

namespace Sys2Proof.Machine

/-! ### The table (R302) -/

/-- Shows the entries held. -/
def showFtt (s : State) : State := setF HJF_FTT_USED s.ftt.length s

/-- The lowest free entry for engine sets. -/
def freeFtt (s : State) : Option Nat :=
  ((List.range (s.ftt.length + 1)).map (fun i => 1024 + i)).find? (fun i => decide (i < 16384) && !s.ftt.any (fun f => decide (f.id = i)))

/-- An operation is outstanding that is no fence. -/
def isOp (f : Ftt) : Bool := f.fence.isNone

/-- Entries that a set holds. -/
def setOps (n : Nat) (x : EngSet) (s : State) : List Ftt := s.ftt.filter (opOf n x)

/-- A set may take an entry for a destination: the table, its own limit and the destination's have room (R302). -/
def fttRoom (n : Nat) (x : EngSet) (dest : Option Nat) (s : State) : Bool :=
  (freeFtt s).isSome && decide ((setOps n x s).length < min x.fabMax 128) &&
    dest.all (fun d => decide ((s.ftt.filter (fun f => isOp f && decide (f.dest = d))).length < 4096))

/-- The next Transaction ID of a destination. -/
def txidOf (d : Nat) (s : State) : Nat := look 0 d s.txids

/-- Takes a Transaction ID. -/
def takeTxid (d : Nat) (s : State) : State := { s with txids := put d (some ((txidOf d s + 1) % 2 ^ 32)) s.txids }

/-! ### Sending what waits (R288, R291, R308, R344) -/

/-- An entry has not been sent. -/
def unsent (f : Ftt) : Bool := isOp f && f.sent.isNone && f.port.isNone

/-- Two entries are of one engine. -/
def sameEngine (f g : Ftt) : Bool := decide (f.core = g.core) && decide (f.ctx = g.ctx) && decide (f.tile = g.tile) && (f.load == g.load)

/-- Place i of the table waits: for a fence of its group issued before it (R308), or for an ordered operation to its
destination that is not yet sent (R305). -/
def heldAt (i : Nat) (f : Ftt) (l : List Ftt) : Bool :=
  (l.take i).any (fun g => (g.fence.isSome && sameEngine f g && decide (g.group = f.group)) ||
    (unsent g && decide (g.dest = f.dest) && decide (g.req.oc = f.req.oc) && decide (f.req.oc ≠ 0)))

/-- The bytes of a packet. -/
def pktBytes (k : FabPkt) : Nat := 32 * slotsOf k

/-- Sends the request of an entry, with its destination's epoch; a multicast goes to the device's own replication. -/
def sendReq (f : Ftt) (s : State) : State :=
  let k := { f.req with epoch := look 0 f.dest s.epochs }
  let s1 := spend f.part 2 (pktBytes k) s
  if k.type = 3 then sendHome k s1 else routeOut k s1

/-- Entries that wait are sent while they can. -/
def fabPump : Nat → State → State
  | 0, s => s
  | n + 1, s =>
    match (List.range s.ftt.length).findSome? (fun i => (s.ftt[i]?).filter (fun f => unsent f && !heldAt i f s.ftt && mayIssue f.part 2 s)) with
    | none => s
    | some f => fabPump n (sendReq f s)

/-- Sends all that can be sent. -/
def fabGo (s : State) : State := fabPump s.ftt.length s

/-! ### Ends of operations (R229, R309, R316, R336) -/

/-- The FABOP entry of a failed operation (R366 KIND 4). -/
def fabEntry (f : Ftt) (cause status reason : Nat) (s : State) : LedgerEvent :=
  let p := mcPhys f.core s
  let known := decide (f.core < 144)
  { kind := 4, flags := 16 * b2n (detPart f.part s), status := status, seq := ((stepOf f.ctx s).map (fun st => st.seq)).getD 0,
    func := partFunc f.part s, part := f.part, cause := 0x50 + cause, td := eventTd s, band := if known then unitBand 1 p s else 0,
    at_ := counter (eventTd s) s, lunit := if known then f.core else 0xFFFF, punit := if known then p else 0xFFFF, object := f.ctx,
    body := natLE 2 f.req.dst ++ natLE 1 f.req.type ++ natLE 1 f.req.oc ++ natLE 4 f.req.txid ++ natLE 8 f.req.addr ++
      natLE 1 (look 0 f.dest s.epochs) ++ natLE 1 reason }

/-- A set after one of its operations has ended FAILED: FABERR, and the first failure (R229). -/
def setFabErr (index status cause : Nat) (x : EngSet) : EngSet :=
  if x.faberr then x else { x with faberr := true, firstFail := index, failStatus := status, failCause := cause }

/-- Changes the engine set that an operation belongs to, on its core or saved with its context. -/
def modOpSet (f : Ftt) (g : EngSet → EngSet) (s : State) : State :=
  match engAt f.core s with
  | some x => if x.ctx = f.ctx ∧ x.tile = f.tile then putEng f.core (some (g x)) s else s
  | none => modCtx f.ctx (fun c => { c with saved := c.saved.map (fun y => if y.1 = f.core ∧ y.2.tile = f.tile then (y.1, g y.2) else y) }) s

/-- An entry is freed: fences stop covering it, a BLOCKED context becomes RUNNABLE, and what it held back is sent (R308,
R335, R338). -/
def freeEntry (f : Ftt) (s : State) : State :=
  let s1 := { s with ftt := (s.ftt.filter (fun g => decide (g.id ≠ f.id))).map (fun g => { g with fence := g.fence.map (fun l => l.filter (fun i => decide (i ≠ f.id))) }) }
  let s2 := modOpSet f (fun x => { x with fabAct := s.now }) s1
  let s3 := match ctxOf f.ctx s2 with
    | none => s2
    | some c => if c.sub = 3 ∧ f.core ≠ 0xFFFE then putCtx f.ctx (some { c with sub := 1, readyAt := s.now }) s2 else s2
  fabGo (showFtt s3)

/-- An operation ends FAILED (R316): it is an item of its STEP (R363); the operations of a destroyed context leave no entry (R339). -/
def failOp (f : Ftt) (cause status reason : Nat) (s : State) : State :=
  if f.core = 0xFFFE then freeEntry f s
  else
    let r := ledgerAssign (fabEntry f cause status reason s) (countItems 1 s)
    let s1 := modCtx f.ctx (fun c => if c.faberr then c else { c with faberr := true, firstFail := r.1 }) r.2
    freeEntry f (modOpSet f (setFabErr r.1 status cause) s1)

/-! ### The instructions (R297) -/

/-- A request as the source fills it (R293). -/
def mkReq (type oc dst len txid key addr rop rtype group : Nat) (data : List Byte) (s : State) : FabPkt :=
  { type := type, oc := oc, hop := 0, ttl := 63, dst := dst, src := ownId s, len := len, epoch := 0, txid := txid, key := key, status := 0, members := 0,
    addr := addr, poison := 0, rop := rop, rtype := rtype, group := group, data := data, hdrOk := true }

/-- The operands of a fabric operation: its TYPE, destination, offset and length (R297). -/
structure FabArgs where
  type : Nat
  dst : Nat
  group : Nat
  addr : Nat
  len : Nat
  bad : Bool
  deriving DecidableEq, Repr

/-- Decodes GA and GC: a global address, or a group and an offset. -/
def fabArgs (type ga gc : Nat) : FabArgs :=
  let addr := if type = 3 then bitsAt 54 12 ga else ga % 2 ^ 43
  { type := type, dst := if type = 3 then 0xFFFF else bitsAt 58 43 ga, group := if type = 3 then ga % 4096 else 0, addr := addr, len := gc,
    bad := decide (ga / 2 ^ 59 ≠ 0) || decide (addr % 64 ≠ 0) || decide (gc % 64 ≠ 0) || decide (gc = 0) || decide (4096 < gc) ||
      decide (4096 < addr % 4096 + gc) }

/-- The local address of an operation: Core Scratch, or the Unified Range. -/
def locCs (gb : Nat) : Bool := bitAt 63 gb
def locAddr (gb : Nat) : Nat := gb % 2 ^ 43

/-- The fault that a local address raises (R226, R240), or none. -/
def locFault (x : EngSet) (a : FabArgs) (gb : Nat) (s : State) : Option Nat :=
  if locAddr gb % 64 ≠ 0 ∨ (a.type = 0 ∧ gb / 2 ^ 43 ≠ 0) then some 1
  else if a.type ≠ 0 ∧ locCs gb then (if inArea x (locAddr gb) a.len then none else some 2)
  else if rangeOk x.part (decide (a.type = 0)) (locAddr gb) a.len s then none else some 6

/-- The source data of an operation. -/
def locData (n : Nat) (a : FabArgs) (gb : Nat) (s : State) : List Byte :=
  if a.type = 0 then [] else if locCs gb then csRead n (locAddr gb) a.len s else urRead (locAddr gb) a.len s

/-- The digest of R382 with one fabric request: its data by its address, or an RGET's length by its destination. -/
def digestOp (a : FabArgs) (gb : Nat) (data : List Byte) (x : EngSet) : EngSet :=
  if a.type = 0 then foldDigest (locAddr gb) (natLE 8 a.len) x
  else foldDigest ((if a.type = 3 then a.group * 2 ^ 43 else a.dst * 2 ^ 43) + a.addr) data x

/-- The entry of an operation of core n's set, as the word names its group and class. -/
def mkOp (id n : Nat) (x : EngSet) (a : FabArgs) (w gb : Nat) (data : List Byte) (s : State) : Ftt :=
  let imm := w / 2 ^ 32
  let d := if a.type = 3 then 2 ^ 16 + a.group else a.dst
  let g := groupOf a.group s
  let k := mkReq a.type (bitsAt 9 8 imm) a.dst a.len (txidOf d s) (((lookup x.part s.parts).map (fun p => p.key)).getD 0) a.addr
    (if a.type = 2 then imm % 16 else 0) (if a.type = 2 then bitsAt 7 4 imm else 0) a.group data s
  ⟨id, n, x.ctx, x.part, decide (a.type = 0), x.tile, insMode w % 8, k, d, if a.type = 0 then locAddr gb else if a.type = 3 ∧ gpValid g then gpMembers g else 0, none, none, none⟩

/-- The operation takes its entry: it ends FAILED at issue behind a Fence Gate or without a route, or waits to be sent
(R297, R321). -/
def issueOp (f : Ftt) (s : State) : State :=
  let s1 := showFtt (takeTxid f.dest { s with ftt := s.ftt ++ [f] })
  if gateClosed f.part s then failOp f 4 stFENCED 0 s1
  else if f.req.type ≠ 3 ∧ f.dest ≠ ownId s ∧ !rtValid (routeOf f.dest s) then failOp f 5 stITEM_FAILED 0 s1
  else fabGo s1

/-- RGET, RPUT, RRED and RMCAST (R297): the checks, then the entry; a shadow run sends nothing (R382). -/
def fabInstr (op type n e : Nat) (s : State) : State :=
  engineRun (fun o => decide (o = op)) n e (fun x w s =>
    let g := engine x e
    let a := fabArgs type (gReg g (insA w)) (gReg g (insC w))
    let gb := gReg g (insB w)
    if a.bad ∨ x.fabMax = 0 ∨ x.radio.isSome then tileFault n 1 s
    else if type = 2 ∧ detPart x.part s ∧ (w / 2 ^ 32) % 16 = 0 ∧ bitsAt 7 4 (w / 2 ^ 32) < 2 then tileFault n 1 s
    else match locFault x a gb s with
      | some c => tileFault n c s
      | none =>
        if type ≠ 0 ∧ !locCs gb ∧ anyHeld (locAddr gb) a.len s then s
        else if type ≠ 0 ∧ !locCs gb ∧ anyPoison (locAddr gb) a.len s then tilePoison n s
        else
          let data := locData n a gb s
          let x1 := digestOp a gb data x
          if x.shadow then doneWith n e x1 s
          else match freeFtt s with
            | none => waitWith n 3 e x s
            | some id =>
              if fttRoom n x (some (if type = 3 then 2 ^ 16 + a.group else a.dst)) s then
                issueOp (mkOp id n x a w gb data s) (doneWith n e { x1 with bound := true, sentFab := x1.sentFab || decide (type ≠ 0) } s)
              else waitWith n 3 e x s) s

/-- RGET. -/
def execRget (n : Nat) (s : State) : Host.Outcome State Fault Refusal := goesOn s (fabInstr 0x30 0 n 0 s)

/-- RPUT. -/
def execRput (n : Nat) (s : State) : Host.Outcome State Fault Refusal := goesOn s (fabInstr 0x31 1 n 3 s)

/-- RRED. -/
def execRred (n : Nat) (s : State) : Host.Outcome State Fault Refusal := goesOn s (fabInstr 0x32 2 n 3 s)

/-- RMCAST. -/
def execRmcast (n : Nat) (s : State) : Host.Outcome State Fault Refusal := goesOn s (fabInstr 0x33 3 n 3 s)

/-- The entry of a fence: it covers the operations of its group that the engine has issued (R308). -/
def mkFence (id n : Nat) (x : EngSet) (group : Nat) (s : State) : Ftt :=
  let l := (setOps n x s).filter (fun f => isOp f && !f.load && decide (f.group = group))
  ⟨id, n, x.ctx, x.part, false, x.tile, group, mkReq 0 0 0 0 0 0 0 0 0 0 [] s, 0, 0, some (l.map (fun f => f.id)), none, none⟩

/-- RFENCE (R308). -/
def execRfence (n : Nat) (s : State) : Host.Outcome State Fault Refusal :=
  goesOn s (engineRun (fun o => decide (o = 0x34)) n 3 (fun x w s =>
    if x.fabMax = 0 ∨ x.radio.isSome then tileFault n 1 s
    else if x.shadow then doneWith n 3 x s
    else match freeFtt s with
      | none => waitWith n 3 3 x s
      | some id =>
        if fttRoom n x none s then showFtt (let s1 := doneWith n 3 { x with bound := true } s
                                            { s1 with ftt := s1.ftt ++ [mkFence id n x (insMode w % 8) s] })
        else waitWith n 3 3 x s) s)

/-- RWAIT g (R229): waits until group g has no operation outstanding. -/
def execRwait (n : Nat) (e : Fin 4) (s : State) : Host.Outcome State Fault Refusal :=
  goesOn s (engineRun (fun o => decide (o = 0x35)) n e (fun x w s =>
    if x.fabMax = 0 ∨ x.radio.isSome then tileFault n 1 s
    else if (setOps n x s).any (fun f => decide (f.group = insMode w % 8)) then waitWith n 3 e x s else doneWith n e x s) s)

/-- FENCE_COMPLETE (R308, R309): every operation a fence covers has ended. -/
def execFenceComplete (id : Nat) (s : State) : Host.Outcome State Fault Refusal :=
  goesOn s (match s.ftt.find? (fun f => decide (f.id = id) && decide (f.fence = some [])) with
    | none => s
    | some f => freeEntry f s)

/-! ### Responses (R296, R297, R309) -/

/-- A response on port p for this device, or for one of its gather entries. -/
def isRsp (p : Nat) (s : State) (k : FabPkt) : Bool := !isReq k && (decide (k.dst = ownId s) || (gatherFor p k s).isSome)

/-- The outstanding entry that a response matches. -/
def opFor (p : Nat) (k : FabPkt) (s : State) : Option Ftt :=
  s.ftt.find? (fun f => isOp f && decide (f.req.txid = k.txid) && f.sent.isSome &&
    (if f.req.type = 3 then decide (p = 16) && decide (k.type = 9) && decide (k.group = f.req.group) && decide (k.src = ownId s)
     else decide (k.src = f.dest) && decide (k.type = if f.req.type = 0 then 8 else 9) && decide (k.group = 0)))

/-- The cause and item status of a STATUS (R293, R316). -/
def rspCause (st : Nat) : Nat × Nat := match st with
  | 2 => (3, stPOISONED)
  | 3 => (4, stFENCED)
  | _ => (2, stITEM_FAILED)

/-- The reason of R298 that an entry of cause 2 gives: a response carries none, so it is a free value. -/
def failReason (cause : Nat) (s : State) : Nat × State := if cause = 2 then drawFree 3 s else (0, s)

/-- An operation that was refused ends FAILED. -/
def refuseOp (f : Ftt) (st : Nat) (s : State) : State :=
  let r := failReason (rspCause st).1 s
  failOp f (rspCause st).1 (rspCause st).2 r.1 r.2

/-- The lines of an RGET's data that the response marks poisoned keep their marks (R269, R297). -/
def markPoison (a bits n : Nat) (s : State) : State :=
  (List.range n).foldl (fun s j => if bitAt j bits then (match storeAddr (a + 64 * j) s with
    | none => s
    | some m => markLine m true s) else s) s

/-- The data of an RGET arrive: whole lines at its destination, which must still be the partition's (R240, R270). -/
def landData (f : Ftt) (k : FabPkt) (s : State) : State :=
  let a := f.arg
  if !rangeOk f.part true a f.req.len s then refuseOp f 1 s
  else
    let w := urWrite a (padTo f.req.len k.data) s
    let s1 := markPoison a k.poison (f.req.len / 64) w.1
    if w.2 ∨ k.status ≠ 0 then refuseOp f 2 s1 else freeEntry f s1

/-- A response ends the operation that it matches. -/
def endOp (f : Ftt) (k : FabPkt) (s : State) : State :=
  if f.req.type = 0 then (if k.status = 0 ∨ (k.status = 2 ∧ !k.data.isEmpty) then landData f k s else refuseOp f k.status s)
  else if f.req.type = 3 then
    if k.status = 0 ∧ k.members = f.arg ∧ 0 < f.arg then freeEntry f s
    else failOp f 6 (if k.status = 2 then stPOISONED else if k.status = 3 then stFENCED else stITEM_FAILED) 0 s
  else if k.status = 0 then freeEntry f s
  else refuseOp f k.status s

/-- An ACK of a copy enters its gather entry (R296). -/
def gatherAck (g : Gather) (p : Nat) (k : FabPkt) (s : State) : State :=
  { s with gathers := s.gathers.map (fun x => if x.id = g.id then { x with wait := x.wait.filter (fun q => decide (q ≠ p)), status := max x.status k.status, count := x.count + k.members } else x) }

/-- The destination of an RGET takes stores now. -/
def landable (f : Ftt) (s : State) : Bool := decide (f.req.type ≠ 0) || storable f.arg f.req.len s

/-- FABRIC_RESPONSE_RECEIVE (R309): the first response of port p's arrivals ends its operation, enters its gather entry, or
matches nothing and is counted. -/
def execFabricResponseReceive (p : Fin 17) (s : State) : Host.Outcome State Fault Refusal :=
  goesOn s (match headIn (isRsp p s) p s with
    | none => s
    | some (i, _, k) => match gatherFor p k s with
      | some g => gatherAck g p k (takeIn p i s)
      | none => match opFor p k s with
        | none => tally 14 HJF_T_DUPACK_COUNT 1 (takeIn p i s)
        | some f => if landable f s then endOp f k (takeIn p i s) else s)

/-! ### Timeouts and epochs (R310, R315) -/

/-- A response of an operation has arrived. -/
def rspArrived (f : Ftt) (s : State) : Bool :=
  (List.range 17).any (fun p => (hpOf p s).inq.any (fun j => !isReq j.2 && decide (j.2.txid = f.req.txid) && decide (j.2.dst = ownId s) &&
    (decide (j.2.src = f.dest) || decide (f.req.type = 3))))

/-- FABRIC_TIMEOUT (R315): an operation that has not ended TIMEOUT µs after it was first sent ends FAILED; a response of the
same tick wins. -/
def execFabricTimeout (id : Nat) (s : State) : Host.Outcome State Fault Refusal :=
  goesOn s (match s.ftt.find? (fun f => decide (f.id = id) && isOp f) with
    | none => s
    | some f => match f.sent with
      | none => s
      | some t =>
        if t + getF HJF_ORD_TIMEOUT s * 1000 * 1536 ≤ s.now ∧ !rspArrived f s then
          hjfOevent HJF_OSTAT_TIMEOUT (tally 14 HJF_T_TIMEOUT_COUNT 1 (failOp f 1 stITEM_FAILED 0 s))
        else s)

/-- The port an operation was last sent on no longer carries it. -/
def pathChanged (f : Ftt) (s : State) : Bool :=
  match f.port with
  | none => decide (f.dest ≠ ownId s) && f.sent.isSome && decide (f.req.type ≠ 3)
  | some p => !portUp p s || decide (p ∉ rtPaths (routeOf f.dest s)) || !rtValid (routeOf f.dest s)

/-- Puts an entry into a list by its Transaction ID. -/
def insertTxid (f : Ftt) : List Ftt → List Ftt
  | [] => [f]
  | g :: r => if serialLt 32 f.req.txid g.req.txid then f :: g :: r else g :: insertTxid f r

/-- PATH_EPOCH_ADVANCE (R310): the path of a destination has changed: its epoch advances, and the operations last sent on a
path that changed are issued again in ascending Transaction ID. -/
def execPathEpochAdvance (dst : Nat) (s : State) : Host.Outcome State Fault Refusal :=
  goesOn s (if dst ∉ s.epochPend then s
    else
      let s1 := { s with epochPend := s.epochPend.filter (fun d => decide (d ≠ dst)), epochs := put dst (some ((look 0 dst s.epochs + 1) % 256)) s.epochs }
      let l := (s1.ftt.filter (fun f => isOp f && decide (f.dest = dst) && decide (f.req.type ≠ 3) && !unsent f && pathChanged f s1)).foldr insertTxid []
      l.foldl (fun s f => routeOut { f.req with epoch := look 0 dst s.epochs } (tally 14 HJF_T_REISSUE_COUNT 1 s)) s1)

end Sys2Proof.Machine
end

