-- ==== Sys2Proof/Machine/Sched.lean ====
section
/-! DEFINITION. Leases, saves, block yields, spills, swaps and the context commands (R78 to R80, R210, R325 to R339, R350,
R351, R356, R459). -/

namespace Sys2Proof.Machine

/-! ### Saving (R80, R210, R233) -/

/-- The set of core n leaves the core for its context's save area: passes whose stream has ended complete, and the core
saves. -/
def saveLease (n : Nat) (s : State) : State :=
  let s1 := completeDrain n s
  let s2 := match engAt n s1 with
    | none => s1
    | some x => modCtx x.ctx (fun c => { c with saved := put n (some (stopSet x)) c.saved }) (dropEng n s1)
  setF (MXC_Cn_INFO_CTX n) 0 (setF (MXC_Cn_INFO_STATE n) 3 { s2 with leases := s2.leases.map (fun l => if l.core = n then { l with saving := true } else l) })

/-- The time that AIR_DEFAULT_TD shows, which block times and records carry. -/
def defaultTime (s : State) : Nat := counter (eventTd s) s

/-- Operations of context c that are outstanding. -/
def ctxOps (c : Nat) (s : State) : List Ftt := s.ftt.filter (fun f => decide (f.ctx = c) && decide (f.core ≠ 0xFFFE))

/-- The context of the last Lease that has been saved: SUSPENDED, BLOCKED or RUNNABLE (R335, R338, R339). -/
def leftCores (c : Nat) (x : Ctx) (s : State) : State :=
  if !x.suspend.isEmpty then
    x.suspend.foldl (fun s id => finishId id stOK 0 s) (putCtx c (some { x with st := 3, sub := 4, suspend := [], yielding := false, blockAt := defaultTime s }) s)
  else if x.yielding ∧ !(ctxOps c s).isEmpty then putCtx c (some { x with sub := 3, yielding := false, blockAt := defaultTime s }) s
  else putCtx c (some { x with sub := 1, yielding := false, readyAt := s.now }) s

/-- The Lease of core n is over. -/
def dropLease (n : Nat) (l : Lease) (s : State) : State :=
  let s1 := setF (MXC_Cn_INFO_CTX n) 0 (setF (MXC_Cn_INFO_STATE n) 0 (countLease l (setLease n none s)))
  let s2 := match ctxOf l.ctx s1 with
    | none => s1
    | some x => if x.sub = 2 ∧ (leaseCores l.ctx s1).isEmpty then leftCores l.ctx x s1 else s1
  quiesceDone s2

/-- CONTEXT_SAVE_DONE (R80): the save of core n's context completes. -/
def execContextSaveDone (n : Nat) (s : State) : Host.Outcome State Fault Refusal :=
  goesOn s (match leaseOf n s with
    | none => s
    | some l => if l.saving then dropLease n l s else s)

/-- The Lease of core n has no more to do: its passes are used and none runs, or its STEP has no tile left for the core. -/
def leaseSpent (n : Nat) (l : Lease) (s : State) : Bool :=
  match engAt n s with
  | some x => decide (l.passes = 0) && x.run.isNone
  | none => !s.spills.any (fun x => decide (x.1 = n)) && (match freeLease n s with
    | none => true
    | some (cn, c, st) => cascades st s || ((nextTile n cn c st s).isNone && !st.again.any (fun a => a.retry && againOn n c.part a s)))

/-- LEASE_END (R210): a Lease ends on plan, and its state is saved. -/
def execLeaseEnd (n : Nat) (s : State) : Host.Outcome State Fault Refusal :=
  goesOn s (match leaseOf n s with
    | none => s
    | some l => if !l.saving ∧ leaseSpent n l s then saveLease n s else s)

/-- A Lease that has not begun is returned unstarted: a set that was to resume goes back to its save area (R79). -/
def returnLease (n : Nat) (l : Lease) (s : State) : State :=
  let s1 := match engAt n s with
    | none => s
    | some x => putEng n none (modCtx x.ctx (fun c => { c with saved := put n (some x) c.saved }) s)
  dropLease n l { s1 with spills := s1.spills.filter (fun x => !(decide (x.1 = n) && x.2.2.1)) }

/-- FORCED_PREEMPTION (R79): the next window of core n is at most 4,916 Tc away: a running Lease stops, abandoning the pass
in progress, and one not yet begun is returned. -/
def execForcedPreemption (n : Nat) (s : State) : Host.Outcome State Fault Refusal :=
  goesOn s (match leaseOf n s with
    | none => s
    | some l =>
      if !windowWithin n 4916 s ∨ l.saving then s
      else if nowNs s ≤ l.start then returnLease n l s
      else match engAt n s with
        | none => saveLease n s
        | some x => saveLease n (if x.run.isSome then tally 2 ESC_T_PREEMPT_COUNT 1 (countAbandon n x s) else s))

/-- CTX_SUSPEND_STOP (R339): a context to be suspended has ended its running passes, and stops on every core. -/
def execCtxSuspendStop (c : Nat) (s : State) : Host.Outcome State Fault Refusal :=
  goesOn s (match ctxOf c s with
    | none => s
    | some x =>
      let cores := (s.leases.filter (fun l => decide (l.ctx = c) && !l.saving)).map (fun l => l.core)
      if x.suspend.isEmpty ∨ cores.any (fun n => (engAt n s).any (fun y => y.run.isSome)) then s
      else cores.foldl (fun s n => saveLease n s) s)

/-- The opcodes in which a block yield may find an engine (R335): a fabric instruction waits there for a table entry. -/
def yieldOps : List Nat := [0x20, 0x21, 0x48, 0x40, 0x35, 0x2A, 0x30, 0x31, 0x32, 0x33, 0x34]

/-- On core n nothing runs but waits, for BLOCK cycles. -/
def yieldWaits (n : Nat) (s : State) : Bool :=
  (engAt n s).all (fun x => x.run.isNone && x.xacts.isEmpty && allWait yieldOps x s && decide (x.act + getF SCHED_CTRL_BLOCK s * 1536 ≤ s.now))

/-- BLOCK_YIELD (R335): context c waits for the fabric on every core of its Lease, and stops. -/
def execBlockYield (c : Nat) (s : State) : Host.Outcome State Fault Refusal :=
  goesOn s (let ls := s.leases.filter (fun l => decide (l.ctx = c))
    if ls.isEmpty ∨ ls.any (fun l => l.saving) ∨ (ctxOps c s).isEmpty ∨ !ls.all (fun l => yieldWaits l.core s) ∨
        !ls.any (fun l => (engAt l.core s).any anyRuns) then s
    else tally 15 SCHED_T_BLOCK_COUNT 1 (ls.foldl (fun s l => saveLease l.core s) (modCtx c (fun x => { x with yielding := true }) s)))

/-! ### Granting (R78, R332 to R334, R356, R459) -/

/-- The cores a STEP may hold at once. -/
def coreLimit (x : Ctx) (st : Step) (s : State) : Nat := if st.maxCores = 0 then (partCores x.part s).length else st.maxCores

/-- Context c has work for core n: a saved set that goes on there, a tile to run again, or the next tile of its STEP. -/
def workFor (n c : Nat) (x : Ctx) (st : Step) (s : State) : Bool :=
  (lookup n x.saved).isSome || (!cascades st s && ((nextTile n c x st s).isSome || st.again.any (fun a => a.retry && againOn n x.part a s)))

/-- The Teller may grant core n to context c (R332). -/
def eligible (n p c : Nat) (x : Ctx) (s : State) : Bool :=
  match x.queue with
  | [] => false
  | st :: _ => decide (x.part = p) && x.resident && x.suspend.isEmpty && !x.yielding && st.started &&
      (decide (x.sub = 1) || (decide (x.sub = 2) && decide ((leaseCores c s).length < coreLimit x st s))) && workFor n c x st s

/-- One context comes before another for core n: by priority, by a bound tile on the core, by the time it became
RUNNABLE. -/
def beats (n : Nat) (a b : Nat × Ctx) : Bool :=
  let bound (c : Ctx) : Bool := (lookup n c.saved).any (fun x => x.bound)
  if a.2.prio ≠ b.2.prio then decide (b.2.prio < a.2.prio)
  else if bound a.2 ≠ bound b.2 then bound a.2
  else decide (a.2.readyAt < b.2.readyAt)

/-- The context that the Teller chooses for core n of partition p. -/
def chooseCtx (n p : Nat) (s : State) : Option (Nat × Ctx) :=
  match s.ctxs.filter (fun c => eligible n p c.1 c.2 s) with
  | [] => none
  | a :: r => some (r.foldl (fun a b => if beats n b a then b else a) a)

/-- The start of core n's next window in core cycles, or 1,000,000 cycles after the Lease's start (R78, R459). -/
def nextStart (n ls : Nat) (s : State) : Nat :=
  match nextWindow n s with
  | none => ls + 1000000
  | some w => min (ls + 1000000) (nowNs s + tcToNs (w.start - counter w.td s))

/-- Passes of a Lease (R78). -/
def leasePasses (n ls p : Nat) (s : State) : Nat :=
  let next := nextStart n ls s
  (next - 2500 - ls - ceilDiv (next - ls) 10000) * getF PWR_TSTAT_IN_FORCE s / (100 * p)

/-- The pass length that a STEP declares. -/
def stepPass (x : Ctx) (st : Step) (s : State) : Nat := leNat (urRead (runImage x st st.allFb + 8) 4 s)

/-- The STEP area of core n belongs to another partition (R333). -/
def otherPart (n p : Nat) (s : State) : Bool := (lookup n s.lastCtx).any (fun v => decide (v / 65536 ≠ p + 1))

/-- What another context has saved on core n before context c takes it: a bound tile's Core Scratch goes to the swap area,
and another tile will restart (R334). -/
def displaceOne (n : Nat) (s : State) (c : Nat × Ctx) : State :=
  match lookup n c.2.saved with
  | none => s
  | some x =>
    if !x.bound then
      tally 15 SCHED_T_RESTART_COUNT 1 (modStep c.1 (fun st => { st with again := st.again ++ [⟨x.tile, none, x.fb, x.shadow, x.retry⟩], restarts := st.restarts + 1 })
        (modCtx c.1 (fun y => { y with saved := put n none y.saved }) s))
    else if x.spilled then s
    else
      let s1 := modCtx c.1 (fun y => { y with saved := put n (some { x with spilled := true }) y.saved }) s
      { s1 with scratchOf := writeBytes (c.1 * 2 ^ 32 + n * 2 ^ 21) (csRead n 0 x.scratch s) s1.scratchOf, spills := s1.spills ++ [(n, c.1, false, s.now)] }

/-- Every other context's state on core n gives way. -/
def displace (n c : Nat) (s : State) : State := (s.ctxs.filter (fun x => decide (x.1 ≠ c))).foldl (displaceOne n) s

/-- A set goes on on core n. -/
def resume (n c : Nat) (x : EngSet) (s : State) : State :=
  putEng n (some { x with act := s.now, spilled := false }) (modCtx c (fun y => { y with saved := put n none y.saved }) s)

/-- What context c has saved on core n goes on, after its Core Scratch has been restored where it was spilled. -/
def takeUp (n c : Nat) (s : State) : State :=
  match (ctxOf c s).bind (fun x => lookup n x.saved) with
  | none => s
  | some x => if x.spilled then { s with spills := s.spills ++ [(n, c, true, s.now)] } else resume n c x s

/-- A Lease of core n is granted to context c. -/
def grant (n p c ls passes len : Nat) (s : State) : State :=
  let s1 := displace n c s
  let s2 := if otherPart n p s then fillStep n s1 else s1
  let s3 := { s2 with leases := s2.leases ++ [⟨n, c, nowNs s, ls, passes, len, false⟩], lastCtx := put n (some (c + 65536 * (p + 1))) s2.lastCtx }
  let s4 := modCtx c (fun x => { x with sub := 2 }) (setF (MXC_Cn_INFO_CTX n) c (setF (MXC_Cn_INFO_STATE n) 2 s3))
  takeUp n c (modStep c (fun st => { st with maxHeld := max st.maxHeld (leaseCores c s4).length }) s4)

/-- Core n may be lent: it is in service and idle, no retirement waits for it, the device is READY, and the gap is not withheld
for an overdue Assay (R377). -/
def lendable (n : Nat) (s : State) : Bool :=
  coreInService n s && !coreSuspect n s && (lookup n s.mcRetiring).isNone && decide (getF (MXC_Cn_INFO_STATE n) s = 0) && (leaseOf n s).isNone &&
    !windowOpen n s && !s.quiesced && issues s && !flagF (MXC_Cn_INFO_CLOVER n) s && !(assayOverdue n s && gapHolds n s)

/-- LEASE_GRANT (R78, R332): the Teller grants core n to the context its partition's keys choose; the first pass begins lead
cycles from now, after the 896 cycles of a fill (R333). -/
def execLeaseGrant (n lead : Nat) (s : State) : Host.Outcome State Fault Refusal :=
  goesOn s (if !lendable n s then s
    else match eightParts.find? (fun p => partHolds p n s) with
      | none => s
      | some p => match chooseCtx n p s with
        | none => s
        | some (c, x) => match x.queue with
          | [] => s
          | st :: _ =>
            let ls := nowNs s + lead
            let len := stepPass x st s
            let k := if len = 0 then 0 else leasePasses n ls len s
            if k = 0 ∨ (otherPart n p s ∧ lead < 896) then s else grant n p c ls k len s)

/-- Counts bytes spilled or restored in MiB. -/
def countSpill (b : Nat) (s : State) : State :=
  let k := tallyKey 15 SCHED_T_SPILL_COUNT
  let x := look 0 k s.tallyRem + b
  tally 15 SCHED_T_SPILL_COUNT (x / 2 ^ 20) { s with tallyRem := put k (if x % 2 ^ 20 = 0 then none else some (x % 2 ^ 20)) s.tallyRem }

/-- The SCRATCH bytes of the set that context c has saved on core n. -/
def savedScratch (n c : Nat) (s : State) : Nat := (((ctxOf c s).bind (fun x => lookup n x.saved)).map (fun x => x.scratch)).getD 0

/-- SPILL_DONE (R334): the spill of core n completes. -/
def execSpillDone (n : Nat) (s : State) : Host.Outcome State Fault Refusal :=
  goesOn s (match s.spills.find? (fun x => decide (x.1 = n) && !x.2.2.1) with
    | none => s
    | some x => countSpill (savedScratch n x.2.1 s) { s with spills := s.spills.filter (fun y => decide (y ≠ x)) })

/-- RESTORE_DONE (R334): the restore of a bound tile's Core Scratch completes, and the tile resumes. -/
def execRestoreDone (n : Nat) (s : State) : Host.Outcome State Fault Refusal :=
  goesOn s (match s.spills.find? (fun x => decide (x.1 = n) && x.2.2.1) with
    | none => s
    | some x =>
      if s.spills.any (fun y => decide (y.1 = n) && !y.2.2.1) then s
      else match (ctxOf x.2.1 s).bind (fun c => lookup n c.saved) with
        | none => { s with spills := s.spills.filter (fun y => decide (y ≠ x)) }
        | some e =>
          let s1 := countSpill e.scratch { s with spills := s.spills.filter (fun y => decide (y ≠ x)) }
          resume n x.2.1 e (csWrite n 0 (readBytes s.scratchOf (x.2.1 * 2 ^ 32 + n * 2 ^ 21) e.scratch) s1))

/-! ### Residency (R326, R337) -/

/-- Resident places of partition p in use; an incoming swap holds one. -/
def placesUsed (p : Nat) (s : State) : Nat :=
  ((ctxsOf p s).filter (fun c => c.2.resident)).length + (s.swaps.filter (fun w => decide (w.part = p))).length

/-- A place of partition p is free. -/
def placeFree (p : Nat) (s : State) : Bool := decide (placesUsed p s < getF (SCHED_Pp_INFO_NRES p) s)

/-- The swapped RUNNABLE context that comes in: the highest PRIO, then the one RUNNABLE longest, then the lowest number. -/
def swapInChoice (p : Nat) (s : State) : Option Nat :=
  match (ctxsOf p s).filter (fun c => !c.2.resident && decide (c.2.sub = 1)) with
  | [] => none
  | a :: r => some (r.foldl (fun a b => if a.2.prio < b.2.prio ∨ (a.2.prio = b.2.prio ∧ b.2.readyAt < a.2.readyAt) then b else a) a).1

/-- The resident of a substate with the oldest block time. -/
def oldestBlock (p sub : Nat) (s : State) : Option Nat :=
  match (ctxsOf p s).filter (fun c => c.2.resident && decide (c.2.sub = sub)) with
  | [] => none
  | a :: r => some (r.foldl (fun a b => if b.2.blockAt < a.2.blockAt then b else a) a).1

/-- SWAP_START (R337): a swapped RUNNABLE context comes in to a free place, or in place of a SUSPENDED or BLOCKED resident
when no resident can run. -/
def execSwapStart (p : Fin 8) (s : State) : Host.Outcome State Fault Refusal :=
  goesOn s (if s.swaps.any (fun w => decide (w.part = p.val)) then s
    else match swapInChoice p s with
      | none => s
      | some c =>
        if placeFree p s then { s with swaps := s.swaps ++ [⟨p, none, c, s.now⟩] }
        else if (ctxsOf p s).any (fun x => x.2.resident && (decide (x.2.sub = 1) || decide (x.2.sub = 2))) then s
        else match (oldestBlock p 4 s).or (oldestBlock p 3 s) with
          | none => s
          | some o => modCtx o (fun x => { x with resident := false }) { s with swaps := s.swaps ++ [⟨p, some o, c, s.now⟩] })

/-- SWAP_END (R337): the copies finish and the incoming context is resident. -/
def execSwapEnd (p : Fin 8) (s : State) : Host.Outcome State Fault Refusal :=
  goesOn s (match s.swaps.find? (fun w => decide (w.part = p.val)) with
    | none => s
    | some w =>
      let s1 := { s with swaps := s.swaps.filter (fun v => decide (v.part ≠ p.val)) }
      let s2 := if w.out.isSome then tally 15 SCHED_T_SWAP_COUNT 1 s1 else s1
      modCtx w.inn (fun x => if x.st = 1 then x else { x with resident := true }) s2)

/-! ### STEP images (R235, R350, R351) -/

/-- A range lies in one object of a partition. -/
def inObject (part a len : Nat) (s : State) : Bool :=
  rangeOk part false a len s && (match lookup (entObj (bent (a / 2 ^ 21) s)) s.objs with
    | none => false
    | some o => decide (o.block * 2 ^ 21 ≤ a) && decide (a + len ≤ o.block * 2 ^ 21 + o.len * 4096))

/-- The primary table of a header, and variant i. -/
def primaryTab (h : List Byte) : TileTab := ⟨fieldLE h 36 2, fieldLE h 38 2, fieldLE h 12 4, fieldLE h 16 4, fieldLE h 40 4⟩
def variantTab (image : Nat) (h : List Byte) (i : Nat) (s : State) : TileTab :=
  let l := urRead (image + fieldLE h 48 4 + 16 * i) 16 s
  ⟨fieldLE l 0 2, fieldLE l 2 2, fieldLE l 4 4, fieldLE l 8 4, fieldLE l 12 4⟩

/-- The tables of an image. -/
def imageTabs (image : Nat) (s : State) : List TileTab :=
  let h := urRead image 64 s
  primaryTab h :: (List.range (min 3 (fieldLE h 44 1))).map (fun i => variantTab image h i s)

/-- The limits of R235 on a header. -/
def headerOk (h : List Byte) : Bool :=
  decide (fieldLE h 0 4 = 0x50455453) && decide (fieldLE h 4 2 = 1) && decide (257 ≤ fieldLE h 8 4) && decide (fieldLE h 8 4 ≤ 2048) &&
    decide (fieldLE h 24 4 ≤ 16777216) && decide (fieldLE h 28 4 ≤ 1835008) && decide (fieldLE h 32 2 ≤ 128) && decide (fieldLE h 44 1 ≤ 3)

/-- The stage table of a tile table. -/
def stages (image : Nat) (t : TileTab) (s : State) : List Nat := (List.range t.nStages).map (fun k => leNat (urRead (image + t.stageTab + 4 * k) 4 s))

/-- Numbers that rise strictly. -/
def risingNat : List Nat → Bool
  | a :: b :: r => decide (a < b) && risingNat (b :: r)
  | _ => true

/-- The limits of R350 on a table, and its place in the image's object. -/
def tableOk (part image : Nat) (t : TileTab) (s : State) : Bool :=
  decide (1 ≤ t.splitW) && decide (t.splitW ≤ 1024) && decide (1 ≤ t.nStages) && decide (t.nStages ≤ 256) && decide (1 ≤ t.nTiles) && decide (t.nTiles ≤ 1048576) &&
    inObject part image (t.tileTab + 32 * t.nTiles) s && inObject part image (t.stageTab + 4 * t.nStages) s &&
    (let l := stages image t s
     risingNat l && decide (l.headD 1 = 0) && l.all (fun x => decide (x < t.nTiles)))

/-- Puts a run of items into a list by its first item. -/
def insertRun (x : Nat × Nat) : List (Nat × Nat) → List (Nat × Nat)
  | [] => [x]
  | y :: r => if x.1 ≤ y.1 then x :: y :: r else y :: insertRun x r

/-- Joins runs of items that follow one another. -/
def joinRuns : List (Nat × Nat) → List (Nat × Nat)
  | [] => []
  | x :: r => match joinRuns r with
    | [] => [x]
    | y :: q => if x.1 + x.2 = y.1 then (x.1, x.2 + y.2) :: q else x :: y :: q

/-- The items that a table names, as runs in ascending order. -/
def itemRuns (image : Nat) (t : TileTab) (s : State) : List (Nat × Nat) :=
  joinRuns ((((List.range t.nTiles).map (fun j => tileItems image t j s)).filter (fun x => decide (0 < x.2))).foldr insertRun [])

/-- No item is named twice. -/
def disjointRuns : List (Nat × Nat) → Bool
  | a :: b :: r => decide (a.1 + a.2 ≤ b.1) && disjointRuns (b :: r)
  | _ => true

/-- The image passes R235 and R350. -/
def imageOk (part image : Nat) (s : State) : Bool :=
  decide (image + 64 ≤ 2 ^ 43) && inObject part image 64 s &&
    (let h := urRead image 64 s
     let ts := imageTabs image s
     headerOk h && inObject part image (fieldLE h 20 4 + fieldLE h 24 4) s && (decide (fieldLE h 44 1 = 0) || inObject part image (fieldLE h 48 4 + 16 * fieldLE h 44 1) s) &&
       ts.all (fun t => tableOk part image t s) && decide ((ts.map (fun t => t.splitW)).Nodup) &&
       (let runs := ts.map (fun t => itemRuns image t s)
        runs.all disjointRuns && runs.all (fun r => decide (some r = runs.head?))))

/-- The table of an image with a split width. -/
def tabOf (image w : Nat) (s : State) : Option TileTab := (imageTabs image s).find? (fun t => decide (t.splitW = w))

/-- The table that SPLIT selects (R351). -/
def selectTab (image split : Nat) (s : State) : Option TileTab :=
  if split = 0 then (tabOf image (getF DEV_IDENT_GRADE s) s).or (imageTabs image s).head? else tabOf image split s

/-- The fallback table of a STEP matches its selected table tile by tile (R331, R351). -/
def fallbackTab (part fb image : Nat) (t : TileTab) (s : State) : Option TileTab :=
  if !imageOk part fb s then none
  else (tabOf fb t.splitW s).filter (fun u => decide (u.nTiles = t.nTiles) && (List.range t.nTiles).all (fun j => decide (tileItems fb u j s = tileItems image t j s)))

/-! ### Context commands (R327 to R329, R339) -/

/-- The context that a command names. -/
def pCtx (p : Pkt) : Nat := pf p 0 4

/-- The context number is one of the header's partition (R328). -/
def parCtx : Check := fun p s => if (ctxOf (pCtx p) s).any (fun c => decide (c.part = p.part)) then none else some (badParam 32 0)

/-- The context is in one of the states given. -/
def stCtx (ok : Nat → Bool) : Check := fun p s =>
  match ctxOf (pCtx p) s with
  | none => some (stSTATE_CONFLICT, conflictDetail 4 (pCtx p) 0)
  | some c => if ok c.st then none else some (stSTATE_CONFLICT, conflictDetail 4 (pCtx p) c.st)

/-- The payload check of CTX_CREATE. -/
def parCtxCreate : Check := fun p s => if pf p 8 8 ≠ 0 ∧ !imageOk p.part (pf p 8 8) s then some (badParam 40 0) else none

/-- The context numbers that accepted CTX_CREATE packets other than packet id have reserved (R100). -/
def ctxHeld (id : Nat) (s : State) : List CtxResv :=
  s.ctxResv.filter (fun r => decide (r.id ≠ id) && s.accepted.any (fun q => decide (q.id = r.id)))

/-- The partition and the device have room for a context (R327). -/
def resCtxCreate : Check := fun p s =>
  let held := ctxHeld p.id s
  if ((lookup p.part s.parts).map (fun q => q.maxCtx)).getD 0 ≤ (ctxsOf p.part s).length + (held.filter (fun r => decide (r.part = p.part))).length ∨
      4095 ≤ s.ctxs.length + held.length then some (stBUSY, 3)
  else none

/-- The checks of CTX_CREATE. -/
def chkCtxCreate : Check := checks [parCtxCreate, stPartOpen, secBusy, resCtxCreate]

/-- The lowest context number that no context has and no other accepted packet has reserved. -/
def freeCtx (id : Nat) (s : State) : Nat :=
  ((List.range (s.ctxs.length + s.ctxResv.length + 1)).map (fun i => i + 1)).find? (fun c => (ctxOf c s).isNone && !(ctxHeld id s).any (fun r => decide (r.num = c))) |>.getD 4096

/-- The number of a new context: the one its acceptance reserved, else the lowest free one (R98, R100). -/
def newCtxNo (p : Pkt) (s : State) : Nat :=
  match s.ctxResv.find? (fun r => decide (r.id = p.id)) with
  | some r => if (ctxOf r.num s).isNone then r.num else freeCtx p.id s
  | none => freeCtx p.id s

/-- An accepted CTX_CREATE reserves its number until its effect; numbers of packets that have ended are given up (R100). -/
def reserveCtx (p : Pkt) (s : State) : State := { s with ctxResv := ctxHeld p.id s ++ [⟨p.id, freeCtx p.id s, p.part⟩] }

/-- A new context (R327). -/
def newCtx (p : Pkt) : Ctx := ⟨p.part, pf p 0 1 % 8, pf p 8 8, 1, 0, false, [], 0, 0, 0, 0, false, 0, [], false, []⟩

/-- CTX_CREATE (R327): DETAIL gives the new number. -/
def execCtxCreate (p : Pkt) (s : State) : Host.Outcome State Fault Refusal :=
  goesOn s (runCmd chkCtxCreate (fun p s => (putCtx (newCtxNo p s) (some (newCtx p)) s, stOK, newCtxNo p s)) p s)

/-- The checks of CTX_SEED. -/
def chkCtxSeed : Check := checks [parCtx, stCtx (fun st => decide (st = 1))]

/-- CTX_SEED (R328). -/
def execCtxSeed (p : Pkt) (s : State) : Host.Outcome State Fault Refusal :=
  goesOn s (runCmd chkCtxSeed (fun p s => (modCtx (pCtx p) (fun c => { c with counter := pf p 4 8, seed := pf p 12 16 }) s, stOK, 0)) p s)

/-- The checks of CTX_SUSPEND. -/
def chkCtxSuspend : Check := checks [parCtx, stCtx (fun st => decide (st = 2))]

/-- The effect of CTX_SUSPEND: at once on a context without a Lease, else once its passes have ended (R339). -/
def effCtxSuspend (p : Pkt) (s : State) : State :=
  if (leaseCores (pCtx p) s).isEmpty then
    finish p stOK 0 (modCtx (pCtx p) (fun c => { c with st := 3, sub := 4, blockAt := defaultTime s }) s)
  else modCtx (pCtx p) (fun c => { c with suspend := c.suspend ++ [p.id] }) s

/-- CTX_SUSPEND. -/
def execCtxSuspend (p : Pkt) (s : State) : Host.Outcome State Fault Refusal := goesOn s (runCmdOpen chkCtxSuspend effCtxSuspend p s)

/-- The checks of CTX_RESUME. -/
def chkCtxResume : Check := checks [parCtx, stCtx (fun st => decide (st = 3))]

/-- CTX_RESUME: the context is RUNNABLE. -/
def execCtxResume (p : Pkt) (s : State) : Host.Outcome State Fault Refusal :=
  goesOn s (runCmd chkCtxResume (fun p s => (modCtx (pCtx p) (fun c => { c with st := 2, sub := 1, readyAt := s.now }) s, stOK, 0)) p s)

/-- The context record (R328). -/
def ctxRecord (c : Nat) (s : State) : List Byte :=
  match ctxOf c s with
  | none => []
  | some x =>
    let bound := x.saved.any (fun y => y.2.bound) || s.eng.any (fun y => decide (y.2.ctx = c) && y.2.bound)
    natLE 4 c ++ natLE 1 (x.st + x.sub * 16 + b2n x.resident * 128) ++ natLE 1 x.prio ++ natLE 1 x.part ++ natLE 1 x.queue.length ++ natLE 8 x.counter ++
      natLE 8 x.blockAt ++ natLE 2 (ctxOps c s).length ++ natLE 1 (b2n x.faberr + 2 * b2n bound) ++ zeros 1 ++ natLE 4 x.firstFail ++ zeros 32

/-- The checks of CTX_QUERY. -/
def chkCtxQuery : Check := checks [parCtx]

/-- CTX_QUERY. -/
def execCtxQuery (p : Pkt) (s : State) : Host.Outcome State Fault Refusal :=
  goesOn s (runCmd chkCtxQuery (writeRecord (fun p => pf p 4 8) (fun p s => ctxRecord (pCtx p) s)) p s)

/-- The unfinished items of a STEP, as one end (R339, R366). -/
def destroyEnd (x : Ctx) (st : Step) (s : State) : TileEnd :=
  let l := ((List.range st.tab.nTiles).filter (fun j => !tileEnded st j)).map (fun j => tileItems st.image st.tab j s)
  ⟨0xFFFFFFFF, (l.map (fun y => y.1)).foldl min (2 ^ 32 - 1), (l.map (fun y => y.2)).sum, stITEM_FAILED, 0x80, 16 * b2n (detPart x.part s), 0xFFFFFFFF, 0, 0xFFFF, 0xFFFF, 0⟩

/-- A queued or started STEP of a context to be destroyed ends with its unfinished items FAILED. -/
def destroyStep (c : Nat) (x : Ctx) (s : State) (st : Step) : State :=
  let e := destroyEnd x st s
  completeStep c x st ((failedTiles st ++ (if e.count = 0 then [] else [e])).foldr insertEnd []) (totalItems st.image st.tab s) s

/-- Removes context c: its STEPs end, its fabric operations' outcomes are discarded, and its regions are filled (R339). -/
def destroyCtx (c : Nat) (s : State) : State :=
  match ctxOf c s with
  | none => s
  | some x =>
    let s1 := x.queue.foldl (destroyStep c x) s
    let s2 := { s1 with ftt := s1.ftt.map (fun f => if f.ctx = c then { f with core := 0xFFFE } else f), scratchOf := fillZero (c * 2 ^ 32) (2 ^ 32) s1.scratchOf,
                        spills := s1.spills.filter (fun y => decide (y.2.1 ≠ c)) }
    putCtx c none s2

/-- The checks of CTX_DESTROY. -/
def chkCtxDestroy : Check := checks [parCtx, stCtx (fun st => decide (st = 1) || decide (st = 3))]

/-- CTX_DESTROY. -/
def execCtxDestroy (p : Pkt) (s : State) : Host.Outcome State Fault Refusal :=
  goesOn s (runCmd chkCtxDestroy (fun p s => (destroyCtx (pCtx p) s, stOK, 0)) p s)

/-! ### STEP_SUBMIT (R326, R329, R331, R351, R382) -/

/-- Fields of a STEP_SUBMIT. -/
def ssFlags (p : Pkt) : Nat := pf p 4 1
def ssImage (p : Pkt) : Nat := pf p 8 8
def ssMax (p : Pkt) : Nat := pf p 32 2
def ssSplit (p : Pkt) : Nat := pf p 34 2
def ssArgs (p : Pkt) : List Byte := p.payload.drop 64

/-- The fallback image that a STEP may use. -/
def ssFb (p : Pkt) (s : State) : Nat := if bitAt 1 (ssFlags p) then ((ctxOf (pCtx p) s).map (fun c => c.fbImage)).getD 0 else 0

/-- The payload check of STEP_SUBMIT, fields in ascending offset. -/
def parStep : Check := fun p s =>
  let cores := (partCores p.part s).length
  let tab := selectTab (ssImage p) (ssSplit p) s
  let image := imageOk p.part (ssImage p) s
  if bitAt 0 (ssFlags p) ∧ cores ≤ 1 then some (badParam 36 0)
  else if ssFb p s ≠ 0 ∧ image ∧ (tab.bind (fun t => fallbackTab p.part (ssFb p s) (ssImage p) t s)).isNone ∧ tab.isSome then some (badParam 36 0)
  else if !image then some (badParam 40 0)
  else if cores < ssMax p then some (badParam 64 cores)
  else if tab.isNone then some (badParam 66 (((imageTabs (ssImage p) s).headD ⟨0, 0, 0, 0, 0⟩).splitW))
  else if !(ssArgs p).isEmpty ∧ !rangeOk p.part true (pf p 40 8) (ssArgs p).length s then some (badParam 72 0)
  else none

/-- The device is READY and the partition OPEN (R104). -/
def stStep : Check := fun p s =>
  if s.quiesced then some (stSTATE_CONFLICT, conflictDetail 1 0 2) else stPartOpen p s

/-- The context's queue has room. -/
def resStep : Check := fun p s => if 64 ≤ ((ctxOf (pCtx p) s).map (fun c => c.queue.length)).getD 0 then some (stBUSY, 3) else none

/-- The checks of STEP_SUBMIT. -/
def chkStep : Check := checks [parCtx, parStep, stCtx (fun st => decide (st = 1) || decide (st = 2)), stStep, secBusy, resStep]

/-- The STEP that a packet submits. -/
def newStep (p : Pkt) (s : State) : Step :=
  let tab := (selectTab (ssImage p) (ssSplit p) s).getD ⟨0, 0, 0, 0, 0⟩
  ⟨p.id, p.seq, ssFlags p % 8, ssImage p, tab, if ssFb p s = 0 then none else fallbackTab p.part (ssFb p s) (ssImage p) tab s, pf p 16 8, pf p 24 8,
    coreLimitOf p s, pf p 40 8, ssArgs p, false, false, 0, [], [], 0, false, 0, 0, 0, 0, 0, []⟩
where
  /-- MAXCORES; 0 means all cores of the partition. -/
  coreLimitOf (p : Pkt) (s : State) : Nat := if ssMax p = 0 then (partCores p.part s).length else ssMax p

/-- The effect of STEP_SUBMIT: the STEP is queued, and an IDLE context becomes RUNNABLE, resident where a place is free. -/
def effStep (p : Pkt) (s : State) : State :=
  modCtx (pCtx p) (fun c => if c.st = 1 then { c with queue := [newStep p s], st := 2, sub := 1, readyAt := s.now, resident := placeFree c.part s }
    else { c with queue := c.queue ++ [newStep p s] }) s

/-- STEP_SUBMIT (R329). -/
def execStepSubmit (p : Pkt) (s : State) : Host.Outcome State Fault Refusal := goesOn s (runCmdOpen chkStep effStep p s)

/-! ### DEV_QUIESCE and DEV_RESUME (R104, R332) -/

/-- The device is READY, or QUIESCED. -/
def chkQuiesced (q : Bool) : Check := fun _ s =>
  if s.quiesced = q then none else some (stSTATE_CONFLICT, conflictDetail 1 0 (if s.quiesced then 2 else 1))

/-- DEV_QUIESCE: no Lease is granted any more; the final reply follows the last Lease. -/
def execDevQuiesce (p : Pkt) (s : State) : Host.Outcome State Fault Refusal :=
  goesOn s (runCmdOpen (chkQuiesced false) (fun p s => quiesceDone { s with quiesced := true, quiesce := s.quiesce ++ [p.id] }) p s)

/-- DEV_RESUME: Leases are granted again. -/
def execDevResume (p : Pkt) (s : State) : Host.Outcome State Fault Refusal :=
  goesOn s (runCmd (chkQuiesced true) (fun _ s => ({ s with quiesced := false }, stOK, 0)) p s)

end Sys2Proof.Machine
end

