-- ==== Sys2Proof/Machine/Faults.lean ====
section
/-! DEFINITION. Faults, spares and recovery: the Ledger rings, Assays, the watchdog, sparing of processors and of HBM4
channels, the reference monitor and the diagnostic commands (R364, R371 to R389). -/

namespace Sys2Proof.Machine

/-! ### The Ledger rings (R364) -/

/-- Entries of function f's ring. -/
def ledgerRing (f : Nat) (s : State) : Nat := 2 ^ (getF (FLT_LGf_CFG_SIZE f) s + 10)

/-- Entries of the ring that the host has not consumed. -/
def ledgerUnread (f : Nat) (s : State) : Nat := (getF (FLT_LGf_TAIL_TAIL f) s + 2 ^ 32 - getF (FLT_LGf_HEAD_HEAD f) s) % 2 ^ 32

/-- An entry with PHASE in byte 5 bit 0, for ring counter n. -/
def withPhase (l : List Byte) (n size : Nat) : List Byte :=
  l.modify 5 (fun b => BitVec.ofNat 8 (b.toNat / 2 * 2 + (n / size + 1) % 2))

/-- LEDGER_WRITE (R364): the oldest entry of function f's backlog is written to its ring while EN is 1 and the ring has
room; TAIL advances and the function's vector is raised. -/
def execLedgerWrite (f : Fin 33) (s : State) : Host.Outcome State Fault Refusal :=
  goesOn s (match backlog f s with
    | [] => s
    | e :: r =>
      if !flagF (FLT_LGf_CFG_EN f) s ∨ ledgerRing f s ≤ ledgerUnread f s then s
      else
        let n := getF (FLT_LGf_TAIL_TAIL f) s
        let size := ledgerRing f s
        let s1 := hostWrite f (getF (FLT_LGf_BASE_ADDR f) s * 4096 + n % size * 64) (withPhase e n size)
          { s with ledger := put f.val (if r.isEmpty then none else some r) s.ledger }
        let s2 := showLedger f (addF (FLT_LGf_TAIL_TAIL f) 1 s1)
        if flagF (FLT_LGf_CFG_IRQ_EN f) s2 then raiseVec f (getF (FLT_LGf_CFG_VEC f) s2) s2 else s2)

/-- A write of FLT_LGf_HEAD: one that would pass TAIL is ignored (R364). -/
def ledgerHead (f v : Nat) (s : State) : State :=
  if (v + 2 ^ 32 - getF (FLT_LGf_HEAD_HEAD f) s) % 2 ^ 32 ≤ ledgerUnread f s then setF (FLT_LGf_HEAD_HEAD f) v s else s

/-- LEDGER_HEAD_WRITE (R364): a HEAD that would pass TAIL is ignored. -/
def execLedgerHeadWrite (f : Fin 33) (v : BitVec 32) (s : State) : Host.Outcome State Fault Refusal :=
  goesOn s (if hostUp f s then ledgerHead f v.toNat s else s)

/-! ### Processors (R374, R384, R385, R446) -/

/-- Processor k is alive. -/
def procAlive (k : Nat) (s : State) : Bool := bitAt k (getF FLT_HEART_ALIVE s)

/-- Processor k is in use: the spare, number 8, only once it has taken another's duties. -/
def procUsed (k : Nat) (s : State) : Bool := procAlive k s && (decide (k ≠ 8) || s.cpFor.isSome)

/-- A FIRMWARE entry (R366 KIND 7). -/
def firmwareEntry (k ev opcode idx : Nat) (s : State) : LedgerEvent :=
  { kind := 7, flags := 0, status := 0, seq := 0, func := 0, part := 0xFF, cause := 0x60 + ev, td := eventTd s,
    band := unitBand 3 k s, at_ := counter (eventTd s) s, lunit := k, punit := k, object := k,
    body := natLE 4 ev ++ natLE 4 opcode ++ natLE 8 idx }

/-- Takes a processor's bit out of FLT_HEART. -/
def procDown (k : Nat) (s : State) : State := if procAlive k s then setF FLT_HEART_ALIVE (getF FLT_HEART_ALIVE s - 2 ^ k) s else s

/-- Processor k has failed: a Control Processor awaits the spare, or with the spare in use its duties spread over the
others (R374); the Supervisor restarts (R385). -/
def procFail (k cause : Nat) (s : State) : State :=
  let s1 := procDown k { s with missed := put k none s.missed, unitCause := put (3 * 2 ^ 16 + k) (some (cause + 256)) s.unitCause }
  if k < 9 ∧ s.cpFor.isSome then noteNoSpare 3 cause k k 1 s1 else s1

/-- CONTROL_PROCESSOR_SPARE (R374): the spare takes the duties of the failed Control Processor k. -/
def execControlProcessorSpare (k : Fin 8) (s : State) : Host.Outcome State Fault Refusal :=
  let why := look 0 (3 * 2 ^ 16 + k) s.unitCause
  goesOn s (if procAlive k s ∨ s.cpFor.isSome ∨ !procAlive 8 s then s
    else spareDone 3 k (noteSpared 3 (why % 256) k k 8 (why / 256) (setF FLT_SPARE_CP 0 { s with cpFor := some k.val })))

/-- The processor is halted and WDOG_HOLD keeps the watchdog from failing it (R446). -/
def wdogSkips (k : Nat) (s : State) : Bool := decide (k ∈ s.halted) && flagF DEV_DBG_WDOG_HOLD s

/-- HEARTBEAT (R385): processor k writes its heartbeat for the present interval; a halted one does not. -/
def execHeartbeat (k : Fin 10) (s : State) : Host.Outcome State Fault Refusal :=
  goesOn s (if procUsed k s ∧ k.val ∉ s.halted then { s with beats := insertNat k.val s.beats } else s)

/-- The watchdog interval that now lies in: 983,040 Tc of the domain, or 0.5 ms of the core clock while it is DISABLED. -/
def wdogNow (s : State) : Nat :=
  let n := getF FLT_WDOG_TD s
  if getF (AIR_TDn_STATE_STATE n) s = 0 then nowNs s / 500000 else counter n s / 983040

/-- The end of an interval for one processor: a missed heartbeat counts, and MISS of them in a row fail it. -/
def wdogOne (s : State) (k : Nat) : State :=
  if !procUsed k s ∨ wdogSkips k s then s
  else withInject 8 k 0 (fun s =>
    if k ∈ s.beats ∧ !s.injecting then { s with missed := put k none s.missed }
    else
      let m := look 0 k s.missed + 1
      if m < getF FLT_WDOG_MISS s then { s with missed := put k (some m) s.missed }
      else procFail k 0x61 (fltEvent FLT_STAT_WDOG (tally 16 FLT_T_WDOG_COUNT 1 (ledgerAdd (firmwareEntry k 1 0 0 s) s)))) s

/-- The ten processors. -/
def processors : List Nat := [0, 1, 2, 3, 4, 5, 6, 7, 8, 9]

/-- WATCHDOG_INTERVAL (R385): an interval has ended. -/
def execWatchdogInterval (s : State) : Host.Outcome State Fault Refusal :=
  goesOn s (if wdogNow s = s.wdogIdx ∨ !flagF DEV_STAT_READY s then s
    else { processors.foldl wdogOne s with beats := [], wdogIdx := wdogNow s })

/-- INTERNAL_MESSAGE (R384): a message or a command-buffer copy of processor k arrives; one whose CRC fails is discarded,
recorded and sent once more, and a second mismatch fails its sender. -/
def execInternalMessage (k : Fin 10) (crcOk : Bool) (s : State) : Host.Outcome State Fault Refusal :=
  goesOn s (if crcOk then { s with msgRetry := s.msgRetry.filter (fun x => decide (x ≠ k.val)) }
    else
      let s1 := ledgerAdd (firmwareEntry k 3 0 0 s) s
      if k.val ∈ s.msgRetry then procFail k 0x63 { s1 with msgRetry := s1.msgRetry.filter (fun x => decide (x ≠ k.val)) }
      else { s1 with msgRetry := insertNat k.val s1.msgRetry })

/-! ### The reference monitor (R386) -/

/-- The state of row r of R386's table is written for opcodes of this kind. -/
def monitorClass (r op : Nat) : Bool :=
  match r with
  | 1 => decide (op / 256 = 3) || decide (op / 256 = 4)
  | 2 => decide (op / 256 = 6) || decide (op = 0x0105) || decide (op = 0x0106)
  | 3 => decide (op = 0x0105) || decide (op = 0x0106) || decide (op / 256 = 5)
  | 4 => decide (op / 256 = 7)
  | 5 => decide (op / 256 = 2)
  | 6 => decide (op / 256 = 8)
  | 7 => decide (op = 0x0902)
  | _ => false

/-- Internal work by its tag: 0 Escrow, 1 tier manager, 2 sparing, 3 Assay. -/
def monitorInternal (r tag : Nat) : Bool := (decide (r = 1) && decide (tag = 0)) || (decide (r = 2) && decide (tag = 1)) || (decide (r = 7) && decide (tag = 2))

/-- The partition that a packet acts for, or 8: PART_SET and PART_CLEAR name it in their payload. -/
def commitPart (p : Pkt) : Nat := if p.opcode = 0x0105 ∨ p.opcode = 0x0106 then pf p 0 1 else if p.opcode / 256 = 5 ∨ p.opcode / 256 = 6 then p.part else 8

/-- A commit for a packet is allowed: its effect is due, the state belongs to its class, and to its partition. -/
def commitOk (p : Pkt) (r part : Nat) (s : State) : Bool :=
  timeCome p s && monitorClass r p.opcode && (decide (8 ≤ part) || decide (8 ≤ commitPart p) || decide (part = commitPart p))

/-- A refused commit: it is recorded, the processor restarts, and the packet ends ITEM_FAILED. -/
def monitorRefuse (k r opcode seq idx : Nat) (p : Option Pkt) (s : State) : State :=
  let s1 := setF FLT_REFMON_SEQ seq (setF FLT_REFMON_OPCODE opcode (setF FLT_REFMON_STATE r (setF FLT_REFMON_PROC k s)))
  let s2 := procFail k 0x62 (fltEvent FLT_STAT_REFMON (tally 16 FLT_T_REFMON_COUNT 1 (ledgerAdd (firmwareEntry k 2 opcode idx s1) s1)))
  match p with
  | none => s2
  | some p => finish p stITEM_FAILED 0 s2

/-- MONITOR_COMMIT (R386): processor k commits state of row r, of index idx and a partition's or none (8), for an accepted
packet or, with none, for internal work of a kind.  What an allowed commit writes is the effect of the command or event
that it belongs to. -/
def execMonitorCommit (k : Fin 10) (pkt : Option Nat) (tag : Fin 4) (r part idx : Nat) (crcOk : Bool) (s : State) : Host.Outcome State Fault Refusal :=
  goesOn s (match pkt with
    | none => if crcOk ∧ monitorInternal r tag then s else monitorRefuse k r 0 0 idx none s
    | some i => match s.accepted.find? (fun p => decide (p.id = i)) with
      | none => monitorRefuse k r 0 0 idx none s
      | some p => if crcOk ∧ commitOk p r part s then s else monitorRefuse k r p.opcode p.seq idx (some p) s)

/-! ### Assays (R377 to R381) -/

/-- The number of a unit by which an Assay knows it: physical core, or cluster × 32 + lane. -/
def assayPhys (cls u sub : Nat) (s : State) : Nat := if cls = 1 then mcPhys u s else if cls = 2 then scPhys u s else u * 32 + sub

/-- The registers of a core's Assays: BAND_LAST, PERIOD_CNT, SUSPECT and the cells. -/
def assayBand (cls p : Nat) : Fld := if cls = 1 then FLT_MCp_ASSAY_BAND_LAST p else FLT_SCq_ASSAY_BAND_LAST p
def assayCnt (cls p : Nat) : Fld := if cls = 1 then FLT_MCp_ASSAY_PERIOD_CNT p else FLT_SCq_ASSAY_PERIOD_CNT p
def assaySuspectF (cls p : Nat) : Fld := if cls = 1 then FLT_MCp_ASSAY_SUSPECT p else FLT_SCq_ASSAY_SUSPECT p
def assayCells (cls p hi : Nat) : Fld :=
  if cls = 1 then (if hi = 0 then FLT_MCp_ACELL0_CELLS p else FLT_MCp_ACELL1_CELLS p)
  else if hi = 0 then FLT_SCq_ACELL0_CELLS p else FLT_SCq_ACELL1_CELLS p

/-- The period counts of every core and lane restart. -/
def assayRestart (s : State) : State :=
  let s1 := (List.range 160).foldl (fun s p => setF (FLT_MCp_ASSAY_PERIOD_CNT p) 0 s) s
  let s2 := (List.range 72).foldl (fun s q => setF (FLT_SCq_ASSAY_PERIOD_CNT q) 0 s) s1
  { s2 with mcFaults := [], sigFaults := [], laneFaults := [], laneMiss := s2.laneMiss.filter (fun x => decide (2 ^ 20 ≤ x.1)) }

/-- The Assay period that now lies in, counted from reset on the core clock. -/
def assayNow (s : State) : Nat := (s.now - s.resetAt) / (1536 * 10 ^ 9 * getF FLT_ASSAY_PERIOD s)

/-- ASSAY_PERIOD_BOUNDARY (R377). -/
def execAssayPeriodBoundary (s : State) : Host.Outcome State Fault Refusal :=
  goesOn s (if assayNow s = s.assayIdx then s else { assayRestart s with assayIdx := assayNow s })

/-- The unit may start an Assay: it is in service, and idle; a Matrix Core has a gap of at least 8,192 cycles at D. -/
def assayIdle (cls u sub : Nat) (s : State) : Bool :=
  match cls with
  | 1 => coreInService u s && decide (getF (MXC_Cn_INFO_STATE u) s = 0) && (leaseOf u s).isNone && !windowOpen u s && gapHolds u s && issues s
  | 2 => sigIn u s && (sigOf u s).run.isNone && decide (getF (SIG_Cn_INFO_STATE u) s = 0)
  | 4 => decide (u < 8) && decide (sub < 18) && clusterIn u s && !codRetired u sub s && !s.code.any (fun w => decide (w.cluster = u))
  | _ => false

/-- Shows a core in an Assay. -/
def showAssay (cls u v : Nat) (s : State) : State :=
  if cls = 1 then setF (MXC_Cn_INFO_STATE u) (4 * v) s else if cls = 2 then setF (SIG_Cn_INFO_STATE u) (2 * v) s else s

/-- ASSAY_START (R377 to R379): an Assay starts on an idle unit, and its band is recorded.  The load bucket comes from the
millisecond before, which the state does not hold, and is an operand. -/
def execAssayStart (cls : Fin 5) (u sub : Nat) (bucket : Fin 8) (s : State) : Host.Outcome State Fault Refusal :=
  goesOn s (if assayIdle cls u sub s ∧ !s.assays.any (fun a => decide (a.cls = cls.val) && decide (a.unit = u) && decide (a.sub = sub)) then
      let p := assayPhys cls u sub s
      let cmd := s.assayCmd.find? (fun c => decide (c.1 = cls.val) && decide (c.2.1 = u))
      showAssay cls u 1 { s with
        assays := s.assays ++ [⟨cls, u, sub, unitBand cls (bandUnit cls u p) s, bucket, cmd.map (fun c => c.2.2)⟩]
        assayCmd := s.assayCmd.filter (fun c => decide (some c ≠ cmd))
        assayLast := put (cls.val * 2 ^ 16 + p) (some s.now) s.assayLast
        assayDue := s.assayDue.filter (fun x => decide (x ≠ cls.val * 2 ^ 16 + p)) }
    else s)

/-- Adds a mismatch to the counts of a unit: of the period, and of the (band, bucket) cell.  The result is both counts. -/
def assayCount (a : Assay) (p : Nat) (s : State) : (Nat × Nat) × State :=
  let c := a.band * 8 + a.bucket
  if a.cls = 4 then
    let n := look 0 p s.laneMiss + 1
    let k := 2 ^ 20 + p * 64 + c
    let m := look 0 k s.laneMiss + 1
    ((n, m), { s with laneMiss := put k (some m) (put p (some n) s.laneMiss) })
  else
    let f := assayCells a.cls p (c / 32)
    let m := getF f s / 4 ^ (c % 32) % 4
    let s1 := addSatF (assayCnt a.cls p) 1 (if m < 3 then setF f (getF f s + 4 ^ (c % 32)) s else s)
    let w := 1088 + 2 * (if a.cls = 1 then p else 160 + p) + c / 32
    ((getF (assayCnt a.cls p) s1, min 3 (m + 1)), vaultPut w (getF f s1) s1)

/-- A unit's source in CAUSE (R367). -/
def clsCause (cls : Nat) : Nat := if cls = 1 then 0x10 else if cls = 2 then 0x20 else if cls = 4 ∨ cls = 5 then 0x30 else 0x40

/-- The unit is Suspect already. -/
def assayMarked (cls p : Nat) (s : State) : Bool := if cls = 4 then codRetired (p / 32) (p % 32) s else flagF (assaySuspectF cls p) s

/-- An Assay makes a unit Suspect: FLT_STAT.SUSPECT and a UNIT entry with ACTION 2; a lane is replaced at once (R380). -/
def assaySuspect (a : Assay) (p n : Nat) (s : State) : State :=
  let pn := if a.cls = 4 then a.sub else p
  let s1 := fltEvent FLT_STAT_SUSPECT (ledgerAdd (unitEvent a.cls 2 (clsCause a.cls) a.unit pn 0xFFFF a.bucket n a.band s) s)
  if a.cls = 4 then retireLane a.unit a.sub 0x30 n s1
  else setF (assaySuspectF a.cls p) 1 { s1 with unitCause := put (a.cls * 2 ^ 16 + p) (some (clsCause a.cls + 256 * n)) s1.unitCause }

/-- A mismatch: it is counted, recorded and confirmed by another Assay, and may make the unit Suspect (R379, R380). -/
def assayMismatch (a : Assay) (p : Nat) (s : State) : State :=
  let pn := if a.cls = 4 then a.sub else p
  let r := assayCount a p (tally 16 FLT_T_MISMATCH_COUNT 1 s)
  let s1 := ledgerAdd (unitEvent a.cls 6 (clsCause a.cls) a.unit pn 0xFFFF a.bucket r.1.1 a.band r.2) r.2
  let s2 := { s1 with assayDue := insertNat (a.cls * 2 ^ 16 + p) s1.assayDue }
  let thr := getF FLT_ASSAY_THR s2
  if (thr ≤ r.1.1 ∨ thr ≤ r.1.2) ∧ !assayMarked a.cls p s2 then assaySuspect a p (if thr ≤ r.1.2 then r.1.2 else r.1.1) s2 else s2

/-- The DETAIL of DIAG_ASSAY (R381). -/
def assayDetail (a : Assay) (bad made : Bool) : Nat := b2n bad + 2 * a.band + 16 * a.bucket + 128 * b2n made

/-- The end of Assay a. -/
def assayEnd (a : Assay) (ok : Bool) (s : State) : State :=
  let p := assayPhys a.cls a.unit a.sub s
  let s1 := tally 16 FLT_T_ASSAY_COUNT 1 (showAssay a.cls a.unit 0 { s with assays := s.assays.filter (fun b => decide (b ≠ a)) })
  let s2 := if a.cls = 4 then s1 else setF (assayBand a.cls p) (a.band + 16 * a.bucket) s1
  let bad := !ok || s2.injecting
  let s3 := if bad then assayMismatch a p s2 else s2
  match a.pkt with
  | none => s3
  | some i => finishId i stOK (assayDetail a bad (assayMarked a.cls p s3 && !assayMarked a.cls p s2)) s3

/-- ASSAY_END (R378 to R381): the CRC-64 of an Assay's outputs equals the stored digest, or does not. -/
def execAssayEnd (cls : Fin 5) (u sub : Nat) (ok : Bool) (s : State) : Host.Outcome State Fault Refusal :=
  goesOn s (match s.assays.find? (fun a => decide (a.cls = cls.val) && decide (a.unit = u) && decide (a.sub = sub)) with
    | none => s
    | some a => if cls = 1 then withInject 9 u 0 (assayEnd a ok) s else assayEnd a ok s)

/-- The checks of DIAG_ASSAY. -/
def chkAssay : Check := fun p s =>
  let u := pf p 2 2
  if pf p 0 1 ≠ 1 ∧ pf p 0 1 ≠ 2 then some (badParam 32 0)
  else if (pf p 0 1 = 1 ∧ !coreInService u s) ∨ (pf p 0 1 = 2 ∧ !sigIn u s) then some (badParam 34 0)
  else none

/-- DIAG_ASSAY (R381): the Assay runs at the core's next idle time. -/
def execDiagAssay (p : Pkt) (s : State) : Host.Outcome State Fault Refusal :=
  goesOn s (runCmdOpen chkAssay (fun p s => { s with assayCmd := s.assayCmd ++ [(pf p 0 1, pf p 2 2, p.id)] }) p s)

/-! ### HBM4 channels and stacks (R371 class 10, R375, R181) -/

/-- Stack k has its spare channel unused. -/
def stackSpare (k : Nat) (s : State) : Bool := decide (k < 12) && decide (k ∉ s.stacksOut) && bitAt k (getF FLT_SPARE_HBMCH s)

/-- The replacement of a channel begins: the stack's spare channel is taken and the copy starts. -/
def chanStart (k c cause : Nat) (pkt : Option Nat) (s : State) : State :=
  setF FLT_SPARE_HBMCH (getF FLT_SPARE_HBMCH s - 2 ^ k)
    { s with chanCopy := s.chanCopy ++ [⟨k, c, s.now, cause, pkt⟩], chanRetired := insertNat (k * 32 + c) s.chanRetired }

/-- The channel calls for a replacement: CH_THR uncorrectable reads in this second, or its lane repair is used up. -/
def chanBad (k c : Nat) (lanes : Bool) (s : State) : Bool := lanes || decide (getF FLT_SPARE_CFG_CH_THR s < chanUeCount k c s)

/-- HBM_CHANNEL_SPARE (R371, R375): a failing channel is copied to the stack's spare channel. -/
def execHbmChannelSpare (k : Fin 12) (c : Fin 32) (lanes : Bool) (s : State) : Host.Outcome State Fault Refusal :=
  goesOn s (if chanBad k c lanes s ∧ stackSpare k s then chanStart k c 0x41 none s else s)

/-- HBM_CHANNEL_COPY_DONE (R375): the copy has ended and the spare channel serves; its 256-byte units number those of the
channel's share of the stack. -/
def execHbmChannelCopyDone (k : Fin 12) (c : Fin 32) (s : State) : Host.Outcome State Fault Refusal :=
  goesOn s (match s.chanCopy.find? (fun x => decide (x.stack = k.val) && decide (x.chan = c.val)) with
    | none => s
    | some x =>
      let s1 := noteSpared 10 x.cause k c 32 (b2n x.pkt.isNone * chanUeCount k c s) { s with chanCopy := s.chanCopy.filter (fun y => decide (y ≠ x)) }
      match x.pkt with
      | none => s1
      | some i => finishId i stOK 0 s1)

/-- Copies of a stack's channels that its leaving abandons; a DIAG_SPARE among them ends ITEM_FAILED. -/
def dropCopies (k : Nat) (s : State) : State :=
  (s.chanCopy.filter (fun x => decide (x.stack = k))).foldl (fun s x => match x.pkt with
    | none => s
    | some i => finishId i stITEM_FAILED 0 s) { s with chanCopy := s.chanCopy.filter (fun x => decide (x.stack ≠ k)) }

/-- A stack leaves service: the cells' copies on it are lost and rebuilt elsewhere, and capacity falls (R181, R65). -/
def stackOut (k c : Nat) (s : State) : State :=
  let s1 := dropCopies k (noteNoSpare 10 0x43 k c (chanUeCount k c s) { s with stacksOut := insertNat k s.stacksOut })
  capacityRecompute (s1.cells.foldl (fun s x => copyLost x.1 k s) s1)

/-- STACK_OUT_OF_SERVICE (R375): a channel fails and the stack has no spare channel left. -/
def execStackOutOfService (k : Fin 12) (c : Fin 32) (lanes : Bool) (s : State) : Host.Outcome State Fault Refusal :=
  goesOn s (if chanBad k c lanes s ∧ !stackSpare k s ∧ k.val ∉ s.stacksOut then stackOut k c s else s)

/-! ### DIAG_SPARE (R376) -/

/-- Fields of the payload. -/
def dsCls (p : Pkt) : Nat := pf p 0 1
def dsUnit (p : Pkt) : Nat := pf p 2 2
def dsSub (p : Pkt) : Nat := pf p 4 1

/-- UNIT lies in its range. -/
def dsUnitOk (p : Pkt) (s : State) : Bool :=
  match dsCls p with
  | 1 => decide (dsUnit p < getF DEV_IDENT_GRADE s)
  | 2 => decide (dsUnit p < 64)
  | 3 => decide (dsUnit p < 8)
  | 4 => decide (dsUnit p < 8)
  | 5 => decide (dsUnit p < 8)
  | 6 => decide (dsUnit p < 4)
  | _ => decide (dsUnit p < 12)

/-- SUB lies in its range. -/
def dsSubOk (p : Pkt) : Bool :=
  match dsCls p with
  | 4 => decide (dsSub p < 18)
  | 5 => decide (dsSub p < 5)
  | 6 => decide (dsSub p < 8)
  | 10 => decide (dsSub p < 32)
  | _ => true

/-- The class has no spare for the unit, or the unit is already retired. -/
def dsNoSpare (p : Pkt) (s : State) : Bool :=
  let u := dsUnit p
  match dsCls p with
  | 1 => (mcSpares s).isEmpty || !coreInService u s || decide (mcPhys u s ∈ s.mcRetired)
  | 2 => (scSpares s).isEmpty || !sigIn u s || decide (scPhys u s ∈ s.scRetired) || spareWaits 2 u s
  | 3 => s.cpFor.isSome || !procAlive u s || !procAlive 8 s
  | 4 => decide (getF (COD_CCm_INFO_LANES u) s ≤ 16) || codRetired u (dsSub p) s
  | 5 => decide (getF (COD_CCm_INFO_POLAR u) s ≤ 4) || codRetired u (24 + dsSub p) s
  | 6 => flagF (FH_PORT_STAT_SPARE_IN u) s
  | _ => !stackSpare u s || decide (u * 32 + dsSub p ∈ s.chanRetired)

/-- The checks of DIAG_SPARE. -/
def chkSpare : Check := fun p s =>
  if dsCls p ∉ [1, 2, 3, 4, 5, 6, 10] then some (badParam 32 0)
  else if !dsUnitOk p s then some (badParam 34 0)
  else if !dsSubOk p then some (badParam 36 0)
  else if dsNoSpare p s then some (badParam 32 0)
  else none

/-- The effect of DIAG_SPARE: the unit is retired; the final reply follows once the spare takes effect. -/
def effSpare (p : Pkt) (s : State) : State :=
  let u := dsUnit p
  let wait (k : Nat) (s : State) : State := { s with spareCmd := s.spareCmd ++ [(dsCls p, k, p.id)] }
  match dsCls p with
  | 1 => wait u (mcRetire u 0x10 0 s)
  | 2 =>
    let s1 := wait u { s with unitCause := put (2 * 2 ^ 16 + scPhys u s) (some 0x20) s.unitCause }
    if (sigOf u s).run.any (fun r => r.fault.isNone) then s1 else spareDone 2 u (scRetire u 0x20 0 s1)
  | 3 => wait u (procDown u { s with unitCause := put (3 * 2 ^ 16 + u) (some 0x60) s.unitCause })
  | 4 =>
    let s1 := wait (u * 32 + dsSub p) s
    if s.code.any (fun w => decide (w.cluster = u)) then s1 else laneSpares u s1
  | 5 => finish p stOK 0 (retirePolar u (dsSub p) 0x30 0 s)
  | 6 => laneSpareIn u (dsSub p) (wait u s)
  | _ => chanStart u (dsSub p) 0x40 (some p.id) s

/-- DIAG_SPARE. -/
def execDiagSpare (p : Pkt) (s : State) : Host.Outcome State Fault Refusal := goesOn s (runCmdOpen chkSpare effSpare p s)

/-! ### DIAG_TALLY (R388) -/

/-- Instance i, j of a register set counts in group g. -/
def inGroup (k : GrpKind) (g i j : Nat) (s : State) : Bool :=
  match k with
  | .fixed h => decide (g = h)
  | .fh => decide (g = 8 + i)
  | .cell => decide (g = 128 + i)
  | .flow => decide (128 ≤ g) && flagF (FH_Ff_MAP_VALID i j) s && decide (getF (FH_Ff_MAP_CELL i j) s = g - 128)
  | _ => false

/-- The RL counters of a register set that belong to group g. -/
def groupFields (g : Nat) (s : State) (d : RegDef) : List Fld :=
  (List.range d.n1).flatMap (fun i => (List.range d.n2).flatMap (fun j =>
    if inGroup d.grp g i j s then (d.fields i j).filter (fun f => decide (f.ty = .rl)) else []))

/-- A field takes its place in an order by offset. -/
def insertFld (f : Fld) : List Fld → List Fld
  | [] => [f]
  | h :: r => if f.off ≤ h.off then f :: h :: r else h :: insertFld f r

/-- The RL counters of group g in ascending BAR0 offset. -/
def tallyFields (g : Nat) (s : State) : List Fld := (regTable.flatMap (groupFields g s)).foldr insertFld []

/-- The record of group g (R388). -/
def tallyRecord (g : Nat) (s : State) : List Byte :=
  let l := tallyFields g s
  let b := natLE 8 (getF (TALLY_Gg_AT_AT g) s) ++ natLE 4 (getF (TALLY_Gg_SEQ_SEQ g) s) ++ natLE 1 (getF (TALLY_Gg_SAT_SAT g) s) ++ natLE 1 0 ++
    natLE 2 l.length ++ l.flatMap (fun f => natLE 4 (look 0 (tallyKey g f) s.latched))
  padTo (ceilDiv b.length 16 * 16) b

/-- The records of the groups a packet names. -/
def tallyRecords (p : Pkt) (s : State) : List Byte := (List.range (pf p 2 2)).flatMap (fun i => tallyRecord (pf p 0 2 + i) s)

/-- The checks of DIAG_TALLY. -/
def chkTally : Check := fun p s =>
  if 1023 < pf p 0 2 then some (badParam 32 0)
  else if pf p 2 2 = 0 ∨ 1024 < pf p 0 2 + pf p 2 2 then some (badParam 34 (1024 - pf p 0 2))
  else if pf p 4 4 < (tallyRecords p s).length then some (badParam 36 (tallyRecords p s).length)
  else none

/-- DIAG_TALLY. -/
def execDiagTally (p : Pkt) (s : State) : Host.Outcome State Fault Refusal :=
  goesOn s (runCmd chkTally (writeRecord (fun p => pf p 8 8) tallyRecords) p s)

/-! ### DIAG_INJECT (R389) -/

/-- Fields of the payload. -/
def diKind (p : Pkt) : Nat := pf p 0 1
def diUnit (p : Pkt) : Nat := pf p 2 2
def diSub (p : Pkt) : Nat := pf p 4 1
def diAddr (p : Pkt) : Nat := pf p 8 8

/-- UNIT lies in the range of its kind. -/
def diUnitOk (p : Pkt) (s : State) : Bool :=
  match diKind p with
  | 3 => coreInService (diUnit p) s
  | 4 => sigIn (diUnit p) s
  | 5 => decide (diUnit p < 8)
  | 6 => decide (diUnit p < 16)
  | 7 => decide (diUnit p < 4)
  | 8 => decide (diUnit p < 10)
  | 9 => coreInService (diUnit p) s
  | _ => true

/-- SUB lies in the range of its kind. -/
def diSubOk (p : Pkt) : Bool :=
  match diKind p with
  | 5 => decide (diSub p < 18)
  | 6 => decide (diSub p < 4)
  | 7 => decide (diSub p < 8)
  | _ => true

/-- The checks of DIAG_INJECT: a Unified Range offset must be mapped. -/
def chkInject : Check := fun p s =>
  if diKind p < 1 ∨ 9 < diKind p then some (badParam 32 0)
  else if !diUnitOk p s then some (badParam 34 0)
  else if !diSubOk p then some (badParam 36 0)
  else if diKind p ≤ 2 ∧ (2 ^ 43 ≤ diAddr p ∨ entTier (bent (diAddr p / 2 ^ 21) s) = 0) then some (badParam 40 0)
  else if pf p 16 4 = 0 then some (badParam 48 0)
  else none

/-- A memory error is met by a patrol read of the line at the effect (DESIGN CHOICE, log entry 24). -/
def injectLine (ue : Bool) (a : Nat) (s : State) : State :=
  let m := loadAddr a s
  if ue then uncorrectableRead m 1 s else if marked m s then s else correctedRead m 1 1 s

/-- The effect of DIAG_INJECT: memory errors come about at once; the other kinds at the next events of their
unit. -/
def effInject : Effect := fun p s =>
  let k := diKind p
  let s1 := { s with inject := s.inject ++ [⟨k, diUnit p, if 5 ≤ k ∧ k ≤ 7 then diSub p else 0, diAddr p, pf p 16 4⟩] }
  if k ≤ 2 then ((List.range (pf p 16 4)).foldl (fun s _ => injectLine (decide (k = 2)) (diAddr p) s) s, stOK, 0)
  else (s1, stOK, 0)

/-- DIAG_INJECT. -/
def execDiagInject (p : Pkt) (s : State) : Host.Outcome State Fault Refusal := goesOn s (runCmd chkInject effInject p s)

end Sys2Proof.Machine
end

