-- ==== Sys2Proof/Machine/Sensors.lean ====
section
/-! DEFINITION. The PLDM sensors and the events they send (R443). -/

namespace Sys2Proof.Machine

/-- The temperature of sensor set i in 0.25 °C. -/
def tempNow (i : Nat) (s : State) : Int := bitsInt 12 (getF (PWR_TEMPi_NOW i) s)

/-- The value of a sensor; sensor IDs run from 1 to 39. -/
def sensorValue (id : Nat) (s : State) : Option Int :=
  if id = 0 ∨ 39 < id then none
  else if id ≤ 24 then some (tempNow (id - 1) s)
  else if id = 25 then some (getF PWR_EST_POWER s)
  else if id = 26 then some (getF PWR_EST_CURRENT s)
  else if id = 27 then some (getF PWR_TSTAT_IN_FORCE s)
  else if id = 28 then some ((getF PWR_TSTAT_PIN s + 2 * getF PWR_TSTAT_FORCE s + 4 * getF PWR_TSTAT_THERMAL s + 8 * getF PWR_TSTAT_CAP s : Nat) : Int)
  else if id ≤ 36 then some (tdState (id - 29) s)
  else if id = 37 then some ((getF ESC_STAT_OVERCOMMIT s + 2 * getF ESC_STAT_AT_RISK s : Nat) : Int)
  else if id = 38 then some (getF SEC_LC_STATE s)
  else some (getF FLT_SPARE_MC s)

/-- The thresholds that a temperature has reached: 1 WARN, 2 LIMIT, 3 TRIP. -/
def tempLevel (i : Nat) (s : State) : Nat :=
  let reached (f : Fld) : Bool := decide ((getF f s : Int) * 4 ≤ tempNow i s)
  if reached PWR_THERM_TRIP then 3 else if reached PWR_THERM_LIMIT then 2 else if reached PWR_THERM_WARN then 1 else 0

/-- The state of a sensor whose change sends an event: a threshold level, or a state sensor's value. -/
def sensorState (id : Nat) (s : State) : Nat :=
  if id ≤ 24 then tempLevel (id - 1) s
  else if 28 ≤ id ∧ id ≤ 38 then ((sensorValue id s).getD 0).toNat
  else 0

/-- A sensor whose state has changed sends PlatformEventMessage to the receiver, where one is set. -/
def sensorEvent (s : State) (id : Nat) : State :=
  let v := sensorState id s
  let o := look 0 id s.sens
  if v = o then s
  else
    let s1 := { s with sens := put id (if v = 0 then none else some v) s.sens }
    match s.evtRecv with
    | none => s1
    | some (via, eid) => { s1 with mgmtOut := .event via eid id o v :: s1.mgmtOut }

/-- Looks at every sensor; nothing is sent while the Supervisor restarts (R385, R442). -/
def sensorScan (s : State) : State :=
  if bitAt 9 (getF FLT_HEART_ALIVE s) then ((List.range 39).map (· + 1)).foldl sensorEvent s else s

end Sys2Proof.Machine
end

