-- ==== Sys2Proof/Machine/Power.lean ====
section
/-! DEFINITION. Power and thermal: the throttle causes and the duty in force, temperatures, the power cap and the power domains
(R391 to R406). -/

namespace Sys2Proof.Machine

/-- Sets a bit of PWR_STAT and raises its vector where enabled (R406). -/
def pwrEvent (f : Fld) (s : State) : State := event f 0 PWR_EVT_MASK_MASK f.lo PWR_EVT_VEC_VEC s

/-! ### The duty in force (R395 to R397) -/

/-- A throttle cause is active. -/
def anyCause (s : State) : Bool := flagF PWR_TSTAT_PIN s || flagF PWR_TSTAT_FORCE s || flagF PWR_TSTAT_THERMAL s || flagF PWR_TSTAT_CAP s

/-- D in percent, as PWR_THROTTLE holds it. -/
def dutyD (s : State) : Nat := getF PWR_THROTTLE_DUTY s

/-- The duty in force changes; the accumulator A of R396 starts again at 0. -/
def setDuty (d : Nat) (s : State) : State :=
  if getF PWR_TSTAT_IN_FORCE s = d then s else setF PWR_TSTAT_IN_FORCE d { s with dutyAt := s.now }

/-- The accumulator A (R396). -/
def skipAcc (s : State) : Nat := (s.now - s.dutyAt) / 1536 * getF PWR_TSTAT_IN_FORCE s % 100

/-- A cause becomes active: the duty in force falls to D, and a release ends. -/
def causeOn (f : Fld) (s : State) : State :=
  if flagF f s then s
  else setDuty (dutyD s) (setF PWR_TSTAT_RELEASING 0 (setF f 1 (if anyCause s then s else { s with thrSince := s.now })))

/-- A cause becomes inactive; with the last of them the hold begins, and the time they were active is counted. -/
def causeOff (f : Fld) (s : State) : State :=
  if !flagF f s then s
  else
    let s1 := setF f 0 s
    if anyCause s1 then s1 else tally1024 17 PWR_T_ACTIVE_COUNT ((s.now - s.thrSince) / 1536) { s1 with thrOff := s.now }

/-- THROTTLE_ASSERT (R395): THROTTLE_N is recognised low. -/
def execThrottleAssert (s : State) : Host.Outcome State Fault Refusal :=
  goesOn s (if flagF PWR_TSTAT_PIN s ∨ inReset s then s else causeOn PWR_TSTAT_PIN (pwrEvent PWR_STAT_PIN (tally 17 PWR_T_PIN_COUNT 1 s)))

/-- THROTTLE_DEASSERT (R395): THROTTLE_N is recognised high. -/
def execThrottleDeassert (s : State) : Host.Outcome State Fault Refusal := goesOn s (causeOff PWR_TSTAT_PIN s)

/-- The DUTY of a write of PWR_THROTTLE (R397): ignored outside 50 to 100, refused by the Escrow, or accepted; while a cause is
active a lower duty applies, and a higher one is reached at the release pace. -/
def dutyWrite (d : Nat) (s : State) : State :=
  if d < 50 ∨ 100 < d then s
  else if !dutyAccepted d s then escEvent ESC_STAT_DUTY_REFUSED s
  else
    let s1 := showEscrow (setF ESC_DUTY_DUTY d (setF PWR_THROTTLE_DUTY d s))
    if !anyCause s1 then s1
    else if d ≤ getF PWR_TSTAT_IN_FORCE s1 then setDuty d s1
    else { s1 with thrStep := s1.now }

/-- A write of PWR_THROTTLE: DUTY, then FORCE, then HOLD_US, of which 0 is ignored. -/
def throttleWrite (w : Nat) (s : State) : State :=
  let s1 := dutyWrite (w % 128) s
  let s2 := setF PWR_THROTTLE_FORCE (w / 2 ^ 8) s1
  let s3 := if bitAt 8 w then causeOn PWR_TSTAT_FORCE s2 else causeOff PWR_TSTAT_FORCE s2
  if bitsAt 23 16 w = 0 then s3 else setF PWR_THROTTLE_HOLD_US (bitsAt 23 16 w) s3

/-- DUTY_WRITE (R397): a write of PWR_THROTTLE. -/
def execDutyWrite (w : BitVec 32) (s : State) : Host.Outcome State Fault Refusal := goesOn s (if !hostUp 0 s then s else throttleWrite w.toNat s)

/-- THROTTLE_FORCE_WRITE (R395): a write of PWR_THROTTLE. -/
def execThrottleForceWrite (w : BitVec 32) (s : State) : Host.Outcome State Fault Refusal := goesOn s (if !hostUp 0 s then s else throttleWrite w.toNat s)

/-- THROTTLE_HOLD_EXPIRY (R395): every cause has been inactive for HOLD_US, and the release begins. -/
def execThrottleHoldExpiry (s : State) : Host.Outcome State Fault Refusal :=
  goesOn s (if !anyCause s ∧ !flagF PWR_TSTAT_RELEASING s ∧ getF PWR_TSTAT_IN_FORCE s < 100 ∧
      s.thrOff + getF PWR_THROTTLE_HOLD_US s * 1000 * 1536 ≤ s.now then setF PWR_TSTAT_RELEASING 1 { s with thrStep := s.now }
    else s)

/-- The duty in force is to rise: a release runs, or a higher D has been accepted under a cause. -/
def dutyRises (s : State) : Bool :=
  flagF PWR_TSTAT_RELEASING s || (anyCause s && decide (getF PWR_TSTAT_IN_FORCE s < dutyD s))

/-- DUTY_RELEASE_STEP (R395): 64 cycles on, the duty in force rises by 1 %, and the release ends at 100 %. -/
def execDutyReleaseStep (s : State) : Host.Outcome State Fault Refusal :=
  goesOn s (if dutyRises s ∧ s.thrStep + 64 * 1536 ≤ s.now then
      let d := min 100 (getF PWR_TSTAT_IN_FORCE s + 1)
      let s1 := setDuty d { s with thrStep := s.thrStep + 64 * 1536 }
      if 100 ≤ d then setF PWR_TSTAT_RELEASING 0 s1 else s1
    else s)

/-! ### Temperature (R400 to R403, R425) -/

/-- A calibration value: the sum of the factory value and the user's, each held within its limits (R425). -/
def calE (signed : Bool) (k umax : Nat) (lo hi : Int) (s : State) : Int :=
  let f : Int := if signed then bitsInt 16 (getF (CAL_F_k_VALUE k) s) else (getF (CAL_F_k_VALUE k) s : Int)
  clampInt lo hi (f + clampInt (-(umax : Int)) umax (bitsInt 16 (getF (CAL_U_k_VALUE k) s)))

/-- A raw sample in 1/1024 °C as a multiple of 0.25 °C, a midway value rounded up. -/
def quarters (raw : Int) : Int := (raw + 128) / 256

/-- The hottest sample of set i, if it was sampled. -/
def hottest (i : Nat) (t : List (Nat × Int)) : Option Int :=
  (t.filter (fun x => decide (x.1 = i))).foldl (fun m x => match m with
    | none => some x.2
    | some v => some (max v x.2)) none

/-- The band of a temperature in 0.25 °C (R379). -/
def bandOf (q : Int) : Nat := if q < 160 then 0 else min 7 (1 + ((q - 160) / 32).toNat)

/-- The highest temperature of set i since reset. -/
def tempMax (i : Nat) (s : State) : Int := bitsInt 12 (getF (PWR_TEMPi_MAX i) s)

/-- A sample of set i with its calibration shows in PWR_TEMPi. -/
def tempSet (t : List (Nat × Int)) (s : State) (i : Nat) : State :=
  match hottest i t with
  | none => s
  | some raw =>
    let q := clampInt (-2048) 2047 (quarters raw + calE true (32 + i) 32 (-2048) 2047 s)
    setF (PWR_TEMPi_BAND i) (bandOf q) (setF (PWR_TEMPi_MAX i) (intBits 12 (max q (tempMax i s))) (setF (PWR_TEMPi_NOW i) (intBits 12 q) s))

/-- The 24 sensor sets. -/
def sensors : List Nat := List.range 24

/-- The comparisons with WARN and LIMIT. -/
def tempJudge (s : State) : State :=
  let atLeast (lim : Int) : Bool := sensors.any (fun i => decide (lim * 4 ≤ tempNow i s))
  let s1 := if atLeast (getF PWR_THERM_WARN s) then pwrEvent PWR_STAT_THERM_WARN s else s
  let lim := getF PWR_THERM_LIMIT s
  if atLeast lim then
    if flagF PWR_TSTAT_THERMAL s1 then s1 else causeOn PWR_TSTAT_THERMAL (pwrEvent PWR_STAT_THERM_LIMIT (tally 17 PWR_T_THERMAL_COUNT 1 s1))
  else if atLeast ((lim : Int) - getF PWR_THERM_HYST s1) then s1
  else causeOff PWR_TSTAT_THERMAL s1

/-- The set that trips: a die that reaches TRIP by its factory calibration alone, or a stack that reports its catastrophic
condition. -/
def tripSet (t : List (Nat × Int)) (cata : List Nat) (s : State) : Option Nat :=
  ((List.range 12).find? (fun i => (hottest i t).any (fun raw =>
    decide ((getF PWR_THERM_TRIP s : Int) * 4 ≤ quarters raw + bitsInt 16 (getF (CAL_F_k_VALUE (32 + i)) s))))).or
    ((List.range 12).find? (fun k => decide (k ∈ cata)) |>.map (· + 12))

/-- The history entry of a thermal trip (R373). -/
def tripHistory (i : Nat) : List Byte := [0, 0xFF, 0xD0, 0x70] ++ natLE 2 0xFFFF ++ natLE 2 i ++ zeros 8

/-- THERMTRIP_N is driven low and latched (R402). -/
def trip (i : Nat) (s : State) : State :=
  if flagF PWR_TSTAT_TRIPPED s then s else historyAdd (tripHistory i) (setF PWR_TSTAT_TRIPPED 1 s)

/-- The power estimate of the last 100 µs and the current measured (R406). -/
def powerSet (power current : Nat) (s : State) : State :=
  let p := min 65535 power
  setF PWR_PEAK_POWER (max p (getF PWR_PEAK_POWER s)) (setF PWR_EST_CURRENT (min 65535 current) (setF PWR_EST_POWER p { s with pwrLast := (p :: s.pwrLast).take 10 }))

/-- TEMP_SAMPLE (R400 to R402): every 100 µs the sensors are sampled, each by its set in 1/1024 °C, with the stacks that report
their catastrophic condition and the estimate of PWR_EST. -/
def execTempSample (t : List (Nat × Int)) (cata : List Nat) (power current : Nat) (s : State) : Host.Outcome State Fault Refusal :=
  goesOn s (if inReset s then s else
    let s1 := tempJudge (sensors.foldl (tempSet t) (powerSet power current s))
    match tripSet t cata s1 with
    | none => sensorScan s1
    | some i => sensorScan (trip i s1))

/-! ### The power cap (R404) -/

/-- POWER_CAP_CHECK (R404): the average of the estimates over 1 ms against WATTS. -/
def execPowerCapCheck (s : State) : Host.Outcome State Fault Refusal :=
  let w := getF PWR_CAP_WATTS s
  let n := s.pwrLast.length
  goesOn s (if inReset s then s
    else if w = 0 then causeOff PWR_TSTAT_CAP s
    else if w * n < s.pwrLast.sum then
      if flagF PWR_TSTAT_CAP s then s else causeOn PWR_TSTAT_CAP (pwrEvent PWR_STAT_CAP (tally 17 PWR_T_CAP_COUNT 1 s))
    else if s.pwrLast.sum * 100 < 95 * w * n then causeOff PWR_TSTAT_CAP s
    else s)

/-! ### Power domains (R391 to R393) -/

/-- A domain goes to FAULT and is switched off. -/
def domFault (d : Nat) (s : State) : State := pwrEvent PWR_STAT_DOM_FAULT (setF (PWR_DOMd_FAULT d) 1 (setF (PWR_DOMd_STATE d) 3 s))

/-- The logical number that physical Matrix Core p holds. -/
def mcLogical (p : Nat) (s : State) : Option Nat := (List.range 144).find? (fun n => coreInService n s && decide (mcPhys n s = p))

/-- The engine set of core n is stopped as by a hardware fault that marks nothing Suspect, and its tile retried. -/
def tilePower (n : Nat) (s : State) : State :=
  match haltSet n s with
  | none => s
  | some (x, s1) => hardwareEnd n x 4 false s1

/-- A core whose domain has failed and for which no spare is left leaves service at once, with its windows and its Lease. -/
def mcUnpowered (n : Nat) (s : State) : State :=
  if coreInService n s ∧ mcPhys n s ∉ s.mcRetired then
    let s1 := match leaseOf n s with
      | none => s
      | some l => dropLease n l s
    removeCore n 0x1F 1 { s1 with windows := s1.windows.filter (fun w => decide (w.core ≠ n)) }
  else s

/-- A Matrix Core's domain fails: its work is abandoned and retried, and the core is retired at once. -/
def mcPower (p : Nat) (s : State) : State :=
  match mcLogical p s with
  | some n => mcUnpowered n (mcRetire n 0x1F 1 (tilePower n (unitNote 1 1 0x1F n p 0xFFFF 1 s)))
  | none =>
    match (s.mcRetiring.find? (fun x => decide (x.2 = p))) with
    | some x => mcRetire x.1 0x1F 1 (unitNote 1 1 0x1F 0xFFFF p 0xFFFF 1 { s with mcRetired := insertNat p s.mcRetired, mcRetiring := put x.1 none s.mcRetiring })
    | none => if p ∈ s.mcRetired then s else subF FLT_SPARE_MC 1 (subF MXC_STAT_SPARES 1 (unitNote 1 1 0x1F 0xFFFF p 0xFFFF 1 { s with mcRetired := insertNat p s.mcRetired }))

/-- The code blocks in hand on a cluster that stops are redone once elsewhere, or end their allocations FAILED. -/
def clusterWork (m cause : Nat) (s : State) : State :=
  let ws := s.code.filter (fun w => decide (w.cluster = m))
  let other := (List.range 8).find? (fun k => decide (k ≠ m) && clusterIn k s)
  let u : FaultUnit := ⟨m, 0xFFFF, unitBand 4 m s, s.injecting⟩
  ws.foldl (fun s w => match other with
    | some k => if w.retried then modJob w.cell w.slot w.ul (modAlloc w.alloc (allocFail cause true u)) s else { s with code := s.code ++ [{ w with cluster := k, retried := true }] }
    | none => modJob w.cell w.slot w.ul (modAlloc w.alloc (allocFail cause w.retried u)) s) { s with code := s.code.filter (fun w => decide (w.cluster ≠ m)) }

/-- A Coding Cluster's domain fails: it leaves service (R172). -/
def clusterPower (m : Nat) (s : State) : State :=
  let s1 := unitNote 4 1 0x3F m 0xFFFF 0xFFFF 1 s
  if !clusterIn m s1 then s1
  else capacityRecompute (clusterWork m 0x3F (noteNoSpare 4 0x3F m 0xFFFF 1 (subF COD_STAT_ACTIVE 1 (setF (COD_CCm_INFO_IN_SERVICE m) 0 s1))))

/-- The work of logical Signal Core n is abandoned as by a fault, to be retried (R151, R152). -/
def sigPower (n : Nat) (s : State) : State :=
  match (sigOf n s).run with
  | none => s
  | some r =>
    let s1 := setF (SIG_Cn_INFO_KERNEL n) 0 (setF (SIG_Cn_INFO_STATE n) 0 s)
    if r.retry then setSig n { sigOf n s with run := none } (failJob r.cell r.slot (decide (r.kernel ≠ 0x11)) 0x2F true (scUnit n s) s1)
    else setSig n { sigOf n s with run := some { r with fault := some 15, stores := [] } } s1

/-- The logical numbers in service whose physical Signal Core lies on die g. -/
def sigGroup (g : Nat) (s : State) : List Nat := (List.range 64).filter (fun n => sigIn n s && decide (scPhys n s / 9 = g))

/-- A Signal Core group's domain fails: every core of it is retired, and spares of other groups take their numbers. -/
def groupPower (g : Nat) (s : State) : State :=
  let lost := ((scSpares s).filter (fun q => decide (q / 9 = g))).length
  let ns := sigGroup g s
  let s1 := subF FLT_SPARE_SC lost (subF SIG_STAT_SPARES lost { s with scRetired := (List.range 9).foldl (fun l i => if ns.any (fun n => decide (scPhys n s = 9 * g + i)) then l else insertNat (9 * g + i) l) s.scRetired })
  ns.foldl (fun s n => scRetire n 0x2F 1 (sigPower n (unitNote 2 1 0x2F n (scPhys n s) 0xFFFF 1 s))) s1

/-- DOMAIN_POWER_FAULT (R393). -/
def execDomainPowerFault (d : Fin 192) (s : State) : Host.Outcome State Fault Refusal :=
  let n := d.val
  goesOn s (if getF (PWR_DOMd_STATE n) s ≠ 1 ∧ getF (PWR_DOMd_STATE n) s ≠ 2 then s
    else if n < 160 then mcPower n (domFault n s)
    else if n < 168 then clusterPower (n - 160) (domFault n s)
    else if n < 176 then groupPower (n - 168) (domFault n s)
    else domFault n (portFailed (n - 176) 0xBF s))

/-- DOMAIN_POWER_UP (R392): a domain that powers up reads ON; a spare core's Core Scratch has been filled. -/
def execDomainPowerUp (d : Fin 192) (s : State) : Host.Outcome State Fault Refusal :=
  goesOn s (if getF (PWR_DOMd_STATE d) s = 1 then setF (PWR_DOMd_STATE d) 2 s else s)

end Sys2Proof.Machine
end

