-- ==== Sys2Proof/Machine/FabCmd.lean ====
section
/-! DEFINITION. The Fabric-class commands and Fabric Time (R281, R287, R295, R303, R304, R321 to R323). -/

namespace Sys2Proof.Machine

/-! ### FAB_PORT (R280 to R282) -/

/-- The port, the action and the lane that a FAB_PORT names. -/
def fpPort (p : Pkt) : Nat := pf p 0 1
def fpAction (p : Pkt) : Nat := pf p 1 1
def fpLane (p : Pkt) : Nat := pf p 2 1

/-- The payload check of FAB_PORT (R281). -/
def chkFabPort : Check := fun p s =>
  if 15 < fpPort p then some (badParam 32 15)
  else if 2 < fpAction p then some (badParam 33 2)
  else if fpAction p = 2 ∧ (!portUp (fpPort p) s ∨ flagF (HJF_Pp_STAT_SPARE_IN (fpPort p)) s) then some (badParam 33 0)
  else if fpAction p = 2 ∧ 3 < fpLane p then some (badParam 34 3)
  else none

/-- FAB_PORT commands that wait on a port end with a status. -/
def endWaiters (n st : Nat) (s : State) : State :=
  (hpOf n s).pkts.foldl (fun s i => finishId i st 0 s) (setHp n { hpOf n s with pkts := [] } s)

/-- Port n is turned off (R280, R322): a training it ends has failed. -/
def portOff (n : Nat) (s : State) : State :=
  let ws := portWaiters n s
  ws.foldl (failFabPort n 0xB0) (portDown n 0 (setHp n { hpOf n s with pkts := [] } s))

/-- Training of port n begins, or goes on, for a FAB_PORT. -/
def portTrain (p : Pkt) (s : State) : State :=
  let n := fpPort p
  let x := hpOf n s
  if portSt n s = 2 then finish p stOK 0 s
  else if portSt n s = 1 then setHp n { x with pkts := x.pkts ++ [p.id] } s
  else
    portDomain n true (setF (HJF_Pp_STAT_STATE n) 1 (setHp n { HPort.reset with
      inq := x.inq, pkts := [p.id], check := if bitAt 0 (pf p 3 1) then some (pf p 4 2) else none, allowSwitch := bitAt 1 (pf p 3 1), since := s.now } s))

/-- The effect of FAB_PORT. -/
def effFabPort (p : Pkt) (s : State) : State :=
  match fpAction p with
  | 0 => finish p stOK 0 (portOff (fpPort p) s)
  | 1 => portTrain p s
  | _ => finish p stOK 0 (hjfSpareIn (fpPort p) (fpLane p) s)

/-- FAB_PORT (R281). -/
def execFabPort (p : Pkt) (s : State) : Host.Outcome State Fault Refusal := goesOn s (runCmdOpen chkFabPort effFabPort p s)

/-! ### FAB_ROUTE and FAB_GROUP (R287, R295) -/

/-- The entry count, and entry i, of a table command. -/
def tabCount (p : Pkt) : Nat := pf p 0 2
def tabEntry (p : Pkt) (i : Nat) : Nat := pf p (8 + 8 * i) 8

/-- The entries of a table command. -/
def tabEntries (p : Pkt) : List Nat := (List.range (tabCount p)).map (tabEntry p)

/-- A table command's count, and the first of its entries that breaks a rule. -/
def chkTable (bad : Nat → State → Bool) : Check := fun p s =>
  if tabCount p = 0 ∨ 499 < tabCount p ∨ p.payload.length < 8 + 8 * tabCount p then some (badParam 32 499)
  else ((List.range (tabCount p)).find? (fun i => bad (tabEntry p i) s)).map (fun i => badParam (40 + 8 * i) 0)

/-- A route entry is refused: it names the device's own ID, names a port twice, or sets a reserved bit. -/
def badRoute (e : Nat) (s : State) : Bool :=
  decide (e % 65536 = ownId s) || decide (e / 2 ^ 38 ≠ 0) || (rtValid e && decide (¬ (rtPaths e).Nodup))

/-- A route entry is written; a changed entry makes its destination due a new epoch (R310). -/
def putRoute (e : Nat) (s : State) : State :=
  let d := e % 65536
  let v := if rtValid e then e else 0
  if routeOf d s = v then s
  else { s with routes := put d (if v = 0 then none else some v) s.routes, epochPend := insertNat d s.epochPend }

/-- FAB_ROUTE (R287). -/
def execFabRoute (p : Pkt) (s : State) : Host.Outcome State Fault Refusal :=
  goesOn s (runCmd (chkTable badRoute) (fun p s => ((tabEntries p).foldl (fun s e => putRoute e s) s, stOK, 0)) p s)

/-- A group entry is refused: a reserved bit, or more members than 4,096. -/
def badGroup (e : Nat) (_s : State) : Bool := bitAt 15 e || decide (e / 2 ^ 45 ≠ 0) || decide (4096 < gpMembers e)

/-- FAB_GROUP (R295). -/
def execFabGroup (p : Pkt) (s : State) : Host.Outcome State Fault Refusal :=
  goesOn s (runCmd (chkTable badGroup) (fun p s =>
    ((tabEntries p).foldl (fun s e => { s with groups := put (e % 4096) (if gpValid e then some e else none) s.groups }) s, stOK, 0)) p s)

/-! ### FAB_FENCE and FAB_UNFENCE (R321 to R323) -/

/-- The checks of both: the partition, and its state. -/
def chkFence (st : Nat) : Check := fun p s =>
  if 7 < pf p 0 1 then some (badParam 32 7)
  else if partSt (pf p 0 1) s = st then none
  else some (stSTATE_CONFLICT, conflictDetail 6 (pf p 0 1) (partSt (pf p 0 1) s))

/-- Hjelo ports that PART_SET has assigned to a partition. -/
def partPorts (n : Nat) (s : State) : List Nat := (List.range 16).filter (fun i => (lookup n s.parts).any (fun q => bitAt i q.ports))

/-- The Fence Gate of partition n closes; ELEC turns its ports off. -/
def fence (n : Nat) (elec : Bool) (ext : Nat) (s : State) : State :=
  let s1 := setF (HJF_GATE_KEYp_EXTKEY n) ext (orF HJF_GATE_FENCED n (setF (SCHED_Pp_INFO_STATE n) 2 s))
  if elec then (partPorts n s).foldl (fun s i => portOff i s) (orF HJF_GATE_ELEC n s1) else s1

/-- The Fence Gate of partition n opens. -/
def unfence (n : Nat) (s : State) : State :=
  let clear (f : Fld) (s : State) : State := setF f (getF f s - (if bitAt n (getF f s) then 2 ^ n else 0)) s
  setF (HJF_GATE_KEYp_EXTKEY n) 0 (clear HJF_GATE_ELEC (clear HJF_GATE_FENCED (setF (SCHED_Pp_INFO_STATE n) 1 s)))

/-- FAB_FENCE (R321 to R323). -/
def execFabFence (p : Pkt) (s : State) : Host.Outcome State Fault Refusal :=
  goesOn s (runCmd (chkFence 1) (fun p s => (fence (pf p 0 1) (bitAt 0 (pf p 1 1)) (pf p 4 4) s, stOK, 0)) p s)

/-- FAB_UNFENCE (R323). -/
def execFabUnfence (p : Pkt) (s : State) : Host.Outcome State Fault Refusal :=
  goesOn s (runCmd (chkFence 2) (fun p s => (unfence (pf p 0 1) s, stOK, 0)) p s)

/-! ### FAB_QUERY (R304) -/

/-- The checks of FAB_QUERY. -/
def chkFabQuery : Check := fun p _ =>
  if 2 < pf p 0 1 then some (badParam 32 2)
  else if pf p 0 1 = 0 ∧ 15 < pf p 2 2 then some (badParam 34 15)
  else if pf p 0 1 = 2 ∧ 4095 < pf p 2 2 then some (badParam 34 4095)
  else if pf p 4 4 < 64 then some (badParam 36 64)
  else none

/-- The images of HJF_Pp_STAT and HJF_Pp_PEER. -/
def portImage (n : Nat) (s : State) : List Byte :=
  natLE 4 (getF (HJF_Pp_STAT_STATE n) s + getF (HJF_Pp_STAT_SPARE_IN n) s * 4 + getF (HJF_Pp_STAT_LANE_OUT n) s * 8 + getF (HJF_Pp_STAT_PEER_SWITCH n) s * 32) ++
    natLE 4 (getF (HJF_Pp_PEER_ID n) s + getF (HJF_Pp_PEER_VALID n) s * 65536)

/-- FAB_QUERY. -/
def execFabQuery (p : Pkt) (s : State) : Host.Outcome State Fault Refusal :=
  goesOn s (runCmd chkFabQuery (writeRecord (fun p => pf p 8 8) (fun p s => padTo 64 (match pf p 0 1 with
    | 0 => portImage (pf p 2 2) s
    | 1 => natLE 8 (routeOf (pf p 2 2) s)
    | _ => natLE 8 (groupOf (pf p 2 2) s)))) p s)

/-! ### Fabric Time (R303) -/

/-- The root named by a measurement is TD7's grandmaster; another than before is a grandmaster change (R40, R303). -/
def fabricGm (root : Nat) (s : State) : State :=
  let old := getF (AIR_TDn_GM_CLOCKID 7) s
  let s1 := setAir 7 { airOf 7 s with gm := some (root, true) } (setF (AIR_TDn_GM_CLOCKID 7) root s)
  if old ≠ root ∧ tdState 7 s = 3 then holdoverEntry 7 2 s1 else s1

/-- FABRIC_TIME_EXCHANGE (R303): a two-way exchange on port p gives an offset, which is a valid measurement of TD7 when the
port is the parent's and the parent is root or has TD7 LOCKED. -/
def execFabricTimeExchange (p : Fin 16) (off16 : Int) (root locked : Bool) (rootId : Nat) (s : State) : Host.Outcome State Fault Refusal :=
  goesOn s (if flagF HJF_TIME_ROOT s ∨ !portUp p s ∨ p.val ≠ getF HJF_TIME_PARENT s ∨ !flagF (AIR_TDn_CTRL_EN 7) s then s
    else if root ∨ locked then validMeasurement 7 off16 0 (fabricGm (rootId % 65536) s)
    else invalidMeasurement 7 s)

end Sys2Proof.Machine
end

