-- ==== Sys2Proof/Machine/Refetch.lean ====
section
/-! DEFINITION. Refetch of poisoned units from an object's backing (R247, R271, R272). -/

namespace Sys2Proof.Machine

/-- The blocks of an object lose POISON (R270). -/
def clearPoisonBits (o : Obj) (s : State) : State := (List.range (objBlocks o)).foldl (fun s j => entBit 59 (o.block + j) false s) s

/-- Every unit has been written: the object is SETTLED, and what it held is served (R272). -/
def refetchDone (i : Nat) (o : Obj) (s : State) : State :=
  releaseHeld (tally 12 MEMC_T_REFETCH_COUNT 1 (showRefetch (clearPoisonBits o (putObj i (some { o with st := 1, units := [], since := 0 }) s))))

/-- A unit has failed twice, or the bound has passed: the object is POISONED (R272). -/
def refetchFail (i : Nat) (o : Obj) (s : State) : State :=
  releaseHeld (memEvent MEMC_STAT_REFETCH_FAIL (tally 12 MEMC_T_REFAIL_COUNT 1 (showRefetch (putObj i (some { o with st := 4, units := [], since := 0 }) s))))

/-- The data that a unit's fetch returned: host memory for BKIND 1, what came over the fabric for BKIND 2; none when the
fetch failed. -/
def unitData (o : Obj) (unit : Nat) (data : Option (List Byte)) (s : State) : Option (List Byte) :=
  if o.bkind = 1 then (if mayMaster (partFunc o.part s) s ∧ data.isSome then some (readBytes s.hostMem (o.baddr + unit * 4096) 4096) else none)
  else data.map (padTo 4096)

/-- The lines of a unit that still carry a mark, by offset in the unit. -/
def unitMarks (o : Obj) (unit : Nat) (s : State) : List Nat :=
  ((List.range 64).map (fun j => 64 * j)).filter (fun x =>
    (storeAddr (o.block * 2 ^ 21 + unit * 4096 + x) s).any (fun m => marked m s))

/-- Writes the lines that still carry a mark, whole; data for a line that has lost its mark are discarded. -/
def writeUnit (o : Obj) (unit : Nat) (l : List Byte) (s : State) : State :=
  (unitMarks o unit s).foldl (fun s x => (writeLine (o.block * 2 ^ 21 + unit * 4096 + x) ((l.drop x).take 64) s).1) s

/-- A fetch of a unit that has failed k times fails: it is tried once more, or the object is POISONED (R271, R272). -/
def attemptFails (i unit k : Nat) (o : Obj) (s : State) : State :=
  if 1 ≤ k then refetchFail i o s else putObj i (some { o with units := o.units.map (fun u => if u.1 = unit then (unit, k + 1) else u) }) s

/-- REFETCH_UNIT_ARRIVE (R271): a fetch of a unit ends.  A refetch over the fabric counts at the partition's regulator
(R344). -/
def execRefetchUnitArrive (i unit : Nat) (data : Option (List Byte)) (s : State) : Host.Outcome State Fault Refusal :=
  goesOn s (match lookup i s.objs with
    | none => s
    | some o => match lookup unit o.units with
      | none => s
      | some k =>
        if o.st ≠ 5 ∨ !storable (o.block * 2 ^ 21 + unit * 4096) 4096 s then s
        else
          let s1 := if o.bkind = 2 then spend o.part 2 32 s else s
          match unitData o unit data s with
          | none => attemptFails i unit k o (if o.bkind = 1 then readFails (partFunc o.part s1) s1 else s1)
          | some l =>
            let o1 := { o with units := o.units.filter (fun u => decide (u.1 ≠ unit)) }
            let s2 := putObj i (some o1) (writeUnit o unit l s1)
            if o1.units.isEmpty then refetchDone i o1 s2 else releaseHeld s2)

/-- REFETCH_BOUND_EXPIRY (R271, R272): the Refetch Bound passes, in units of 100 µs. -/
def execRefetchBoundExpiry (i : Nat) (s : State) : Host.Outcome State Fault Refusal :=
  goesOn s (match lookup i s.objs with
    | none => s
    | some o => if o.st = 5 ∧ o.since + getF MEMC_REFETCH_BOUND s * 100000 * 1536 ≤ s.now then refetchFail i o s else s)

end Sys2Proof.Machine
end

