-- ==== Sys2Proof/Machine/Parts.lean ====
section
/-! DEFINITION. Partitions, bandwidth regulators, mailboxes, dirty logs and the fills that return a partition's frames
(R264, R340 to R347). -/

namespace Sys2Proof.Machine

/-! ### PART_SET (R340 to R342) -/

/-- Fields of the payload. -/
def psPart (p : Pkt) : Nat := pf p 0 1
def psFunc (p : Pkt) : Nat := pf p 1 1
def psNres (p : Pkt) : Nat := pf p 3 1
def psMaxCtx (p : Pkt) : Nat := pf p 4 2
def psKey (p : Pkt) : Nat := pf p 8 4
def psCores (p : Pkt) : Nat := pf p 24 18
def psPorts (p : Pkt) : Nat := pf p 42 2

/-- The quota of a tier, or the limit of T2, that the payload sets. -/
def psQuota (p : Pkt) (t : Nat) : Nat := pf p (8 + 4 * t) 4

/-- Bits set among the low n of a number. -/
def popCount (n v : Nat) : Nat := ((List.range n).filter (fun i => bitAt i v)).length

/-- Frames of the save region and the swap area (R341). -/
def regionFrames (p : Pkt) (t : Nat) : Nat :=
  if t = 1 then ceilDiv (psNres p * popCount 144 (psCores p) * 16384) (2 ^ 21)
  else if t = 3 then ceilDiv (psMaxCtx p * popCount 144 (psCores p) * 1808 * 1024) (2 ^ 21)
  else 0

/-- CORES of partition q. -/
def coresMask (q : Nat) (s : State) : Nat :=
  getF (SCHED_Pp_CORESi_CORES q 0) s + getF (SCHED_Pp_CORESi_CORES q 1) s * 2 ^ 64 + getF (SCHED_Pp_CORESi_CORES q 2) s * 2 ^ 128

/-- Some other partition that is not ABSENT has a property. -/
def otherPartHas (n : Nat) (ok : Nat → Bool) (s : State) : Bool := eightParts.any (fun q => decide (q ≠ n) && decide (partSt q s ≠ 0) && ok q)

/-- The least quota or limit of a tier that the partition may be given. -/
def leastQuota (p : Pkt) (t : Nat) (s : State) : Nat :=
  max (regionFrames p t) (if partSt (psPart p) s = 1 then getF (usedF (psPart p) t) s else 0)

/-- A quota or limit below what the partition needs. -/
def quotaBad (p : Pkt) (t : Nat) (s : State) : Option (Nat × Nat) :=
  if psQuota p t < leastQuota p t s then some (badParam (40 + 4 * t) (leastQuota p t s)) else none

/-- The payload check of PART_SET, fields in ascending offset (R342). -/
def parPartSet : Check := fun p s =>
  if 7 < psPart p then some (badParam 32 0)
  else if 32 < psFunc p ∨ (psFunc p ≠ 0 ∧ otherPartHas (psPart p) (fun q => decide (getF (SCHED_Pp_INFO_FUNC q) s = psFunc p)) s) then some (badParam 33 0)
  else if psNres p < 1 ∨ 64 < psNres p then some (badParam 35 0)
  else if psMaxCtx p < psNres p ∨ 512 < psMaxCtx p then some (badParam 36 0)
  else if psKey p = 0 ∨ otherPartHas (psPart p) (fun q => (lookup q s.parts).any (fun x => decide (x.key = psKey p))) s then some (badParam 40 0)
  else ([1, 2, 3].findSome? (fun t => quotaBad p t s)).or
    (if psCores p = 0 ∨ 2 ^ getF DEV_IDENT_GRADE s ≤ psCores p ∨ otherPartHas (psPart p) (fun q => decide (coresMask q s &&& psCores p ≠ 0)) s then some (badParam 56 0)
    else if otherPartHas (psPart p) (fun q => (lookup q s.parts).any (fun x => decide (x.ports &&& psPorts p ≠ 0))) s then some (badParam 74 0)
    else none)

/-- The refusal of a command by the state of its partition. -/
def partConflict (n : Nat) (s : State) : Nat × Nat := (stSTATE_CONFLICT, conflictDetail 6 n (partSt n s))

/-- PART_SET is legal while the partition is ABSENT, or OPEN with no context ACTIVE. -/
def stPartSet : Check := fun p s =>
  if partSt (psPart p) s = 2 then some (fencedRefusal (psPart p))
  else if partSt (psPart p) s = 1 ∧ s.ctxs.any (fun c => decide (c.2.part = psPart p) && decide (c.2.st = 2)) then some (partConflict (psPart p) s)
  else none

/-- Frames of regions that the partition holds in a tier. -/
def regionsOf (n t : Nat) (s : State) : List Nat :=
  (((lookup n s.parts).map (fun q => q.regions)).getD [] |>.filter (fun r => decide (r.1 = t))).map (fun r => r.2)

/-- The resource check: the quotas beside each other, the pool and the radio carve, and free frames for the regions. -/
def resPartSet : Check := fun p s =>
  let n := psPart p
  let over0 := decide (freeT0 s + getF (TIER_Pp_T0_QUOTA n) s < psQuota p 1)
  let over1 := decide (freeT1 s + getF (TIER_Pp_T1_QUOTA n) s < psQuota p 2)
  let more (t : Nat) : Nat := regionFrames p t - (regionsOf n t s).length
  let free3 := getF TIER_CAP_T2 s - (heldFrames 3 s).length
  let short := decide (psQuota p 1 < getF (usedF n 1) s + more 1) || decide (psQuota p 3 < getF (usedF n 3) s + more 3) || decide (free3 < more 3) ||
    decide (((List.range 4).map (fun b => bankFree b s)).sum < more 1)
  if over0 || over1 || short then some noFrames else none

/-- The checks of PART_SET. -/
def chkPartSet : Check := checks [parPartSet, stPartSet, resPartSet]

/-- Takes k more free frames of a tier for partition n's regions. -/
def growRegion (n t : Nat) : Nat → State → State
  | 0, s => s
  | k + 1, s =>
    let f := freeFrame t 0 true s
    let q := (lookup n s.parts).getD ⟨0, 0, 0, []⟩
    growRegion n t k (charge n t 1 false { s with parts := put n (some { q with regions := q.regions ++ [(t, f)] }) s.parts })

/-- The regions of a tier take a new length: more frames, or the surplus waits to be filled and returned. -/
def fitRegion (n t len : Nat) (s : State) : State :=
  let have_ := regionsOf n t s
  if have_.length ≤ len then growRegion n t (len - have_.length) s
  else
    let q := (lookup n s.parts).getD ⟨0, 0, 0, []⟩
    { s with parts := put n (some { q with regions := q.regions.filter (fun r => decide (r.1 ≠ t)) ++ (have_.take len).map (fun f => (t, f)) }) s.parts
             freeing := s.freeing ++ (have_.drop len).map (fun f => (t, f, n)) }

/-- Sets the quotas and the limit of partition n. -/
def setQuotas (n t0 t1 t2 : Nat) (s : State) : State := setF (TIER_Pp_T2_LIMIT n) t2 (setF (TIER_Pp_T1_QUOTA n) t1 (setF (TIER_Pp_T0_QUOTA n) t0 s))

/-- Sets CORES of partition n. -/
def setCores (n m : Nat) (s : State) : State :=
  setF (SCHED_Pp_CORESi_CORES n 2) (m / 2 ^ 128) (setF (SCHED_Pp_CORESi_CORES n 1) (m / 2 ^ 64) (setF (SCHED_Pp_CORESi_CORES n 0) m s))

/-- SCHED_DET.PARTS shows which partitions are in Deterministic mode (R362). -/
def showDet (s : State) : State := setF SCHED_DET_PARTS ((eightParts.map (fun p => getF (SCHED_Pp_INFO_DET p) s * 2 ^ p)).sum) s

/-- Sets what SCHED_Pp_INFO and SCHED_DET show. -/
def setPartInfo (n st func nres det : Nat) (s : State) : State :=
  showDet <|
  setF (SCHED_Pp_INFO_DET n) det (setF (SCHED_Pp_INFO_NRES n) nres (setF (SCHED_Pp_INFO_FUNC n) func (setF (SCHED_Pp_INFO_STATE n) st s)))

/-- The effect of PART_SET: the partition is OPEN with the payload's settings and regions. -/
def effPartSet : Effect := fun p s =>
  let n := psPart p
  let q : Part := ⟨psKey p, psMaxCtx p, psPorts p, ((lookup n s.parts).map (fun q => q.regions)).getD []⟩
  let s1 := setPartInfo n 1 (psFunc p) (psNres p) (pf p 2 1 % 2) { s with parts := put n (some q) s.parts }
  let s2 := setQuotas n (psQuota p 1) (psQuota p 2) (psQuota p 3) (setCores n (psCores p) s1)
  (fitRegion n 3 (regionFrames p 3) (fitRegion n 1 (regionFrames p 1) s2), stOK, 0)

/-- PART_SET. -/
def execPartSet (p : Pkt) (s : State) : Host.Outcome State Fault Refusal := goesOn s (runCmd chkPartSet effPartSet p s)

/-! ### PART_CLEAR (R343) -/

/-- The checks of PART_CLEAR: OPEN or FENCED, with every context ABSENT. -/
def chkPartClear : Check := fun p s =>
  if 7 < psPart p then some (badParam 32 0)
  else if partSt (psPart p) s = 0 ∨ s.ctxs.any (fun c => decide (c.2.part = psPart p)) then some (partConflict (psPart p) s)
  else none

/-- The commands that wait for a migration of object i find it ABSENT (DESIGN CHOICE, log entry 23). -/
def dropWaiters (i : Nat) (s : State) : State :=
  match lookup i s.objs with
  | none => s
  | some o => o.waiters.foldl (fun s w => finishId w stSTATE_CONFLICT (conflictDetail 5 i 0) s) s

/-- Objects of partition n. -/
def partObjs (n : Nat) (s : State) : List Nat := (s.objs.filter (fun o => decide (o.2.part = n))).map (fun o => o.1)

/-- The fills under way show in MEMC_STAT. -/
def showFill (s : State) : State := setF MEMC_STAT_FILLING (b2n (!s.fills.isEmpty)) s

/-- Every object of partition n becomes ABSENT. -/
def removeObjs (n : Nat) (s : State) : State := (partObjs n s).foldl (fun s i => removeObj i (dropWaiters i s)) s

/-- Partition n is cleared, and its frames wait to be filled; k is 1 more than the packet that ends with the fill, or 0. -/
def clearPart (n k : Nat) (s : State) : State :=
  let rs := ((lookup n s.parts).map (fun q => q.regions)).getD []
  let s1 := removeObjs n s
  let s2 := { s1 with freeing := s1.freeing ++ rs.map (fun r => (r.1, r.2, n)), parts := put n none s1.parts, fills := s1.fills ++ [(n, k, true)] }
  showFill (setPartInfo n 0 0 0 0 (setCores n 0 (unfence n s2)))

/-- The effect of PART_CLEAR; the final reply follows the fill. -/
def effPartClear (p : Pkt) (s : State) : State := clearPart (psPart p) (p.id + 1) s

/-- PART_CLEAR. -/
def execPartClear (p : Pkt) (s : State) : Host.Outcome State Fault Refusal := goesOn s (runCmdOpen chkPartClear effPartClear p s)

/-! ### Fills (R263, R264) -/

/-- A frame that waits to return is filled and its charge taken back. -/
def returnFrame (s : State) (x : Nat × Nat × Nat) : State := uncharge (x.2.2 % 16) x.1 1 (decide (16 ≤ x.2.2)) (fillFrame x.1 x.2.1 s)

/-- Every frame of partition n that waits to return is filled and returned. -/
def returnFrames (n : Nat) (s : State) : State :=
  (s.freeing.filter (fun x => decide (x.2.2 % 16 = n))).foldl returnFrame { s with freeing := s.freeing.filter (fun x => decide (x.2.2 % 16 ≠ n)) }

/-- A partition that is ABSENT holds no quota once its frames have returned. -/
def dropQuotas (n : Nat) (s : State) : State := if partSt n s = 0 then setQuotas n 0 0 0 s else s

/-- Every store is filled with zeros and every poison mark is cleared. -/
def fillStores (s : State) : State :=
  setF MEMC_FILL_PCT 100 (setF MEMC_FILL_DONE 7 { s with mem := [], poison := [], scratch := [], pageBufs := [] })

/-- FILL_DONE: the fill of partition i's frames has ended, or for i = 8 a fill of every store (R264); a PART_CLEAR gets its
final reply. -/
def execFillDone (i : Nat) (s : State) : Host.Outcome State Fault Refusal :=
  goesOn s (match s.fills.find? (fun x => decide (x.1 = i)) with
    | none => s
    | some x =>
      let s1 := { s with fills := s.fills.erase x }
      let s2 := if i = 8 then fillStores s1 else (if x.2.2 then dropQuotas i (returnFrames i s1) else returnFrames i s1)
      showFill (if x.2.1 = 0 then s2 else finishId (x.2.1 - 1) stOK 0 s2))

/-! ### Bandwidth regulators (R344, R358) -/

/-- The registers of regulator x of partition p: RATE and BURST. -/
def regulRate (p x : Nat) : Fld := if x = 0 then SCHED_Pp_REG_T1_RATE p else if x = 1 then SCHED_Pp_REG_T2_RATE p else SCHED_Pp_REG_FAB_RATE p
def regulBurst (p x : Nat) : Fld := if x = 0 then SCHED_Pp_REG_T1_BURST p else if x = 1 then SCHED_Pp_REG_T2_BURST p else SCHED_Pp_REG_FAB_BURST p

/-- One refill: RATE and BURST come into force and the tokens rise by RATE × 128 ns, up to BURST × 1 KiB. -/
def refillOne (p : Nat) (s : State) (x : Nat) : State :=
  let rate := getF (regulRate p x) s
  let burst := getF (regulBurst p x) s * 1024
  let t := (regulOf p x s).tokens + (rate * 128 : Nat)
  { s with regul := put (p * 3 + x) (some ⟨if (burst : Int) < t then burst else t, rate, burst⟩) s.regul }

/-- REGULATOR_REFILL: the three regulators of a partition refill and what waited on them goes on. -/
def execRegulatorRefill (p : Fin 8) (s : State) : Host.Outcome State Fault Refusal :=
  goesOn s (let s1 := [0, 1, 2].foldl (refillOne p) s
    fabGo ((partCores p s1).foldl (fun s n => pumpAll n s) s1))

/-! ### Mailboxes (R346) -/

/-- An access to a full area sets MBX_OVR. -/
def mbxOvr (s : State) : State := event SCHED_STAT_MBX_OVR 0 SCHED_EVT_MASK_MASK (SCHED_STAT_MBX_OVR.lo - 16) SCHED_EVT_VEC_VEC s

/-- A POST of an area: FULL is set and the receiver's vector is raised; while FULL it is ignored. -/
def mbxPost (full : Fld) (rcv : Nat) (vec : Fld) (s : State) : State :=
  if flagF full s then mbxOvr s else raiseVec rcv (getF vec s) (setF full 1 s)

/-- An ACK of an area: FULL clears and the sender's vector is raised.  An ACK of an area that is not FULL acknowledges nothing. -/
def mbxAck (full : Fld) (snd : Nat) (vec : Fld) (s : State) : State :=
  if flagF full s then raiseVec snd (getF vec s) (setF full 0 s) else s

/-- V2P_POST: VF v alone writes it. -/
def execV2pPost (f v : Fin 33) (s : State) : Host.Outcome State Fault Refusal :=
  goesOn s (if !hostUp f s then s else if f = v ∧ v ≠ 0 then mbxPost (SCHED_MBXv_CTRL_V2P_FULL (v - 1)) 0 (SCHED_MBXv_VEC_PF_VEC (v - 1)) s else s)

/-- V2P_ACK: the PF alone writes it. -/
def execV2pAck (f v : Fin 33) (s : State) : Host.Outcome State Fault Refusal :=
  goesOn s (if !hostUp f s then s else if f = 0 ∧ v ≠ 0 then mbxAck (SCHED_MBXv_CTRL_V2P_FULL (v - 1)) v (SCHED_MBXv_VEC_VF_VEC (v - 1)) s else s)

/-- P2V_POST: the PF alone writes it. -/
def execP2vPost (f v : Fin 33) (s : State) : Host.Outcome State Fault Refusal :=
  goesOn s (if !hostUp f s then s else if f = 0 ∧ v ≠ 0 then mbxPost (SCHED_MBXv_CTRL_P2V_FULL (v - 1)) v (SCHED_MBXv_VEC_VF_VEC (v - 1)) s else s)

/-- P2V_ACK: VF v alone writes it. -/
def execP2vAck (f v : Fin 33) (s : State) : Host.Outcome State Fault Refusal :=
  goesOn s (if !hostUp f s then s else if f = v ∧ v ≠ 0 then mbxAck (SCHED_MBXv_CTRL_P2V_FULL (v - 1)) 0 (SCHED_MBXv_VEC_PF_VEC (v - 1)) s else s)

/-! ### Dirty logs (R347) -/

/-- EN of log v: from 0 to 1 BUF0 becomes active. -/
def dlogEn (v w : Nat) (s : State) : State :=
  let s1 := if bitAt 0 w ∧ !flagF (SCHED_DLOGv_CTRL_EN v) s then setF (SCHED_DLOGv_STAT_ACTIVE v) 0 s else s
  setF (SCHED_DLOGv_CTRL_EN v) (w % 2) s1

/-- SWAP of log v: ACTIVE switches and FLUSH reads 1; while FLUSH it is ignored and sets SWAP_REFUSED. -/
def dlogSwap (v w : Nat) (s : State) : State :=
  if !bitAt 1 w then s
  else if flagF (SCHED_DLOGv_STAT_FLUSH v) s then setF (SCHED_DLOGv_STAT_SWAP_REFUSED v) 1 s
  else setF (SCHED_DLOGv_STAT_FLUSH v) 1 (setF (SCHED_DLOGv_STAT_ACTIVE v) (1 - getF (SCHED_DLOGv_STAT_ACTIVE v) s) s)

/-- A write of SCHED_DLOGv_CTRL.  A VF does not see the dirty logs. -/
def dlogCtrl (f v w : Nat) (s : State) : State := if f = 0 ∧ v ≠ 0 then dlogSwap (v - 1) w (dlogEn (v - 1) w s) else s

/-- DLOG_ENABLE: a write of SCHED_DLOGv_CTRL. -/
def execDlogEnable (f v : Fin 33) (w : BitVec 32) (s : State) : Host.Outcome State Fault Refusal := goesOn s (if !hostUp f s then s else dlogCtrl f v w.toNat s)

/-- DLOG_SWAP: a write of SCHED_DLOGv_CTRL. -/
def execDlogSwap (f v : Fin 33) (w : BitVec 32) (s : State) : Host.Outcome State Fault Refusal := goesOn s (if !hostUp f s then s else dlogCtrl f v w.toNat s)

/-- DLOG_FLUSH_DONE: every write issued before the switch has been logged. -/
def execDlogFlushDone (v : Fin 33) (s : State) : Host.Outcome State Fault Refusal :=
  goesOn s (if v = 0 then s else setF (SCHED_DLOGv_STAT_FLUSH (v - 1)) 0 s)

end Sys2Proof.Machine
end

