-- ==== Sys2Proof/Machine/Sha3.lean ====
section
/-! DEFINITION. SHA3-384 of FIPS 202, as the security block uses it (R407, R408, R416). -/

namespace Sys2Proof.Machine

/-- A state of Keccak-f[1600]: 25 lanes of 64 bits, lane x + 5 y. -/
abbrev Keccak := List Nat

/-- Lane i of a state. -/
def lane (i : Nat) (a : Keccak) : Nat := a.getD i 0

/-- Rotation to the left of a 64-bit lane. -/
def rotl (n v : Nat) : Nat := (v * 2 ^ (n % 64) + v / 2 ^ (64 - n % 64)) % 2 ^ 64

/-- The rotation of each lane in the step rho. -/
def rhoOffsets : List Nat := [0, 1, 62, 28, 27, 36, 44, 6, 55, 20, 3, 10, 43, 25, 39, 41, 45, 15, 21, 8, 18, 2, 61, 56, 14]

/-- The round constants of the step iota. -/
def iotaConstants : List Nat := [0x1, 0x8082, 0x800000000000808A, 0x8000000080008000, 0x808B, 0x80000001, 0x8000000080008081,
  0x8000000000008009, 0x8A, 0x88, 0x80008009, 0x8000000A, 0x8000808B, 0x800000000000008B, 0x8000000000008089,
  0x8000000000008003, 0x8000000000008002, 0x8000000000000080, 0x800A, 0x800000008000000A, 0x8000000080008081,
  0x8000000000008080, 0x80000001, 0x8000000080008008]

/-- The step theta. -/
def theta (a : Keccak) : Keccak :=
  let c := (List.range 5).map (fun x => lane x a ^^^ lane (x + 5) a ^^^ lane (x + 10) a ^^^ lane (x + 15) a ^^^ lane (x + 20) a)
  (List.range 25).map (fun i => lane i a ^^^ lane ((i % 5 + 4) % 5) c ^^^ rotl 1 (lane ((i % 5 + 1) % 5) c))

/-- The steps rho and pi: lane (x, y) comes from lane (x + 3 y, x), rotated. -/
def rhoPi (a : Keccak) : Keccak :=
  (List.range 25).map (fun i =>
    let j := (i % 5 + 3 * (i / 5)) % 5 + 5 * (i % 5)
    rotl (rhoOffsets.getD j 0) (lane j a))

/-- The step chi. -/
def chi (a : Keccak) : Keccak :=
  (List.range 25).map (fun i =>
    let y := i / 5 * 5
    lane i a ^^^ ((lane (y + (i + 1 - y) % 5) a ^^^ (2 ^ 64 - 1)) &&& lane (y + (i + 2 - y) % 5) a))

/-- The step iota with constant k. -/
def iota (k : Nat) (a : Keccak) : Keccak := a.modify 0 (· ^^^ k)

/-- Keccak-f[1600]. -/
def keccakF (a : Keccak) : Keccak := iotaConstants.foldl (fun a k => iota k (chi (rhoPi (theta a)))) a

/-- Absorbs one block of 104 bytes. -/
def absorb (a : Keccak) (b : List Byte) : Keccak :=
  keccakF ((List.range 25).map (fun i => lane i a ^^^ (if i < 13 then fieldLE b (8 * i) 8 else 0)))

/-- Absorbs n further blocks. -/
def absorbAll : Nat → Keccak → List Byte → Keccak
  | 0, a, _ => a
  | n + 1, a, l => absorbAll n (absorb a (l.take 104)) (l.drop 104)

/-- The padding of SHA-3: 0x06, zeros and 0x80 up to a multiple of 104 bytes. -/
def sha3Pad (n : Nat) : List Byte :=
  let k := 104 - n % 104
  if k = 1 then [0x86] else [0x06] ++ zeros (k - 2) ++ [0x80]

/-- SHA3-384 of a message: 48 bytes. -/
def sha3 (l : List Byte) : List Byte :=
  let a := absorbAll (l.length / 104 + 1) (List.replicate 25 0) (l ++ sha3Pad l.length)
  ((List.range 6).flatMap (fun i => natLE 8 (lane i a)))

end Sys2Proof.Machine
end

