-- ==== Sys2Proof/Machine/Reset.lean ====
section
/-! DEFINITION. Device reset, and the Vault: its write buffer and its two-copy records (R405, R423, R424, R436). -/

namespace Sys2Proof.Machine

/-! ### Registers by offset -/

/-- The indices of a register set that an offset in the PF view names, if it lies on a register of the set. -/
def RegDef.indices (d : RegDef) (off : Nat) : Option (Nat × Nat) :=
  let r := off - d.base
  let i := if d.n1 = 1 then 0 else r / d.s1
  let q := r - i * d.s1
  let j := if d.n2 = 1 then 0 else q / d.s2
  if d.base ≤ off ∧ i < d.n1 ∧ j < d.n2 ∧ i * d.s1 + j * d.s2 = r then some (i, j) else none

/-- The register at an offset of the PF view: its set and indices (R463). -/
def regAt (off : Nat) : Option (RegDef × Nat × Nat) :=
  regTable.findSome? (fun d => (d.indices off).map (fun x => (d, x.1, x.2)))

/-- The field that a key of the register store names. -/
def fieldOfKey (k : Nat) : Option Fld :=
  (regAt (k / 64)).bind (fun x => (x.1.fields x.2.1 x.2.2).find? (fun f => decide (f.key = k)))

/-- A register field keeps its value through a device reset: it is a Vault or a fused value, and a power domain keeps FAULT
alone. -/
def keptField (k v : Nat) : Bool :=
  match fieldOfKey k with
  | none => false
  | some f => f.kept && (decide (f.off < PWR_DOMd 0) || decide (PWR_DOMd 191 < f.off) || decide (f.lo ≠ 0) || decide (v = 3))

/-! ### Device reset (R436) -/

/-- LC_NONCE takes a fresh value (R418). -/
def freshNonce (s : State) : State :=
  [0, 1, 2, 3].foldl (fun s n => let d := drawFree 64 s; setF (SEC_LC_NONCEn_NONCE n) d.1 d.2) s

/-- What a device reset leaves: every register at its reset value but those of the Vault and the fuses, every table, queue and
memory of the device empty; the Vault with the writes in its buffer, the units retired, and what lies outside the device.  The
filling of the stores (R263) is the zero memory. -/
def resetCore (s : State) : State :=
  let r := State.reset
  showVault { r with
    pending := s.pending, now := s.now, draws := s.draws, regs := s.regs.filter (fun x => keptField x.1 x.2), msgs := s.msgs,
    hostMem := s.hostMem, rdata := s.rdata, rstat := s.rstat, airPps := s.airPps, fhSent := s.fhSent, fabSent := s.fabSent, fabDrop := s.fabDrop,
    histNext := s.histNext, mcRemoved := s.mcRemoved, scRemoved := s.scRemoved, mcRetired := s.mcRetired, scRetired := s.scRetired,
    laneRetired := s.laneRetired, mcRetiring := s.mcRetiring, assayDue := s.assayDue, unitCause := s.unitCause, laneMiss := s.laneMiss,
    chanRetired := s.chanRetired, repairs := s.repairs, resetAt := s.now, vault := s.vault, wear := s.wear,
    vbuf := s.vbuf.map (fun w => { w with pkt := 0, reset := false }), mgmtOut := s.mgmtOut, flash := s.flash, fuseRetired := s.fuseRetired,
    perst := s.perst, vin := s.vin, vio := s.vio, perstAt := s.perstAt, tapIr := s.tapIr, tapOut := s.tapOut, bsr := s.bsr }

/-- A device reset, which keeps the strapped address: outside PERST# the bring-up sequence begins, with a fresh nonce. -/
def deviceReset (s : State) : State :=
  let s1 := setF DEV_MCTP_I3C_ADDR (getF DEV_MCTP_I3C_ADDR s) (resetCore s)
  if inReset s then s1 else freshNonce s1

/-! ### The Vault's registers and records (R423, R424) -/

/-- Sets a bit of SEC_STAT and raises its vector where enabled (R427). -/
def secEvent (f : Fld) (s : State) : State := event f 0 SEC_EVT_MASK_MASK f.lo SEC_EVT_VEC_VEC s

/-- The CRC-64 of a record's words: MODE 1, seeded with the record's first word index. -/
def recCrc (first : Nat) (ws : List Nat) : Nat := chkFeed 1 (chkSeed 1 first) (ws.flatMap (fun w => natLE 8 w))

/-- The words of a copy with its generation in the low half of the last word before the CRC. -/
def recWords (first gen : Nat) (ws : List Nat) : List Nat :=
  let l := ws.modify (ws.length - 1) (fun w => w / 2 ^ 32 * 2 ^ 32 + gen % 2 ^ 32)
  l ++ [recCrc first l]

/-- Buffers the writes of a list of words from a word up. -/
def vaultRun (at_ : Nat) : List Nat → State → State
  | [], s => s
  | w :: r, s => vaultRun (at_ + 1) r (vaultPutFor 0 false at_ w s)

/-- Marks the last buffered write: a packet ends once it is persistent, and the device then resets where asked. -/
def vaultLast (pkt : Nat) (reset : Bool) (s : State) : State :=
  { s with vbuf := s.vbuf.modify (s.vbuf.length - 1) (fun w => { w with pkt := pkt, reset := reset }) }

/-- The words of the copy at a word, or none when its CRC fails or a word of it is uncorrectable. -/
def copyAt (first at_ n : Nat) (ue : List Nat) (s : State) : Option (List Nat) :=
  let l := (List.range n).map (fun i => vaultNow (at_ + i) s)
  if ue.any (fun w => decide (at_ ≤ w) && decide (w < at_ + n)) ∨ recCrc first (l.take (n - 1)) ≠ l.getD (n - 1) 0 then none else some l

/-- The generation of a copy. -/
def copyGen (n : Nat) (l : List Nat) : Nat := l.getD (n - 2) 0 % 2 ^ 32

/-- At reset the valid copy of a record of n words is used: the only one, which is rewritten into the other, or the one of the
higher generation, copy A when they are equal; with neither valid the record reads as zeros (DESIGN CHOICE, log entry 25). -/
def chooseCopy (first n : Nat) (ue : List Nat) (s : State) : List Nat × State :=
  match copyAt first first n ue s, copyAt first (first + n) n ue s with
  | some a, some b => if serialLt 32 (copyGen n a) (copyGen n b) then (b, s) else (a, s)
  | some a, none => (a, vaultRun (first + n) a s)
  | none, some b => (b, vaultRun first b s)
  | none, none => (List.replicate n 0, s)

/-- Word i of the record of n words at a first word, from the copy in force. -/
def recNow (first n i : Nat) (s : State) : Nat := (chooseCopy first n [] s).1.getD i 0

/-- Writes a two-copy record: copy A, then copy B, with the generation advanced by 1. -/
def putRecord (first : Nat) (ws : List Nat) (s : State) : State :=
  let l := recWords first (recNow first (ws.length + 1) (ws.length - 1) s % 2 ^ 32 + 1) ws
  vaultRun (first + l.length) l (vaultRun first l s)

/-- The life-cycle record: the owner key hash, the state and the transition count. -/
def lcWords (owner st count : Nat) : List Nat :=
  (List.range 6).map (fun i => owner / 2 ^ (64 * i) % 2 ^ 64) ++ [(st % 8 + count % 2 ^ 24 * 256) * 2 ^ 32]

/-- The owner key hash held in the life-cycle record; 0 when none is set. -/
def ownerHash (s : State) : Nat := ((List.range 6).map (fun i => recNow 0 8 i s * 2 ^ (64 * i))).sum

/-- The firmware record (R412): BANK, NEW_BANK, PENDING, COMMIT and MIN_SVN. -/
def fwWords (bank new : Nat) (pend commit : Bool) (minSvn : Nat) : List Nat :=
  [bank % 2 + new % 2 * 2 + b2n pend * 4 + b2n commit * 8, minSvn % 2 ^ 32, 0]

/-- The fields of the firmware record. -/
def fwBank (s : State) : Nat := recNow 16 4 0 s % 2
def fwNew (s : State) : Nat := recNow 16 4 0 s / 2 % 2
def fwPending (s : State) : Bool := bitAt 2 (recNow 16 4 0 s)
def fwCommit (s : State) : Bool := bitAt 3 (recNow 16 4 0 s)
def fwMinSvn (s : State) : Nat := recNow 16 4 1 s % 2 ^ 32

/-- Writes the firmware record. -/
def putFw (bank new : Nat) (pend commit : Bool) (minSvn : Nat) (s : State) : State := putRecord 16 (fwWords bank new pend commit minSvn) s

/-- The RWP fields in the order of their Vault words from 1,552 (R14, R423). -/
def rwpFields : List Fld := [MEMC_CODE_PARITY, FLT_ASSAY_THR, FLT_SPARE_CFG_CE_THR, FLT_SPARE_CFG_CH_THR]

/-- The Vault word of an RWP field. -/
def rwpWord (f : Fld) : Nat := 1552 + (rwpFields.findIdx (fun g => decide (g = f)))

/-- Sets an RWP field and makes it persistent; bit 63 of its word says that it has been written. -/
def setRwp (f : Fld) (v : Nat) (s : State) : State := vaultPut (rwpWord f) (v % 2 ^ f.width + 2 ^ 63) (setF f v s)

/-- An RWP field takes what its Vault word holds. -/
def loadRwp (s : State) (f : Fld) : State :=
  let w := vaultNow (rwpWord f) s
  setF f (if bitAt 63 w then w else f.reset) s

/-- The device reads the Vault at reset: the two-copy records, CAL_U_, the operating hours and the RWP fields, with the words
that read uncorrectable (R424). -/
def vaultLoad (ue : List Nat) (s : State) : State :=
  let lc := chooseCopy 0 8 ue s
  let s2 := (chooseCopy 16 4 ue lc.2).2
  let s3 := setF SEC_LC_COUNT (lc.1.getD 6 0 / 2 ^ 40) (setF SEC_LC_OWNED (b2n (decide (ownerHash s2 ≠ 0))) (setF SEC_LC_STATE (lc.1.getD 6 0 / 2 ^ 32) s2))
  let s4 := (List.range 58).foldl (fun s k => setF (CAL_U_k_VALUE k) (if 512 + k ∈ ue then 0 else vaultNow (512 + k) s) s) (setF SEC_SVN_MIN (fwMinSvn s3) s3)
  let h (w : Nat) : Nat := if w ∈ ue then 0 else vaultNow w s4
  let s5 := rwpFields.foldl loadRwp (setF FLT_HOURS_HOURS (max (h 1600) (h 1601)) s4)
  if ue.isEmpty then s5 else secEvent SEC_STAT_VAULT (setF SEC_VAULT_STAT_UE 1 s5)

/-- A word reaches MRAM, unless it is equal to what is stored: its wear counts, and past 10,000,000 writes WORN is set. -/
def vaultStore (w v : Nat) (s : State) : State :=
  if look 0 w s.vault = v then s
  else
    let n := min (2 ^ 24 - 1) (look 0 w s.wear + 1)
    let s1 := tally 18 SEC_T_VAULTWR_COUNT 1 { s with vault := put w (if v = 0 then none else some v) s.vault, wear := put w (some n) s.wear }
    if 10000000 < n then secEvent SEC_STAT_VAULT (setF SEC_VAULT_STAT_WORN 1 s1) else s1

/-- The RETIRED fuse is blown once the life-cycle record of RETIRED is persistent (R419, R420). -/
def blowFuse (s : State) : State := if recNow 0 8 6 s / 2 ^ 32 % 8 = 5 then { s with fuseRetired := true } else s

/-- VAULT_PERSIST (R424): the oldest buffered write is persistent; a packet that waits for it ends OK, and the device resets
where the packet's command says so (R414, R420, R426, R445). -/
def execVaultPersist (s : State) : Host.Outcome State Fault Refusal :=
  goesOn s (match s.vbuf with
    | [] => s
    | x :: r =>
      let s1 := showVault (vaultStore x.word x.value { s with vbuf := r })
      let s2 := if x.pkt = 0 then s1 else finishId (x.pkt - 1) stOK 0 s1
      if x.reset then deviceReset (blowFuse s2) else s2)

/-- HOURS_TICK (R424): an hour of operation has passed; words 1,600 and 1,601 are written alternately. -/
def execHoursTick (s : State) : Host.Outcome State Fault Refusal :=
  goesOn s (let h := getF FLT_HOURS_HOURS s + 1
    vaultPut (1600 + h % 2) h (setF FLT_HOURS_HOURS h s))

end Sys2Proof.Machine
end

