-- ==== Sys2Proof/Machine/Security.lean ====
section
/-! DEFINITION. Firmware images, the life cycle, calibration writes and attestation (R407 to R426). -/

namespace Sys2Proof.Machine

/-! ### Images (R408, R409) -/

/-- Bytes of a list from an offset. -/
def slice (l : List Byte) (off n : Nat) : List Byte := (l.drop off).take n

/-- The fields of an image's header. -/
def imgFwver (l : List Byte) : Nat := fieldLE l 8 4
def imgSvn (l : List Byte) : Nat := fieldLE l 12 4
def imgBodyLen (l : List Byte) : Nat := fieldLE l 20 4
def imgBodyDigest (l : List Byte) : List Byte := slice l 24 48
def imgPk (l : List Byte) : List Byte := slice l 72 2592
def imgSig (l : List Byte) : List Byte := slice l 2664 4627

/-- The body lies whole in the image and has its digest. -/
def bodyOk (l : List Byte) : Bool :=
  decide (1 ≤ imgBodyLen l) && decide (imgBodyLen l ≤ 268427264) && decide (8192 + imgBodyLen l ≤ l.length) &&
    decide (sha3 (slice l 8192 (imgBodyLen l)) = imgBodyDigest l)

/-- The checks of R409 in their order: the AUTH_FAIL reason of the first that fails, or 0 for a valid image. -/
def imageReason (l : List Byte) (s : State) : Nat :=
  if sha3 (imgPk l) ≠ Config.khFw then 2
  else if !Config.mldsaVerify (imgPk l) (l.take 2664) (imgSig l) then 1
  else if fieldLE l 16 2 ≠ getF DEV_IDENT_FAMILY s ∨ fieldLE l 18 1 ≠ getF DEV_IDENT_STEPPING s then 8
  else if imgSvn l < fwMinSvn s then 5
  else if !bodyOk l then 6
  else 0

/-- A check of R409 or R418 has failed. -/
def authFailed (s : State) : State := secEvent SEC_STAT_AUTH_FAIL (tally 18 SEC_T_AUTHFAIL_COUNT 1 s)

/-- The image in a bank of the boot flash, as its header gives its length. -/
def flashImage (bank : Nat) (s : State) : List Byte :=
  let h := readBytes s.flash (bank * 2 ^ 28) 8192
  h ++ readBytes s.flash (bank * 2 ^ 28 + 8192) (min (imgBodyLen h) 268427264)

/-- Writes an image into a bank. -/
def writeBank (bank : Nat) (l : List Byte) (s : State) : State := { s with flash := writeBytes (bank * 2 ^ 28) l s.flash }

/-! ### SEC_FW_STAGE (R413) -/

/-- The first of a range of payload bytes that is not zero: its offset from header byte 0. -/
def nonZeroFrom (p : Pkt) (off n : Nat) : Option (Nat × Nat) :=
  ((List.range n).find? (fun i => decide (pf p (off + i) 1 ≠ 0))).map (fun i => badParam (32 + off + i) 0)

/-- The device is in update mode (R444). -/
def updating : Check := fun _ s => if s.upd.mode = .idle then none else some (stBUSY, 5)

/-- The checks of SEC_FW_STAGE. -/
def chkStage : Check := fun p s =>
  if pf p 8 4 < 8192 ∨ 268435456 < pf p 8 4 then some (badParam 40 0)
  else (nonZeroFrom p 12 20).or ((secBusy p s).or (updating p s))

/-- SEC_STAGE.STATE and REASON. -/
def setStage (st reason : Nat) (s : State) : State := setF SEC_STAGE_REASON reason (setF SEC_STAGE_STATE st s)

/-- The effect of SEC_FW_STAGE: the fetch begins, for the bank that the firmware record does not name. -/
def effStage (p : Pkt) (s : State) : State :=
  if mayMaster p.func s then
    setF SEC_STAGE_BANK (1 - fwBank s) (setStage 1 0 { s with stage := some ⟨p.id, pf p 0 8, pf p 8 4, getF SEC_STAGE_STATE s⟩ })
  else finish p stITEM_FAILED 0 (readFails p.func s)

/-- SEC_FW_STAGE. -/
def execSecFwStage (p : Pkt) (s : State) : Host.Outcome State Fault Refusal := goesOn s (runCmdOpen chkStage effStage p s)

/-- The end of a staging whose image is l. -/
def stageEnd (g : Stage) (l : List Byte) (readback : Bool) (s : State) : State :=
  match imageReason l s with
  | 0 =>
    let s1 := writeBank (getF SEC_STAGE_BANK s) l s
    if readback then finishId g.pkt stOK 0 (setStage 2 0 s1) else finishId g.pkt stITEM_FAILED 0 (setStage 3 0 s1)
  | r => finishId g.pkt stAUTH_FAIL r (authFailed (setStage 3 r s))

/-- FIRMWARE_STAGE_COMPLETE (R413): the checks, the write of the bank and its read-back end; a host read that R435 stopped
fails the command with no effect. -/
def execFirmwareStageComplete (readback : Bool) (s : State) : Host.Outcome State Fault Refusal :=
  goesOn s (match s.stage with
    | none => s
    | some g =>
      let s1 := { s with stage := none }
      if mayMaster 0 s then stageEnd g (readBytes s.hostMem g.addr g.len) readback s1
      else finishId g.pkt stITEM_FAILED 0 (readFails 0 (setF SEC_STAGE_STATE g.prev s1)))

/-! ### SEC_FW_ACTIVATE (R414) -/

/-- The refusal when a cell is ADMITTED (R104, R420). -/
def cellAdmitted (s : State) : Option (Nat × Nat) :=
  (s.cells.find? (fun c => decide (c.2.st = 1))).map (fun c => (stSTATE_CONFLICT, conflictDetail 3 c.1 1))

/-- The checks of SEC_FW_ACTIVATE: a staged and valid image, and no cell ADMITTED. -/
def chkActivate : Check := fun p s =>
  if getF SEC_STAGE_STATE s ≠ 2 then some (stSTATE_CONFLICT, conflictDetail 1 0 (if s.quiesced then 2 else 1))
  else (cellAdmitted s).or ((secBusy p s).or (updating p s))

/-- Every context is destroyed, and the final replies of its STEPs are written (R339, R414). -/
def destroyAll (s : State) : State := (s.ctxs.map (fun c => c.1)).foldl (fun s c => destroyCtx c s) s

/-- The effect of SEC_FW_ACTIVATE: the reply and the reset follow the persistence of the firmware record. -/
def effActivate (p : Pkt) (s : State) : State :=
  let s1 := destroyAll s
  vaultLast (p.id + 1) true (putFw (fwBank s1) (getF SEC_STAGE_BANK s1) true (bitAt 0 (pf p 0 1)) (fwMinSvn s1) s1)

/-- SEC_FW_ACTIVATE. -/
def execSecFwActivate (p : Pkt) (s : State) : Host.Outcome State Fault Refusal := goesOn s (runCmdOpen chkActivate effActivate p s)

/-! ### SEC_LC_ADVANCE (R418 to R420) -/

/-- Who must have signed a token: nobody, since no token is fetched; any key; the owner; or the manufacturing key. -/
inductive Signer where
  | noToken | anyKey | owner | maker
  deriving DecidableEq, Repr

/-- The transitions of R419 and the signer each requires; owned says whether an owner key hash is set. -/
def lcSigner (st tgt : Nat) (owned : Bool) : Option Signer :=
  if st ≠ 5 ∧ tgt = 5 then some (if owned then .owner else .maker)
  else match st, tgt with
    | 0, 1 => some .maker
    | 1, 2 => some .anyKey
    | 2, 3 => some .owner
    | 3, 2 => some .noToken
    | 2, 4 => some .owner
    | 3, 4 => some .owner
    | 1, 4 => some .maker
    | 4, 1 => some .maker
    | _, _ => none

/-- The transition that a packet asks for. -/
def pSigner (p : Pkt) (s : State) : Option Signer := lcSigner (getF SEC_LC_STATE s) (pf p 0 1) (decide (ownerHash s ≠ 0))

/-- The checks of SEC_LC_ADVANCE: TARGET, the token's length, the bytes past 15, the cells, the security engine. -/
def chkLc : Check := fun p s =>
  match pSigner p s with
  | none => some (badParam 32 0)
  | some g =>
    if g ≠ .noToken ∧ pf p 4 4 ≠ 7307 then some (badParam 36 7307)
    else (nonZeroFrom p 16 (p.payload.length - 16)).or ((cellAdmitted s).or ((secBusy p s).or (updating p s)))

/-- The seed of the DeviceID key (R416). -/
def devidSeed : List Byte := (sha3 (Config.uds ++ [0x44, 0x45, 0x56, 0x49, 0x44])).take 32

/-- SHA3-384 of the DeviceID public key, as SEC_DEVID_HASH shows it. -/
def devidHash (s : State) : List Byte := (List.range 6).flatMap (fun n => natLE 8 (getF (SEC_DEVID_HASHn_HASH n) s))

/-- The nonce, as SEC_LC_NONCE shows it. -/
def lcNonce (s : State) : List Byte := (List.range 4).flatMap (fun n => natLE 8 (getF (SEC_LC_NONCEn_NONCE n) s))

/-- The signer's public key in a token. -/
def tokPk (t : List Byte) : List Byte := slice t 88 2592

/-- The signer of a token is the one required. -/
def signerOk (g : Signer) (t : List Byte) (s : State) : Bool :=
  match g with
  | .owner => decide (leNat (sha3 (tokPk t)) = ownerHash s)
  | .maker => decide (sha3 (tokPk t) = Config.khMfg)
  | _ => true

/-- The checks of a token in ascending order of their reasons (R418; DEDUCED, log entry 26): the reason of the first that fails,
or 0. -/
def tokenReason (g : Signer) (target : Nat) (t : List Byte) (s : State) : Nat :=
  if fieldLE t 0 4 ≠ 0x4B4F544C ∨ !Config.mldsaVerify (tokPk t) (t.take 2680) (slice t 2680 4627) then 1
  else if !signerOk g t s then 2
  else if slice t 8 48 ≠ devidHash s then 3
  else if slice t 56 32 ≠ lcNonce s then 4
  else if fieldLE t 4 1 ≠ target ∨ fieldLE t 5 1 ≠ getF SEC_LC_STATE s then 7
  else 0

/-- The CAL_U_ values are cleared. -/
def clearCal (s : State) : State :=
  (List.range 58).foldl (fun s k => vaultPut (512 + k) 0 (setF (CAL_U_k_VALUE k) 0 s)) s

/-- The owner key hash after a transition: PROVISIONED to DEPLOYED makes the signer the owner, RETURNED from an owner's states
and RETIRED clear it. -/
def ownerAfter (st tgt : Nat) (t : List Byte) (s : State) : Nat :=
  if st = 1 ∧ tgt = 2 then leNat (sha3 (tokPk t))
  else if tgt = 5 ∨ (tgt = 4 ∧ (st = 2 ∨ st = 3)) then 0
  else ownerHash s

/-- The effect once the token has passed (R420): the reply and the reset follow the persistence of the life-cycle record. -/
def lcApply (p : Pkt) (t : List Byte) (s : State) : State :=
  let st := getF SEC_LC_STATE s
  let tgt := pf p 0 1
  match cellAdmitted s with
  | some (c, d) => finish p c d s
  | none =>
    let s1 := [0, 1, 2, 3, 4, 5, 6, 7].foldl (fun s n => if partSt n s = 0 then s else clearPart n 0 s) (destroyAll s)
    let s2 := if tgt = 4 ∨ tgt = 5 then clearCal s1 else s1
    vaultLast (p.id + 1) true (putRecord 0 (lcWords (ownerAfter st tgt t s2) tgt (getF SEC_LC_COUNT s2 + 1)) s2)

/-- The effect of SEC_LC_ADVANCE: the token is fetched and checked, and the nonce takes a fresh value. -/
def effLc (p : Pkt) (s : State) : State :=
  match pSigner p s with
  | none => finish p stBAD_PARAM 32 s
  | some .noToken => lcApply p [] s
  | some g =>
    if !mayMaster p.func s then finish p stITEM_FAILED 0 (readFails p.func s)
    else
      let t := readBytes s.hostMem (pf p 8 8) 7307
      match tokenReason g (pf p 0 1) t s with
      | 0 => lcApply p t (freshNonce s)
      | r => finish p stAUTH_FAIL r (authFailed (freshNonce s))

/-- SEC_LC_ADVANCE. -/
def execSecLcAdvance (p : Pkt) (s : State) : Host.Outcome State Fault Refusal := goesOn s (runCmdOpen chkLc effLc p s)

/-! ### Measurements (R416, R422) -/

/-- The part is RETIRED: no identity exists (R416). -/
def retired (s : State) : Bool := s.fuseRetired || decide (getF SEC_LC_STATE s = 5)

/-- The seed of the Alias key of the running image (R416). -/
def aliasSeed (s : State) : List Byte :=
  let cdi := sha3 (Config.uds ++ s.hdrDig ++ natLE 1 (getF SEC_LC_STATE s) ++ natLE 4 s.runSvn)
  (sha3 (cdi ++ [0x41, 0x4C, 0x49, 0x41, 0x53])).take 32

/-- A signature by the Alias key: 4,627 bytes, all zero on a retired part. -/
def aliasSign (l : List Byte) (s : State) : List Byte := if retired s then zeros 4627 else padTo 4627 (Config.mldsaSign (aliasSeed s) l)

/-- DEV_IDENT as read. -/
def identWord (s : State) : Nat := getF DEV_IDENT_FAMILY s + getF DEV_IDENT_GRADE s * 2 ^ 16 + getF DEV_IDENT_STEPPING s * 2 ^ 24

/-- The value of measurement block i, and whether it is a raw value. -/
def measureValue (i : Nat) (s : State) : Bool × List Byte :=
  match i with
  | 1 => (false, Config.romDigest)
  | 2 => (false, s.hdrDig)
  | 3 => (false, s.bodyDig)
  | 4 => (true, natLE 4 s.runSvn ++ natLE 4 (fwMinSvn s))
  | 5 => (true, natLE 4 (getF SEC_LC_STATE s) ++ natLE 4 (getF SEC_LC_COUNT s))
  | 6 => (true, natLE 4 (identWord s))
  | _ => (false, sha3 ((List.range 64).flatMap (fun k => natLE 2 (getF (CAL_U_k_VALUE k) s))))

/-- A measurement block as SPDM 1.3 carries it: index, the DMTF specification, and the DMTF value with its type and size
(PRESUMED, log entry 27). -/
def measureBlock (i : Nat) (s : State) : List Byte :=
  let v := measureValue i s
  let b := natLE 1 ((if i = 1 then 0 else if i ≤ 3 then 1 else if i = 4 then 7 else 3) + b2n v.1 * 128) ++ natLE 2 v.2.length ++ v.2
  natLE 1 i ++ natLE 1 1 ++ natLE 2 b.length ++ b

/-- The MEASUREMENTS response over the blocks of a list, with a nonce and, when signed, the Alias key's signature (SPDM 1.3;
PRESUMED, log entry 27). -/
def measureBody (l : List Nat) (nonce : List Byte) (signed : Bool) (s : State) : List Byte :=
  let rec_ := l.flatMap (fun i => measureBlock i s)
  let b := [0x13, 0x60, 0, 0] ++ natLE 1 l.length ++ natLE 3 rec_.length ++ rec_ ++ padTo 32 nonce ++ natLE 2 0 ++ zeros 8
  if signed then b ++ aliasSign b s else b

/-- The blocks that a SEC_MEASURE selects. -/
def smBlocks (p : Pkt) : List Nat := [1, 2, 3, 4, 5, 6, 7].filter (fun i => bitAt i (pf p 32 8))

/-- The response that a SEC_MEASURE writes. -/
def smRecord (p : Pkt) (s : State) : List Byte := measureBody (smBlocks p) (slice p.payload 0 32) true s

/-- The check of SEC_MEASURE: the buffer holds the response. -/
def chkMeasure : Check := fun p s => if pf p 40 4 < (smRecord p s).length then some (badParam 72 (smRecord p s).length) else none

/-- SEC_MEASURE: on a retired part the final reply says UNSIGNED. -/
def execSecMeasure (p : Pkt) (s : State) : Host.Outcome State Fault Refusal :=
  goesOn s (runCmd chkMeasure (fun p s => (hostWrite p.func (pf p 48 8) (smRecord p s) s, stOK, b2n (retired s))) p s)

/-! ### SEC_CAL_WRITE (R425, R426) -/

/-- U_MAX of item k. -/
def calMax (k : Nat) : Nat := if 32 ≤ k ∧ k ≤ 55 then 32 else 4096

/-- The value of a SEC_CAL_WRITE, signed. -/
def scValue (p : Pkt) : Int := bitsInt 16 (pf p 4 2)

/-- The checks of SEC_CAL_WRITE, fields in ascending offset. -/
def chkCal : Check := fun p _ =>
  let k := pf p 0 2
  if 57 < k then some (badParam 32 0)
  else (nonZeroFrom p 2 2).or (if scValue p < -(calMax k : Int) ∨ (calMax k : Int) < scValue p then some (badParam 36 (calMax k)) else nonZeroFrom p 6 10)

/-- The effect of SEC_CAL_WRITE: CAL_U_k takes the value; the final reply follows its persistence. -/
def effCal (p : Pkt) (s : State) : State :=
  let k := pf p 0 2
  vaultPutFor (p.id + 1) false (512 + k) (pf p 4 2) (setF (CAL_U_k_VALUE k) (pf p 4 2) s)

/-- SEC_CAL_WRITE. -/
def execSecCalWrite (p : Pkt) (s : State) : Host.Outcome State Fault Refusal := goesOn s (runCmdOpen chkCal effCal p s)

end Sys2Proof.Machine
end

