-- ==== Sys2Proof/Machine/Mgmt.lean ====
section
/-! DEFINITION. Management: SPDM, DOE, MCTP, PLDM and JTAG (R421, R439, R441 to R446). -/

namespace Sys2Proof.Machine

/-! ### SPDM (R421, R422) -/

/-- Sends a management message. -/
def sendMgmt (m : MgmtMsg) (s : State) : State := { s with mgmtOut := m :: s.mgmtOut }

/-- The responder on a binding. -/
def spdmOf (via : Nat) (s : State) : Spdm := look ⟨0, 0⟩ via s.spdm

/-- Changes the responder on a binding. -/
def setSpdm (via : Nat) (x : Spdm) (s : State) : State := { s with spdm := put via (some x) s.spdm }

/-- Answers an SPDM request. -/
def spdmSay (via : Nat) (r : SpdmRsp) (s : State) : State := sendMgmt (.spdm via r) s

/-- n × 8 bytes of free values. -/
def drawBytes : Nat → State → List Byte × State
  | 0, s => ([], s)
  | n + 1, s =>
    let d := drawFree 64 s
    let r := drawBytes n d.2
    (natLE 8 d.1 ++ r.1, r.2)

/-- A request that needs negotiated algorithms. -/
def spdmAfter (via : Nat) (f : State → State) (s : State) : State :=
  if (spdmOf via s).phase < 3 then spdmSay via .unexpectedRequest s else f s

/-- A request that needs an established session. -/
def spdmIn (via : Nat) (f : State → State) (s : State) : State :=
  if (spdmOf via s).session = 2 then f s else spdmSay via .unexpectedRequest s

/-- CHALLENGE of slot 0: the Alias key signs. -/
def spdmChallenge (via slot : Nat) (nonce : List Byte) (s : State) : State :=
  if slot ≠ 0 then spdmSay via .invalidRequest s
  else
    let d := drawBytes 4 s
    let c := sha3 Config.certChain
    let m := sha3 ([1, 2, 3, 4, 5, 6, 7].flatMap (fun i => measureBlock i s))
    spdmSay via (.challengeAuth c m d.1 (aliasSign (c ++ d.1 ++ m ++ nonce) s)) d.2

/-- GET_MEASUREMENTS: no block (index 0), every block (255), or one. -/
def spdmMeasure (via index : Nat) (signed : Bool) (nonce : List Byte) (s : State) : State :=
  if index = 0 then spdmSay via (.measurements (measureBody [] nonce signed s)) s
  else if index = 255 then spdmSay via (.measurements (measureBody [1, 2, 3, 4, 5, 6, 7] nonce signed s)) s
  else if 7 < index then spdmSay via .invalidRequest s
  else spdmSay via (.measurements (measureBody [index] nonce signed s)) s

/-- KEY_EXCHANGE: the device's share of the secp384r1 exchange is a free value, signed with the requester's. -/
def spdmKeyExchange (via : Nat) (dhe : List Byte) (s : State) : State :=
  let d := drawBytes 12 s
  spdmSay via (.keyExchangeRsp d.1 (aliasSign (dhe ++ d.1) s)) (setSpdm via { spdmOf via s with session := 1 } d.2)

/-- GET_CERTIFICATE of slot 0. -/
def spdmCertificate (via slot off len : Nat) (s : State) : State :=
  let c := Config.certChain
  if slot ≠ 0 ∨ c.length < off then spdmSay via .invalidRequest s
  else spdmSay via (.certificate (slice c off len) (c.length - off - min len (c.length - off))) s

/-- The first three requests, which a retired part answers too. -/
def spdmFirst (via : Nat) (r : SpdmReq) (s : State) : State :=
  match r with
  | .getVersion => spdmSay via .version (setSpdm via ⟨1, 0⟩ s)
  | .getCapabilities => if (spdmOf via s).phase < 1 then spdmSay via .unexpectedRequest s else spdmSay via .capabilities (setSpdm via ⟨2, 0⟩ s)
  | .negotiate mlDsa sha =>
    if (spdmOf via s).phase < 2 then spdmSay via .unexpectedRequest s
    else if mlDsa && sha then spdmSay via .algorithms (setSpdm via ⟨3, 0⟩ s)
    else spdmSay via .invalidRequest s
  | _ => s

/-- The requests that a part with an identity answers once algorithms are negotiated. -/
def spdmRest (via : Nat) (r : SpdmReq) (s : State) : State :=
  match r with
  | .getDigests => spdmSay via (.digests (sha3 Config.certChain)) s
  | .getCertificate slot off len => spdmCertificate via slot off len s
  | .challenge slot nonce => spdmChallenge via slot nonce s
  | .getMeasurements index signed nonce => spdmMeasure via index signed nonce s
  | .keyExchange dhe => spdmKeyExchange via dhe s
  | .finish ok =>
    if (spdmOf via s).session ≠ 1 then spdmSay via .unexpectedRequest s
    else if ok then spdmSay via .finishRsp (setSpdm via { spdmOf via s with session := 2 } s)
    else spdmSay via .invalidRequest (setSpdm via { spdmOf via s with session := 0 } s)
  | .endSession => spdmIn via (fun s => spdmSay via .endSessionAck (setSpdm via { spdmOf via s with session := 0 } s)) s
  | .heartbeat => spdmIn via (spdmSay via .heartbeatAck) s
  | .keyUpdate => spdmIn via (spdmSay via .keyUpdateAck) s
  | _ => spdmSay via .unsupportedRequest s

/-- The device serves SPDM: its firmware runs (R410, R454). -/
def spdmUp (s : State) : Bool := flagF DEV_STAT_READY s

/-- The answer to an SPDM request on a binding; the order of requests is that of SPDM 1.3 (PRESUMED, log entry 28). -/
def spdmServe (via : Nat) (r : SpdmReq) (s : State) : State :=
  if !spdmUp s then s
  else match r with
    | .getVersion => spdmFirst via r s
    | .getCapabilities => spdmFirst via r s
    | .negotiate _ _ => spdmFirst via r s
    | _ => if retired s then spdmSay via .unsupportedRequest s else spdmAfter via (spdmRest via r) s

/-- GET_VERSION. -/
def execGetVersion (via : Fin 3) (s : State) : Host.Outcome State Fault Refusal := goesOn s (spdmServe via .getVersion s)

/-- GET_CAPABILITIES. -/
def execGetCapabilities (via : Fin 3) (s : State) : Host.Outcome State Fault Refusal := goesOn s (spdmServe via .getCapabilities s)

/-- NEGOTIATE_ALGORITHMS: ML-DSA-87 as ExtAsym, and TPM_ALG_SHA3_384, are offered. -/
def execNegotiateAlgorithms (via : Fin 3) (mlDsa sha : Bool) (s : State) : Host.Outcome State Fault Refusal :=
  goesOn s (spdmServe via (.negotiate mlDsa sha) s)

/-- GET_DIGESTS. -/
def execGetDigests (via : Fin 3) (s : State) : Host.Outcome State Fault Refusal := goesOn s (spdmServe via .getDigests s)

/-- GET_CERTIFICATE. -/
def execGetCertificate (via : Fin 3) (slot off len : Nat) (s : State) : Host.Outcome State Fault Refusal :=
  goesOn s (spdmServe via (.getCertificate slot off len) s)

/-- CHALLENGE. -/
def execChallenge (via : Fin 3) (slot : Nat) (nonce : List Byte) (s : State) : Host.Outcome State Fault Refusal :=
  goesOn s (spdmServe via (.challenge slot nonce) s)

/-- GET_MEASUREMENTS. -/
def execGetMeasurements (via : Fin 3) (index : Nat) (signed : Bool) (nonce : List Byte) (s : State) : Host.Outcome State Fault Refusal :=
  goesOn s (spdmServe via (.getMeasurements index signed nonce) s)

/-- KEY_EXCHANGE. -/
def execKeyExchange (via : Fin 3) (dhe : List Byte) (s : State) : Host.Outcome State Fault Refusal := goesOn s (spdmServe via (.keyExchange dhe) s)

/-- FINISH: the requester's MAC verifies, or does not. -/
def execFinish (via : Fin 3) (ok : Bool) (s : State) : Host.Outcome State Fault Refusal := goesOn s (spdmServe via (.finish ok) s)

/-- END_SESSION. -/
def execEndSession (via : Fin 3) (s : State) : Host.Outcome State Fault Refusal := goesOn s (spdmServe via .endSession s)

/-- HEARTBEAT of SPDM. -/
def execHeartbeatSpdm (via : Fin 3) (s : State) : Host.Outcome State Fault Refusal := goesOn s (spdmServe via .heartbeat s)

/-- KEY_UPDATE. -/
def execKeyUpdate (via : Fin 3) (s : State) : Host.Outcome State Fault Refusal := goesOn s (spdmServe via .keyUpdate s)

/-! ### DOE and IDE (R439, R441) -/

/-- IDE_KM keys a stream again: it leaves Insecure. -/
def ideKey (stream : Nat) (s : State) : State := { s with insecure := put stream none s.insecure }

/-- A message in a secured session. -/
def securedServe (via : Nat) (r : SecuredReq) (s : State) : State :=
  match r with
  | .req q => if (spdmOf via s).session = 0 then spdmSay via .unexpectedRequest s else spdmServe via q s
  | .ideKeySet n => spdmIn via (fun s => sendMgmt (.ideKeyed n) (ideKey n s)) s

/-- DOE_REQUEST (R441): the PF's mailbox takes data objects up to 64 KiB; VFs have none.  Keys of IDE streams come over DOE. -/
def execDoeRequest (f : Fin 33) (len : Nat) (d : DoeObj) (s : State) : Host.Outcome State Fault Refusal :=
  goesOn s (if f ≠ 0 ∨ 65536 < len then s
    else match d with
      | .discovery i => if spdmUp s then sendMgmt (.discovery Config.doeVendor i (if i < 2 then i + 1 else 0)) s else s
      | .spdm r => spdmServe 2 r s
      | .secured r => if spdmUp s then securedServe 2 r s else s)

/-- IDE_CHECK_FAIL (R439): a received TLP fails its integrity check; its stream, which carries the traffic of the functions given,
enters Insecure. -/
def execIdeCheckFail (stream : Fin 9) (fns : List Nat) (s : State) : Host.Outcome State Fault Refusal :=
  goesOn s (hostErr DEV_HOSTERR_IDE (fns.headD 0) { s with insecure := put stream.val (some fns) s.insecure })

/-! ### PLDM and MCTP (R442 to R445) -/

/-- No valid image has been found, and the boot ROM serves the recovery update (R445). -/
def recovering (s : State) : Bool := decide (getF SEC_BOOT_RESULT s = 3)

/-- A request to the firmware-update component (R444): RequestUpdate with the image's length. -/
def requestUpdate (via len : Nat) (s : State) : State :=
  if retired s then sendMgmt (.pldmUnableUpdate via) s
  else if s.accepted.any (fun q => decide (0x0801 ≤ q.opcode) && decide (q.opcode ≤ 0x0803)) then sendMgmt (.pldmRetryUpdate via) s
  else if s.upd.mode ≠ .idle then sendMgmt (.pldmUpdateState via) s
  else sendMgmt (.wantData 0 (min len 4096)) (sendMgmt (.pldmOk via) { s with upd := ⟨.transfer, len, 0, []⟩ })

/-- ActivateFirmware (R444): the firmware record is written with PENDING 1, NEW_BANK and COMMIT 0. -/
def activateUpdate (via : Nat) (s : State) : State :=
  if s.upd.mode = .ready then
    sendMgmt (.pldmOk via) (putFw (fwBank s) (1 - fwBank s) true false (fwMinSvn s) { s with upd := ⟨.idle, 0, 0, []⟩ })
  else sendMgmt (.pldmUpdateState via) s

/-- The answer to a PLDM request on a binding. -/
def pldmServe (via : Nat) (r : PldmReq) (s : State) : State :=
  if recovering s then match r with
    | .types => sendMgmt (.pldmTypes via [0, 5]) s
    | .requestUpdate len => requestUpdate via len s
    | _ => sendMgmt (.pldmUnsupported via) s
  else if !flagF DEV_STAT_READY s then s
  else if !bitAt 9 (getF FLT_HEART_ALIVE s) then sendMgmt (.pldmNotReady via) s
  else match r with
    | .types => sendMgmt (.pldmTypes via [0, 2, 5]) s
    | .reading id => match sensorValue id s with
      | none => sendMgmt (.noSensor via id) s
      | some v => sendMgmt (.sensor via id v) s
    | .setEventReceiver eid => sendMgmt (.pldmOk via) { s with evtRecv := some (via, eid) }
    | .requestUpdate len => requestUpdate via len s
    | .activate => activateUpdate via s
    | .other => sendMgmt (.pldmUnsupported via) s

/-- The endpoint ID of a binding, as DEV_MCTP shows it. -/
def eidF (via : Nat) : Fld := if via = 0 then DEV_MCTP_EID_I3C else DEV_MCTP_EID_VDM

/-- MCTP_MESSAGE (R442): a message on I3C or PCIe VDM is served by type; other types are discarded. -/
def execMctpMessage (via : Fin 2) (m : MctpMsg) (s : State) : Host.Outcome State Fault Refusal :=
  goesOn s (if inReset s ∨ (!flagF DEV_STAT_READY s ∧ !recovering s) then s
    else match m with
      | .setEid e => sendMgmt (.endpoint via e.toNat) (setF (eidF via) e.toNat s)
      | .getEid => sendMgmt (.endpoint via (getF (eidF via) s)) s
      | .pldm r => pldmServe via r s
      | .spdm r => spdmServe via r s
      | .secured r => if spdmUp s then securedServe via r s else s
      | .other _ => s)

/-- SET_EVENT_RECEIVER (R443). -/
def execSetEventReceiver (via : Fin 2) (eid : Byte) (s : State) : Host.Outcome State Fault Refusal :=
  goesOn s (pldmServe via (.setEventReceiver eid.toNat) s)

/-- REQUEST_UPDATE (R444). -/
def execRequestUpdate (via : Fin 2) (len : Nat) (s : State) : Host.Outcome State Fault Refusal := goesOn s (pldmServe via (.requestUpdate len) s)

/-- REQUEST_FIRMWARE_DATA (R444): the response to the device's pull delivers the next bytes of the image. -/
def execRequestFirmwareData (data : List Byte) (s : State) : Host.Outcome State Fault Refusal :=
  goesOn s (let u := s.upd
    if u.mode ≠ .transfer then s
    else
      let l := data.take (u.len - u.got)
      let got := u.got + l.length
      let v : Update := { u with got := got, buf := writeBytes u.got l u.buf }
      if u.len ≤ got then sendMgmt .transferComplete { s with upd := { v with mode := .verify } }
      else sendMgmt (.wantData got (min (u.len - got) 4096)) { s with upd := v })

/-- The image that an update has pulled. -/
def updImage (s : State) : List Byte := readBytes s.upd.buf 0 s.upd.len

/-- VERIFY_COMPLETE (R444): the checks of R409 end. -/
def execVerifyComplete (s : State) : Host.Outcome State Fault Refusal :=
  goesOn s (if s.upd.mode ≠ .verify then s
    else match imageReason (updImage s) s with
      | 0 => sendMgmt (.verifyComplete 0) { s with upd := { s.upd with mode := .apply } }
      | r => sendMgmt (.verifyComplete r) (authFailed { s with upd := ⟨.idle, 0, 0, []⟩ }))

/-- APPLY_COMPLETE (R444): the write to the bank that the firmware record does not name and its read-back end.  In the recovery
update it is bank 0, by RECOVERY_UPDATE. -/
def execApplyComplete (readback : Bool) (s : State) : Host.Outcome State Fault Refusal :=
  goesOn s (if s.upd.mode ≠ .apply ∨ recovering s then s
    else
      let s1 := writeBank (1 - fwBank s) (updImage s) s
      if readback then sendMgmt (.applyComplete true) { s1 with upd := { s.upd with mode := .ready } }
      else sendMgmt (.applyComplete false) { s1 with upd := ⟨.idle, 0, 0, []⟩ })

/-- ACTIVATE_FIRMWARE (R444). -/
def execActivateFirmware (via : Fin 2) (s : State) : Host.Outcome State Fault Refusal := goesOn s (pldmServe via .activate s)

/-- RECOVERY_UPDATE (R445): with no valid image, the boot ROM writes the checked image into bank 0 and the firmware record with
BANK 0 and PENDING 0, and the device resets once it is persistent. -/
def execRecoveryUpdate (readback : Bool) (s : State) : Host.Outcome State Fault Refusal :=
  goesOn s (if !recovering s ∨ s.upd.mode ≠ .apply then s
    else
      let s1 := { writeBank 0 (updImage s) s with upd := ⟨.idle, 0, 0, []⟩ }
      if readback then sendMgmt (.applyComplete true) (vaultLast 0 true (putFw 0 0 false false (fwMinSvn s1) s1))
      else sendMgmt (.applyComplete false) s1)

/-! ### JTAG (R446) -/

/-- Loads a TAP instruction; tdo is what it captures. -/
def tapLoad (i : TapIr) (tdo : Option Nat) (s : State) : State := { s with tapIr := i, tapOut := tdo }

/-- An instruction that takes the pins: outside PERST# BYPASS is loaded in its place. -/
def tapPins (i : TapIr) (s : State) : State := if s.perst then tapLoad i none s else tapLoad .bypass (some 0) s

/-- BYPASS. -/
def execBypass (s : State) : Host.Outcome State Fault Refusal := goesOn s (tapLoad .bypass (some 0) s)

/-- IDCODE: part number 0x0A96 in bits [27:12], with what the spec leaves to Kralum's JEP106 code. -/
def execIdcode (s : State) : Host.Outcome State Fault Refusal :=
  goesOn s (tapLoad .idcode (some (Config.idcodeRest.toNat / 2 ^ 12 * 2 ^ 28 + 0x0A96 * 2 ^ 12 + Config.idcodeRest.toNat % 2 ^ 12)) s)

/-- SAMPLE/PRELOAD: the boundary register captures the pins and takes what is shifted in. -/
def execSamplePreload (pins load : List Bool) (s : State) : Host.Outcome State Fault Refusal :=
  goesOn s { tapLoad .sample (some (pins.foldr (fun b n => 2 * n + b2n b) 0)) s with bsr := load }

/-- EXTEST. -/
def execExtest (s : State) : Host.Outcome State Fault Refusal := goesOn s (tapPins .extest s)

/-- EXTEST_PULSE. -/
def execExtestPulse (s : State) : Host.Outcome State Fault Refusal := goesOn s (tapPins .extestPulse s)

/-- EXTEST_TRAIN. -/
def execExtestTrain (s : State) : Host.Outcome State Fault Refusal := goesOn s (tapPins .extestTrain s)

/-- CLAMP. -/
def execClamp (s : State) : Host.Outcome State Fault Refusal := goesOn s (tapPins .clamp s)

/-- HIGHZ. -/
def execHighz (s : State) : Host.Outcome State Fault Refusal := goesOn s (tapPins .highz s)

/-- R417 allows debug. -/
def debugOpen (s : State) : Bool := decide (getF SEC_LC_STATE s ∈ [0, 3, 4])

/-- JTAG_DEBUG_HALT (R446): a debug instruction halts processor k, whose heartbeat stops. -/
def execJtagDebugHalt (k : Fin 10) (s : State) : Host.Outcome State Fault Refusal :=
  goesOn s (if debugOpen s then setF DEV_DBG_HALTED 1 { s with halted := insertNat k.val s.halted, tapIr := .debug, tapOut := none } else s)

end Sys2Proof.Machine
end

