-- ==== Sys2Proof/Machine/HostIf.lean ====
section
/-! DEFINITION. The host interface: the functions and their resets, the BARs, interrupts, host reads and PTM (R428 to R440). -/

namespace Sys2Proof.Machine

/-! ### Functions and resets (R428, R434 to R437) -/

/-- FLR_PF (R436). -/
def execFlrPf (s : State) : Host.Outcome State Fault Refusal := goesOn s (deviceReset s)

/-- HOT_RESET (R436): a Hot Reset or link down. -/
def execHotReset (s : State) : Host.Outcome State Fault Refusal := goesOn s (deviceReset s)

/-- What a packet that goes without a final reply held is given back. -/
def dropPkt (s : State) (p : Pkt) : State := unreserveObj p.id (unreserve p (leaveTimed p s))

/-- The packets of function v without a final reply receive none (R437). -/
def dropPkts (v : Nat) (s : State) : State :=
  (s.accepted.filter (fun p => decide (p.window / 4 = v))).foldl dropPkt { s with
    accepted := s.accepted.filter (fun p => decide (p.window / 4 ≠ v)),
    deferred := s.deferred.filter (fun i => !s.accepted.any (fun p => decide (p.id = i) && decide (p.window / 4 = v))) }

/-- CMD_LOAD.DEMAND: the exact sum of 128 / SWEEP over the windows enabled, rounded up; 128 × lcm(2..80) / SWEEP is whole
(R89). -/
def sweepScale : Nat := (List.range 81).foldl (fun a i => if i = 0 then a else Nat.lcm a i) 1

/-- The cost of a Sweep Interval in units of 1 / sweepScale Seal reads per µs. -/
def sweepCost (sweep : Nat) : Nat := 128 * (sweepScale / sweep)

/-- The cost of every enabled window but those a test leaves out. -/
def sweepTotal (skip : Nat → Bool) (s : State) : Nat :=
  ((List.range 132).map (fun w => if flagF (CMD_PWw_CTRL_EN w) s ∧ !skip w then sweepCost (getF (CMD_PWw_CTRL_SWEEP w) s) else 0)).sum

/-- Shows DEMAND. -/
def showLoad (s : State) : State := setF CMD_LOAD_DEMAND (ceilDiv (sweepTotal (fun _ => false) s) sweepScale) s

/-- Every window of function v is disabled and its reply rings are reset. -/
def resetWindows (v : Nat) (s : State) : State :=
  showLoad ([4 * v, 4 * v + 1, 4 * v + 2, 4 * v + 3].foldl (fun s w =>
    setF (CMD_PWw_STAT_STALLED w) 0 (setF (CMD_PWw_STAT_BUSY w) 0 (setF (CMD_PWw_RR_TAIL_TAIL w) 0 (setF (CMD_PWw_RR_HEAD_HEAD w) 0 (setF (CMD_PWw_CTRL_EN w) 0 s))))) s)

/-- The contexts and objects of the partition bound to function v end; the partition stays OPEN and its frames wait to be
filled (R264, R437). -/
def resetPart (v : Nat) (s : State) : State :=
  match funcPart v s with
  | none => s
  | some n =>
    let s1 := ((s.ctxs.filter (fun c => decide (c.2.part = n))).map (fun c => c.1)).foldl (fun s c => destroyCtx c s) s
    let s2 := removeObjs n s1
    showFill { s2 with fills := s2.fills ++ [(n, 0, false)] }

/-- The Ledger of function v restarts (R437). -/
def resetLedger (v : Nat) (s : State) : State :=
  showLedger v (setF (FLT_LGf_TAIL_TAIL v) 0 (setF (FLT_LGf_HEAD_HEAD v) 0 (setF (FLT_LGf_NEXT_NEXT v) 0 { s with ledger := put v none s.ledger })))

/-- The mailbox of VF v is cleared to zero (R346). -/
def resetMbx (v : Nat) (s : State) : State :=
  setF (SCHED_MBXv_CTRL_V2P_FULL (v - 1)) 0 (setF (SCHED_MBXv_CTRL_P2V_FULL (v - 1)) 0 { s with mbx := fillZero (v * 2 ^ 12) (2 ^ 12) s.mbx })

/-- A function's bus state after a function-level reset, and its MSI-X table, as PCIe resets them (PRESUMED, log entry 29). -/
def resetBus (v : Nat) (s : State) : State :=
  setFn v ⟨true, false, false, false, []⟩ { s with msix := s.msix.filter (fun x => decide (x.1 / 2 ^ 16 ≠ v)) }

/-- An FLR of VF v (R437). -/
def flrVf (v : Nat) (s : State) : State :=
  if v = 0 ∨ !(fnOf v s).present then s
  else resetBus v (resetMbx v (resetLedger v (resetPart v (resetWindows v (dropPkts v s)))))

/-- FLR_VF (R437). -/
def execFlrVf (v : Fin 33) (s : State) : Host.Outcome State Fault Refusal := goesOn s (flrVf v s)

/-- VF_ENABLE_SET (R428): VFs 1 to n come into being. -/
def execVfEnableSet (n : Fin 33) (s : State) : Host.Outcome State Fault Refusal :=
  goesOn s (((List.range n.val).map (· + 1)).foldl (fun s v => if (fnOf v s).present then s else resetBus v s) s)

/-- VF_ENABLE_CLEAR (R436): with the PF reset too, a device reset; else an FLR of every VF, which then is no more. -/
def execVfEnableClear (pfReset : Bool) (s : State) : Host.Outcome State Fault Refusal :=
  goesOn s (if pfReset then deviceReset s
    else (((List.range 32).map (· + 1)).filter (fun v => (fnOf v s).present)).foldl (fun s v =>
      let s1 := flrVf v s
      { s1 with fns := put v none s1.fns }) s)

/-- BUS_MASTER_ENABLE_WRITE (R435). -/
def execBusMasterEnableWrite (f : Fin 33) (on : Bool) (s : State) : Host.Outcome State Fault Refusal :=
  goesOn s (if (fnOf f s).present then setFn f { fnOf f s with bme := on } s else s)

/-- POWER_STATE_WRITE (R435): D3hot or D0; nothing is reset. -/
def execPowerStateWrite (f : Fin 33) (d3 : Bool) (s : State) : Host.Outcome State Fault Refusal :=
  goesOn s (if (fnOf f s).present then setFn f { fnOf f s with d3 := d3 } s else s)

/-! ### MSI-X (R434) -/

/-- A pending vector that is unmasked with its function sends one message, or is discarded under R435. -/
def firePending (f : Nat) (s : State) (v : Nat) : State :=
  if (fnOf f s).fmask ∨ vecMasked f v s then s
  else
    let s1 := setFn f { fnOf f s with pend := (fnOf f s).pend.filter (fun x => decide (x ≠ v)) } s
    if mayMaster f s1 then { s1 with msgs := s1.msgs ++ [⟨f, v⟩] } else hostErrRaise DEV_HOSTERR_NO_MASTER (noMaster f s1)

/-- Every pending vector of a function that may be sent is sent. -/
def fireAll (f : Nat) (s : State) : State := (fnOf f s).pend.foldl (firePending f) s

/-- Writes a 32-bit word of a function's MSI-X table; the vector control word holds the mask bit alone. -/
def msixWrite (f i v : Nat) (s : State) : State :=
  let v := if i % 4 = 3 then v % 2 else v % 2 ^ 32
  let d := if i % 4 = 3 then 1 else 0
  fireAll f { s with msix := put (f * 2 ^ 16 + i) (if v = d then none else some v) s.msix }

/-- MSIX_UNMASK (R434): the mask bit of a vector, or of the function, is written; a vector that is unmasked with its function
sends its pending message. -/
def execMsixUnmask (f : Fin 33) (v : Option Nat) (mask : Bool) (s : State) : Host.Outcome State Fault Refusal :=
  goesOn s (if !(fnOf f s).present then s
    else match v with
      | none => fireAll f (setFn f { fnOf f s with fmask := mask } s)
      | some n => if n < vecCount f then msixWrite f (n * 4 + 3) (b2n mask) s else s)

/-! ### BAR2 (R84, R430, R431) -/

/-- The Posting Window bytes that the host may write: not the Ack word, nor reserved bytes. -/
def slotByte (a : Nat) : Bool := decide (a % 4096 < 4) || decide (0x40 ≤ a % 4096)

/-- Writes host bytes to the Posting Windows from a byte up. -/
def slotWrite (a : Nat) : List Byte → State → State
  | [], s => s
  | b :: r, s => slotWrite (a + 1) r (if slotByte a then { s with bar2 := writeByte a b s.bar2 } else s)

/-- BAR2_WRITE (R430): a write of up to 64 bytes to a function's region; the PF's write to another region is discarded. -/
def execBar2Write (f : Fin 33) (off : Nat) (l : List Byte) (s : State) : Host.Outcome State Fault Refusal :=
  goesOn s (if !hostUp f s ∨ !(fnOf f s).present ∨ 64 < l.length then s
    else if off + l.length ≤ 2 ^ 18 then slotWrite (f * 2 ^ 18 + off) l s
    else if f = 0 ∧ off < 0x840000 then hostErr DEV_HOSTERR_BAR2_W 0 s
    else s)

/-! ### BAR4 (R432, R433) -/

/-- The Unified Range offset of a BAR4 offset. -/
def apAddr (f off : Nat) (s : State) : Nat := getF (DEV_B4f_BASE_BASE f) s * 2 ^ 21 + off

/-- The PF's check: refused when TIER is 0, beyond EXTENT, or in PART 14 or 15. -/
def apPf (a n : Nat) (s : State) : Bool :=
  decide (0 < n) && decide (a + n ≤ 2 ^ 43) && (List.range ((a + n - 1) / 2 ^ 21 + 1 - a / 2 ^ 21)).all (fun i =>
    let b := a / 2 ^ 21 + i
    let e := bent b s
    decide (entTier e ≠ 0) && decide (entPart e < 14) && decide (min ((b + 1) * 2 ^ 21) (a + n) ≤ b * 2 ^ 21 + entExtent e * 4096))

/-- The request is allowed: a VF's is checked for the partition bound to it, without RO. -/
def apOk (f a n : Nat) (s : State) : Bool :=
  if f = 0 then apPf a n s else (funcPart f s).any (fun p => rangeOk p false a n s)

/-- A refused request is counted. -/
def apDeny (f : Nat) (s : State) : State := hostErr DEV_HOSTERR_B4_DENIED f (tally 1 DEV_T_B4DENY_COUNT 1 s)

/-- The request reaches the aperture: the device is READY, the function is present, and it lies in the 64 GiB of BAR4. -/
def apIn (f off n : Nat) (s : State) : Bool := hostUp f s && (fnOf f s).present && decide (off + n ≤ 2 ^ 36)

/-- BAR4_READ (R432): RDATA takes the bytes, and RSTAT 0, 2 for Completer Abort, 3 for a poisoned completion, or 4 while a line is
held (R272), in which case the request is made again. -/
def execBar4Read (f : Fin 33) (off n : Nat) (s : State) : Host.Outcome State Fault Refusal :=
  let a := apAddr f off s
  goesOn s (if !apIn f off n s then { s with rdata := 0, rstat := 2 }
    else if !apOk f a n s then apDeny f { s with rdata := 0, rstat := 2 }
    else if anyHeld a n s then { s with rdata := 0, rstat := 4 }
    else if anyPoison a n s then { s with rdata := leNat (urRead a n s), rstat := 3 }
    else { s with rdata := leNat (urRead a n s), rstat := 0 })

/-- A BAR4 write within one line.  One that meets the cursor of a migration is applied before the copy, which carries it (R252;
DEDUCED, log entry 30). -/
def apLine (a : Nat) (l : List Byte) (s : State) : State :=
  match storeAddr a s with
  | some _ => (writeLine a l s).1
  | none =>
    let m := loadAddr a s
    if objPoisoned a s then s
    else if marked m s ∧ l.length < 64 then memEvent MEMC_STAT_PDROP (tally 12 MEMC_T_PDROP_COUNT 1 s)
    else
      let s1 := if marked m s then markLine m false s else s
      setDirty a (touchPage m { s1 with mem := writeBytes m l s1.mem })

/-- BAR4_WRITE (R432, R433): checked and applied in arrival order, or discarded. -/
def execBar4Write (f : Fin 33) (off : Nat) (l : List Byte) (s : State) : Host.Outcome State Fault Refusal :=
  let a := apAddr f off s
  goesOn s (if !apIn f off l.length s ∨ l.isEmpty then s
    else if !apOk f a l.length s then apDeny f s
    else releaseHeld ((lineChunks l.length a l).foldl (fun s c => apLine c.1 c.2 s) s))

/-- The DEV_B4f_BASE of a write by function f: one above 8 TiB − 64 GiB is ignored. -/
def baseWrite (f g v : Nat) (s : State) : State :=
  if 2 ^ 43 - 2 ^ 36 < bitsAt 42 21 v * 2 ^ 21 then hostErr DEV_HOSTERR_B4_REFUSED f s else setF (DEV_B4f_BASE_BASE g) (bitsAt 42 21 v) s

/-- B4_BASE_WRITE (R432): the PF writes any base, a VF its own. -/
def execB4BaseWrite (f g : Fin 33) (v : BitVec 64) (s : State) : Host.Outcome State Fault Refusal :=
  goesOn s (if streamOut f s ∨ (f ≠ 0 ∧ f ≠ g) then s else baseWrite f g v.toNat s)

/-! ### Host reads (R438) -/

/-- A command whose host read fails ends ITEM_FAILED with no effect. -/
def commandReadFails (id : Nat) (s : State) : State :=
  match s.stage with
  | some g => if g.pkt = id then finishId id stITEM_FAILED 0 (setF SEC_STAGE_STATE g.prev { s with stage := none }) else s
  | none => match s.accepted.find? (fun p => decide (p.id = id)) with
    | none => s
    | some p => if p.opcode ∈ [0x0305, 0x0801] ∧ !s.vbuf.any (fun w => decide (w.pkt = id + 1)) then finishId id stITEM_FAILED 0 (unreserve p s) else s

/-- HOST_READ_COMPLETION (R438): the completion delivers data, which is what host memory held, or the work that needed it fails. -/
def execHostReadCompletion (w : HostRead) (ok : Bool) (addr : Nat) (data : List Byte) (s : State) : Host.Outcome State Fault Refusal :=
  goesOn s (if ok then { s with hostMem := writeBytes addr data s.hostMem }
    else match w with
      | .alloc c slot ul k => readFails 0 (modJob c slot ul (modAlloc k (allocFail 0 false noUnit)) s)
      | .refetch i u => match lookup i s.objs with
        | none => readFails 0 s
        | some o => match lookup u o.units with
          | none => readFails (partFunc o.part s) s
          | some k => attemptFails i u k o (readFails (partFunc o.part s) s)
      | .command id => commandReadFails id (readFails 0 s))

/-- EP_TLP_RECEIVE (R438): the TLP is discarded. -/
def execEpTlpReceive (f : Fin 33) (s : State) : Host.Outcome State Fault Refusal := goesOn s (hostErr DEV_HOSTERR_EP_RX f s)

/-- PTM_DIALOGUE (R440): while PTM Enable is 1, a dialogue completes, as a measurement of TD6, or does not. -/
def execPtmDialogue (en ok : Bool) (off16 : Int) (mpd : Nat) (s : State) : Host.Outcome State Fault Refusal :=
  goesOn s (if !en then s
    else
      let s1 := setF DEV_PTM_VALID (b2n ok) s
      if ok then validMeasurement 6 off16 mpd s1 else s1)

end Sys2Proof.Machine
end

