-- ==== Sys2Proof/Machine/BringUp.lean ====
section
/-! DEFINITION. The rails, PERST# and the bring-up sequence (R405, R410, R411, R449 to R455, R469). -/

namespace Sys2Proof.Machine

/-! ### Rails and PERST# (R405, R450, R469) -/

/-- The bring-up sequence starts: a device reset whose times count from now. -/
def startSequence (s : State) : State := deviceReset { s with perstAt := s.now }

/-- PERST_ASSERT (R450): every unit is held in reset, and the sequence is abandoned. -/
def execPerstAssert (s : State) : Host.Outcome State Fault Refusal := goesOn s (deviceReset { s with perst := true })

/-- The instructions that take the pins give way to BYPASS outside PERST# (R446). -/
def tapRelease (s : State) : State :=
  if s.tapIr ∈ [.extest, .extestPulse, .extestTrain, .clamp, .highz] then { s with tapIr := .bypass } else s

/-- PERST_DEASSERT (R449, R451): the straps are sampled, and with both rails present the sequence starts. -/
def execPerstDeassert (straps : Fin 4) (s : State) : Host.Outcome State Fault Refusal :=
  goesOn s (if !s.perst then s
    else
      let s1 := tapRelease (setF DEV_MCTP_I3C_ADDR (0x58 + straps) { s with perst := false })
      if inReset s1 then s1 else startSequence s1)

/-- VIN_CORE_APPLY (R405): the device powers into its reset state; with PERST# released already its sequence starts. -/
def execVinCoreApply (s : State) : Host.Outcome State Fault Refusal := goesOn s (if s.vin then s else startSequence { s with vin := true })

/-- VIN_CORE_LOSS (R405, R424): the first n buffered writes have reached MRAM and the others are lost, with every state but the
Vault, the fuses and what lies outside the device; a thermal trip is no longer latched (R402). -/
def execVinCoreLoss (n : Nat) (s : State) : Host.Outcome State Fault Refusal :=
  let s1 := (s.vbuf.take n).foldl (fun s w => vaultStore w.word w.value s) s
  goesOn s (setF PWR_TSTAT_TRIPPED 0 (resetCore { s1 with vin := false, vbuf := [], tapIr := .bypass, tapOut := none, bsr := [] }))

/-- VIO_DROP (R469): while VIN_CORE is present, VIO below 1.60 V acts as an assertion of PERST#. -/
def execVioDrop (s : State) : Host.Outcome State Fault Refusal :=
  goesOn s (if s.vin then deviceReset { s with vio := false } else { s with vio := false })

/-- VIO_RESTORE (R469): the reset that the drop imposed ends. -/
def execVioRestore (s : State) : Host.Outcome State Fault Refusal :=
  goesOn s (if s.vio then s
    else if inReset { s with vio := true } then { s with vio := true }
    else startSequence { s with vio := true })

/-! ### The device's own sequence (R451 to R453) -/

/-- DEV_BOOT.ELAPSED: milliseconds since PERST# was deasserted, saturating (R460). -/
def bootElapsed (s : State) : Nat := min 65535 ((s.now - s.perstAt) / (1536 * 1000000))

/-- The phase of the memory path that has not ended (R460; DEDUCED, log entry 31). -/
def bootPhase (l : List Nat) : Nat :=
  if 1 ∉ l then 0 else if 3 ∉ l then 1 else if 4 ∉ l then 2 else if 5 ∉ l then 3 else if 7 ∉ l then 4 else if 8 ∉ l then 5
  else if 6 ∉ l then 3 else 6

/-- The band of the hottest Compute Die (R379). -/
def hotBand (s : State) : Nat := ((List.range 8).map (fun i => getF (PWR_TEMPi_BAND (4 + i)) s)).foldl max 0

/-- The sequence halts at phase ph: DEV_BOOT shows it, and the event is appended to the fault history (R373, R451). -/
def bootHalt (ph cause unit : Nat) (s : State) : State :=
  let s1 := setF DEV_BOOT_ELAPSED (bootElapsed s) (setF DEV_BOOT_UNIT unit (setF DEV_BOOT_CAUSE cause (setF DEV_BOOT_FAIL 1 (setF DEV_BOOT_PHASE ph s))))
  historyAdd ([0, 0xFF, BitVec.ofNat 8 (0xC0 + cause), BitVec.ofNat 8 (hotBand s * 16)] ++ natLE 2 0xFFFF ++ natLE 2 unit ++ zeros 8) s1

/-- The Supervisor has been released: steps 6 and 8 have ended (R451). -/
def released (s : State) : Bool := decide (6 ∈ s.bootDone) && decide (8 ∈ s.bootDone)

/-- Step n has ended: DEV_BOOT.PHASE, and the Supervisor's release with the last of steps 6 and 8. -/
def stepEnded (n : Nat) (s : State) : State :=
  let s1 := { s with bootDone := n :: s.bootDone }
  setF DEV_BOOT_PHASE (bootPhase s1.bootDone) (if released s1 ∧ !released s then { s1 with supAt := s.now } else s1)

/-- Step n is running: the steps before it have ended, it has not, and the sequence has not halted. -/
def stepRuns (n : Nat) (before : List Nat) (s : State) : Bool :=
  !inReset s && !flagF DEV_BOOT_FAIL s && decide (n ∉ s.bootDone) && before.all (fun k => decide (k ∈ s.bootDone))

/-- Step 1: the fuse parity and the ROM's digest have been checked, and the Vault is read (R424). -/
def bootFuses (ok : Bool) (ue : List Nat) (s : State) : State :=
  if ok then stepEnded 1 (vaultLoad ue s) else bootHalt 0 1 0 s

/-- Step 3: the pending repairs of T0 and Core Scratch have been applied and both are filled. -/
def bootT0 (noSpare : Option (Fin 4)) (s : State) : State :=
  match noSpare with
  | some b => bootHalt 1 2 b s
  | none => stepEnded 3 (setF MEMC_FILL_DONE (setBit 0 (getF MEMC_FILL_DONE s)) s)

/-- The channels of stack k that fail training and serve, so that each needs the spare. -/
def newFails (k : Nat) (l : List (Fin 12 × Fin 32)) (s : State) : List Nat :=
  ((l.filter (fun x => decide (x.1.val = k))).map (fun x => x.2.val)).eraseDups.filter (fun c => decide (k * 32 + c ∉ s.chanRetired))

/-- A channel that fails training takes its stack's spare channel (R371, R372, R451). -/
def takeSpareChan (l : List (Fin 12 × Fin 32)) (s : State) (k : Nat) : State :=
  match newFails k l s with
  | [] => s
  | c :: _ =>
    let s1 := setF FLT_SPARE_HBMCH (getF FLT_SPARE_HBMCH s - 2 ^ k) { s with chanRetired := insertNat (k * 32 + c) s.chanRetired }
    orF DEV_BOOT_MEM_HBM_SPARE k (noteSpared 10 0x41 k c 32 0 s1)

/-- Step 4: every channel trains or takes its stack's spare; a stack for whose failing channel there is none halts the sequence. -/
def bootHbm (l : List (Fin 12 × Fin 32)) (s : State) : State :=
  match (List.range 12).find? (fun k => decide (1 < (newFails k l s).length) || (decide (0 < (newFails k l s).length) && !stackSpare k s)) with
  | some k => bootHalt 2 3 k s
  | none => stepEnded 4 ((List.range 12).foldl (takeSpareChan l) s)

/-- The highest data rate of the JEDEC speed bins up to 8,000 MT/s that a rate r supports (R452). -/
def speedBin (r : Nat) : Nat := ([8000, 7600, 7200, 6800, 6400, 6000, 5600].find? (fun b => decide (b ≤ r))).getD 0

/-- Step 7: the channels in use, their one data rate, the smallest DIMM and the capacity of T2 (R301, R452). -/
def bootDdr (chans : List (Fin 16 × Nat × Nat)) (s : State) : State :=
  let use := chans.filter (fun c => decide (0 < c.2.1) && decide (5600 ≤ c.2.2))
  let mask := use.foldl (fun m c => setBit c.1 m) 0
  let n := ((List.range 16).filter (fun k => bitAt k mask)).length
  let size := (use.map (fun c => c.2.1)).foldl min 255
  let rate := speedBin ((use.map (fun c => c.2.2)).foldl min 8000)
  if n = 0 then stepEnded 7 { s with ddrChans := 0, ddrRate := 0 }
  else stepEnded 7 (setF TIER_CAP_T2 (n * size * 8192) (setF DEV_BOOT_MEM_DIMM_SIZE size (setF DEV_BOOT_MEM_DDR_RATE rate
    (setF DEV_BOOT_MEM_DDR_USED mask { s with ddrChans := n, ddrRate := rate }))))

/-- Step 8: T2 is filled with the parity that MEMC_CODE.PARITY calls for (R262), and the rows that called for a repair have their
spares (R371). -/
def bootT2 (s : State) : State :=
  stepEnded 8 (setF MEMC_CODE_ACTIVE (getF MEMC_CODE_PARITY s) (setF MEMC_FILL_PCT 100 (setF MEMC_FILL_DONE (setBit 2 (getF MEMC_FILL_DONE s)) { s with repairs := [] })))

/-! ### Image load and check (R410, R416) -/

/-- The DeviceID hash of a part that is not RETIRED (R416). -/
def showIdentity (s : State) : State :=
  if retired s then s
  else
    let h := sha3 (Config.mldsaPublic devidSeed)
    [0, 1, 2, 3, 4, 5].foldl (fun s n => setF (SEC_DEVID_HASHn_HASH n) (fieldLE h (8 * n) 8) s) s

/-- A valid image from a bank: the identity is derived, the measurements are written, and step 6 ends. -/
def bootImage (bank : Nat) (pend : Bool) (l : List Byte) (s : State) : State :=
  let s1 := setF SEC_BOOT_RESULT 1 (setF SEC_BOOT_PENDING (b2n pend) (setF SEC_BOOT_BANK bank s))
  let s2 := setF SCHED_DET_FW_FWVER (imgFwver l) (setF SEC_FW_VER_FWVER (imgFwver l) (setF SEC_SVN_RUNNING (imgSvn l) s1))
  stepEnded 6 (showIdentity { s2 with hdrDig := sha3 (l.take 7291), bodyDig := imgBodyDigest l, runSvn := imgSvn l })

/-- An image fails its check: the reason shows in SEC_BOOT. -/
def bootBad (r : Nat) (s : State) : State := authFailed (setF SEC_BOOT_REASON r s)

/-- PENDING is cleared and REVERTED is set (R410 step 3). -/
def revert (s : State) : State :=
  secEvent SEC_STAT_REVERTED (setF SEC_BOOT_REVERTED 1 (setF SEC_BOOT_PENDING 0 (putFw (fwBank s) (fwNew s) false false (fwMinSvn s) s)))

/-- Every bank that the record names has failed: no processor is released (R410 step 4). -/
def noImage (s : State) : State := bootHalt 3 4 0 (setF SEC_BOOT_RESULT 3 s)

/-- The image of the active bank. -/
def bootActive (s : State) : State :=
  let l := flashImage (fwBank s) s
  match imageReason l s with
  | 0 => bootImage (fwBank s) false l s
  | r => noImage (bootBad r s)

/-- Step 6 (R410): the bank that the firmware record names, or NEW_BANK while PENDING is 1 and then the previous bank. -/
def bootLoad (s : State) : State :=
  if fwPending s then
    let l := flashImage (fwNew s) s
    match imageReason l s with
    | 0 => bootImage (fwNew s) true l s
    | r => bootActive (revert (bootBad r s))
  else bootActive s

/-- BRING_UP_STEP_END (R451): a step that runs ends. -/
def execBringUpStepEnd (r : BootEnd) (s : State) : Host.Outcome State Fault Refusal :=
  goesOn s (match r with
    | .fuses ok ue => if stepRuns 1 [] s then bootFuses ok ue s else s
    | .link speed width flit =>
      if stepRuns 2 [] s then stepEnded 2 (setF DEV_LINK_FLIT (b2n flit) (setF DEV_LINK_WIDTH width (setF DEV_LINK_SPEED speed s))) else s
    | .fillT0 noSpare => if stepRuns 3 [1] s then bootT0 noSpare s else s
    | .hbm l => if stepRuns 4 [1] s then bootHbm l s else s
    | .fillT1 => if stepRuns 5 [4] s then stepEnded 5 (setF MEMC_FILL_DONE (setBit 1 (getF MEMC_FILL_DONE s)) s) else s
    | .image => if stepRuns 6 [3, 5] s then bootLoad s else s
    | .ddr l => if stepRuns 7 [1] s then bootDdr l s else s
    | .fillT2 => if stepRuns 8 [7] s then bootT2 s else s)

/-! ### Supervisor start (R411, R454) -/

/-- The Supervisor starts: it has been released and has neither reported ready nor failed to. -/
def starting (s : State) : Bool := !inReset s && released s && !flagF DEV_STAT_READY s && !flagF DEV_BOOT_FAIL s

/-- A domain whose unit is in service powers up; one in FAULT stays (R391, R393). -/
def powerDom (on : Bool) (s : State) (d : Nat) : State := if on ∧ getF (PWR_DOMd_STATE d) s ≠ 3 then setF (PWR_DOMd_STATE d) 2 s else s

/-- The clusters that serve: with 16 lanes or more, and a domain that is not in FAULT (R172, R393). -/
def showClusters (s : State) : State :=
  let on (m : Nat) : Bool := decide (16 ≤ getF (COD_CCm_INFO_LANES m) s) && decide (getF (PWR_DOMd_STATE (160 + m)) s ≠ 3)
  let s1 := (List.range 8).foldl (fun s m => setF (COD_CCm_INFO_IN_SERVICE m) (b2n (on m)) s) s
  setF COD_STAT_ACTIVE ((List.range 8).filter on).length s1

/-- The domains of every unit in service power up (R391, R392). -/
def powerUnits (s : State) : State :=
  let s1 := (coresIn s).foldl (fun s n => powerDom true s (mcPhys n s)) s
  let s2 := s.mcRetiring.foldl (fun s x => powerDom true s x.2) s1
  let s3 := (List.range 8).foldl (fun s m => powerDom (clusterIn m s) s (160 + m)) s2
  (List.range 8).foldl (fun s g => powerDom (!(sigGroup g s).isEmpty) s (168 + g)) s3

/-- The spares that the spare map already names take their numbers (R19, R454). -/
def assignSpares (s : State) : State := s.mcRetiring.foldl (fun s x => mcSpareIn x.1 s) s

/-- A bank on trial becomes the active bank; COMMIT raises MIN_SVN (R411). -/
def commitBank (s : State) : State :=
  if flagF SEC_BOOT_PENDING s then
    let m := if fwCommit s then max (fwMinSvn s) s.runSvn else fwMinSvn s
    setF SEC_BOOT_PENDING 0 (setF SEC_SVN_MIN m (putFw (fwNew s) (fwNew s) false false m s))
  else s

/-- SUPERVISOR_READY (R454): within 2 s of its release the Supervisor has done its start-up, and READY reads 1. -/
def execSupervisorReady (kver : BitVec 32) (s : State) : Host.Outcome State Fault Refusal :=
  goesOn s (if starting s ∧ s.now ≤ s.supAt + 2 * 1536 * 10 ^ 9 then
      let s1 := showEscrow (assignSpares (powerUnits (showClusters s)))
      let s2 := setF SIG_STAT_ACTIVE ((List.range 64).filter (fun n => sigIn n s1)).length (setF SIG_KVER_VERSION kver.toNat s1)
      commitBank (setF DEV_BOOT_ELAPSED (bootElapsed s) (setF DEV_BOOT_PHASE 7 (setF DEV_STAT_READY 1 { s2 with wdogIdx := wdogNow s2 })))
    else s)

/-- SUPERVISOR_READY_TIMEOUT (R411, R454): 2 s have passed; a bank on trial is reverted with a device reset, and any other image
counts as invalid. -/
def execSupervisorReadyTimeout (s : State) : Host.Outcome State Fault Refusal :=
  goesOn s (if starting s ∧ s.supAt + 2 * 1536 * 10 ^ 9 < s.now then
      if flagF SEC_BOOT_PENDING s then setF SEC_STAT_REVERTED 1 (setF SEC_BOOT_REVERTED 1 (deviceReset (revert s)))
      else bootHalt 6 5 0 (setF SEC_BOOT_RESULT 3 s)
    else s)

end Sys2Proof.Machine
end

