-- ==== Sys2Proof/Machine/Glojo.lean ====
section
/-! DEFINITION. Glojo packets: the Posting Windows, the Command Sweeper, the checks of R96, the effects of timed and BARRIER
packets, and the Device-class commands of the Glojo chapter (R84 to R107). -/

namespace Sys2Proof.Machine

/-! ### The opcode table (R103, R104) -/

/-- An opcode's row: the least and the greatest payload without the payload CRC, whether a VF may post it, and its replies. -/
structure OpRow where
  lo : Nat
  hi : Nat
  vf : Bool
  replies : Nat
  deriving DecidableEq, Repr

/-- The rows of the Device, Time and Cell classes and of slot jobs. -/
def rowsRadio : List (Nat × OpRow) :=
  [(0x0101, ⟨16, 16, true, 1⟩), (0x0102, ⟨0, 0, false, 2⟩), (0x0103, ⟨0, 0, false, 1⟩), (0x0104, ⟨4, 4, false, 1⟩),
   (0x0105, ⟨64, 64, false, 1⟩), (0x0106, ⟨4, 4, false, 2⟩), (0x0107, ⟨0, 4000, true, 1⟩),
   (0x0201, ⟨16, 16, false, 1⟩), (0x0202, ⟨4, 4, false, 1⟩), (0x0203, ⟨4, 4, false, 1⟩), (0x0204, ⟨12, 12, false, 1⟩),
   (0x0205, ⟨12, 12, true, 1⟩), (0x0206, ⟨0, 0, true, 2⟩),
   (0x0301, ⟨768, 768, false, 1⟩), (0x0302, ⟨768, 768, false, 1⟩), (0x0303, ⟨4, 4, false, 2⟩), (0x0304, ⟨12, 12, false, 1⟩),
   (0x0305, ⟨64, 64, false, 1⟩), (0x0401, ⟨64, 4000, false, 2⟩), (0x0402, ⟨64, 4000, false, 2⟩)]

/-- The rows of the Context and Object classes. -/
def rowsWork : List (Nat × OpRow) :=
  [(0x0501, ⟨64, 64, true, 1⟩), (0x0502, ⟨4, 4, true, 1⟩), (0x0503, ⟨64, 4000, true, 2⟩), (0x0504, ⟨28, 28, true, 1⟩),
   (0x0505, ⟨4, 4, true, 2⟩), (0x0506, ⟨4, 4, true, 1⟩), (0x0507, ⟨12, 12, true, 1⟩),
   (0x0601, ⟨64, 64, true, 1⟩), (0x0602, ⟨8, 8, true, 1⟩), (0x0603, ⟨16, 16, true, 2⟩), (0x0604, ⟨16, 16, true, 2⟩),
   (0x0605, ⟨8, 8, true, 1⟩), (0x0606, ⟨8, 8, true, 1⟩), (0x0607, ⟨24, 24, true, 1⟩), (0x0608, ⟨16, 16, true, 1⟩)]

/-- The rows of the Fabric, Security and Diagnostics classes. -/
def rowsOther : List (Nat × OpRow) :=
  [(0x0701, ⟨32, 32, false, 2⟩), (0x0702, ⟨16, 4000, false, 1⟩), (0x0703, ⟨16, 4000, false, 1⟩), (0x0704, ⟨8, 8, false, 2⟩),
   (0x0705, ⟨8, 8, false, 1⟩), (0x0706, ⟨16, 16, true, 1⟩),
   (0x0801, ⟨16, 4000, false, 2⟩), (0x0802, ⟨32, 32, false, 2⟩), (0x0803, ⟨4, 4, false, 2⟩), (0x0804, ⟨80, 80, true, 1⟩),
   (0x0805, ⟨16, 16, false, 1⟩),
   (0x0901, ⟨8, 8, false, 2⟩), (0x0902, ⟨8, 8, false, 2⟩), (0x0903, ⟨16, 16, false, 1⟩), (0x0904, ⟨32, 32, false, 1⟩)]

/-- The row of an opcode. -/
def opRow (op : Nat) : Option OpRow := lookup op (rowsRadio ++ rowsWork ++ rowsOther)

/-- PART has the value that R104 fixes for the opcode's class. -/
def partFits (op part : Nat) : Bool :=
  if op / 256 = 3 ∨ op / 256 = 4 then decide (part = 0xF0)
  else if op / 256 = 5 ∨ op / 256 = 6 then decide (part < 8)
  else decide (part = 0xFF)

/-- The opcode is legal in a life-cycle state (R103). -/
def lcLegal (st op : Nat) : Bool :=
  if st = 5 then decide (op = 0x0101) || decide (op = 0x0804)
  else if st = 3 then true
  else if st = 2 then decide (op ≠ 0x0904)
  else decide (op ∈ [0x0101, 0x0104, 0x0107]) || decide (op / 256 = 8) || (decide (op / 256 = 9) && decide (op ≠ 0x0904))

/-! ### Device-class commands (R105, R106, R436) -/

/-- The checks of DEV_INFO. -/
def chkInfo : Check := fun p _ => if pf p 8 4 < 128 then some (badParam 40 128) else nonZeroFrom p 12 4

/-- The 128-byte device description (R106). -/
def infoRecord (p : Pkt) (s : State) : List Byte :=
  natLE 4 (identWord s) ++ natLE 4 (getF SEC_FW_VER_FWVER s) ++ natLE 2 (getF SEC_SVN_RUNNING s) ++ natLE 2 (getF SEC_SVN_MIN s) ++
  natLE 1 (getF SEC_LC_STATE s) ++ natLE 1 (if s.quiesced then 2 else 1) ++ natLE 1 p.func ++ natLE 1 ((funcPart p.func s).getD 0xFF) ++
  natLE 1 (getF MXC_STAT_ACTIVE s) ++ natLE 1 (getF MXC_STAT_SPARES s) ++ natLE 1 (getF SIG_STAT_ACTIVE s) ++ natLE 1 (getF SIG_STAT_SPARES s) ++
  natLE 1 (getF COD_STAT_ACTIVE s) ++ natLE 1 (getF COD_STAT_POLAR s) ++ natLE 1 ((s.fns.filter (fun f => decide (f.1 ≠ 0) && f.2.present)).length) ++ [0] ++
  natLE 2 (getF HJF_CFG_DEVID s) ++ natLE 1 (getF DEV_LINK_SPEED s) ++ natLE 1 (getF DEV_LINK_WIDTH s) ++
  natLE 4 (getF TIER_CAP_T0 s) ++ natLE 4 (getF TIER_CAP_T1 s) ++ natLE 4 (getF TIER_CAP_T2 s) ++ natLE 4 (getF DEV_BOOT_MEM_DDR_RATE s) ++
  natLE 4 (getF SIG_KVER_VERSION s) ++ natLE 4 (getF FLT_HOURS_HOURS s) ++ zeros 4 ++ natLE 8 (counter (eventTd s) s) ++ zeros 64

/-- DEV_INFO (R106). -/
def execDevInfo (p : Pkt) (s : State) : Host.Outcome State Fault Refusal :=
  goesOn s (runCmd chkInfo (writeRecord (fun p => pf p 0 8) infoRecord) p s)

/-- The checks of DEV_RESET: the reserved bits, and without FORCE no cell ADMITTED or DRAINING. -/
def chkReset : Check := fun p s =>
  if 1 < pf p 0 4 then some (badParam 32 0)
  else if pf p 0 4 = 1 then none
  else (s.cells.find? (fun c => decide (c.2.st = 1) || decide (c.2.st = 2))).map (fun c => (stSTATE_CONFLICT, conflictDetail 3 c.1 c.2.st))

/-- DEV_RESET (R436): the final reply is written, then the device resets. -/
def execDevReset (p : Pkt) (s : State) : Host.Outcome State Fault Refusal :=
  goesOn s (runCmdOpen chkReset (fun p s => deviceReset (finish p stOK 0 s)) p s)

/-- DEV_ECHO (R105): the CRC-32C of the payload. -/
def execDevEcho (p : Pkt) (s : State) : Host.Outcome State Fault Refusal :=
  goesOn s (runCmd anyState (fun p s => (s, stOK, crc32c p.payload)) p s)

/-! ### The effects by opcode -/

/-- The state that a meaning answers. -/
def nextOf (s : State) : Host.Outcome State Fault Refusal → State
  | .next t => t
  | _ => s

/-- The effect of a Device-class packet. -/
def effDevice (p : Pkt) (s : State) : State :=
  match p.opcode % 256 with
  | 1 => nextOf s (execDevInfo p s)
  | 2 => nextOf s (execDevQuiesce p s)
  | 3 => nextOf s (execDevResume p s)
  | 4 => nextOf s (execDevReset p s)
  | 5 => nextOf s (execPartSet p s)
  | 6 => nextOf s (execPartClear p s)
  | 7 => nextOf s (execDevEcho p s)
  | _ => s

/-- The effect of a Time-class packet. -/
def effTime (p : Pkt) (s : State) : State :=
  match p.opcode % 256 with
  | 1 => nextOf s (execTimeConfig p s)
  | 2 => nextOf s (execTimeEnable p s)
  | 3 => nextOf s (execTimeDisable p s)
  | 4 => nextOf s (execTimeStep p s)
  | 5 => nextOf s (execTimeQuery p s)
  | 6 => nextOf s (execTimeMark p s)
  | _ => s

/-- The effect of a Cell-class packet. -/
def effCell (p : Pkt) (s : State) : State :=
  match p.opcode % 256 with
  | 1 => nextOf s (execCellCreate p s)
  | 2 => nextOf s (execCellReconfig p s)
  | 3 => nextOf s (execCellDelete p s)
  | 4 => nextOf s (execCellQuery p s)
  | 5 => nextOf s (execCellNeural p s)
  | _ => s

/-- The effect of a slot job. -/
def effSlot (p : Pkt) (s : State) : State :=
  match p.opcode % 256 with
  | 1 => nextOf s (execSlotUl p s)
  | 2 => nextOf s (execSlotDl p s)
  | _ => s

/-- The effect of a Context-class packet. -/
def effContext (p : Pkt) (s : State) : State :=
  match p.opcode % 256 with
  | 1 => nextOf s (execCtxCreate p s)
  | 2 => nextOf s (execCtxDestroy p s)
  | 3 => nextOf s (execStepSubmit p s)
  | 4 => nextOf s (execCtxSeed p s)
  | 5 => nextOf s (execCtxSuspend p s)
  | 6 => nextOf s (execCtxResume p s)
  | 7 => nextOf s (execCtxQuery p s)
  | _ => s

/-- The effect of an Object-class packet. -/
def effObject (p : Pkt) (s : State) : State :=
  match p.opcode % 256 with
  | 1 => nextOf s (execObjCreate p s)
  | 2 => nextOf s (execObjFree p s)
  | 3 => nextOf s (execObjPromote p s)
  | 4 => nextOf s (execObjEvict p s)
  | 5 => nextOf s (execObjPin p s)
  | 6 => nextOf s (execObjUnpin p s)
  | 7 => nextOf s (execObjKeys p s)
  | 8 => nextOf s (execObjQuery p s)
  | _ => s

/-- The effect of a Fabric-class packet. -/
def effFabric (p : Pkt) (s : State) : State :=
  match p.opcode % 256 with
  | 1 => nextOf s (execFabPort p s)
  | 2 => nextOf s (execFabRoute p s)
  | 3 => nextOf s (execFabGroup p s)
  | 4 => nextOf s (execFabFence p s)
  | 5 => nextOf s (execFabUnfence p s)
  | 6 => nextOf s (execFabQuery p s)
  | _ => s

/-- The effect of a Security-class packet. -/
def effSecurity (p : Pkt) (s : State) : State :=
  match p.opcode % 256 with
  | 1 => nextOf s (execSecLcAdvance p s)
  | 2 => nextOf s (execSecFwStage p s)
  | 3 => nextOf s (execSecFwActivate p s)
  | 4 => nextOf s (execSecMeasure p s)
  | 5 => nextOf s (execSecCalWrite p s)
  | _ => s

/-- The effect of a Diagnostics-class packet. -/
def effDiag (p : Pkt) (s : State) : State :=
  match p.opcode % 256 with
  | 1 => nextOf s (execDiagAssay p s)
  | 2 => nextOf s (execDiagSpare p s)
  | 3 => nextOf s (execDiagTally p s)
  | 4 => nextOf s (execDiagInject p s)
  | _ => s

/-- The effect of an accepted packet, by its opcode. -/
def dispatch (p : Pkt) (s : State) : State :=
  match p.opcode / 256 with
  | 1 => effDevice p s
  | 2 => effTime p s
  | 3 => effCell p s
  | 4 => effSlot p s
  | 5 => effContext p s
  | 6 => effObject p s
  | 7 => effFabric p s
  | 8 => effSecurity p s
  | 9 => effDiag p s
  | _ => s

/-- The effect of the accepted packet with a place in the acceptance order, where it meets a test. -/
def dispatchId (ok : Pkt → Bool) (id : Nat) (s : State) : State :=
  match s.accepted.find? (fun p => decide (p.id = id)) with
  | none => s
  | some p => if ok p then dispatch p s else s

/-- TIMED_EFFECT (R51, R100): the air time of a packet in the timed-command table has come. -/
def execTimedEffect (id : Nat) (s : State) : Host.Outcome State Fault Refusal :=
  goesOn s (dispatchId (fun p => decide (p.id ∈ s.timed) && due p s) id s)

/-- BARRIER_RELEASE (R102): every packet accepted earlier from the window has its final reply. -/
def execBarrierRelease (id : Nat) (s : State) : Host.Outcome State Fault Refusal :=
  goesOn s (dispatchId (fun p => p.barrier && !waitsBarrier p s) id s)

/-- SUPERVISOR_RESTART (R385): the Supervisor runs again, and the effects that waited for it follow in order. -/
def execSupervisorRestart (s : State) : Host.Outcome State Fault Refusal :=
  goesOn s (if bitAt 9 (getF FLT_HEART_ALIVE s) then s
    else s.deferred.foldl (fun s i => dispatchId (fun _ => true) i s) (orF FLT_HEART_ALIVE 9 { s with deferred := [], missed := put 9 none s.missed }))

/-! ### The checks of R96 -/

/-- The payload and state checks of the Device, Time and Cell classes and of slot jobs. -/
def chkRadio (p : Pkt) (s : State) : Option (Nat × Nat) :=
  let time (c : Check) : Option (Nat × Nat) := match timeParam p with
    | some x => some (badParam x.1 x.2)
    | none => c p s
  match p.opcode with
  | 0x0101 => chkInfo p s
  | 0x0102 => chkQuiesced false p s
  | 0x0103 => chkQuiesced true p s
  | 0x0104 => chkReset p s
  | 0x0105 => chkPartSet p s
  | 0x0106 => chkPartClear p s
  | 0x0201 => time chkTdDisabled
  | 0x0202 => time chkTimeEnable
  | 0x0203 => time chkTdStep
  | 0x0204 => time chkTdStep
  | 0x0205 => time anyState
  | 0x0206 => time chkTimeMark
  | 0x0301 => checks [fun p s => cfgCheck none p.payload s, chkCellCreate, secBusy, admitAdds createAdds] p s
  | 0x0302 => checks [fun p s => cfgCheck ((lookup (pCell p) s.cells).map (fun c => c.cfg)) p.payload s, chkCellAdmitted, admitAdds reconfigAdds] p s
  | 0x0303 => checks [fun p _ => cellNameCheck p, chkCellAdmitted] p s
  | 0x0304 => cellNameCheck p
  | 0x0305 => checks [neuralCheck, chkCellAdmitted, admitAdds neuralAdds] p s
  | 0x0401 => checks [slotCheck, chkCellAdmitted] p s
  | 0x0402 => checks [slotCheck, chkCellAdmitted] p s
  | _ => none

/-- The payload and state checks of the other classes. -/
def chkWork (p : Pkt) (s : State) : Option (Nat × Nat) :=
  match p.opcode with
  | 0x0501 => chkCtxCreate p s
  | 0x0502 => chkCtxDestroy p s
  | 0x0503 => chkStep p s
  | 0x0504 => chkCtxSeed p s
  | 0x0505 => chkCtxSuspend p s
  | 0x0506 => chkCtxResume p s
  | 0x0507 => chkCtxQuery p s
  | 0x0601 => chkCreate p s
  | 0x0602 => chkFree p s
  | 0x0603 => chkPromote p s
  | 0x0604 => chkEvict p s
  | 0x0605 => chkPin p s
  | 0x0606 => chkUnpin p s
  | 0x0607 => chkKeys p s
  | 0x0608 => chkObjQuery p s
  | 0x0701 => chkFabPort p s
  | 0x0702 => chkTable badRoute p s
  | 0x0703 => chkTable badGroup p s
  | 0x0704 => chkFence 1 p s
  | 0x0705 => chkFence 2 p s
  | 0x0706 => chkFabQuery p s
  | 0x0801 => chkLc p s
  | 0x0802 => chkStage p s
  | 0x0803 => chkActivate p s
  | 0x0804 => chkMeasure p s
  | 0x0805 => chkCal p s
  | 0x0901 => chkAssay p s
  | 0x0902 => chkSpare p s
  | 0x0903 => chkTally p s
  | 0x0904 => chkInject p s
  | _ => none

/-- The opcode's own checks: those of payload and state, with those of resources behind them. -/
def opCheck : Check := fun p s => (chkRadio p s).or (chkWork p s)

/-- The raw header fields that no Pkt holds: reserved bits, HVER, PLEN and HCRC. -/
def hdrBad (h : List Byte) : Option (Nat × Nat) :=
  let part := fieldLE h 25 1
  if fieldLE h 2 1 / 16 ≠ 0 then some (badParam 2 0)
  else if fieldLE h 3 1 ≠ 1 then some (badParam 3 0)
  else if fieldLE h 20 4 / 2 ^ 12 ≠ 0 then some (badParam 21 0)
  else if fieldLE h 24 1 / 64 ≠ 0 then some (badParam 24 0)
  else if 8 ≤ part ∧ part ≠ 0xF0 ∧ part ≠ 0xFF then some (badParam 25 0)
  else if fieldLE h 26 2 ≠ 0 then some (badParam 26 0)
  else none

/-- A function holds a partition: the PF every one and the radio's, a VF the one that names it (R96, R345). -/
def holdsPart (f part : Nat) (s : State) : Bool :=
  decide (f = 0) || decide (part = 0xFF) || (decide (part < 8) && decide (partSt part s ≠ 0) && decide (getF (SCHED_Pp_INFO_FUNC part) s = f))

/-- PLEN of a header. -/
def hdrPlen (h : List Byte) : Nat := fieldLE h 20 4 % 2 ^ 12

/-- The payload as it was read, CRC included. -/
abbrev RawCheck := List Byte → List Byte → Pkt → State → Option (Nat × Nat)

/-- Checks 1 to 4: the header, the function, the partition and the opcode. -/
def chkHeader : RawCheck := fun h _ p s =>
  let f := p.window / 4
  let denied := b2n (decide (p.func ≠ f)) + 2 * b2n (!holdsPart f p.part s)
  if crc32c (h.take 28) ≠ fieldLE h 28 4 then some (stHDR_CRC, 0)
  else (hdrBad h).or
    (if denied ≠ 0 then some (stNOT_PERMITTED, denied)
    else match opRow p.opcode with
      | none => some (stBAD_OPCODE, p.opcode)
      | some r =>
        if f ≠ 0 ∧ !r.vf then some (stNOT_PERMITTED, 4)
        else if !partFits p.opcode p.part then some (stNOT_PERMITTED, 8)
        else none)

/-- Checks 5 to 7: the length, the payload CRC and the life cycle. -/
def chkLength : RawCheck := fun h raw p s =>
  match opRow p.opcode with
  | none => none
  | some r =>
    let c := if p.pcrc then 4 else 0
    let n := hdrPlen h
    if n % 4 ≠ 0 ∨ 4000 < n ∨ n < r.lo + c ∨ r.hi + c < n then some (stBAD_LENGTH, r.lo + c + min 4000 (r.hi + c) * 65536)
    else if p.pcrc ∧ crc32c (raw.take (n - 4)) ≠ fieldLE raw (n - 4) 4 then some (stHDR_CRC, 1)
    else if !p.pcrc ∧ flagF CMD_CTRL_PCRC_REQ s then some (badParam 2 0)
    else if !lcLegal (getF SEC_LC_STATE s) p.opcode then some (stLIFECYCLE, getF SEC_LC_STATE s)
    else none

/-- 60 s and 2 µs in Tc (R96). -/
def tc60s : Nat := 60 * 1966080000
def tcEarly : Nat := 3932

/-- The AT part of check 8. -/
def chkAt : Check := fun p _ =>
  if p.acceptAt + tc60s < p.at_ ∨ (p.at_ ≠ 0 ∧ p.opcode / 256 = 4) ∨ (p.at_ = 0 ∧ p.opcode = 0x0206) then some (badParam 8 0) else none

/-- Check 10: a time less than 2 µs ahead, and the Lead Time of a slot job. -/
def chkLate : Check := fun p s =>
  if p.at_ ≠ 0 ∧ p.at_ < p.acceptAt + tcEarly then some (stLATE, p.acceptAt + tcEarly - p.at_)
  else if p.opcode / 256 = 4 then slotLate p s
  else none

/-- The timed-command table of check 11 (R101). -/
def chkTimed : Check := fun p s =>
  if p.at_ = 0 then none
  else if 4096 ≤ s.timed.length then some (stBUSY, 1)
  else if p.func ≠ 0 ∧ 128 ≤ (s.accepted.filter (fun q => decide (q.func = p.func) && decide (q.id ∈ s.timed))).length then some (stBUSY, 2)
  else none

/-- A status of check 11: a resource is short. -/
def isShort (st : Nat) : Bool := decide (st = stNO_ESCROW) || decide (st = stBUSY) || decide (st = stPINNED_DEFERRED)

/-- Checks 8 to 11: the opcode's own checks, with check 10 and the timed-command table before a resource that is short. -/
def chkEffect : Check := fun p s =>
  (chkAt p s).or (match opCheck p s with
    | some (st, d) => if isShort st then (chkLate p s).or ((chkTimed p s).or (some (st, d))) else some (st, d)
    | none => (chkLate p s).or (chkTimed p s))

/-! ### Acceptance (R85, R90, R95) -/

/-- The bound domain: the cell's, or that of AIR_DEFAULT_TD (R32, R33). -/
def boundTd (op : Nat) (payload : List Byte) (s : State) : Nat :=
  let dflt := getF AIR_DEFAULT_TD_TD s
  if op / 256 = 3 ∨ op / 256 = 4 then
    match lookup (fieldLE payload 0 2) s.cells with
    | some c => cfgTd c.cfg
    | none => if op = 0x0301 ∧ cfgTd payload < 6 then cfgTd payload else dflt
  else dflt

/-- First byte of a slot in the Posting Windows. -/
def slotAddr (w k : Nat) : Nat := w * 2 ^ 16 + k * 2 ^ 12

/-- The Seal count of a slot. -/
def sealOf (w k : Nat) (s : State) : Nat := leNat (readBytes s.bar2 (slotAddr w k) 4)

/-- The last Seal count seen in a slot. -/
def lastSeal (w k : Nat) (s : State) : Nat := look 0 (w * 16 + k) s.seals

/-- Remembers a Seal count. -/
def putSeal (w k n : Nat) (s : State) : State := { s with seals := put (w * 16 + k) (if n = 0 then none else some n) s.seals }

/-- The header of a slot. -/
def slotHdr (w k : Nat) (s : State) : List Byte := readBytes s.bar2 (slotAddr w k + 0x40) 32

/-- The packet that a slot holds, with the payload CRC taken off. -/
def slotPkt (w k : Nat) (h raw : List Byte) (s : State) : Pkt :=
  let op := fieldLE h 0 2
  let pcrc := bitAt 3 (fieldLE h 2 1)
  let payload := if pcrc then raw.take (raw.length - 4) else raw
  let td := if crc32c (h.take 28) = fieldLE h 28 4 then boundTd op payload s else getF AIR_DEFAULT_TD_TD s
  ⟨s.accepts, w, k, op, bitAt 0 (fieldLE h 2 1), bitAt 1 (fieldLE h 2 1), bitAt 2 (fieldLE h 2 1), pcrc, fieldLE h 4 4, fieldLE h 8 8, fieldLE h 16 4,
    fieldLE h 24 1 % 64, fieldLE h 25 1, td, counter td s, payload⟩

/-- The packet receives an ACCEPTED reply before its final one (R95). -/
def twoReplies (p : Pkt) : Bool := decide (p.at_ ≠ 0) || (opRow p.opcode).any (fun r => decide (r.replies = 2))

/-- What an accepted packet reserves until its effect (R68, R101, R246). -/
def reserveFor (p : Pkt) (s : State) : State :=
  match p.opcode with
  | 0x0301 => reserve createAdds p s
  | 0x0302 => reserve reconfigAdds p s
  | 0x0305 => reserve neuralAdds p s
  | 0x0501 => reserveCtx p s
  | 0x0601 => reserveObj p.id p.part (pf p 12 1 % 4) (lenBlocks (pf p 8 4)) (if bitAt 4 (pf p 12 1) then 4 else bitsAt 3 2 (pf p 12 1)) ((freeIndex s).getD 0) (createBlock p s) s
  | 0x0603 => match lookup (pObj p) s.objs with
    | none => s
    | some o => if o.st = 1 ∧ pTarget p < o.tier then reserveObj p.id p.part (pTarget p) (objBlocks o) (if pAny p then 4 else pBank p) 0 0 s else s
  | 0x0604 => match lookup (pObj p) s.objs with
    | none => s
    | some o => reserveObj p.id p.part (pTarget p) (evictFrames o (pTarget p) s) 4 0 0 s
  | _ => s

/-- DETAIL of an ACCEPTED reply: the number of the entry that acceptance has reserved, where the opcode's result is one (R98;
DEDUCED, log entry 53). -/
def acceptedDetail (p : Pkt) (s : State) : Nat :=
  if p.opcode = 0x0501 then ((s.ctxResv.find? (fun r => decide (r.id = p.id))).map (fun r => r.num)).getD 0
  else ((s.objResv.find? (fun r => decide (r.id = p.id))).map (fun r => r.idx)).getD 0

/-- A packet has passed every check: it is accepted (R95, R101). -/
def acceptPkt (p : Pkt) (s : State) : State :=
  let s1 := reserveFor p { s with accepted := s.accepted ++ [p] }
  let s2 := if p.at_ = 0 then s1 else showTimed { s1 with timed := s1.timed ++ [p.id] }
  let s3 := setF (CMD_PWw_LASTSEQ_SEQ p.window) p.seq (tally 3 (CMD_PWw_ACCEPT_COUNT p.window) 1 s2)
  let s4 := if p.opcode / 256 = 4 then showLedger 0 s3 else s3
  if twoReplies p then reply p stACCEPTED false (acceptedDetail p s4) p.acceptAt s4 else s4

/-- A packet has failed a check: one final reply and no effect; a slot job that is LATE counts (R76, R95). -/
def rejectPkt (p : Pkt) (st d : Nat) (s : State) : State :=
  let s1 := tally 3 (CMD_PWw_REJECT_COUNT p.window) 1 s
  reply p st true d p.acceptAt (if st = stLATE ∧ p.opcode / 256 = 4 then countLate (jobCell p.payload) s1 else s1)

/-- A found packet is read, acknowledged and checked (R85, R96). -/
def readPkt (w : Nat) (s : State) (k : Nat) : State :=
  let n := sealOf w k s
  let h := slotHdr w k s
  let raw := readBytes s.bar2 (slotAddr w k + 0x60) (min 4000 (hdrPlen h))
  let p := slotPkt w k h raw s
  let s1 := putSeal w k n { s with bar2 := writeBytes (slotAddr w k + 8) (natLE 8 n) s.bar2, accepts := s.accepts + 1 }
  match (chkHeader h raw p s1).or ((chkLength h raw p s1).or (chkEffect p s1)) with
  | some (st, d) => rejectPkt p st d s1
  | none => acceptPkt p s1

/-! ### The Command Sweeper (R85, R86, R89, R95) -/

/-- Entries of its reply ring that a packet without a final reply holds back: the ACCEPTED reply takes one of its two (R95,
DEDUCED, log entry 32). -/
def heldEntries (p : Pkt) : Nat := if twoReplies p ∧ !p.quiet then 1 else 2

/-- Free entries of a window's reply ring beyond those reserved. -/
def ringFree (w : Nat) (s : State) : Int :=
  (ringSize w s : Int) - ((getF (CMD_PWw_RR_TAIL_TAIL w) s + 2 ^ 17 - getF (CMD_PWw_RR_HEAD_HEAD w) s) % 2 ^ 17 : Nat) -
    (((s.accepted.filter (fun p => decide (p.window = w))).map heldEntries).sum : Nat)

/-- Reads the found packets in order while the ring has space; whether one is left. -/
def readAll (w : Nat) : List Nat → State → State × Bool
  | [], s => (s, false)
  | k :: r, s => if ringFree w s < 2 then (s, true) else readAll w r (readPkt w s k)

/-- A slot whose Seal is neither the last count seen nor the next (R86). -/
def sealError (w : Nat) (s : State) (k : Nat) : State :=
  let n := sealOf w k s
  if n = lastSeal w k s ∨ n = (lastSeal w k s + 1) % 2 ^ 32 then s
  else setF (CMD_PWw_STAT_ERR_SLOT w) k (setF (CMD_PWw_STAT_SEAL_ERR w) 1 (putSeal w k n s))

/-- Inserts a slot by its packet's distance from LASTSEQ; slots of one distance stay in order (R90). -/
def insertSlot (key : Nat → Nat) (k : Nat) : List Nat → List Nat
  | [] => [k]
  | j :: r => if key k ≤ key j then k :: j :: r else j :: insertSlot key k r

/-- The sixteen slots of a window. -/
def slots : List Nat := List.range 16

/-- The slots that hold a found packet, in the order of acceptance (R85, R90). -/
def foundSlots (w : Nat) (s : State) : List Nat :=
  let l := getF (CMD_PWw_LASTSEQ_SEQ w) s
  (slots.filter (fun k => decide (sealOf w k s = (lastSeal w k s + 1) % 2 ^ 32))).foldr
    (insertSlot (fun k => (fieldLE (slotHdr w k s) 4 4 + 2 ^ 33 - l - 1) % 2 ^ 32)) []

/-- The Command Sweeper reads Seals of window w (R85, R107, R369, R435). -/
def sweeps (w : Nat) (s : State) : Bool :=
  hostUp (w / 4) s && flagF CMD_CTRL_EN s && flagF (CMD_PWw_CTRL_EN w) s && mayMaster (w / 4) s && !ledgerLow (w / 4) s

/-- One sweep of a window. -/
def sweep (w : Nat) (s : State) : State :=
  let found := foundSlots w s
  let r := readAll w found (slots.foldl (sealError w) s)
  if r.2 then setF (CMD_PWw_STAT_RR_FULL w) 1 (setF (CMD_PWw_STAT_STALLED w) 1 (tally 3 (CMD_PWw_DEFER_COUNT w) 1 r.1))
  else setF (CMD_PWw_STAT_STALLED w) 0 r.1

/-- COMMAND_SWEEP (R85): the Sweep Interval of a window has passed. -/
def execCommandSweep (w : Fin 132) (s : State) : Host.Outcome State Fault Refusal := goesOn s (if sweeps w s then sweep w s else s)

/-! ### Window registers (R87, R89, R94, R107) -/

/-- EN goes from 0 to 1: the Seal and Ack words and the last counts seen are zeroed. -/
def windowOn (w : Nat) (s : State) : State :=
  slots.foldl (fun s k => putSeal w k 0 { s with bar2 := fillZero (slotAddr w k) 16 s.bar2 }) (setF (CMD_PWw_STAT_BUSY w) 0 (setF (CMD_PWw_STAT_STALLED w) 0 s))

/-- EN goes from 1 to 0: BUSY while replies of the window are still to come. -/
def windowOff (w : Nat) (s : State) : State :=
  setF (CMD_PWw_STAT_BUSY w) (b2n (s.accepted.any (fun p => decide (p.window = w)))) (setF (CMD_PWw_STAT_STALLED w) 0 s)

/-- EN or BUSY reads 1: SWEEP, RR_BASE and RR_CFG keep their values. -/
def windowHeld (w : Nat) (s : State) : Bool := flagF (CMD_PWw_CTRL_EN w) s || flagF (CMD_PWw_STAT_BUSY w) s

/-- SWEEP after a write of CMD_PWw_CTRL. -/
def newSweep (w v : Nat) (s : State) : Nat :=
  let x := bitsAt 15 8 v
  if x < 2 ∨ 80 < x ∨ windowHeld w s then getF (CMD_PWw_CTRL_SWEEP w) s else x

/-- The exact cost of all enabled windows after a write of CMD_PWw_CTRL. -/
def newTotal (w v : Nat) (s : State) : Nat :=
  sweepTotal (fun x => decide (x = w)) s + (if bitAt 0 v then sweepCost (newSweep w v s) else 0)

/-- The PF's write of CMD_PWw_CTRL; one that would pass the sweep budget is refused whole (R87, R89). -/
def windowWrite (w v : Nat) (s : State) : State :=
  if 4096 * sweepScale < newTotal w v s ∧ sweepTotal (fun _ => false) s < newTotal w v s then setF CMD_STAT_SWEEP_REFUSED 1 s
  else
    let was := flagF (CMD_PWw_CTRL_EN w) s
    let s1 := setF (CMD_PWw_CTRL_IRQ_EN w) (v / 2 ^ 17) (setF (CMD_PWw_CTRL_ERR_IRQ w) (v / 2 ^ 16) (setF (CMD_PWw_CTRL_SWEEP w) (newSweep w v s) (setF (CMD_PWw_CTRL_EN w) v s)))
    showLoad (if bitAt 0 v ∧ !was then windowOn w s1 else if !bitAt 0 v ∧ was then windowOff w s1 else s1)

/-- PW_ENABLE (R87): a write of CMD_PWw_CTRL; a VF's is ignored. -/
def execPwEnable (f : Fin 33) (w : Fin 132) (v : BitVec 32) (s : State) : Host.Outcome State Fault Refusal :=
  goesOn s (if f.val = 0 ∧ hostUp f s then windowWrite w v.toNat s else s)

/-- PW_DISABLE (R87): a write of CMD_PWw_CTRL; a VF's is ignored. -/
def execPwDisable (f : Fin 33) (w : Fin 132) (v : BitVec 32) (s : State) : Host.Outcome State Fault Refusal :=
  goesOn s (if f.val = 0 ∧ hostUp f s then windowWrite w v.toNat s else s)

/-- A write of CMD_PWw_RR_HEAD: ignored with HEAD_ERR when HEAD would pass TAIL (R94). -/
def headWrite (w v : Nat) (s : State) : State :=
  let head := getF (CMD_PWw_RR_HEAD_HEAD w) s
  let tail := getF (CMD_PWw_RR_TAIL_TAIL w) s
  if (tail + 2 ^ 17 - head) % 2 ^ 17 < (v % 2 ^ 17 + 2 ^ 17 - head) % 2 ^ 17 then setF (CMD_PWw_STAT_HEAD_ERR w) 1 s
  else setF (CMD_PWw_RR_HEAD_HEAD w) v s

/-- RR_HEAD_WRITE (R94, R107): the PF writes any window's, a VF its own. -/
def execRrHeadWrite (f : Fin 33) (w : Fin 132) (v : BitVec 32) (s : State) : Host.Outcome State Fault Refusal :=
  goesOn s (if hostUp f s ∧ (f.val = 0 ∨ w.val / 4 = f.val) then headWrite w v.toNat s else s)

end Sys2Proof.Machine
end

