-- ==== Sys2Proof/Machine/RegRead.lean ====
section
/-! DEFINITION. Reads of BAR0: the two views, the values that registers show, read side effects and the accesses that are refused
(R14 to R16, R431, R436, R461 to R465). -/

namespace Sys2Proof.Machine

/-! ### The views (R461 to R464) -/

/-- The fixed parts of the VF view: VF offset, bytes, and PF offset (R464). -/
def vfFixed (v : Nat) : List (Nat × Nat × Nat) :=
  [(0x0, 4, 0x0), (0x8, 8, 0x1000 + v * 8), (0x1010, 4, 0x1000010), (0x1040, 12, 0x1000040), (0x2000, 0x100, 0x301000 + 4 * v * 0x40),
   (0x3040, 4, 0x900040), (0x5100, 8, 0xD03000 + (v - 1) * 0x10), (0x5140, 8, 0xD00040), (0x6000, 0x1000, 0xD40000 + (v - 1) * 0x1000),
   (0x7000, 0x40, 0xE01000 + v * 0x40)]

/-- The parts of the VF view that show the partition p bound to the VF. -/
def vfPart (p : Nat) : List (Nat × Nat × Nat) := [(0x3000, 0x40, 0x901000 + p * 0x40), (0x5000, 0x80, 0xD01000 + p * 0x80)]

/-- The PF offset that a part of a view gives an offset. -/
def viewOff (off : Nat) (l : List (Nat × Nat × Nat)) : Option Nat :=
  (l.find? (fun x => decide (x.1 ≤ off) && decide (off < x.1 + x.2.1))).map (fun x => x.2.2 + (off - x.1))

/-- The PF offset of an offset in VF v's view. -/
def vfOff (v off : Nat) (s : State) : Option Nat :=
  let part := funcPart v s
  if 0x4000 ≤ off ∧ off < 0x5000 then
    if part = some (chkOwner ((off - 0x4000) / 0x40) s) then some (0xB01000 + (off - 0x4000)) else none
  else (viewOff off (vfFixed v)).or (part.bind (fun p => viewOff off (vfPart p)))

/-- What a 32-bit word of BAR0 belongs to: half of a register, a mailbox byte, a word of an MSI-X table, of its pending bits, or
two coefficients of a Direct IQ filter. -/
inductive BarWord where
  | reg (d : RegDef) (i j : Nat) (hi : Bool)
  | mailbox (v b : Nat)
  | msix (f w : Nat)
  | pba (f w : Nat)
  | coefs (p a b k : Nat)
  | empty

/-- The indices of a register of a set at an offset, and which half. -/
def RegDef.find (d : RegDef) (off : Nat) : Option (Nat × Nat × Bool) :=
  let r := off - d.base
  let i := if d.s1 = 0 then 0 else r / d.s1
  let r1 := r - i * d.s1
  let j := if d.s2 = 0 then 0 else r1 / d.s2
  let r2 := r1 - j * d.s2
  if off < d.base ∨ d.n1 ≤ i ∨ d.n2 ≤ j then none
  else if r2 = 0 then some (i, j, false)
  else if r2 = 4 ∧ d.width = 64 then some (i, j, true)
  else none

/-- The register of a PF offset. -/
def regWord (off : Nat) : BarWord :=
  match regTable.findSome? (fun d => (d.find off).map (fun x => (d, x))) with
  | some (d, i, j, hi) => .reg d i j hi
  | none => .empty

/-- The word at a PF offset. -/
def pfWord (off : Nat) : BarWord :=
  if 0x3000000 ≤ off ∧ off < 0x3008000 then .msix 0 ((off - 0x3000000) / 4)
  else if 0x3008000 ≤ off ∧ off < 0x3008100 then .pba 0 ((off - 0x3008000) / 4)
  else if 0xD40000 ≤ off ∧ off < 0xD60000 then .mailbox ((off - 0xD40000) / 0x1000 + 1) (off % 0x1000)
  else
    let r := (off - 0x400000) % 0x40000
    if 0x400000 ≤ off ∧ off < 0x500000 ∧ 0x10000 ≤ r ∧ r < 0x18000 then
      if r % 0x100 < 0xC0 then .coefs ((off - 0x400000) / 0x40000) ((r - 0x10000) / 0x200) (r / 0x100 % 2) (r % 0x100 / 2) else .empty
    else regWord off

/-- A register set whose index names no unit in service (R462). -/
def absentUnit (off : Nat) (s : State) : Bool :=
  if 0x700000 ≤ off ∧ off < 0x800000 then !coreInService ((off - 0x700000) / 0x1000) s
  else if 0x501000 ≤ off ∧ off < 0x502000 then !sigIn ((off - 0x501000) / 0x40) s
  else if 0x601000 ≤ off ∧ off < 0x601200 then !clusterIn ((off - 0x601000) / 0x40) s
  else if 0xA01400 ≤ off ∧ off < 0xA01800 then !bitAt ((off - 0xA01400) / 0x40) (getF DEV_BOOT_MEM_DDR_USED s)
  else if 0xA01100 ≤ off ∧ off < 0xA01400 then decide ((off - 0xA01100) / 0x40 ∈ s.stacksOut)
  else false

/-- The block of a PF offset answers: before READY only DEV, MEMC and SEC do; with no valid image only DEV_IDENT, DEV_BOOT and SEC
(R410, R436, R453). -/
def blockOpen (off : Nat) (s : State) : Bool :=
  let sec := decide (0x1000000 ≤ off) && decide (off < 0x1100000)
  if getF SEC_BOOT_RESULT s = 3 then decide (off < 4) || (decide (0x30 ≤ off) && decide (off < 0x40)) || sec
  else flagF DEV_STAT_READY s || decide (off < 0x100000) || (decide (0xA00000 ≤ off) && decide (off < 0xB00000)) || sec

/-- A TLP of function f reaches the device: it is out of reset, the function is present, and its stream takes TLPs. -/
def tlpTaken (f : Nat) (s : State) : Bool := !inReset s && (decide (f = 0) || (fnOf f s).present) && !streamOut f s

/-- The PF offset that function f's access reaches, where its block answers and its unit is in service. -/
def reach (f off : Nat) (s : State) : Option Nat :=
  ((if f = 0 then some off else vfOff f off s).filter (fun o => blockOpen o s && !absentUnit o s))

/-- The word that function f's access reaches. -/
def wordAt (f off : Nat) (s : State) : BarWord :=
  if f ≠ 0 ∧ 0xF0000 ≤ off ∧ off < 0xF0400 then (if flagF DEV_STAT_READY s then .msix f ((off - 0xF0000) / 4) else .empty)
  else if f ≠ 0 ∧ 0xF8000 ≤ off ∧ off < 0xF8008 then (if flagF DEV_STAT_READY s then .pba f ((off - 0xF8000) / 4) else .empty)
  else match reach f off s with
    | none => .empty
    | some o => pfWord o

/-! ### What registers show -/

/-- The Tally group of a register set's counters. -/
def RegDef.group (d : RegDef) (i j : Nat) (s : State) : Nat :=
  match d.grp with
  | .fixed g => g
  | .fh => 8 + i
  | .cell => 128 + i
  | .flow => 128 + getF (FH_Ff_MAP_CELL i j) s
  | .tally => i
  | .none => 0

/-- What a field reads as, by its Type code (R14). -/
def fieldShows (g : Nat) (s : State) (f : Fld) : Nat :=
  match f.ty with
  | .wo => 0
  | .rl => if f.off < 0x1100000 then look 0 (tallyKey g f) s.latched else getF f s
  | _ => getF f s

/-- The engine registers of a logical core while its set holds a work tile (R237). -/
def engShows (n r : Nat) (s : State) : Option Nat :=
  let x := if getF (MXC_Cn_INFO_STATE n) s = 2 then lookup n s.eng else none
  let toks (a : Nat) (x : EngSet) : Nat := ((List.range 8).map (fun k => tokOf x (a + k) % 256 * 256 ^ k)).sum
  let show_ (g : EngSet → Nat) : Option Nat := some ((x.map g).getD 0)
  if r = 0x40 then show_ (fun x => x.ld.st + 2 ^ 4 * x.mx.st + 2 ^ 8 * x.vc.st + 2 ^ 12 * x.sr.st + 2 ^ 16 * b2n x.faberr)
  else if r = 0x48 then show_ (toks 0)
  else if r = 0x50 then show_ (toks 8)
  else if r = 0x58 then show_ (fun x => x.tq.length + 2 ^ 4 * x.tqPend.length + 2 ^ 11 * x.passQ.length)
  else if r = 0x5C then show_ (fun x => x.vstat)
  else if r = 0x60 then show_ (fun x => trackers x true + 2 ^ 9 * trackers x false + 2 ^ 18 * (setOps n x s).length)
  else none

/-- The Vault word of the history entry that FLT_HIST_SEL names, 0 being the newest (R373). -/
def histWord (s : State) : Nat := 576 + (s.histNext + 255 - getF FLT_HIST_SEL_ENTRY s) % 256 * 2

/-- The registers that show what another register selects, TIER_AGE_NOW, and DEV_BOOT while the sequence runs (R239, R287, R295, R373, R423,
R460). -/
def selected (off : Nat) (s : State) : Option Nat :=
  let w := getF SEC_VAULT_SEL_WORD s
  if off = TIER_AGE_NOW then some (ageNow s)
  else if off = TIER_BMAP_ENT then some (bent (getF TIER_BMAP_SEL_BLOCK s) s)
  else if off = HJF_ROUTE_ENT then some (look 0 (getF HJF_ROUTE_SEL_DST s) s.routes)
  else if off = HJF_GROUP_ENT then some (look 0 (getF HJF_GROUP_SEL_GROUP s) s.groups)
  else if off = FLT_HIST_ENT0 then some (vaultNow (histWord s) s)
  else if off = FLT_HIST_ENT1 then some (vaultNow (histWord s + 1) s)
  else if off = SEC_VAULT_DATA then some (if w < 1602 then vaultNow w s else 0)
  else if off = SEC_VAULT_WEAR then some (if w < 1602 then look 0 w s.wear else 0)
  else if off = DEV_BOOT ∧ !flagF DEV_STAT_READY s ∧ !flagF DEV_BOOT_FAIL s then
    some (getF DEV_BOOT_PHASE s + getF DEV_BOOT_CAUSE s * 2 ^ 8 + getF DEV_BOOT_UNIT s * 2 ^ 12 + bootElapsed s * 2 ^ 16)
  else if 0x700000 ≤ off ∧ off < 0x800000 then engShows ((off - 0x700000) / 0x1000) (off % 0x1000) s
  else none

/-- The value of a register. -/
def regShows (d : RegDef) (i j : Nat) (s : State) : Nat :=
  let off := d.base + i * d.s1 + j * d.s2
  match selected off s with
  | some v => v % 2 ^ d.width
  | none => ((d.fields i j).map (fun f => fieldShows (d.group i j s) s f * 2 ^ f.lo)).sum

/-- One 32-bit word of the pending bits of function f. -/
def pbaWord (f w : Nat) (s : State) : Nat := ((List.range 32).map (fun b => b2n (decide (32 * w + b ∈ (fnOf f s).pend)) * 2 ^ b)).sum

/-- The 32 bits that a word shows. -/
def wordShows (w : BarWord) (s : State) : Nat :=
  match w with
  | .reg d i j hi => regShows d i j s / (if hi then 2 ^ 32 else 1) % 2 ^ 32
  | .mailbox v b => leNat (readBytes s.mbx (v * 2 ^ 12 + b) 4)
  | .msix f k => look (if k % 4 = 3 then 1 else 0) (f * 2 ^ 16 + k) s.msix
  | .pba f k => pbaWord f k s
  | .coefs p a b k => look 0 (((p * 64 + a) * 2 + b) * 128 + k) s.diqCoef + 2 ^ 16 * look 0 (((p * 64 + a) * 2 + b) * 128 + k + 1) s.diqCoef
  | .empty => 0

/-! ### Captures (R16, R267, R465) -/

/-- What function f's read returns for the word at a PF offset: the captured value, once, or the live one. -/
def captureOf (f off : Nat) (s : State) : Option Nat := (s.captured.find? (fun c => decide (c.1 = f) && decide (c.2.1 = off))).map (fun c => c.2.2)

/-- Removes function f's capture of the word at a PF offset. -/
def uncapture (f off : Nat) (s : State) : State := { s with captured := s.captured.filter (fun c => !(decide (c.1 = f) && decide (c.2.1 = off))) }

/-- Captures a word for function f. -/
def capture (f off v : Nat) (s : State) : State :=
  let s1 := uncapture f off s
  { s1 with captured := (f, off, v) :: s1.captured }

/-- ENT0 of a log entry, which captures ENT1 of the entry (R267, R299). -/
def isEnt0 (d : RegDef) : Bool := decide (d.base = MEMC_LOG_ENT0 0 0) || decide (d.base = HJF_LOG_ENT0 0)

/-- ENT1 of the entry of an ENT0. -/
def ent1Of (d : RegDef) (i j : Nat) (s : State) : Nat :=
  if d.base = MEMC_LOG_ENT0 0 0 then getF (MEMC_LOG_ENT1_ENT i j) s else getF (HJF_LOG_ENT1_ENT i) s

/-- What a read of a register's lower half, or of all of it, captures for function f. -/
def captures (f off : Nat) (half : Bool) (d : RegDef) (i j : Nat) (s : State) : State :=
  let s1 := if half ∧ d.width = 64 then capture f (off + 4) (regShows d i j s / 2 ^ 32 % 2 ^ 32) s else s
  if isEnt0 d then capture f (off + 8) (ent1Of d i j s % 2 ^ 32) (capture f (off + 12) (ent1Of d i j s / 2 ^ 32 % 2 ^ 32) s1) else s1

/-- The side effects of a read of a register: RC fields are cleared, and a read of TSQ_ENT1 removes the entry (R14, R49). -/
def readEffect (d : RegDef) (i j : Nat) (s : State) : State :=
  let s1 := (d.fields i j).foldl (fun s f => if f.ty = .rc then setF f 0 s else s) s
  if d.base = AIR_FHp_TSQ_ENT1 0 then showTsq i { s1 with airTsq := put i (some (look [] i s1.airTsq).tail) s1.airTsq } else s1

/-- A 32-bit read by function f. -/
def readHalf (f off : Nat) (s : State) : Nat × State :=
  let w := wordAt f off s
  match w, reach f off s with
  | .reg d i j hi, some o =>
    match captureOf f o s with
    | some v => (v, if hi then uncapture f o s else readEffect d i j (uncapture f o s))
    | none => (wordShows w s, if hi then s else readEffect d i j (captures f o true d i j s))
  | _, _ => (wordShows w s, s)

/-- A 64-bit read by function f: a 64-bit register is read at once, two 32-bit words low word first. -/
def readWide (f off : Nat) (s : State) : Nat × State :=
  match wordAt f off s, reach f off s with
  | .reg d i j false, some o =>
    if d.width = 64 then
      let cap := (captureOf f o s).getD (regShows d i j s % 2 ^ 32) + 2 ^ 32 * (captureOf f (o + 4) s).getD (regShows d i j s / 2 ^ 32)
      let v := if d.base = MEMC_LOG_ENT1 0 0 ∨ d.base = HJF_LOG_ENT1 0 then cap else regShows d i j s
      (v, readEffect d i j (captures f o false d i j (uncapture f o (uncapture f (o + 4) s))))
    else
      let a := readHalf f off s
      let b := readHalf f (off + 4) a.2
      (a.1 + 2 ^ 32 * b.1, b.2)
  | _, _ =>
    let a := readHalf f off s
    let b := readHalf f (off + 4) a.2
    (a.1 + 2 ^ 32 * b.1, b.2)

/-! ### Accesses (R16, R431) -/

/-- A refused access, or a discarded smaller write, is reported. -/
def bar0Error (f : Nat) (s : State) : State := hostErr DEV_HOSTERR_BAR0 f (tally 1 DEV_T_BAR0ERR_COUNT 1 s)

/-- A refused read: Unsupported Request. -/
def readRefused (s : State) : State := { s with rdata := 0, rstat := 1 }

/-- A naturally aligned 32-bit or 64-bit access. -/
def accessOk (off size : Nat) : Bool := (decide (size = 4) || decide (size = 8)) && decide (off % size = 0)

/-- An access of another size or alignment. -/
def illegal (f : Nat) (a : Bar0Acc) (s : State) : State :=
  let small := decide (0 < a.size) && decide (a.size < 4) && decide (a.off % 4 + a.size ≤ 4)
  if accessOk a.off a.size then s
  else if a.read ∧ small then
    { s with rdata := wordShows (wordAt f (a.off / 4 * 4) s) s / 256 ^ (a.off % 4) % 256 ^ a.size, rstat := 0 }
  else if a.read then bar0Error f (readRefused s)
  else bar0Error f s

/-- BAR0_ILLEGAL_ACCESS (R431). -/
def execBar0IllegalAccess (f : Fin 33) (a : Bar0Acc) (s : State) : Host.Outcome State Fault Refusal :=
  goesOn s (if tlpTaken f s then illegal f a s else s)

/-- REG_LOWER_HALF_READ (R16): a 32-bit or 64-bit read of BAR0; a 32-bit read of a lower half captures the upper half for the
function. -/
def execRegLowerHalfRead (f : Fin 33) (off : Nat) (wide : Bool) (s : State) : Host.Outcome State Fault Refusal :=
  goesOn s (if !tlpTaken f s then s
    else if !accessOk off (if wide then 8 else 4) then illegal f ⟨true, off, if wide then 8 else 4⟩ s
    else
      let r := if wide then readWide f off s else readHalf f off s
      { r.2 with rdata := r.1, rstat := 0 })

/-- PWR_PEAK_READ (R406): the read returns the highest estimate and clears it. -/
def execPwrPeakRead (s : State) : Host.Outcome State Fault Refusal :=
  goesOn s (if !hostUp 0 s then { s with rdata := 0, rstat := 0 }
    else setF PWR_PEAK_POWER 0 { s with rdata := getF PWR_PEAK_POWER s, rstat := 0 })

end Sys2Proof.Machine
end

