-- ==== Sys2Proof/Machine/RegWrite.lean ====
section
/-! DEFINITION. Writes of BAR0: fields by their Type codes, the refusals of R481, and the registers whose writes act (R14 to R17, R431,
R464, R481). -/

namespace Sys2Proof.Machine

/-! ### Fields that refuse a value (R481) -/

/-- A field of a register with base b, at bit lo of a register with indices i and j, refuses the value x: radio blocks. -/
def refusesRadio (b lo i j x : Nat) (s : State) : Bool :=
  if b = DEV_PTM then decide (x = 0)
  else if b = DEV_DBG then !debugOpen s
  else if b = AIR_TDn_LOCK 0 then decide (lo = 8) && decide (x = 0)
  else if b = AIR_TDn_TOD 0 then flagF (AIR_TDn_CTRL_EN i) s
  else if b = ESC_CTRL then if lo = 0 then decide (x < 20) || decide (200 < x) else decide (x < 2) || decide (100 < x)
  else if b = CMD_PWw_RR_BASE 0 then windowHeld i s
  else if b = CMD_PWw_RR_CFG 0 then windowHeld i s || (decide (lo = 0) && decide (10 < x))
  else if b = FH_Qq_CFG 0 0 then decide (lo = 0) && decide (j % 16 = 15)
  else if b = FH_DIQa_CFG 0 0 then (decide (lo = 6) && (decide (x = 0) || decide (96 < x))) || (decide (lo = 14) && decide (8 < x))
  else false

/-- The same of the memory, fabric and partition blocks; v is the value written to the register. -/
def refusesStep (b lo i x v : Nat) (s : State) : Bool :=
  if b = TIER_MIG then decide (x < 8) || decide (128 < x)
  else if b = MEMC_CODE then decide (x = 3)
  else if b = MEMC_REFETCH then decide (x = 0)
  else if b = HJF_CFG then decide (lo = 0) && (List.range 16).any (fun p => decide (getF (HJF_Pp_STAT_STATE p) s ≠ 0))
  else if b = HJF_COMB then if lo = 0 then decide (x = 0) else decide (x < 2) || decide (4096 < x)
  else if b = SCHED_CTRL then decide (x < 256)
  else if b = SCHED_Pp_REG_T1 0 ∨ b = SCHED_Pp_REG_T2 0 ∨ b = SCHED_Pp_REG_FAB 0 then decide (lo = 32) && decide (x < 4)
  else if b = SCHED_DLOGv_BASE 0 ∨ b = SCHED_DLOGv_BUF0 0 ∨ b = SCHED_DLOGv_BUF1 0 then flagF (SCHED_DLOGv_CTRL_EN i) s
  else if b = SCHED_DLOGv_PAGES 0 then flagF (SCHED_DLOGv_CTRL_EN i) s || decide (x = 0) || decide (2 ^ 28 < x)
  else if b = FLT_ASSAY then if lo = 0 then decide (x = 0) || decide (10 < x) else decide (x = 0)
  else if b = FLT_WDOG then decide (lo = 4) && decide (x = 0)
  else if b = FLT_SPARE_CFG then decide (x = 0)
  else if b = FLT_LGf_CFG 0 then decide (lo = 1) && decide (10 < x)
  else if b = FLT_LGf_BASE 0 then flagF (FLT_LGf_CFG_EN i) s
  else if b = PWR_CAP then decide (x ≠ 0) && (decide (x < 1000) || decide (4000 < x))
  else if b = PWR_THERM then
    if lo = 8 then decide (x < 70) || decide (105 < x) || decide (x ≤ v % 2 ^ 8) else if lo = 16 then decide (x = 0) || decide (20 < x) else false
  else false

/-- The bits of a that b does not hold. -/
def bitsLess (a b : Nat) : Nat := a - (a &&& b)

/-- A write of a register gives one of its fields what its Type code says (R14). -/
def fieldWrite (b i j v : Nat) (s : State) (f : Fld) : State :=
  let x := v / 2 ^ f.lo % 2 ^ f.width
  match f.ty with
  | .rw => if refusesRadio b f.lo i j x s || refusesStep b f.lo i x v s then s else setF f x s
  | .rwp => if refusesStep b f.lo i x v s then s else setRwp f x s
  | .w1c => setF f (bitsLess (getF f s) x) s
  | _ => s

/-! ### Registers whose writes act -/

/-- SEC_STAT.REVERTED is a copy of SEC_BOOT.REVERTED: clearing either clears both (R427). -/
def clearReverted (v lo : Nat) (s : State) : State :=
  if bitAt lo v then setF SEC_BOOT_REVERTED 0 (setF SEC_STAT_REVERTED 0 s) else s

/-- A write of HJF_ORD.TIMEOUT (R314, R315). -/
def ordWrite (v : Nat) (s : State) : State :=
  let x := v % 2 ^ 16
  if x < 10 ∨ 10000 < x then s
  else if getF HJF_DF_IDLE s ≤ 2 * x then hjfOevent HJF_OSTAT_DF_REFUSED s
  else setF HJF_ORD_TIMEOUT x s

/-- A write of HJF_DF.IDLE (R314). -/
def dfWrite (v : Nat) (s : State) : State :=
  let x := v % 2 ^ 16
  if x ≤ 2 * getF HJF_ORD_TIMEOUT s then hjfOevent HJF_OSTAT_DF_REFUSED s else setF HJF_DF_IDLE x s

/-- A write of a Check Unit's register: STAT clears REFUSED; the others are refused while the scan runs (R277). -/
def chkRegWrite (f u b v : Nat) (s : State) : State :=
  let fld : Option Fld :=
    if b = CHK_Uu_SEEDADDR 0 then some (CHK_Uu_SEEDADDR_A u)
    else if b = CHK_Uu_START 0 then some (CHK_Uu_START_START u)
    else if b = CHK_Uu_LEN 0 then some (CHK_Uu_LEN_LEN u)
    else if b = CHK_Uu_RUN 0 then some (CHK_Uu_RUN_RUN u)
    else if b = CHK_Uu_EXPECT 0 then some (CHK_Uu_EXPECT_EXPECT u)
    else none
  if b = CHK_Uu_CTRL 0 then chkCtrlWrite f u v 0 s
  else if b = CHK_Uu_STAT 0 then (if bitAt 9 v then setF (CHK_Uu_STAT_REFUSED u) 0 s else s)
  else match fld with
    | none => s
    | some g => if chkRunning u s then chkRefused u s else showResult u (setF g v s)

/-- A write of SCHED_MBXv_CTRL by function f: each ACK before the POST (R346). -/
def mbxCtrl (f v w : Nat) (s : State) : State :=
  let i := v - 1
  if f = 0 then
    let s1 := if bitAt 2 w then mbxAck (SCHED_MBXv_CTRL_V2P_FULL i) v (SCHED_MBXv_VEC_VF_VEC i) s else s
    if bitAt 8 w then mbxPost (SCHED_MBXv_CTRL_P2V_FULL i) v (SCHED_MBXv_VEC_VF_VEC i) s1 else s1
  else
    let s1 := if bitAt 10 w then mbxAck (SCHED_MBXv_CTRL_P2V_FULL i) 0 (SCHED_MBXv_VEC_PF_VEC i) s else s
    if bitAt 0 w then mbxPost (SCHED_MBXv_CTRL_V2P_FULL i) 0 (SCHED_MBXv_VEC_PF_VEC i) s1 else s1

/-- A write of SCHED_MBXv_VEC: the PF writes PF_VEC, the VF VF_VEC (R348). -/
def mbxVec (f v w : Nat) (s : State) : State :=
  if f = 0 then setF (SCHED_MBXv_VEC_PF_VEC (v - 1)) w s else setF (SCHED_MBXv_VEC_VF_VEC (v - 1)) (w / 2 ^ 16) s

/-- A write of 32 bits of a mailbox area: its sender writes it while FULL is 0; while FULL it is ignored and sets MBX_OVR (R346). -/
def mbxWrite (f v b w : Nat) (s : State) : State :=
  if f = 0 ∧ b < 0x800 ∨ f ≠ 0 ∧ 0x800 ≤ b then s
  else if flagF (if b < 0x800 then SCHED_MBXv_CTRL_V2P_FULL (v - 1) else SCHED_MBXv_CTRL_P2V_FULL (v - 1)) s then mbxOvr s
  else { s with mbx := writeBytes (v * 2 ^ 12 + b) (natLE 4 w) s.mbx }

/-- Registers of the radio blocks whose writes act, by the base of their set. -/
def actRadio (b i j v : Nat) (s : State) : Option State :=
  if b = AIR_TDn_CTRL 0 then some (nextOf s (execTdCtrlEnWrite (Fin.ofNat 8 i) (BitVec.ofNat 32 v) s))
  else if b = AIR_TDn_SERVO 0 then
    some (reclamp i (setF (AIR_TDn_SERVO_SLEW_MAX i) (v / 2 ^ 16) (setF (AIR_TDn_SERVO_KI_SHIFT i) (v / 2 ^ 8) (setF (AIR_TDn_SERVO_KP_SHIFT i) v s))))
  else if b = AIR_TDn_EPOCH 0 then some (nextOf s (execEpochWrite (Fin.ofNat 8 i) (BitVec.ofNat 64 v) s))
  else if b = AIR_SNAP then some (if bitAt 0 v then nextOf s (execAirSnapGo s) else s)
  else if b = TALLY_Gg_CFG 0 then some (writeTallyCfg i v s)
  else if b = ESC_CEILING then some (nextOf s (execCeilingWrite (BitVec.ofNat 64 v) s))
  else if b = CMD_PWw_CTRL 0 then some (windowWrite i v s)
  else if b = CMD_PWw_RR_HEAD 0 then some (headWrite i v s)
  else if b = FH_PORT_CFG 0 then some (nextOf s (execPortModeWrite (Fin.ofNat 4 i) (BitVec.ofNat 32 v) s))
  else if FH_WPk_CFG 0 0 ≤ b ∧ b ≤ FH_WPk_TA4 0 0 then
    some (nextOf s (execWpWrite (Fin.ofNat 4 i) (Fin.ofNat 16 j) (Fin.ofNat 8 ((b - FH_WPk_CFG 0 0) / 4)) (BitVec.ofNat 32 v) s))
  else if b = FH_Qq_SHAPE 0 0 then some (nextOf s (execShapeWrite (Fin.ofNat 4 i) (Fin.ofNat 128 j) (BitVec.ofNat 64 v) s))
  else if b = FH_Ff_RATE 0 0 then some (nextOf s (execPolicerWrite (Fin.ofNat 4 i) (Fin.ofNat 1024 j) false (BitVec.ofNat 64 v) s))
  else if b = FH_Ff_BURST 0 0 then some (nextOf s (execPolicerWrite (Fin.ofNat 4 i) (Fin.ofNat 1024 j) true (BitVec.ofNat 64 v) s))
  else none

/-- Registers of the other blocks whose writes act, by function f. -/
def actOther (f b i v : Nat) (s : State) : Option State :=
  if b = DEV_B4f_BASE 0 then some (baseWrite f i v s)
  else if b = TIER_POOL_Tn 0 then some (nextOf s (execPoolSizeWrite (Fin.ofNat 2 i) (BitVec.ofNat 64 v) s))
  else if CHK_Uu_CTRL 0 ≤ b ∧ b ≤ CHK_Uu_EXPECT 0 then some (chkRegWrite f i b v s)
  else if b = HJF_ORD then some (ordWrite v s)
  else if b = HJF_DF then some (dfWrite v s)
  else if b = SCHED_DLOGv_CTRL 0 then some (dlogCtrl f (i + 1) v s)
  else if b = SCHED_MBXv_CTRL 0 then some (mbxCtrl f (i + 1) v s)
  else if b = SCHED_MBXv_VEC 0 then some (mbxVec f (i + 1) v s)
  else if b = FLT_LGf_HEAD 0 then some (ledgerHead i v s)
  else if b = PWR_THROTTLE then some (throttleWrite v s)
  else if b = SEC_STAT then
    some (clearReverted v 1 (setF SEC_STAT_VAULT (bitsLess (getF SEC_STAT_VAULT s) (v / 4)) (setF SEC_STAT_AUTH_FAIL (bitsLess (getF SEC_STAT_AUTH_FAIL s) v) s)))
  else if b = SEC_BOOT then some (clearReverted v 2 s)
  else none

/-! ### What a function may write (R107, R277, R346, R390, R464) -/

/-- The register sets that a VF writes in its view. -/
def vfWrites (b : Nat) : Bool :=
  decide (b = DEV_B4f_BASE 0) || decide (b = CMD_PWw_RR_HEAD 0) || decide (b = CMD_PWw_STAT 0) ||
    (decide (CHK_Uu_CTRL 0 ≤ b) && decide (b ≤ CHK_Uu_EXPECT 0)) || decide (b = SCHED_MBXv_CTRL 0) || decide (b = SCHED_MBXv_VEC 0) || decide (b = FLT_LGf_HEAD 0)

/-- Function f writes the value v to a register (R481). -/
def regSet (f : Nat) (d : RegDef) (i j v : Nat) (s : State) : State :=
  if f ≠ 0 ∧ !vfWrites d.base then s
  else match (actRadio d.base i j v s).or (actOther f d.base i v s) with
    | some t => t
    | none => (d.fields i j).foldl (fieldWrite d.base i j v) s

/-- The value that keeps every field of a register as it is: what RW and RWP fields hold, and zeros. -/
def regKeeps (d : RegDef) (i j : Nat) (s : State) : Nat :=
  ((d.fields i j).map (fun f => if f.ty = .rw ∨ f.ty = .rwp then getF f s * 2 ^ f.lo else 0)).sum

/-- A 32-bit write: of a 64-bit register's half, the other half keeping its value. -/
def writeHalf (f off w : Nat) (s : State) : State :=
  match wordAt f off s with
  | .reg d i j hi =>
    let k := regKeeps d i j s
    regSet f d i j (if d.width = 32 then w else if hi then k % 2 ^ 32 + w * 2 ^ 32 else w + k / 2 ^ 32 * 2 ^ 32) s
  | .mailbox v b => mbxWrite f v b w s
  | .msix g k => msixWrite g k w s
  | .coefs p a b k => writeCoef p a b (k + 1) (w / 2 ^ 16) (writeCoef p a b k (w % 2 ^ 16) s)
  | .pba _ _ => s
  | .empty => s

/-- A 64-bit write: of a 64-bit register at once, of two 32-bit words low word first. -/
def writeWide (f off v : Nat) (s : State) : State :=
  match wordAt f off s with
  | .reg d i j _ => if d.width = 64 then regSet f d i j v s else writeHalf f (off + 4) (v / 2 ^ 32) (writeHalf f off (v % 2 ^ 32) s)
  | _ => writeHalf f (off + 4) (v / 2 ^ 32) (writeHalf f off (v % 2 ^ 32) s)

/-- REGISTER_WRITE (R14, R481): a 32-bit or 64-bit write of BAR0. -/
def execRegisterWrite (f : Fin 33) (off : Nat) (wide : Bool) (v : BitVec 64) (s : State) : Host.Outcome State Fault Refusal :=
  goesOn s (if !tlpTaken f s then s
    else if !accessOk off (if wide then 8 else 4) then illegal f ⟨false, off, if wide then 8 else 4⟩ s
    else if wide then writeWide f off v.toNat s
    else writeHalf f off (v.toNat % 2 ^ 32) s)

end Sys2Proof.Machine
end

