-- ==== Sys2Proof/Machine/Ticks.lean ====
section
/-! DEFINITION. The tick of the core clock and the Air Counters, and the counters of cycles spent busy, waiting or skipped (R34,
R186, R215, R237, R258, R348, R390, R396). -/

namespace Sys2Proof.Machine

/-- Core cycles that end with the next tick. -/
def tickCycles (s : State) : Nat := (s.now + 3125) / 1536 - s.now / 1536

/-- Those of them that are skipped: of k cycles since the duty in force changed, k × duty / 100 have issued (R396). -/
def tickSkips (s : State) : Nat :=
  let d := getF PWR_TSTAT_IN_FORCE s
  let a := (s.now - s.dutyAt) / 1536
  let b := (s.now + 3125 - s.dutyAt) / 1536
  (b - a) - (b * d / 100 - a * d / 100)

/-- The array is free and a pass waits in a set's queue. -/
def headWaits (x : EngSet) : Bool := x.run.isNone && !x.passQ.isEmpty

/-- It waits for the Tile Queue (R223). -/
def headWaitsTq (x : EngSet) : Bool := headWaits x && (decide (8 ≤ x.tq.length) || !x.tqPend.isEmpty)

/-- An engine of a set waits for a Fabric Transaction Table entry, as its last attempt to issue showed (R229, R302). -/
def waitsFtt (x : EngSet) (s : State) : Bool :=
  [0, 1, 2, 3].any (fun e => decide ((engine x e).st = 3) && (match fetchAt x (engine x e).pc 1 s with
    | .word w => decide (insOp w ∈ [0x30, 0x31, 0x32, 0x33, 0x34])
    | _ => false))

/-- A transfer of a set waits for a tracker (R227). -/
def waitsTracker (x : EngSet) : Bool := x.xfers.any (fun t => issuing t && !trackerFree x t.load)

/-- The regulator that a transfer of a set waits on (R344). -/
def xferRegul (n : Nat) (x : EngSet) (s : State) (t : Xfer) : Option Nat :=
  if x.radio.isSome ∨ !issuing t ∨ !trackerFree x t.load then none
  else (regulFor (xactOf n t s).ua s).filter (fun r => !mayIssue x.part r s)

/-- Adds k cycles to a counter where a condition holds. -/
def tallyIf (c : Bool) (g : Nat) (f : Fld) (k : Nat) (s : State) : State := if c then tally1024 g f k s else s

/-- The counters of core n's set. -/
def countSet (k : Nat) (s0 s : State) (n : Nat) : State :=
  match engAt n s0 with
  | none => s
  | some x =>
    if !setRuns n x s0 then s
    else
      let s1 := tallyIf (headWaitsTq x || waitsWt x) 6 (MXC_Cn_STALL_COUNT n) k (tallyIf (headWaitsTq x) 6 (MXC_Cn_TQWAIT_COUNT n) k s)
      tallyIf (waitsTracker x) 6 (MXC_Cn_TRKWAIT_COUNT n) k (tallyIf (waitsFtt x s0) 6 (MXC_Cn_FTTWAIT_COUNT n) k s1)

/-- The numbers of the cores that hold an engine set. -/
def setCoresOf (s : State) : List Nat := s.eng.map (fun x => x.1)

/-- Stores of a set that wait on a cursor (R252, R375). -/
def heldOf (x : EngSet) (s : State) : Nat :=
  if x.radio.isSome then 0 else (x.xacts.filter (fun u => !u.load && !storable u.ua u.len s)).length

/-- Stores that wait on a cursor: those issued, of stopped tiles too, and the writes in the Combiners' queues (R252). -/
def heldStores (s : State) : Nat :=
  (s.eng.map (fun x => heldOf x.2 s)).sum + (s.loose.filter (fun u => !storable u.2.ua u.2.len s)).length +
    (s.comb.filter (fun r => decide (r.pkt.type ≠ 0) && !storable r.pkt.addr r.pkt.len s)).length

/-- Requests of partition p that wait on its regulator r: 0 T1, 1 T2, 2 fabric egress (R344). -/
def regulWaits (p r : Nat) (s : State) : Nat :=
  if r = 2 then
    if mayIssue p 2 s then 0 else
      ((List.range s.ftt.length).filter (fun i => (s.ftt[i]?).any (fun f => decide (f.part = p) && unsent f && !heldAt i f s.ftt))).length
  else (s.eng.map (fun x => if x.2.part = p then (x.2.xfers.filter (fun t => decide (xferRegul x.1 x.2 s t = some r))).length else 0)).sum

/-- The counters of partition p. -/
def countWaits (k : Nat) (s0 s : State) (p : Nat) : State :=
  let w (r : Nat) : Nat := regulWaits p r s0
  tallyIf (decide (0 < w 2)) 15 (SCHED_Pp_WAIT_FAB_COUNT p) (k * w 2)
    (tallyIf (decide (0 < w 1)) 15 (SCHED_Pp_WAIT_T2_COUNT p) (k * w 1) (tallyIf (decide (0 < w 0)) 15 (SCHED_Pp_WAIT_T1_COUNT p) (k * w 0) s))

/-- Skipped cycles are counted for each Matrix Core in service. -/
def countSkips (k : Nat) (s : State) : State :=
  if k = 0 then s
  else ((List.range 144).filter (fun n => coreInService n s)).foldl (fun s n => tally1024 6 (MXC_Cn_SKIP_COUNT n) k s) s

/-- The counters of cycles over the next tick, by what State shows as it begins. -/
def countCycles (s : State) : State :=
  let k := tickCycles s
  let s1 := tallyIf (flagF FLT_STAT_LEDGER_LOW s) 16 FLT_T_LGSTALL_COUNT k s
  let s2 := ((List.range 8).filter (fun m => s.code.any (fun w => decide (w.cluster = m)))).foldl (fun s m => tally1024 5 (COD_CCm_BUSY_COUNT m) k s) s1
  let s3 := (setCoresOf s).foldl (countSet k s) s2
  let h := heldStores s
  let s4 := tallyIf (decide (0 < h)) 7 TIER_T_HOLD_COUNT (k * h) s3
  countSkips (tickSkips s) ([0, 1, 2, 3, 4, 5, 6, 7].foldl (countWaits k s) s4)

/-- AIR_COUNTER_TICK (R34): time passes by one tick of the 491.52 MHz tick clock, every Air Counter advances, windows end, and
the core cycles that pass are counted. -/
def execAirCounterTick (s : State) : Host.Outcome State Fault Refusal :=
  let s1 := countCycles s
  goesOn s (endWindows (domains.foldl (fun s n => ageDomain n (tickDomain n (stepDue n s))) { s1 with now := s1.now + 3125 }))

end Sys2Proof.Machine
end

