-- ==== Sys2Proof/Machine/Vector.lean ====
section
/-! DEFINITION. The Vector Engine (R218, R230 to R232, R360).  R482 assigns no opcode within a vector class, so a command
names the operation and the word may hold any opcode of the operation's class. -/

namespace Sys2Proof.Machine

/-! ### Registers, masks and flags -/

/-- Lane l of vector register r. -/
def vGet (x : EngSet) (r l : Nat) : Nat := look 0 (r * 64 + l) x.v

/-- Writes lane l of vector register r. -/
def vPut (r l v : Nat) (x : EngSet) : EngSet :=
  { x with v := put (r * 64 + l) (if v % 2 ^ 32 = 0 then none else some (v % 2 ^ 32)) x.v }

/-- Mask register k: K0 reads all ones (R230). -/
def kGet (x : EngSet) (k : Nat) : Nat := if k = 0 then 2 ^ 64 - 1 else look 0 k x.k

/-- Writes mask register k; a write of K0 is discarded (R230). -/
def kPut (k v : Nat) (x : EngSet) : EngSet :=
  if k = 0 then x else { x with k := put k (if v % 2 ^ 64 = 0 then none else some (v % 2 ^ 64)) x.k }

/-- The 64 lanes. -/
def lanes : List Nat := List.range 64

/-- A lane is enabled by the instruction's mask register. -/
def laneOn (x : EngSet) (w l : Nat) : Bool := bitAt l (kGet x (insK w))

/-- The enabled lanes. -/
def lanesOn (x : EngSet) (w : Nat) : List Nat := lanes.filter (laneOn x w)

/-- A number whose bit l is set for each lane of a list. -/
def laneBits (l : List Nat) : Nat := (l.map (fun i => 2 ^ i)).sum

/-- The flags of the enabled lanes: ORed into VSTAT, and bit by bit into K[FKD] (R232). -/
def raiseFlags (w : Nat) (fl : List (Nat × Nat)) (x : EngSet) : EngSet :=
  kPut (insFkd w) (laneBits ((fl.filter (fun p => decide (p.2 ≠ 0))).map (fun p => p.1)))
    { x with vstat := fl.foldl (fun a p => a ||| p.2) x.vstat }

/-- Writes each lane's value into register r. -/
def vPutLanes (r : Nat) (l : List (Nat × Nat)) (x : EngSet) : EngSet := l.foldl (fun x p => vPut r p.1 p.2 x) x

/-- The set after a lane-wise operation: VD takes each enabled lane's value, and the flags are raised. -/
def laneWrite (w : Nat) (f : Nat → Nat × Nat) (x : EngSet) : EngSet :=
  let res := (lanesOn x w).map (fun l => (l, f l))
  raiseFlags w (res.map (fun p => (p.1, p.2.2))) (vPutLanes (insD w) (res.map (fun p => (p.1, p.2.1))) x)

/-- The free value of lane l for an instruction that issues in state s. -/
def laneFree (s : State) (l : Nat) : Nat := (Config.freeValue (s.draws + l)).toNat

/-- The Vector Engine of core n issues a word whose opcode is in a class. -/
def vecIssue (lo hi n : Nat) (body : EngSet → Nat → State → State) (s : State) : State :=
  engineRun (fun o => decide (lo ≤ o) && decide (o ≤ hi)) n 2 body s

/-- A lane-wise instruction; each lane has one free value. -/
def vecLanes (lo hi n : Nat) (f : EngSet → Nat → (Nat → Nat) → Nat → Nat × Nat) (s : State) : State :=
  vecIssue lo hi n (fun x w s => doneWith n 2 (laneWrite w (f x w (laneFree s)) x) { s with draws := s.draws + 64 }) s

/-- A lane-wise instruction of VA, VB and VC. -/
def vec3 (lo hi n : Nat) (f : Nat → Nat → Nat → Nat × Nat) (s : State) : State :=
  vecLanes lo hi n (fun x w _ l => f (vGet x (insA w) l) (vGet x (insB w) l) (vGet x (insC w) l)) s

/-! ### Vector memory (R230) -/

/-- Checks a 4 B aligned range of Core Scratch: the fault cause, or none (R226, R230). -/
def vmemFault (x : EngSet) (a len : Nat) : Option Nat :=
  if a % 4 ≠ 0 then some 1 else if inArea x a len then none else some 2

/-- The Core Scratch address of lane l: in order from GA, or at GA plus 4 × lane l of VB (R230). -/
def laneAddr (gather : Bool) (x : EngSet) (w l : Nat) : Nat :=
  gReg x.vc (insA w) + 4 * (if gather then vGet x (insB w) l else l)

/-- VLD, VST, VGATHER and VSCATTER. -/
def vecMem (n : Nat) (gather load : Bool) (s : State) : State :=
  vecIssue 0x50 0x53 n (fun x w s =>
    let bad := if gather then (lanesOn x w).findSome? (fun l => vmemFault x (laneAddr true x w l) 4) else vmemFault x (gReg x.vc (insA w)) 256
    match bad with
    | some c => tileFault n c s
    | none =>
      if load then doneWith n 2 (vPutLanes (insD w) ((lanesOn x w).map (fun l => (l, leNat (csRead n (laneAddr gather x w l) 4 s)))) x) s
      else doneWith n 2 x ((lanesOn x w).foldl (fun s l => csWrite n (laneAddr gather x w l) (natLE 4 (vGet x (insD w) l)) s) s)) s

/-- VLD. -/
def execVld (n : Nat) (s : State) : Host.Outcome State Fault Refusal := goesOn s (vecMem n false true s)

/-- VST. -/
def execVst (n : Nat) (s : State) : Host.Outcome State Fault Refusal := goesOn s (vecMem n false false s)

/-- VGATHER. -/
def execVgather (n : Nat) (s : State) : Host.Outcome State Fault Refusal := goesOn s (vecMem n true true s)

/-- VSCATTER. -/
def execVscatter (n : Nat) (s : State) : Host.Outcome State Fault Refusal := goesOn s (vecMem n true false s)

/-! ### Arithmetic (R231) -/

/-- VADD. -/
def execVadd (n : Nat) (s : State) : Host.Outcome State Fault Refusal := goesOn s (vec3 0x60 0x6F n (fun a b _ => fpAdd fp32 a b) s)

/-- VMUL. -/
def execVmul (n : Nat) (s : State) : Host.Outcome State Fault Refusal := goesOn s (vec3 0x60 0x6F n (fun a b _ => fpMul fp32 a b) s)

/-- VFMA: VD = VA × VB + VC, rounded once. -/
def execVfma (n : Nat) (s : State) : Host.Outcome State Fault Refusal := goesOn s (vec3 0x60 0x6F n (fun a b c => fpFma fp32 a b c) s)

/-- VMIN. -/
def execVmin (n : Nat) (s : State) : Host.Outcome State Fault Refusal := goesOn s (vec3 0x60 0x6F n (fun a b _ => fpMinMax fp32 false a b) s)

/-- VMAX. -/
def execVmax (n : Nat) (s : State) : Host.Outcome State Fault Refusal := goesOn s (vec3 0x60 0x6F n (fun a b _ => fpMinMax fp32 true a b) s)

/-- The magnitude of an FP32 value; a NaN gives the canonical NaN. -/
def fpAbs (a : Nat) : Nat := if isNan (decodeNum fp32 a) then canonNan fp32 else a % 2 ^ 31

/-- VABS. -/
def execVabs (n : Nat) (s : State) : Host.Outcome State Fault Refusal := goesOn s (vec3 0x60 0x6F n (fun a _ _ => (fpAbs a, 0)) s)

/-- Two BF16 values of a lane, the low half first. -/
def packed (f : Nat → Nat → Nat → Nat × Nat) (a b c : Nat) : Nat × Nat :=
  let lo := f (a % 65536) (b % 65536) (c % 65536)
  let hi := f (a / 65536) (b / 65536) (c / 65536)
  (lo.1 + 65536 * hi.1, lo.2 ||| hi.2)

/-- BF16_PACKED_ADD. -/
def execBf16PackedAdd (n : Nat) (s : State) : Host.Outcome State Fault Refusal :=
  goesOn s (vec3 0x70 0x77 n (packed (fun a b _ => fpAdd (fmtOf 5) a b)) s)

/-- BF16_PACKED_MULTIPLY. -/
def execBf16PackedMultiply (n : Nat) (s : State) : Host.Outcome State Fault Refusal :=
  goesOn s (vec3 0x70 0x77 n (packed (fun a b _ => fpMul (fmtOf 5) a b)) s)

/-- BF16_PACKED_FMA. -/
def execBf16PackedFma (n : Nat) (s : State) : Host.Outcome State Fault Refusal :=
  goesOn s (vec3 0x70 0x77 n (packed (fun a b c => fpFma (fmtOf 5) a b c)) s)

/-- An exact integer as an INT32 result: wrapped, or clamped with SAT in a saturating form. -/
def int32Result (sat : Bool) (i : Int) : Nat × Nat :=
  if sat then (intBits 32 (satInt 32 i).1, mkFlags false false false (satInt 32 i).2) else (intBits 32 i, 0)

/-- INT32_ADD. -/
def execInt32Add (n : Nat) (sat : Bool) (s : State) : Host.Outcome State Fault Refusal :=
  goesOn s (vec3 0x78 0x7F n (fun a b _ => int32Result sat (bitsInt 32 a + bitsInt 32 b)) s)

/-- INT32_MULTIPLY. -/
def execInt32Multiply (n : Nat) (sat : Bool) (s : State) : Host.Outcome State Fault Refusal :=
  goesOn s (vec3 0x78 0x7F n (fun a b _ => int32Result sat (bitsInt 32 a * bitsInt 32 b)) s)

/-- A shift of a lane by a count below 32, of which the spec says no more; a greater count gives a free value. -/
def int32Shift (left arith sat : Bool) (free a c : Nat) : Nat × Nat :=
  if 32 ≤ c then (free % 2 ^ 32, if sat && left then mkFlags false false false (bitAt 32 free) else 0)
  else if left then int32Result sat (bitsInt 32 a * (2 ^ c : Int))
  else if arith then (intBits 32 (bitsInt 32 a / (2 ^ c : Int)), 0)
  else (a / 2 ^ c, 0)

/-- INT32_SHIFT: VA by VB. -/
def execInt32Shift (n : Nat) (left arith sat : Bool) (s : State) : Host.Outcome State Fault Refusal :=
  goesOn s (vecLanes 0x78 0x7F n (fun x w fr l => int32Shift left arith sat (fr l) (vGet x (insA w) l) (vGet x (insB w) l)) s)

/-! ### Compare and mask -/

/-- A relation of two FP32 values: equal, not equal, below, not above, above, not below; a NaN is unordered. -/
def fpRel (rel : Nat) (a b : Nat) : Bool :=
  let x := decodeNum fp32 a
  let y := decodeNum fp32 b
  let lt := ltNum false x y
  let gt := ltNum false y x
  if isNan x || isNan y then decide (rel = 1)
  else match rel with
    | 0 => !lt && !gt
    | 1 => lt || gt
    | 2 => lt
    | 3 => !gt
    | 4 => gt
    | _ => !lt

/-- A relation of two INT32 values. -/
def intRel (rel : Nat) (a b : Nat) : Bool :=
  let x := bitsInt 32 a
  let y := bitsInt 32 b
  match rel with
  | 0 => decide (x = y)
  | 1 => decide (x ≠ y)
  | 2 => decide (x < y)
  | 3 => decide (x ≤ y)
  | 4 => decide (y < x)
  | _ => decide (y ≤ x)

/-- Writes the enabled bits of mask register K[VD]. -/
def maskWrite (w : Nat) (f : Nat → Bool) (x : EngSet) : EngSet :=
  kPut (insD w % 8) (laneBits (lanes.filter (fun l => if laneOn x w l then f l else bitAt l (kGet x (insD w % 8))))) x

/-- VCMP: into mask register VD. -/
def execVcmp (n : Nat) (rel : Fin 6) (int : Bool) (s : State) : Host.Outcome State Fault Refusal :=
  goesOn s (vecIssue 0x80 0x87 n (fun x w s => doneWith n 2 (maskWrite w (fun l =>
    (if int then intRel rel else fpRel rel) (vGet x (insA w) l) (vGet x (insB w) l)) x) s) s)

/-- MASK_LOGIC: mask register VD takes K[VA] AND, OR or XOR K[VB], or NOT K[VA]. -/
def execMaskLogic (n : Nat) (f : Fin 4) (s : State) : Host.Outcome State Fault Refusal :=
  goesOn s (vecIssue 0x80 0x87 n (fun x w s => doneWith n 2 (maskWrite w (fun l =>
    let a := bitAt l (kGet x (insA w % 8))
    let b := bitAt l (kGet x (insB w % 8))
    match f.val with
    | 0 => a && b
    | 1 => a || b
    | 2 => a != b
    | _ => !a) x) s) s)

/-- VSEL: VA where mask register VC has a 1, VB elsewhere. -/
def execVsel (n : Nat) (s : State) : Host.Outcome State Fault Refusal :=
  goesOn s (vecLanes 0x80 0x87 n (fun x w _ l => (vGet x (if bitAt l (kGet x (insC w % 8)) then insA w else insB w) l, 0)) s)

/-! ### Conversion -/

/-- The float format of a conversion's code: FP32, BF16, FP16. -/
def cvtFmt (c : Nat) : FloatFmt := if c = 0 then fp32 else fmtOf (c + 4)

/-- A float value as an integer of w bits, saturating; a NaN has no stated result. -/
def floatToInt (w free : Nat) (v : Num) : Nat × Nat :=
  match v with
  | .nan _ => (free % 2 ^ w, 1)
  | .inf neg => (intBits w (if neg then -(2 ^ (w - 1) : Int) else (2 ^ (w - 1) : Int) - 1), 16)
  | .fin neg m e => (intBits w (satInt w (roundInt neg m e)).1, mkFlags false false false (satInt w (roundInt neg m e)).2)

/-- A conversion from code src to code dst: 0 FP32, 1 BF16, 2 FP16, 3 INT32, 4 INT16.  A 16-bit value lies in the low
half of its lane. -/
def convert (src dst free a : Nat) : Nat × Nat :=
  if src = 3 ∨ src = 4 then
    let i := bitsInt (if src = 3 then 32 else 16) a
    encodeNum (cvtFmt dst) (.fin (decide (i < 0)) i.natAbs 0)
  else
    let v := decodeNum (cvtFmt src) (a % 2 ^ (if src = 0 then 32 else 16))
    if dst = 3 ∨ dst = 4 then floatToInt (if dst = 3 then 32 else 16) free v
    else fpOp (cvtFmt dst) (v, isSnan v)

/-- VCVT: between FP32 and another format. -/
def execVcvt (n : Nat) (src dst : Fin 5) (s : State) : Host.Outcome State Fault Refusal :=
  goesOn s (if (src.val = 0) = (dst.val = 0) then s
    else vecLanes 0x88 0x8F n (fun x w fr l => convert src dst (fr l) (vGet x (insA w) l)) s)

/-- A block holds an infinity or a NaN. -/
def mxBad (vs : List Num) : Bool := vs.any (fun v => match v with
  | .fin _ _ _ => false
  | _ => true)

/-- The exponent of a nonzero finite value's leading bit. -/
def leadExp (v : Num) : Option Int :=
  match v with
  | .fin _ m e => if m = 0 then none else some ((Nat.log2 m : Int) + e)
  | _ => none

/-- A block's shared exponent: that of its greatest magnitude less the greatest exponent of the element format, within the
range of E8M0 (OCP MX v1.0).  None when the block holds an infinity or a NaN, or nothing but zeros. -/
def mxExp (f : FloatFmt) (vs : List Num) : Option Int :=
  if mxBad vs then none
  else (vs.filterMap leadExp).max?.map (fun e => clampInt (-127) 127 (e - (((f.top / 2 ^ f.mb : Nat) : Int) - f.bias)))

/-- One element of a block with its flags, at shared exponent k. -/
def mxElem (f : FloatFmt) (k : Int) (v : Num) : Nat × Nat :=
  match v with
  | .fin neg m e =>
    let r := roundNum { f with ieee := false } neg m (e - k)
    (r.bits, mkFlags false false (r.inexact && r.tiny) r.ovf)
  | _ => (0, 0)

/-- The 2,048 bits of vector register r. -/
def vNat (x : EngSet) (r : Nat) : Nat := lanes.foldl (fun a l => a + vGet x r l * 2 ^ (32 * l)) 0

/-- Writes w bits at bit b of a number. -/
def putBits (b w v a : Nat) : Nat := a % 2 ^ b + v % 2 ^ w * 2 ^ b + a / 2 ^ (b + w) * 2 ^ (b + w)

/-- VMXQ: the elements of the 64 lanes packed from bit 0 of VD up, then the two scales.  A block's scale without a stated
value, and a block that holds an infinity or a NaN, are free values. -/
def mxQuant (c w : Nat) (fr : Nat → Nat) (x : EngSet) : EngSet :=
  let f := { fmtOf c with ieee := false }
  let bits := 1 + f.eb + f.mb
  let val := fun l => decodeNum fp32 (vGet x (insA w) l)
  let on := lanesOn x w
  let block := fun b => on.filter (fun l => decide (l / 32 = b))
  let elem := fun l =>
    let vs := (block (l / 32)).map val
    if mxBad vs then (fr l % 2 ^ bits, fr l / 2 ^ 32 % 32) else mxElem f ((mxExp f vs).getD 0) (val l)
  let scale := fun b =>
    let vs := (block b).map val
    match mxExp f vs with
    | some k => (k + 127).toNat
    | none => fr (32 * b) / 2 ^ 40 % 256
  let r1 := on.foldl (fun a l => putBits (bits * l) bits (elem l).1 a) (vNat x (insD w))
  let r2 := [0, 1].foldl (fun a b => if (block b).isEmpty then a else putBits (64 * bits + 8 * b) 8 (scale b) a) r1
  raiseFlags w (on.map (fun l => (l, (elem l).2))) (vPutLanes (insD w) (lanes.map (fun l => (l, r2 / 2 ^ (32 * l)))) x)

/-- VMXQ. -/
def execVmxq (n : Nat) (fmt : Fin 5) (s : State) : Host.Outcome State Fault Refusal :=
  goesOn s (vecIssue 0x88 0x8F n (fun x w s => doneWith n 2 (mxQuant fmt w (laneFree s) x) { s with draws := s.draws + 64 }) s)

/-! ### Transcendentals: Kralum's reference functions -/

/-- The reference function of instruction i; every NaN result is the canonical one (R231). -/
def transcend (i a : Nat) : Nat × Nat :=
  let r := (Config.transc i (BitVec.ofNat 32 a)).toNat
  (if isNan (decodeNum fp32 r) then canonNan fp32 else r, (Config.transcFlags i (BitVec.ofNat 32 a)).toNat)

/-- VEXP2. -/
def execVexp2 (n : Nat) (s : State) : Host.Outcome State Fault Refusal := goesOn s (vec3 0x90 0x97 n (fun a _ _ => transcend 0 a) s)

/-- VLOG2. -/
def execVlog2 (n : Nat) (s : State) : Host.Outcome State Fault Refusal := goesOn s (vec3 0x90 0x97 n (fun a _ _ => transcend 1 a) s)

/-- VRCP. -/
def execVrcp (n : Nat) (s : State) : Host.Outcome State Fault Refusal := goesOn s (vec3 0x90 0x97 n (fun a _ _ => transcend 2 a) s)

/-- VRSQRT. -/
def execVrsqrt (n : Nat) (s : State) : Host.Outcome State Fault Refusal := goesOn s (vec3 0x90 0x97 n (fun a _ _ => transcend 3 a) s)

/-- VTANH. -/
def execVtanh (n : Nat) (s : State) : Host.Outcome State Fault Refusal := goesOn s (vec3 0x90 0x97 n (fun a _ _ => transcend 4 a) s)

/-- VSIGM. -/
def execVsigm (n : Nat) (s : State) : Host.Outcome State Fault Refusal := goesOn s (vec3 0x90 0x97 n (fun a _ _ => transcend 5 a) s)

/-! ### Lane reduction and permute -/

/-- One level of the pairwise tree: item 2i combined with item 2i + 1 (R231). -/
def pairUp (f : Nat → Nat → Nat × Nat) : List Nat → List Nat × Nat
  | a :: b :: r =>
    let x := f a b
    let y := pairUp f r
    (x.1 :: y.1, x.2 ||| y.2)
  | l => (l, 0)

/-- The tree of d levels: its result and the flags it raises. -/
def treeFold (f : Nat → Nat → Nat × Nat) : Nat → List Nat → Nat × Nat
  | 0, l => (l.headD 0, 0)
  | d + 1, l =>
    let x := pairUp f l
    let y := treeFold f d x.1
    (y.1, y.2 ||| x.2)

/-- A reduction of VA, whose masked-off lanes enter as a given value; its result and flags are lane 0's. -/
def vecReduce (n pad : Nat) (f : Nat → Nat → Nat × Nat) (s : State) : State :=
  vecIssue 0x98 0x9F n (fun x w s =>
    let r := treeFold f 6 (lanes.map (fun l => if laneOn x w l then vGet x (insA w) l else pad))
    doneWith n 2 (raiseFlags w [(0, r.2)] (vPut (insD w) 0 r.1 x)) s) s

/-- VRSUM: masked-off lanes enter as +0. -/
def execVrsum (n : Nat) (s : State) : Host.Outcome State Fault Refusal := goesOn s (vecReduce n 0 (fpAdd fp32) s)

/-- VRMAX: masked-off lanes enter as −infinity. -/
def execVrmax (n : Nat) (s : State) : Host.Outcome State Fault Refusal := goesOn s (vecReduce n 0xFF800000 (fpMinMax fp32 true) s)

/-- VPERM: lane l takes the lane of VA that lane l of VB names. -/
def execVperm (n : Nat) (s : State) : Host.Outcome State Fault Refusal :=
  goesOn s (vecLanes 0x98 0x9F n (fun x w _ l => (vGet x (insA w) (vGet x (insB w) l % 64), 0)) s)

/-- VBCAST: every lane takes the lane of VA that the immediate names. -/
def execVbcast (n : Nat) (s : State) : Host.Outcome State Fault Refusal :=
  goesOn s (vecLanes 0x98 0x9F n (fun x w _ _ => (vGet x (insA w) (insVimm w % 64), 0)) s)

/-! ### Generator (R360) -/

/-- A left rotation of 32 bits. -/
def rotl32 (v k : Nat) : Nat := (v * 2 ^ k + v / 2 ^ (32 - k)) % 2 ^ 32

/-- A round of the generator on x0, x1, x2 and x3, with the seed word and the round's number. -/
def randRound (k r : Nat) (x : Nat × Nat × Nat × Nat) : Nat × Nat × Nat × Nat :=
  let x0 := (x.1 + x.2.1 + k) % 2 ^ 32
  let x3 := rotl32 (x.2.2.2 ^^^ x0) 16
  let x2 := (x.2.2.1 + x3) % 2 ^ 32
  let x1 := rotl32 (x.2.1 ^^^ x2) 12
  let y0 := (x0 + x1) % 2 ^ 32
  let y3 := rotl32 (x3 ^^^ y0) 8
  let y2 := (x2 + y3 + r) % 2 ^ 32
  let y1 := rotl32 (x1 ^^^ y2) 7
  (y0, y1, y2, y3)

/-- The value of lane l from a seed, a step counter and a. -/
def vrandLane (seed c a l : Nat) : Nat :=
  let x0 : Nat × Nat × Nat × Nat := (c % 2 ^ 32, c / 2 ^ 32 % 2 ^ 32, a % 2 ^ 32, (a / 2 ^ 32 % 2 ^ 26) ||| (l % 64 * 2 ^ 26))
  let y := (List.range 10).foldl (fun x r => randRound (seed / 2 ^ (32 * (r % 4)) % 2 ^ 32) r x) x0
  y.1 ^^^ y.2.2.1

/-- VRAND.  A radio tile of firmware has no context, and its values are free. -/
def execVrand (n : Nat) (s : State) : Host.Outcome State Fault Refusal :=
  goesOn s (vecLanes 0xA0 0xA0 n (fun x w fr l => match ctxOf x.ctx s with
    | some c => (vrandLane c.seed c.counter (gReg x.vc (insA w)) l, 0)
    | none => (fr l % 2 ^ 32, 0)) s)

end Sys2Proof.Machine
end

