-- ==== Sys2Proof/Machine/Dispatch.lean ====
section
/-! DEFINITION. Which meaning each command has: one arm per constructor of Instr, in the order of the opcode table. -/

namespace Sys2Proof.Machine

def exec (i : Instr) (s : State) : Host.Outcome State Fault Refusal :=
  match i with
  | .registerWrite f off wide v => Sys2Proof.Machine.execRegisterWrite f off wide v s
  | .regLowerHalfRead f off wide => Sys2Proof.Machine.execRegLowerHalfRead f off wide s
  | .bar0IllegalAccess f a => Sys2Proof.Machine.execBar0IllegalAccess f a s
  | .tsqEnt1Read p => Sys2Proof.Machine.execTsqEnt1Read p s
  | .tsqLostRead p => Sys2Proof.Machine.execTsqLostRead p s
  | .pwrPeakRead => Sys2Proof.Machine.execPwrPeakRead s
  | .airSnapGo => Sys2Proof.Machine.execAirSnapGo s
  | .epochWrite n v => Sys2Proof.Machine.execEpochWrite n v s
  | .tdCtrlEnWrite n w => Sys2Proof.Machine.execTdCtrlEnWrite n w s
  | .ptpRxStamp lport domainNumber => Sys2Proof.Machine.execPtpRxStamp lport domainNumber s
  | .announceMessage lport domainNumber clockId clockClass rank logInterval => Sys2Proof.Machine.execAnnounceMessage lport domainNumber clockId clockClass rank logInterval s
  | .announceReceiptTimeout n clockId lport => Sys2Proof.Machine.execAnnounceReceiptTimeout n clockId lport s
  | .servoMeasurement n off16 mpd clockId lport => Sys2Proof.Machine.execServoMeasurement n off16 mpd clockId lport s
  | .measurementLossTimeout n => Sys2Proof.Machine.execMeasurementLossTimeout n s
  | .holdoverLimit n => Sys2Proof.Machine.execHoldoverLimit n s
  | .ppsInEdge => Sys2Proof.Machine.execPpsInEdge s
  | .ppsOutEdge => Sys2Proof.Machine.execPpsOutEdge s
  | .tallyBoundary g => Sys2Proof.Machine.execTallyBoundary g s
  | .timeConfig p => Sys2Proof.Machine.execTimeConfig p s
  | .timeEnable p => Sys2Proof.Machine.execTimeEnable p s
  | .timeDisable p => Sys2Proof.Machine.execTimeDisable p s
  | .timeStep p => Sys2Proof.Machine.execTimeStep p s
  | .timeQuery p => Sys2Proof.Machine.execTimeQuery p s
  | .timeMark p => Sys2Proof.Machine.execTimeMark p s
  | .dutyWrite w => Sys2Proof.Machine.execDutyWrite w s
  | .ceilingWrite v => Sys2Proof.Machine.execCeilingWrite v s
  | .cellCreate p => Sys2Proof.Machine.execCellCreate p s
  | .cellReconfig p => Sys2Proof.Machine.execCellReconfig p s
  | .cellDelete p => Sys2Proof.Machine.execCellDelete p s
  | .cellDrainEnd c => Sys2Proof.Machine.execCellDrainEnd c s
  | .cellQuery p => Sys2Proof.Machine.execCellQuery p s
  | .cellNeural p => Sys2Proof.Machine.execCellNeural p s
  | .slotUl p => Sys2Proof.Machine.execSlotUl p s
  | .slotDl p => Sys2Proof.Machine.execSlotDl p s
  | .slotJobPlan c ul slot => Sys2Proof.Machine.execSlotJobPlan c ul slot s
  | .windowPlan core c slot ul neural start work short => Sys2Proof.Machine.execWindowPlan core c slot ul neural start work short s
  | .releaseHorizon core start => Sys2Proof.Machine.execReleaseHorizon core start s
  | .windowOpen core start => Sys2Proof.Machine.execWindowOpen core start s
  | .earlyReturn core start => Sys2Proof.Machine.execEarlyReturn core start s
  | .forcedPreemption n => Sys2Proof.Machine.execForcedPreemption n s
  | .contextSaveDone n => Sys2Proof.Machine.execContextSaveDone n s
  | .cloverModeChange n done => Sys2Proof.Machine.execCloverModeChange n done s
  | .guardRampStart n demand => Sys2Proof.Machine.execGuardRampStart n demand s
  | .fallbackPoint c slot => Sys2Proof.Machine.execFallbackPoint c slot s
  | .leaseGrant n lead => Sys2Proof.Machine.execLeaseGrant n lead s
  | .leaseEnd n => Sys2Proof.Machine.execLeaseEnd n s
  | .commandSweep w => Sys2Proof.Machine.execCommandSweep w s
  | .pwEnable f w v => Sys2Proof.Machine.execPwEnable f w v s
  | .pwDisable f w v => Sys2Proof.Machine.execPwDisable f w v s
  | .rrHeadWrite f w v => Sys2Proof.Machine.execRrHeadWrite f w v s
  | .timedEffect id => Sys2Proof.Machine.execTimedEffect id s
  | .barrierRelease id => Sys2Proof.Machine.execBarrierRelease id s
  | .devInfo p => Sys2Proof.Machine.execDevInfo p s
  | .devQuiesce p => Sys2Proof.Machine.execDevQuiesce p s
  | .devResume p => Sys2Proof.Machine.execDevResume p s
  | .devReset p => Sys2Proof.Machine.execDevReset p s
  | .devEcho p => Sys2Proof.Machine.execDevEcho p s
  | .partSet p => Sys2Proof.Machine.execPartSet p s
  | .partClear p => Sys2Proof.Machine.execPartClear p s
  | .ctxCreate p => Sys2Proof.Machine.execCtxCreate p s
  | .ctxDestroy p => Sys2Proof.Machine.execCtxDestroy p s
  | .stepSubmit p => Sys2Proof.Machine.execStepSubmit p s
  | .ctxSeed p => Sys2Proof.Machine.execCtxSeed p s
  | .ctxSuspend p => Sys2Proof.Machine.execCtxSuspend p s
  | .ctxSuspendStop c => Sys2Proof.Machine.execCtxSuspendStop c s
  | .ctxResume p => Sys2Proof.Machine.execCtxResume p s
  | .ctxQuery p => Sys2Proof.Machine.execCtxQuery p s
  | .objCreate p => Sys2Proof.Machine.execObjCreate p s
  | .objFree p => Sys2Proof.Machine.execObjFree p s
  | .objPromote p => Sys2Proof.Machine.execObjPromote p s
  | .objEvict p => Sys2Proof.Machine.execObjEvict p s
  | .objPin p => Sys2Proof.Machine.execObjPin p s
  | .objUnpin p => Sys2Proof.Machine.execObjUnpin p s
  | .objKeys p => Sys2Proof.Machine.execObjKeys p s
  | .objQuery p => Sys2Proof.Machine.execObjQuery p s
  | .fabPort p => Sys2Proof.Machine.execFabPort p s
  | .fabRoute p => Sys2Proof.Machine.execFabRoute p s
  | .fabGroup p => Sys2Proof.Machine.execFabGroup p s
  | .fabFence p => Sys2Proof.Machine.execFabFence p s
  | .fabUnfence p => Sys2Proof.Machine.execFabUnfence p s
  | .fabQuery p => Sys2Proof.Machine.execFabQuery p s
  | .secLcAdvance p => Sys2Proof.Machine.execSecLcAdvance p s
  | .secFwStage p => Sys2Proof.Machine.execSecFwStage p s
  | .secFwActivate p => Sys2Proof.Machine.execSecFwActivate p s
  | .secMeasure p => Sys2Proof.Machine.execSecMeasure p s
  | .secCalWrite p => Sys2Proof.Machine.execSecCalWrite p s
  | .diagAssay p => Sys2Proof.Machine.execDiagAssay p s
  | .diagSpare p => Sys2Proof.Machine.execDiagSpare p s
  | .diagTally p => Sys2Proof.Machine.execDiagTally p s
  | .diagInject p => Sys2Proof.Machine.execDiagInject p s
  | .portModeWrite p w => Sys2Proof.Machine.execPortModeWrite p w s
  | .wpWrite p k x w => Sys2Proof.Machine.execWpWrite p k x w s
  | .shapeWrite p q v => Sys2Proof.Machine.execShapeWrite p q v s
  | .policerWrite p f burst v => Sys2Proof.Machine.execPolicerWrite p f burst v s
  | .uplaneIngress msg => Sys2Proof.Machine.execUplaneIngress msg s
  | .diqIngress msg => Sys2Proof.Machine.execDiqIngress msg s
  | .agcSymbolBoundary p a => Sys2Proof.Machine.execAgcSymbolBoundary p a s
  | .agcHoldExpiry p a => Sys2Proof.Machine.execAgcHoldExpiry p a s
  | .diqBankSwitch p a => Sys2Proof.Machine.execDiqBankSwitch p a s
  | .wheelPlace msg => Sys2Proof.Machine.execWheelPlace msg s
  | .farListEnter p => Sys2Proof.Machine.execFarListEnter p s
  | .bucketDue p n => Sys2Proof.Machine.execBucketDue p n s
  | .frameTransmit lport => Sys2Proof.Machine.execFrameTransmit lport s
  | .shaperRefill p => Sys2Proof.Machine.execShaperRefill p s
  | .txDeadlineMiss lport => Sys2Proof.Machine.execTxDeadlineMiss lport s
  | .bundleIssue n b hw => Sys2Proof.Machine.execBundleIssue n b hw s
  | .kernelInvoke n kernel c slot => Sys2Proof.Machine.execKernelInvoke n kernel c slot s
  | .kernelComplete n k => Sys2Proof.Machine.execKernelComplete n k s
  | .cycleBudgetSpent n => Sys2Proof.Machine.execCycleBudgetSpent n s
  | .kernelRetry n m => Sys2Proof.Machine.execKernelRetry n m s
  | .scDmaDone n toCore scm carve len => Sys2Proof.Machine.execScDmaDone n toCore scm carve len s
  | .signalCoreSpareIn n => Sys2Proof.Machine.execSignalCoreSpareIn n s
  | .codeBlockDone r => Sys2Proof.Machine.execCodeBlockDone r s
  | .codeBlockRetry m lane cause m2 c slot ul alloc cb => Sys2Proof.Machine.execCodeBlockRetry m lane cause m2 c slot ul alloc cb s
  | .polarOperationDone m fault c slot ul alloc ok payload => Sys2Proof.Machine.execPolarOperationDone m fault c slot ul alloc ok payload s
  | .rebuildDone c => Sys2Proof.Machine.execRebuildDone c s
  | .ulDelivery c slot late => Sys2Proof.Machine.execUlDelivery c slot late s
  | .dlJobComplete c slot => Sys2Proof.Machine.execDlJobComplete c slot s
  | .nop n e => Sys2Proof.Machine.execNop n e s
  | .endOp n e => Sys2Proof.Machine.execEndOp n e s
  | .add n e => Sys2Proof.Machine.execAdd n e s
  | .addi n e => Sys2Proof.Machine.execAddi n e s
  | .sub n e => Sys2Proof.Machine.execSub n e s
  | .andOp n e => Sys2Proof.Machine.execAndOp n e s
  | .orOp n e => Sys2Proof.Machine.execOrOp n e s
  | .xorOp n e => Sys2Proof.Machine.execXorOp n e s
  | .shl n e => Sys2Proof.Machine.execShl n e s
  | .shr n e => Sys2Proof.Machine.execShr n e s
  | .sar n e => Sys2Proof.Machine.execSar n e s
  | .mul n e => Sys2Proof.Machine.execMul n e s
  | .slt n e => Sys2Proof.Machine.execSlt n e s
  | .sltu n e => Sys2Proof.Machine.execSltu n e s
  | .li n e => Sys2Proof.Machine.execLi n e s
  | .lui n e => Sys2Proof.Machine.execLui n e s
  | .beq n e => Sys2Proof.Machine.execBeq n e s
  | .bne n e => Sys2Proof.Machine.execBne n e s
  | .blt n e => Sys2Proof.Machine.execBlt n e s
  | .bge n e => Sys2Proof.Machine.execBge n e s
  | .j n e => Sys2Proof.Machine.execJ n e s
  | .loopOp n e => Sys2Proof.Machine.execLoopOp n e s
  | .tsig n e => Sys2Proof.Machine.execTsig n e s
  | .twait n e => Sys2Proof.Machine.execTwait n e s
  | .ldt n => Sys2Proof.Machine.execLdt n s
  | .stt n => Sys2Proof.Machine.execStt n s
  | .xwait n e => Sys2Proof.Machine.execXwait n e s
  | .transactionComplete n k loose line errs addr stall => Sys2Proof.Machine.execTransactionComplete n k loose line errs addr stall s
  | .mpass n => Sys2Proof.Machine.execMpass n s
  | .mwait n => Sys2Proof.Machine.execMwait n s
  | .passLoadStart n hw => Sys2Proof.Machine.execPassLoadStart n hw s
  | .passStreamEnd n hw => Sys2Proof.Machine.execPassStreamEnd n hw s
  | .passComplete n => Sys2Proof.Machine.execPassComplete n s
  | .tqEntryPost n => Sys2Proof.Machine.execTqEntryPost n s
  | .tqpop n => Sys2Proof.Machine.execTqpop n s
  | .governorStep n => Sys2Proof.Machine.execGovernorStep n s
  | .gapHoldExpiry n => Sys2Proof.Machine.execGapHoldExpiry n s
  | .workTileRetry n radio => Sys2Proof.Machine.execWorkTileRetry n radio s
  | .matrixCoreRetire n => Sys2Proof.Machine.execMatrixCoreRetire n s
  | .matrixCoreSpareIn n => Sys2Proof.Machine.execMatrixCoreSpareIn n s
  | .tokenDeadlock n => Sys2Proof.Machine.execTokenDeadlock n s
  | .vld n => Sys2Proof.Machine.execVld n s
  | .vst n => Sys2Proof.Machine.execVst n s
  | .vgather n => Sys2Proof.Machine.execVgather n s
  | .vscatter n => Sys2Proof.Machine.execVscatter n s
  | .vadd n => Sys2Proof.Machine.execVadd n s
  | .vmul n => Sys2Proof.Machine.execVmul n s
  | .vfma n => Sys2Proof.Machine.execVfma n s
  | .vmin n => Sys2Proof.Machine.execVmin n s
  | .vmax n => Sys2Proof.Machine.execVmax n s
  | .vabs n => Sys2Proof.Machine.execVabs n s
  | .bf16PackedAdd n => Sys2Proof.Machine.execBf16PackedAdd n s
  | .bf16PackedMultiply n => Sys2Proof.Machine.execBf16PackedMultiply n s
  | .bf16PackedFma n => Sys2Proof.Machine.execBf16PackedFma n s
  | .int32Add n sat => Sys2Proof.Machine.execInt32Add n sat s
  | .int32Multiply n sat => Sys2Proof.Machine.execInt32Multiply n sat s
  | .int32Shift n left arith sat => Sys2Proof.Machine.execInt32Shift n left arith sat s
  | .vcmp n rel int => Sys2Proof.Machine.execVcmp n rel int s
  | .maskLogic n f => Sys2Proof.Machine.execMaskLogic n f s
  | .vsel n => Sys2Proof.Machine.execVsel n s
  | .vcvt n src dst => Sys2Proof.Machine.execVcvt n src dst s
  | .vmxq n fmt => Sys2Proof.Machine.execVmxq n fmt s
  | .vexp2 n => Sys2Proof.Machine.execVexp2 n s
  | .vlog2 n => Sys2Proof.Machine.execVlog2 n s
  | .vrcp n => Sys2Proof.Machine.execVrcp n s
  | .vrsqrt n => Sys2Proof.Machine.execVrsqrt n s
  | .vtanh n => Sys2Proof.Machine.execVtanh n s
  | .vsigm n => Sys2Proof.Machine.execVsigm n s
  | .vrsum n => Sys2Proof.Machine.execVrsum n s
  | .vrmax n => Sys2Proof.Machine.execVrmax n s
  | .vperm n => Sys2Proof.Machine.execVperm n s
  | .vbcast n => Sys2Proof.Machine.execVbcast n s
  | .vrand n => Sys2Proof.Machine.execVrand n s
  | .vrdf n => Sys2Proof.Machine.execVrdf n s
  | .vclrf n => Sys2Proof.Machine.execVclrf n s
  | .rget n => Sys2Proof.Machine.execRget n s
  | .rput n => Sys2Proof.Machine.execRput n s
  | .rred n => Sys2Proof.Machine.execRred n s
  | .rmcast n => Sys2Proof.Machine.execRmcast n s
  | .rfence n => Sys2Proof.Machine.execRfence n s
  | .rwait n e => Sys2Proof.Machine.execRwait n e s
  | .fenceComplete id => Sys2Proof.Machine.execFenceComplete id s
  | .workTileStart n radio => Sys2Proof.Machine.execWorkTileStart n radio s
  | .workTileEnd n => Sys2Proof.Machine.execWorkTileEnd n s
  | .stepStart c => Sys2Proof.Machine.execStepStart c s
  | .stepComplete c => Sys2Proof.Machine.execStepComplete c s
  | .blockYield c => Sys2Proof.Machine.execBlockYield c s
  | .swapStart p => Sys2Proof.Machine.execSwapStart p s
  | .swapEnd p => Sys2Proof.Machine.execSwapEnd p s
  | .spillDone n => Sys2Proof.Machine.execSpillDone n s
  | .restoreDone n => Sys2Proof.Machine.execRestoreDone n s
  | .regulatorRefill p => Sys2Proof.Machine.execRegulatorRefill p s
  | .v2pPost f v => Sys2Proof.Machine.execV2pPost f v s
  | .v2pAck f v => Sys2Proof.Machine.execV2pAck f v s
  | .p2vPost f v => Sys2Proof.Machine.execP2vPost f v s
  | .p2vAck f v => Sys2Proof.Machine.execP2vAck f v s
  | .dlogEnable f v w => Sys2Proof.Machine.execDlogEnable f v w s
  | .dlogSwap f v w => Sys2Proof.Machine.execDlogSwap f v w s
  | .dlogFlushDone v => Sys2Proof.Machine.execDlogFlushDone v s
  | .migrationStart obj => Sys2Proof.Machine.execMigrationStart obj s
  | .subBlockCopyDone obj bad => Sys2Proof.Machine.execSubBlockCopyDone obj bad s
  | .blockMigrationDone obj => Sys2Proof.Machine.execBlockMigrationDone obj s
  | .migrationComplete obj => Sys2Proof.Machine.execMigrationComplete obj s
  | .ageSweep => Sys2Proof.Machine.execAgeSweep s
  | .ageEviction n => Sys2Proof.Machine.execAgeEviction n s
  | .frameReturn tier frame => Sys2Proof.Machine.execFrameReturn tier frame s
  | .poolSizeWrite n v => Sys2Proof.Machine.execPoolSizeWrite n v s
  | .patrolRead k errs addr twin => Sys2Proof.Machine.execPatrolRead k errs addr twin s
  | .pageBufferWriteout chan page => Sys2Proof.Machine.execPageBufferWriteout chan page s
  | .refetchUnitArrive obj unit data => Sys2Proof.Machine.execRefetchUnitArrive obj unit data s
  | .refetchBoundExpiry obj => Sys2Proof.Machine.execRefetchBoundExpiry obj s
  | .fillDone part => Sys2Proof.Machine.execFillDone part s
  | .chkGo f u w => Sys2Proof.Machine.execChkGo f u w s
  | .chkStop f u w lines => Sys2Proof.Machine.execChkStop f u w lines s
  | .chkScanEnd u => Sys2Proof.Machine.execChkScanEnd u s
  | .portTrainingDone p peer switch => Sys2Proof.Machine.execPortTrainingDone p peer switch s
  | .portTrainingTimeout p => Sys2Proof.Machine.execPortTrainingTimeout p s
  | .portFail p => Sys2Proof.Machine.execPortFail p s
  | .controlWordTimeout p => Sys2Proof.Machine.execControlWordTimeout p s
  | .hjeloLaneSpare p lane => Sys2Proof.Machine.execHjeloLaneSpare p lane s
  | .flitReceive p f => Sys2Proof.Machine.execFlitReceive p f s
  | .flitReplay p ackSeq => Sys2Proof.Machine.execFlitReplay p ackSeq s
  | .transitForward p => Sys2Proof.Machine.execTransitForward p s
  | .fabricRequestReceive p => Sys2Proof.Machine.execFabricRequestReceive p s
  | .mcastReceive p => Sys2Proof.Machine.execMcastReceive p s
  | .mcastGatherComplete g => Sys2Proof.Machine.execMcastGatherComplete g s
  | .combinerOperation b line => Sys2Proof.Machine.execCombinerOperation b line s
  | .streamEntryIdle src group => Sys2Proof.Machine.execStreamEntryIdle src group s
  | .fabricResponseReceive p => Sys2Proof.Machine.execFabricResponseReceive p s
  | .fabricTimeout id => Sys2Proof.Machine.execFabricTimeout id s
  | .pathEpochAdvance dst => Sys2Proof.Machine.execPathEpochAdvance dst s
  | .fabricTimeExchange p off16 root locked rootId => Sys2Proof.Machine.execFabricTimeExchange p off16 root locked rootId s
  | .ledgerWrite f => Sys2Proof.Machine.execLedgerWrite f s
  | .ledgerHeadWrite f v => Sys2Proof.Machine.execLedgerHeadWrite f v s
  | .assayPeriodBoundary => Sys2Proof.Machine.execAssayPeriodBoundary s
  | .assayStart cls u sub bucket => Sys2Proof.Machine.execAssayStart cls u sub bucket s
  | .assayEnd cls u sub ok => Sys2Proof.Machine.execAssayEnd cls u sub ok s
  | .shadowRunEnd n => Sys2Proof.Machine.execShadowRunEnd n s
  | .controlProcessorSpare k => Sys2Proof.Machine.execControlProcessorSpare k s
  | .hbmChannelSpare k c lanes => Sys2Proof.Machine.execHbmChannelSpare k c lanes s
  | .hbmChannelCopyDone k c => Sys2Proof.Machine.execHbmChannelCopyDone k c s
  | .stackOutOfService k c lanes => Sys2Proof.Machine.execStackOutOfService k c lanes s
  | .heartbeat k => Sys2Proof.Machine.execHeartbeat k s
  | .watchdogInterval => Sys2Proof.Machine.execWatchdogInterval s
  | .supervisorRestart => Sys2Proof.Machine.execSupervisorRestart s
  | .internalMessage k crcOk => Sys2Proof.Machine.execInternalMessage k crcOk s
  | .monitorCommit k pkt tag r part idx crcOk => Sys2Proof.Machine.execMonitorCommit k pkt tag r part idx crcOk s
  | .vaultPersist => Sys2Proof.Machine.execVaultPersist s
  | .hoursTick => Sys2Proof.Machine.execHoursTick s
  | .throttleAssert => Sys2Proof.Machine.execThrottleAssert s
  | .throttleDeassert => Sys2Proof.Machine.execThrottleDeassert s
  | .throttleForceWrite w => Sys2Proof.Machine.execThrottleForceWrite w s
  | .throttleHoldExpiry => Sys2Proof.Machine.execThrottleHoldExpiry s
  | .dutyReleaseStep => Sys2Proof.Machine.execDutyReleaseStep s
  | .tempSample t cata power current => Sys2Proof.Machine.execTempSample t cata power current s
  | .powerCapCheck => Sys2Proof.Machine.execPowerCapCheck s
  | .domainPowerFault d => Sys2Proof.Machine.execDomainPowerFault d s
  | .domainPowerUp d => Sys2Proof.Machine.execDomainPowerUp d s
  | .perstAssert => Sys2Proof.Machine.execPerstAssert s
  | .perstDeassert straps => Sys2Proof.Machine.execPerstDeassert straps s
  | .supervisorReady kver => Sys2Proof.Machine.execSupervisorReady kver s
  | .supervisorReadyTimeout => Sys2Proof.Machine.execSupervisorReadyTimeout s
  | .vinCoreLoss n => Sys2Proof.Machine.execVinCoreLoss n s
  | .vioDrop => Sys2Proof.Machine.execVioDrop s
  | .hotReset => Sys2Proof.Machine.execHotReset s
  | .flrPf => Sys2Proof.Machine.execFlrPf s
  | .vfEnableClear pfReset => Sys2Proof.Machine.execVfEnableClear pfReset s
  | .flrVf v => Sys2Proof.Machine.execFlrVf v s
  | .busMasterEnableWrite f on => Sys2Proof.Machine.execBusMasterEnableWrite f on s
  | .powerStateWrite f d3 => Sys2Proof.Machine.execPowerStateWrite f d3 s
  | .msixUnmask f v mask => Sys2Proof.Machine.execMsixUnmask f v mask s
  | .bar2Write f off l => Sys2Proof.Machine.execBar2Write f off l s
  | .bar4Read f off n => Sys2Proof.Machine.execBar4Read f off n s
  | .bar4Write f off l => Sys2Proof.Machine.execBar4Write f off l s
  | .b4BaseWrite f g v => Sys2Proof.Machine.execB4BaseWrite f g v s
  | .hostReadCompletion w ok addr data => Sys2Proof.Machine.execHostReadCompletion w ok addr data s
  | .epTlpReceive f => Sys2Proof.Machine.execEpTlpReceive f s
  | .ideCheckFail stream fns => Sys2Proof.Machine.execIdeCheckFail stream fns s
  | .ptmDialogue en ok off16 mpd => Sys2Proof.Machine.execPtmDialogue en ok off16 mpd s
  | .doeRequest f len d => Sys2Proof.Machine.execDoeRequest f len d s
  | .mctpMessage via m => Sys2Proof.Machine.execMctpMessage via m s
  | .getVersion via => Sys2Proof.Machine.execGetVersion via s
  | .getCapabilities via => Sys2Proof.Machine.execGetCapabilities via s
  | .negotiateAlgorithms via mlDsa sha => Sys2Proof.Machine.execNegotiateAlgorithms via mlDsa sha s
  | .getDigests via => Sys2Proof.Machine.execGetDigests via s
  | .getCertificate via slot off len => Sys2Proof.Machine.execGetCertificate via slot off len s
  | .challenge via slot nonce => Sys2Proof.Machine.execChallenge via slot nonce s
  | .getMeasurements via index signed nonce => Sys2Proof.Machine.execGetMeasurements via index signed nonce s
  | .keyExchange via dhe => Sys2Proof.Machine.execKeyExchange via dhe s
  | .finish via ok => Sys2Proof.Machine.execFinish via ok s
  | .endSession via => Sys2Proof.Machine.execEndSession via s
  | .heartbeatSpdm via => Sys2Proof.Machine.execHeartbeatSpdm via s
  | .keyUpdate via => Sys2Proof.Machine.execKeyUpdate via s
  | .setEventReceiver via eid => Sys2Proof.Machine.execSetEventReceiver via eid s
  | .requestUpdate via len => Sys2Proof.Machine.execRequestUpdate via len s
  | .requestFirmwareData data => Sys2Proof.Machine.execRequestFirmwareData data s
  | .activateFirmware via => Sys2Proof.Machine.execActivateFirmware via s
  | .recoveryUpdate readback => Sys2Proof.Machine.execRecoveryUpdate readback s
  | .bypass => Sys2Proof.Machine.execBypass s
  | .idcode => Sys2Proof.Machine.execIdcode s
  | .samplePreload pins load => Sys2Proof.Machine.execSamplePreload pins load s
  | .extest => Sys2Proof.Machine.execExtest s
  | .extestPulse => Sys2Proof.Machine.execExtestPulse s
  | .extestTrain => Sys2Proof.Machine.execExtestTrain s
  | .clamp => Sys2Proof.Machine.execClamp s
  | .highz => Sys2Proof.Machine.execHighz s
  | .jtagDebugHalt k => Sys2Proof.Machine.execJtagDebugHalt k s
  | .fhLaneSpare p lane => Sys2Proof.Machine.execFhLaneSpare p lane s
  | .airCounterTick => Sys2Proof.Machine.execAirCounterTick s
  | .bringUpStepEnd r => Sys2Proof.Machine.execBringUpStepEnd r s
  | .codeBlockDispatch m c slot ul alloc cb => Sys2Proof.Machine.execCodeBlockDispatch m c slot ul alloc cb s
  | .subPortLinkUp lport => Sys2Proof.Machine.execSubPortLinkUp lport s
  | .subPortLinkDown lport => Sys2Proof.Machine.execSubPortLinkDown lport s
  | .ptpTransmit lport msg => Sys2Proof.Machine.execPtpTransmit lport msg s
  | .esmcMessage lport ql => Sys2Proof.Machine.execEsmcMessage lport ql s
  | .firmwareStageComplete readback => Sys2Proof.Machine.execFirmwareStageComplete readback s
  | .verifyComplete => Sys2Proof.Machine.execVerifyComplete s
  | .applyComplete readback => Sys2Proof.Machine.execApplyComplete readback s
  | .vinCoreApply => Sys2Proof.Machine.execVinCoreApply s
  | .vioRestore => Sys2Proof.Machine.execVioRestore s
  | .vfEnableSet n => Sys2Proof.Machine.execVfEnableSet n s

end Sys2Proof.Machine
end

