-- ==== Sys2Proof/Laws/State.lean ====
section
/-! SUPPORT. What each plain update of the state leaves as it was: the groups of fields it does not touch, and the other fields of
the group it changes. -/

namespace Sys2Proof.Machine

@[simp] theorem setAir_toCommonState (n : Nat) (x : AirDom) (s : State) : (setAir n x s).toCommonState = s.toCommonState := rfl
@[simp] theorem setAir_airTsq (n : Nat) (x : AirDom) (s : State) : (setAir n x s).airTsq = s.airTsq := rfl
@[simp] theorem setAir_airTsqSeq (n : Nat) (x : AirDom) (s : State) : (setAir n x s).airTsqSeq = s.airTsqSeq := rfl
@[simp] theorem setAir_airPps (n : Nat) (x : AirDom) (s : State) : (setAir n x s).airPps = s.airPps := rfl
@[simp] theorem setAir_airQl (n : Nat) (x : AirDom) (s : State) : (setAir n x s).airQl = s.airQl := rfl
@[simp] theorem setAir_tallyPend (n : Nat) (x : AirDom) (s : State) : (setAir n x s).tallyPend = s.tallyPend := rfl
@[simp] theorem setAir_tallyLast (n : Nat) (x : AirDom) (s : State) : (setAir n x s).tallyLast = s.tallyLast := rfl
@[simp] theorem setAir_rdata (n : Nat) (x : AirDom) (s : State) : (setAir n x s).rdata = s.rdata := rfl
@[simp] theorem setAir_rstat (n : Nat) (x : AirDom) (s : State) : (setAir n x s).rstat = s.rstat := rfl
@[simp] theorem setAir_airRx (n : Nat) (x : AirDom) (s : State) : (setAir n x s).airRx = s.airRx := rfl
@[simp] theorem setAir_toRadioState (n : Nat) (x : AirDom) (s : State) : (setAir n x s).toRadioState = s.toRadioState := rfl
@[simp] theorem setAir_toFrontState (n : Nat) (x : AirDom) (s : State) : (setAir n x s).toFrontState = s.toFrontState := rfl
@[simp] theorem setAir_toFaultState (n : Nat) (x : AirDom) (s : State) : (setAir n x s).toFaultState = s.toFaultState := rfl
@[simp] theorem setAir_toMemState (n : Nat) (x : AirDom) (s : State) : (setAir n x s).toMemState = s.toMemState := rfl
@[simp] theorem setAir_toEngineState (n : Nat) (x : AirDom) (s : State) : (setAir n x s).toEngineState = s.toEngineState := rfl
@[simp] theorem setAir_toFabricState (n : Nat) (x : AirDom) (s : State) : (setAir n x s).toFabricState = s.toFabricState := rfl
@[simp] theorem setAir_toPowerState (n : Nat) (x : AirDom) (s : State) : (setAir n x s).toPowerState = s.toPowerState := rfl
@[simp] theorem setAir_toHostState (n : Nat) (x : AirDom) (s : State) : (setAir n x s).toHostState = s.toHostState := rfl

@[simp] theorem setLease_toCommonState (n : Nat) (l : Option Lease) (s : State) : (setLease n l s).toCommonState = s.toCommonState := rfl
@[simp] theorem setLease_toAirState (n : Nat) (l : Option Lease) (s : State) : (setLease n l s).toAirState = s.toAirState := rfl
@[simp] theorem setLease_cells (n : Nat) (l : Option Lease) (s : State) : (setLease n l s).cells = s.cells := rfl
@[simp] theorem setLease_windows (n : Nat) (l : Option Lease) (s : State) : (setLease n l s).windows = s.windows := rfl
@[simp] theorem setLease_jobs (n : Nat) (l : Option Lease) (s : State) : (setLease n l s).jobs = s.jobs := rfl
@[simp] theorem setLease_accepted (n : Nat) (l : Option Lease) (s : State) : (setLease n l s).accepted = s.accepted := rfl
@[simp] theorem setLease_timed (n : Nat) (l : Option Lease) (s : State) : (setLease n l s).timed = s.timed := rfl
@[simp] theorem setLease_begun (n : Nat) (l : Option Lease) (s : State) : (setLease n l s).begun = s.begun := rfl
@[simp] theorem setLease_quiesced (n : Nat) (l : Option Lease) (s : State) : (setLease n l s).quiesced = s.quiesced := rfl
@[simp] theorem setLease_quiesce (n : Nat) (l : Option Lease) (s : State) : (setLease n l s).quiesce = s.quiesce := rfl
@[simp] theorem setLease_resv (n : Nat) (l : Option Lease) (s : State) : (setLease n l s).resv = s.resv := rfl
@[simp] theorem setLease_tallyRem (n : Nat) (l : Option Lease) (s : State) : (setLease n l s).tallyRem = s.tallyRem := rfl
@[simp] theorem setLease_soft (n : Nat) (l : Option Lease) (s : State) : (setLease n l s).soft = s.soft := rfl
@[simp] theorem setLease_code (n : Nat) (l : Option Lease) (s : State) : (setLease n l s).code = s.code := rfl
@[simp] theorem setLease_laneFaults (n : Nat) (l : Option Lease) (s : State) : (setLease n l s).laneFaults = s.laneFaults := rfl
@[simp] theorem setLease_stacksOut (n : Nat) (l : Option Lease) (s : State) : (setLease n l s).stacksOut = s.stacksOut := rfl
@[simp] theorem setLease_ledger (n : Nat) (l : Option Lease) (s : State) : (setLease n l s).ledger = s.ledger := rfl
@[simp] theorem setLease_toFrontState (n : Nat) (l : Option Lease) (s : State) : (setLease n l s).toFrontState = s.toFrontState := rfl
@[simp] theorem setLease_toFaultState (n : Nat) (l : Option Lease) (s : State) : (setLease n l s).toFaultState = s.toFaultState := rfl
@[simp] theorem setLease_toMemState (n : Nat) (l : Option Lease) (s : State) : (setLease n l s).toMemState = s.toMemState := rfl
@[simp] theorem setLease_toEngineState (n : Nat) (l : Option Lease) (s : State) : (setLease n l s).toEngineState = s.toEngineState := rfl
@[simp] theorem setLease_toFabricState (n : Nat) (l : Option Lease) (s : State) : (setLease n l s).toFabricState = s.toFabricState := rfl
@[simp] theorem setLease_toPowerState (n : Nat) (l : Option Lease) (s : State) : (setLease n l s).toPowerState = s.toPowerState := rfl
@[simp] theorem setLease_toHostState (n : Nat) (l : Option Lease) (s : State) : (setLease n l s).toHostState = s.toHostState := rfl

@[simp] theorem putEng_toCommonState (n : Nat) (x : Option EngSet) (s : State) : (putEng n x s).toCommonState = s.toCommonState := rfl
@[simp] theorem putEng_toAirState (n : Nat) (x : Option EngSet) (s : State) : (putEng n x s).toAirState = s.toAirState := rfl
@[simp] theorem putEng_toRadioState (n : Nat) (x : Option EngSet) (s : State) : (putEng n x s).toRadioState = s.toRadioState := rfl
@[simp] theorem putEng_toFrontState (n : Nat) (x : Option EngSet) (s : State) : (putEng n x s).toFrontState = s.toFrontState := rfl
@[simp] theorem putEng_toFaultState (n : Nat) (x : Option EngSet) (s : State) : (putEng n x s).toFaultState = s.toFaultState := rfl
@[simp] theorem putEng_toMemState (n : Nat) (x : Option EngSet) (s : State) : (putEng n x s).toMemState = s.toMemState := rfl
@[simp] theorem putEng_parts (n : Nat) (x : Option EngSet) (s : State) : (putEng n x s).parts = s.parts := rfl
@[simp] theorem putEng_regul (n : Nat) (x : Option EngSet) (s : State) : (putEng n x s).regul = s.regul := rfl
@[simp] theorem putEng_ctxs (n : Nat) (x : Option EngSet) (s : State) : (putEng n x s).ctxs = s.ctxs := rfl
@[simp] theorem putEng_loose (n : Nat) (x : Option EngSet) (s : State) : (putEng n x s).loose = s.loose := rfl
@[simp] theorem putEng_lastCtx (n : Nat) (x : Option EngSet) (s : State) : (putEng n x s).lastCtx = s.lastCtx := rfl
@[simp] theorem putEng_scratchOf (n : Nat) (x : Option EngSet) (s : State) : (putEng n x s).scratchOf = s.scratchOf := rfl
@[simp] theorem putEng_spills (n : Nat) (x : Option EngSet) (s : State) : (putEng n x s).spills = s.spills := rfl
@[simp] theorem putEng_swaps (n : Nat) (x : Option EngSet) (s : State) : (putEng n x s).swaps = s.swaps := rfl
@[simp] theorem putEng_gapAt (n : Nat) (x : Option EngSet) (s : State) : (putEng n x s).gapAt = s.gapAt := rfl
@[simp] theorem putEng_govAt (n : Nat) (x : Option EngSet) (s : State) : (putEng n x s).govAt = s.govAt := rfl
@[simp] theorem putEng_mbx (n : Nat) (x : Option EngSet) (s : State) : (putEng n x s).mbx = s.mbx := rfl
@[simp] theorem putEng_toFabricState (n : Nat) (x : Option EngSet) (s : State) : (putEng n x s).toFabricState = s.toFabricState := rfl
@[simp] theorem putEng_toPowerState (n : Nat) (x : Option EngSet) (s : State) : (putEng n x s).toPowerState = s.toPowerState := rfl
@[simp] theorem putEng_toHostState (n : Nat) (x : Option EngSet) (s : State) : (putEng n x s).toHostState = s.toHostState := rfl

@[simp] theorem csWrite_toCommonState (n a : Nat) (l : List Byte) (s : State) : (csWrite n a l s).toCommonState = s.toCommonState := rfl
@[simp] theorem csWrite_toAirState (n a : Nat) (l : List Byte) (s : State) : (csWrite n a l s).toAirState = s.toAirState := rfl
@[simp] theorem csWrite_toRadioState (n a : Nat) (l : List Byte) (s : State) : (csWrite n a l s).toRadioState = s.toRadioState := rfl
@[simp] theorem csWrite_toFrontState (n a : Nat) (l : List Byte) (s : State) : (csWrite n a l s).toFrontState = s.toFrontState := rfl
@[simp] theorem csWrite_toFaultState (n a : Nat) (l : List Byte) (s : State) : (csWrite n a l s).toFaultState = s.toFaultState := rfl
@[simp] theorem csWrite_bmap (n a : Nat) (l : List Byte) (s : State) : (csWrite n a l s).bmap = s.bmap := rfl
@[simp] theorem csWrite_objs (n a : Nat) (l : List Byte) (s : State) : (csWrite n a l s).objs = s.objs := rfl
@[simp] theorem csWrite_shadows (n a : Nat) (l : List Byte) (s : State) : (csWrite n a l s).shadows = s.shadows := rfl
@[simp] theorem csWrite_migQueue (n a : Nat) (l : List Byte) (s : State) : (csWrite n a l s).migQueue = s.migQueue := rfl
@[simp] theorem csWrite_migs (n a : Nat) (l : List Byte) (s : State) : (csWrite n a l s).migs = s.migs := rfl
@[simp] theorem csWrite_objResv (n a : Nat) (l : List Byte) (s : State) : (csWrite n a l s).objResv = s.objResv := rfl
@[simp] theorem csWrite_ctxResv (n a : Nat) (l : List Byte) (s : State) : (csWrite n a l s).ctxResv = s.ctxResv := rfl
@[simp] theorem csWrite_ageRun (n a : Nat) (l : List Byte) (s : State) : (csWrite n a l s).ageRun = s.ageRun := rfl
@[simp] theorem csWrite_freeing (n a : Nat) (l : List Byte) (s : State) : (csWrite n a l s).freeing = s.freeing := rfl
@[simp] theorem csWrite_mem (n a : Nat) (l : List Byte) (s : State) : (csWrite n a l s).mem = s.mem := rfl
@[simp] theorem csWrite_poison (n a : Nat) (l : List Byte) (s : State) : (csWrite n a l s).poison = s.poison := rfl
@[simp] theorem csWrite_pageBufs (n a : Nat) (l : List Byte) (s : State) : (csWrite n a l s).pageBufs = s.pageBufs := rfl
@[simp] theorem csWrite_ceRows (n a : Nat) (l : List Byte) (s : State) : (csWrite n a l s).ceRows = s.ceRows := rfl
@[simp] theorem csWrite_chanUe (n a : Nat) (l : List Byte) (s : State) : (csWrite n a l s).chanUe = s.chanUe := rfl
@[simp] theorem csWrite_repairs (n a : Nat) (l : List Byte) (s : State) : (csWrite n a l s).repairs = s.repairs := rfl
@[simp] theorem csWrite_chanCopy (n a : Nat) (l : List Byte) (s : State) : (csWrite n a l s).chanCopy = s.chanCopy := rfl
@[simp] theorem csWrite_ddrChans (n a : Nat) (l : List Byte) (s : State) : (csWrite n a l s).ddrChans = s.ddrChans := rfl
@[simp] theorem csWrite_ddrRate (n a : Nat) (l : List Byte) (s : State) : (csWrite n a l s).ddrRate = s.ddrRate := rfl
@[simp] theorem csWrite_patrol (n a : Nat) (l : List Byte) (s : State) : (csWrite n a l s).patrol = s.patrol := rfl
@[simp] theorem csWrite_patrolStart (n a : Nat) (l : List Byte) (s : State) : (csWrite n a l s).patrolStart = s.patrolStart := rfl
@[simp] theorem csWrite_fills (n a : Nat) (l : List Byte) (s : State) : (csWrite n a l s).fills = s.fills := rfl
@[simp] theorem csWrite_toEngineState (n a : Nat) (l : List Byte) (s : State) : (csWrite n a l s).toEngineState = s.toEngineState := rfl
@[simp] theorem csWrite_toFabricState (n a : Nat) (l : List Byte) (s : State) : (csWrite n a l s).toFabricState = s.toFabricState := rfl
@[simp] theorem csWrite_toPowerState (n a : Nat) (l : List Byte) (s : State) : (csWrite n a l s).toPowerState = s.toPowerState := rfl
@[simp] theorem csWrite_toHostState (n a : Nat) (l : List Byte) (s : State) : (csWrite n a l s).toHostState = s.toHostState := rfl

@[simp] theorem fillStep_toCommonState (n : Nat) (s : State) : (fillStep n s).toCommonState = s.toCommonState := rfl
@[simp] theorem fillStep_toAirState (n : Nat) (s : State) : (fillStep n s).toAirState = s.toAirState := rfl
@[simp] theorem fillStep_toRadioState (n : Nat) (s : State) : (fillStep n s).toRadioState = s.toRadioState := rfl
@[simp] theorem fillStep_toFrontState (n : Nat) (s : State) : (fillStep n s).toFrontState = s.toFrontState := rfl
@[simp] theorem fillStep_toFaultState (n : Nat) (s : State) : (fillStep n s).toFaultState = s.toFaultState := rfl
@[simp] theorem fillStep_bmap (n : Nat) (s : State) : (fillStep n s).bmap = s.bmap := rfl
@[simp] theorem fillStep_objs (n : Nat) (s : State) : (fillStep n s).objs = s.objs := rfl
@[simp] theorem fillStep_shadows (n : Nat) (s : State) : (fillStep n s).shadows = s.shadows := rfl
@[simp] theorem fillStep_migQueue (n : Nat) (s : State) : (fillStep n s).migQueue = s.migQueue := rfl
@[simp] theorem fillStep_migs (n : Nat) (s : State) : (fillStep n s).migs = s.migs := rfl
@[simp] theorem fillStep_objResv (n : Nat) (s : State) : (fillStep n s).objResv = s.objResv := rfl
@[simp] theorem fillStep_ctxResv (n : Nat) (s : State) : (fillStep n s).ctxResv = s.ctxResv := rfl
@[simp] theorem fillStep_ageRun (n : Nat) (s : State) : (fillStep n s).ageRun = s.ageRun := rfl
@[simp] theorem fillStep_freeing (n : Nat) (s : State) : (fillStep n s).freeing = s.freeing := rfl
@[simp] theorem fillStep_mem (n : Nat) (s : State) : (fillStep n s).mem = s.mem := rfl
@[simp] theorem fillStep_poison (n : Nat) (s : State) : (fillStep n s).poison = s.poison := rfl
@[simp] theorem fillStep_pageBufs (n : Nat) (s : State) : (fillStep n s).pageBufs = s.pageBufs := rfl
@[simp] theorem fillStep_ceRows (n : Nat) (s : State) : (fillStep n s).ceRows = s.ceRows := rfl
@[simp] theorem fillStep_chanUe (n : Nat) (s : State) : (fillStep n s).chanUe = s.chanUe := rfl
@[simp] theorem fillStep_repairs (n : Nat) (s : State) : (fillStep n s).repairs = s.repairs := rfl
@[simp] theorem fillStep_chanCopy (n : Nat) (s : State) : (fillStep n s).chanCopy = s.chanCopy := rfl
@[simp] theorem fillStep_ddrChans (n : Nat) (s : State) : (fillStep n s).ddrChans = s.ddrChans := rfl
@[simp] theorem fillStep_ddrRate (n : Nat) (s : State) : (fillStep n s).ddrRate = s.ddrRate := rfl
@[simp] theorem fillStep_patrol (n : Nat) (s : State) : (fillStep n s).patrol = s.patrol := rfl
@[simp] theorem fillStep_patrolStart (n : Nat) (s : State) : (fillStep n s).patrolStart = s.patrolStart := rfl
@[simp] theorem fillStep_fills (n : Nat) (s : State) : (fillStep n s).fills = s.fills := rfl
@[simp] theorem fillStep_toEngineState (n : Nat) (s : State) : (fillStep n s).toEngineState = s.toEngineState := rfl
@[simp] theorem fillStep_toFabricState (n : Nat) (s : State) : (fillStep n s).toFabricState = s.toFabricState := rfl
@[simp] theorem fillStep_toPowerState (n : Nat) (s : State) : (fillStep n s).toPowerState = s.toPowerState := rfl
@[simp] theorem fillStep_toHostState (n : Nat) (s : State) : (fillStep n s).toHostState = s.toHostState := rfl

@[simp] theorem setWindow_toCommonState (w : Window) (new : Option Window) (s : State) : (setWindow w new s).toCommonState = s.toCommonState := rfl
@[simp] theorem setWindow_toAirState (w : Window) (new : Option Window) (s : State) : (setWindow w new s).toAirState = s.toAirState := rfl
@[simp] theorem setWindow_cells (w : Window) (new : Option Window) (s : State) : (setWindow w new s).cells = s.cells := rfl
@[simp] theorem setWindow_leases (w : Window) (new : Option Window) (s : State) : (setWindow w new s).leases = s.leases := rfl
@[simp] theorem setWindow_jobs (w : Window) (new : Option Window) (s : State) : (setWindow w new s).jobs = s.jobs := rfl
@[simp] theorem setWindow_accepted (w : Window) (new : Option Window) (s : State) : (setWindow w new s).accepted = s.accepted := rfl
@[simp] theorem setWindow_timed (w : Window) (new : Option Window) (s : State) : (setWindow w new s).timed = s.timed := rfl
@[simp] theorem setWindow_begun (w : Window) (new : Option Window) (s : State) : (setWindow w new s).begun = s.begun := rfl
@[simp] theorem setWindow_quiesced (w : Window) (new : Option Window) (s : State) : (setWindow w new s).quiesced = s.quiesced := rfl
@[simp] theorem setWindow_quiesce (w : Window) (new : Option Window) (s : State) : (setWindow w new s).quiesce = s.quiesce := rfl
@[simp] theorem setWindow_resv (w : Window) (new : Option Window) (s : State) : (setWindow w new s).resv = s.resv := rfl
@[simp] theorem setWindow_tallyRem (w : Window) (new : Option Window) (s : State) : (setWindow w new s).tallyRem = s.tallyRem := rfl
@[simp] theorem setWindow_soft (w : Window) (new : Option Window) (s : State) : (setWindow w new s).soft = s.soft := rfl
@[simp] theorem setWindow_code (w : Window) (new : Option Window) (s : State) : (setWindow w new s).code = s.code := rfl
@[simp] theorem setWindow_laneFaults (w : Window) (new : Option Window) (s : State) : (setWindow w new s).laneFaults = s.laneFaults := rfl
@[simp] theorem setWindow_stacksOut (w : Window) (new : Option Window) (s : State) : (setWindow w new s).stacksOut = s.stacksOut := rfl
@[simp] theorem setWindow_ledger (w : Window) (new : Option Window) (s : State) : (setWindow w new s).ledger = s.ledger := rfl
@[simp] theorem setWindow_toFrontState (w : Window) (new : Option Window) (s : State) : (setWindow w new s).toFrontState = s.toFrontState := rfl
@[simp] theorem setWindow_toFaultState (w : Window) (new : Option Window) (s : State) : (setWindow w new s).toFaultState = s.toFaultState := rfl
@[simp] theorem setWindow_toMemState (w : Window) (new : Option Window) (s : State) : (setWindow w new s).toMemState = s.toMemState := rfl
@[simp] theorem setWindow_toEngineState (w : Window) (new : Option Window) (s : State) : (setWindow w new s).toEngineState = s.toEngineState := rfl
@[simp] theorem setWindow_toFabricState (w : Window) (new : Option Window) (s : State) : (setWindow w new s).toFabricState = s.toFabricState := rfl
@[simp] theorem setWindow_toPowerState (w : Window) (new : Option Window) (s : State) : (setWindow w new s).toPowerState = s.toPowerState := rfl
@[simp] theorem setWindow_toHostState (w : Window) (new : Option Window) (s : State) : (setWindow w new s).toHostState = s.toHostState := rfl

@[simp] theorem setDiq_toCommonState (p a : Nat) (d : Diq) (s : State) : (setDiq p a d s).toCommonState = s.toCommonState := rfl
@[simp] theorem setDiq_toAirState (p a : Nat) (d : Diq) (s : State) : (setDiq p a d s).toAirState = s.toAirState := rfl
@[simp] theorem setDiq_toRadioState (p a : Nat) (d : Diq) (s : State) : (setDiq p a d s).toRadioState = s.toRadioState := rfl
@[simp] theorem setDiq_fhFar (p a : Nat) (d : Diq) (s : State) : (setDiq p a d s).fhFar = s.fhFar := rfl
@[simp] theorem setDiq_fhWheel (p a : Nat) (d : Diq) (s : State) : (setDiq p a d s).fhWheel = s.fhWheel := rfl
@[simp] theorem setDiq_fhQueue (p a : Nat) (d : Diq) (s : State) : (setDiq p a d s).fhQueue = s.fhQueue := rfl
@[simp] theorem setDiq_fhActive (p a : Nat) (d : Diq) (s : State) : (setDiq p a d s).fhActive = s.fhActive := rfl
@[simp] theorem setDiq_fhDeficit (p a : Nat) (d : Diq) (s : State) : (setDiq p a d s).fhDeficit = s.fhDeficit := rfl
@[simp] theorem setDiq_fhVisit (p a : Nat) (d : Diq) (s : State) : (setDiq p a d s).fhVisit = s.fhVisit := rfl
@[simp] theorem setDiq_fhTokens (p a : Nat) (d : Diq) (s : State) : (setDiq p a d s).fhTokens = s.fhTokens := rfl
@[simp] theorem setDiq_fhShape (p a : Nat) (d : Diq) (s : State) : (setDiq p a d s).fhShape = s.fhShape := rfl
@[simp] theorem setDiq_fhSent (p a : Nat) (d : Diq) (s : State) : (setDiq p a d s).fhSent = s.fhSent := rfl
@[simp] theorem setDiq_marker (p a : Nat) (d : Diq) (s : State) : (setDiq p a d s).marker = s.marker := rfl
@[simp] theorem setDiq_diqCoef (p a : Nat) (d : Diq) (s : State) : (setDiq p a d s).diqCoef = s.diqCoef := rfl
@[simp] theorem setDiq_slotBuf (p a : Nat) (d : Diq) (s : State) : (setDiq p a d s).slotBuf = s.slotBuf := rfl
@[simp] theorem setDiq_toFaultState (p a : Nat) (d : Diq) (s : State) : (setDiq p a d s).toFaultState = s.toFaultState := rfl
@[simp] theorem setDiq_toMemState (p a : Nat) (d : Diq) (s : State) : (setDiq p a d s).toMemState = s.toMemState := rfl
@[simp] theorem setDiq_toEngineState (p a : Nat) (d : Diq) (s : State) : (setDiq p a d s).toEngineState = s.toEngineState := rfl
@[simp] theorem setDiq_toFabricState (p a : Nat) (d : Diq) (s : State) : (setDiq p a d s).toFabricState = s.toFabricState := rfl
@[simp] theorem setDiq_toPowerState (p a : Nat) (d : Diq) (s : State) : (setDiq p a d s).toPowerState = s.toPowerState := rfl
@[simp] theorem setDiq_toHostState (p a : Nat) (d : Diq) (s : State) : (setDiq p a d s).toHostState = s.toHostState := rfl

@[simp] theorem setQueue_toCommonState (k : Nat) (l : List TxMsg) (s : State) : (setQueue k l s).toCommonState = s.toCommonState := rfl
@[simp] theorem setQueue_toAirState (k : Nat) (l : List TxMsg) (s : State) : (setQueue k l s).toAirState = s.toAirState := rfl
@[simp] theorem setQueue_toRadioState (k : Nat) (l : List TxMsg) (s : State) : (setQueue k l s).toRadioState = s.toRadioState := rfl
@[simp] theorem setQueue_fhFar (k : Nat) (l : List TxMsg) (s : State) : (setQueue k l s).fhFar = s.fhFar := rfl
@[simp] theorem setQueue_fhWheel (k : Nat) (l : List TxMsg) (s : State) : (setQueue k l s).fhWheel = s.fhWheel := rfl
@[simp] theorem setQueue_fhActive (k : Nat) (l : List TxMsg) (s : State) : (setQueue k l s).fhActive = s.fhActive := rfl
@[simp] theorem setQueue_fhDeficit (k : Nat) (l : List TxMsg) (s : State) : (setQueue k l s).fhDeficit = s.fhDeficit := rfl
@[simp] theorem setQueue_fhVisit (k : Nat) (l : List TxMsg) (s : State) : (setQueue k l s).fhVisit = s.fhVisit := rfl
@[simp] theorem setQueue_fhTokens (k : Nat) (l : List TxMsg) (s : State) : (setQueue k l s).fhTokens = s.fhTokens := rfl
@[simp] theorem setQueue_fhShape (k : Nat) (l : List TxMsg) (s : State) : (setQueue k l s).fhShape = s.fhShape := rfl
@[simp] theorem setQueue_fhSent (k : Nat) (l : List TxMsg) (s : State) : (setQueue k l s).fhSent = s.fhSent := rfl
@[simp] theorem setQueue_marker (k : Nat) (l : List TxMsg) (s : State) : (setQueue k l s).marker = s.marker := rfl
@[simp] theorem setQueue_diq (k : Nat) (l : List TxMsg) (s : State) : (setQueue k l s).diq = s.diq := rfl
@[simp] theorem setQueue_diqCoef (k : Nat) (l : List TxMsg) (s : State) : (setQueue k l s).diqCoef = s.diqCoef := rfl
@[simp] theorem setQueue_slotBuf (k : Nat) (l : List TxMsg) (s : State) : (setQueue k l s).slotBuf = s.slotBuf := rfl
@[simp] theorem setQueue_toFaultState (k : Nat) (l : List TxMsg) (s : State) : (setQueue k l s).toFaultState = s.toFaultState := rfl
@[simp] theorem setQueue_toMemState (k : Nat) (l : List TxMsg) (s : State) : (setQueue k l s).toMemState = s.toMemState := rfl
@[simp] theorem setQueue_toEngineState (k : Nat) (l : List TxMsg) (s : State) : (setQueue k l s).toEngineState = s.toEngineState := rfl
@[simp] theorem setQueue_toFabricState (k : Nat) (l : List TxMsg) (s : State) : (setQueue k l s).toFabricState = s.toFabricState := rfl
@[simp] theorem setQueue_toPowerState (k : Nat) (l : List TxMsg) (s : State) : (setQueue k l s).toPowerState = s.toPowerState := rfl
@[simp] theorem setQueue_toHostState (k : Nat) (l : List TxMsg) (s : State) : (setQueue k l s).toHostState = s.toHostState := rfl

@[simp] theorem setActive_toCommonState (lport prio : Nat) (l : List Nat) (s : State) : (setActive lport prio l s).toCommonState = s.toCommonState := rfl
@[simp] theorem setActive_toAirState (lport prio : Nat) (l : List Nat) (s : State) : (setActive lport prio l s).toAirState = s.toAirState := rfl
@[simp] theorem setActive_toRadioState (lport prio : Nat) (l : List Nat) (s : State) : (setActive lport prio l s).toRadioState = s.toRadioState := rfl
@[simp] theorem setActive_fhFar (lport prio : Nat) (l : List Nat) (s : State) : (setActive lport prio l s).fhFar = s.fhFar := rfl
@[simp] theorem setActive_fhWheel (lport prio : Nat) (l : List Nat) (s : State) : (setActive lport prio l s).fhWheel = s.fhWheel := rfl
@[simp] theorem setActive_fhQueue (lport prio : Nat) (l : List Nat) (s : State) : (setActive lport prio l s).fhQueue = s.fhQueue := rfl
@[simp] theorem setActive_fhDeficit (lport prio : Nat) (l : List Nat) (s : State) : (setActive lport prio l s).fhDeficit = s.fhDeficit := rfl
@[simp] theorem setActive_fhVisit (lport prio : Nat) (l : List Nat) (s : State) : (setActive lport prio l s).fhVisit = s.fhVisit := rfl
@[simp] theorem setActive_fhTokens (lport prio : Nat) (l : List Nat) (s : State) : (setActive lport prio l s).fhTokens = s.fhTokens := rfl
@[simp] theorem setActive_fhShape (lport prio : Nat) (l : List Nat) (s : State) : (setActive lport prio l s).fhShape = s.fhShape := rfl
@[simp] theorem setActive_fhSent (lport prio : Nat) (l : List Nat) (s : State) : (setActive lport prio l s).fhSent = s.fhSent := rfl
@[simp] theorem setActive_marker (lport prio : Nat) (l : List Nat) (s : State) : (setActive lport prio l s).marker = s.marker := rfl
@[simp] theorem setActive_diq (lport prio : Nat) (l : List Nat) (s : State) : (setActive lport prio l s).diq = s.diq := rfl
@[simp] theorem setActive_diqCoef (lport prio : Nat) (l : List Nat) (s : State) : (setActive lport prio l s).diqCoef = s.diqCoef := rfl
@[simp] theorem setActive_slotBuf (lport prio : Nat) (l : List Nat) (s : State) : (setActive lport prio l s).slotBuf = s.slotBuf := rfl
@[simp] theorem setActive_toFaultState (lport prio : Nat) (l : List Nat) (s : State) : (setActive lport prio l s).toFaultState = s.toFaultState := rfl
@[simp] theorem setActive_toMemState (lport prio : Nat) (l : List Nat) (s : State) : (setActive lport prio l s).toMemState = s.toMemState := rfl
@[simp] theorem setActive_toEngineState (lport prio : Nat) (l : List Nat) (s : State) : (setActive lport prio l s).toEngineState = s.toEngineState := rfl
@[simp] theorem setActive_toFabricState (lport prio : Nat) (l : List Nat) (s : State) : (setActive lport prio l s).toFabricState = s.toFabricState := rfl
@[simp] theorem setActive_toPowerState (lport prio : Nat) (l : List Nat) (s : State) : (setActive lport prio l s).toPowerState = s.toPowerState := rfl
@[simp] theorem setActive_toHostState (lport prio : Nat) (l : List Nat) (s : State) : (setActive lport prio l s).toHostState = s.toHostState := rfl

@[simp] theorem putSeal_toCommonState (w k n : Nat) (s : State) : (putSeal w k n s).toCommonState = s.toCommonState := rfl
@[simp] theorem putSeal_toAirState (w k n : Nat) (s : State) : (putSeal w k n s).toAirState = s.toAirState := rfl
@[simp] theorem putSeal_toRadioState (w k n : Nat) (s : State) : (putSeal w k n s).toRadioState = s.toRadioState := rfl
@[simp] theorem putSeal_toFrontState (w k n : Nat) (s : State) : (putSeal w k n s).toFrontState = s.toFrontState := rfl
@[simp] theorem putSeal_toFaultState (w k n : Nat) (s : State) : (putSeal w k n s).toFaultState = s.toFaultState := rfl
@[simp] theorem putSeal_toMemState (w k n : Nat) (s : State) : (putSeal w k n s).toMemState = s.toMemState := rfl
@[simp] theorem putSeal_toEngineState (w k n : Nat) (s : State) : (putSeal w k n s).toEngineState = s.toEngineState := rfl
@[simp] theorem putSeal_toFabricState (w k n : Nat) (s : State) : (putSeal w k n s).toFabricState = s.toFabricState := rfl
@[simp] theorem putSeal_toPowerState (w k n : Nat) (s : State) : (putSeal w k n s).toPowerState = s.toPowerState := rfl
@[simp] theorem putSeal_bar2 (w k n : Nat) (s : State) : (putSeal w k n s).bar2 = s.bar2 := rfl
@[simp] theorem putSeal_accepts (w k n : Nat) (s : State) : (putSeal w k n s).accepts = s.accepts := rfl
@[simp] theorem putSeal_insecure (w k n : Nat) (s : State) : (putSeal w k n s).insecure = s.insecure := rfl
@[simp] theorem putSeal_spdm (w k n : Nat) (s : State) : (putSeal w k n s).spdm = s.spdm := rfl
@[simp] theorem putSeal_mgmtOut (w k n : Nat) (s : State) : (putSeal w k n s).mgmtOut = s.mgmtOut := rfl
@[simp] theorem putSeal_evtRecv (w k n : Nat) (s : State) : (putSeal w k n s).evtRecv = s.evtRecv := rfl
@[simp] theorem putSeal_sens (w k n : Nat) (s : State) : (putSeal w k n s).sens = s.sens := rfl
@[simp] theorem putSeal_upd (w k n : Nat) (s : State) : (putSeal w k n s).upd = s.upd := rfl
@[simp] theorem putSeal_flash (w k n : Nat) (s : State) : (putSeal w k n s).flash = s.flash := rfl
@[simp] theorem putSeal_stage (w k n : Nat) (s : State) : (putSeal w k n s).stage = s.stage := rfl
@[simp] theorem putSeal_fuseRetired (w k n : Nat) (s : State) : (putSeal w k n s).fuseRetired = s.fuseRetired := rfl
@[simp] theorem putSeal_hdrDig (w k n : Nat) (s : State) : (putSeal w k n s).hdrDig = s.hdrDig := rfl
@[simp] theorem putSeal_bodyDig (w k n : Nat) (s : State) : (putSeal w k n s).bodyDig = s.bodyDig := rfl
@[simp] theorem putSeal_runSvn (w k n : Nat) (s : State) : (putSeal w k n s).runSvn = s.runSvn := rfl
@[simp] theorem putSeal_perst (w k n : Nat) (s : State) : (putSeal w k n s).perst = s.perst := rfl
@[simp] theorem putSeal_vin (w k n : Nat) (s : State) : (putSeal w k n s).vin = s.vin := rfl
@[simp] theorem putSeal_vio (w k n : Nat) (s : State) : (putSeal w k n s).vio = s.vio := rfl
@[simp] theorem putSeal_perstAt (w k n : Nat) (s : State) : (putSeal w k n s).perstAt = s.perstAt := rfl
@[simp] theorem putSeal_bootDone (w k n : Nat) (s : State) : (putSeal w k n s).bootDone = s.bootDone := rfl
@[simp] theorem putSeal_supAt (w k n : Nat) (s : State) : (putSeal w k n s).supAt = s.supAt := rfl
@[simp] theorem putSeal_tapIr (w k n : Nat) (s : State) : (putSeal w k n s).tapIr = s.tapIr := rfl
@[simp] theorem putSeal_tapOut (w k n : Nat) (s : State) : (putSeal w k n s).tapOut = s.tapOut := rfl
@[simp] theorem putSeal_bsr (w k n : Nat) (s : State) : (putSeal w k n s).bsr = s.bsr := rfl

@[simp] theorem putStream_toCommonState (x : Stream) (s : State) : (putStream x s).toCommonState = s.toCommonState := rfl
@[simp] theorem putStream_toAirState (x : Stream) (s : State) : (putStream x s).toAirState = s.toAirState := rfl
@[simp] theorem putStream_toRadioState (x : Stream) (s : State) : (putStream x s).toRadioState = s.toRadioState := rfl
@[simp] theorem putStream_toFrontState (x : Stream) (s : State) : (putStream x s).toFrontState = s.toFrontState := rfl
@[simp] theorem putStream_toFaultState (x : Stream) (s : State) : (putStream x s).toFaultState = s.toFaultState := rfl
@[simp] theorem putStream_toMemState (x : Stream) (s : State) : (putStream x s).toMemState = s.toMemState := rfl
@[simp] theorem putStream_toEngineState (x : Stream) (s : State) : (putStream x s).toEngineState = s.toEngineState := rfl
@[simp] theorem putStream_hport (x : Stream) (s : State) : (putStream x s).hport = s.hport := rfl
@[simp] theorem putStream_routes (x : Stream) (s : State) : (putStream x s).routes = s.routes := rfl
@[simp] theorem putStream_groups (x : Stream) (s : State) : (putStream x s).groups = s.groups := rfl
@[simp] theorem putStream_ftt (x : Stream) (s : State) : (putStream x s).ftt = s.ftt := rfl
@[simp] theorem putStream_txids (x : Stream) (s : State) : (putStream x s).txids = s.txids := rfl
@[simp] theorem putStream_epochPend (x : Stream) (s : State) : (putStream x s).epochPend = s.epochPend := rfl
@[simp] theorem putStream_epochs (x : Stream) (s : State) : (putStream x s).epochs = s.epochs := rfl
@[simp] theorem putStream_comb (x : Stream) (s : State) : (putStream x s).comb = s.comb := rfl
@[simp] theorem putStream_lineBufs (x : Stream) (s : State) : (putStream x s).lineBufs = s.lineBufs := rfl
@[simp] theorem putStream_fabHeld (x : Stream) (s : State) : (putStream x s).fabHeld = s.fabHeld := rfl
@[simp] theorem putStream_hotSeen (x : Stream) (s : State) : (putStream x s).hotSeen = s.hotSeen := rfl
@[simp] theorem putStream_gathers (x : Stream) (s : State) : (putStream x s).gathers = s.gathers := rfl
@[simp] theorem putStream_fabSent (x : Stream) (s : State) : (putStream x s).fabSent = s.fabSent := rfl
@[simp] theorem putStream_fabDrop (x : Stream) (s : State) : (putStream x s).fabDrop = s.fabDrop := rfl
@[simp] theorem putStream_toPowerState (x : Stream) (s : State) : (putStream x s).toPowerState = s.toPowerState := rfl
@[simp] theorem putStream_toHostState (x : Stream) (s : State) : (putStream x s).toHostState = s.toHostState := rfl

@[simp] theorem setHp_toCommonState (p : Nat) (x : HPort) (s : State) : (setHp p x s).toCommonState = s.toCommonState := rfl
@[simp] theorem setHp_toAirState (p : Nat) (x : HPort) (s : State) : (setHp p x s).toAirState = s.toAirState := rfl
@[simp] theorem setHp_toRadioState (p : Nat) (x : HPort) (s : State) : (setHp p x s).toRadioState = s.toRadioState := rfl
@[simp] theorem setHp_toFrontState (p : Nat) (x : HPort) (s : State) : (setHp p x s).toFrontState = s.toFrontState := rfl
@[simp] theorem setHp_toFaultState (p : Nat) (x : HPort) (s : State) : (setHp p x s).toFaultState = s.toFaultState := rfl
@[simp] theorem setHp_toMemState (p : Nat) (x : HPort) (s : State) : (setHp p x s).toMemState = s.toMemState := rfl
@[simp] theorem setHp_toEngineState (p : Nat) (x : HPort) (s : State) : (setHp p x s).toEngineState = s.toEngineState := rfl
@[simp] theorem setHp_routes (p : Nat) (x : HPort) (s : State) : (setHp p x s).routes = s.routes := rfl
@[simp] theorem setHp_groups (p : Nat) (x : HPort) (s : State) : (setHp p x s).groups = s.groups := rfl
@[simp] theorem setHp_ftt (p : Nat) (x : HPort) (s : State) : (setHp p x s).ftt = s.ftt := rfl
@[simp] theorem setHp_txids (p : Nat) (x : HPort) (s : State) : (setHp p x s).txids = s.txids := rfl
@[simp] theorem setHp_epochPend (p : Nat) (x : HPort) (s : State) : (setHp p x s).epochPend = s.epochPend := rfl
@[simp] theorem setHp_epochs (p : Nat) (x : HPort) (s : State) : (setHp p x s).epochs = s.epochs := rfl
@[simp] theorem setHp_comb (p : Nat) (x : HPort) (s : State) : (setHp p x s).comb = s.comb := rfl
@[simp] theorem setHp_lineBufs (p : Nat) (x : HPort) (s : State) : (setHp p x s).lineBufs = s.lineBufs := rfl
@[simp] theorem setHp_fabHeld (p : Nat) (x : HPort) (s : State) : (setHp p x s).fabHeld = s.fabHeld := rfl
@[simp] theorem setHp_hotSeen (p : Nat) (x : HPort) (s : State) : (setHp p x s).hotSeen = s.hotSeen := rfl
@[simp] theorem setHp_streams (p : Nat) (x : HPort) (s : State) : (setHp p x s).streams = s.streams := rfl
@[simp] theorem setHp_gathers (p : Nat) (x : HPort) (s : State) : (setHp p x s).gathers = s.gathers := rfl
@[simp] theorem setHp_fabSent (p : Nat) (x : HPort) (s : State) : (setHp p x s).fabSent = s.fabSent := rfl
@[simp] theorem setHp_fabDrop (p : Nat) (x : HPort) (s : State) : (setHp p x s).fabDrop = s.fabDrop := rfl
@[simp] theorem setHp_toPowerState (p : Nat) (x : HPort) (s : State) : (setHp p x s).toPowerState = s.toPowerState := rfl
@[simp] theorem setHp_toHostState (p : Nat) (x : HPort) (s : State) : (setHp p x s).toHostState = s.toHostState := rfl

@[simp] theorem setEnt_toCommonState (b e : Nat) (s : State) : (setEnt b e s).toCommonState = s.toCommonState := rfl
@[simp] theorem setEnt_toAirState (b e : Nat) (s : State) : (setEnt b e s).toAirState = s.toAirState := rfl
@[simp] theorem setEnt_toRadioState (b e : Nat) (s : State) : (setEnt b e s).toRadioState = s.toRadioState := rfl
@[simp] theorem setEnt_toFrontState (b e : Nat) (s : State) : (setEnt b e s).toFrontState = s.toFrontState := rfl
@[simp] theorem setEnt_toFaultState (b e : Nat) (s : State) : (setEnt b e s).toFaultState = s.toFaultState := rfl
@[simp] theorem setEnt_objs (b e : Nat) (s : State) : (setEnt b e s).objs = s.objs := rfl
@[simp] theorem setEnt_shadows (b e : Nat) (s : State) : (setEnt b e s).shadows = s.shadows := rfl
@[simp] theorem setEnt_migQueue (b e : Nat) (s : State) : (setEnt b e s).migQueue = s.migQueue := rfl
@[simp] theorem setEnt_migs (b e : Nat) (s : State) : (setEnt b e s).migs = s.migs := rfl
@[simp] theorem setEnt_objResv (b e : Nat) (s : State) : (setEnt b e s).objResv = s.objResv := rfl
@[simp] theorem setEnt_ctxResv (b e : Nat) (s : State) : (setEnt b e s).ctxResv = s.ctxResv := rfl
@[simp] theorem setEnt_ageRun (b e : Nat) (s : State) : (setEnt b e s).ageRun = s.ageRun := rfl
@[simp] theorem setEnt_freeing (b e : Nat) (s : State) : (setEnt b e s).freeing = s.freeing := rfl
@[simp] theorem setEnt_mem (b e : Nat) (s : State) : (setEnt b e s).mem = s.mem := rfl
@[simp] theorem setEnt_poison (b e : Nat) (s : State) : (setEnt b e s).poison = s.poison := rfl
@[simp] theorem setEnt_scratch (b e : Nat) (s : State) : (setEnt b e s).scratch = s.scratch := rfl
@[simp] theorem setEnt_pageBufs (b e : Nat) (s : State) : (setEnt b e s).pageBufs = s.pageBufs := rfl
@[simp] theorem setEnt_ceRows (b e : Nat) (s : State) : (setEnt b e s).ceRows = s.ceRows := rfl
@[simp] theorem setEnt_chanUe (b e : Nat) (s : State) : (setEnt b e s).chanUe = s.chanUe := rfl
@[simp] theorem setEnt_repairs (b e : Nat) (s : State) : (setEnt b e s).repairs = s.repairs := rfl
@[simp] theorem setEnt_chanCopy (b e : Nat) (s : State) : (setEnt b e s).chanCopy = s.chanCopy := rfl
@[simp] theorem setEnt_ddrChans (b e : Nat) (s : State) : (setEnt b e s).ddrChans = s.ddrChans := rfl
@[simp] theorem setEnt_ddrRate (b e : Nat) (s : State) : (setEnt b e s).ddrRate = s.ddrRate := rfl
@[simp] theorem setEnt_patrol (b e : Nat) (s : State) : (setEnt b e s).patrol = s.patrol := rfl
@[simp] theorem setEnt_patrolStart (b e : Nat) (s : State) : (setEnt b e s).patrolStart = s.patrolStart := rfl
@[simp] theorem setEnt_fills (b e : Nat) (s : State) : (setEnt b e s).fills = s.fills := rfl
@[simp] theorem setEnt_toEngineState (b e : Nat) (s : State) : (setEnt b e s).toEngineState = s.toEngineState := rfl
@[simp] theorem setEnt_toFabricState (b e : Nat) (s : State) : (setEnt b e s).toFabricState = s.toFabricState := rfl
@[simp] theorem setEnt_toPowerState (b e : Nat) (s : State) : (setEnt b e s).toPowerState = s.toPowerState := rfl
@[simp] theorem setEnt_toHostState (b e : Nat) (s : State) : (setEnt b e s).toHostState = s.toHostState := rfl

@[simp] theorem putObj_toCommonState (i : Nat) (o : Option Obj) (s : State) : (putObj i o s).toCommonState = s.toCommonState := rfl
@[simp] theorem putObj_toAirState (i : Nat) (o : Option Obj) (s : State) : (putObj i o s).toAirState = s.toAirState := rfl
@[simp] theorem putObj_toRadioState (i : Nat) (o : Option Obj) (s : State) : (putObj i o s).toRadioState = s.toRadioState := rfl
@[simp] theorem putObj_toFrontState (i : Nat) (o : Option Obj) (s : State) : (putObj i o s).toFrontState = s.toFrontState := rfl
@[simp] theorem putObj_toFaultState (i : Nat) (o : Option Obj) (s : State) : (putObj i o s).toFaultState = s.toFaultState := rfl
@[simp] theorem putObj_bmap (i : Nat) (o : Option Obj) (s : State) : (putObj i o s).bmap = s.bmap := rfl
@[simp] theorem putObj_shadows (i : Nat) (o : Option Obj) (s : State) : (putObj i o s).shadows = s.shadows := rfl
@[simp] theorem putObj_migQueue (i : Nat) (o : Option Obj) (s : State) : (putObj i o s).migQueue = s.migQueue := rfl
@[simp] theorem putObj_migs (i : Nat) (o : Option Obj) (s : State) : (putObj i o s).migs = s.migs := rfl
@[simp] theorem putObj_objResv (i : Nat) (o : Option Obj) (s : State) : (putObj i o s).objResv = s.objResv := rfl
@[simp] theorem putObj_ctxResv (i : Nat) (o : Option Obj) (s : State) : (putObj i o s).ctxResv = s.ctxResv := rfl
@[simp] theorem putObj_ageRun (i : Nat) (o : Option Obj) (s : State) : (putObj i o s).ageRun = s.ageRun := rfl
@[simp] theorem putObj_freeing (i : Nat) (o : Option Obj) (s : State) : (putObj i o s).freeing = s.freeing := rfl
@[simp] theorem putObj_mem (i : Nat) (o : Option Obj) (s : State) : (putObj i o s).mem = s.mem := rfl
@[simp] theorem putObj_poison (i : Nat) (o : Option Obj) (s : State) : (putObj i o s).poison = s.poison := rfl
@[simp] theorem putObj_scratch (i : Nat) (o : Option Obj) (s : State) : (putObj i o s).scratch = s.scratch := rfl
@[simp] theorem putObj_pageBufs (i : Nat) (o : Option Obj) (s : State) : (putObj i o s).pageBufs = s.pageBufs := rfl
@[simp] theorem putObj_ceRows (i : Nat) (o : Option Obj) (s : State) : (putObj i o s).ceRows = s.ceRows := rfl
@[simp] theorem putObj_chanUe (i : Nat) (o : Option Obj) (s : State) : (putObj i o s).chanUe = s.chanUe := rfl
@[simp] theorem putObj_repairs (i : Nat) (o : Option Obj) (s : State) : (putObj i o s).repairs = s.repairs := rfl
@[simp] theorem putObj_chanCopy (i : Nat) (o : Option Obj) (s : State) : (putObj i o s).chanCopy = s.chanCopy := rfl
@[simp] theorem putObj_ddrChans (i : Nat) (o : Option Obj) (s : State) : (putObj i o s).ddrChans = s.ddrChans := rfl
@[simp] theorem putObj_ddrRate (i : Nat) (o : Option Obj) (s : State) : (putObj i o s).ddrRate = s.ddrRate := rfl
@[simp] theorem putObj_patrol (i : Nat) (o : Option Obj) (s : State) : (putObj i o s).patrol = s.patrol := rfl
@[simp] theorem putObj_patrolStart (i : Nat) (o : Option Obj) (s : State) : (putObj i o s).patrolStart = s.patrolStart := rfl
@[simp] theorem putObj_fills (i : Nat) (o : Option Obj) (s : State) : (putObj i o s).fills = s.fills := rfl
@[simp] theorem putObj_toEngineState (i : Nat) (o : Option Obj) (s : State) : (putObj i o s).toEngineState = s.toEngineState := rfl
@[simp] theorem putObj_toFabricState (i : Nat) (o : Option Obj) (s : State) : (putObj i o s).toFabricState = s.toFabricState := rfl
@[simp] theorem putObj_toPowerState (i : Nat) (o : Option Obj) (s : State) : (putObj i o s).toPowerState = s.toPowerState := rfl
@[simp] theorem putObj_toHostState (i : Nat) (o : Option Obj) (s : State) : (putObj i o s).toHostState = s.toHostState := rfl

@[simp] theorem markLine_toCommonState (m : Nat) (v : Bool) (s : State) : (markLine m v s).toCommonState = s.toCommonState := rfl
@[simp] theorem markLine_toAirState (m : Nat) (v : Bool) (s : State) : (markLine m v s).toAirState = s.toAirState := rfl
@[simp] theorem markLine_toRadioState (m : Nat) (v : Bool) (s : State) : (markLine m v s).toRadioState = s.toRadioState := rfl
@[simp] theorem markLine_toFrontState (m : Nat) (v : Bool) (s : State) : (markLine m v s).toFrontState = s.toFrontState := rfl
@[simp] theorem markLine_toFaultState (m : Nat) (v : Bool) (s : State) : (markLine m v s).toFaultState = s.toFaultState := rfl
@[simp] theorem markLine_bmap (m : Nat) (v : Bool) (s : State) : (markLine m v s).bmap = s.bmap := rfl
@[simp] theorem markLine_objs (m : Nat) (v : Bool) (s : State) : (markLine m v s).objs = s.objs := rfl
@[simp] theorem markLine_shadows (m : Nat) (v : Bool) (s : State) : (markLine m v s).shadows = s.shadows := rfl
@[simp] theorem markLine_migQueue (m : Nat) (v : Bool) (s : State) : (markLine m v s).migQueue = s.migQueue := rfl
@[simp] theorem markLine_migs (m : Nat) (v : Bool) (s : State) : (markLine m v s).migs = s.migs := rfl
@[simp] theorem markLine_objResv (m : Nat) (v : Bool) (s : State) : (markLine m v s).objResv = s.objResv := rfl
@[simp] theorem markLine_ctxResv (m : Nat) (v : Bool) (s : State) : (markLine m v s).ctxResv = s.ctxResv := rfl
@[simp] theorem markLine_ageRun (m : Nat) (v : Bool) (s : State) : (markLine m v s).ageRun = s.ageRun := rfl
@[simp] theorem markLine_freeing (m : Nat) (v : Bool) (s : State) : (markLine m v s).freeing = s.freeing := rfl
@[simp] theorem markLine_mem (m : Nat) (v : Bool) (s : State) : (markLine m v s).mem = s.mem := rfl
@[simp] theorem markLine_scratch (m : Nat) (v : Bool) (s : State) : (markLine m v s).scratch = s.scratch := rfl
@[simp] theorem markLine_pageBufs (m : Nat) (v : Bool) (s : State) : (markLine m v s).pageBufs = s.pageBufs := rfl
@[simp] theorem markLine_ceRows (m : Nat) (v : Bool) (s : State) : (markLine m v s).ceRows = s.ceRows := rfl
@[simp] theorem markLine_chanUe (m : Nat) (v : Bool) (s : State) : (markLine m v s).chanUe = s.chanUe := rfl
@[simp] theorem markLine_repairs (m : Nat) (v : Bool) (s : State) : (markLine m v s).repairs = s.repairs := rfl
@[simp] theorem markLine_chanCopy (m : Nat) (v : Bool) (s : State) : (markLine m v s).chanCopy = s.chanCopy := rfl
@[simp] theorem markLine_ddrChans (m : Nat) (v : Bool) (s : State) : (markLine m v s).ddrChans = s.ddrChans := rfl
@[simp] theorem markLine_ddrRate (m : Nat) (v : Bool) (s : State) : (markLine m v s).ddrRate = s.ddrRate := rfl
@[simp] theorem markLine_patrol (m : Nat) (v : Bool) (s : State) : (markLine m v s).patrol = s.patrol := rfl
@[simp] theorem markLine_patrolStart (m : Nat) (v : Bool) (s : State) : (markLine m v s).patrolStart = s.patrolStart := rfl
@[simp] theorem markLine_fills (m : Nat) (v : Bool) (s : State) : (markLine m v s).fills = s.fills := rfl
@[simp] theorem markLine_toEngineState (m : Nat) (v : Bool) (s : State) : (markLine m v s).toEngineState = s.toEngineState := rfl
@[simp] theorem markLine_toFabricState (m : Nat) (v : Bool) (s : State) : (markLine m v s).toFabricState = s.toFabricState := rfl
@[simp] theorem markLine_toPowerState (m : Nat) (v : Bool) (s : State) : (markLine m v s).toPowerState = s.toPowerState := rfl
@[simp] theorem markLine_toHostState (m : Nat) (v : Bool) (s : State) : (markLine m v s).toHostState = s.toHostState := rfl

@[simp] theorem sendMgmt_toCommonState (m : MgmtMsg) (s : State) : (sendMgmt m s).toCommonState = s.toCommonState := rfl
@[simp] theorem sendMgmt_toAirState (m : MgmtMsg) (s : State) : (sendMgmt m s).toAirState = s.toAirState := rfl
@[simp] theorem sendMgmt_toRadioState (m : MgmtMsg) (s : State) : (sendMgmt m s).toRadioState = s.toRadioState := rfl
@[simp] theorem sendMgmt_toFrontState (m : MgmtMsg) (s : State) : (sendMgmt m s).toFrontState = s.toFrontState := rfl
@[simp] theorem sendMgmt_toFaultState (m : MgmtMsg) (s : State) : (sendMgmt m s).toFaultState = s.toFaultState := rfl
@[simp] theorem sendMgmt_toMemState (m : MgmtMsg) (s : State) : (sendMgmt m s).toMemState = s.toMemState := rfl
@[simp] theorem sendMgmt_toEngineState (m : MgmtMsg) (s : State) : (sendMgmt m s).toEngineState = s.toEngineState := rfl
@[simp] theorem sendMgmt_toFabricState (m : MgmtMsg) (s : State) : (sendMgmt m s).toFabricState = s.toFabricState := rfl
@[simp] theorem sendMgmt_toPowerState (m : MgmtMsg) (s : State) : (sendMgmt m s).toPowerState = s.toPowerState := rfl
@[simp] theorem sendMgmt_bar2 (m : MgmtMsg) (s : State) : (sendMgmt m s).bar2 = s.bar2 := rfl
@[simp] theorem sendMgmt_seals (m : MgmtMsg) (s : State) : (sendMgmt m s).seals = s.seals := rfl
@[simp] theorem sendMgmt_accepts (m : MgmtMsg) (s : State) : (sendMgmt m s).accepts = s.accepts := rfl
@[simp] theorem sendMgmt_insecure (m : MgmtMsg) (s : State) : (sendMgmt m s).insecure = s.insecure := rfl
@[simp] theorem sendMgmt_spdm (m : MgmtMsg) (s : State) : (sendMgmt m s).spdm = s.spdm := rfl
@[simp] theorem sendMgmt_evtRecv (m : MgmtMsg) (s : State) : (sendMgmt m s).evtRecv = s.evtRecv := rfl
@[simp] theorem sendMgmt_sens (m : MgmtMsg) (s : State) : (sendMgmt m s).sens = s.sens := rfl
@[simp] theorem sendMgmt_upd (m : MgmtMsg) (s : State) : (sendMgmt m s).upd = s.upd := rfl
@[simp] theorem sendMgmt_flash (m : MgmtMsg) (s : State) : (sendMgmt m s).flash = s.flash := rfl
@[simp] theorem sendMgmt_stage (m : MgmtMsg) (s : State) : (sendMgmt m s).stage = s.stage := rfl
@[simp] theorem sendMgmt_fuseRetired (m : MgmtMsg) (s : State) : (sendMgmt m s).fuseRetired = s.fuseRetired := rfl
@[simp] theorem sendMgmt_hdrDig (m : MgmtMsg) (s : State) : (sendMgmt m s).hdrDig = s.hdrDig := rfl
@[simp] theorem sendMgmt_bodyDig (m : MgmtMsg) (s : State) : (sendMgmt m s).bodyDig = s.bodyDig := rfl
@[simp] theorem sendMgmt_runSvn (m : MgmtMsg) (s : State) : (sendMgmt m s).runSvn = s.runSvn := rfl
@[simp] theorem sendMgmt_perst (m : MgmtMsg) (s : State) : (sendMgmt m s).perst = s.perst := rfl
@[simp] theorem sendMgmt_vin (m : MgmtMsg) (s : State) : (sendMgmt m s).vin = s.vin := rfl
@[simp] theorem sendMgmt_vio (m : MgmtMsg) (s : State) : (sendMgmt m s).vio = s.vio := rfl
@[simp] theorem sendMgmt_perstAt (m : MgmtMsg) (s : State) : (sendMgmt m s).perstAt = s.perstAt := rfl
@[simp] theorem sendMgmt_bootDone (m : MgmtMsg) (s : State) : (sendMgmt m s).bootDone = s.bootDone := rfl
@[simp] theorem sendMgmt_supAt (m : MgmtMsg) (s : State) : (sendMgmt m s).supAt = s.supAt := rfl
@[simp] theorem sendMgmt_tapIr (m : MgmtMsg) (s : State) : (sendMgmt m s).tapIr = s.tapIr := rfl
@[simp] theorem sendMgmt_tapOut (m : MgmtMsg) (s : State) : (sendMgmt m s).tapOut = s.tapOut := rfl
@[simp] theorem sendMgmt_bsr (m : MgmtMsg) (s : State) : (sendMgmt m s).bsr = s.bsr := rfl

@[simp] theorem setSpdm_toCommonState (via : Nat) (x : Spdm) (s : State) : (setSpdm via x s).toCommonState = s.toCommonState := rfl
@[simp] theorem setSpdm_toAirState (via : Nat) (x : Spdm) (s : State) : (setSpdm via x s).toAirState = s.toAirState := rfl
@[simp] theorem setSpdm_toRadioState (via : Nat) (x : Spdm) (s : State) : (setSpdm via x s).toRadioState = s.toRadioState := rfl
@[simp] theorem setSpdm_toFrontState (via : Nat) (x : Spdm) (s : State) : (setSpdm via x s).toFrontState = s.toFrontState := rfl
@[simp] theorem setSpdm_toFaultState (via : Nat) (x : Spdm) (s : State) : (setSpdm via x s).toFaultState = s.toFaultState := rfl
@[simp] theorem setSpdm_toMemState (via : Nat) (x : Spdm) (s : State) : (setSpdm via x s).toMemState = s.toMemState := rfl
@[simp] theorem setSpdm_toEngineState (via : Nat) (x : Spdm) (s : State) : (setSpdm via x s).toEngineState = s.toEngineState := rfl
@[simp] theorem setSpdm_toFabricState (via : Nat) (x : Spdm) (s : State) : (setSpdm via x s).toFabricState = s.toFabricState := rfl
@[simp] theorem setSpdm_toPowerState (via : Nat) (x : Spdm) (s : State) : (setSpdm via x s).toPowerState = s.toPowerState := rfl
@[simp] theorem setSpdm_bar2 (via : Nat) (x : Spdm) (s : State) : (setSpdm via x s).bar2 = s.bar2 := rfl
@[simp] theorem setSpdm_seals (via : Nat) (x : Spdm) (s : State) : (setSpdm via x s).seals = s.seals := rfl
@[simp] theorem setSpdm_accepts (via : Nat) (x : Spdm) (s : State) : (setSpdm via x s).accepts = s.accepts := rfl
@[simp] theorem setSpdm_insecure (via : Nat) (x : Spdm) (s : State) : (setSpdm via x s).insecure = s.insecure := rfl
@[simp] theorem setSpdm_mgmtOut (via : Nat) (x : Spdm) (s : State) : (setSpdm via x s).mgmtOut = s.mgmtOut := rfl
@[simp] theorem setSpdm_evtRecv (via : Nat) (x : Spdm) (s : State) : (setSpdm via x s).evtRecv = s.evtRecv := rfl
@[simp] theorem setSpdm_sens (via : Nat) (x : Spdm) (s : State) : (setSpdm via x s).sens = s.sens := rfl
@[simp] theorem setSpdm_upd (via : Nat) (x : Spdm) (s : State) : (setSpdm via x s).upd = s.upd := rfl
@[simp] theorem setSpdm_flash (via : Nat) (x : Spdm) (s : State) : (setSpdm via x s).flash = s.flash := rfl
@[simp] theorem setSpdm_stage (via : Nat) (x : Spdm) (s : State) : (setSpdm via x s).stage = s.stage := rfl
@[simp] theorem setSpdm_fuseRetired (via : Nat) (x : Spdm) (s : State) : (setSpdm via x s).fuseRetired = s.fuseRetired := rfl
@[simp] theorem setSpdm_hdrDig (via : Nat) (x : Spdm) (s : State) : (setSpdm via x s).hdrDig = s.hdrDig := rfl
@[simp] theorem setSpdm_bodyDig (via : Nat) (x : Spdm) (s : State) : (setSpdm via x s).bodyDig = s.bodyDig := rfl
@[simp] theorem setSpdm_runSvn (via : Nat) (x : Spdm) (s : State) : (setSpdm via x s).runSvn = s.runSvn := rfl
@[simp] theorem setSpdm_perst (via : Nat) (x : Spdm) (s : State) : (setSpdm via x s).perst = s.perst := rfl
@[simp] theorem setSpdm_vin (via : Nat) (x : Spdm) (s : State) : (setSpdm via x s).vin = s.vin := rfl
@[simp] theorem setSpdm_vio (via : Nat) (x : Spdm) (s : State) : (setSpdm via x s).vio = s.vio := rfl
@[simp] theorem setSpdm_perstAt (via : Nat) (x : Spdm) (s : State) : (setSpdm via x s).perstAt = s.perstAt := rfl
@[simp] theorem setSpdm_bootDone (via : Nat) (x : Spdm) (s : State) : (setSpdm via x s).bootDone = s.bootDone := rfl
@[simp] theorem setSpdm_supAt (via : Nat) (x : Spdm) (s : State) : (setSpdm via x s).supAt = s.supAt := rfl
@[simp] theorem setSpdm_tapIr (via : Nat) (x : Spdm) (s : State) : (setSpdm via x s).tapIr = s.tapIr := rfl
@[simp] theorem setSpdm_tapOut (via : Nat) (x : Spdm) (s : State) : (setSpdm via x s).tapOut = s.tapOut := rfl
@[simp] theorem setSpdm_bsr (via : Nat) (x : Spdm) (s : State) : (setSpdm via x s).bsr = s.bsr := rfl

@[simp] theorem setF_pending (f : Fld) (v : Nat) (s : State) : (setF f v s).pending = s.pending := rfl
@[simp] theorem setF_now (f : Fld) (v : Nat) (s : State) : (setF f v s).now = s.now := rfl
@[simp] theorem setF_draws (f : Fld) (v : Nat) (s : State) : (setF f v s).draws = s.draws := rfl
@[simp] theorem setF_live (f : Fld) (v : Nat) (s : State) : (setF f v s).live = s.live := rfl
@[simp] theorem setF_latched (f : Fld) (v : Nat) (s : State) : (setF f v s).latched = s.latched := rfl
@[simp] theorem setF_satLive (f : Fld) (v : Nat) (s : State) : (setF f v s).satLive = s.satLive := rfl
@[simp] theorem setF_captured (f : Fld) (v : Nat) (s : State) : (setF f v s).captured = s.captured := rfl
@[simp] theorem setF_fns (f : Fld) (v : Nat) (s : State) : (setF f v s).fns = s.fns := rfl
@[simp] theorem setF_msix (f : Fld) (v : Nat) (s : State) : (setF f v s).msix = s.msix := rfl
@[simp] theorem setF_msgs (f : Fld) (v : Nat) (s : State) : (setF f v s).msgs = s.msgs := rfl
@[simp] theorem setF_hostMem (f : Fld) (v : Nat) (s : State) : (setF f v s).hostMem = s.hostMem := rfl
@[simp] theorem setF_toAirState (f : Fld) (v : Nat) (s : State) : (setF f v s).toAirState = s.toAirState := rfl
@[simp] theorem setF_toRadioState (f : Fld) (v : Nat) (s : State) : (setF f v s).toRadioState = s.toRadioState := rfl
@[simp] theorem setF_toFrontState (f : Fld) (v : Nat) (s : State) : (setF f v s).toFrontState = s.toFrontState := rfl
@[simp] theorem setF_toFaultState (f : Fld) (v : Nat) (s : State) : (setF f v s).toFaultState = s.toFaultState := rfl
@[simp] theorem setF_toMemState (f : Fld) (v : Nat) (s : State) : (setF f v s).toMemState = s.toMemState := rfl
@[simp] theorem setF_toEngineState (f : Fld) (v : Nat) (s : State) : (setF f v s).toEngineState = s.toEngineState := rfl
@[simp] theorem setF_toFabricState (f : Fld) (v : Nat) (s : State) : (setF f v s).toFabricState = s.toFabricState := rfl
@[simp] theorem setF_toPowerState (f : Fld) (v : Nat) (s : State) : (setF f v s).toPowerState = s.toPowerState := rfl
@[simp] theorem setF_toHostState (f : Fld) (v : Nat) (s : State) : (setF f v s).toHostState = s.toHostState := rfl

@[simp] theorem setFn_pending (f : Nat) (x : Func) (s : State) : (setFn f x s).pending = s.pending := rfl
@[simp] theorem setFn_now (f : Nat) (x : Func) (s : State) : (setFn f x s).now = s.now := rfl
@[simp] theorem setFn_draws (f : Nat) (x : Func) (s : State) : (setFn f x s).draws = s.draws := rfl
@[simp] theorem setFn_regs (f : Nat) (x : Func) (s : State) : (setFn f x s).regs = s.regs := rfl
@[simp] theorem setFn_live (f : Nat) (x : Func) (s : State) : (setFn f x s).live = s.live := rfl
@[simp] theorem setFn_latched (f : Nat) (x : Func) (s : State) : (setFn f x s).latched = s.latched := rfl
@[simp] theorem setFn_satLive (f : Nat) (x : Func) (s : State) : (setFn f x s).satLive = s.satLive := rfl
@[simp] theorem setFn_captured (f : Nat) (x : Func) (s : State) : (setFn f x s).captured = s.captured := rfl
@[simp] theorem setFn_msix (f : Nat) (x : Func) (s : State) : (setFn f x s).msix = s.msix := rfl
@[simp] theorem setFn_msgs (f : Nat) (x : Func) (s : State) : (setFn f x s).msgs = s.msgs := rfl
@[simp] theorem setFn_hostMem (f : Nat) (x : Func) (s : State) : (setFn f x s).hostMem = s.hostMem := rfl
@[simp] theorem setFn_toAirState (f : Nat) (x : Func) (s : State) : (setFn f x s).toAirState = s.toAirState := rfl
@[simp] theorem setFn_toRadioState (f : Nat) (x : Func) (s : State) : (setFn f x s).toRadioState = s.toRadioState := rfl
@[simp] theorem setFn_toFrontState (f : Nat) (x : Func) (s : State) : (setFn f x s).toFrontState = s.toFrontState := rfl
@[simp] theorem setFn_toFaultState (f : Nat) (x : Func) (s : State) : (setFn f x s).toFaultState = s.toFaultState := rfl
@[simp] theorem setFn_toMemState (f : Nat) (x : Func) (s : State) : (setFn f x s).toMemState = s.toMemState := rfl
@[simp] theorem setFn_toEngineState (f : Nat) (x : Func) (s : State) : (setFn f x s).toEngineState = s.toEngineState := rfl
@[simp] theorem setFn_toFabricState (f : Nat) (x : Func) (s : State) : (setFn f x s).toFabricState = s.toFabricState := rfl
@[simp] theorem setFn_toPowerState (f : Nat) (x : Func) (s : State) : (setFn f x s).toPowerState = s.toPowerState := rfl
@[simp] theorem setFn_toHostState (f : Nat) (x : Func) (s : State) : (setFn f x s).toHostState = s.toHostState := rfl

@[simp] theorem tally_pending (g : Nat) (f : Fld) (n : Nat) (s : State) : (tally g f n s).pending = s.pending := rfl
@[simp] theorem tally_now (g : Nat) (f : Fld) (n : Nat) (s : State) : (tally g f n s).now = s.now := rfl
@[simp] theorem tally_draws (g : Nat) (f : Fld) (n : Nat) (s : State) : (tally g f n s).draws = s.draws := rfl
@[simp] theorem tally_regs (g : Nat) (f : Fld) (n : Nat) (s : State) : (tally g f n s).regs = s.regs := rfl
@[simp] theorem tally_latched (g : Nat) (f : Fld) (n : Nat) (s : State) : (tally g f n s).latched = s.latched := rfl
@[simp] theorem tally_captured (g : Nat) (f : Fld) (n : Nat) (s : State) : (tally g f n s).captured = s.captured := rfl
@[simp] theorem tally_fns (g : Nat) (f : Fld) (n : Nat) (s : State) : (tally g f n s).fns = s.fns := rfl
@[simp] theorem tally_msix (g : Nat) (f : Fld) (n : Nat) (s : State) : (tally g f n s).msix = s.msix := rfl
@[simp] theorem tally_msgs (g : Nat) (f : Fld) (n : Nat) (s : State) : (tally g f n s).msgs = s.msgs := rfl
@[simp] theorem tally_hostMem (g : Nat) (f : Fld) (n : Nat) (s : State) : (tally g f n s).hostMem = s.hostMem := rfl
@[simp] theorem tally_toAirState (g : Nat) (f : Fld) (n : Nat) (s : State) : (tally g f n s).toAirState = s.toAirState := rfl
@[simp] theorem tally_toRadioState (g : Nat) (f : Fld) (n : Nat) (s : State) : (tally g f n s).toRadioState = s.toRadioState := rfl
@[simp] theorem tally_toFrontState (g : Nat) (f : Fld) (n : Nat) (s : State) : (tally g f n s).toFrontState = s.toFrontState := rfl
@[simp] theorem tally_toFaultState (g : Nat) (f : Fld) (n : Nat) (s : State) : (tally g f n s).toFaultState = s.toFaultState := rfl
@[simp] theorem tally_toMemState (g : Nat) (f : Fld) (n : Nat) (s : State) : (tally g f n s).toMemState = s.toMemState := rfl
@[simp] theorem tally_toEngineState (g : Nat) (f : Fld) (n : Nat) (s : State) : (tally g f n s).toEngineState = s.toEngineState := rfl
@[simp] theorem tally_toFabricState (g : Nat) (f : Fld) (n : Nat) (s : State) : (tally g f n s).toFabricState = s.toFabricState := rfl
@[simp] theorem tally_toPowerState (g : Nat) (f : Fld) (n : Nat) (s : State) : (tally g f n s).toPowerState = s.toPowerState := rfl
@[simp] theorem tally_toHostState (g : Nat) (f : Fld) (n : Nat) (s : State) : (tally g f n s).toHostState = s.toHostState := rfl

@[simp] theorem reserveCtx_toCommonState (p : Pkt) (s : State) : (reserveCtx p s).toCommonState = s.toCommonState := rfl
@[simp] theorem reserveCtx_toAirState (p : Pkt) (s : State) : (reserveCtx p s).toAirState = s.toAirState := rfl
@[simp] theorem reserveCtx_toRadioState (p : Pkt) (s : State) : (reserveCtx p s).toRadioState = s.toRadioState := rfl
@[simp] theorem reserveCtx_toFrontState (p : Pkt) (s : State) : (reserveCtx p s).toFrontState = s.toFrontState := rfl
@[simp] theorem reserveCtx_toFaultState (p : Pkt) (s : State) : (reserveCtx p s).toFaultState = s.toFaultState := rfl
@[simp] theorem reserveCtx_bmap (p : Pkt) (s : State) : (reserveCtx p s).bmap = s.bmap := rfl
@[simp] theorem reserveCtx_objs (p : Pkt) (s : State) : (reserveCtx p s).objs = s.objs := rfl
@[simp] theorem reserveCtx_shadows (p : Pkt) (s : State) : (reserveCtx p s).shadows = s.shadows := rfl
@[simp] theorem reserveCtx_migQueue (p : Pkt) (s : State) : (reserveCtx p s).migQueue = s.migQueue := rfl
@[simp] theorem reserveCtx_migs (p : Pkt) (s : State) : (reserveCtx p s).migs = s.migs := rfl
@[simp] theorem reserveCtx_objResv (p : Pkt) (s : State) : (reserveCtx p s).objResv = s.objResv := rfl
@[simp] theorem reserveCtx_ageRun (p : Pkt) (s : State) : (reserveCtx p s).ageRun = s.ageRun := rfl
@[simp] theorem reserveCtx_freeing (p : Pkt) (s : State) : (reserveCtx p s).freeing = s.freeing := rfl
@[simp] theorem reserveCtx_mem (p : Pkt) (s : State) : (reserveCtx p s).mem = s.mem := rfl
@[simp] theorem reserveCtx_poison (p : Pkt) (s : State) : (reserveCtx p s).poison = s.poison := rfl
@[simp] theorem reserveCtx_scratch (p : Pkt) (s : State) : (reserveCtx p s).scratch = s.scratch := rfl
@[simp] theorem reserveCtx_pageBufs (p : Pkt) (s : State) : (reserveCtx p s).pageBufs = s.pageBufs := rfl
@[simp] theorem reserveCtx_ceRows (p : Pkt) (s : State) : (reserveCtx p s).ceRows = s.ceRows := rfl
@[simp] theorem reserveCtx_chanUe (p : Pkt) (s : State) : (reserveCtx p s).chanUe = s.chanUe := rfl
@[simp] theorem reserveCtx_repairs (p : Pkt) (s : State) : (reserveCtx p s).repairs = s.repairs := rfl
@[simp] theorem reserveCtx_chanCopy (p : Pkt) (s : State) : (reserveCtx p s).chanCopy = s.chanCopy := rfl
@[simp] theorem reserveCtx_ddrChans (p : Pkt) (s : State) : (reserveCtx p s).ddrChans = s.ddrChans := rfl
@[simp] theorem reserveCtx_ddrRate (p : Pkt) (s : State) : (reserveCtx p s).ddrRate = s.ddrRate := rfl
@[simp] theorem reserveCtx_patrol (p : Pkt) (s : State) : (reserveCtx p s).patrol = s.patrol := rfl
@[simp] theorem reserveCtx_patrolStart (p : Pkt) (s : State) : (reserveCtx p s).patrolStart = s.patrolStart := rfl
@[simp] theorem reserveCtx_fills (p : Pkt) (s : State) : (reserveCtx p s).fills = s.fills := rfl
@[simp] theorem reserveCtx_toEngineState (p : Pkt) (s : State) : (reserveCtx p s).toEngineState = s.toEngineState := rfl
@[simp] theorem reserveCtx_toFabricState (p : Pkt) (s : State) : (reserveCtx p s).toFabricState = s.toFabricState := rfl
@[simp] theorem reserveCtx_toPowerState (p : Pkt) (s : State) : (reserveCtx p s).toPowerState = s.toPowerState := rfl
@[simp] theorem reserveCtx_toHostState (p : Pkt) (s : State) : (reserveCtx p s).toHostState = s.toHostState := rfl

@[simp] theorem writeBank_toCommonState (bank : Nat) (l : List Byte) (s : State) : (writeBank bank l s).toCommonState = s.toCommonState := rfl
@[simp] theorem writeBank_toAirState (bank : Nat) (l : List Byte) (s : State) : (writeBank bank l s).toAirState = s.toAirState := rfl
@[simp] theorem writeBank_toRadioState (bank : Nat) (l : List Byte) (s : State) : (writeBank bank l s).toRadioState = s.toRadioState := rfl
@[simp] theorem writeBank_toFrontState (bank : Nat) (l : List Byte) (s : State) : (writeBank bank l s).toFrontState = s.toFrontState := rfl
@[simp] theorem writeBank_toFaultState (bank : Nat) (l : List Byte) (s : State) : (writeBank bank l s).toFaultState = s.toFaultState := rfl
@[simp] theorem writeBank_toMemState (bank : Nat) (l : List Byte) (s : State) : (writeBank bank l s).toMemState = s.toMemState := rfl
@[simp] theorem writeBank_toEngineState (bank : Nat) (l : List Byte) (s : State) : (writeBank bank l s).toEngineState = s.toEngineState := rfl
@[simp] theorem writeBank_toFabricState (bank : Nat) (l : List Byte) (s : State) : (writeBank bank l s).toFabricState = s.toFabricState := rfl
@[simp] theorem writeBank_toPowerState (bank : Nat) (l : List Byte) (s : State) : (writeBank bank l s).toPowerState = s.toPowerState := rfl
@[simp] theorem writeBank_bar2 (bank : Nat) (l : List Byte) (s : State) : (writeBank bank l s).bar2 = s.bar2 := rfl
@[simp] theorem writeBank_seals (bank : Nat) (l : List Byte) (s : State) : (writeBank bank l s).seals = s.seals := rfl
@[simp] theorem writeBank_accepts (bank : Nat) (l : List Byte) (s : State) : (writeBank bank l s).accepts = s.accepts := rfl
@[simp] theorem writeBank_insecure (bank : Nat) (l : List Byte) (s : State) : (writeBank bank l s).insecure = s.insecure := rfl
@[simp] theorem writeBank_spdm (bank : Nat) (l : List Byte) (s : State) : (writeBank bank l s).spdm = s.spdm := rfl
@[simp] theorem writeBank_mgmtOut (bank : Nat) (l : List Byte) (s : State) : (writeBank bank l s).mgmtOut = s.mgmtOut := rfl
@[simp] theorem writeBank_evtRecv (bank : Nat) (l : List Byte) (s : State) : (writeBank bank l s).evtRecv = s.evtRecv := rfl
@[simp] theorem writeBank_sens (bank : Nat) (l : List Byte) (s : State) : (writeBank bank l s).sens = s.sens := rfl
@[simp] theorem writeBank_upd (bank : Nat) (l : List Byte) (s : State) : (writeBank bank l s).upd = s.upd := rfl
@[simp] theorem writeBank_stage (bank : Nat) (l : List Byte) (s : State) : (writeBank bank l s).stage = s.stage := rfl
@[simp] theorem writeBank_fuseRetired (bank : Nat) (l : List Byte) (s : State) : (writeBank bank l s).fuseRetired = s.fuseRetired := rfl
@[simp] theorem writeBank_hdrDig (bank : Nat) (l : List Byte) (s : State) : (writeBank bank l s).hdrDig = s.hdrDig := rfl
@[simp] theorem writeBank_bodyDig (bank : Nat) (l : List Byte) (s : State) : (writeBank bank l s).bodyDig = s.bodyDig := rfl
@[simp] theorem writeBank_runSvn (bank : Nat) (l : List Byte) (s : State) : (writeBank bank l s).runSvn = s.runSvn := rfl
@[simp] theorem writeBank_perst (bank : Nat) (l : List Byte) (s : State) : (writeBank bank l s).perst = s.perst := rfl
@[simp] theorem writeBank_vin (bank : Nat) (l : List Byte) (s : State) : (writeBank bank l s).vin = s.vin := rfl
@[simp] theorem writeBank_vio (bank : Nat) (l : List Byte) (s : State) : (writeBank bank l s).vio = s.vio := rfl
@[simp] theorem writeBank_perstAt (bank : Nat) (l : List Byte) (s : State) : (writeBank bank l s).perstAt = s.perstAt := rfl
@[simp] theorem writeBank_bootDone (bank : Nat) (l : List Byte) (s : State) : (writeBank bank l s).bootDone = s.bootDone := rfl
@[simp] theorem writeBank_supAt (bank : Nat) (l : List Byte) (s : State) : (writeBank bank l s).supAt = s.supAt := rfl
@[simp] theorem writeBank_tapIr (bank : Nat) (l : List Byte) (s : State) : (writeBank bank l s).tapIr = s.tapIr := rfl
@[simp] theorem writeBank_tapOut (bank : Nat) (l : List Byte) (s : State) : (writeBank bank l s).tapOut = s.tapOut := rfl
@[simp] theorem writeBank_bsr (bank : Nat) (l : List Byte) (s : State) : (writeBank bank l s).bsr = s.bsr := rfl

@[simp] theorem setSig_toCommonState (n : Nat) (c : SigCore) (s : State) : (setSig n c s).toCommonState = s.toCommonState := rfl
@[simp] theorem setSig_toAirState (n : Nat) (c : SigCore) (s : State) : (setSig n c s).toAirState = s.toAirState := rfl
@[simp] theorem setSig_toRadioState (n : Nat) (c : SigCore) (s : State) : (setSig n c s).toRadioState = s.toRadioState := rfl
@[simp] theorem setSig_toFrontState (n : Nat) (c : SigCore) (s : State) : (setSig n c s).toFrontState = s.toFrontState := rfl
@[simp] theorem setSig_histNext (n : Nat) (c : SigCore) (s : State) : (setSig n c s).histNext = s.histNext := rfl
@[simp] theorem setSig_mcRemoved (n : Nat) (c : SigCore) (s : State) : (setSig n c s).mcRemoved = s.mcRemoved := rfl
@[simp] theorem setSig_scRemoved (n : Nat) (c : SigCore) (s : State) : (setSig n c s).scRemoved = s.scRemoved := rfl
@[simp] theorem setSig_mcFaults (n : Nat) (c : SigCore) (s : State) : (setSig n c s).mcFaults = s.mcFaults := rfl
@[simp] theorem setSig_mcRetired (n : Nat) (c : SigCore) (s : State) : (setSig n c s).mcRetired = s.mcRetired := rfl
@[simp] theorem setSig_scRetired (n : Nat) (c : SigCore) (s : State) : (setSig n c s).scRetired = s.scRetired := rfl
@[simp] theorem setSig_laneRetired (n : Nat) (c : SigCore) (s : State) : (setSig n c s).laneRetired = s.laneRetired := rfl
@[simp] theorem setSig_mcRetiring (n : Nat) (c : SigCore) (s : State) : (setSig n c s).mcRetiring = s.mcRetiring := rfl
@[simp] theorem setSig_assayDue (n : Nat) (c : SigCore) (s : State) : (setSig n c s).assayDue = s.assayDue := rfl
@[simp] theorem setSig_spareCmd (n : Nat) (c : SigCore) (s : State) : (setSig n c s).spareCmd = s.spareCmd := rfl
@[simp] theorem setSig_radioAgain (n : Nat) (c : SigCore) (s : State) : (setSig n c s).radioAgain = s.radioAgain := rfl
@[simp] theorem setSig_assays (n : Nat) (c : SigCore) (s : State) : (setSig n c s).assays = s.assays := rfl
@[simp] theorem setSig_assayLast (n : Nat) (c : SigCore) (s : State) : (setSig n c s).assayLast = s.assayLast := rfl
@[simp] theorem setSig_assayIdx (n : Nat) (c : SigCore) (s : State) : (setSig n c s).assayIdx = s.assayIdx := rfl
@[simp] theorem setSig_assayCmd (n : Nat) (c : SigCore) (s : State) : (setSig n c s).assayCmd = s.assayCmd := rfl
@[simp] theorem setSig_laneMiss (n : Nat) (c : SigCore) (s : State) : (setSig n c s).laneMiss = s.laneMiss := rfl
@[simp] theorem setSig_beats (n : Nat) (c : SigCore) (s : State) : (setSig n c s).beats = s.beats := rfl
@[simp] theorem setSig_missed (n : Nat) (c : SigCore) (s : State) : (setSig n c s).missed = s.missed := rfl
@[simp] theorem setSig_wdogIdx (n : Nat) (c : SigCore) (s : State) : (setSig n c s).wdogIdx = s.wdogIdx := rfl
@[simp] theorem setSig_cpFor (n : Nat) (c : SigCore) (s : State) : (setSig n c s).cpFor = s.cpFor := rfl
@[simp] theorem setSig_msgRetry (n : Nat) (c : SigCore) (s : State) : (setSig n c s).msgRetry = s.msgRetry := rfl
@[simp] theorem setSig_deferred (n : Nat) (c : SigCore) (s : State) : (setSig n c s).deferred = s.deferred := rfl
@[simp] theorem setSig_chanRetired (n : Nat) (c : SigCore) (s : State) : (setSig n c s).chanRetired = s.chanRetired := rfl
@[simp] theorem setSig_injecting (n : Nat) (c : SigCore) (s : State) : (setSig n c s).injecting = s.injecting := rfl
@[simp] theorem setSig_resetAt (n : Nat) (c : SigCore) (s : State) : (setSig n c s).resetAt = s.resetAt := rfl
@[simp] theorem setSig_halted (n : Nat) (c : SigCore) (s : State) : (setSig n c s).halted = s.halted := rfl
@[simp] theorem setSig_inject (n : Nat) (c : SigCore) (s : State) : (setSig n c s).inject = s.inject := rfl
@[simp] theorem setSig_unitCause (n : Nat) (c : SigCore) (s : State) : (setSig n c s).unitCause = s.unitCause := rfl
@[simp] theorem setSig_sigFaults (n : Nat) (c : SigCore) (s : State) : (setSig n c s).sigFaults = s.sigFaults := rfl
@[simp] theorem setSig_fftOut (n : Nat) (c : SigCore) (s : State) : (setSig n c s).fftOut = s.fftOut := rfl
@[simp] theorem setSig_radioMem (n : Nat) (c : SigCore) (s : State) : (setSig n c s).radioMem = s.radioMem := rfl
@[simp] theorem setSig_toMemState (n : Nat) (c : SigCore) (s : State) : (setSig n c s).toMemState = s.toMemState := rfl
@[simp] theorem setSig_toEngineState (n : Nat) (c : SigCore) (s : State) : (setSig n c s).toEngineState = s.toEngineState := rfl
@[simp] theorem setSig_toFabricState (n : Nat) (c : SigCore) (s : State) : (setSig n c s).toFabricState = s.toFabricState := rfl
@[simp] theorem setSig_toPowerState (n : Nat) (c : SigCore) (s : State) : (setSig n c s).toPowerState = s.toPowerState := rfl
@[simp] theorem setSig_toHostState (n : Nat) (c : SigCore) (s : State) : (setSig n c s).toHostState = s.toHostState := rfl

@[simp] theorem modJob_toCommonState (c slot : Nat) (ul : Bool) (f : Job → Job) (s : State) : (modJob c slot ul f s).toCommonState = s.toCommonState := rfl
@[simp] theorem modJob_toAirState (c slot : Nat) (ul : Bool) (f : Job → Job) (s : State) : (modJob c slot ul f s).toAirState = s.toAirState := rfl
@[simp] theorem modJob_cells (c slot : Nat) (ul : Bool) (f : Job → Job) (s : State) : (modJob c slot ul f s).cells = s.cells := rfl
@[simp] theorem modJob_windows (c slot : Nat) (ul : Bool) (f : Job → Job) (s : State) : (modJob c slot ul f s).windows = s.windows := rfl
@[simp] theorem modJob_leases (c slot : Nat) (ul : Bool) (f : Job → Job) (s : State) : (modJob c slot ul f s).leases = s.leases := rfl
@[simp] theorem modJob_accepted (c slot : Nat) (ul : Bool) (f : Job → Job) (s : State) : (modJob c slot ul f s).accepted = s.accepted := rfl
@[simp] theorem modJob_timed (c slot : Nat) (ul : Bool) (f : Job → Job) (s : State) : (modJob c slot ul f s).timed = s.timed := rfl
@[simp] theorem modJob_begun (c slot : Nat) (ul : Bool) (f : Job → Job) (s : State) : (modJob c slot ul f s).begun = s.begun := rfl
@[simp] theorem modJob_quiesced (c slot : Nat) (ul : Bool) (f : Job → Job) (s : State) : (modJob c slot ul f s).quiesced = s.quiesced := rfl
@[simp] theorem modJob_quiesce (c slot : Nat) (ul : Bool) (f : Job → Job) (s : State) : (modJob c slot ul f s).quiesce = s.quiesce := rfl
@[simp] theorem modJob_resv (c slot : Nat) (ul : Bool) (f : Job → Job) (s : State) : (modJob c slot ul f s).resv = s.resv := rfl
@[simp] theorem modJob_tallyRem (c slot : Nat) (ul : Bool) (f : Job → Job) (s : State) : (modJob c slot ul f s).tallyRem = s.tallyRem := rfl
@[simp] theorem modJob_soft (c slot : Nat) (ul : Bool) (f : Job → Job) (s : State) : (modJob c slot ul f s).soft = s.soft := rfl
@[simp] theorem modJob_code (c slot : Nat) (ul : Bool) (f : Job → Job) (s : State) : (modJob c slot ul f s).code = s.code := rfl
@[simp] theorem modJob_laneFaults (c slot : Nat) (ul : Bool) (f : Job → Job) (s : State) : (modJob c slot ul f s).laneFaults = s.laneFaults := rfl
@[simp] theorem modJob_stacksOut (c slot : Nat) (ul : Bool) (f : Job → Job) (s : State) : (modJob c slot ul f s).stacksOut = s.stacksOut := rfl
@[simp] theorem modJob_ledger (c slot : Nat) (ul : Bool) (f : Job → Job) (s : State) : (modJob c slot ul f s).ledger = s.ledger := rfl
@[simp] theorem modJob_toFrontState (c slot : Nat) (ul : Bool) (f : Job → Job) (s : State) : (modJob c slot ul f s).toFrontState = s.toFrontState := rfl
@[simp] theorem modJob_toFaultState (c slot : Nat) (ul : Bool) (f : Job → Job) (s : State) : (modJob c slot ul f s).toFaultState = s.toFaultState := rfl
@[simp] theorem modJob_toMemState (c slot : Nat) (ul : Bool) (f : Job → Job) (s : State) : (modJob c slot ul f s).toMemState = s.toMemState := rfl
@[simp] theorem modJob_toEngineState (c slot : Nat) (ul : Bool) (f : Job → Job) (s : State) : (modJob c slot ul f s).toEngineState = s.toEngineState := rfl
@[simp] theorem modJob_toFabricState (c slot : Nat) (ul : Bool) (f : Job → Job) (s : State) : (modJob c slot ul f s).toFabricState = s.toFabricState := rfl
@[simp] theorem modJob_toPowerState (c slot : Nat) (ul : Bool) (f : Job → Job) (s : State) : (modJob c slot ul f s).toPowerState = s.toPowerState := rfl
@[simp] theorem modJob_toHostState (c slot : Nat) (ul : Bool) (f : Job → Job) (s : State) : (modJob c slot ul f s).toHostState = s.toHostState := rfl

end Sys2Proof.Machine
end

