-- ==== Sys2Proof/Laws/Store.lean ====
section
/-! SUPPORT. The ordered stores and the byte memories: a read after a write, and the canonical form that every write keeps. -/

namespace Sys2Proof.Machine

variable {β : Type}

/-! ### Reads after writes -/

@[simp] theorem lookup_nil (k : Nat) : lookup k ([] : List (Nat × β)) = none := rfl

theorem lookup_cons (k j : Nat) (y : β) (r : List (Nat × β)) : lookup k ((j, y) :: r) = if j = k then some y else lookup k r := rfl

theorem lookup_del_same (k : Nat) (m : List (Nat × β)) : lookup k (del k m) = none := by
  induction m with
  | nil => rfl
  | cons p r ih =>
    obtain ⟨j, y⟩ := p
    by_cases h : j = k <;> simp [del, lookup, h, ih]

theorem lookup_del_ne {k j : Nat} (m : List (Nat × β)) (h : j ≠ k) : lookup j (del k m) = lookup j m := by
  induction m with
  | nil => rfl
  | cons p r ih =>
    obtain ⟨i, y⟩ := p
    by_cases hi : i = k
    · subst hi; simp [del, lookup, ih, Ne.symm h]
    · simp only [del, hi, if_false, lookup, ih]

theorem lookup_ins_same (k : Nat) (x : β) (m : List (Nat × β)) (h : lookup k m = none) : lookup k (ins k x m) = some x := by
  induction m with
  | nil => simp [ins, lookup]
  | cons p r ih =>
    obtain ⟨j, y⟩ := p
    by_cases hj : j = k
    · simp [lookup, hj] at h
    · by_cases hl : k < j
      · simp [ins, lookup, hl]
      · simp only [lookup, hj, if_false] at h
        simp [ins, lookup, hl, hj, ih h]

theorem lookup_ins_ne {k j : Nat} (x : β) (m : List (Nat × β)) (h : j ≠ k) : lookup j (ins k x m) = lookup j m := by
  induction m with
  | nil => simp [ins, lookup, Ne.symm h]
  | cons p r ih =>
    obtain ⟨i, y⟩ := p
    by_cases hl : k < i
    · simp [ins, lookup, hl, Ne.symm h]
    · simp only [ins, hl, if_false, lookup, ih]

@[simp] theorem lookup_put_same (k : Nat) (v : Option β) (m : List (Nat × β)) : lookup k (put k v m) = v := by
  cases v with
  | none => exact lookup_del_same k m
  | some x => exact lookup_ins_same k x _ (lookup_del_same k m)

theorem lookup_put_ne {k j : Nat} (v : Option β) (m : List (Nat × β)) (h : j ≠ k) : lookup j (put k v m) = lookup j m := by
  cases v with
  | none => exact lookup_del_ne m h
  | some x => exact (lookup_ins_ne x _ h).trans (lookup_del_ne m h)

@[simp] theorem look_put_same (d : β) (k : Nat) (v : Option β) (m : List (Nat × β)) : look d k (put k v m) = v.getD d := by
  simp [look]

theorem look_put_ne (d : β) {k j : Nat} (v : Option β) (m : List (Nat × β)) (h : j ≠ k) : look d j (put k v m) = look d j m := by
  simp [look, lookup_put_ne v m h]

/-! ### The canonical form -/

theorem rising_cons (a : Nat) (x : β) (m : List (Nat × β)) :
    rising ((a, x) :: m) = true ↔ (∀ p ∈ m, a < p.1) ∧ rising m = true := by
  induction m generalizing a x with
  | nil => simp [rising]
  | cons q r ih =>
    obtain ⟨b, y⟩ := q
    have h := ih b y
    simp only [rising, Bool.and_eq_true, decide_eq_true_eq, List.mem_cons, forall_eq_or_imp]
    constructor
    · rintro ⟨hab, hr⟩
      exact ⟨⟨hab, fun p hp => lt_trans hab ((h.mp hr).1 p hp)⟩, hr⟩
    · rintro ⟨⟨hab, _⟩, hr⟩
      exact ⟨hab, hr⟩

theorem mem_del {k : Nat} {m : List (Nat × β)} {p : Nat × β} (h : p ∈ del k m) : p ∈ m := by
  induction m with
  | nil => simp [del] at h
  | cons q r ih =>
    obtain ⟨j, y⟩ := q
    by_cases hj : j = k
    · simp only [del, hj, if_true] at h; exact List.mem_cons_of_mem _ (ih h)
    · simp only [del, hj, if_false, List.mem_cons] at h
      rcases h with h | h
      · simp [h]
      · exact List.mem_cons_of_mem _ (ih h)

theorem mem_ins {k : Nat} {x : β} {m : List (Nat × β)} {p : Nat × β} (h : p ∈ ins k x m) : p = (k, x) ∨ p ∈ m := by
  induction m with
  | nil => simpa [ins] using h
  | cons q r ih =>
    obtain ⟨j, y⟩ := q
    by_cases hl : k < j
    · simpa [ins, hl] using h
    · simp only [ins, hl, if_false, List.mem_cons] at h
      rcases h with h | h
      · simp [h]
      · rcases ih h with h | h
        · exact .inl h
        · exact .inr (List.mem_cons_of_mem _ h)

theorem rising_del (k : Nat) (m : List (Nat × β)) (h : rising m = true) : rising (del k m) = true := by
  induction m with
  | nil => rfl
  | cons q r ih =>
    obtain ⟨j, y⟩ := q
    rw [rising_cons] at h
    by_cases hj : j = k
    · simp only [del, hj, if_true]; exact ih h.2
    · simp only [del, hj, if_false]
      rw [rising_cons]
      exact ⟨fun p hp => h.1 p (mem_del hp), ih h.2⟩

theorem key_del_ne {k : Nat} {m : List (Nat × β)} {p : Nat × β} (h : p ∈ del k m) : p.1 ≠ k := by
  induction m with
  | nil => simp [del] at h
  | cons q r ih =>
    obtain ⟨j, y⟩ := q
    by_cases hj : j = k
    · simp only [del, hj, if_true] at h; exact ih h
    · simp only [del, hj, if_false, List.mem_cons] at h
      rcases h with h | h
      · simpa [h] using hj
      · exact ih h

theorem rising_ins (k : Nat) (x : β) (m : List (Nat × β)) (h : rising m = true) (hk : ∀ p ∈ m, p.1 ≠ k) : rising (ins k x m) = true := by
  induction m with
  | nil => rfl
  | cons q r ih =>
    obtain ⟨j, y⟩ := q
    have hj : j ≠ k := hk (j, y) (List.mem_cons_self ..)
    have h' := (rising_cons j y r).mp h
    by_cases hl : k < j
    · simp only [ins, hl, if_true]
      rw [rising_cons]
      refine ⟨fun p hp => ?_, h⟩
      rcases List.mem_cons.mp hp with hp | hp
      · simpa [hp] using hl
      · exact lt_trans hl (h'.1 p hp)
    · simp only [ins, hl, if_false]
      rw [rising_cons]
      refine ⟨fun p hp => ?_, ih h'.2 (fun p hp => hk p (List.mem_cons_of_mem _ hp))⟩
      rcases mem_ins hp with hp | hp
      · simp only [hp]; omega
      · exact h'.1 p hp

/-- Giving a key a value keeps the keys strictly rising. -/
theorem rising_put (k : Nat) (v : Option β) (m : List (Nat × β)) (h : rising m = true) : rising (put k v m) = true := by
  cases v with
  | none => exact rising_del k m h
  | some x => exact rising_ins k x _ (rising_del k m h) (fun _ hp => key_del_ne hp)

theorem rising_filter (f : Nat × β → Bool) (m : List (Nat × β)) (h : rising m = true) : rising (m.filter f) = true := by
  induction m with
  | nil => rfl
  | cons q r ih =>
    obtain ⟨j, y⟩ := q
    rw [rising_cons] at h
    by_cases hf : f (j, y) = true
    · rw [List.filter_cons_of_pos hf, rising_cons]
      exact ⟨fun p hp => h.1 p (List.mem_of_mem_filter hp), ih h.2⟩
    · rw [List.filter_cons_of_neg hf]; exact ih h.2

/-! ### Byte memories -/

theorem Memory.wf_iff (m : Memory) : Memory.wf m = true ↔ rising m = true ∧ ∀ p ∈ m, p.2 ≠ 0 := by
  simp [Memory.wf]

@[simp] theorem Memory.wf_nil : Memory.wf [] = true := rfl

/-- Writing a byte keeps the canonical form. -/
theorem wf_writeByte (a : Nat) (b : Byte) (m : Memory) (h : Memory.wf m = true) : Memory.wf (writeByte a b m) = true := by
  rw [Memory.wf_iff] at h ⊢
  refine ⟨rising_put _ _ _ h.1, fun p hp => ?_⟩
  by_cases hb : b = 0
  · simp only [writeByte, hb, if_true, put] at hp
    exact h.2 p (mem_del hp)
  · simp only [writeByte, hb, if_false, put] at hp
    rcases mem_ins hp with hp | hp
    · simpa [hp] using hb
    · exact h.2 p (mem_del hp)

/-- Writing bytes keeps the canonical form. -/
theorem wf_writeBytes (a : Nat) (l : List Byte) (m : Memory) (h : Memory.wf m = true) : Memory.wf (writeBytes a l m) = true := by
  induction l generalizing a m with
  | nil => exact h
  | cons b r ih => exact ih (a + 1) _ (wf_writeByte a b m h)

/-- Leaving out cells keeps the canonical form. -/
theorem wf_filter (f : Nat × Byte → Bool) (m : Memory) (h : Memory.wf m = true) : Memory.wf (m.filter f) = true := by
  rw [Memory.wf_iff] at h ⊢
  exact ⟨rising_filter f m h.1, fun p hp => h.2 p (List.mem_of_mem_filter hp)⟩

theorem wf_fillZero (a n : Nat) (m : Memory) (h : Memory.wf m = true) : Memory.wf (fillZero a n m) = true := wf_filter _ m h

@[simp] theorem readByte_writeByte_same (a : Nat) (b : Byte) (m : Memory) : readByte (writeByte a b m) a = b := by
  by_cases h : b = 0
  · simp [readByte, writeByte, h]
  · simp only [readByte, writeByte, h, if_false, look_put_same, Option.getD_some]

theorem readByte_writeByte_ne {a c : Nat} (b : Byte) (m : Memory) (h : c ≠ a) : readByte (writeByte a b m) c = readByte m c :=
  look_put_ne 0 _ m h

/-- A byte outside a range that is written reads as before. -/
theorem readByte_writeBytes_out (a c : Nat) (l : List Byte) (m : Memory) (h : c < a ∨ a + l.length ≤ c) :
    readByte (writeBytes a l m) c = readByte m c := by
  induction l generalizing a m with
  | nil => rfl
  | cons b r ih =>
    simp only [List.length_cons] at h
    rw [writeBytes, ih (a + 1) _ (by omega), readByte_writeByte_ne b m (by omega)]

/-- A byte of a range that is written reads as the byte written there. -/
theorem readByte_writeBytes_in (a i : Nat) (l : List Byte) (m : Memory) (h : i < l.length) :
    readByte (writeBytes a l m) (a + i) = l[i] := by
  induction l generalizing a m i with
  | nil => simp at h
  | cons b r ih =>
    rw [writeBytes]
    cases i with
    | zero =>
      rw [readByte_writeBytes_out _ _ _ _ (by omega)]
      simp
    | succ j =>
      have := ih (a + 1) j (writeByte a b m) (by simpa using h)
      simpa [Nat.add_assoc, Nat.add_comm 1 j] using this

@[simp] theorem readBytes_length (m : Memory) (a n : Nat) : (readBytes m a n).length = n := by
  induction n generalizing a with
  | zero => rfl
  | succ k ih => simp [readBytes, ih]

/-- Bytes outside a range that is written read as before. -/
theorem readBytes_writeBytes_out (a c n : Nat) (l : List Byte) (m : Memory) (h : c + n ≤ a ∨ a + l.length ≤ c) :
    readBytes (writeBytes a l m) c n = readBytes m c n := by
  induction n generalizing c with
  | zero => rfl
  | succ k ih =>
    by_cases hl : l = []
    · subst hl; rfl
    · have : 0 < l.length := List.length_pos_of_ne_nil hl
      rw [readBytes, readBytes, ih (c + 1) (by omega), readByte_writeBytes_out a c l m (by omega)]

/-- A range that is written reads as what was written. -/
theorem readBytes_writeBytes_same (a : Nat) (l : List Byte) (m : Memory) : readBytes (writeBytes a l m) a l.length = l := by
  induction l generalizing a m with
  | nil => rfl
  | cons b r ih =>
    simp only [List.length_cons, readBytes, writeBytes]
    rw [ih (a + 1), readByte_writeBytes_out _ _ _ _ (by omega)]
    simp

/-- A byte of a range filled with zeros reads as zero. -/
theorem readByte_fillZero_in (a n c : Nat) (m : Memory) (h : a ≤ c ∧ c < a + n) : readByte (fillZero a n m) c = 0 := by
  have : lookup c (fillZero a n m) = none := by
    induction m with
    | nil => rfl
    | cons q r ih =>
      obtain ⟨j, y⟩ := q
      unfold fillZero at ih ⊢
      by_cases hj : a ≤ j ∧ j < a + n
      · simpa [hj.1, hj.2] using ih
      · have hne : j ≠ c := by rintro rfl; exact hj h
        have hf : (!(decide (a ≤ j) && decide (j < a + n))) = true := by simp; omega
        rw [List.filter_cons_of_pos (by simpa using hf), lookup_cons, if_neg hne]
        exact ih
  simp [readByte, look, this]

/-- A byte outside a range filled with zeros reads as before. -/
theorem readByte_fillZero_out (a n c : Nat) (m : Memory) (h : c < a ∨ a + n ≤ c) : readByte (fillZero a n m) c = readByte m c := by
  have : lookup c (fillZero a n m) = lookup c m := by
    induction m with
    | nil => rfl
    | cons q r ih =>
      obtain ⟨j, y⟩ := q
      unfold fillZero at ih ⊢
      by_cases hj : a ≤ j ∧ j < a + n
      · have hne : j ≠ c := by omega
        simpa [hj.1, hj.2, lookup_cons, hne] using ih
      · have hf : (!(decide (a ≤ j) && decide (j < a + n))) = true := by simp; omega
        rw [List.filter_cons_of_pos (by simpa using hf), lookup_cons, lookup_cons, ih]
  simp [readByte, look, this]

end Sys2Proof.Machine
end

