-- ==== Sys2Proof/Laws/Ops.lean ====
section
/-! SUPPORT. What the shared operations do: register fields, counters, vectors, writes to host memory, replies and the frame of
each. -/

namespace Sys2Proof.Machine

/-! ### Outcomes -/

theorem goesOn_eq (s t : State) : goesOn s t = .next { t with pending := s.pending } := rfl

/-- The queue after a meaning is the queue before it. -/
theorem goesOn_pending {s t u : State} (h : goesOn s t = .next u) : u.pending = s.pending := by
  cases h; rfl

/-! ### Register fields -/

theorem mod_two_pow_lt (v w : Nat) : v % 2 ^ w < 2 ^ w := Nat.mod_lt _ (Nat.two_pow_pos w)

/-- A field that is written reads as the value, cut to its width. -/
@[simp] theorem getF_setF_same (f : Fld) (v : Nat) (s : State) : getF f (setF f v s) = v % 2 ^ f.width := by
  unfold getF setF
  by_cases h : v % 2 ^ f.width = f.reset
  · simp [h]
  · simp only [h, if_false, look_put_same, Option.getD_some]

/-- Writing a field leaves every field of another place as it was. -/
theorem getF_setF_ne {f g : Fld} (v : Nat) (s : State) (h : g.key ≠ f.key) : getF g (setF f v s) = getF g s := by
  unfold getF setF
  exact look_put_ne _ _ _ h

theorem getF_congr {s t : State} (h : t.regs = s.regs) (f : Fld) : getF f t = getF f s := by
  unfold getF; rw [h]

@[simp] theorem getF_tally (f : Fld) (g : Nat) (c : Fld) (n : Nat) (s : State) : getF f (tally g c n s) = getF f s := rfl

@[simp] theorem getF_setFn (f : Fld) (k : Nat) (x : Func) (s : State) : getF f (setFn k x s) = getF f s := rfl

@[simp] theorem getF_putEng (f : Fld) (n : Nat) (x : Option EngSet) (s : State) : getF f (putEng n x s) = getF f s := rfl

theorem flagF_iff (f : Fld) (s : State) : flagF f s = true ↔ getF f s ≠ 0 := by
  simp [flagF]

/-- A counter counts, saturating at its width (R54). -/
theorem liveOf_tally_same (g : Nat) (f : Fld) (n : Nat) (s : State) :
    liveOf g f (tally g f n s) = min (2 ^ f.width - 1) (liveOf g f s + n) := by
  unfold liveOf tally
  simp only [look_put_same]
  split
  · rename_i h; exact h.symm
  · rfl

/-- Counting in one counter leaves every other counter as it was. -/
theorem liveOf_tally_ne {g h : Nat} {f e : Fld} (n : Nat) (s : State) (hk : tallyKey h e ≠ tallyKey g f) :
    liveOf h e (tally g f n s) = liveOf h e s := by
  unfold liveOf tally
  exact look_put_ne _ _ _ hk

/-! ### Vectors and error bits (R434, R435, R448) -/

/-- What raising a vector can change: the bus state of the functions, the messages sent, and registers and counters. -/
theorem raiseIn_frame (f v : Nat) (s : State) :
    (raiseIn f v s).toAirState = s.toAirState ∧ (raiseIn f v s).toRadioState = s.toRadioState ∧
    (raiseIn f v s).toFrontState = s.toFrontState ∧ (raiseIn f v s).toFaultState = s.toFaultState ∧
    (raiseIn f v s).toMemState = s.toMemState ∧ (raiseIn f v s).toEngineState = s.toEngineState ∧
    (raiseIn f v s).toFabricState = s.toFabricState ∧ (raiseIn f v s).toPowerState = s.toPowerState := by
  unfold raiseIn
  split
  · split <;> simp
  · simp [noMaster, hostErrBit]

end Sys2Proof.Machine
end

