-- ==== Sys2Proof/WellFormed.lean ====
section
/-! DEFINITION. Well-formed commands: operands that the wires, the fields of the formats and the unit numbers of the spec can carry.
A step runs every command; well-formedness says which ones the outside world can send. -/

namespace Sys2Proof

/-- A 32-bit or 64-bit access of BAR0 that is naturally aligned and lies in the function's view (R16, R429). -/
def regAt (off : Nat) (wide : Bool) : Bool := decide (off % (if wide then 8 else 4) = 0) && decide (off < 2 ^ 26)

/-- Every other access of BAR0 (R431): it has a size, and is neither aligned 32-bit nor aligned 64-bit. -/
def bar0Wf (a : Bar0Acc) : Bool :=
  decide (0 < a.size) && decide (a.off + a.size ≤ 2 ^ 26) && !(decide (a.size = 4) && decide (a.off % 4 = 0)) &&
    !(decide (a.size = 8) && decide (a.off % 8 = 0))

/-- A logical Matrix Core (R19). -/
def coreWf (n : Nat) : Bool := decide (n < 144)

/-- A context (R325). -/
def ctxWf (c : Nat) : Bool := decide (1 ≤ c) && decide (c ≤ 4095)

/-- An index of the Object Table (R241). -/
def objWf (x : Nat) : Bool := decide (x < 2 ^ 20)

/-- A packet of opcode op whose fields fit the header of R91; every packet counts from 1 in the acceptance order. -/
def pktWf (op : Nat) (p : Pkt) : Bool :=
  decide (p.opcode = op) && decide (p.window < 132) && decide (p.slot < 16) && decide (p.seq < 2 ^ 32) && decide (p.at_ < 2 ^ 64) &&
    decide (p.tag < 2 ^ 32) && decide (p.func < 2 ^ 6) && decide (p.part < 2 ^ 8) && decide (p.td < 8) &&
    decide (p.payload.length % 4 = 0) && decide (p.payload.length ≤ 4000)

/-- A U-plane section (R113, R114). -/
def prbWf (x : RxPrb) : Bool := decide (x.mant.length = 24)

/-- An ingress eCPRI message (R111, R116). -/
def rxMsgWf (m : RxMsg) : Bool :=
  decide (m.lport < 32) && decide (m.eaxc < 2 ^ 16) && decide (m.msgType < 2 ^ 8) && decide (m.frameId < 2 ^ 8) &&
    decide (m.subframeId < 2 ^ 4) && decide (m.slotId < 2 ^ 6) && decide (m.symbolId < 2 ^ 6) && (m.bad || m.prbs.all prbWf)

/-- An ingress Direct IQ message (R127, R129). -/
def diqMsgWf (m : DiqMsg) : Bool := decide (m.lport < 32) && decide (m.eaxc < 2 ^ 16) && decide (m.frameWord < 2 ^ 64)

/-- An egress message (R113, R122). -/
def txMsgWf (m : TxMsg) : Bool := decide (m.lport < 32) && decide (m.flow < 1024) && decide (m.td < 8) && m.prbs.all prbWf

/-- A Hjelo packet (R293). -/
def fabPktWf (k : FabPkt) : Bool :=
  decide (k.type < 16) && decide (k.oc < 4) && decide (k.hop < 4) && decide (k.ttl < 64) && decide (k.dst < 2 ^ 16) && decide (k.src < 2 ^ 16) &&
    decide (k.len ≤ 4096) && decide (k.epoch < 2 ^ 8) && decide (k.txid < 2 ^ 32) && decide (k.addr < 2 ^ 43)

/-- A flit with its control word (R283, R284). -/
def flitWf (f : Flit) : Bool :=
  decide (f.seq < 2 ^ 10) && decide (f.ackSeq < 2 ^ 10) && decide (f.cvl < 8) && decide (f.ccnt < 2 ^ 8) && f.pkts.all fabPktWf

/-- The commands that the outside world can send. -/
def Instr.wf : Instr → Bool
  | .registerWrite _ off wide v => regAt off wide && (wide || decide (v.toNat < 2 ^ 32))
  | .regLowerHalfRead _ off wide => regAt off wide
  | .bar0IllegalAccess _ a => bar0Wf a
  | .tsqEnt1Read _ => true
  | .tsqLostRead _ => true
  | .pwrPeakRead => true
  | .airSnapGo => true
  | .epochWrite _ _ => true
  | .tdCtrlEnWrite _ _ => true
  | .ptpRxStamp _ _ => true
  | .announceMessage _ _ _ _ _ k => decide (-128 ≤ k) && decide (k ≤ 127)
  | .announceReceiptTimeout _ _ _ => true
  | .servoMeasurement _ _ _ _ _ => true
  | .measurementLossTimeout _ => true
  | .holdoverLimit _ => true
  | .ppsInEdge => true
  | .ppsOutEdge => true
  | .tallyBoundary _ => true
  | .timeConfig p => pktWf 0x0201 p
  | .timeEnable p => pktWf 0x0202 p
  | .timeDisable p => pktWf 0x0203 p
  | .timeStep p => pktWf 0x0204 p
  | .timeQuery p => pktWf 0x0205 p
  | .timeMark p => pktWf 0x0206 p
  | .dutyWrite _ => true
  | .ceilingWrite _ => true
  | .cellCreate p => pktWf 0x0301 p
  | .cellReconfig p => pktWf 0x0302 p
  | .cellDelete p => pktWf 0x0303 p
  | .cellDrainEnd _ => true
  | .cellQuery p => pktWf 0x0304 p
  | .cellNeural p => pktWf 0x0305 p
  | .slotUl p => pktWf 0x0401 p
  | .slotDl p => pktWf 0x0402 p
  | .slotJobPlan _ _ _ => true
  | .windowPlan n _ _ _ _ _ _ _ => coreWf n
  | .releaseHorizon n _ => coreWf n
  | .windowOpen n _ => coreWf n
  | .earlyReturn n _ => coreWf n
  | .forcedPreemption n => coreWf n
  | .contextSaveDone n => coreWf n
  | .cloverModeChange n _ => coreWf n
  | .guardRampStart n d => coreWf n && decide (d ≤ 8)
  | .fallbackPoint _ _ => true
  | .leaseGrant n _ => coreWf n
  | .leaseEnd n => coreWf n
  | .commandSweep _ => true
  | .pwEnable _ _ _ => true
  | .pwDisable _ _ _ => true
  | .rrHeadWrite _ _ _ => true
  | .timedEffect _ => true
  | .barrierRelease _ => true
  | .devInfo p => pktWf 0x0101 p
  | .devQuiesce p => pktWf 0x0102 p
  | .devResume p => pktWf 0x0103 p
  | .devReset p => pktWf 0x0104 p
  | .devEcho p => pktWf 0x0107 p
  | .partSet p => pktWf 0x0105 p
  | .partClear p => pktWf 0x0106 p
  | .ctxCreate p => pktWf 0x0501 p
  | .ctxDestroy p => pktWf 0x0502 p
  | .stepSubmit p => pktWf 0x0503 p
  | .ctxSeed p => pktWf 0x0504 p
  | .ctxSuspend p => pktWf 0x0505 p
  | .ctxSuspendStop c => ctxWf c
  | .ctxResume p => pktWf 0x0506 p
  | .ctxQuery p => pktWf 0x0507 p
  | .objCreate p => pktWf 0x0601 p
  | .objFree p => pktWf 0x0602 p
  | .objPromote p => pktWf 0x0603 p
  | .objEvict p => pktWf 0x0604 p
  | .objPin p => pktWf 0x0605 p
  | .objUnpin p => pktWf 0x0606 p
  | .objKeys p => pktWf 0x0607 p
  | .objQuery p => pktWf 0x0608 p
  | .fabPort p => pktWf 0x0701 p
  | .fabRoute p => pktWf 0x0702 p
  | .fabGroup p => pktWf 0x0703 p
  | .fabFence p => pktWf 0x0704 p
  | .fabUnfence p => pktWf 0x0705 p
  | .fabQuery p => pktWf 0x0706 p
  | .secLcAdvance p => pktWf 0x0801 p
  | .secFwStage p => pktWf 0x0802 p
  | .secFwActivate p => pktWf 0x0803 p
  | .secMeasure p => pktWf 0x0804 p
  | .secCalWrite p => pktWf 0x0805 p
  | .diagAssay p => pktWf 0x0901 p
  | .diagSpare p => pktWf 0x0902 p
  | .diagTally p => pktWf 0x0903 p
  | .diagInject p => pktWf 0x0904 p
  | .portModeWrite _ _ => true
  | .wpWrite _ _ _ _ => true
  | .shapeWrite _ _ _ => true
  | .policerWrite _ _ _ _ => true
  | .uplaneIngress m => rxMsgWf m
  | .diqIngress m => diqMsgWf m
  | .agcSymbolBoundary _ _ => true
  | .agcHoldExpiry _ _ => true
  | .diqBankSwitch _ _ => true
  | .wheelPlace m => txMsgWf m
  | .farListEnter _ => true
  | .bucketDue _ _ => true
  | .frameTransmit _ => true
  | .shaperRefill _ => true
  | .txDeadlineMiss _ => true
  | .bundleIssue _ _ hw => decide (hw < 4)
  | .kernelInvoke _ k _ _ => decide (k < 0x12)
  | .kernelComplete _ _ => true
  | .cycleBudgetSpent _ => true
  | .kernelRetry _ _ => true
  | .scDmaDone _ _ scm carve len => decide (scm + len ≤ 2 ^ 21) && decide (carve + len ≤ 2 ^ 43)
  | .signalCoreSpareIn _ => true
  | .codeBlockDone r => decide (r.cluster < 8) && decide (r.cell < 512)
  | .codeBlockRetry _ lane _ _ _ _ _ _ _ => decide (lane < 24)
  | .polarOperationDone _ _ _ _ _ _ _ _ => true
  | .rebuildDone _ => true
  | .ulDelivery _ _ _ => true
  | .dlJobComplete _ _ => true
  | .nop n _ => coreWf n
  | .endOp n _ => coreWf n
  | .add n _ => coreWf n
  | .addi n _ => coreWf n
  | .sub n _ => coreWf n
  | .andOp n _ => coreWf n
  | .orOp n _ => coreWf n
  | .xorOp n _ => coreWf n
  | .shl n _ => coreWf n
  | .shr n _ => coreWf n
  | .sar n _ => coreWf n
  | .mul n _ => coreWf n
  | .slt n _ => coreWf n
  | .sltu n _ => coreWf n
  | .li n _ => coreWf n
  | .lui n _ => coreWf n
  | .beq n _ => coreWf n
  | .bne n _ => coreWf n
  | .blt n _ => coreWf n
  | .bge n _ => coreWf n
  | .j n _ => coreWf n
  | .loopOp n _ => coreWf n
  | .tsig n _ => coreWf n
  | .twait n _ => coreWf n
  | .ldt n => coreWf n
  | .stt n => coreWf n
  | .xwait n _ => coreWf n
  | .transactionComplete n _ _ _ errs _ _ => coreWf n && decide (errs.length ≤ 64)
  | .mpass n => coreWf n
  | .mwait n => coreWf n
  | .passLoadStart n hw => coreWf n && decide (hw < 4)
  | .passStreamEnd n hw => coreWf n && decide (hw < 4)
  | .passComplete n => coreWf n
  | .tqEntryPost n => coreWf n
  | .tqpop n => coreWf n
  | .governorStep n => coreWf n
  | .gapHoldExpiry n => coreWf n
  | .workTileRetry n _ => coreWf n
  | .matrixCoreRetire n => coreWf n
  | .matrixCoreSpareIn n => coreWf n
  | .tokenDeadlock n => coreWf n
  | .vld n => coreWf n
  | .vst n => coreWf n
  | .vgather n => coreWf n
  | .vscatter n => coreWf n
  | .vadd n => coreWf n
  | .vmul n => coreWf n
  | .vfma n => coreWf n
  | .vmin n => coreWf n
  | .vmax n => coreWf n
  | .vabs n => coreWf n
  | .bf16PackedAdd n => coreWf n
  | .bf16PackedMultiply n => coreWf n
  | .bf16PackedFma n => coreWf n
  | .int32Add n _ => coreWf n
  | .int32Multiply n _ => coreWf n
  | .int32Shift n _ _ _ => coreWf n
  | .vcmp n _ _ => coreWf n
  | .maskLogic n _ => coreWf n
  | .vsel n => coreWf n
  | .vcvt n _ _ => coreWf n
  | .vmxq n _ => coreWf n
  | .vexp2 n => coreWf n
  | .vlog2 n => coreWf n
  | .vrcp n => coreWf n
  | .vrsqrt n => coreWf n
  | .vtanh n => coreWf n
  | .vsigm n => coreWf n
  | .vrsum n => coreWf n
  | .vrmax n => coreWf n
  | .vperm n => coreWf n
  | .vbcast n => coreWf n
  | .vrand n => coreWf n
  | .vrdf n => coreWf n
  | .vclrf n => coreWf n
  | .rget n => coreWf n
  | .rput n => coreWf n
  | .rred n => coreWf n
  | .rmcast n => coreWf n
  | .rfence n => coreWf n
  | .rwait n _ => coreWf n
  | .fenceComplete _ => true
  | .workTileStart n _ => coreWf n
  | .workTileEnd n => coreWf n
  | .stepStart c => ctxWf c
  | .stepComplete c => ctxWf c
  | .blockYield c => ctxWf c
  | .swapStart _ => true
  | .swapEnd _ => true
  | .spillDone n => coreWf n
  | .restoreDone n => coreWf n
  | .regulatorRefill _ => true
  | .v2pPost _ _ => true
  | .v2pAck _ _ => true
  | .p2vPost _ _ => true
  | .p2vAck _ _ => true
  | .dlogEnable _ _ _ => true
  | .dlogSwap _ _ _ => true
  | .dlogFlushDone _ => true
  | .migrationStart x => objWf x
  | .subBlockCopyDone x bad => objWf x && decide (bad.length ≤ 1024)
  | .blockMigrationDone x => objWf x
  | .migrationComplete x => objWf x
  | .ageSweep => true
  | .ageEviction _ => true
  | .frameReturn t _ => decide (1 ≤ t) && decide (t ≤ 3)
  | .poolSizeWrite _ _ => true
  | .patrolRead _ _ _ _ => true
  | .pageBufferWriteout c _ => decide (c < 16)
  | .refetchUnitArrive x _ d => objWf x && (d.all (fun l => decide (l.length = 4096)))
  | .refetchBoundExpiry x => objWf x
  | .fillDone p => decide (p ≤ 8)
  | .chkGo _ _ _ => true
  | .chkStop _ _ _ _ => true
  | .chkScanEnd _ => true
  | .portTrainingDone _ d _ => decide (d < 2 ^ 16)
  | .portTrainingTimeout _ => true
  | .portFail _ => true
  | .controlWordTimeout _ => true
  | .hjeloLaneSpare _ l => decide (l < 4)
  | .flitReceive _ f => flitWf f
  | .flitReplay _ a => decide (a < 2 ^ 10)
  | .transitForward _ => true
  | .fabricRequestReceive _ => true
  | .mcastReceive _ => true
  | .mcastGatherComplete _ => true
  | .combinerOperation _ l => decide (l < 2 ^ 37)
  | .streamEntryIdle d g => decide (d < 2 ^ 16) && g.all (fun x => decide (x < 2 ^ 12))
  | .fabricResponseReceive _ => true
  | .fabricTimeout _ => true
  | .pathEpochAdvance d => decide (d < 2 ^ 16)
  | .fabricTimeExchange _ _ _ _ d => decide (d < 2 ^ 16)
  | .ledgerWrite _ => true
  | .ledgerHeadWrite _ _ => true
  | .assayPeriodBoundary => true
  | .assayStart _ _ _ _ => true
  | .assayEnd _ _ _ _ => true
  | .shadowRunEnd n => coreWf n
  | .controlProcessorSpare _ => true
  | .hbmChannelSpare _ _ _ => true
  | .hbmChannelCopyDone _ _ => true
  | .stackOutOfService _ _ _ => true
  | .heartbeat _ => true
  | .watchdogInterval => true
  | .supervisorRestart => true
  | .internalMessage _ _ => true
  | .monitorCommit _ _ _ _ part _ _ => decide (part < 256)
  | .vaultPersist => true
  | .hoursTick => true
  | .throttleAssert => true
  | .throttleDeassert => true
  | .throttleForceWrite _ => true
  | .throttleHoldExpiry => true
  | .dutyReleaseStep => true
  | .tempSample t _ _ _ => t.all (fun x => decide (x.1 < 64))
  | .powerCapCheck => true
  | .domainPowerFault _ => true
  | .domainPowerUp _ => true
  | .perstAssert => true
  | .perstDeassert _ => true
  | .supervisorReady _ => true
  | .supervisorReadyTimeout => true
  | .vinCoreLoss _ => true
  | .vioDrop => true
  | .hotReset => true
  | .flrPf => true
  | .vfEnableClear _ => true
  | .flrVf _ => true
  | .busMasterEnableWrite _ _ => true
  | .powerStateWrite _ _ => true
  | .msixUnmask _ _ _ => true
  | .bar2Write _ off l => decide (0 < l.length) && decide (l.length ≤ 64) && decide (off + l.length ≤ 2 ^ 24)
  | .bar4Read _ off n => decide (0 < n) && decide (n ≤ 4096) && decide (off + n ≤ 2 ^ 36)
  | .bar4Write _ off l => decide (0 < l.length) && decide (l.length ≤ 4096) && decide (off + l.length ≤ 2 ^ 36)
  | .b4BaseWrite _ _ _ => true
  | .hostReadCompletion _ _ a l => decide (a + l.length ≤ 2 ^ 64)
  | .epTlpReceive _ => true
  | .ideCheckFail _ fns => fns.all (fun f => decide (f < 33))
  | .ptmDialogue _ _ _ _ => true
  | .doeRequest _ _ _ => true
  | .mctpMessage _ _ => true
  | .getVersion _ => true
  | .getCapabilities _ => true
  | .negotiateAlgorithms _ _ _ => true
  | .getDigests _ => true
  | .getCertificate _ _ _ _ => true
  | .challenge _ _ nonce => decide (nonce.length = 32)
  | .getMeasurements _ _ _ nonce => decide (nonce.length = 32)
  | .keyExchange _ _ => true
  | .finish _ _ => true
  | .endSession _ => true
  | .heartbeatSpdm _ => true
  | .keyUpdate _ => true
  | .setEventReceiver _ _ => true
  | .requestUpdate _ _ => true
  | .requestFirmwareData _ => true
  | .activateFirmware _ => true
  | .recoveryUpdate _ => true
  | .bypass => true
  | .idcode => true
  | .samplePreload _ _ => true
  | .extest => true
  | .extestPulse => true
  | .extestTrain => true
  | .clamp => true
  | .highz => true
  | .jtagDebugHalt _ => true
  | .fhLaneSpare _ l => decide (l < 4)
  | .airCounterTick => true
  | .bringUpStepEnd _ => true
  | .codeBlockDispatch _ _ _ _ _ _ => true
  | .subPortLinkUp _ => true
  | .subPortLinkDown _ => true
  | .ptpTransmit _ m => txMsgWf m
  | .esmcMessage _ ql => decide (ql < 16)
  | .firmwareStageComplete _ => true
  | .verifyComplete => true
  | .applyComplete _ => true
  | .vinCoreApply => true
  | .vioRestore => true
  | .vfEnableSet _ => true

end Sys2Proof
end

