-- ==== Sys2Proof/Safety.lean ====
section
/-! DEFINITION. What counts as a safe run and the words the statements are said in: completion of a command, the pieces of the
state that a command leaves alone, and the invariants of a step. -/

namespace Sys2Proof.Machine

/-! ### Completion -/

/-- The command completes: exec answers a next state, and post holds of it. -/
def Completes (c : Instr) (s : State) (post : State → Prop) : Prop := ∃ t, exec c s = .next t ∧ post t

/-! ### Frames -/

/-- The pieces of the state beside the register fields, named so that a frame can say which ones a command may change. -/
inductive Piece where
  | time | draws | tallies | captured | bus | msixTable | hostMem | air | radio | commands | front | fault | mem | engine | fabric | power | host
  deriving DecidableEq, Repr

/-- The piece is the same in both states. -/
def Piece.same (g : Piece) (s t : State) : Prop :=
  match g with
  | .time => t.now = s.now
  | .draws => t.draws = s.draws
  | .tallies => t.live = s.live ∧ t.latched = s.latched ∧ t.satLive = s.satLive
  | .captured => t.captured = s.captured
  | .bus => t.fns = s.fns ∧ t.msgs = s.msgs
  | .msixTable => t.msix = s.msix
  | .hostMem => t.hostMem = s.hostMem
  | .air => t.toAirState = s.toAirState
  | .radio => t.toRadioState = { s.toRadioState with accepted := t.accepted, timed := t.timed, begun := t.begun }
  | .commands => t.accepted = s.accepted ∧ t.timed = s.timed ∧ t.begun = s.begun
  | .front => t.toFrontState = s.toFrontState
  | .fault => t.toFaultState = s.toFaultState
  | .mem => t.toMemState = s.toMemState
  | .engine => t.toEngineState = s.toEngineState
  | .fabric => t.toFabricState = s.toFabricState
  | .power => t.toPowerState = s.toPowerState
  | .host => t.toHostState = s.toHostState

/-- Every piece that the list does not name is the same in both states. -/
def Frame (changed : List Piece) (s t : State) : Prop := ∀ g : Piece, g ∉ changed → g.same s t

/-- Every register field that the list does not name holds what it held. -/
def RegsExcept (fs : List Fld) (s t : State) : Prop := ∀ f : Fld, (∀ g ∈ fs, f.key ≠ g.key) → getF f t = getF f s

/-- Every byte of a memory outside n bytes from a reads as before. -/
def SameOutside (a n : Nat) (m m' : Memory) : Prop := ∀ x, (x < a ∨ a + n ≤ x) → readByte m' x = readByte m x

/-- The numbers of the VFs (R428), and the windows of a function (R84). -/
def vfNumbers : List Nat := (List.range 32).map (· + 1)
def windowsOf (f : Nat) : List Nat := [4 * f, 4 * f + 1, 4 * f + 2, 4 * f + 3]

/-- The command changes nothing at all. -/
def NoEffect (c : Instr) (s : State) : Prop := exec c s = .next s

/-! ### Commands and their final replies (R93 to R98) -/

/-- The number of the entry last written to window w's reply ring: the one before TAIL. -/
def lastEntry (w : Nat) (t : State) : Nat := (getF (CMD_PWw_RR_TAIL_TAIL w) t + 2 ^ 17 - 1) % 2 ^ 17

/-- The 32 bytes of the entry last written to window w's reply ring. -/
def lastReply (w : Nat) (t : State) : List Byte :=
  readBytes t.hostMem (getF (CMD_PWw_RR_BASE_ADDR w) t * 4096 + lastEntry w t % ringSize w t * 32) 32

/-- The reply lands as it is written: the window's function may master the bus, its dirty log is off, and the ring has one of
the sizes of R94. -/
def replyLands (w : Nat) (t : State) : Bool :=
  mayMaster (w / 4) t && (decide (w / 4 = 0) || !flagF (SCHED_DLOGv_CTRL_EN (w / 4 - 1)) t) && decide (getF (CMD_PWw_RR_CFG_SIZE w) t ≤ 10)

/-- The packet has ended with a status and DETAIL: it is no longer accepted, and its final reply is the last entry of its
window's ring, unless QUIET keeps an OK back. -/
def Ended (p : Pkt) (st d : Nat) (t : State) : Prop :=
  (∀ q ∈ t.accepted, q.id ≠ p.id) ∧ p.id ∉ t.begun ∧
  (replyLands p.window t = true → p.quiet = false ∨ 2 ≤ st →
    lastReply p.window t = replyBytes p st true d (counter p.td t) (ringSize p.window t) (lastEntry p.window t))

/-- The register fields that a reply of window w may change beside its TAIL: BUSY, the count of timed commands, the errors of
R434 and R435, and the overflow of the function's dirty log. -/
def replyRegs (w : Nat) : List Fld :=
  [CMD_PWw_RR_TAIL_TAIL w, CMD_PWw_STAT_BUSY w, CMD_TIMED_PENDING, DEV_HOSTERR_NO_MASTER, DEV_HOSTERR_FUNC, DEV_HOSTERR_VEC,
    SCHED_STAT_DLOG_OVF, SCHED_DLOGv_STAT_OVF (w / 4 - 1)]

/-- The register fields that raising a vector may change (R434, R435). -/
def vecRegs : List Fld := [DEV_HOSTERR_NO_MASTER, DEV_HOSTERR_FUNC, DEV_HOSTERR_VEC]

/-- What raising a vector may change beside registers. -/
def vecPieces : List Piece := [.bus, .tallies]

/-- What a reply changes beside registers. -/
def replyPieces : List Piece := [.commands, .hostMem, .bus, .tallies]

/-! ### Invariants -/

/-- Every waiting command is one that the outside world can send. -/
def QueueWf (s : State) : Prop := s.pending.all Instr.wf = true

/-- The memories of the machine are in their canonical form: host memory, the tiers, Core Scratch and its swapped copies,
the radio carve, the mailboxes, the Posting Windows and the boot flash. -/
def MemoriesWf (s : State) : Prop :=
  Memory.wf s.hostMem = true ∧ Memory.wf s.mem = true ∧ Memory.wf s.scratch = true ∧ Memory.wf s.scratchOf = true ∧
  Memory.wf s.radioMem = true ∧ Memory.wf s.mbx = true ∧ Memory.wf s.bar2 = true ∧ Memory.wf s.flash = true

/-- A step is safe: it answers a next state. -/
def SafeStep (s : State) : Prop := ∃ t, step s = .next t

end Sys2Proof.Machine
end

