-- ==== Sys2Proof/Certificates/Slice0/Obligations.lean ====
section
/-! DEFINITION. The statements for the provers. -/

section
open Sys2Proof Sys2Proof.Machine

/-- For every command and state, a step of the state with the command at the front of its queue is exec of the command on the state with the queue's
rest; on an empty queue the block idles, which is the model's choice. That an empty queue leaves the state as it is is the model's choice (log entry
1). -/
def Obligations.QueueStep : Prop :=
  (∀ (s : State) (c : Instr) (r : List Instr), step { s with pending := c :: r } = exec c { s with pending := r }) ∧
  (∀ (s : State), s.pending = [] → step s = .next s)

/-- From every state whose waiting commands are well formed, a step that answers a next state leaves the rest of the queue as it was, behind the
command it took, and adds no command: its commands are still well formed. The queue is the model's own state. -/
def Obligations.QueueInvariant : Prop :=
  ∀ (s t : State), QueueWf s → step s = .next t → QueueWf t ∧ t.pending = s.pending.tail

/-- From every state, every step answers a next state, whatever the command and its operands, and as many steps as commands wait leave the queue
empty: every step is whole, and none faults or is refused. -/
def Obligations.QueueWorkedOff : Prop :=
  ∀ (s : State), SafeStep s ∧ (∃ t : State, Host.Core.run core s.pending.length s = .next t ∧ t.pending = [])

/-- After reset the queue is empty and well formed, READY is 0, every memory is in its canonical form, and the tiers, Core Scratch, the mailboxes and
the Posting Windows read as zeros; no cell, object, context, Lease, packet or fabric operation exists. The order in which power-on reaches this state,
and what the spec leaves open of it, are the model's choices, in the assumption log. -/
def Obligations.ResetState : Prop :=
  (QueueWf State.reset ∧ State.reset.pending = [] ∧ flagF DEV_STAT_READY State.reset = false ∧ MemoriesWf State.reset) ∧
  (∀ (x : Nat),
   readByte State.reset.mem x = 0 ∧ readByte State.reset.scratch x = 0 ∧ readByte State.reset.mbx x = 0 ∧ readByte State.reset.bar2 x = 0) ∧
  (State.reset.cells = [] ∧ State.reset.objs = [] ∧ State.reset.bmap = [] ∧ State.reset.ctxs = [] ∧ State.reset.leases = [] ∧ State.reset.accepted = [] ∧ State.reset.ftt = [])

/-- The table gives no row bits, so the decoder reads no command from any word, and no word changes the queue. -/
def Obligations.NoWordSpellsACommand : Prop :=
  ∀ (s : State) (nbits w : Nat), decodeTableWord nbits w = none ∧ s.withFetchWord nbits w = s

/-- A write of HJF_CFG by the PF gives DEVID its 16 bits, whatever they are, while every port is OFF; while any port is not OFF, DEVID keeps its
value. EN, the register's other field, is written in either case, and nothing else changes. -/
def Obligations.DeviceIdWrites : Prop :=
  ∀ (s : State) (v : BitVec 64),
  tlpTaken 0 s = true ∧ flagF DEV_STAT_READY s = true ∧ getF SEC_BOOT_RESULT s ≠ 3 →
  Completes (.registerWrite 0 HJF_CFG false v) s (fun t =>
    getF HJF_CFG_DEVID t = (if (List.range 16).all (fun p => decide (portSt p s = 0)) then v.toNat % 2 ^ 16 else getF HJF_CFG_DEVID s) ∧
    getF HJF_CFG_EN t = v.toNat / 2 ^ 16 % 2 ∧ RegsExcept [HJF_CFG_DEVID, HJF_CFG_EN] s t ∧ Frame [] s t)

namespace Sys2Proof

/-- The Air Counter of domain n with its fraction, in units of 2^-40 Tc (R34, R39). -/
def airTotal (n : Nat) (s : State) : Nat := counter n s * 2 ^ 40 + (airOf n s).frac

end Sys2Proof

/-- A read of ENT1 returns the upper half of the head of the port's time-stamp queue and removes the head; a read of TSQ_LOST returns the count and
clears it; a write of AIR_SNAP.GO samples all eight Air Counters; a write of EPOCH makes a step of the counter by the old EPOCH minus the new one due
at the next tick, or is refused with EPOCH_REFUSED while a cell is bound; a write of CTRL enables a DISABLED domain into FREE, and its clear disables
a domain without bound cells and has no effect on one with them. Nothing else changes. -/
def Obligations.AirRegisterAccesses : Prop :=
  (∀ (s : State) (p : Fin 4),
   hostUp 0 s = true →
   Completes (.tsqEnt1Read p) s (fun t =>
     t.rdata = (look [] p.val s.airTsq).headD 0 / 2 ^ 64 ∧ t.rstat = 0 ∧ look [] p.val t.airTsq = (look [] p.val s.airTsq).tail ∧
     getF (AIR_FHp_TSQ_STAT_COUNT p) t = (look [] p.val s.airTsq).tail.length % 2 ^ (AIR_FHp_TSQ_STAT_COUNT p).width ∧
     RegsExcept [AIR_FHp_TSQ_STAT_COUNT p, AIR_FHp_TSQ_ENT0_LOW p, AIR_FHp_TSQ_ENT1_HIGH p] s t ∧ Frame [.air] s t)) ∧
  (∀ (s : State) (p : Fin 4),
   hostUp 0 s = true →
   Completes (.tsqLostRead p) s (fun t =>
     t.rdata = getF (AIR_FHp_TSQ_LOST_LOST p) s ∧ t.rstat = 0 ∧ getF (AIR_FHp_TSQ_LOST_LOST p) t = 0 ∧
     RegsExcept [AIR_FHp_TSQ_LOST_LOST p] s t ∧ Frame [.air] s t)) ∧
  (∀ (s : State),
   hostUp 0 s = true →
   Completes .airSnapGo s (fun t =>
     (∀ n ∈ domains, getF (AIR_SNAP_TDn_VALUE n) t = counter n s % 2 ^ 64) ∧
     RegsExcept (domains.map AIR_SNAP_TDn_VALUE) s t ∧ Frame [] s t)) ∧
  (∀ (s : State) (n : Fin 8) (v : BitVec 64),
   hostUp 0 s = true →
   cellBound n s = true →
   Completes (.epochWrite n v) s (fun t =>
     getF (AIR_TDn_STATE_EPOCH_REFUSED n) t = 1 ∧ RegsExcept [AIR_TDn_STATE_EPOCH_REFUSED n] s t ∧ Frame [] s t)) ∧
  (∀ (s : State) (n : Fin 8) (v : BitVec 64),
   hostUp 0 s = true →
   cellBound n s = false →
   Completes (.epochWrite n v) s (fun t =>
     getF (AIR_TDn_EPOCH_EPOCH n) t = v.toNat ∧
     (airOf n t).due = (airOf n s).due + (getF (AIR_TDn_EPOCH_EPOCH n) s : Int) - v.toNat ∧ airTotal n t = airTotal n s ∧
     RegsExcept [AIR_TDn_EPOCH_EPOCH n] s t ∧ Frame [.air] s t)) ∧
  (∀ (s : State) (n : Fin 8) (w : BitVec 32),
   hostUp 0 s = true →
   flagF (AIR_TDn_CTRL_EN n) s = false →
   tdState n s = 0 →
   w.toNat % 2 = 1 →
   Completes (.tdCtrlEnWrite n w) s (fun t =>
     getF (AIR_TDn_CTRL_EN n) t = 1 ∧ tdState n t = 1 ∧ getF (AIR_TDn_RATE_NOW n) t = 0 ∧ (airOf n t).integ = 0 ∧ (airOf n t).ref = none ∧
     (srcAllowed n (w.toNat / 2 % 8) = true → getF (AIR_TDn_CTRL_SRC n) t = w.toNat / 2 % 8) ∧
     (srcAllowed n (w.toNat / 2 % 8) = false → getF (AIR_TDn_CTRL_SRC n) t = getF (AIR_TDn_CTRL_SRC n) s) ∧
     getF (AIR_TDn_CTRL_SYNCE n) t = w.toNat / 16 % 2 ∧ getF (AIR_TDn_CTRL_PTPDOM n) t = w.toNat / 256 % 256 ∧
     RegsExcept [AIR_TDn_CTRL_EN n, AIR_TDn_CTRL_SRC n, AIR_TDn_CTRL_SYNCE n, AIR_TDn_CTRL_PTPDOM n, AIR_TDn_STATE_STATE n, AIR_TDn_STATE_SLEWING n,
       AIR_TDn_RATE_NOW n, AIR_TDn_HOLDOVER_ACTIVE n, AIR_TDn_HOLDOVER_AGE n] s t ∧ Frame [.air] s t)) ∧
  (∀ (s : State) (n : Fin 8) (w : BitVec 32),
   hostUp 0 s = true →
   flagF (AIR_TDn_CTRL_EN n) s = true →
   cellBound n s = false →
   w.toNat % 2 = 0 →
   Completes (.tdCtrlEnWrite n w) s (fun t =>
     getF (AIR_TDn_CTRL_EN n) t = 0 ∧ tdState n t = 0 ∧ counter n t = counter n s ∧
     RegsExcept [AIR_TDn_CTRL_EN n, AIR_TDn_CTRL_SRC n, AIR_TDn_CTRL_SYNCE n, AIR_TDn_CTRL_PTPDOM n, AIR_TDn_STATE_STATE n, AIR_TDn_STATE_SLEWING n,
       AIR_TDn_HOLDOVER_ACTIVE n, AIR_TDn_HOLDOVER_AGE n] s t ∧ Frame [.air] s t)) ∧
  (∀ (s : State) (n : Fin 8) (w : BitVec 32),
   hostUp 0 s = true →
   flagF (AIR_TDn_CTRL_EN n) s = true →
   cellBound n s = true →
   w.toNat % 2 = 0 →
   tdState n s ≠ 3 →
   Completes (.tdCtrlEnWrite n w) s (fun t =>
     flagF (AIR_TDn_CTRL_EN n) t = true ∧ tdState n t = tdState n s ∧
     RegsExcept [AIR_TDn_CTRL_SRC n, AIR_TDn_CTRL_SYNCE n, AIR_TDn_CTRL_PTPDOM n] s t ∧ Frame [] s t))

/-- On each tick of the 491.52 MHz clock 3,125/1,536 ns pass, the steps that writes of EPOCH made due on domains without bound cells are taken, a
DISABLED counter holds, a FREE counter advances by 4 Tc and a domain in any other state by 4 Tc times one plus its rate in units of 2^-40. A source
lost for LOSS_MS takes an ACQUIRING or LOCKED domain to HOLDOVER with the rate frozen at the integral term; AGE reaching the limit sets EXCEEDED. A
window whose end has passed is over, and its core is idle (log entry 54). -/
def Obligations.AirTimeAdvances : Prop :=
  (∀ (s : State),
   Completes .airCounterTick s (fun t =>
     t.now = s.now + 3125 ∧
     (∀ n ∈ domains, tdState n s = 0 → (airOf n s).due = 0 → counter n t = counter n s ∧ (airOf n t).frac = (airOf n s).frac) ∧
     (∀ n ∈ domains, tdState n s = 0 → cellBound n s = false → (airOf n s).due ≠ 0 →
       ((airTotal n t : Nat) : Int) = ((airTotal n s : Int) + (airOf n s).due * 2 ^ 40) % 2 ^ 104 ∧ (airOf n t).due = 0 ∧ (airOf n t).ref = none) ∧
     (∀ n ∈ domains, tdState n s = 1 → (airOf n s).due = 0 → airTotal n t = (airTotal n s + 4 * 2 ^ 40) % 2 ^ 104) ∧
     (∀ n ∈ domains, 2 ≤ tdState n s → (airOf n s).due = 0 → ((airTotal n t : Nat) : Int) = ((airTotal n s : Int) + 4 * (2 ^ 40 + rateOf n s)) % 2 ^ 104) ∧
     t.windows = s.windows.filter (fun w => decide (counter w.td t < windowEnd w)) ∧
     (∀ w ∈ s.windows, windowEnd w ≤ counter w.td t → getF (MXC_Cn_INFO_STATE w.core) s = 1 → t.windows.all (fun v => decide (v.core ≠ w.core)) = true →
       getF (MXC_Cn_INFO_STATE w.core) t = 0) ∧
     RegsExcept (domains.map AIR_TDn_COUNT_VALUE ++ domains.map AIR_TDn_HOLDOVER_AGE ++ domains.map AIR_TDn_EPOCH_EPOCH ++ domains.map AIR_TDn_STATE_EPOCH_REFUSED ++
       (s.windows.filter (fun w => decide (windowEnd w ≤ counter w.td t))).map (fun w => MXC_Cn_INFO_STATE w.core)) s t ∧ Frame [.time, .air, .tallies, .radio] s t ∧
     t.toRadioState = { s.toRadioState with windows := t.windows })) ∧
  (∀ (s : State) (n : Fin 8),
   tdState n s = 2 ∨ tdState n s = 3 →
   (airOf n s).lastMeas + getF (AIR_TDn_LOCK_LOSS_MS n) s * 5 * (1536 * 10 ^ 6) ≤ s.now →
   Completes (.measurementLossTimeout n) s (fun t =>
     tdState n t = 4 ∧ getF (AIR_TDn_RATE_NOW n) t = intBits 32 (airOf n s).integ ∧ getF (AIR_TDn_RATE_FROZEN n) t = intBits 32 (airOf n s).integ ∧
     getF (AIR_TDn_HOLDOVER_ACTIVE n) t = 1 ∧ getF (AIR_TDn_HOLDOVER_ENTERED n) t = 1 ∧ getF (AIR_TDn_HOLDOVER_CAUSE n) t = 1 ∧
     getF (AIR_TDn_HOLDOVER_AGE n) t = 0 ∧ (airOf n t).ref = none ∧ counter n t = counter n s ∧ bitAt n (getF AIR_EVT_HOLD t) = true ∧
     Frame [.air, .bus, .tallies] s t)) ∧
  (∀ (s : State) (n : Fin 8),
   tdState n s = 4 →
   getF (AIR_TDn_LOCK_LIMIT_S n) s * 60000 = getF (AIR_TDn_HOLDOVER_AGE n) s →
   Completes (.holdoverLimit n) s (fun t =>
     getF (AIR_TDn_HOLDOVER_EXCEEDED n) t = 1 ∧ bitAt n (getF AIR_EVT_EXCEED t) = true ∧ tdState n t = 4 ∧ counter n t = counter n s ∧
     Frame [.bus, .tallies] s t))

/-- A valid measurement of a LOCKED domain takes the integral and proportional terms off the rate within its limits and records the offset; the first
one of a FREE domain steps the counter to the source phase and begins ACQUIRING. An Announce message of a better transmitter is selected; the expiry
of the only one leaves none. A received PTP event message is stamped by the lowest domain that takes it, less the receive latency; ESMC levels are
kept; a 1PPS edge measures the domains that it serves and the output edge is placed to 1/16 Tc. Rounding in the servo and equal ranks in the BMCA are
the model's choices (log entries 6 and 7). -/
def Obligations.AirMeasurements : Prop :=
  (∀ (s : State) (n : Fin 8) (off16 : Int) (mpd r : Nat) (clockId : BitVec 64) (lport : Fin 32),
   measurementValid n clockId.toNat lport s = true →
   tdState n s = 3 →
   (airOf n s).ref = some r →
   r < counter n s →
   mag16 off16 ≤ 64 * getF (AIR_TDn_LOCK_THR n) s →
   1 ≤ getF (AIR_TDn_LOCK_CNT n) s →
   Completes (.servoMeasurement n off16 mpd clockId lport) s (fun t =>
     (airOf n t).integ = clampInt (-rateLimit n s) (rateLimit n s)
       ((airOf n s).integ - divZero (off16 * 2 ^ (40 - getF (AIR_TDn_SERVO_KI_SHIFT n) s)) (16 * ((counter n s : Int) - r))) ∧
     getF (AIR_TDn_RATE_NOW n) t = intBits 32 (clampInt (-rateLimit n s) (rateLimit n s)
       ((airOf n t).integ - divZero (off16 * 2 ^ (40 - getF (AIR_TDn_SERVO_KP_SHIFT n) s)) (16 * ((counter n s : Int) - r)))) ∧
     (airOf n t).ref = some (counter n s) ∧ (airOf n t).lastMeas = s.now ∧ (airOf n t).run = 0 ∧
     getF (AIR_TDn_OFFSET_OFS n) t = intBits 32 off16 ∧ getF (AIR_TDn_OFFSET_MPD n) t = mpd % 2 ^ 32 ∧ tdState n t = 3 ∧
     RegsExcept [AIR_TDn_OFFSET_OFS n, AIR_TDn_OFFSET_MPD n, AIR_TDn_RATE_NOW n, AIR_TDn_STATE_SLEWING n] s t ∧ Frame [.air] s t)) ∧
  (∀ (s : State) (n : Fin 8) (off16 : Int) (mpd : Nat) (clockId : BitVec 64) (lport : Fin 32),
   measurementValid n clockId.toNat lport s = true →
   tdState n s = 1 →
   cellBound n s = false →
   Completes (.servoMeasurement n off16 mpd clockId lport) s (fun t =>
     ((airTotal n t : Nat) : Int) = ((airTotal n s : Int) - off16 * 2 ^ 36) % 2 ^ 104 ∧
     tdState n t = 2 ∧ (airOf n t).ref = some (counter n t) ∧ (airOf n t).lastMeas = s.now ∧
     RegsExcept [AIR_TDn_OFFSET_OFS n, AIR_TDn_OFFSET_MPD n, AIR_TDn_STATE_STATE n, AIR_TDn_HOLDOVER_ACTIVE n, AIR_TDn_HOLDOVER_AGE n, AIR_TDn_COUNT_VALUE n] s t ∧
     Frame [.air] s t)) ∧
  (∀ (s : State) (lport : Fin 32) (dom cls : Byte) (clockId : BitVec 64) (rank n : Nat) (k : Int),
   ptpDomain lport dom.toNat s = some n →
   tdState n s ≠ 3 →
   (∀ d ∈ (airOf n s).cands, rank < d.rank) →
   Completes (.announceMessage lport dom clockId cls rank k) s (fun t =>
     (airOf n t).gm = some (clockId.toNat, decide (cls.toNat = 6 ∨ cls.toNat = 7 ∨ cls.toNat = 135)) ∧
     (⟨clockId.toNat, lport, cls.toNat, rank, s.now + announceTimeout k⟩ : Candidate) ∈ (airOf n t).cands ∧
     getF (AIR_TDn_GM_CLOCKID n) t = clockId.toNat ∧ RegsExcept [AIR_TDn_GM_CLOCKID n] s t ∧ Frame [.air] s t)) ∧
  (∀ (s : State) (n : Fin 8) (clockId : BitVec 64) (lport : Fin 32) (c : Candidate),
   (airOf n s).cands = [c] →
   c.clockId = clockId.toNat →
   c.port = lport →
   c.until_ ≤ s.now →
   Completes (.announceReceiptTimeout n clockId lport) s (fun t =>
     (airOf n t).cands = [] ∧ (airOf n t).gm = none ∧ RegsExcept [] s t ∧ Frame [.air] s t)) ∧
  (∀ (s : State) (lport : Fin 32) (dom : Byte) (n : Nat),
   ptpDomain lport dom.toNat s = some n →
   Completes (.ptpRxStamp lport dom) s (fun t =>
     t.airRx = some (n, lport.val, ((count16 n s : Int) - stampLatency (lport.val / 8) (portSpeedCode (lport.val / 8) s) 0 s).toNat) ∧
     RegsExcept [] s t ∧ Frame [.air] s t)) ∧
  (∀ (s : State) (lport : Fin 32) (ql : Nat),
   Completes (.esmcMessage lport ql) s (fun t => look 0 lport.val t.airQl = ql ∧ RegsExcept [] s t ∧ Frame [.air] s t)) ∧
  (∀ (s : State) (n : Fin 6),
   flagF (AIR_TDn_CTRL_EN n) s = true →
   getF (AIR_TDn_CTRL_SRC n) s = 1 →
   tdState n s = 1 →
   cellBound n s = false →
   (∀ m ∈ domains, m ≠ n → flagF (AIR_TDn_CTRL_EN m) s = false) →
   Completes .ppsInEdge s (fun t =>
     tdState n t = 2 ∧ (airOf n t).ppsNext = some ((airOf n s).ppsNext.getD (getF (AIR_TDn_TOD_SECONDS n) s) + 1) ∧ (airOf n t).lastMeas = s.now ∧
     RegsExcept [AIR_TDn_OFFSET_OFS n, AIR_TDn_OFFSET_MPD n, AIR_TDn_STATE_STATE n, AIR_TDn_HOLDOVER_ACTIVE n, AIR_TDn_HOLDOVER_AGE n, AIR_TDn_COUNT_VALUE n] s t ∧
     Frame [.air] s t)) ∧
  (∀ (s : State) (n : Nat) (x : Int),
   flagF AIR_PPS_OUT_EN s = true →
   getF AIR_PPS_OUT_TD s = n →
   tdState n s ≠ 0 →
   x = ((count16 n s : Int) + calEffective 57 4096 0 65535 false s - 16 * bitsInt 24 (getF AIR_PPS_OUT_OFS s)) % (16 * 1966080000) →
   x < 80 →
   Completes .ppsOutEdge s (fun t =>
     t.airPps = (n, ((count16 n s : Int) - x).toNat) :: s.airPps ∧ RegsExcept [] s t ∧ Frame [.air] s t))

/-- When the domain of a Tally group is not DISABLED and its counter has reached a boundary above those already handled, the group latches: AT takes
the highest boundary reached, SEQ advances, the RL values take the live counters, the live counters restart, and no other group changes. -/
def Obligations.TallyBoundaryLatches : Prop :=
  ∀ (s : State) (g : Fin 1024) (n b : Nat),
  tallyDomain g s = some n →
  tdState n s ≠ 0 →
  b = counter n s / tallyPeriod g s * tallyPeriod g s →
  tallySeen g n s < b →
  lookup g.val s.tallyPend = none →
  Completes (.tallyBoundary g) s (fun t =>
    getF (TALLY_Gg_AT_AT g) t = b % 2 ^ 64 ∧ getF (TALLY_Gg_SEQ_SEQ g) t = (getF (TALLY_Gg_SEQ_SEQ g) s + 1) % 2 ^ (TALLY_Gg_SEQ_SEQ g).width ∧
    getF (TALLY_Gg_SAT_SAT g) t = b2n (decide (g.val ∈ s.satLive)) ∧
    (t.live.filter (fun k => decide (keyGroup k.1 = g))) = [] ∧
    (t.live.filter (fun k => decide (keyGroup k.1 ≠ g))) = (s.live.filter (fun k => decide (keyGroup k.1 ≠ g))) ∧
    (t.latched.filter (fun k => decide (keyGroup k.1 = g))) = (s.live.filter (fun k => decide (keyGroup k.1 = g))) ∧
    (t.latched.filter (fun k => decide (keyGroup k.1 < g))) = (s.latched.filter (fun k => decide (keyGroup k.1 < g))) ∧
    (t.latched.filter (fun k => decide (g < keyGroup k.1))) = (s.latched.filter (fun k => decide (g < keyGroup k.1))) ∧
    RegsExcept [TALLY_Gg_AT_AT g, TALLY_Gg_SEQ_SEQ g, TALLY_Gg_SAT_SAT g] s t ∧ Frame [.air, .tallies] s t)

/-- TIME_CONFIG sets source, ports and time of day of a DISABLED domain; TIME_ENABLE takes it to FREE; TIME_DISABLE takes a domain without bound cells
to DISABLED; TIME_STEP steps its counter by the signed amount; TIME_QUERY writes the domain record to the host's buffer; TIME_MARK has no effect but
its reply. Each ends with its final reply OK, and ends with STATE_CONFLICT and no effect where the domain's state does not allow it. -/
def Obligations.TimeCommands : Prop :=
  (∀ (s : State) (p : Pkt),
   ready p s = true →
   tdState (pTd p) s = 0 →
   srcAllowed (pTd p) (pf p 1 1 % 8) = true →
   Completes (.timeConfig p) s (fun t =>
     getF (AIR_TDn_CTRL_SRC (pTd p)) t = pf p 1 1 % 8 ∧ getF (AIR_TDn_CTRL_SYNCE (pTd p)) t = pf p 1 1 / 8 % 2 ∧
     getF (AIR_TDn_CTRL_PTPDOM (pTd p)) t = pf p 2 1 ∧ getF (AIR_TDn_PORTS_MASK (pTd p)) t = pf p 4 4 ∧
     getF (AIR_TDn_TOD_SECONDS (pTd p)) t = pf p 8 8 % 2 ^ 48 ∧ Ended p stOK 0 t ∧
     RegsExcept ([AIR_TDn_CTRL_SRC (pTd p), AIR_TDn_CTRL_SYNCE (pTd p), AIR_TDn_CTRL_PTPDOM (pTd p), AIR_TDn_PORTS_MASK (pTd p),
       AIR_TDn_TOD_SECONDS (pTd p)] ++ replyRegs p.window) s t ∧ Frame replyPieces s t)) ∧
  (∀ (s : State) (p : Pkt),
   ready p s = true →
   tdState (pTd p) s = 0 →
   ptpClash (pTd p) s = none →
   Completes (.timeEnable p) s (fun t =>
     getF (AIR_TDn_CTRL_EN (pTd p)) t = 1 ∧ tdState (pTd p) t = 1 ∧ (airOf (pTd p) t).integ = 0 ∧ getF (AIR_TDn_RATE_NOW (pTd p)) t = 0 ∧ Ended p stOK 0 t ∧
     RegsExcept ([AIR_TDn_CTRL_EN (pTd p), AIR_TDn_STATE_STATE (pTd p), AIR_TDn_STATE_SLEWING (pTd p), AIR_TDn_RATE_NOW (pTd p),
       AIR_TDn_HOLDOVER_ACTIVE (pTd p), AIR_TDn_HOLDOVER_AGE (pTd p)] ++ replyRegs p.window) s t ∧ Frame (.air :: replyPieces) s t)) ∧
  (∀ (s : State) (p : Pkt),
   ready p s = true →
   tdState (pTd p) s ≠ 0 →
   cellBound (pTd p) s = false →
   Completes (.timeDisable p) s (fun t =>
     getF (AIR_TDn_CTRL_EN (pTd p)) t = 0 ∧ tdState (pTd p) t = 0 ∧ counter (pTd p) t = counter (pTd p) s ∧ Ended p stOK 0 t ∧
     RegsExcept ([AIR_TDn_CTRL_EN (pTd p), AIR_TDn_STATE_STATE (pTd p), AIR_TDn_STATE_SLEWING (pTd p),
       AIR_TDn_HOLDOVER_ACTIVE (pTd p), AIR_TDn_HOLDOVER_AGE (pTd p)] ++ replyRegs p.window) s t ∧ Frame (.air :: replyPieces) s t)) ∧
  (∀ (s : State) (p : Pkt) (c : Instr),
   c = .timeDisable p ∨ c = .timeStep p →
   ready p s = true →
   tdState (pTd p) s = 0 ∨ cellBound (pTd p) s = true →
   Completes c s (fun t =>
     Ended p stSTATE_CONFLICT (conflictDetail 2 (pTd p) (tdState (pTd p) s)) t ∧ RegsExcept (replyRegs p.window) s t ∧ Frame replyPieces s t)) ∧
  (∀ (s : State) (p : Pkt),
   ready p s = true →
   tdState (pTd p) s ≠ 0 →
   cellBound (pTd p) s = false →
   Completes (.timeStep p) s (fun t =>
     ((airTotal (pTd p) t : Nat) : Int) = ((airTotal (pTd p) s : Int) + bitsInt 64 (pf p 4 8) * 2 ^ 40) % 2 ^ 104 ∧
     (airOf (pTd p) t).ref = none ∧ Ended p stOK 0 t ∧
     RegsExcept (AIR_TDn_COUNT_VALUE (pTd p) :: replyRegs p.window) s t ∧ Frame (.air :: replyPieces) s t)) ∧
  (∀ (s : State) (p : Pkt),
   ready p s = true →
   replyLands p.window s = true →
   pf p 4 8 + 64 ≤ getF (CMD_PWw_RR_BASE_ADDR p.window) s * 4096 ∨ getF (CMD_PWw_RR_BASE_ADDR p.window) s * 4096 + ringSize p.window s * 32 ≤ pf p 4 8 →
   Completes (.timeQuery p) s (fun t =>
     readBytes t.hostMem (pf p 4 8) 64 = domainRecord (pTd p) s ∧ Ended p stOK 0 t ∧ RegsExcept (replyRegs p.window) s t ∧ Frame replyPieces s t)) ∧
  (∀ (s : State) (p : Pkt),
   ready p s = true →
   tdState p.td s ≠ 0 →
   Completes (.timeMark p) s (fun t => Ended p stOK 0 t ∧ RegsExcept (replyRegs p.window) s t ∧ Frame replyPieces s t))

/-- The assertion of THROTTLE_N and a FORCE bit each make a cause active, on which the duty in force falls to DUTY and a release ends; an inactive pin
leaves the duty as it is; the release begins when every cause has been inactive for HOLD_US and raises the duty by 1 percent every 64 cycles up to
100. A DUTY outside 50 to 100 is ignored; one that the Escrow accepts with no cause active is shown in PWR_THROTTLE and ESC_DUTY. -/
def Obligations.ThrottleCauses : Prop :=
  (∀ (s : State),
   flagF PWR_TSTAT_PIN s = false →
   inReset s = false →
   Completes .throttleAssert s (fun t =>
     flagF PWR_TSTAT_PIN t = true ∧ getF PWR_TSTAT_IN_FORCE t % 128 = getF PWR_THROTTLE_DUTY s % 128 ∧ getF PWR_TSTAT_RELEASING t = 0 ∧ flagF PWR_STAT_PIN t = true ∧
     RegsExcept ([PWR_TSTAT_PIN, PWR_TSTAT_IN_FORCE, PWR_TSTAT_RELEASING, PWR_STAT_PIN] ++ vecRegs) s t ∧ Frame (.power :: vecPieces) s t)) ∧
  (∀ (s : State),
   flagF PWR_TSTAT_PIN s = true →
   flagF PWR_TSTAT_FORCE s = false ∧ flagF PWR_TSTAT_THERMAL s = false ∧ flagF PWR_TSTAT_CAP s = false →
   Completes .throttleDeassert s (fun t =>
     flagF PWR_TSTAT_PIN t = false ∧ getF PWR_TSTAT_IN_FORCE t = getF PWR_TSTAT_IN_FORCE s ∧ t.thrOff = s.now ∧
     RegsExcept [PWR_TSTAT_PIN] s t ∧ Frame [.power, .tallies, .radio] s t)) ∧
  (∀ (s : State),
   anyCause s = false →
   flagF PWR_TSTAT_RELEASING s = false →
   getF PWR_TSTAT_IN_FORCE s < 100 →
   s.thrOff + getF PWR_THROTTLE_HOLD_US s * 1000 * 1536 ≤ s.now →
   Completes .throttleHoldExpiry s (fun t =>
     flagF PWR_TSTAT_RELEASING t = true ∧ t.thrStep = s.now ∧ getF PWR_TSTAT_IN_FORCE t = getF PWR_TSTAT_IN_FORCE s ∧
     RegsExcept [PWR_TSTAT_RELEASING] s t ∧ Frame [.power] s t)) ∧
  (∀ (s : State),
   flagF PWR_TSTAT_RELEASING s = true →
   getF PWR_TSTAT_IN_FORCE s < 100 →
   s.thrStep + 64 * 1536 ≤ s.now →
   Completes .dutyReleaseStep s (fun t =>
     getF PWR_TSTAT_IN_FORCE t = getF PWR_TSTAT_IN_FORCE s + 1 ∧ t.thrStep = s.thrStep + 64 * 1536 ∧
     (flagF PWR_TSTAT_RELEASING t = decide (getF PWR_TSTAT_IN_FORCE s + 1 < 100)) ∧
     RegsExcept [PWR_TSTAT_RELEASING, PWR_TSTAT_IN_FORCE] s t ∧ Frame [.power] s t)) ∧
  (∀ (s : State) (w : BitVec 32),
   hostUp 0 s = true →
   w.toNat % 128 < 50 →
   bitAt 8 w.toNat = true →
   flagF PWR_TSTAT_FORCE s = false →
   Completes (.throttleForceWrite w) s (fun t =>
     flagF PWR_TSTAT_FORCE t = true ∧ getF PWR_THROTTLE_FORCE t = 1 ∧ getF PWR_THROTTLE_DUTY t = getF PWR_THROTTLE_DUTY s ∧
     getF PWR_TSTAT_IN_FORCE t % 128 = getF PWR_THROTTLE_DUTY s % 128 ∧
     getF PWR_THROTTLE_HOLD_US t = (if w.toNat / 2 ^ 16 % 256 = 0 then getF PWR_THROTTLE_HOLD_US s else w.toNat / 2 ^ 16 % 256) ∧
     RegsExcept [PWR_TSTAT_FORCE, PWR_THROTTLE_FORCE, PWR_TSTAT_IN_FORCE, PWR_TSTAT_RELEASING, PWR_THROTTLE_HOLD_US] s t ∧ Frame [.power] s t)) ∧
  (∀ (s : State) (w : BitVec 32),
   hostUp 0 s = true →
   50 ≤ w.toNat % 128 ∧ w.toNat % 128 ≤ 100 →
   dutyAccepted (w.toNat % 128) s = true →
   anyCause s = false →
   bitAt 8 w.toNat = false →
   Completes (.dutyWrite w) s (fun t =>
     getF PWR_THROTTLE_DUTY t = w.toNat % 128 ∧ getF ESC_DUTY_DUTY t = w.toNat % 128 ∧ getF PWR_THROTTLE_FORCE t = 0 ∧
     getF PWR_TSTAT_IN_FORCE t = getF PWR_TSTAT_IN_FORCE s ∧
     getF ESC_CAP_MC_CAP t = capAt (w.toNat % 128) 0 s % 2 ^ ESC_CAP_MC_CAP.width ∧
     RegsExcept ([PWR_THROTTLE_DUTY, ESC_DUTY_DUTY, PWR_THROTTLE_FORCE, PWR_THROTTLE_HOLD_US, ESC_CAP_MC_CAP, ESC_CAP_SC_CAP, ESC_CAP_COD_CAP, ESC_CAP_T1_CAP,
       ESC_STAT_AT_RISK, ESC_STAT_OVERCOMMIT] ++ vecRegs) s t ∧ Frame vecPieces s t)) ∧
  (∀ (s : State) (w : BitVec 32),
   hostUp 0 s = true →
   50 ≤ w.toNat % 128 ∧ w.toNat % 128 ≤ 100 →
   dutyAccepted (w.toNat % 128) s = false →
   flagF PWR_TSTAT_FORCE s = false →
   bitAt 8 w.toNat = false →
   Completes (.dutyWrite w) s (fun t =>
     getF PWR_THROTTLE_DUTY t = getF PWR_THROTTLE_DUTY s ∧ getF ESC_DUTY_DUTY t = getF ESC_DUTY_DUTY s ∧ flagF ESC_STAT_DUTY_REFUSED t = true ∧
     RegsExcept ([PWR_THROTTLE_FORCE, PWR_THROTTLE_HOLD_US, ESC_STAT_DUTY_REFUSED] ++ vecRegs) s t ∧ Frame vecPieces s t))

/-- With WATTS other than 0 and out of reset, the check of the estimates' average over 1 ms makes the cap cause active when the average exceeds WATTS,
on which the duty in force falls to DUTY; it clears the cause when the average is below 95 percent of WATTS, and leaves it as it is in between. -/
def Obligations.PowerCap : Prop :=
  ∀ (s : State),
  inReset s = false →
  0 < getF PWR_CAP_WATTS s →
  Completes .powerCapCheck s (fun t =>
    (getF PWR_CAP_WATTS s * s.pwrLast.length < s.pwrLast.sum → flagF PWR_TSTAT_CAP t = true ∧
      (flagF PWR_TSTAT_CAP s = false → getF PWR_TSTAT_IN_FORCE t % 128 = getF PWR_THROTTLE_DUTY s % 128 ∧ flagF PWR_STAT_CAP t = true)) ∧
    (s.pwrLast.sum ≤ getF PWR_CAP_WATTS s * s.pwrLast.length → 95 * getF PWR_CAP_WATTS s * s.pwrLast.length ≤ s.pwrLast.sum * 100 → flagF PWR_TSTAT_CAP t = flagF PWR_TSTAT_CAP s) ∧
    (s.pwrLast.sum * 100 < 95 * getF PWR_CAP_WATTS s * s.pwrLast.length → flagF PWR_TSTAT_CAP t = false) ∧
    RegsExcept ([PWR_TSTAT_CAP, PWR_TSTAT_IN_FORCE, PWR_TSTAT_RELEASING, PWR_STAT_CAP] ++ vecRegs) s t ∧ Frame [.power, .tallies, .bus, .radio] s t)

/-- Out of reset a sample of a sensor set shows its temperature, rounded to 0.25 degrees with its calibration, and its band, and the power estimate; a
die that reaches TRIP by its factory calibration latches TRIPPED. A POWERING domain that has come up reads ON. A Hjelo port's domain that fails, and
an idle Matrix Core's whose place a spare takes, reads FAULT and is reported in DOM_FAULT. -/
def Obligations.TemperatureAndDomains : Prop :=
  (∀ (s : State) (x : List (Nat × Int)) (cata : List Nat) (power current i : Nat) (raw : Int),
   inReset s = false →
   i < 24 →
   hottest i x = some raw →
   Completes (.tempSample x cata power current) s (fun t =>
     getF (PWR_TEMPi_NOW i) t = intBits 12 (clampInt (-2048) 2047 (quarters raw + calE true (32 + i) 32 (-2048) 2047 s)) ∧
     getF (PWR_TEMPi_BAND i) t = bandOf (clampInt (-2048) 2047 (quarters raw + calE true (32 + i) 32 (-2048) 2047 s)) ∧
     getF PWR_EST_POWER t = min 65535 power ∧ getF PWR_EST_CURRENT t = min 65535 current ∧
     getF PWR_PEAK_POWER t = max (min 65535 power) (getF PWR_PEAK_POWER s) % 2 ^ 16 ∧ t.pwrLast = (min 65535 power :: s.pwrLast).take 10 ∧
     Frame [.bus, .tallies, .power, .host, .front, .radio, .fault] s t)) ∧
  (∀ (s : State) (x : List (Nat × Int)) (cata : List Nat) (power current i : Nat) (raw : Int),
   inReset s = false →
   i < 12 →
   hottest i x = some raw →
   (getF PWR_THERM_TRIP s : Int) * 4 ≤ quarters raw + bitsInt 16 (getF (CAL_F_k_VALUE (32 + i)) s) →
   Completes (.tempSample x cata power current) s (fun t => flagF PWR_TSTAT_TRIPPED t = true ∧ issues t = false)) ∧
  (∀ (s : State) (d : Fin 192),
   getF (PWR_DOMd_STATE d) s = 1 →
   Completes (.domainPowerUp d) s (fun t => getF (PWR_DOMd_STATE d) t = 2 ∧ RegsExcept [PWR_DOMd_STATE d] s t ∧ Frame [] s t)) ∧
  (∀ (s : State) (d : Fin 192),
   getF (PWR_DOMd_STATE d) s = 1 ∨ getF (PWR_DOMd_STATE d) s = 2 →
   176 ≤ d.val →
   portWaiters (d.val - 176) s = [] →
   Completes (.domainPowerFault d) s (fun t =>
     getF (PWR_DOMd_STATE d) t = 3 ∧ getF (PWR_DOMd_FAULT d) t = 1 ∧ flagF PWR_STAT_DOM_FAULT t = true ∧ getF (HJF_Pp_STAT_STATE (d.val - 176)) t = 3 ∧
     (backlog 0 t).length = (backlog 0 s).length + 1)) ∧
  (∀ (s : State) (d : Fin 192) (n q : Nat),
   getF (PWR_DOMd_STATE d) s = 1 ∨ getF (PWR_DOMd_STATE d) s = 2 →
   d.val < 160 →
   mcLogical d s = some n →
   engAt n s = none →
   chooseSpare 20 (d.val / 20) ((mcSpares s).filter (fun p => decide (p ≠ d.val))) = some q →
   Completes (.domainPowerFault d) s (fun t =>
     getF (PWR_DOMd_STATE d) t = 3 ∧ getF (PWR_DOMd_FAULT d) t = 1 ∧ flagF PWR_STAT_DOM_FAULT t = true ∧ d.val ∈ t.mcRetired ∧ lookup n t.mcRetiring = some q ∧
     flagF MXC_STAT_RETIRED t = true))

namespace Sys2Proof

/-- What every reset of the device leaves. -/
def AfterReset (s t : State) : Prop :=
  t.toRadioState = State.reset.toRadioState ∧ t.toEngineState = State.reset.toEngineState ∧
  t.toMemState = { State.reset.toMemState with repairs := s.repairs } ∧
  t.toFabricState = { State.reset.toFabricState with fabSent := s.fabSent, fabDrop := s.fabDrop } ∧
  t.accepts = 0 ∧ t.bar2 = [] ∧ t.hostMem = s.hostMem ∧ t.now = s.now ∧ t.msgs = s.msgs ∧ t.flash = s.flash ∧ t.live = [] ∧
  flagF DEV_STAT_READY t = false ∧ t.resetAt = s.now ∧ t.bootDone = []

end Sys2Proof

/-- An FLR of the PF, a Hot Reset, the clearing of VF Enable with the PF, PERST#, a drop of VIO, the rails coming back and the release of PERST# each
leave no cell, context, object, packet or transaction, memory zero, READY clear, the Vault's words and host memory as they were, and what the device
has sent; the straps give the management address at the release of PERST#; a loss of VIN_CORE keeps of the Vault's buffer what has reached MRAM. Which
retired units the model keeps beside the Vault's words is its choice (log entry 40). -/
def Obligations.DeviceResets : Prop :=
  (∀ (s : State),
   Completes .flrPf s (fun t => AfterReset s t ∧ t.vault = s.vault ∧ t.perst = s.perst)) ∧
  (∀ (s : State),
   Completes .hotReset s (fun t => AfterReset s t ∧ t.vault = s.vault ∧ t.perst = s.perst)) ∧
  (∀ (s : State),
   Completes (.vfEnableClear true) s (fun t => AfterReset s t ∧ t.vault = s.vault ∧ t.perst = s.perst)) ∧
  (∀ (s : State),
   Completes .perstAssert s (fun t => AfterReset s t ∧ t.vault = s.vault ∧ t.perst = true ∧ inReset t = true)) ∧
  (∀ (s : State) (straps : Fin 4),
   s.perst = true →
   s.vin = true →
   s.vio = true →
   Completes (.perstDeassert straps) s (fun t =>
     AfterReset s t ∧ t.vault = s.vault ∧ t.perst = false ∧ inReset t = false ∧ t.perstAt = s.now ∧ getF DEV_MCTP_I3C_ADDR t = 0x58 + straps.val)) ∧
  (∀ (s : State),
   s.vin = false →
   Completes .vinCoreApply s (fun t => AfterReset s t ∧ t.vault = s.vault ∧ t.vin = true ∧ t.perstAt = s.now)) ∧
  (∀ (s : State) (n : Nat),
   s.vbuf = [] →
   Completes (.vinCoreLoss n) s (fun t => AfterReset s t ∧ t.vault = s.vault ∧ t.vin = false ∧ t.vbuf = [] ∧ flagF PWR_TSTAT_TRIPPED t = false)) ∧
  (∀ (s : State) (n : Nat) (x : VaultWrite) (r : List VaultWrite),
   s.vbuf = x :: r →
   n = 1 →
   Completes (.vinCoreLoss n) s (fun t => look 0 x.word t.vault = x.value ∧ (∀ y ∈ r, y.word ≠ x.word → look 0 y.word t.vault = look 0 y.word s.vault) ∧ t.vbuf = [])) ∧
  (∀ (s : State),
   s.vin = true →
   Completes .vioDrop s (fun t => AfterReset s t ∧ t.vault = s.vault ∧ t.vio = false ∧ inReset t = true)) ∧
  (∀ (s : State),
   s.vio = false →
   s.vin = true →
   s.perst = false →
   Completes .vioRestore s (fun t => AfterReset s t ∧ t.vault = s.vault ∧ t.vio = true ∧ inReset t = false ∧ t.perstAt = s.now))

/-- A step of the bring-up sequence that runs ends and is remembered: the link step shows the link, the first step that fails halts the sequence with
phase 0 and cause 1; the Supervisor in time makes the device READY, and a Supervisor out of time with no bank on trial halts the sequence at phase 6.
The oldest write of the Vault's buffer becomes persistent; an hour of operation counts in FLT_HOURS and goes to words 1,600 and 1,601 in turn. -/
def Obligations.BringUpAndVault : Prop :=
  (∀ (s : State) (speed width : Nat) (flit : Bool),
   stepRuns 2 [] s = true →
   Completes (.bringUpStepEnd (.link speed width flit)) s (fun t =>
     getF DEV_LINK_SPEED t = speed % 2 ^ DEV_LINK_SPEED.width ∧ getF DEV_LINK_WIDTH t = width % 2 ^ DEV_LINK_WIDTH.width ∧ getF DEV_LINK_FLIT t = b2n flit ∧
     t.bootDone = 2 :: s.bootDone ∧ RegsExcept [DEV_LINK_SPEED, DEV_LINK_WIDTH, DEV_LINK_FLIT, DEV_BOOT_PHASE] s t ∧ Frame [.host] s t)) ∧
  (∀ (s : State) (ue : List Nat),
   stepRuns 1 [] s = true →
   Completes (.bringUpStepEnd (.fuses false ue)) s (fun t =>
     getF DEV_BOOT_FAIL t = 1 ∧ getF DEV_BOOT_PHASE t = 0 ∧ getF DEV_BOOT_CAUSE t = 1 ∧ t.bootDone = s.bootDone)) ∧
  (∀ (s : State),
   stepRuns 5 [4] s = true →
   Completes (.bringUpStepEnd .fillT1) s (fun t =>
     bitAt 1 (getF MEMC_FILL_DONE t) = true ∧ t.bootDone = 5 :: s.bootDone ∧ t.supAt = (if released { s with bootDone := 5 :: s.bootDone } ∧ !released s then s.now else s.supAt) ∧
     RegsExcept [MEMC_FILL_DONE, DEV_BOOT_PHASE] s t ∧ Frame [.host] s t)) ∧
  (∀ (s : State) (kver : BitVec 32),
   starting s = true →
   s.now ≤ s.supAt + 2 * 1536 * 10 ^ 9 →
   Completes (.supervisorReady kver) s (fun t =>
     flagF DEV_STAT_READY t = true ∧ getF DEV_BOOT_PHASE t = 7 ∧ getF SIG_KVER_VERSION t = kver.toNat % 2 ^ SIG_KVER_VERSION.width ∧ flagF SEC_BOOT_PENDING t = false)) ∧
  (∀ (s : State),
   starting s = true →
   s.supAt + 2 * 1536 * 10 ^ 9 < s.now →
   flagF SEC_BOOT_PENDING s = false →
   Completes .supervisorReadyTimeout s (fun t =>
     getF SEC_BOOT_RESULT t = 3 ∧ getF DEV_BOOT_FAIL t = 1 ∧ getF DEV_BOOT_PHASE t = 6 ∧ getF DEV_BOOT_CAUSE t = 5 ∧ flagF DEV_STAT_READY t = false)) ∧
  (∀ (s : State) (x : VaultWrite) (r : List VaultWrite),
   s.vbuf = x :: r →
   x.pkt = 0 →
   x.reset = false →
   Completes .vaultPersist s (fun t =>
     look 0 x.word t.vault = x.value ∧ (∀ w ∈ s.vault.map Prod.fst, w ≠ x.word → look 0 w t.vault = look 0 w s.vault) ∧ t.vbuf = r ∧
     getF SEC_VAULT_STAT_PENDING t = min 8 r.length ∧
     look 0 x.word t.wear = (if look 0 x.word s.vault = x.value then look 0 x.word s.wear else min (2 ^ 24 - 1) (look 0 x.word s.wear + 1)) ∧
     RegsExcept ([SEC_VAULT_STAT_PENDING, SEC_VAULT_STAT_WORN, SEC_STAT_VAULT] ++ vecRegs) s t ∧ Frame (.power :: vecPieces) s t)) ∧
  (∀ (s : State),
   Completes .hoursTick s (fun t =>
     getF FLT_HOURS_HOURS t = (getF FLT_HOURS_HOURS s + 1) % 2 ^ FLT_HOURS_HOURS.width ∧
     vaultNow (1600 + (getF FLT_HOURS_HOURS s + 1) % 2) t = (getF FLT_HOURS_HOURS s + 1) % 2 ^ 64 ∧
     RegsExcept [FLT_HOURS_HOURS, SEC_VAULT_STAT_PENDING] s t ∧ Frame [.power] s t))

/-- VF Enable brings VFs 1 to n into being and its clear alone takes them away; an FLR of a VF disables its windows, drops its packets and Ledger and
clears its mailbox; Bus Master Enable and the power state are kept; unmasking a vector sends its pending message; a host read that completes delivers
its data and one that fails is recorded; a poisoned TLP sets EP_RX; a PTM dialogue that does not complete clears VALID; a stream that fails its IDE
checks becomes Insecure. -/
def Obligations.FunctionsAndInterrupts : Prop :=
  (∀ (s : State) (n : Fin 33),
   Completes (.vfEnableSet n) s (fun t =>
     (∀ v ∈ vfNumbers, (fnOf v t).present = ((fnOf v s).present || decide (v ≤ n.val))) ∧ fnOf 0 t = fnOf 0 s ∧
     RegsExcept [] s t ∧ Frame [.bus, .msixTable] s t)) ∧
  (∀ (s : State),
   (∀ v ∈ vfNumbers, (fnOf v s).present = false) →
   Completes (.vfEnableClear false) s (fun t => t = s)) ∧
  (∀ (s : State),
   (∀ v ∈ vfNumbers, funcPart v s = none) →
   s.accepted = [] →
   Completes (.vfEnableClear false) s (fun t =>
     (∀ v ∈ vfNumbers, (fnOf v t).present = false) ∧ fnOf 0 t = fnOf 0 s ∧
     Frame [.bus, .msixTable, .tallies, .radio, .commands, .fault, .engine] s t)) ∧
  (∀ (s : State) (v : Fin 33),
   v ≠ 0 →
   (fnOf v s).present = true →
   funcPart v s = none →
   (∀ p ∈ s.accepted, p.window / 4 ≠ v.val) →
   Completes (.flrVf v) s (fun t =>
     (∀ w ∈ windowsOf v, flagF (CMD_PWw_CTRL_EN w) t = false ∧ getF (CMD_PWw_RR_TAIL_TAIL w) t = 0 ∧ getF (CMD_PWw_RR_HEAD_HEAD w) t = 0) ∧
     t.accepted = s.accepted ∧ backlog v t = [] ∧ getF (FLT_LGf_NEXT_NEXT v) t = 0 ∧ getF (FLT_LGf_TAIL_TAIL v) t = 0 ∧
     flagF (SCHED_MBXv_CTRL_V2P_FULL (v - 1)) t = false ∧ flagF (SCHED_MBXv_CTRL_P2V_FULL (v - 1)) t = false ∧
     (∀ a ∈ s.mbx.map Prod.fst, readByte t.mbx a = if a / 2 ^ 12 = v.val then 0 else readByte s.mbx a) ∧
     fnOf v t = ⟨true, false, false, false, []⟩ ∧ Frame [.bus, .msixTable, .tallies, .radio, .commands, .fault, .engine] s t)) ∧
  (∀ (s : State) (f : Fin 33) (on : Bool),
   (fnOf f s).present = true →
   Completes (.busMasterEnableWrite f on) s (fun t => fnOf f t = { fnOf f s with bme := on } ∧ RegsExcept [] s t ∧ Frame [.bus] s t)) ∧
  (∀ (s : State) (f : Fin 33) (d3 : Bool),
   (fnOf f s).present = true →
   Completes (.powerStateWrite f d3) s (fun t => fnOf f t = { fnOf f s with d3 := d3 } ∧ RegsExcept [] s t ∧ Frame [.bus] s t)) ∧
  (∀ (s : State) (f : Fin 33) (v : Nat),
   (fnOf f s).pend = [v] →
   (fnOf f s).fmask = false →
   mayMaster f s = true →
   v < vecCount f →
   Completes (.msixUnmask f (some v) false) s (fun t =>
     vecMasked f v t = false ∧ t.msgs = s.msgs ++ [⟨f, v⟩] ∧ fnOf f t = { fnOf f s with pend := [] } ∧ RegsExcept [] s t ∧ Frame [.bus, .msixTable] s t)) ∧
  (∀ (s : State) (f : Fin 33) (v : Nat) (b : Byte),
   (fnOf f s).present = true →
   (fnOf f s).pend = [] →
   v < vecCount f →
   Completes (.msixUnmask f (some v) (decide (b ≠ 0))) s (fun t =>
     vecMasked f v t = decide (b ≠ 0) ∧ t.fns = s.fns ∧ t.msgs = s.msgs ∧ RegsExcept [] s t ∧ Frame [.msixTable] s t)) ∧
  (∀ (s : State) (w : HostRead) (addr : Nat) (data : List Byte),
   Completes (.hostReadCompletion w true addr data) s (fun t =>
     readBytes t.hostMem addr data.length = data ∧ SameOutside addr data.length s.hostMem t.hostMem ∧ RegsExcept [] s t ∧ Frame [.hostMem] s t)) ∧
  (∀ (s : State) (addr id : Nat) (data : List Byte),
   mayMaster 0 s = true →
   s.stage = none →
   (∀ p ∈ s.accepted, p.id ≠ id) →
   Completes (.hostReadCompletion (.command id) false addr data) s (fun t =>
     flagF DEV_HOSTERR_CPL_ERR t = true ∧ getF DEV_HOSTERR_FUNC t = 0 ∧ RegsExcept ([DEV_HOSTERR_CPL_ERR] ++ vecRegs) s t ∧ Frame vecPieces s t)) ∧
  (∀ (s : State) (f : Fin 33),
   Completes (.epTlpReceive f) s (fun t => flagF DEV_HOSTERR_EP_RX t = true ∧ RegsExcept ([DEV_HOSTERR_EP_RX] ++ vecRegs) s t ∧ Frame vecPieces s t)) ∧
  (∀ (s : State) (off16 : Int) (mpd : Nat),
   Completes (.ptmDialogue true false off16 mpd) s (fun t => getF DEV_PTM_VALID t = 0 ∧ RegsExcept [DEV_PTM_VALID] s t ∧ Frame [] s t)) ∧
  (∀ (s : State) (off16 : Int) (mpd : Nat),
   tdState 6 s = 4 →
   Completes (.ptmDialogue true true off16 mpd) s (fun t =>
     getF DEV_PTM_VALID t = 1 ∧ getF (AIR_TDn_OFFSET_OFS 6) t = intBits 32 off16 ∧ (airOf 6 t).lastMeas = s.now ∧ (airOf 6 t).ref = some (counter 6 s) ∧
     counter 6 t = counter 6 s ∧ Frame [.air] s t))

/-- A write of up to 64 bytes to the writable bytes of a slot lands in the posting function's region; a write of the PF to another function's region
is discarded and reported. A read of the aperture that a function may make returns the bytes of the Unified Range, one that it may not is refused,
counted and completes with Completer Abort; a write that it may not make is discarded and counted. A base above 8 TiB less 64 GiB is refused and any
other is kept. -/
def Obligations.ApertureAndWindowAccesses : Prop :=
  (∀ (s : State) (f : Fin 33) (off : Nat) (l : List Byte),
   hostUp f s = true →
   (fnOf f s).present = true →
   l.length ≤ 64 →
   off + l.length ≤ 2 ^ 18 →
   0x40 ≤ off % 4096 →
   off % 4096 + l.length ≤ 4096 →
   Completes (.bar2Write f off l) s (fun t =>
     readBytes t.bar2 (f.val * 2 ^ 18 + off) l.length = l ∧ SameOutside (f.val * 2 ^ 18 + off) l.length s.bar2 t.bar2 ∧
     RegsExcept [] s t ∧ t.accepted = s.accepted ∧ t.seals = s.seals ∧ Frame [.host] s t)) ∧
  (∀ (s : State) (off : Nat) (l : List Byte),
   hostUp 0 s = true →
   (fnOf 0 s).present = true →
   l.length ≤ 64 →
   2 ^ 18 ≤ off ∧ off < 0x840000 →
   Completes (.bar2Write 0 off l) s (fun t =>
     flagF DEV_HOSTERR_BAR2_W t = true ∧ t.bar2 = s.bar2 ∧ RegsExcept (DEV_HOSTERR_BAR2_W :: vecRegs) s t ∧ Frame vecPieces s t)) ∧
  (∀ (s : State) (f : Fin 33) (off n : Nat),
   apIn f off n s = true →
   apOk f (apAddr f off s) n s = true →
   anyHeld (apAddr f off s) n s = false →
   anyPoison (apAddr f off s) n s = false →
   Completes (.bar4Read f off n) s (fun t =>
     t.rdata = leNat (urRead (apAddr f off s) n s) ∧ t.rstat = 0 ∧ RegsExcept [] s t ∧ Frame [.air] s t)) ∧
  (∀ (s : State) (f : Fin 33) (off n : Nat),
   apIn f off n s = true →
   apOk f (apAddr f off s) n s = false →
   Completes (.bar4Read f off n) s (fun t =>
     t.rstat = 2 ∧ t.rdata = 0 ∧ flagF DEV_HOSTERR_B4_DENIED t = true ∧ RegsExcept (DEV_HOSTERR_B4_DENIED :: vecRegs) s t ∧ Frame (.air :: vecPieces) s t)) ∧
  (∀ (s : State) (f : Fin 33) (off : Nat) (l : List Byte),
   apIn f off l.length s = true →
   l ≠ [] →
   apOk f (apAddr f off s) l.length s = false →
   Completes (.bar4Write f off l) s (fun t =>
     flagF DEV_HOSTERR_B4_DENIED t = true ∧ t.mem = s.mem ∧ RegsExcept (DEV_HOSTERR_B4_DENIED :: vecRegs) s t ∧ Frame vecPieces s t)) ∧
  (∀ (s : State) (f : Fin 33) (off : Nat) (l : List Byte),
   apIn f off l.length s = true →
   l ≠ [] →
   apOk f (apAddr f off s) l.length s = true →
   apAddr f off s % 64 + l.length ≤ 64 →
   s.poison = [] ∧ s.migs = [] ∧ s.fabHeld = [] ∧ s.shadows = [] →
   objPoisoned (apAddr f off s) s = false →
   Completes (.bar4Write f off l) s (fun t =>
     readBytes t.mem (loadAddr (apAddr f off s) s) l.length = l ∧ SameOutside (loadAddr (apAddr f off s) s) l.length s.mem t.mem)) ∧
  (∀ (s : State) (f : Fin 33) (v : BitVec 64),
   streamOut f s = false →
   v.toNat / 2 ^ 21 % 2 ^ 22 * 2 ^ 21 ≤ 2 ^ 43 - 2 ^ 36 →
   Completes (.b4BaseWrite f f v) s (fun t =>
     getF (DEV_B4f_BASE_BASE f) t = v.toNat / 2 ^ 21 % 2 ^ 22 ∧ RegsExcept [DEV_B4f_BASE_BASE f] s t ∧ Frame [] s t)) ∧
  (∀ (s : State) (f : Fin 33) (v : BitVec 64),
   streamOut f s = false →
   2 ^ 43 - 2 ^ 36 < v.toNat / 2 ^ 21 % 2 ^ 22 * 2 ^ 21 →
   Completes (.b4BaseWrite f f v) s (fun t =>
     getF (DEV_B4f_BASE_BASE f) t = getF (DEV_B4f_BASE_BASE f) s ∧ flagF DEV_HOSTERR_B4_REFUSED t = true ∧ RegsExcept (DEV_HOSTERR_B4_REFUSED :: vecRegs) s t ∧ Frame vecPieces s t))

namespace Sys2Proof

/-- Event masks: registers of one RW field. -/
def maskFields : List Fld := [DEV_EVT_MASK_MASK, AIR_EVT_MASK_MASK, ESC_EVT_MASK_MASK, SIG_EVT_MASK_MASK, COD_EVT_MASK_MASK, MXC_EVT_MASK_MASK,
  TIER_EVT_MASK_MASK, MEMC_EVT_MASK_MASK, CHK_EVT_MASK_MASK, HJF_EVT_MASK_MASK, SCHED_EVT_MASK_MASK, FLT_EVT_MASK_MASK, PWR_EVT_MASK_MASK, SEC_EVT_MASK_MASK]

/-- The block of every register is open to the PF. -/
def allOpen (s : State) : Prop := tlpTaken 0 s = true ∧ flagF DEV_STAT_READY s = true ∧ getF SEC_BOOT_RESULT s ≠ 3

end Sys2Proof

/-- In an open block, a 32-bit write by the PF of an event mask sets it, a write of 1s to the status bits of a block clears those bits and no others,
and a write of a read-only register changes nothing; a read returns the register, and the lower half of a 64-bit register captures its upper half,
which the next read of that half returns even if the register has moved on. An access of another size or alignment is refused and reported, but a
small aligned read returns its bytes with no side effect. PWR_PEAK is returned and cleared. -/
def Obligations.RegisterAccesses : Prop :=
  (∀ (s : State) (g : Fld) (v : BitVec 64),
   allOpen s →
   g ∈ maskFields →
   v.toNat < 2 ^ 32 →
   Completes (.registerWrite 0 g.off false v) s (fun t =>
     getF g t = v.toNat / 2 ^ g.lo % 2 ^ g.width ∧ RegsExcept [g] s t ∧ Frame [] s t)) ∧
  (∀ (s : State) (v : BitVec 64),
   allOpen s →
   v.toNat < 2 ^ 32 →
   Completes (.registerWrite 0 AIR_EVT false v) s (fun t =>
     (∀ i ∈ domains, bitAt i (getF AIR_EVT_HOLD t) = (bitAt i (getF AIR_EVT_HOLD s) && !bitAt i v.toNat)) ∧
     (∀ i ∈ domains, bitAt i (getF AIR_EVT_EXCEED t) = (bitAt i (getF AIR_EVT_EXCEED s) && !bitAt (16 + i) v.toNat)) ∧
     RegsExcept [AIR_EVT_HOLD, AIR_EVT_LOCKED, AIR_EVT_EXCEED, AIR_EVT_TSQ_OVF] s t ∧ Frame [] s t)) ∧
  (∀ (s : State) (off : Nat) (v : BitVec 64),
   allOpen s →
   off = DEV_IDENT ∨ off = AIR_TDn_STATE 3 ∨ off = PWR_TSTAT →
   Completes (.registerWrite 0 off false v) s (fun t =>
     RegsExcept [AIR_TDn_STATE_EPOCH_REFUSED 3] s t ∧ Frame [] s t)) ∧
  (∀ (s : State) (n : Fin 8),
   allOpen s →
   captureOf 0 (AIR_TDn_COUNT n) s = none →
   Completes (.regLowerHalfRead 0 (AIR_TDn_COUNT n) false) s (fun t =>
     t.rdata = counter n s % 2 ^ 32 ∧ t.rstat = 0 ∧ captureOf 0 (AIR_TDn_COUNT n + 4) t = some (counter n s / 2 ^ 32 % 2 ^ 32) ∧
     RegsExcept [] s t ∧ Frame [.air, .captured] s t)) ∧
  (∀ (s : State) (n : Fin 8) (x : Nat),
   allOpen s →
   captureOf 0 (AIR_TDn_COUNT n + 4) s = some x →
   Completes (.regLowerHalfRead 0 (AIR_TDn_COUNT n + 4) false) s (fun t =>
     t.rdata = x ∧ t.rstat = 0 ∧ captureOf 0 (AIR_TDn_COUNT n + 4) t = none ∧ RegsExcept [] s t ∧ Frame [.air, .captured] s t)) ∧
  (∀ (s : State) (n : Fin 8),
   allOpen s →
   Completes (.regLowerHalfRead 0 (AIR_TDn_COUNT n) true) s (fun t =>
     t.rdata = counter n s ∧ t.rstat = 0 ∧ RegsExcept [] s t ∧ Frame [.air, .captured] s t)) ∧
  (∀ (s : State) (f : Fin 33) (a : Bar0Acc),
   tlpTaken f s = true →
   accessOk a.off a.size = false →
   4 ≤ a.size ∨ 4 < a.off % 4 + a.size ∨ a.size = 0 →
   Completes (.bar0IllegalAccess f a) s (fun t =>
     flagF DEV_HOSTERR_BAR0 t = true ∧ (a.read = true → t.rdata = 0 ∧ t.rstat = 1) ∧ (a.read = false → t.toAirState = s.toAirState) ∧
     RegsExcept (DEV_HOSTERR_BAR0 :: vecRegs) s t ∧ Frame (.air :: vecPieces) s t)) ∧
  (∀ (s : State) (f : Fin 33) (a : Bar0Acc),
   tlpTaken f s = true →
   a.read = true →
   0 < a.size →
   a.size < 4 →
   a.off % 4 + a.size ≤ 4 →
   Completes (.bar0IllegalAccess f a) s (fun t =>
     t.rdata = wordShows (wordAt f (a.off / 4 * 4) s) s / 256 ^ (a.off % 4) % 256 ^ a.size ∧ t.rstat = 0 ∧ RegsExcept [] s t ∧ Frame [.air] s t)) ∧
  (∀ (s : State) (f : Fin 33) (a : Bar0Acc),
   tlpTaken f s = true →
   a.read = false →
   0 < a.size →
   a.size < 4 →
   Completes (.bar0IllegalAccess f a) s (fun t => flagF DEV_HOSTERR_BAR0 t = true ∧ RegsExcept (DEV_HOSTERR_BAR0 :: vecRegs) s t ∧ Frame vecPieces s t)) ∧
  (∀ (s : State),
   hostUp 0 s = true →
   Completes .pwrPeakRead s (fun t =>
     t.rdata = getF PWR_PEAK_POWER s ∧ t.rstat = 0 ∧ getF PWR_PEAK_POWER t = 0 ∧ RegsExcept [PWR_PEAK_POWER] s t ∧ Frame [.air] s t))

namespace Sys2Proof

/-- The responder on a binding has negotiated algorithms, on a part that has its identity. -/
def spdmReady (via : Nat) (s : State) : Prop := spdmUp s = true ∧ retired s = false ∧ 3 ≤ (spdmOf via s).phase

/-- The one message sent, with no register and nothing but the host side changed. -/
def Said (m : MgmtMsg) (s t : State) : Prop := t.mgmtOut = m :: s.mgmtOut ∧ RegsExcept [] s t ∧ Frame [.host] s t

end Sys2Proof

/-- While the device is up, on each binding GET_VERSION starts negotiation again, GET_CAPABILITIES and NEGOTIATE_ALGORITHMS follow it in order, and a
part that is not RETIRED then answers digests, its certificate, challenges and measurements, exchanges keys, finishes, ends, keeps alive and re-keys a
session; a request out of order is answered UnexpectedRequest. Nothing but the responder and what it sends changes; random bytes are drawn as free
values. The order of requests and the layout of a measurement response are taken from SPDM 1.3 (log entries 27 and 28), and so are the model's. -/
def Obligations.SpdmServed : Prop :=
  (∀ (s : State) (via : Fin 3),
   spdmUp s = true →
   Completes (.getVersion via) s (fun t => Said (.spdm via .version) s t ∧ spdmOf via t = ⟨1, 0⟩)) ∧
  (∀ (s : State) (via : Fin 3),
   spdmUp s = true →
   1 ≤ (spdmOf via s).phase →
   Completes (.getCapabilities via) s (fun t => Said (.spdm via .capabilities) s t ∧ spdmOf via t = ⟨2, 0⟩)) ∧
  (∀ (s : State) (via : Fin 3),
   spdmUp s = true →
   2 ≤ (spdmOf via s).phase →
   Completes (.negotiateAlgorithms via true true) s (fun t => Said (.spdm via .algorithms) s t ∧ spdmOf via t = ⟨3, 0⟩)) ∧
  (∀ (s : State) (via : Fin 3) (a b : Byte),
   spdmUp s = true →
   (spdmOf via s).phase = 0 →
   Completes (.negotiateAlgorithms via (decide (a = 0)) (decide (b = 0))) s (fun t => Said (.spdm via .unexpectedRequest) s t ∧ t.spdm = s.spdm)) ∧
  (∀ (s : State) (via : Fin 3),
   spdmReady via s →
   Completes (.getDigests via) s (fun t => Said (.spdm via (.digests (sha3 Config.certChain))) s t ∧ t.spdm = s.spdm)) ∧
  (∀ (s : State) (via : Fin 3) (off len : Nat),
   spdmReady via s →
   Completes (.getCertificate via 0 off len) s (fun t =>
     Said (.spdm via (if Config.certChain.length < off then .invalidRequest
       else .certificate ((Config.certChain.drop off).take len) (Config.certChain.length - off - min len (Config.certChain.length - off)))) s t ∧ t.spdm = s.spdm)) ∧
  (∀ (s : State) (via : Fin 3) (nonce : List Byte),
   spdmReady via s →
   Completes (.challenge via 0 nonce) s (fun t =>
     t.mgmtOut = .spdm via (.challengeAuth (sha3 Config.certChain) (sha3 ([1, 2, 3, 4, 5, 6, 7].flatMap (fun i => measureBlock i s))) (drawBytes 4 s).1
       (aliasSign (sha3 Config.certChain ++ (drawBytes 4 s).1 ++ sha3 ([1, 2, 3, 4, 5, 6, 7].flatMap (fun i => measureBlock i s)) ++ nonce) s)) :: s.mgmtOut ∧
     t.draws = s.draws + 4 ∧ RegsExcept [] s t ∧ Frame [.host, .draws] s t)) ∧
  (∀ (s : State) (via : Fin 3) (index : Nat) (signed : Bool) (nonce : List Byte),
   spdmReady via s →
   1 ≤ index ∧ index ≤ 7 →
   Completes (.getMeasurements via index signed nonce) s (fun t => Said (.spdm via (.measurements (measureBody [index] nonce signed s))) s t ∧ t.spdm = s.spdm)) ∧
  (∀ (s : State) (via : Fin 3) (index : Nat) (signed : Bool) (nonce : List Byte),
   spdmReady via s →
   7 < index →
   index ≠ 255 →
   Completes (.getMeasurements via index signed nonce) s (fun t => Said (.spdm via .invalidRequest) s t ∧ t.spdm = s.spdm)) ∧
  (∀ (s : State) (via : Fin 3) (dhe : List Byte),
   spdmReady via s →
   Completes (.keyExchange via dhe) s (fun t =>
     t.mgmtOut = .spdm via (.keyExchangeRsp (drawBytes 12 s).1 (aliasSign (dhe ++ (drawBytes 12 s).1) s)) :: s.mgmtOut ∧ (spdmOf via t).session = 1 ∧
     (spdmOf via t).phase = (spdmOf via s).phase ∧ t.draws = s.draws + 12 ∧ RegsExcept [] s t ∧ Frame [.host, .draws] s t)) ∧
  (∀ (s : State) (via : Fin 3),
   spdmReady via s →
   (spdmOf via s).session = 1 →
   Completes (.finish via true) s (fun t => Said (.spdm via .finishRsp) s t ∧ (spdmOf via t).session = 2)) ∧
  (∀ (s : State) (via : Fin 3),
   spdmReady via s →
   (spdmOf via s).session = 2 →
   Completes (.endSession via) s (fun t => Said (.spdm via .endSessionAck) s t ∧ (spdmOf via t).session = 0)) ∧
  (∀ (s : State) (via : Fin 3),
   spdmReady via s →
   (spdmOf via s).session = 2 →
   Completes (.heartbeatSpdm via) s (fun t => Said (.spdm via .heartbeatAck) s t ∧ t.spdm = s.spdm)) ∧
  (∀ (s : State) (via : Fin 3),
   spdmReady via s →
   (spdmOf via s).session = 2 →
   Completes (.keyUpdate via) s (fun t => Said (.spdm via .keyUpdateAck) s t ∧ t.spdm = s.spdm))

/-- The PF's DOE mailbox answers Discovery and carries IDE keys in an established session; a stream whose check fails becomes Insecure and sets IDE;
MCTP Set Endpoint ID is kept by the binding and other message types are discarded; an event receiver is kept; an update pulls its image in order, is
checked, written to the bank that the record does not name and activated; the recovery update of a device without a valid image writes bank 0. -/
def Obligations.ManagementServed : Prop :=
  (∀ (s : State) (i len : Nat),
   spdmUp s = true →
   len ≤ 65536 →
   Completes (.doeRequest 0 len (.discovery i)) s (fun t =>
     t.mgmtOut = .discovery Config.doeVendor i (if i < 2 then i + 1 else 0) :: s.mgmtOut ∧ RegsExcept [] s t ∧ Frame [.host] s t)) ∧
  (∀ (s : State) (n len : Nat),
   spdmUp s = true →
   (spdmOf 2 s).session = 2 →
   len ≤ 65536 →
   Completes (.doeRequest 0 len (.secured (.ideKeySet n))) s (fun t =>
     t.mgmtOut = .ideKeyed n :: s.mgmtOut ∧ lookup n t.insecure = none ∧ RegsExcept [] s t ∧ Frame [.host] s t)) ∧
  (∀ (s : State) (f : Fin 33) (len : Nat) (d : DoeObj),
   f ≠ 0 ∨ 65536 < len →
   Completes (.doeRequest f len d) s (fun t => t = s)) ∧
  (∀ (s : State) (stream : Fin 9) (fns : List Nat),
   Completes (.ideCheckFail stream fns) s (fun t =>
     lookup stream.val t.insecure = some fns ∧ flagF DEV_HOSTERR_IDE t = true ∧ (∀ f ∈ fns, mayMaster f t = false ∧ hostUp f t = false) ∧
     RegsExcept (DEV_HOSTERR_IDE :: vecRegs) s t ∧ Frame (.host :: vecPieces) s t)) ∧
  (∀ (s : State) (via : Fin 2) (e : Byte),
   inReset s = false →
   flagF DEV_STAT_READY s = true →
   Completes (.mctpMessage via (.setEid e)) s (fun t =>
     getF (eidF via) t = e.toNat ∧ t.mgmtOut = .endpoint via e.toNat :: s.mgmtOut ∧ RegsExcept [eidF via] s t ∧ Frame [.host] s t)) ∧
  (∀ (s : State) (via : Fin 2) (n : Nat),
   Completes (.mctpMessage via (.other n)) s (fun t => t = s)) ∧
  (∀ (s : State) (via : Fin 2) (eid : Byte),
   recovering s = false →
   flagF DEV_STAT_READY s = true →
   bitAt 9 (getF FLT_HEART_ALIVE s) = true →
   Completes (.setEventReceiver via eid) s (fun t =>
     t.evtRecv = some (via.val, eid.toNat) ∧ t.mgmtOut = .pldmOk via :: s.mgmtOut ∧ RegsExcept [] s t ∧ Frame [.host] s t)) ∧
  (∀ (s : State) (via : Fin 2) (len : Nat),
   recovering s = false →
   flagF DEV_STAT_READY s = true →
   bitAt 9 (getF FLT_HEART_ALIVE s) = true →
   retired s = false →
   (∀ q ∈ s.accepted, q.opcode < 0x0801 ∨ 0x0803 < q.opcode) →
   s.upd.mode = .idle →
   Completes (.requestUpdate via len) s (fun t =>
     t.upd = ⟨.transfer, len, 0, []⟩ ∧ t.mgmtOut = .wantData 0 (min len 4096) :: .pldmOk via :: s.mgmtOut ∧ RegsExcept [] s t ∧ Frame [.host] s t)) ∧
  (∀ (s : State) (data : List Byte),
   s.upd.mode = .transfer →
   s.upd.got + data.length < s.upd.len →
   Completes (.requestFirmwareData data) s (fun t =>
     t.upd.mode = .transfer ∧ t.upd.got = s.upd.got + data.length ∧ readBytes t.upd.buf s.upd.got data.length = data ∧
     SameOutside s.upd.got data.length s.upd.buf t.upd.buf ∧
     t.mgmtOut = .wantData (s.upd.got + data.length) (min (s.upd.len - (s.upd.got + data.length)) 4096) :: s.mgmtOut ∧ RegsExcept [] s t ∧ Frame [.host] s t)) ∧
  (∀ (s : State) (data : List Byte),
   s.upd.mode = .transfer →
   s.upd.len ≤ s.upd.got + data.length →
   s.upd.got ≤ s.upd.len →
   Completes (.requestFirmwareData data) s (fun t =>
     t.upd.mode = .verify ∧ t.upd.got = s.upd.len ∧ t.mgmtOut = .transferComplete :: s.mgmtOut ∧ RegsExcept [] s t ∧ Frame [.host] s t)) ∧
  (∀ (s : State),
   s.upd.mode = .verify →
   Completes .verifyComplete s (fun t =>
     t.mgmtOut = .verifyComplete (imageReason (updImage s) s) :: s.mgmtOut ∧
     (imageReason (updImage s) s = 0 → t.upd = { s.upd with mode := .apply } ∧ RegsExcept [] s t) ∧
     (imageReason (updImage s) s ≠ 0 → t.upd.mode = .idle ∧ flagF SEC_STAT_AUTH_FAIL t = true) ∧ t.flash = s.flash)) ∧
  (∀ (s : State),
   s.upd.mode = .apply →
   recovering s = false →
   Completes (.applyComplete true) s (fun t =>
     readBytes t.flash ((1 - fwBank s) * 2 ^ 28) s.upd.len = updImage s ∧ SameOutside ((1 - fwBank s) * 2 ^ 28) s.upd.len s.flash t.flash ∧
     t.upd.mode = .ready ∧ t.mgmtOut = .applyComplete true :: s.mgmtOut ∧ RegsExcept [] s t ∧ Frame [.host] s t)) ∧
  (∀ (s : State),
   s.upd.mode = .apply →
   recovering s = false →
   Completes (.applyComplete false) s (fun t =>
     t.upd.mode = .idle ∧ t.mgmtOut = .applyComplete false :: s.mgmtOut ∧ RegsExcept [] s t ∧ Frame [.host] s t)) ∧
  (∀ (s : State) (via : Fin 2),
   recovering s = false →
   flagF DEV_STAT_READY s = true →
   bitAt 9 (getF FLT_HEART_ALIVE s) = true →
   s.upd.mode = .ready →
   Completes (.activateFirmware via) s (fun t =>
     t.upd = ⟨.idle, 0, 0, []⟩ ∧ t.mgmtOut = .pldmOk via :: s.mgmtOut ∧ t.vbuf.length = s.vbuf.length + 8 ∧ vaultNow 16 t = fwBank s + 2 * (1 - fwBank s) + 4 ∧
     RegsExcept [SEC_VAULT_STAT_PENDING] s t ∧ Frame [.host, .power] s t)) ∧
  (∀ (s : State),
   recovering s = true →
   s.upd.mode = .apply →
   Completes (.recoveryUpdate true) s (fun t =>
     readBytes t.flash 0 s.upd.len = updImage s ∧ SameOutside 0 s.upd.len s.flash t.flash ∧ t.upd.mode = .idle ∧
     t.mgmtOut = .applyComplete true :: s.mgmtOut ∧ t.vbuf.getLast?.map (fun w => w.reset) = some true ∧ vaultNow 16 t = 0))

/-- BYPASS, IDCODE and SAMPLE/PRELOAD are loaded at any time; the instructions that take the pins are loaded while PERST# is asserted and give BYPASS
outside it; a debug instruction halts a processor in the life-cycle states that allow debug and does nothing in the others. No other state changes. -/
def Obligations.TapInstructions : Prop :=
  (∀ (s : State),
   Completes .bypass s (fun t => t = { s with tapIr := .bypass, tapOut := some 0 })) ∧
  (∀ (s : State),
   Completes .idcode s (fun t => t.tapIr = .idcode ∧ t.tapOut.map (fun n => n / 2 ^ 12 % 2 ^ 16) = some 0x0A96 ∧ RegsExcept [] s t ∧ Frame [.host] s t)) ∧
  (∀ (s : State) (pins load : List Bool),
   Completes (.samplePreload pins load) s (fun t =>
     t.tapIr = .sample ∧ t.bsr = load ∧ (∀ i ∈ List.range pins.length, t.tapOut.map (bitAt i) = some (pins.getD i false)) ∧ RegsExcept [] s t ∧ Frame [.host] s t)) ∧
  (∀ (s : State),
   Completes .extest s (fun t => t = (if s.perst then { s with tapIr := .extest, tapOut := none } else { s with tapIr := .bypass, tapOut := some 0 }))) ∧
  (∀ (s : State),
   Completes .extestPulse s (fun t => t = (if s.perst then { s with tapIr := .extestPulse, tapOut := none } else { s with tapIr := .bypass, tapOut := some 0 }))) ∧
  (∀ (s : State),
   Completes .extestTrain s (fun t => t = (if s.perst then { s with tapIr := .extestTrain, tapOut := none } else { s with tapIr := .bypass, tapOut := some 0 }))) ∧
  (∀ (s : State),
   Completes .clamp s (fun t => t = (if s.perst then { s with tapIr := .clamp, tapOut := none } else { s with tapIr := .bypass, tapOut := some 0 }))) ∧
  (∀ (s : State),
   Completes .highz s (fun t => t = (if s.perst then { s with tapIr := .highz, tapOut := none } else { s with tapIr := .bypass, tapOut := some 0 }))) ∧
  (∀ (s : State) (k : Fin 10),
   debugOpen s = true →
   Completes (.jtagDebugHalt k) s (fun t => k.val ∈ t.halted ∧ t.tapIr = .debug ∧ flagF DEV_DBG_HALTED t = true ∧ RegsExcept [DEV_DBG_HALTED] s t ∧ Frame [.host, .fault] s t)) ∧
  (∀ (s : State) (k : Fin 10),
   debugOpen s = false →
   Completes (.jtagDebugHalt k) s (fun t => t = s))

/-- SEC_FW_STAGE, when it is legal, begins the fetch for the bank that the firmware record does not name, and its end writes that bank if the image
passes its checks and reports the reason otherwise; SEC_FW_ACTIVATE and SEC_LC_ADVANCE put their record in the Vault's buffer and end, and the device
resets, once it is persistent; a token whose MAGIC is wrong ends AUTH_FAIL with reason 1 and a fresh nonce; SEC_MEASURE writes its response where it
fits; SEC_CAL_WRITE sets CAL_U and ends once its word is persistent. -/
def Obligations.SecurityCommands : Prop :=
  (∀ (s : State) (p : Pkt),
   ready p s = true →
   chkStage p s = none →
   mayMaster p.func s = true →
   Completes (.secFwStage p) s (fun t =>
     t.stage = some ⟨p.id, pf p 0 8, pf p 8 4, getF SEC_STAGE_STATE s⟩ ∧ getF SEC_STAGE_STATE t = 1 ∧ getF SEC_STAGE_REASON t = 0 ∧
     getF SEC_STAGE_BANK t = 1 - fwBank s ∧ t.accepted = s.accepted ∧ p.id ∈ t.begun ∧ t.flash = s.flash ∧
     RegsExcept [SEC_STAGE_STATE, SEC_STAGE_REASON, SEC_STAGE_BANK, CMD_TIMED_PENDING] s t ∧ Frame [.host, .commands] s t)) ∧
  (∀ (s : State) (g : Stage),
   s.stage = some g →
   mayMaster 0 s = true →
   Completes (.firmwareStageComplete true) s (fun t =>
     t.stage = none ∧
     (imageReason (readBytes s.hostMem g.addr g.len) s = 0 → getF SEC_STAGE_STATE t = 2 ∧ readBytes t.flash (getF SEC_STAGE_BANK s * 2 ^ 28) g.len = readBytes s.hostMem g.addr g.len) ∧
     (imageReason (readBytes s.hostMem g.addr g.len) s ≠ 0 → getF SEC_STAGE_STATE t = 3 ∧
       getF SEC_STAGE_REASON t = imageReason (readBytes s.hostMem g.addr g.len) s ∧ t.flash = s.flash ∧ flagF SEC_STAT_AUTH_FAIL t = true))) ∧
  (∀ (s : State) (p : Pkt),
   ready p s = true →
   chkActivate p s = none →
   s.ctxs = [] →
   Completes (.secFwActivate p) s (fun t =>
     t.vbuf.length = s.vbuf.length + 8 ∧ t.vbuf.getLast?.map (fun w => (w.pkt, w.reset)) = some (p.id + 1, true) ∧
     vaultNow 16 t = fwBank s + 2 * (getF SEC_STAGE_BANK s % 2) + 4 + 8 * (pf p 0 1 % 2) ∧ t.accepted = s.accepted ∧
     RegsExcept [SEC_VAULT_STAT_PENDING, CMD_TIMED_PENDING] s t ∧ Frame [.power, .commands] s t)) ∧
  (∀ (s : State) (p : Pkt),
   ready p s = true →
   chkLc p s = none →
   pSigner p s = some .noToken →
   s.ctxs = [] →
   s.cells = [] →
   (∀ n ∈ domains, partSt n s = 0) →
   Completes (.secLcAdvance p) s (fun t =>
     t.vbuf.length = s.vbuf.length + 16 ∧ t.vbuf.getLast?.map (fun w => (w.pkt, w.reset)) = some (p.id + 1, true) ∧
     vaultNow 6 t / 2 ^ 32 % 8 = 2 ∧ vaultNow 6 t / 2 ^ 40 = (getF SEC_LC_COUNT s + 1) % 2 ^ 24 ∧ t.accepted = s.accepted ∧
     RegsExcept [SEC_VAULT_STAT_PENDING, CMD_TIMED_PENDING] s t ∧ Frame [.power, .commands] s t)) ∧
  (∀ (s : State) (p : Pkt) (g : Signer),
   ready p s = true →
   chkLc p s = none →
   pSigner p s = some g →
   g ≠ .noToken →
   mayMaster p.func s = true →
   fieldLE (readBytes s.hostMem (pf p 8 8) 4) 0 4 ≠ 0x4B4F544C →
   Completes (.secLcAdvance p) s (fun t => Ended p stAUTH_FAIL 1 t ∧ flagF SEC_STAT_AUTH_FAIL t = true ∧ t.draws = s.draws + 4 ∧ t.vbuf = s.vbuf)) ∧
  (∀ (s : State) (p : Pkt),
   ready p s = true →
   Completes (.secMeasure p) s (fun t =>
     ((smRecord p s).length ≤ pf p 40 4 → Ended p stOK (b2n (retired s)) t) ∧
     (pf p 40 4 < (smRecord p s).length → Ended p stBAD_PARAM (72 + (smRecord p s).length * 2 ^ 32) t) ∧
     RegsExcept (replyRegs p.window) s t ∧ Frame replyPieces s t)) ∧
  (∀ (s : State) (p : Pkt),
   ready p s = true →
   chkCal p s = none →
   Completes (.secCalWrite p) s (fun t =>
     getF (CAL_U_k_VALUE (pf p 0 2)) t = pf p 4 2 ∧ t.vbuf = s.vbuf ++ [⟨512 + pf p 0 2, pf p 4 2, p.id + 1, false⟩] ∧ t.accepted = s.accepted ∧ p.id ∈ t.begun ∧
     RegsExcept [CAL_U_k_VALUE (pf p 0 2), SEC_VAULT_STAT_PENDING, CMD_TIMED_PENDING] s t ∧ Frame [.power, .commands] s t))

namespace Sys2Proof

/-- The command of the table that an accepted packet's opcode names (R104). -/
def packetCommand (p : Pkt) : Option Instr :=
  match p.opcode with
  | 0x0101 => some (.devInfo p)
  | 0x0102 => some (.devQuiesce p)
  | 0x0103 => some (.devResume p)
  | 0x0104 => some (.devReset p)
  | 0x0105 => some (.partSet p)
  | 0x0106 => some (.partClear p)
  | 0x0107 => some (.devEcho p)
  | 0x0201 => some (.timeConfig p)
  | 0x0202 => some (.timeEnable p)
  | 0x0203 => some (.timeDisable p)
  | 0x0204 => some (.timeStep p)
  | 0x0205 => some (.timeQuery p)
  | 0x0206 => some (.timeMark p)
  | 0x0301 => some (.cellCreate p)
  | 0x0302 => some (.cellReconfig p)
  | 0x0303 => some (.cellDelete p)
  | 0x0304 => some (.cellQuery p)
  | 0x0305 => some (.cellNeural p)
  | 0x0401 => some (.slotUl p)
  | 0x0402 => some (.slotDl p)
  | 0x0501 => some (.ctxCreate p)
  | 0x0502 => some (.ctxDestroy p)
  | 0x0503 => some (.stepSubmit p)
  | 0x0504 => some (.ctxSeed p)
  | 0x0505 => some (.ctxSuspend p)
  | 0x0506 => some (.ctxResume p)
  | 0x0507 => some (.ctxQuery p)
  | 0x0601 => some (.objCreate p)
  | 0x0602 => some (.objFree p)
  | 0x0603 => some (.objPromote p)
  | 0x0604 => some (.objEvict p)
  | 0x0605 => some (.objPin p)
  | 0x0606 => some (.objUnpin p)
  | 0x0607 => some (.objKeys p)
  | 0x0608 => some (.objQuery p)
  | 0x0701 => some (.fabPort p)
  | 0x0702 => some (.fabRoute p)
  | 0x0703 => some (.fabGroup p)
  | 0x0704 => some (.fabFence p)
  | 0x0705 => some (.fabUnfence p)
  | 0x0706 => some (.fabQuery p)
  | 0x0801 => some (.secLcAdvance p)
  | 0x0802 => some (.secFwStage p)
  | 0x0803 => some (.secFwActivate p)
  | 0x0804 => some (.secMeasure p)
  | 0x0805 => some (.secCalWrite p)
  | 0x0901 => some (.diagAssay p)
  | 0x0902 => some (.diagSpare p)
  | 0x0903 => some (.diagTally p)
  | 0x0904 => some (.diagInject p)
  | _ => none

/-- The checks of R96 on the packet that slot k of window w holds. -/
def slotCheck96 (w k : Nat) (s : State) : Option (Nat × Nat) :=
  let h := slotHdr w k s
  let raw := readBytes s.bar2 (slotAddr w k + 0x60) (min 4000 (hdrPlen h))
  let s1 := putSeal w k (sealOf w k s) { s with bar2 := writeBytes (slotAddr w k + 8) (natLE 8 (sealOf w k s)) s.bar2, accepts := s.accepts + 1 }
  (chkHeader h raw (slotPkt w k h raw s) s1).or ((chkLength h raw (slotPkt w k h raw s) s1).or (chkEffect (slotPkt w k h raw s) s1))

/-- The packet that slot k of window w holds. -/
def packetIn (w k : Nat) (s : State) : Pkt := slotPkt w k (slotHdr w k s) (readBytes s.bar2 (slotAddr w k + 0x60) (min 4000 (hdrPlen (slotHdr w k s)))) s

/-- No slot of the window has a Seal that is neither the last count seen nor the next. -/
def sealsGood (w : Nat) (s : State) : Prop :=
  ∀ k ∈ slots, sealOf w k s = lastSeal w k s ∨ sealOf w k s = (lastSeal w k s + 1) % 2 ^ 32

end Sys2Proof

/-- A sweep of a window that holds nothing new changes nothing but STALLED; a found packet that passes every check is acknowledged and accepted and
LASTSEQ takes its SEQ; one whose header CRC fails is acknowledged, ends HDR_CRC and is not accepted. Enabling a window zeroes its Seals, Acks and last
counts; disabling it leaves BUSY while replies are to come; HEAD moves up to TAIL and no further. The effect of a packet whose air time, or whose turn
behind a barrier, has come is the effect of its command, and so it is for one that waited for the Supervisor. -/
def Obligations.CommandSweeper : Prop :=
  (∀ (s : State) (w : Fin 132),
   sweeps w s = true →
   sealsGood w s →
   foundSlots w s = [] →
   Completes (.commandSweep w) s (fun t => flagF (CMD_PWw_STAT_STALLED w) t = false ∧ RegsExcept [CMD_PWw_STAT_STALLED w] s t ∧ Frame [] s t)) ∧
  (∀ (s : State) (w : Fin 132) (k : Nat),
   sweeps w s = true →
   sealsGood w s →
   foundSlots w s = [k] →
   2 ≤ ringFree w s →
   slotCheck96 w k s = none →
   Completes (.commandSweep w) s (fun t =>
     t.accepted = s.accepted ++ [packetIn w k s] ∧ t.accepts = s.accepts + 1 ∧ lastSeal w k t = sealOf w k s ∧
     leNat (readBytes t.bar2 (slotAddr w k + 8) 8) = sealOf w k s ∧ SameOutside (slotAddr w k + 8) 8 s.bar2 t.bar2 ∧
     getF (CMD_PWw_LASTSEQ_SEQ w) t = (packetIn w k s).seq % 2 ^ 32 ∧ ((packetIn w k s).at_ ≠ 0 → (packetIn w k s).id ∈ t.timed))) ∧
  (∀ (s : State) (w : Fin 132) (k : Nat),
   sweeps w s = true →
   sealsGood w s →
   foundSlots w s = [k] →
   2 ≤ ringFree w s →
   crc32c ((slotHdr w k s).take 28) ≠ fieldLE (slotHdr w k s) 28 4 →
   (packetIn w k s).opcode / 256 ≠ 4 →
   Completes (.commandSweep w) s (fun t =>
     t.accepted = s.accepted ∧ lastSeal w k t = sealOf w k s ∧ leNat (readBytes t.bar2 (slotAddr w k + 8) 8) = sealOf w k s ∧
     (replyLands w t = true → lastReply w t =
       replyBytes (packetIn w k s) stHDR_CRC true 0 (packetIn w k s).acceptAt (ringSize w t) (lastEntry w t)))) ∧
  (∀ (s : State) (w : Fin 132) (v : BitVec 32),
   hostUp 0 s = true →
   flagF (CMD_PWw_CTRL_EN w) s = false →
   bitAt 0 v.toNat = true →
   newTotal w v.toNat s ≤ 4096 * sweepScale →
   Completes (.pwEnable 0 w v) s (fun t =>
     flagF (CMD_PWw_CTRL_EN w) t = true ∧ flagF (CMD_PWw_STAT_BUSY w) t = false ∧ flagF (CMD_PWw_STAT_STALLED w) t = false ∧
     getF (CMD_PWw_CTRL_ERR_IRQ w) t = v.toNat / 2 ^ 16 % 2 ∧ getF (CMD_PWw_CTRL_IRQ_EN w) t = v.toNat / 2 ^ 17 % 2 ∧
     (∀ k ∈ slots, lastSeal w k t = 0 ∧ readBytes t.bar2 (slotAddr w k) 16 = zeros 16) ∧
     RegsExcept [CMD_PWw_CTRL_EN w, CMD_PWw_CTRL_SWEEP w, CMD_PWw_CTRL_ERR_IRQ w, CMD_PWw_CTRL_IRQ_EN w, CMD_PWw_STAT_BUSY w, CMD_PWw_STAT_STALLED w,
       CMD_LOAD_DEMAND] s t ∧ Frame [.host] s t)) ∧
  (∀ (s : State) (w : Fin 132) (v : BitVec 32),
   hostUp 0 s = true →
   flagF (CMD_PWw_CTRL_EN w) s = true →
   bitAt 0 v.toNat = false →
   newTotal w v.toNat s ≤ 4096 * sweepScale →
   Completes (.pwDisable 0 w v) s (fun t =>
     flagF (CMD_PWw_CTRL_EN w) t = false ∧ getF (CMD_PWw_STAT_BUSY w) t = b2n (s.accepted.any (fun p => decide (p.window = w))) ∧
     t.accepted = s.accepted ∧ getF (CMD_PWw_CTRL_SWEEP w) t = getF (CMD_PWw_CTRL_SWEEP w) s % 2 ^ (CMD_PWw_CTRL_SWEEP w).width ∧
     RegsExcept [CMD_PWw_CTRL_EN w, CMD_PWw_CTRL_SWEEP w, CMD_PWw_CTRL_ERR_IRQ w, CMD_PWw_CTRL_IRQ_EN w, CMD_PWw_STAT_BUSY w, CMD_PWw_STAT_STALLED w,
       CMD_LOAD_DEMAND] s t ∧ Frame [] s t)) ∧
  (∀ (s : State) (f : Fin 33) (w : Fin 132) (v : BitVec 32),
   f ≠ 0 →
   Completes (.pwEnable f w v) s (fun t => t = s) ∧ Completes (.pwDisable f w v) s (fun t => t = s)) ∧
  (∀ (s : State) (f : Fin 33) (w : Fin 132) (v : BitVec 32),
   hostUp f s = true →
   f.val = 0 ∨ w.val / 4 = f.val →
   (v.toNat % 2 ^ 17 + 2 ^ 17 - getF (CMD_PWw_RR_HEAD_HEAD w) s) % 2 ^ 17 ≤ (getF (CMD_PWw_RR_TAIL_TAIL w) s + 2 ^ 17 - getF (CMD_PWw_RR_HEAD_HEAD w) s) % 2 ^ 17 →
   Completes (.rrHeadWrite f w v) s (fun t => getF (CMD_PWw_RR_HEAD_HEAD w) t = v.toNat % 2 ^ 17 ∧ RegsExcept [CMD_PWw_RR_HEAD_HEAD w] s t ∧ Frame [] s t)) ∧
  (∀ (s : State) (f : Fin 33) (w : Fin 132) (v : BitVec 32),
   hostUp f s = true →
   f.val = 0 ∨ w.val / 4 = f.val →
   (getF (CMD_PWw_RR_TAIL_TAIL w) s + 2 ^ 17 - getF (CMD_PWw_RR_HEAD_HEAD w) s) % 2 ^ 17 < (v.toNat % 2 ^ 17 + 2 ^ 17 - getF (CMD_PWw_RR_HEAD_HEAD w) s) % 2 ^ 17 →
   Completes (.rrHeadWrite f w v) s (fun t => flagF (CMD_PWw_STAT_HEAD_ERR w) t = true ∧ RegsExcept [CMD_PWw_STAT_HEAD_ERR w] s t ∧ Frame [] s t)) ∧
  (∀ (s : State) (id : Nat) (p : Pkt) (c : Instr),
   s.accepted.find? (fun q => decide (q.id = id)) = some p →
   p.id ∈ s.timed →
   due p s = true →
   packetCommand p = some c →
   Completes (.timedEffect id) s (fun t => exec c s = .next t)) ∧
  (∀ (s : State) (id : Nat) (p : Pkt) (c : Instr),
   s.accepted.find? (fun q => decide (q.id = id)) = some p →
   p.barrier = true →
   waitsBarrier p s = false →
   packetCommand p = some c →
   Completes (.barrierRelease id) s (fun t => exec c s = .next t)) ∧
  (∀ (s : State),
   bitAt 9 (getF FLT_HEART_ALIVE s) = false →
   s.deferred = [] →
   Completes .supervisorRestart s (fun t => bitAt 9 (getF FLT_HEART_ALIVE t) = true ∧ lookup 9 t.missed = none ∧ RegsExcept [FLT_HEART_ALIVE] s t ∧ Frame [.fault] s t)) ∧
  (∀ (s : State) (id : Nat) (p : Pkt) (c : Instr),
   bitAt 9 (getF FLT_HEART_ALIVE s) = false →
   s.deferred = [id] →
   s.accepted.find? (fun q => decide (q.id = id)) = some p →
   packetCommand p = some c →
   Completes .supervisorRestart s (fun t => exec c (orF FLT_HEART_ALIVE 9 { s with deferred := [], missed := put 9 none s.missed }) = .next t))

/-- DEV_INFO writes its record to the host's buffer, DEV_ECHO answers the CRC-32C of its payload, and DEV_RESET, legal with FORCE or with no cell
admitted or draining, ends and resets the device; without FORCE and with such a cell it ends STATE_CONFLICT. -/
def Obligations.DeviceCommands : Prop :=
  (∀ (s : State) (p : Pkt),
   ready p s = true →
   chkInfo p s = none →
   replyLands p.window s = true →
   pf p 0 8 + 128 ≤ getF (CMD_PWw_RR_BASE_ADDR p.window) s * 4096 ∨ getF (CMD_PWw_RR_BASE_ADDR p.window) s * 4096 + ringSize p.window s * 32 ≤ pf p 0 8 →
   Completes (.devInfo p) s (fun t =>
     readBytes t.hostMem (pf p 0 8) 128 = infoRecord p s ∧ Ended p stOK 0 t ∧ RegsExcept (replyRegs p.window) s t ∧ Frame replyPieces s t)) ∧
  (∀ (s : State) (p : Pkt),
   ready p s = true →
   Completes (.devEcho p) s (fun t => Ended p stOK (crc32c p.payload) t ∧ RegsExcept (replyRegs p.window) s t ∧ Frame replyPieces s t)) ∧
  (∀ (s : State) (p : Pkt),
   ready p s = true →
   chkReset p s = none →
   Completes (.devReset p) s (fun t =>
     flagF DEV_STAT_READY t = false ∧ t.cells = [] ∧ t.accepted = [] ∧ t.toEngineState = State.reset.toEngineState ∧ t.vault = s.vault ∧ t.resetAt = s.now ∧
     getF (CMD_PWw_RR_TAIL_TAIL p.window) t = 0)) ∧
  (∀ (s : State) (p : Pkt) (c : Nat × Cell),
   ready p s = true →
   pf p 0 4 = 0 →
   s.cells.find? (fun c => decide (c.2.st = 1) || decide (c.2.st = 2)) = some c →
   Completes (.devReset p) s (fun t => Ended p stSTATE_CONFLICT (conflictDetail 3 c.1 c.2.st) t ∧ RegsExcept (replyRegs p.window) s t ∧ Frame replyPieces s t))

namespace Sys2Proof

/-- The fields in which the Escrow shows its capacities and how credit stands to them (R62, R65). -/
def escrowShown : List Fld := [ESC_CAP_MC_CAP, ESC_CAP_SC_CAP, ESC_CAP_COD_CAP, ESC_CAP_T1_CAP, ESC_STAT_AT_RISK, ESC_STAT_OVERCOMMIT]

/-- The fields of ESC_CEILING, in the order of their resources (R63). -/
def ceilingFields : List Fld := [ESC_CEILING_MC, ESC_CEILING_SC, ESC_CEILING_COD, ESC_CEILING_T1, ESC_CEILING_FH]

/-- What a write of ESC_CEILING gives resource x. -/
def ceilingGiven (v : BitVec 64) (x : Nat) : Nat := v.toNat / 2 ^ (8 * x) % 128

end Sys2Proof

/-- A write of ESC_CEILING that raises or keeps every ceiling takes effect, and one that lowers a ceiling below the credit in use is refused whole
with CEIL_REFUSED. A window is placed on a core in service without another window there at its planning point, with its work divided by D as its
length; at its Release Horizon it keeps what the accepted jobs need, rounded up, and never grows; at its start it opens; an open window whose work has
ended is returned when at least RETURN_MIN_US of it is left, and not otherwise. How several windows of one slot share the retained length is the
model's choice (log entry 11). -/
def Obligations.EscrowCommands : Prop :=
  (∀ (s : State) (v : BitVec 64),
   hostUp 0 s = true →
   (∀ x ∈ List.range 5, ceiling x s ≤ ceilingGiven v x ∧ 10 ≤ ceilingGiven v x ∧ ceilingGiven v x ≤ 95) →
   Completes (.ceilingWrite v) s (fun t =>
     (∀ x ∈ List.range 5, ceiling x t = ceilingGiven v x) ∧ RegsExcept (ceilingFields ++ escrowShown ++ vecRegs) s t ∧ Frame vecPieces s t)) ∧
  (∀ (s : State) (v : BitVec 64) (x : Nat),
   hostUp 0 s = true →
   x < 4 →
   10 ≤ ceilingGiven v x ∧ ceilingGiven v x ≤ 95 ∧ ceilingGiven v x < ceiling x s →
   capAt (dutyPct s) x s * ceilingGiven v x < usedCredit x s * 100 →
   Completes (.ceilingWrite v) s (fun t =>
     flagF ESC_STAT_CEIL_REFUSED t = true ∧ RegsExcept (ESC_STAT_CEIL_REFUSED :: vecRegs) s t ∧ Frame vecPieces s t)) ∧
  (∀ (s : State) (core : Nat) (c : Fin 512) (slot : Nat) (ul neural : Bool) (start work : Nat) (cell : Cell),
   lookup c.val s.cells = some cell →
   coreInService core s = true →
   coreSuspect core s = false →
   overlaps core start (workToCycles work s) s = false →
   (windowInterval cell slot ul neural s).1 ≤ start →
   ((start + nsToTc (workToCycles work s) : Nat) : Int) ≤ (windowInterval cell slot ul neural s).2 →
   planPoint cell.cfg start s ≤ counter (cfgTd cell.cfg) s →
   Completes (.windowPlan core c slot ul neural start work false) s (fun t =>
     t.toRadioState = { s.toRadioState with windows := s.windows ++ [⟨core, c.val, slot, ul, neural, cfgTd cell.cfg, start, workToCycles work s,
       getF ESC_CTRL_RELEASE_US s, false, false⟩] } ∧ RegsExcept [] s t ∧ Frame [.radio] s t)) ∧
  (∀ (s : State) (core : Nat) (c : Fin 512) (slot : Nat) (ul neural : Bool) (start work : Nat) (short : Bool),
   coreInService core s = false ∨ coreSuspect core s = true ∨ overlaps core start (workToCycles work s) s = true →
   Completes (.windowPlan core c slot ul neural start work short) s (fun t => t = s)) ∧
  (∀ (s : State) (core start : Nat) (w : Window) (c : Cell),
   findWindow core start s = some w →
   lookup w.cell s.cells = some c →
   w.retained = false →
   w.start ≤ counter w.td s + usToTc w.releaseUs →
   Completes (.releaseHorizon core start) s (fun t =>
     findWindow core start t = (if min w.len (retainedTotal c w s - heldBefore w s.windows) = 0 then none
       else some { w with len := min w.len (retainedTotal c w s - heldBefore w s.windows), retained := true }) ∧
     t.windows.filter (fun v => decide (v.core ≠ core ∨ v.start ≠ start)) = s.windows.filter (fun v => decide (v.core ≠ core ∨ v.start ≠ start)) ∧
     t.toRadioState = { s.toRadioState with windows := t.windows, tallyRem := t.tallyRem } ∧ RegsExcept [] s t ∧ Frame [.radio, .tallies] s t)) ∧
  (∀ (s : State) (core start : Nat) (w : Window),
   findWindow core start s = some w →
   w.opened = false →
   w.start ≤ counter w.td s →
   Completes (.windowOpen core start) s (fun t =>
     findWindow core start t = some { w with opened := true } ∧ getF (MXC_Cn_INFO_STATE core) t = 1 ∧ getF (MXC_Cn_INFO_CTX core) t = 0 ∧
     t.windows.filter (fun v => decide (v.core ≠ core ∨ v.start ≠ start)) = s.windows.filter (fun v => decide (v.core ≠ core ∨ v.start ≠ start)) ∧
     t.toRadioState = { s.toRadioState with windows := t.windows } ∧
     RegsExcept [MXC_Cn_INFO_STATE core, MXC_Cn_INFO_CTX core] s t ∧ Frame [.radio] s t)) ∧
  (∀ (s : State) (core start : Nat) (w : Window),
   findWindow core start s = some w →
   w.opened = true →
   getF ESC_CTRL_RETURN_MIN_US s * 1000 ≤ windowLeft w s →
   Completes (.earlyReturn core start) s (fun t =>
     findWindow core start t = none ∧ getF (MXC_Cn_INFO_STATE core) t = 0 ∧
     t.windows.filter (fun v => decide (v.core ≠ core ∨ v.start ≠ start)) = s.windows.filter (fun v => decide (v.core ≠ core ∨ v.start ≠ start)) ∧
     t.toRadioState = { s.toRadioState with windows := t.windows, tallyRem := t.tallyRem } ∧
     RegsExcept [MXC_Cn_INFO_STATE core] s t ∧ Frame [.radio, .tallies] s t)) ∧
  (∀ (s : State) (core start : Nat) (w : Window),
   findWindow core start s = some w →
   w.opened = true →
   windowLeft w s < getF ESC_CTRL_RETURN_MIN_US s * 1000 →
   Completes (.earlyReturn core start) s (fun t => t = s))

namespace Sys2Proof

/-- No Flow Table entry of the engine of logical port k belongs to cell c. -/
def noFlows (c k : Nat) (s : State) : Prop := (flowsValid (k / 8) s).all (fun f => decide (getF (FH_Ff_MAP_CELL (k / 8) f) s ≠ c)) = true

end Sys2Proof

/-- CELL_CREATE of an ABSENT cell in an enabled domain of TD0 to TD5 that the Escrow admits makes the cell ADMITTED with its configuration, credit,
carve and first slot; CELL_RECONFIG changes the configuration, credit and carve of an ADMITTED cell and keeps the rest; CELL_NEURAL sets its neural
receiver; CELL_DELETE makes it DRAINING and leaves its reply to the end of draining; at that end, once no job and no window of it is left, the cell is
ABSENT, its entries of the Flow Table are gone and the CELL_DELETE ends OK. CELL_QUERY writes the cell record. Each ends STATE_CONFLICT with no effect
in another state. -/
def Obligations.CellCommands : Prop :=
  (∀ (s : State) (p : Pkt),
   ready p s = true →
   chkCellCreate p s = none →
   secBusy p s = none →
   admitAdds createAdds p s = none →
   Completes (.cellCreate p) s (fun t =>
     lookup (pCell p) t.cells = some ⟨1, p.payload.take 768, false, 0, 0, false, 0, 0, 0, cellCredit (p.payload.take 768) 0 s, t0Carve (p.payload.take 768),
       t1Carve (p.payload.take 768) 0, firstSlotOf (p.payload.take 768) (effectTime p (cfgTd (p.payload.take 768)) s) s,
       stackOn (cfgLport (p.payload.take 768) / 8) s, stackOn ((cfgLport (p.payload.take 768) / 8 + 2) % 4) s, true, true, false, []⟩ ∧
     (∀ d ∈ (s.cells ++ t.cells).map Prod.fst, d ≠ pCell p → lookup d t.cells = lookup d s.cells) ∧
     reserved p t = false ∧ Ended p stOK 0 t ∧ t.toEngineState = s.toEngineState ∧ t.toMemState = s.toMemState ∧ t.toFaultState = s.toFaultState)) ∧
  (∀ (s : State) (p : Pkt),
   ready p s = true →
   cellSt (pCell p) s ≠ 0 →
   (∀ r ∈ s.resv, r.id ≠ p.id) →
   Completes (.cellCreate p) s (fun t =>
     Ended p stSTATE_CONFLICT (conflictDetail 3 (pCell p) (cellSt (pCell p) s)) t ∧ RegsExcept (replyRegs p.window) s t ∧ Frame replyPieces s t)) ∧
  (∀ (s : State) (p : Pkt) (x : Cell),
   ready p s = true →
   lookup (pCell p) s.cells = some x →
   x.st = 1 →
   admitAdds reconfigAdds p s = none →
   Completes (.cellReconfig p) s (fun t =>
     lookup (pCell p) t.cells = some { x with
       cfg := p.payload.take 768, credit := cellCredit (p.payload.take 768) x.gnr s,
       t0Frames := t0Carve (p.payload.take 768), t1Frames := t1Carve (p.payload.take 768) x.imageLen } ∧
     reserved p t = false ∧ Ended p stOK 0 t ∧ t.toEngineState = s.toEngineState ∧ t.toMemState = s.toMemState ∧ t.toFaultState = s.toFaultState)) ∧
  (∀ (s : State) (p : Pkt) (c : Instr),
   c = .cellReconfig p ∨ c = .cellNeural p →
   ready p s = true →
   cellSt (pCell p) s ≠ 1 →
   (∀ r ∈ s.resv, r.id ≠ p.id) →
   Completes c s (fun t =>
     Ended p stSTATE_CONFLICT (conflictDetail 3 (pCell p) (cellSt (pCell p) s)) t ∧ RegsExcept (replyRegs p.window) s t ∧ Frame replyPieces s t)) ∧
  (∀ (s : State) (p : Pkt) (x : Cell),
   ready p s = true →
   lookup (pCell p) s.cells = some x →
   x.st = 1 →
   admitAdds neuralAdds p s = none →
   Completes (.cellNeural p) s (fun t =>
     (∃ y, lookup (pCell p) t.cells = some y ∧ y.neural = neuralEn p ∧ y.fpUs = (if neuralEn p then pf p 4 4 else 0) ∧
       y.imageLen = (if neuralEn p then pf p 16 4 else 0) ∧ y.gnr = neuralGnr p s ∧ y.credit = cellCredit x.cfg (neuralGnr p s) s ∧ y.cfg = x.cfg ∧
       y.st = 1 ∧ y.firstSlot = x.firstSlot ∧ y.handles = x.handles) ∧
     reserved p t = false ∧ Ended p stOK 0 t ∧ t.toEngineState = s.toEngineState ∧ t.toMemState = s.toMemState ∧ t.toFaultState = s.toFaultState)) ∧
  (∀ (s : State) (p : Pkt) (x : Cell),
   ready p s = true →
   lookup (pCell p) s.cells = some x →
   x.st = 1 →
   Completes (.cellDelete p) s (fun t =>
     lookup (pCell p) t.cells = some { x with st := 2 } ∧ p ∈ t.accepted ∧ p.id ∈ t.begun ∧ t.windows = s.windows ∧ t.jobs = s.jobs ∧
     (pCell p < 512 → getF (ESC_CELLc_INFO_DRAINING (pCell p)) t = 1) ∧ Frame [.commands, .radio, .air, .bus, .tallies] s t)) ∧
  (∀ (s : State) (p : Pkt),
   ready p s = true →
   cellSt (pCell p) s ≠ 1 →
   Completes (.cellDelete p) s (fun t =>
     Ended p stSTATE_CONFLICT (conflictDetail 3 (pCell p) (cellSt (pCell p) s)) t ∧ RegsExcept (replyRegs p.window) s t ∧ Frame replyPieces s t)) ∧
  (∀ (s : State) (c : Fin 512) (x : Cell) (p : Pkt),
   lookup c.val s.cells = some x →
   x.st = 2 →
   (∀ j ∈ s.jobs, j.cell ≠ c.val) →
   (∀ w ∈ s.windows, w.cell ≠ c.val) →
   deletePkt c s = some p →
   Completes (.cellDrainEnd c) s (fun t =>
     lookup c.val t.cells = none ∧ noFlows c (cfgLport x.cfg) t ∧ getF (ESC_CELLc_INFO_ADMITTED c) t = 0 ∧ getF (ESC_CELLc_INFO_DRAINING c) t = 0 ∧
     Ended p stOK 0 t ∧ Frame [.commands, .hostMem, .radio, .front, .bus, .tallies, .air] s t)) ∧
  (∀ (s : State) (c : Fin 512),
   cellSt c s ≠ 2 ∨ s.jobs.any (fun j => decide (j.cell = c.val)) = true ∨ s.windows.any (fun w => decide (w.cell = c.val)) = true →
   Completes (.cellDrainEnd c) s (fun t => t = s)) ∧
  (∀ (s : State) (p : Pkt),
   ready p s = true →
   replyLands p.window s = true →
   pf p 4 8 + 832 ≤ getF (CMD_PWw_RR_BASE_ADDR p.window) s * 4096 ∨ getF (CMD_PWw_RR_BASE_ADDR p.window) s * 4096 + ringSize p.window s * 32 ≤ pf p 4 8 →
   Completes (.cellQuery p) s (fun t =>
     readBytes t.hostMem (pf p 4 8) 832 = cellRecord (pCell p) s ∧ Ended p stOK 0 t ∧ RegsExcept (replyRegs p.window) s t ∧ Frame replyPieces s t))

/-- A slot job of an ADMITTED cell is held until its delivery and not before its cell is ADMITTED; the Escrow takes it into its plan; at its Fallback
Point the deadline monitor chooses RX_PATH and counts the choice; an uplink job whose allocations have ended is delivered with its record and ends OK,
and a downlink job whose last message has left ends OK, or ITEM_FAILED with the index of its Ledger entry where an allocation has failed. -/
def Obligations.SlotJobs : Prop :=
  (∀ (s : State) (p : Pkt) (c : Instr),
   c = .slotUl p ∨ c = .slotDl p →
   ready p s = true →
   cellSt (pCell p) s = 1 →
   (∀ j ∈ s.jobs, j.pkt.id ≠ p.id) →
   Completes c s (fun t =>
     t.jobs = s.jobs ++ [⟨p, jobCell p.payload, jobUl p, jobSlot p.payload, false, false, false, none, false, false, false, false, 0, 0,
       (jobAllocs p.payload).map allocStart, []⟩] ∧ p ∈ t.accepted ∧ p.id ∈ t.begun ∧ p.id ∉ t.timed ∧
     t.cells = s.cells ∧ t.windows = s.windows ∧ t.ledger = s.ledger ∧
     RegsExcept ([CMD_TIMED_PENDING, FLT_LGf_BACKLOG_RESV 0, FLT_LGf_BACKLOG_HELD 0, FLT_STAT_LEDGER_LOW] ++ vecRegs) s t ∧
     Frame [.commands, .radio, .bus, .tallies] s t)) ∧
  (∀ (s : State) (p : Pkt) (c : Instr),
   c = .slotUl p ∨ c = .slotDl p →
   ready p s = true →
   cellSt (pCell p) s ≠ 1 →
   Completes c s (fun t =>
     Ended p stSTATE_CONFLICT (conflictDetail 3 (pCell p) (cellSt (pCell p) s)) t ∧ RegsExcept (replyRegs p.window) s t ∧ Frame replyPieces s t)) ∧
  (∀ (s : State) (c : Fin 512) (ul : Bool) (slot : Nat),
   ul = true ∨ mayMaster 0 s = true →
   Completes (.slotJobPlan c ul slot) s (fun t =>
     t.toRadioState = (modJob c slot ul (fun j => { j with planned := true, fetched := true }) s).toRadioState ∧ RegsExcept [] s t ∧ Frame [.radio] s t)) ∧
  (∀ (s : State) (c : Fin 512) (slot : Nat) (j : Job) (r : AllocRes),
   mayMaster 0 s = false →
   s.jobs = [j] →
   j.cell = c.val ∧ j.slot = slot ∧ j.ul = false ∧ j.planned = false →
   j.res = [r] →
   r.done = false →
   Completes (.slotJobPlan c false slot) s (fun t =>
     t.jobs = [{ j with planned := true, fetched := true, res := [allocFail 0 false noUnit r] }] ∧ t.toRadioState = { s.toRadioState with jobs := t.jobs } ∧
     RegsExcept (DEV_HOSTERR_NO_MASTER :: vecRegs) s t ∧ Frame [.radio, .bus, .tallies] s t)) ∧
  (∀ (s : State) (c : Fin 512) (slot : Nat) (x : Cell) (j : Job),
   lookup c.val s.cells = some x →
   findJob c slot true s = some j →
   j.planned = true →
   j.rxPath = none →
   slotEndOf x slot + usToTc (cellFp x slot s) ≤ counter (cfgTd x.cfg) s →
   Completes (.fallbackPoint c slot) s (fun t =>
     t.jobs = s.jobs.map (fun k => if k.cell = c.val ∧ k.slot = slot ∧ k.ul = true then { k with rxPath := some (rxPathOf x j) } else k) ∧
     t.cells = s.cells ∧ t.accepted = s.accepted ∧
     (rxPathOf x j ≠ 2 → t.windows = s.windows ∧ RegsExcept [] s t) ∧
     (rxPathOf x j = 1 → liveOf (128 + c) (ESC_CELLc_NEURAL_COUNT c) t = min (2 ^ (ESC_CELLc_NEURAL_COUNT c).width - 1) (liveOf (128 + c) (ESC_CELLc_NEURAL_COUNT c) s + 1)) ∧
     (rxPathOf x j = 3 ∨ rxPathOf x j = 4 → liveOf (128 + c) (ESC_CELLc_FALLBACK_COUNT c) t =
       min (2 ^ (ESC_CELLc_FALLBACK_COUNT c).width - 1) (liveOf (128 + c) (ESC_CELLc_FALLBACK_COUNT c) s + 1)) ∧
     Frame [.radio, .tallies] s t)) ∧
  (∀ (s : State) (c : Fin 512) (slot : Nat) (x : Cell) (j : Job),
   lookup c.val s.cells = some x →
   findJob c slot true s = some j →
   j.rxPath ≠ none →
   firstInOrder j s = true →
   (∀ r ∈ j.res, r.done = true ∧ r.status = 0 ∧ r.payload = []) →
   replyLands j.pkt.window s = true →
   jobBuf j.pkt.payload + (ulRecord x j (finalRes x j s) s).length ≤ getF (CMD_PWw_RR_BASE_ADDR j.pkt.window) s * 4096 →
   Completes (.ulDelivery c slot false) s (fun t =>
     readBytes t.hostMem (jobBuf j.pkt.payload) (ulRecord x j (finalRes x j s) s).length = ulRecord x j (finalRes x j s) s ∧ Ended j.pkt stOK 0 t ∧
     t.jobs = s.jobs.filter (fun k => decide (k.pkt.id ≠ j.pkt.id)) ∧
     t.slotBuf = s.slotBuf.filter (fun d => !(decide (d.cell = c.val) && decide (slot ≤ d.sym) && decide (d.sym < slotEndOf x slot))) ∧
     t.ledger = s.ledger ∧ t.cells = s.cells ∧ t.windows = s.windows ∧
     RegsExcept ([FLT_LGf_BACKLOG_RESV 0, FLT_LGf_BACKLOG_HELD 0, FLT_STAT_LEDGER_LOW] ++ replyRegs j.pkt.window) s t ∧ Frame (.radio :: .front :: replyPieces) s t)) ∧
  (∀ (s : State) (c : Fin 512) (slot : Nat) (x : Cell) (j : Job),
   lookup c.val s.cells = some x →
   findJob c slot false s = some j →
   j.planned = true ∧ j.handed = true →
   messagesLeft j s = false →
   firstInOrder j s = true →
   (∀ r ∈ j.res, r.done = true ∧ r.status = 0) →
   Completes (.dlJobComplete c slot) s (fun t =>
     Ended j.pkt stOK 0 t ∧ t.jobs = s.jobs.filter (fun k => decide (k.pkt.id ≠ j.pkt.id)) ∧ t.ledger = s.ledger ∧ t.cells = s.cells ∧
     t.windows = s.windows ∧ RegsExcept ([FLT_LGf_BACKLOG_RESV 0, FLT_LGf_BACKLOG_HELD 0, FLT_STAT_LEDGER_LOW] ++ replyRegs j.pkt.window) s t ∧
     Frame (.radio :: replyPieces) s t)) ∧
  (∀ (s : State) (c : Fin 512) (slot : Nat) (x : Cell) (j : Job) (r : AllocRes),
   lookup c.val s.cells = some x →
   findJob c slot false s = some j →
   j.planned = true ∧ j.handed = true →
   messagesLeft j s = false →
   firstInOrder j s = true →
   j.res = [r] →
   r.done = true ∧ r.status = 1 →
   Completes (.dlJobComplete c slot) s (fun t =>
     Ended j.pkt stITEM_FAILED (itemsDetail 1 (getF (FLT_LGf_NEXT_NEXT 0) s)) t ∧ (backlog 0 t).length = (backlog 0 s).length + 1 ∧
     getF (FLT_LGf_NEXT_NEXT 0) t = (getF (FLT_LGf_NEXT_NEXT 0) s + 1) % 2 ^ (FLT_LGf_NEXT_NEXT 0).width ∧ flagF FLT_STAT_ITEM_FAILED t = true ∧
     Frame (.radio :: replyPieces) s t))

/-- A code block of a planned job whose interval has begun, not in hand and not behind a job whose interval ends earlier, is given to a cluster in
service; its end combines its soft values, counts it and ends its allocation with the last block; a fault hands it once to another cluster and records
the lane; a second fault ends its allocation FAILED. A polar operation ends its allocation and is counted. A rebuild that ends makes both copies
readable again. -/
def Obligations.CodeBlocks : Prop :=
  (∀ (s : State) (m : Fin 8) (c : Fin 512) (slot : Nat) (ul : Bool) (alloc cb : Nat) (x : Cell) (j : Job),
   lookup c.val s.cells = some x →
   findJob c slot ul s = some j →
   clusterIn m s = true ∧ issues s = true →
   codeReady x j s = true →
   (j.res[alloc]?).any (fun r => !r.done) = true →
   (∀ v ∈ s.code, v ≠ ⟨v.cluster, c, slot, ul, alloc, cb, v.retried⟩) →
   servedFirst x j s = false →
   Completes (.codeBlockDispatch m c slot ul alloc cb) s (fun t =>
     t.toRadioState = { s.toRadioState with code := s.code ++ [⟨m, c, slot, ul, alloc, cb, false⟩] } ∧ RegsExcept [] s t ∧ Frame [.radio] s t)) ∧
  (∀ (s : State) (r : CbDone) (w : CodeWork) (x : Cell) (j : Job),
   issues s = true →
   findWork r.cluster r.cell r.slot r.ul r.alloc r.cb s = some w →
   lookup r.cell s.cells = some x →
   findJob r.cell r.slot r.ul s = some j →
   s.spareCmd = [] →
   r.ul = false →
   r.last = true →
   Completes (.codeBlockDone r) s (fun t =>
     t.code = s.code.filter (fun v => decide (v ≠ w)) ∧ t.jobs = (modJob r.cell r.slot false (modAlloc r.alloc (fun y => { y with done := true })) s).jobs ∧
     liveOf 5 (COD_CCm_ENC_CB_COUNT r.cluster) t = min (2 ^ (COD_CCm_ENC_CB_COUNT r.cluster).width - 1) (liveOf 5 (COD_CCm_ENC_CB_COUNT r.cluster) s + 1) ∧
     t.toRadioState = { s.toRadioState with code := t.code, jobs := t.jobs } ∧ RegsExcept [] s t ∧ Frame [.radio, .tallies] s t)) ∧
  (∀ (s : State) (r : CbDone) (w : CodeWork) (x : Cell) (j : Job) (y : AllocRes),
   issues s = true →
   findWork r.cluster r.cell r.slot r.ul r.alloc r.cb s = some w →
   lookup r.cell s.cells = some x →
   findJob r.cell r.slot r.ul s = some j →
   s.spareCmd = [] →
   r.ul = true →
   alType (jobAlloc j.pkt.payload r.alloc) = 1 →
   r.badA = false ∧ r.badB = false →
   j.res[r.alloc]? = some y →
   y.done = false →
   Completes (.codeBlockDone r) s (fun t =>
     t.code = s.code.filter (fun v => decide (v ≠ w)) ∧
     t.soft = (harqCombine r.cell (alHandle (jobAlloc j.pkt.payload r.alloc)) r.cb (softZero (handleOf x (alHandle (jobAlloc j.pkt.payload r.alloc)))
       (alNew (jobAlloc j.pkt.payload r.alloc)) (alTbs (jobAlloc j.pkt.payload r.alloc)) r.params) r.rx s).soft ∧
     (r.last = false → t.cells = s.cells) ∧
     (r.last = true → lookup r.cell t.cells = some { x with
       handles := put (alHandle (jobAlloc j.pkt.payload r.alloc))
         (some (handleAfter (handleOf x (alHandle (jobAlloc j.pkt.payload r.alloc))) (alRnti (jobAlloc j.pkt.payload r.alloc))
           (alNew (jobAlloc j.pkt.payload r.alloc)) (softZero (handleOf x (alHandle (jobAlloc j.pkt.payload r.alloc))) (alNew (jobAlloc j.pkt.payload r.alloc))
           (alTbs (jobAlloc j.pkt.payload r.alloc)) r.params) (alTbs (jobAlloc j.pkt.payload r.alloc)) r.params)) x.handles }) ∧
     (((findJob r.cell r.slot true t).bind (fun k => k.res[r.alloc]?)).map (fun z => (z.iters, z.cbFail, z.done, z.payload)) =
         some (max y.iters (min 255 r.iters), min 255 (y.cbFail + b2n (!r.crcOk)), r.last, if r.last then r.payload else y.payload)) ∧
     liveOf 5 (COD_CCm_DEC_CB_COUNT r.cluster) t = min (2 ^ (COD_CCm_DEC_CB_COUNT r.cluster).width - 1) (liveOf 5 (COD_CCm_DEC_CB_COUNT r.cluster) s + 1) ∧
     RegsExcept [] s t ∧ Frame [.radio, .tallies] s t)) ∧
  (∀ (s : State) (m : Fin 8) (lane cause : Nat) (m2 : Fin 8) (c : Fin 512) (slot : Nat) (ul : Bool) (alloc cb : Nat) (w : CodeWork),
   findWork m c slot ul alloc cb s = some w →
   s.inject = [] →
   w.retried = false →
   m2 ≠ m →
   clusterIn m2 s = true →
   lookup (m * 32 + lane) s.laneFaults = none →
   Completes (.codeBlockRetry m lane cause m2 c slot ul alloc cb) s (fun t =>
     t.code = s.code.filter (fun v => decide (v ≠ w)) ++ [{ w with cluster := m2, retried := true }] ∧ t.jobs = s.jobs ∧
     look 0 (m * 32 + lane) t.laneFaults = 1 ∧ getF (COD_CCm_FAULT_LANE m) t = lane % 2 ^ (COD_CCm_FAULT_LANE m).width ∧
     getF (COD_CCm_FAULT_VALID m) t = 1 ∧ getF (COD_CCm_FAULT_CAUSE m) t = cause % 2 ^ (COD_CCm_FAULT_CAUSE m).width ∧ flagF COD_STAT_FAULT t = true ∧
     RegsExcept ([COD_CCm_FAULT_LANE m, COD_CCm_FAULT_VALID m, COD_CCm_FAULT_CAUSE m, COD_STAT_FAULT] ++ vecRegs) s t ∧ Frame (.radio :: vecPieces) s t)) ∧
  (∀ (s : State) (m : Fin 8) (lane cause : Nat) (m2 : Fin 8) (c : Fin 512) (slot : Nat) (ul : Bool) (alloc cb : Nat) (w : CodeWork),
   findWork m c slot ul alloc cb s = some w →
   s.inject = [] →
   w.retried = true →
   lookup (m * 32 + lane) s.laneFaults = none →
   Completes (.codeBlockRetry m lane cause m2 c slot ul alloc cb) s (fun t =>
     t.code = s.code.filter (fun v => decide (v ≠ w)) ∧ t.jobs = (modJob c slot ul (modAlloc alloc (allocFail (0x30 + cause) true ⟨m, lane, unitBand 4 m s, s.injecting⟩)) s).jobs ∧
     look 0 (m * 32 + lane) t.laneFaults = 1 ∧ Frame (.radio :: vecPieces) s t)) ∧
  (∀ (s : State) (m : Fin 8) (c : Fin 512) (slot : Nat) (ul : Bool) (alloc : Nat) (ok : Bool) (payload : List Byte) (j : Job),
   findJob c slot ul s = some j →
   alloc < j.res.length →
   alType (jobAlloc j.pkt.payload alloc) = 2 ∨ alType (jobAlloc j.pkt.payload alloc) = 4 ∨ alType (jobAlloc j.pkt.payload alloc) = 5 →
   j.planned = true →
   issues s = true →
   Completes (.polarOperationDone m none c slot ul alloc ok payload) s (fun t =>
     t.jobs = (modJob c slot ul (modAlloc alloc (fun y => if y.done then y else { y with done := true, crcOk := ok, payload := payload })) s).jobs ∧
     liveOf 5 (COD_CCm_POLAR_COUNT m) t = min (2 ^ (COD_CCm_POLAR_COUNT m).width - 1) (liveOf 5 (COD_CCm_POLAR_COUNT m) s + 1) ∧
     t.toRadioState = { s.toRadioState with jobs := t.jobs } ∧ RegsExcept [] s t ∧ Frame [.radio, .tallies] s t)) ∧
  (∀ (s : State) (c : Fin 512) (x : Cell),
   lookup c.val s.cells = some x →
   x.rebuilding = true →
   Completes (.rebuildDone c) s (fun t =>
     lookup c.val t.cells = some { x with okA := true, okB := true, rebuilding := false } ∧ t.toRadioState = { s.toRadioState with cells := t.cells } ∧
     getF COD_REBUILD_CELLS t = (t.cells.filter (fun d => d.2.rebuilding)).length % 2 ^ COD_REBUILD_CELLS.width ∧
     RegsExcept ([COD_REBUILD_CELLS, COD_STAT_REBUILD] ++ vecRegs) s t ∧ Frame (.radio :: vecPieces) s t))

namespace Sys2Proof

/-- The registers that show the contexts of partition p (R348). -/
def ctxShown (p : Nat) : List Fld := [SCHED_STAT_CTXS, SCHED_Pp_CTX_WAITING p, SCHED_Pp_CTX_RESIDENT p, SCHED_Pp_CTX_CTXS p]

/-- The engine set of core n has been stopped and saved for its context, and the core saves. -/
def setSaved (n : Nat) (x : EngSet) (t : State) : Prop :=
  engAt n t = none ∧ (ctxOf x.ctx t).bind (fun c => lookup n c.saved) = some (stopSet x) ∧
  getF (MXC_Cn_INFO_STATE n) t = 3 ∧ getF (MXC_Cn_INFO_CTX n) t = 0

end Sys2Proof

/-- A lendable core of a partition is granted to the context its keys choose for the whole passes that fit, and no Lease is granted while the device
is QUIESCED. A Lease that is spent, preempted or yielded stops its core and saves its engine set, abandoning a running pass; the save's end returns
the core and makes the context RUNNABLE, BLOCKED after a yield, or SUSPENDED with its command's reply. A Lease not yet begun is returned unstarted.
Swaps and spills follow the rules of residency. -/
def Obligations.LeasesAndYields : Prop :=
  (∀ (s : State) (n lead p c : Nat) (x : Ctx) (st : Step) (r : List Step),
   lendable n s = true →
   eightParts.find? (fun p => partHolds p n s) = some p →
   chooseCtx n p s = some (c, x) →
   ctxOf c s = some x →
   x.queue = st :: r →
   otherPart n p s = false →
   (∀ y ∈ s.ctxs, lookup n y.2.saved = none) →
   0 < stepPass x st s →
   0 < leasePasses n (nowNs s + lead) (stepPass x st s) s →
   Completes (.leaseGrant n lead) s (fun t =>
     t.leases = s.leases ++ [⟨n, c, nowNs s, nowNs s + lead, leasePasses n (nowNs s + lead) (stepPass x st s) s, stepPass x st s, false⟩] ∧
     getF (MXC_Cn_INFO_STATE n) t = 2 ∧ getF (MXC_Cn_INFO_CTX n) t = c % 2 ^ (MXC_Cn_INFO_CTX n).width ∧ (ctxOf c t).map (fun y => y.sub) = some 2 ∧
     look 0 n t.lastCtx = c + 65536 * (p + 1) ∧ t.eng = s.eng ∧ t.scratch = s.scratch ∧ t.toRadioState = { s.toRadioState with leases := t.leases } ∧
     RegsExcept ([MXC_Cn_INFO_STATE n, MXC_Cn_INFO_CTX n] ++ ctxShown x.part) s t ∧ Frame [.radio, .engine] s t)) ∧
  (∀ (s : State) (n lead : Nat),
   s.quiesced = true →
   Completes (.leaseGrant n lead) s (fun t => t = s)) ∧
  (∀ (s : State) (n : Nat) (l : Lease) (x : EngSet) (c : Ctx),
   leaseOf n s = some l →
   l.saving = false →
   l.passes = 0 →
   engAt n s = some x →
   x.run = none ∧ x.drain = [] →
   ctxOf x.ctx s = some c →
   Completes (.leaseEnd n) s (fun t =>
     setSaved n x t ∧ t.leases = s.leases.map (fun k => if k.core = n then { k with saving := true } else k) ∧
     t.toRadioState = { s.toRadioState with leases := t.leases } ∧
     RegsExcept ([MXC_Cn_INFO_STATE n, MXC_Cn_INFO_CTX n] ++ ctxShown c.part) s t ∧ Frame [.radio, .engine] s t)) ∧
  (∀ (s : State) (n : Nat) (l : Lease),
   leaseOf n s = some l →
   l.saving = false →
   engAt n s = none →
   leaseSpent n l s = true →
   Completes (.leaseEnd n) s (fun t =>
     t.leases = s.leases.map (fun k => if k.core = n then { k with saving := true } else k) ∧ t.toRadioState = { s.toRadioState with leases := t.leases } ∧
     getF (MXC_Cn_INFO_STATE n) t = 3 ∧ getF (MXC_Cn_INFO_CTX n) t = 0 ∧
     RegsExcept [MXC_Cn_INFO_STATE n, MXC_Cn_INFO_CTX n] s t ∧ Frame [.radio] s t)) ∧
  (∀ (s : State) (n : Nat) (l : Lease) (x : EngSet) (c : Ctx),
   windowWithin n 4916 s = true →
   leaseOf n s = some l →
   l.saving = false →
   l.start < nowNs s →
   engAt n s = some x →
   x.run ≠ none →
   x.drain = [] →
   ctxOf x.ctx s = some c →
   Completes (.forcedPreemption n) s (fun t =>
     setSaved n x t ∧ t.leases = s.leases.map (fun k => if k.core = n then { k with saving := true } else k) ∧
     liveOf 2 ESC_T_PREEMPT_COUNT t = min (2 ^ ESC_T_PREEMPT_COUNT.width - 1) (liveOf 2 ESC_T_PREEMPT_COUNT s + 1) ∧
     liveOf 6 (MXC_Cn_ABANDON_COUNT n) t = min (2 ^ (MXC_Cn_ABANDON_COUNT n).width - 1) (liveOf 6 (MXC_Cn_ABANDON_COUNT n) s + 1) ∧
     t.toRadioState = { s.toRadioState with leases := t.leases } ∧
     RegsExcept ([MXC_Cn_INFO_STATE n, MXC_Cn_INFO_CTX n] ++ ctxShown c.part) s t ∧ Frame [.radio, .engine, .tallies] s t)) ∧
  (∀ (s : State) (n : Nat) (l : Lease) (c : Ctx),
   windowWithin n 4916 s = true →
   leaseOf n s = some l →
   l.saving = false →
   nowNs s ≤ l.start →
   engAt n s = none →
   (∀ k ∈ s.leases, k.core ≠ n → k.ctx ≠ l.ctx) →
   ctxOf l.ctx s = some c →
   c.sub = 2 ∧ c.suspend = [] ∧ c.yielding = false →
   s.quiesce = [] →
   Completes (.forcedPreemption n) s (fun t =>
     t.leases = s.leases.filter (fun k => decide (k.core ≠ n)) ∧ getF (MXC_Cn_INFO_STATE n) t = 0 ∧ getF (MXC_Cn_INFO_CTX n) t = 0 ∧
     ctxOf l.ctx t = some { c with sub := 1, readyAt := s.now } ∧ t.eng = s.eng ∧
     RegsExcept ([MXC_Cn_INFO_STATE n, MXC_Cn_INFO_CTX n] ++ ctxShown c.part) s t ∧ Frame [.radio, .engine, .tallies] s t)) ∧
  (∀ (s : State) (n : Nat),
   windowWithin n 4916 s = false →
   Completes (.forcedPreemption n) s (fun t => t = s)) ∧
  (∀ (s : State) (n : Nat) (l : Lease) (c : Ctx),
   leaseOf n s = some l →
   l.saving = true →
   (∀ k ∈ s.leases, k.core ≠ n → k.ctx ≠ l.ctx) →
   ctxOf l.ctx s = some c →
   c.sub = 2 ∧ c.suspend = [] →
   s.quiesce = [] →
   Completes (.contextSaveDone n) s (fun t =>
     t.leases = s.leases.filter (fun k => decide (k.core ≠ n)) ∧ getF (MXC_Cn_INFO_STATE n) t = 0 ∧ getF (MXC_Cn_INFO_CTX n) t = 0 ∧
     ctxOf l.ctx t = some (if c.yielding = true ∧ (ctxOps l.ctx s).isEmpty = false then { c with sub := 3, yielding := false, blockAt := defaultTime s }
       else { c with sub := 1, yielding := false, readyAt := s.now }) ∧ t.eng = s.eng ∧
     RegsExcept ([MXC_Cn_INFO_STATE n, MXC_Cn_INFO_CTX n] ++ ctxShown c.part) s t ∧ Frame [.radio, .engine, .tallies] s t)) ∧
  (∀ (s : State) (n : Nat) (l : Lease) (c : Ctx) (p : Pkt),
   leaseOf n s = some l →
   l.saving = true →
   (∀ k ∈ s.leases, k.core ≠ n → k.ctx ≠ l.ctx) →
   ctxOf l.ctx s = some c →
   c.sub = 2 ∧ c.suspend = [p.id] →
   s.accepted.find? (fun q => decide (q.id = p.id)) = some p →
   s.quiesce = [] →
   Completes (.contextSaveDone n) s (fun t =>
     t.leases = s.leases.filter (fun k => decide (k.core ≠ n)) ∧ getF (MXC_Cn_INFO_STATE n) t = 0 ∧
     ctxOf l.ctx t = some { c with st := 3, sub := 4, suspend := [], yielding := false, blockAt := defaultTime s } ∧ Ended p stOK 0 t ∧
     RegsExcept ([MXC_Cn_INFO_STATE n, MXC_Cn_INFO_CTX n] ++ ctxShown c.part ++ replyRegs p.window) s t ∧ Frame (.radio :: .engine :: replyPieces) s t)) ∧
  (∀ (s : State) (c : Nat) (l : Lease) (x : EngSet) (y : Ctx),
   s.leases = [l] →
   l.ctx = c ∧ l.saving = false →
   (ctxOps c s).isEmpty = false →
   yieldWaits l.core s = true →
   engAt l.core s = some x →
   anyRuns x = true →
   x.ctx = c ∧ x.drain = [] →
   ctxOf c s = some y →
   Completes (.blockYield c) s (fun t =>
     setSaved l.core x t ∧ t.leases = [{ l with saving := true }] ∧ (ctxOf c t).map (fun z => z.yielding) = some true ∧
     liveOf 15 SCHED_T_BLOCK_COUNT t = min (2 ^ SCHED_T_BLOCK_COUNT.width - 1) (liveOf 15 SCHED_T_BLOCK_COUNT s + 1) ∧
     t.toRadioState = { s.toRadioState with leases := t.leases } ∧
     RegsExcept ([MXC_Cn_INFO_STATE l.core, MXC_Cn_INFO_CTX l.core] ++ ctxShown y.part) s t ∧ Frame [.radio, .engine, .tallies] s t)) ∧
  (∀ (s : State) (p : Fin 8) (c : Nat),
   (∀ w ∈ s.swaps, w.part ≠ p.val) →
   swapInChoice p s = some c →
   placeFree p s = true →
   Completes (.swapStart p) s (fun t => t.toEngineState = { s.toEngineState with swaps := s.swaps ++ [⟨p, none, c, s.now⟩] } ∧ RegsExcept [] s t ∧ Frame [.engine] s t)) ∧
  (∀ (s : State) (p : Fin 8) (c o : Nat) (x : Ctx),
   (∀ w ∈ s.swaps, w.part ≠ p.val) →
   swapInChoice p s = some c →
   placeFree p s = false →
   (ctxsOf p s).any (fun x => x.2.resident && (decide (x.2.sub = 1) || decide (x.2.sub = 2))) = false →
   (oldestBlock p 4 s).or (oldestBlock p 3 s) = some o →
   ctxOf o s = some x →
   Completes (.swapStart p) s (fun t =>
     t.swaps = s.swaps ++ [⟨p, some o, c, s.now⟩] ∧ ctxOf o t = some { x with resident := false } ∧
     t.toEngineState = { s.toEngineState with swaps := t.swaps, ctxs := t.ctxs } ∧ RegsExcept (ctxShown x.part) s t ∧ Frame [.engine] s t)) ∧
  (∀ (s : State) (p : Fin 8) (w : Swap) (x : Ctx),
   s.swaps.find? (fun w => decide (w.part = p.val)) = some w →
   ctxOf w.inn s = some x →
   x.st ≠ 1 →
   Completes (.swapEnd p) s (fun t =>
     t.swaps = s.swaps.filter (fun v => decide (v.part ≠ p.val)) ∧ ctxOf w.inn t = some { x with resident := true } ∧
     liveOf 15 SCHED_T_SWAP_COUNT t = (if w.out = none then liveOf 15 SCHED_T_SWAP_COUNT s else min (2 ^ SCHED_T_SWAP_COUNT.width - 1) (liveOf 15 SCHED_T_SWAP_COUNT s + 1)) ∧
     t.toEngineState = { s.toEngineState with swaps := t.swaps, ctxs := t.ctxs } ∧ RegsExcept (ctxShown x.part) s t ∧ Frame [.engine, .tallies] s t)) ∧
  (∀ (s : State) (n c a : Nat),
   s.spills.find? (fun x => decide (x.1 = n) && !x.2.2.1) = some (n, c, false, a) →
   Completes (.spillDone n) s (fun t =>
     t.toEngineState = { s.toEngineState with spills := s.spills.filter (fun y => decide (y ≠ (n, c, false, a))) } ∧ RegsExcept [] s t ∧ Frame [.engine, .radio, .tallies] s t)) ∧
  (∀ (s : State) (n c a : Nat) (x : Ctx) (e : EngSet),
   s.spills.find? (fun x => decide (x.1 = n) && x.2.2.1) = some (n, c, true, a) →
   (∀ y ∈ s.spills, y.1 = n → y.2.2.1 = true) →
   ctxOf c s = some x →
   lookup n x.saved = some e →
   Completes (.restoreDone n) s (fun t =>
     engAt n t = some { e with act := s.now, spilled := false } ∧ csRead n 0 e.scratch t = readBytes s.scratchOf (c * 2 ^ 32 + n * 2 ^ 21) e.scratch ∧
     (ctxOf c t).map (fun y => lookup n y.saved) = some none ∧ t.spills = s.spills.filter (fun y => decide (y ≠ (n, c, true, a))) ∧
     SameOutside (n * 2 ^ 21) e.scratch s.scratch t.scratch ∧
     RegsExcept (ctxShown x.part) s t ∧ Frame [.engine, .mem, .radio, .tallies] s t))

/-- CTX_CREATE in an open partition with room makes an IDLE context and answers its number; CTX_SEED sets the counter and seed of an IDLE context;
STEP_SUBMIT queues a STEP and makes an IDLE context RUNNABLE; CTX_SUSPEND of a context without a Lease takes effect at once, and on one with Leases
waits for its passes, at whose end its cores stop and save; CTX_RESUME makes it RUNNABLE; CTX_DESTROY removes it and fills its swap area with zeros;
CTX_QUERY writes the record. DEV_QUIESCE ends at once without Leases and waits for the last one otherwise; DEV_RESUME undoes it. -/
def Obligations.ContextCommands : Prop :=
  (∀ (s : State) (p : Pkt),
   ready p s = true →
   s.quiesced = false →
   s.leases = [] →
   s.quiesce = [] →
   s.accepted.find? (fun q => decide (q.id = p.id)) = some p →
   Completes (.devQuiesce p) s (fun t =>
     t.quiesced = true ∧ t.quiesce = [] ∧ Ended p stOK 0 t ∧ t.toRadioState = { s.toRadioState with quiesced := true, accepted := t.accepted, timed := t.timed, begun := t.begun } ∧
     RegsExcept (replyRegs p.window) s t ∧ Frame (.radio :: replyPieces) s t)) ∧
  (∀ (s : State) (p : Pkt),
   ready p s = true →
   s.quiesced = false →
   s.leases ≠ [] →
   Completes (.devQuiesce p) s (fun t =>
     t.quiesced = true ∧ t.quiesce = s.quiesce ++ [p.id] ∧ p ∈ t.accepted ∧ p.id ∈ t.begun ∧ t.leases = s.leases ∧ t.cells = s.cells ∧
     RegsExcept [CMD_TIMED_PENDING] s t ∧ Frame [.radio, .commands] s t)) ∧
  (∀ (s : State) (p : Pkt),
   ready p s = true →
   s.quiesced = true →
   Completes (.devResume p) s (fun t =>
     t.quiesced = false ∧ Ended p stOK 0 t ∧ t.leases = s.leases ∧ t.cells = s.cells ∧ RegsExcept (replyRegs p.window) s t ∧ Frame (.radio :: replyPieces) s t)) ∧
  (∀ (s : State) (p : Pkt) (c : Instr) (q : Bool),
   (c = .devQuiesce p ∧ q = true) ∨ (c = .devResume p ∧ q = false) →
   ready p s = true →
   s.quiesced = q →
   Completes c s (fun t =>
     Ended p stSTATE_CONFLICT (conflictDetail 1 0 (if q then 2 else 1)) t ∧ RegsExcept (replyRegs p.window) s t ∧ Frame replyPieces s t)) ∧
  (∀ (s : State) (p : Pkt),
   ready p s = true →
   chkCtxCreate p (leaveTimed p s) = none →
   Completes (.ctxCreate p) s (fun t =>
     ctxOf (newCtxNo p s) s = none ∧ ctxOf (newCtxNo p s) t = some ⟨p.part, pf p 0 1 % 8, pf p 8 8, 1, 0, false, [], 0, 0, 0, 0, false, 0, [], false, []⟩ ∧
     (∀ c ∈ s.ctxs.map Prod.fst, ctxOf c t = ctxOf c s) ∧ t.toEngineState = { s.toEngineState with ctxs := t.ctxs } ∧ Ended p stOK (newCtxNo p s) t ∧
     RegsExcept (ctxShown p.part ++ replyRegs p.window) s t ∧ Frame (.engine :: replyPieces) s t)) ∧
  (∀ (s : State) (p : Pkt) (q : Part),
   ready p s = true →
   pf p 8 8 = 0 →
   partSt p.part s = 1 →
   secBusy p s = none →
   lookup p.part s.parts = some q →
   q.maxCtx ≤ (ctxsOf p.part s).length →
   Completes (.ctxCreate p) s (fun t => Ended p stBUSY 3 t ∧ RegsExcept (replyRegs p.window) s t ∧ Frame replyPieces s t)) ∧
  (∀ (s : State) (p : Pkt) (c : Ctx),
   ready p s = true →
   ctxOf (pCtx p) s = some c →
   c.part = p.part →
   c.st = 1 →
   Completes (.ctxSeed p) s (fun t =>
     ctxOf (pCtx p) t = some { c with counter := pf p 4 8, seed := pf p 12 16 } ∧ t.toEngineState = { s.toEngineState with ctxs := t.ctxs } ∧ Ended p stOK 0 t ∧
     RegsExcept (ctxShown p.part ++ replyRegs p.window) s t ∧ Frame (.engine :: replyPieces) s t)) ∧
  (∀ (s : State) (p : Pkt) (i : Instr),
   i = .ctxSeed p ∨ i = .ctxSuspend p ∨ i = .ctxResume p ∨ i = .ctxDestroy p ∨ i = .ctxQuery p →
   ready p s = true →
   (ctxOf (pCtx p) s).all (fun c => decide (c.part ≠ p.part)) = true →
   Completes i s (fun t => Ended p stBAD_PARAM 32 t ∧ RegsExcept (replyRegs p.window) s t ∧ Frame replyPieces s t)) ∧
  (∀ (s : State) (p : Pkt) (i : Instr) (c : Ctx),
   (i = .ctxSeed p ∧ c.st ≠ 1) ∨ (i = .ctxSuspend p ∧ c.st ≠ 2) ∨ (i = .ctxResume p ∧ c.st ≠ 3) ∨ (i = .ctxDestroy p ∧ c.st = 2) →
   ready p s = true →
   ctxOf (pCtx p) s = some c →
   c.part = p.part →
   1 ≤ c.st ∧ c.st ≤ 3 →
   Completes i s (fun t => Ended p stSTATE_CONFLICT (conflictDetail 4 (pCtx p) c.st) t ∧ RegsExcept (replyRegs p.window) s t ∧ Frame replyPieces s t)) ∧
  (∀ (s : State) (p : Pkt) (c : Ctx),
   ready p s = true →
   ctxOf (pCtx p) s = some c →
   c.part = p.part →
   c.st = 2 →
   leaseCores (pCtx p) s = [] →
   Completes (.ctxSuspend p) s (fun t =>
     ctxOf (pCtx p) t = some { c with st := 3, sub := 4, blockAt := defaultTime s } ∧ t.toEngineState = { s.toEngineState with ctxs := t.ctxs } ∧ Ended p stOK 0 t ∧
     RegsExcept (ctxShown p.part ++ replyRegs p.window) s t ∧ Frame (.engine :: replyPieces) s t)) ∧
  (∀ (s : State) (p : Pkt) (c : Ctx),
   ready p s = true →
   ctxOf (pCtx p) s = some c →
   c.part = p.part →
   c.st = 2 →
   leaseCores (pCtx p) s ≠ [] →
   Completes (.ctxSuspend p) s (fun t =>
     ctxOf (pCtx p) t = some { c with suspend := c.suspend ++ [p.id] } ∧ p ∈ t.accepted ∧ p.id ∈ t.begun ∧ t.leases = s.leases ∧ t.eng = s.eng ∧
     RegsExcept (CMD_TIMED_PENDING :: ctxShown p.part) s t ∧ Frame [.engine, .commands] s t)) ∧
  (∀ (s : State) (c : Nat) (l : Lease) (x : EngSet) (y : Ctx),
   ctxOf c s = some y →
   y.suspend ≠ [] →
   s.leases = [l] →
   l.ctx = c ∧ l.saving = false →
   engAt l.core s = some x →
   x.ctx = c ∧ x.run = none ∧ x.drain = [] →
   Completes (.ctxSuspendStop c) s (fun t =>
     setSaved l.core x t ∧ t.leases = [{ l with saving := true }] ∧ t.toRadioState = { s.toRadioState with leases := t.leases } ∧
     RegsExcept ([MXC_Cn_INFO_STATE l.core, MXC_Cn_INFO_CTX l.core] ++ ctxShown y.part) s t ∧ Frame [.radio, .engine] s t)) ∧
  (∀ (s : State) (p : Pkt) (c : Ctx),
   ready p s = true →
   ctxOf (pCtx p) s = some c →
   c.part = p.part →
   c.st = 3 →
   Completes (.ctxResume p) s (fun t =>
     ctxOf (pCtx p) t = some { c with st := 2, sub := 1, readyAt := s.now } ∧ t.toEngineState = { s.toEngineState with ctxs := t.ctxs } ∧ Ended p stOK 0 t ∧
     RegsExcept (ctxShown p.part ++ replyRegs p.window) s t ∧ Frame (.engine :: replyPieces) s t)) ∧
  (∀ (s : State) (p : Pkt) (c : Ctx),
   ready p s = true →
   ctxOf (pCtx p) s = some c →
   c.part = p.part →
   replyLands p.window s = true →
   pf p 4 8 + 64 ≤ getF (CMD_PWw_RR_BASE_ADDR p.window) s * 4096 ∨ getF (CMD_PWw_RR_BASE_ADDR p.window) s * 4096 + ringSize p.window s * 32 ≤ pf p 4 8 →
   Completes (.ctxQuery p) s (fun t =>
     readBytes t.hostMem (pf p 4 8) 64 = ctxRecord (pCtx p) s ∧ Ended p stOK 0 t ∧ RegsExcept (replyRegs p.window) s t ∧ Frame replyPieces s t)) ∧
  (∀ (s : State) (p : Pkt) (c : Ctx),
   ready p s = true →
   ctxOf (pCtx p) s = some c →
   c.part = p.part →
   c.st = 1 ∨ c.st = 3 →
   c.queue = [] →
   Completes (.ctxDestroy p) s (fun t =>
     ctxOf (pCtx p) t = none ∧ t.scratchOf = fillZero (pCtx p * 2 ^ 32) (2 ^ 32) s.scratchOf ∧
     t.ftt = s.ftt.map (fun f => if f.ctx = pCtx p then { f with core := 0xFFFE } else f) ∧ t.eng = s.eng ∧ Ended p stOK 0 t ∧
     RegsExcept (ctxShown p.part ++ replyRegs p.window) s t ∧ Frame (.engine :: .fabric :: replyPieces) s t)) ∧
  (∀ (s : State) (p : Pkt) (c : Ctx),
   ready p s = true →
   chkStep p (leaveTimed p s) = none →
   ctxOf (pCtx p) s = some c →
   Completes (.stepSubmit p) s (fun t =>
     ctxOf (pCtx p) t = some (if c.st = 1 then { c with queue := [newStep p (leaveTimed p s)], st := 2, sub := 1, readyAt := s.now, resident := placeFree c.part s }
       else { c with queue := c.queue ++ [newStep p (leaveTimed p s)] }) ∧
     t.toEngineState = { s.toEngineState with ctxs := t.ctxs } ∧ p ∈ t.accepted ∧ p.id ∈ t.begun ∧
     RegsExcept (CMD_TIMED_PENDING :: ctxShown c.part) s t ∧ Frame [.engine, .commands] s t)) ∧
  (∀ (s : State) (p : Pkt),
   ready p s = true →
   s.quiesced = true →
   parCtx p s = none ∧ parStep p (leaveTimed p s) = none →
   (ctxOf (pCtx p) s).any (fun c => decide (c.st = 1) || decide (c.st = 2)) = true →
   Completes (.stepSubmit p) s (fun t =>
     Ended p stSTATE_CONFLICT (conflictDetail 1 0 2) t ∧ RegsExcept (replyRegs p.window) s t ∧ Frame replyPieces s t))

namespace Sys2Proof

/-- Engine e of core n may issue, and stands at the legal word w. -/
def Issues (n e w : Nat) (x : EngSet) (s : State) : Prop :=
  engAt n s = some x ∧ (engine x e).st ≠ 0 ∧ setRuns n x s = true ∧ engineHeld x e = false ∧ fetchAt x (engine x e).pc 1 s = .word w ∧ insLegal e w = true

/-- Only the engine set of core n differs, and it is y. -/
def OnlySet (n : Nat) (y : EngSet) (s t : State) : Prop :=
  t.toEngineState = { s.toEngineState with eng := put n (some y) s.eng } ∧ RegsExcept [] s t ∧ Frame [.engine] s t

/-- The set after engine e, now g, has run a word of its stream. -/
def ranWord (e : Nat) (g : Engine) (x : EngSet) (s : State) : EngSet := { putEngine x e { g with pc := (engine x e).pc + 8, st := 1 } with act := s.now }

/-- What a scalar instruction gives GD (R482), from GA, GB and the immediate. -/
def scalarGives (op : Nat) (a b : BitVec 64) (imm : BitVec 32) : BitVec 64 :=
  match op with
  | 0x02 => a + b
  | 0x03 => a + imm.signExtend 64
  | 0x04 => a - b
  | 0x05 => a &&& b
  | 0x06 => a ||| b
  | 0x07 => a ^^^ b
  | 0x08 => a <<< (b.toNat % 64)
  | 0x09 => a >>> (b.toNat % 64)
  | 0x0A => a.sshiftRight (b.toNat % 64)
  | 0x0B => a * b
  | 0x0C => if a.slt b then 1 else 0
  | 0x0D => if a.ult b then 1 else 0
  | 0x0E => imm.signExtend 64
  | _ => imm ++ a.setWidth 32

/-- The scalar instructions that write GD, with their opcodes. -/
def scalarOps (n : Nat) (e : Fin 4) : List (Instr × Nat) :=
  [(.add n e, 0x02), (.addi n e, 0x03), (.sub n e, 0x04), (.andOp n e, 0x05), (.orOp n e, 0x06), (.xorOp n e, 0x07), (.shl n e, 0x08), (.shr n e, 0x09),
    (.sar n e, 0x0A), (.mul n e, 0x0B), (.slt n e, 0x0C), (.sltu n e, 0x0D), (.li n e, 0x0E), (.lui n e, 0x0F)]

/-- Whether a branch is taken (R482). -/
def branchGoes (op : Nat) (a b : BitVec 64) : Bool :=
  match op with
  | 0x10 => a == b
  | 0x11 => !(a == b)
  | 0x12 => a.slt b
  | 0x13 => !(a.slt b)
  | _ => true

/-- The branches but LOOP, with their opcodes. -/
def branchOps (n : Nat) (e : Fin 4) : List (Instr × Nat) := [(.beq n e, 0x10), (.bne n e, 0x11), (.blt n e, 0x12), (.bge n e, 0x13), (.j n e, 0x14)]

/-- Where a branch at pc goes: 8 times the signed immediate from its own address (R482). -/
def branchGoal (pc w : Nat) : Nat := (((pc : Int) + 8 * ((BitVec.ofNat 32 (w / 2 ^ 32)).toInt)) % 2 ^ 64).toNat

/-- A register of an engine as 64 bits. -/
def reg64 (g : Engine) (r : Nat) : BitVec 64 := BitVec.ofNat 64 (gReg g r)

/-- The set of core n, which was x, has faulted with a cause and left the core. -/
def Faulted (n cause : Nat) (x : EngSet) (t : State) : Prop :=
  engAt n t = none ∧ getF (MXC_Cn_FAULT_CAUSE n) t = cause ∧ getF (MXC_Cn_FAULT_VALID n) t = 1 ∧
  getF (MXC_Cn_FAULT_PASS n) t = x.done % 2 ^ (MXC_Cn_FAULT_PASS n).width ∧ flagF MXC_STAT_FAULT t = true

/-- How the work tiles of a STEP that have ended ended: tile, status, CAUSE, items. -/
def endsOf (st : Step) : List (Nat × Nat × Nat × Nat) := st.ended.map (fun e => (e.tile, e.status, e.cause, e.count))

end Sys2Proof

/-- An engine that may issue and stands at a legal word runs it: the arithmetic, logic, shift, comparison and load-immediate instructions write GD (a
write of G0 is discarded) and go to the next word; a branch that is taken goes to its own address plus eight times its immediate, and one not taken to
the next word; LOOP decrements its register; TSIG and TWAIT change their token counter or wait; END stops the engine; VRDF and VCLRF read and clear
VSTAT. Nothing else of the core, or of the machine, changes. -/
def Obligations.ScalarInstructions : Prop :=
  (∀ (s : State) (n : Nat) (e : Fin 4) (w : Nat) (x : EngSet),
   Issues n e w x s →
   (insOp w = 0 → Completes (.nop n e) s (fun t => OnlySet n (ranWord e (engine x e) x s) s t)) ∧
     (insOp w = 1 → Completes (.endOp n e) s (fun t => OnlySet n { putEngine x e { engine x e with st := 0 } with act := s.now } s t))) ∧
  (∀ (s : State) (n : Nat) (e : Fin 4) (w op : Nat) (x : EngSet) (c : Instr),
   (c, op) ∈ scalarOps n e →
   Issues n e w x s →
   insOp w = op →
   Completes c s (fun t =>
     OnlySet n (ranWord e (setG (insD w) (scalarGives op (reg64 (engine x e) (insA w)) (reg64 (engine x e) (insB w)) (BitVec.ofNat 32 (w / 2 ^ 32))).toNat (engine x e)) x s) s t)) ∧
  (∀ (s : State) (n : Nat) (e : Fin 4) (w op : Nat) (x : EngSet) (c : Instr),
   (c, op) ∈ branchOps n e →
   Issues n e w x s →
   insOp w = op →
   Completes c s (fun t =>
     OnlySet n { putEngine x e { engine x e with
       st := 1, pc := if branchGoes op (reg64 (engine x e) (insA w)) (reg64 (engine x e) (insB w)) then
         branchGoal (engine x e).pc w else (engine x e).pc + 8 } with act := s.now } s t)) ∧
  (∀ (s : State) (n : Nat) (e : Fin 4) (w : Nat) (x : EngSet),
   Issues n e w x s →
   insOp w = 0x15 →
   insA w ≠ 0 →
   Completes (.loopOp n e) s (fun t =>
     OnlySet n { putEngine x e { setG (insA w) (reg64 (engine x e) (insA w) - 1#64).toNat (engine x e) with
       st := 1, pc :=
         if reg64 (engine x e) (insA w) = 1#64 then (engine x e).pc + 8 else branchGoal (engine x e).pc w } with act := s.now } s t)) ∧
  (∀ (s : State) (n : Nat) (e : Fin 4) (w : Nat) (x : EngSet),
   Issues n e w x s →
   insOp w = 0x15 →
   insA w = 0 →
   Completes (.loopOp n e) s (fun t => OnlySet n (ranWord e (engine x e) x s) s t)) ∧
  (∀ (s : State) (n : Nat) (e : Fin 4) (w : Nat) (x : EngSet),
   Issues n e w x s →
   (insOp w = 0x20 ∧ tokOf x (insTok w) + insCount w ≤ 255 → Completes (.tsig n e) s (fun t => OnlySet n (ranWord e (engine x e) (setTok (insTok w) (tokOf x (insTok w) + insCount w) x) s) s t)) ∧
     (insOp w = 0x20 ∧ 255 < tokOf x (insTok w) + insCount w →
       Completes (.tsig n e) s (fun t => OnlySet n (putEngine x e { engine x e with st := 2 }) s t)) ∧
     (insOp w = 0x21 ∧ insCount w ≤ tokOf x (insTok w) →
       Completes (.twait n e) s (fun t => OnlySet n (ranWord e (engine x e) (setTok (insTok w) (tokOf x (insTok w) - insCount w) x) s) s t)) ∧
     (insOp w = 0x21 ∧ tokOf x (insTok w) < insCount w →
       Completes (.twait n e) s (fun t => OnlySet n (putEngine x e { engine x e with st := 2 }) s t))) ∧
  (∀ (s : State) (n : Nat) (w : Nat) (x : EngSet),
   Issues n 2 w x s →
   (insOp w = 0xA8 → Completes (.vrdf n) s (fun t => OnlySet n (ranWord 2 (setG (insD w) x.vstat x.vc) x s) s t)) ∧
     (insOp w = 0xA9 → Completes (.vclrf n) s (fun t => OnlySet n (ranWord 2 x.vc { x with vstat := 0 } s) s t))) ∧
  (∀ (s : State) (n : Nat) (x : EngSet) (st : Step),
   engAt n s = some x →
   max x.act x.fabAct + 4096 * 1536 ≤ s.now →
   anyRuns x = true →
   allWait [0x20, 0x21, 0x48] x s = true →
   setRuns n x s = true →
   x.xfers = [] ∧ x.run = none ∧ x.drain = [] ∧ x.radio = none →
   holdsFtt n x s = false →
   stepOf x.ctx s = some st →
   Completes (.tokenDeadlock n) s (fun t => Faulted n 5 x t ∧
     (stepOf x.ctx t).map endsOf = some (endsOf st ++ [(x.tile, stITEM_FAILED, 0x15, x.count)]) ∧ t.leases = s.leases ∧ t.mem = s.mem ∧ t.scratch = s.scratch)) ∧
  (∀ (s : State) (n : Nat) (x : EngSet),
   engAt n s = some x →
   s.now < max x.act x.fabAct + 4096 * 1536 →
   Completes (.tokenDeadlock n) s (fun t => t = s))

namespace Sys2Proof

/-- The Tile Queue and tokens after a pass has been written (R209, R223, R224). -/
def afterPass (p : Pass) (r : List Pass) (x : EngSet) (s : State) : EngSet :=
  tqPost (tqEntries p) (raiseV (b2n p.inv + 4 * b2n p.ovf) (signal p.dt { x with drain := r, done := p.idx + 1, act := s.now }))

end Sys2Proof

/-- A legal MPASS puts its pass into the queue of 2; MWAIT goes on when every pass is complete; a pass begins with its WT token, counts on its Lease
and sets the demand; the end of its stream leaves the results of its operands and signals ET; its completion writes them, signals DT and fills the
Tile Queue, which TQPOP empties. The level follows the demand by one each eight cycles and falls after a gap of 64. A Clover change takes the core to
state 5 and then changes the mode. A Suspect core is retired for a spare, which takes its number once the core is free, or leaves service where no
spare remains. -/
def Obligations.ArrayCommands : Prop :=
  (∀ (s : State) (n w l : Nat) (x : EngSet),
   Issues n 1 w x s →
   insOp w = 0x40 →
   x.passQ.length < 2 →
   fetchAt x (x.mx.pc + 8) 4 s = .word l →
   descLegal x.radio.isSome (passCap x) (descOf (natLE 32 l)) = true ∧ descArea x (descOf (natLE 32 l)) = true →
   Completes (.mpass n) s (fun t =>
     OnlySet n { x with
       passQ := x.passQ ++ [⟨x.issued, descOf (natLE 32 l), passTok 8 w, passTok 13 w, passTok 18 w, false, [], false, false⟩], issued := x.issued + 1,
       mx := { x.mx with pc := x.mx.pc + 40, st := 1 }, act := s.now } s t)) ∧
  (∀ (s : State) (n w : Nat) (x : EngSet),
   Issues n 1 w x s →
   insOp w = 0x40 →
   2 ≤ x.passQ.length →
   Completes (.mpass n) s (fun t => OnlySet n { x with mx := { x.mx with st := 5 } } s t)) ∧
  (∀ (s : State) (n w : Nat) (x : EngSet),
   Issues n 1 w x s →
   insOp w = 0x41 →
   (x.passQ = [] ∧ x.run = none ∧ x.drain = [] → Completes (.mwait n) s (fun t => OnlySet n (ranWord 1 x.mx x s) s t)) ∧
     (x.run ≠ none → Completes (.mwait n) s (fun t => OnlySet n { x with mx := { x.mx with st := 5 } } s t))) ∧
  (∀ (s : State) (n : Nat) (x y : EngSet) (p : Pass) (r : List Pass),
   engAt n s = some x →
   x.passQ = p :: r →
   x.run = none →
   x.tq.length < 8 ∧ x.tqPend = [] →
   x.radio = none →
   setRuns n x s = true →
   modeFits n p.d s = true →
   passGranted n x s = true →
   takeWt p x = some y →
   injected 3 n 0 s = false →
   Completes (.passLoadStart n 0) s (fun t =>
     engAt n t = some { y with run := some { p with taken := true }, passQ := y.passQ.drop 1, act := s.now } ∧
     t.leases = s.leases.map (fun l => if l.core = n then { l with passes := l.passes - 1 } else l) ∧ t.toRadioState = { s.toRadioState with leases := t.leases } ∧
     getF (MXC_Cn_LEVEL_DEMAND n) t = demandOf p.d % 2 ^ (MXC_Cn_LEVEL_DEMAND n).width ∧ lookup n t.gapAt = none ∧
     liveOf 6 (MXC_Cn_LOADS_COUNT n) t = min (2 ^ (MXC_Cn_LOADS_COUNT n).width - 1) (liveOf 6 (MXC_Cn_LOADS_COUNT n) s + 1) ∧
     RegsExcept [MXC_Cn_LEVEL_DEMAND n] s t ∧ Frame [.engine, .radio, .tallies] s t)) ∧
  (∀ (s : State) (n : Nat) (x : EngSet) (p : Pass),
   engAt n s = some x →
   x.run = some p →
   accWaits x p = false →
   x.drain.length < 2 →
   tokenFits x p.et = true →
   setRuns n x s = true →
   injected 3 n 0 s = false →
   Completes (.passStreamEnd n 0) s (fun t =>
     engAt n t = some { signal p.et { x with run := none, drain := x.drain ++ [passResult n p s] } with act := s.now } ∧
     getF (MXC_Cn_LEVEL_DEMAND n) t = 0 ∧ look 0 n t.gapAt = s.now ∧ t.scratch = s.scratch ∧ t.leases = s.leases ∧
     RegsExcept [MXC_Cn_LEVEL_DEMAND n] s t ∧ Frame [.engine, .radio, .tallies] s t)) ∧
  (∀ (s : State) (n : Nat) (x : EngSet) (p : Pass) (r : List Pass),
   engAt n s = some x →
   x.drain = p :: r →
   tokenFits x p.dt = true →
   Completes (.passComplete n) s (fun t =>
     engAt n t = some (afterPass p r x s) ∧ csRead n p.d.out p.result.length t = p.result ∧
     SameOutside (n * 2 ^ 21 + p.d.out) p.result.length s.scratch t.scratch ∧ getF (MXC_Cn_PASS_LAST n) t = p.idx % 2 ^ (MXC_Cn_PASS_LAST n).width ∧
     RegsExcept [MXC_Cn_PASS_LAST n] s t ∧ Frame [.engine, .mem] s t)) ∧
  (∀ (s : State) (n q : Nat) (x : EngSet) (r : List Nat),
   engAt n s = some x →
   x.tqPend = q :: r →
   x.tq.length < 8 →
   Completes (.tqEntryPost n) s (fun t => OnlySet n { x with tq := x.tq ++ [q], tqPend := r } s t)) ∧
  (∀ (s : State) (n w q : Nat) (x : EngSet) (r : List Nat),
   Issues n 2 w x s →
   insOp w = 0x48 →
   x.tq = q :: r →
   Completes (.tqpop n) s (fun t => OnlySet n { x with tq := r, vc := { setG (insD w + 1) (q / 2 ^ 64) (setG (insD w) q x.vc) with pc := x.vc.pc + 8, st := 1 }, act := s.now } s t)) ∧
  (∀ (s : State) (n : Nat),
   govReady n s = true →
   (getF (MXC_Cn_LEVEL_LEVEL n) s < getF (MXC_Cn_LEVEL_DEMAND n) s ∧ getF (MXC_Cn_LEVEL_LEVEL n) s < 64 → Completes (.governorStep n) s (fun t => getF (MXC_Cn_LEVEL_LEVEL n) t = getF (MXC_Cn_LEVEL_LEVEL n) s + 1 ∧ look 0 n t.govAt = s.now ∧
         RegsExcept [MXC_Cn_LEVEL_LEVEL n] s t ∧ Frame [.engine, .radio, .tallies] s t)) ∧
     (getF (MXC_Cn_LEVEL_DEMAND n) s = 0 ∧ gapFor n 64 s = true ∧ 0 < getF (MXC_Cn_LEVEL_LEVEL n) s ∧ getF (MXC_Cn_LEVEL_LEVEL n) s ≤ 64 →
       Completes (.governorStep n) s (fun t => getF (MXC_Cn_LEVEL_LEVEL n) t = getF (MXC_Cn_LEVEL_LEVEL n) s - 1 ∧ look 0 n t.govAt = s.now ∧
         RegsExcept [MXC_Cn_LEVEL_LEVEL n] s t ∧ Frame [.engine, .radio, .tallies] s t))) ∧
  (∀ (s : State) (n : Nat),
   gapFor n 64 s = true →
   gapHeld n s = true →
   getF (MXC_Cn_LEVEL_DEMAND n) s = 0 →
   0 < getF (MXC_Cn_LEVEL_LEVEL n) s →
   Completes (.gapHoldExpiry n) s (fun t =>
     look 0 n t.govAt = s.now ∧ t.toEngineState = { s.toEngineState with govAt := t.govAt } ∧ RegsExcept [] s t ∧ Frame [.engine, .radio, .tallies] s t)) ∧
  (∀ (s : State) (n demand : Nat),
   windowWithin n (nsToTc 600) s = true →
   leaseOf n s = none →
   Completes (.guardRampStart n demand) s (fun t => getF (MXC_Cn_LEVEL_DEMAND n) t = min 64 demand ∧ RegsExcept [MXC_Cn_LEVEL_DEMAND n] s t ∧ Frame [] s t)) ∧
  (∀ (s : State) (n : Nat),
   (engAt n s).all (fun x => x.run.isNone) = true →
   leaseOf n s = none →
   getF (MXC_Cn_INFO_STATE n) s ≠ 5 →
   flagF (MXC_Cn_INFO_CLOVER n) s = true ∨ windowWithin n (nsToTc 700) s = true →
   Completes (.cloverModeChange n false) s (fun t =>
     getF (MXC_Cn_INFO_STATE n) t = 5 ∧ getF (MXC_Cn_INFO_CLOVER n) t = getF (MXC_Cn_INFO_CLOVER n) s ∧ RegsExcept [MXC_Cn_INFO_STATE n] s t ∧ Frame [] s t)) ∧
  (∀ (s : State) (n : Nat),
   getF (MXC_Cn_INFO_STATE n) s = 5 →
   Completes (.cloverModeChange n true) s (fun t =>
     flagF (MXC_Cn_INFO_CLOVER n) t = !flagF (MXC_Cn_INFO_CLOVER n) s ∧ getF (MXC_Cn_INFO_STATE n) t = (if windowOpen n s = true then 1 else 0) ∧
     RegsExcept [MXC_Cn_INFO_STATE n, MXC_Cn_INFO_CLOVER n] s t ∧ Frame [] s t)) ∧
  (∀ (s : State) (n q : Nat),
   coreInService n s = true ∧ coreSuspect n s = true ∧ mcPhys n s ∉ s.mcRetired →
   chooseSpare 20 (mcPhys n s / 20) (mcSpares s) = some q →
   Completes (.matrixCoreRetire n) s (fun t =>
     mcPhys n s ∈ t.mcRetired ∧ lookup n t.mcRetiring = some q ∧ (getF (PWR_DOMd_STATE q) s = 0 → getF (PWR_DOMd_STATE q) t = 1) ∧ flagF MXC_STAT_RETIRED t = true ∧
     RegsExcept ([MXC_STAT_RETIRED, PWR_DOMd_STATE q] ++ vecRegs) s t ∧ Frame (.fault :: vecPieces) s t)) ∧
  (∀ (s : State) (n : Nat),
   coreInService n s = true ∧ coreSuspect n s = true ∧ mcPhys n s ∉ s.mcRetired →
   chooseSpare 20 (mcPhys n s / 20) (mcSpares s) = none →
   coreFree n s = true →
   s.ctxs = [] →
   s.injecting = false →
   Completes (.matrixCoreRetire n) s (fun t =>
     n ∈ t.mcRemoved ∧ mcPhys n s ∈ t.mcRetired ∧ getF MXC_STAT_ACTIVE t = (getF MXC_STAT_ACTIVE s - 1) % 2 ^ MXC_STAT_ACTIVE.width ∧ flagF MXC_STAT_RETIRED t = true ∧
     flagF FLT_STAT_NO_SPARE t = true ∧ flagF ESC_STAT_CAP_CHANGED t = true ∧ (backlog 0 t).length = (backlog 0 s).length + 1)) ∧
  (∀ (s : State) (n q : Nat),
   lookup n s.mcRetiring = some q →
   coreFree n s = true →
   getF (PWR_DOMd_STATE q) s = 2 →
   q ≠ mcPhys n s →
   s.spareCmd = [] →
   s.injecting = false →
   Completes (.matrixCoreSpareIn n) s (fun t =>
     mcPhys n t = q % 2 ^ (MXC_Cn_INFO_PHYS n).width ∧ getF (MXC_Cn_INFO_DIE n) t = q / 20 % 2 ^ (MXC_Cn_INFO_DIE n).width ∧ lookup n t.mcRetiring = none ∧
     getF MXC_STAT_SPARES t = (getF MXC_STAT_SPARES s - 1) % 2 ^ MXC_STAT_SPARES.width ∧ flagF FLT_STAT_SPARED t = true ∧ lookup n t.lastCtx = none ∧
     t.scratch = fillZero (n * 2 ^ 21) (2 ^ 21) s.scratch ∧ (backlog 0 t).length = (backlog 0 s).length + 2 ∧
     liveOf 16 FLT_T_SPARED_COUNT t = min (2 ^ FLT_T_SPARED_COUNT.width - 1) (liveOf 16 FLT_T_SPARED_COUNT s + 1)))

namespace Sys2Proof

/-- Engine set y is x after a lane-wise word w: g gives the value and the flags of each enabled lane (R230, R232). -/
def LaneDone (w : Nat) (g : Nat → Nat × Nat) (x y : EngSet) (s : State) : Prop :=
  (∀ l ∈ List.range 64, vGet y (insD w) l = if bitAt l (kGet x (insK w)) then (g l).1 % 2 ^ 32 else vGet x (insD w) l) ∧
  (∀ r ∈ List.range 32, r ≠ insD w → ∀ l ∈ List.range 64, vGet y r l = vGet x r l) ∧
  y.vstat = (List.range 64).foldl (fun a l => if bitAt l (kGet x (insK w)) then a ||| (g l).2 else a) x.vstat ∧
  (insFkd w ≠ 0 → ∀ l ∈ List.range 64, bitAt l (kGet y (insFkd w)) = (bitAt l (kGet x (insK w)) && decide ((g l).2 ≠ 0))) ∧
  (∀ j ∈ List.range 8, j ≠ insFkd w → kGet y j = kGet x j) ∧
  y = { ranWord 2 x.vc x s with v := y.v, k := y.k, vstat := y.vstat }

/-- Only the engine set of core n differs, and it is y; free values may have been drawn. -/
def OnlyVec (n : Nat) (y : EngSet) (s t : State) : Prop :=
  t.toEngineState = { s.toEngineState with eng := put n (some y) s.eng } ∧ RegsExcept [] s t ∧ Frame [.engine, .draws] s t

/-- Engine 2 stands at a word of the class of opcodes lo to hi. -/
def IssuesVec (n lo hi w : Nat) (x : EngSet) (s : State) : Prop := Issues n 2 w x s ∧ lo ≤ insOp w ∧ insOp w ≤ hi

/-- The lane-wise instructions of three operands, with the bounds of their class and a number. -/
def vec3Ops (n : Nat) : List (Instr × Nat × Nat × Nat) :=
  [(.vadd n, 0x60, 0x6F, 0), (.vmul n, 0x60, 0x6F, 1), (.vfma n, 0x60, 0x6F, 2), (.vmin n, 0x60, 0x6F, 3), (.vmax n, 0x60, 0x6F, 4), (.vabs n, 0x60, 0x6F, 5),
    (.bf16PackedAdd n, 0x70, 0x77, 6), (.bf16PackedMultiply n, 0x70, 0x77, 7), (.bf16PackedFma n, 0x70, 0x77, 8), (.int32Add n false, 0x78, 0x7F, 9),
    (.int32Add n true, 0x78, 0x7F, 10), (.int32Multiply n false, 0x78, 0x7F, 11), (.int32Multiply n true, 0x78, 0x7F, 12)]

/-- What the instruction of a number gives a lane of VA, VB and VC: its value and its flags. -/
def vec3Gives (i a b c : Nat) : Nat × Nat :=
  match i with
  | 0 => fpAdd fp32 a b
  | 1 => fpMul fp32 a b
  | 2 => fpFma fp32 a b c
  | 3 => fpMinMax fp32 false a b
  | 4 => fpMinMax fp32 true a b
  | 5 => (if isNan (decodeNum fp32 a) then canonNan fp32 else a % 2 ^ 31, 0)
  | 6 => packed (fun a b _ => fpAdd (fmtOf 5) a b) a b c
  | 7 => packed (fun a b _ => fpMul (fmtOf 5) a b) a b c
  | 8 => packed (fun a b c => fpFma (fmtOf 5) a b c) a b c
  | 9 => ((BitVec.ofNat 32 a + BitVec.ofNat 32 b).toNat, 0)
  | 10 => int32Result true ((BitVec.ofNat 32 a).toInt + (BitVec.ofNat 32 b).toInt)
  | 11 => ((BitVec.ofNat 32 a * BitVec.ofNat 32 b).toNat, 0)
  | _ => int32Result true ((BitVec.ofNat 32 a).toInt * (BitVec.ofNat 32 b).toInt)

/-- The transcendental instructions, with the numbers of Kralum's reference functions. -/
def transcOps (n : Nat) : List (Instr × Nat) := [(.vexp2 n, 0), (.vlog2 n, 1), (.vrcp n, 2), (.vrsqrt n, 3), (.vtanh n, 4), (.vsigm n, 5)]

end Sys2Proof

/-- An instruction of a vector class that issues gives each lane of VD that its mask register enables the lane's result and leaves the other lanes and
registers as they were; its flags are ORed into VSTAT and set bit by bit in K[FKD]. Comparisons and mask logic write the enabled bits of a mask
register; a reduction writes lane 0 with the pairwise tree over the enabled lanes; VLD, VST, VGATHER and VSCATTER move the enabled lanes between VD
and Core Scratch and fault on a misaligned address (cause 1) or one outside the area (cause 2). VRAND's lanes are the generator's for the seed and
step counter of the context. R482 gives the operations of a class no opcode of their own, so an operation takes any opcode of its class; packings, the
free values of shifts by 32 or more and of conversions of a NaN are the model's choices, in the assumption log. -/
def Obligations.VectorInstructions : Prop :=
  (∀ (s : State) (n lo hi i w : Nat) (x : EngSet) (c : Instr),
   (c, lo, hi, i) ∈ vec3Ops n →
   IssuesVec n lo hi w x s →
   Completes c s (fun t =>
     ∃ y, lookup n t.eng = some y ∧ LaneDone w (fun l => vec3Gives i (vGet x (insA w) l) (vGet x (insB w) l) (vGet x (insC w) l)) x y s ∧ OnlyVec n y s t)) ∧
  (∀ (s : State) (n i w : Nat) (x : EngSet) (c : Instr),
   (c, i) ∈ transcOps n →
   IssuesVec n 0x90 0x97 w x s →
   Completes c s (fun t =>
     ∃ y, lookup n t.eng = some y ∧ LaneDone w (fun l => transcend i (vGet x (insA w) l)) x y s ∧ OnlyVec n y s t)) ∧
  (∀ (s : State) (n w : Nat) (left arith sat : Bool) (x : EngSet),
   IssuesVec n 0x78 0x7F w x s →
   Completes (.int32Shift n left arith sat) s (fun t =>
     ∃ y, lookup n t.eng = some y ∧ LaneDone w (fun l =>
       let a := BitVec.ofNat 32 (vGet x (insA w) l);
       let b := vGet x (insB w) l;
       if 32 ≤ b then (laneFree s l % 2 ^ 32, if sat && left then mkFlags false false false (bitAt 32 (laneFree s l)) else 0)
       else if left then (if sat then int32Result true (a.toInt * 2 ^ b) else ((a <<< b).toNat, 0))
       else if arith then ((a.sshiftRight b).toNat, 0) else (vGet x (insA w) l / 2 ^ b, 0)) x y s ∧ OnlyVec n y s t)) ∧
  (∀ (s : State) (n w i : Nat) (x : EngSet) (c : Instr),
   (c, i) ∈ [((.vsel n : Instr), 0), (.vperm n, 1), (.vbcast n, 2)] →
   IssuesVec n (if i = 0 then 0x80 else 0x98) (if i = 0 then 0x87 else 0x9F) w x s →
   Completes c s (fun t =>
     ∃ y, lookup n t.eng = some y ∧ LaneDone w (fun l =>
       (if i = 0 then (if bitAt l (kGet x (insC w % 8)) then vGet x (insA w) l else vGet x (insB w) l)
       else if i = 1 then vGet x (insA w) (vGet x (insB w) l % 64) else vGet x (insA w) (insVimm w % 64), 0)) x y s ∧ OnlyVec n y s t)) ∧
  (∀ (s : State) (n w : Nat) (src dst : Fin 5) (x : EngSet),
   IssuesVec n 0x88 0x8F w x s →
   ¬ (src.val = 0 ↔ dst.val = 0) →
   Completes (.vcvt n src dst) s (fun t =>
     ∃ y, lookup n t.eng = some y ∧ LaneDone w (fun l => convert src dst (laneFree s l) (vGet x (insA w) l)) x y s ∧ OnlyVec n y s t)) ∧
  (∀ (s : State) (n w : Nat) (fmt : Fin 5) (x : EngSet),
   IssuesVec n 0x88 0x8F w x s →
   Completes (.vmxq n fmt) s (fun t => OnlyVec n (ranWord 2 (mxQuant fmt w (laneFree s) x).vc (mxQuant fmt w (laneFree s) x) s) s t)) ∧
  (∀ (s : State) (n w : Nat) (x : EngSet) (c : Ctx),
   IssuesVec n 0xA0 0xA0 w x s →
   ctxOf x.ctx s = some c →
   Completes (.vrand n) s (fun t =>
     ∃ y, lookup n t.eng = some y ∧ LaneDone w (fun l => (vrandLane c.seed c.counter (gReg x.vc (insA w)) l, 0)) x y s ∧ OnlyVec n y s t)) ∧
  (∀ (s : State) (n w : Nat) (i : Fin 6) (j : Fin 4) (b : Bool) (x : EngSet) (c : Instr),
   c = .vcmp n i b ∨ c = .maskLogic n j →
   IssuesVec n 0x80 0x87 w x s →
   Completes c s (fun t =>
     ∃ y, lookup n t.eng = some y ∧
       (insD w % 8 ≠ 0 → ∀ l ∈ List.range 64, bitAt l (kGet y (insD w % 8)) =
         if bitAt l (kGet x (insK w)) then
           (if c = .vcmp n i b then (if b then intRel i else fpRel i) (vGet x (insA w) l) (vGet x (insB w) l)
           else
             let p := bitAt l (kGet x (insA w % 8));
             let q := bitAt l (kGet x (insB w % 8));
             if j.val = 0 then p && q else if j.val = 1 then p || q else if j.val = 2 then p != q else !p)
         else bitAt l (kGet x (insD w % 8))) ∧
       (∀ k ∈ List.range 8, k ≠ insD w % 8 → kGet y k = kGet x k) ∧ y = { ranWord 2 x.vc x s with k := y.k } ∧ OnlySet n y s t)) ∧
  (∀ (s : State) (n w pad : Nat) (x : EngSet) (c : Instr) (r : Nat × Nat),
   (c = .vrsum n ∧ pad = 0 ∧ r = treeFold (fpAdd fp32) 6 ((List.range 64).map (fun l => if bitAt l (kGet x (insK w)) then vGet x (insA w) l else pad))) ∨
     (c = .vrmax n ∧ pad = 0xFF800000 ∧ r = treeFold (fpMinMax fp32 true) 6 ((List.range 64).map (fun l => if bitAt l (kGet x (insK w)) then vGet x (insA w) l else pad))) →
   IssuesVec n 0x98 0x9F w x s →
   Completes c s (fun t =>
     ∃ y, lookup n t.eng = some y ∧ vGet y (insD w) 0 = r.1 % 2 ^ 32 ∧ y.vstat = x.vstat ||| r.2 ∧
       (∀ d ∈ List.range 32, ∀ l ∈ List.range 64, d ≠ insD w ∨ l ≠ 0 → vGet y d l = vGet x d l) ∧
       (insFkd w ≠ 0 → kGet y (insFkd w) = if r.2 = 0 then 0 else 1) ∧ y = { ranWord 2 x.vc x s with v := y.v, k := y.k, vstat := y.vstat } ∧ OnlySet n y s t)) ∧
  (∀ (s : State) (n w : Nat) (g : Bool) (x : EngSet) (c : Instr) (a : Nat → Nat),
   (c = .vld n ∧ g = false) ∨ (c = .vgather n ∧ g = true) →
   (∀ l ∈ List.range 64, a l = gReg x.vc (insA w) + 4 * (if g then vGet x (insB w) l else l)) →
   IssuesVec n 0x50 0x53 w x s →
   (∀ l ∈ List.range 64, g = false ∨ bitAt l (kGet x (insK w)) = true → a l % 4 = 0 ∧ inArea x (a l) 4 = true) →
   Completes c s (fun t =>
     ∃ y, lookup n t.eng = some y ∧
       (∀ l ∈ List.range 64, vGet y (insD w) l = if bitAt l (kGet x (insK w)) then leNat (csRead n (a l) 4 s) else vGet x (insD w) l) ∧
       (∀ r ∈ List.range 32, r ≠ insD w → ∀ l ∈ List.range 64, vGet y r l = vGet x r l) ∧ y = { ranWord 2 x.vc x s with v := y.v } ∧ OnlySet n y s t)) ∧
  (∀ (s : State) (n w : Nat) (g : Bool) (x : EngSet) (c : Instr) (a : Nat → Nat),
   (c = .vst n ∧ g = false) ∨ (c = .vscatter n ∧ g = true) →
   (∀ l ∈ List.range 64, a l = gReg x.vc (insA w) + 4 * (if g then vGet x (insB w) l else l)) →
   IssuesVec n 0x50 0x53 w x s →
   (∀ l ∈ List.range 64, g = false ∨ bitAt l (kGet x (insK w)) = true → a l % 4 = 0 ∧ inArea x (a l) 4 = true) →
   (∀ l ∈ List.range 64, ∀ m ∈ List.range 64, a l = a m → l = m ∨ bitAt l (kGet x (insK w)) = false ∨ bitAt m (kGet x (insK w)) = false) →
   Completes c s (fun t =>
     (∀ l ∈ List.range 64, bitAt l (kGet x (insK w)) = true → csRead n (a l) 4 t = natLE 4 (vGet x (insD w) l)) ∧
     (∀ b ∈ s.scratch.map Prod.fst, (∀ l ∈ List.range 64, bitAt l (kGet x (insK w)) = false ∨ b < n * 2 ^ 21 + a l ∨ n * 2 ^ 21 + a l + 4 ≤ b) →
       readByte t.scratch b = readByte s.scratch b) ∧
     engAt n t = some (ranWord 2 x.vc x s) ∧ t.toMemState = { s.toMemState with scratch := t.scratch } ∧ RegsExcept [] s t ∧ Frame [.engine, .mem] s t)) ∧
  (∀ (s : State) (n w : Nat) (x : EngSet) (c : Instr) (st : Step),
   c = .vld n ∨ c = .vst n →
   IssuesVec n 0x50 0x53 w x s →
   gReg x.vc (insA w) % 4 ≠ 0 ∨ inArea x (gReg x.vc (insA w)) 256 = false →
   x.radio = none →
   stepOf x.ctx s = some st →
   Completes c s (fun t => Faulted n (if gReg x.vc (insA w) % 4 ≠ 0 then 1 else 2) x t))

namespace Sys2Proof

/-- Every field that PART_SET and PART_CLEAR may change (R340, R341). -/
def partFields (n : Nat) : List Fld :=
  [SCHED_Pp_INFO_STATE n, SCHED_Pp_INFO_FUNC n, SCHED_Pp_INFO_NRES n, SCHED_Pp_INFO_DET n, SCHED_Pp_CORESi_CORES n 0, SCHED_Pp_CORESi_CORES n 1,
    SCHED_Pp_CORESi_CORES n 2, TIER_Pp_T0_QUOTA n, TIER_Pp_T1_QUOTA n, TIER_Pp_T2_LIMIT n, TIER_Pp_T0_USED n, TIER_Pp_T2_USED n]

/-- The vector is sent when the function may master the bus and nothing masks it (R434). -/
def vecSent (f v : Nat) (s t : State) : Prop :=
  mayMaster f s = true ∧ (fnOf f s).fmask = false ∧ vecMasked f v s = false ∧ v < vecCount f → t.msgs = s.msgs ++ [⟨f, v⟩]

end Sys2Proof

/-- PART_SET opens a partition with its function, resident places, cores, quotas and regions; PART_CLEAR of a partition without contexts makes it
ABSENT and leaves its reply to the fill of its frames; the fill's end drops its quotas and ends the command, and a fill of every store leaves them
zero. A regulator's tokens rise by RATE times 128 ns up to BURST. A mailbox area is posted by its one writer when it is free, an OVR is set when it is
full, and an ACK empties it. EN and SWAP of a dirty log act for the PF alone; a swap while FLUSH is refused. -/
def Obligations.PartitionsAndMailboxes : Prop :=
  (∀ (s : State) (p : Pkt),
   ready p s = true →
   chkPartSet p (leaveTimed p s) = none →
   Completes (.partSet p) s (fun t =>
     partSt (psPart p) t = 1 ∧ getF (SCHED_Pp_INFO_FUNC (psPart p)) t = psFunc p ∧ getF (SCHED_Pp_INFO_NRES (psPart p)) t = psNres p ∧
     getF (TIER_Pp_T0_QUOTA (psPart p)) t = psQuota p 1 % 2 ^ (TIER_Pp_T0_QUOTA (psPart p)).width ∧
     getF (TIER_Pp_T1_QUOTA (psPart p)) t = psQuota p 2 % 2 ^ (TIER_Pp_T1_QUOTA (psPart p)).width ∧
     getF (TIER_Pp_T2_LIMIT (psPart p)) t = psQuota p 3 % 2 ^ (TIER_Pp_T2_LIMIT (psPart p)).width ∧
     (∀ c ∈ List.range 144, partHolds (psPart p) c t = bitAt c (psCores p)) ∧
     (lookup (psPart p) t.parts).map (fun q => (q.key, q.maxCtx, q.ports)) = some (psKey p, psMaxCtx p, psPorts p) ∧
     (regionsOf (psPart p) 1 t).length = regionFrames p 1 ∧ (regionsOf (psPart p) 3 t).length = regionFrames p 3 ∧ Ended p stOK 0 t ∧
     RegsExcept (partFields (psPart p) ++ replyRegs p.window) s t ∧ Frame (.engine :: .mem :: replyPieces) s t)) ∧
  (∀ (s : State) (p : Pkt),
   ready p s = true →
   parPartSet p (leaveTimed p s) = none →
   partSt (psPart p) s = 2 →
   Completes (.partSet p) s (fun t => Ended p stFENCED (psPart p) t ∧ RegsExcept (replyRegs p.window) s t ∧ Frame replyPieces s t)) ∧
  (∀ (s : State) (p : Pkt),
   ready p s = true →
   psPart p < 8 →
   partSt (psPart p) s ≠ 0 →
   (∀ c ∈ s.ctxs, c.2.part ≠ psPart p) →
   (∀ o ∈ s.objs, o.2.part ≠ psPart p) →
   Completes (.partClear p) s (fun t =>
     partSt (psPart p) t = 0 ∧ lookup (psPart p) t.parts = none ∧ (∀ c ∈ List.range 144, partHolds (psPart p) c t = false) ∧
     t.fills = s.fills ++ [(psPart p, p.id + 1, true)] ∧ t.objs = s.objs ∧ p ∈ t.accepted ∧ p.id ∈ t.begun ∧
     t.freeing = s.freeing ++ (((lookup (psPart p) s.parts).map (fun q => q.regions)).getD []).map (fun r => (r.1, r.2, psPart p)) ∧
     RegsExcept ([CMD_TIMED_PENDING, MEMC_STAT_FILLING, HJF_GATE_KEYp_EXTKEY (psPart p), HJF_GATE_ELEC, HJF_GATE_FENCED] ++ partFields (psPart p)) s t ∧
     Frame [.commands, .engine, .mem] s t)) ∧
  (∀ (s : State) (p : Pkt),
   ready p s = true →
   psPart p < 8 →
   partSt (psPart p) s = 0 ∨ s.ctxs.any (fun c => decide (c.2.part = psPart p)) = true →
   Completes (.partClear p) s (fun t =>
     Ended p stSTATE_CONFLICT (conflictDetail 6 (psPart p) (partSt (psPart p) s)) t ∧ RegsExcept (replyRegs p.window) s t ∧ Frame replyPieces s t)) ∧
  (∀ (s : State) (i k : Nat) (p : Pkt),
   i < 8 →
   s.fills.find? (fun x => decide (x.1 = i)) = some (i, k, true) →
   k = p.id + 1 →
   s.accepted.find? (fun q => decide (q.id = p.id)) = some p →
   (∀ x ∈ s.freeing, x.2.2 % 16 ≠ i) →
   partSt i s = 0 →
   Completes (.fillDone i) s (fun t =>
     t.fills = s.fills.erase (i, k, true) ∧ getF (TIER_Pp_T0_QUOTA i) t = 0 ∧ getF (TIER_Pp_T1_QUOTA i) t = 0 ∧ getF (TIER_Pp_T2_LIMIT i) t = 0 ∧ Ended p stOK 0 t ∧
     RegsExcept ([MEMC_STAT_FILLING, TIER_Pp_T0_QUOTA i, TIER_Pp_T1_QUOTA i, TIER_Pp_T2_LIMIT i] ++ replyRegs p.window) s t ∧ Frame (.mem :: replyPieces) s t)) ∧
  (∀ (s : State) (x : Nat × Nat × Bool),
   s.fills.find? (fun x => decide (x.1 = 8)) = some x →
   x.2.1 = 0 →
   Completes (.fillDone 8) s (fun t =>
     t.mem = [] ∧ t.poison = [] ∧ t.scratch = [] ∧ t.fills = s.fills.erase x ∧ t.objs = s.objs ∧ t.bmap = s.bmap ∧ getF MEMC_FILL_PCT t = 100 ∧
     RegsExcept [MEMC_STAT_FILLING, MEMC_FILL_PCT, MEMC_FILL_DONE] s t ∧ Frame [.mem] s t)) ∧
  (∀ (s : State) (p : Fin 8),
   s.eng = [] →
   s.ftt = [] →
   Completes (.regulatorRefill p) s (fun t =>
     (∀ x ∈ List.range 3, regulOf p x t = ⟨min ((getF (regulBurst p x) s * 1024 : Nat) : Int) ((regulOf p x s).tokens + (getF (regulRate p x) s * 128 : Nat)),
       getF (regulRate p x) s, getF (regulBurst p x) s * 1024⟩) ∧
     t.toEngineState = { s.toEngineState with regul := t.regul } ∧ RegsExcept [] s t ∧ Frame [.engine] s t)) ∧
  (∀ (s : State) (v : Fin 33),
   hostUp v s = true →
   v ≠ 0 →
   flagF (SCHED_MBXv_CTRL_V2P_FULL (v - 1)) s = false →
   Completes (.v2pPost v v) s (fun t =>
     flagF (SCHED_MBXv_CTRL_V2P_FULL (v - 1)) t = true ∧ vecSent 0 (getF (SCHED_MBXv_VEC_PF_VEC (v - 1)) s) s t ∧
     RegsExcept (SCHED_MBXv_CTRL_V2P_FULL (v - 1) :: vecRegs) s t ∧ Frame vecPieces s t)) ∧
  (∀ (s : State) (v : Fin 33),
   hostUp 0 s = true →
   v ≠ 0 →
   flagF (SCHED_MBXv_CTRL_P2V_FULL (v - 1)) s = false →
   Completes (.p2vPost 0 v) s (fun t =>
     flagF (SCHED_MBXv_CTRL_P2V_FULL (v - 1)) t = true ∧ vecSent v (getF (SCHED_MBXv_VEC_VF_VEC (v - 1)) s) s t ∧
     RegsExcept (SCHED_MBXv_CTRL_P2V_FULL (v - 1) :: vecRegs) s t ∧ Frame vecPieces s t)) ∧
  (∀ (s : State) (v : Fin 33) (f : Fin 33) (c : Instr) (full : Fld),
   v ≠ 0 →
   (c = .v2pPost v v ∧ f = v ∧ full = SCHED_MBXv_CTRL_V2P_FULL (v - 1)) ∨ (c = .p2vPost 0 v ∧ f = 0 ∧ full = SCHED_MBXv_CTRL_P2V_FULL (v - 1)) →
   hostUp f s = true →
   flagF full s = true →
   Completes c s (fun t => flagF SCHED_STAT_MBX_OVR t = true ∧ RegsExcept (SCHED_STAT_MBX_OVR :: vecRegs) s t ∧ Frame vecPieces s t)) ∧
  (∀ (s : State) (v : Fin 33),
   hostUp 0 s = true →
   v ≠ 0 →
   flagF (SCHED_MBXv_CTRL_V2P_FULL (v - 1)) s = true →
   Completes (.v2pAck 0 v) s (fun t =>
     flagF (SCHED_MBXv_CTRL_V2P_FULL (v - 1)) t = false ∧ vecSent v (getF (SCHED_MBXv_VEC_VF_VEC (v - 1)) s) s t ∧
     RegsExcept (SCHED_MBXv_CTRL_V2P_FULL (v - 1) :: vecRegs) s t ∧ Frame vecPieces s t)) ∧
  (∀ (s : State) (v : Fin 33),
   hostUp v s = true →
   v ≠ 0 →
   flagF (SCHED_MBXv_CTRL_P2V_FULL (v - 1)) s = true →
   Completes (.p2vAck v v) s (fun t =>
     flagF (SCHED_MBXv_CTRL_P2V_FULL (v - 1)) t = false ∧ vecSent 0 (getF (SCHED_MBXv_VEC_PF_VEC (v - 1)) s) s t ∧
     RegsExcept (SCHED_MBXv_CTRL_P2V_FULL (v - 1) :: vecRegs) s t ∧ Frame vecPieces s t)) ∧
  (∀ (s : State) (f v : Fin 33) (c : Instr),
   (c = .v2pPost f v ∧ f ≠ v) ∨ (c = .v2pAck f v ∧ f ≠ 0) ∨ (c = .p2vPost f v ∧ f ≠ 0) ∨ (c = .p2vAck f v ∧ f ≠ v) →
   Completes c s (fun t => t = s)) ∧
  (∀ (s : State) (v : Fin 33) (w : BitVec 32) (c : Instr),
   c = .dlogEnable 0 v w ∨ c = .dlogSwap 0 v w →
   hostUp 0 s = true →
   v ≠ 0 →
   Completes c s (fun t =>
     getF (SCHED_DLOGv_CTRL_EN (v - 1)) t = w.toNat % 2 ∧
     (w.toNat / 2 % 2 = 0 → getF (SCHED_DLOGv_STAT_ACTIVE (v - 1)) t = (if w.toNat % 2 = 1 ∧ flagF (SCHED_DLOGv_CTRL_EN (v - 1)) s = false then 0
       else getF (SCHED_DLOGv_STAT_ACTIVE (v - 1)) s) ∧ getF (SCHED_DLOGv_STAT_FLUSH (v - 1)) t = getF (SCHED_DLOGv_STAT_FLUSH (v - 1)) s) ∧
     (w.toNat / 2 % 2 = 1 → flagF (SCHED_DLOGv_STAT_FLUSH (v - 1)) s = true → flagF (SCHED_DLOGv_STAT_SWAP_REFUSED (v - 1)) t = true) ∧
     (w.toNat / 2 % 2 = 1 → flagF (SCHED_DLOGv_STAT_FLUSH (v - 1)) s = false → flagF (SCHED_DLOGv_CTRL_EN (v - 1)) s = true →
       flagF (SCHED_DLOGv_STAT_FLUSH (v - 1)) t = true ∧ getF (SCHED_DLOGv_STAT_ACTIVE (v - 1)) t = 1 - getF (SCHED_DLOGv_STAT_ACTIVE (v - 1)) s) ∧
     RegsExcept [SCHED_DLOGv_CTRL_EN (v - 1), SCHED_DLOGv_STAT_ACTIVE (v - 1), SCHED_DLOGv_STAT_FLUSH (v - 1), SCHED_DLOGv_STAT_SWAP_REFUSED (v - 1)] s t ∧ Frame [] s t)) ∧
  (∀ (s : State) (f v : Fin 33) (w : BitVec 32),
   f ≠ 0 →
   Completes (.dlogEnable f v w) s (fun t => t = s) ∧ Completes (.dlogSwap f v w) s (fun t => t = s)) ∧
  (∀ (s : State) (v : Fin 33),
   v ≠ 0 →
   Completes (.dlogFlushDone v) s (fun t => getF (SCHED_DLOGv_STAT_FLUSH (v - 1)) t = 0 ∧ RegsExcept [SCHED_DLOGv_STAT_FLUSH (v - 1)] s t ∧ Frame [] s t))

namespace Sys2Proof

/-- The fields that show the charges of partition p in the tiers (R245, R246, R258). -/
def chargeFields (p : Nat) : List Fld :=
  [TIER_Pp_T0_USED p, TIER_Pp_T1_USED p, TIER_Pp_T2_USED p, TIER_Pp_POOL_T0 p, TIER_Pp_POOL_T1 p, TIER_POOLUSE_T0, TIER_POOLUSE_T1, TIER_STAT_POOL_LOW_T0,
    TIER_STAT_POOL_LOW_T1]

end Sys2Proof

/-- OBJ_CREATE in an OPEN partition with room makes a SETTLED object whose blocks are mapped in its tier and answers its index; OBJ_FREE of an object
that may be freed unmaps its blocks and returns its frames; OBJ_PIN, OBJ_UNPIN and OBJ_KEYS change its pin count and its keys; OBJ_QUERY writes its
entry; OBJ_PROMOTE to the object's own tier touches it, to a faster tier charges frames and queues a migration, and joins one under way; OBJ_EVICT
queues the migration to a slower tier and is deferred by a pin. A fence refuses the commands that act. -/
def Obligations.ObjectCommands : Prop :=
  (∀ (s : State) (p : Pkt) (i b : Nat),
   ready p s = true →
   chkCreate p (leaveTimed p (unreserveObj p.id s)) = none →
   createPlace p s = some (i, b) →
   Completes (.objCreate p) s (fun t =>
     (∃ o, lookup i t.objs = some o ∧ o.st = 1 ∧ o.part = p.part ∧ o.tier = pf p 12 1 % 4 ∧ o.len = pf p 8 4 ∧ o.pin = b2n (bitAt 2 (pf p 13 1)) ∧ o.age = ageNow s ∧
       o.block = b ∧ indexFree i (unreserveObj p.id s) = true ∧ (s.objResv = [] → baseFree p = false → b = pf p 0 8 / 2 ^ 21) ∧ (∀ j ∈ List.range (objBlocks o), entTier (bent (o.block + j) t) = o.tier)) ∧
     (∀ k ∈ s.objs.map Prod.fst, k ≠ i → lookup k t.objs = lookup k s.objs) ∧
     getF (TIER_Pp_OBJS_COUNT p.part) t = (getF (TIER_Pp_OBJS_COUNT p.part) s + 1) % 2 ^ (TIER_Pp_OBJS_COUNT p.part).width ∧ Ended p stOK i t ∧ t.objResv.all (fun r => decide (r.id ≠ p.id)) = true)) ∧
  (∀ (s : State) (p : Pkt) (o : Obj),
   ready p s = true →
   chkFree p s = none →
   lookup (pObj p) s.objs = some o →
   Completes (.objFree p) s (fun t =>
     lookup (pObj p) t.objs = none ∧ (∀ j ∈ List.range (objBlocks o), bent (o.block + j) t = 0) ∧
     (∀ j ∈ List.range (objBlocks o), (entTier (bent (o.block + j) s), entFrame (bent (o.block + j) s)) ∈ t.freeing.map (fun x => (x.1, x.2.1))) ∧
     getF (TIER_Pp_OBJS_COUNT o.part) t = (getF (TIER_Pp_OBJS_COUNT o.part) s - 1) % 2 ^ (TIER_Pp_OBJS_COUNT o.part).width ∧ Ended p stOK 0 t ∧
     RegsExcept ([TIER_Pp_OBJS_COUNT o.part, MEMC_REFETCH_ACTIVE] ++ chargeFields o.part ++ replyRegs p.window) s t ∧ Frame (.mem :: replyPieces) s t)) ∧
  (∀ (s : State) (p : Pkt) (o o' : Obj) (c : Instr),
   (c = .objPin p ∧ chkPin p s = none ∧ o' = { o with pin := o.pin + 1 }) ∨ (c = .objUnpin p ∧ chkUnpin p s = none ∧ o' = { o with pin := o.pin - 1 }) ∨
     (c = .objKeys p ∧ chkKeys p s = none ∧ o' = { o with keys := [pf p 4 4, pf p 8 4, pf p 12 4, pf p 16 4], perm := pf p 20 2 }) →
   ready p s = true →
   lookup (pObj p) s.objs = some o →
   Completes c s (fun t =>
     lookup (pObj p) t.objs = some o' ∧ t.toMemState = { s.toMemState with objs := put (pObj p) (some o') s.objs } ∧ Ended p stOK 0 t ∧
     RegsExcept (replyRegs p.window) s t ∧ Frame (.mem :: replyPieces) s t)) ∧
  (∀ (s : State) (p : Pkt) (o : Obj) (c : Instr),
   c = .objFree p ∨ c = .objUnpin p ∨ c = .objKeys p →
   ready p s = true →
   256 ≤ pObj p ∧ pObj p < 2 ^ 20 →
   lookup (pObj p) s.objs = some o →
   o.part = p.part →
   partSt p.part s = 2 →
   Completes c s (fun t => Ended p stFENCED p.part t ∧ RegsExcept (replyRegs p.window) s t ∧ Frame replyPieces s t)) ∧
  (∀ (s : State) (p : Pkt) (o : Obj),
   ready p s = true →
   chkObjQuery p s = none →
   lookup (pObj p) s.objs = some o →
   o.keys.length = 4 →
   replyLands p.window s = true →
   pf p 8 8 + 64 ≤ getF (CMD_PWw_RR_BASE_ADDR p.window) s * 4096 ∨ getF (CMD_PWw_RR_BASE_ADDR p.window) s * 4096 + ringSize p.window s * 32 ≤ pf p 8 8 →
   Completes (.objQuery p) s (fun t =>
     readBytes t.hostMem (pf p 8 8) 64 = objBytes o ∧ Ended p stOK 0 t ∧ RegsExcept (replyRegs p.window) s t ∧ Frame replyPieces s t)) ∧
  (∀ (s : State) (p : Pkt) (o : Obj),
   ready p s = true →
   (∀ r ∈ s.objResv, r.id ≠ p.id) →
   chkPromote p s = none →
   lookup (pObj p) s.objs = some o →
   o.st = 1 ∧ pTarget p = o.tier →
   Completes (.objPromote p) s (fun t =>
     lookup (pObj p) t.objs = some { o with age := ageNow s } ∧ t.toMemState = { s.toMemState with objs := t.objs } ∧ Ended p stOK 0 t ∧
     RegsExcept (replyRegs p.window) s t ∧ Frame (.mem :: replyPieces) s t)) ∧
  (∀ (s : State) (p : Pkt) (o : Obj),
   ready p s = true →
   (∀ r ∈ s.objResv, r.id ≠ p.id) →
   chkPromote p s = none →
   lookup (pObj p) s.objs = some o →
   o.st = 1 ∧ pTarget p ≠ o.tier →
   Completes (.objPromote p) s (fun t =>
     (lookup (pObj p) t.objs).map (fun x => (x.st, x.target, x.started, x.drop)) = some (2, pTarget p, false, pDrop p) ∧
     (lookup (pObj p) t.objs).map (fun x => (x.resv, x.waiters, x.moved)) = some (objBlocks o, [p.id], 0) ∧
     t.migQueue = s.migQueue ++ [pObj p] ∧ getF TIER_MIG_QUEUED t = (s.migQueue.length + 1) % 2 ^ TIER_MIG_QUEUED.width ∧ p ∈ t.accepted ∧ p.id ∈ t.begun ∧
     t.bmap = s.bmap ∧ t.mem = s.mem ∧
     RegsExcept ([CMD_TIMED_PENDING, TIER_MIG_QUEUED, TIER_MIG_RUNNING] ++ chargeFields o.part ++ vecRegs) s t ∧ Frame (.commands :: .mem :: vecPieces) s t)) ∧
  (∀ (s : State) (p : Pkt) (o : Obj),
   ready p s = true →
   (∀ r ∈ s.objResv, r.id ≠ p.id) →
   chkPromote p s = none →
   lookup (pObj p) s.objs = some o →
   o.st = 2 →
   Completes (.objPromote p) s (fun t =>
     lookup (pObj p) t.objs = some { o with waiters := o.waiters ++ [p.id] } ∧ t.toMemState = { s.toMemState with objs := t.objs } ∧ p ∈ t.accepted ∧ p.id ∈ t.begun ∧
     RegsExcept [CMD_TIMED_PENDING] s t ∧ Frame [.commands, .mem] s t)) ∧
  (∀ (s : State) (p : Pkt) (o : Obj),
   ready p s = true →
   (∀ r ∈ s.objResv, r.id ≠ p.id) →
   chkEvict p s = none →
   lookup (pObj p) s.objs = some o →
   o.st = 1 →
   Completes (.objEvict p) s (fun t =>
     (lookup (pObj p) t.objs).map (fun x => (x.st, x.target, x.started)) = some (3, pTarget p, false) ∧
     (lookup (pObj p) t.objs).map (fun x => (x.resv, x.waiters, x.moved)) = some (evictFrames o (pTarget p) s, [p.id], 0) ∧
     t.migQueue = s.migQueue ++ [pObj p] ∧ p ∈ t.accepted ∧ p.id ∈ t.begun ∧ t.bmap = s.bmap ∧ t.mem = s.mem ∧
     RegsExcept ([CMD_TIMED_PENDING, TIER_MIG_QUEUED, TIER_MIG_RUNNING] ++ chargeFields o.part ++ vecRegs) s t ∧ Frame (.commands :: .mem :: vecPieces) s t)) ∧
  (∀ (s : State) (p : Pkt) (o : Obj),
   ready p s = true →
   (∀ r ∈ s.objResv, r.id ≠ p.id) →
   256 ≤ pObj p ∧ pObj p < 2 ^ 20 →
   lookup (pObj p) s.objs = some o →
   o.part = p.part ∧ o.st = 1 ∧ o.tier < pTarget p →
   partSt p.part s ≠ 2 →
   0 < o.pin →
   Completes (.objEvict p) s (fun t => Ended p stPINNED_DEFERRED o.pin t ∧ RegsExcept (replyRegs p.window) s t ∧ Frame replyPieces s t))

/-- A free slice takes the earliest queued migration whose partition is not fenced; a sub-block that is copied leaves its bytes in the destination and
moves the cursor, and a clean one only moves it; a block that ends takes the destination frame and a shadow where the promotion keeps one; the
migration's end settles the object in its target and ends its commands OK. A sweep holds ages at 2^31; below LOW percent the oldest candidate is
evicted; a frame whose accesses have completed returns filled with zeros; a pool size is refused below the frames charged. -/
def Obligations.MigrationsAndAge : Prop :=
  (∀ (s : State) (i : Nat) (o : Obj) (q : List Nat),
   s.migQueue = i :: q →
   lookup i s.objs = some o →
   partSt o.part s ≠ 2 →
   s.migs.length < 4 →
   (∀ x ∈ s.migs, x.obj ≠ i) →
   i ∉ q →
   Completes (.migrationStart i) s (fun t =>
     lookup i t.objs = some { o with started := true } ∧ t.migQueue = q ∧ t.migs = s.migs ++ [⟨i, 0, 0, migDst { o with started := true } 0 s, 0⟩] ∧
     bitAt 57 (bent o.block t) = true ∧ getF TIER_MIG_QUEUED t = q.length % 2 ^ TIER_MIG_QUEUED.width ∧
     RegsExcept [TIER_MIG_QUEUED, TIER_MIG_RUNNING] s t ∧ Frame [.mem] s t)) ∧
  (∀ (s : State) (i : Nat) (m : Mig) (o : Obj),
   s.migs.find? (fun m => decide (m.obj = i)) = some m →
   lookup i s.objs = some o →
   m.cur < 32 ∧ m.blk < objBlocks o →
   cleanSub o m.blk m.cur s = false →
   Completes (.subBlockCopyDone i []) s (fun t =>
     (t.migs.find? (fun m => decide (m.obj = i))) = some { m with cur := m.cur + 1 } ∧
     (∀ k ∈ List.range 65536, readByte t.mem (memAddr o.target m.dst (m.cur * 65536) + k) =
       readByte s.mem (memAddr (entTier (bent (o.block + m.blk) s)) (entFrame (bent (o.block + m.blk) s)) (m.cur * 65536) + k)) ∧
     SameOutside (memAddr o.target m.dst (m.cur * 65536)) 65536 s.mem t.mem ∧ t.objs = s.objs ∧ t.bmap = s.bmap ∧
     RegsExcept [] s t ∧ Frame [.mem, .engine, .tallies] s t)) ∧
  (∀ (s : State) (i : Nat) (bad : List Nat) (m : Mig) (o : Obj),
   s.migs.find? (fun m => decide (m.obj = i)) = some m →
   lookup i s.objs = some o →
   m.cur < 32 ∧ m.blk < objBlocks o →
   cleanSub o m.blk m.cur s = true →
   Completes (.subBlockCopyDone i bad) s (fun t =>
     (t.migs.find? (fun m => decide (m.obj = i))) = some { m with cur := m.cur + 1 } ∧
     liveOf 7 TIER_T_CLEAN_COUNT t = min (2 ^ TIER_T_CLEAN_COUNT.width - 1) (liveOf 7 TIER_T_CLEAN_COUNT s + 1) ∧
     t.toMemState = { s.toMemState with migs := t.migs } ∧ RegsExcept [] s t ∧ Frame [.mem, .tallies] s t)) ∧
  (∀ (s : State) (i : Nat) (m : Mig) (o : Obj),
   s.migs.find? (fun m => decide (m.obj = i)) = some m →
   lookup i s.objs = some o →
   m.cur = 32 ∧ m.blk + 1 = objBlocks o →
   lookup (o.block + m.blk) s.shadows = none →
   o.st = 2 ∧ o.drop = false →
   Completes (.blockMigrationDone i) s (fun t =>
     lookup i t.objs = some { o with moved := o.moved + 1, resv := o.resv - 1 } ∧ (t.migs.find? (fun m => decide (m.obj = i))) = some { m with blk := m.blk + 1, cur := 0 } ∧
     lookup (o.block + m.blk) t.shadows = some ⟨entTier (bent (o.block + m.blk) s), entFrame (bent (o.block + m.blk) s), o.pool, m.dirty⟩ ∧
     (o.target < 4 → entTier (bent (o.block + m.blk) t) = o.target) ∧ t.mem = s.mem ∧ RegsExcept [] s t ∧ Frame [.mem] s t)) ∧
  (∀ (s : State) (i : Nat) (m : Mig) (o : Obj) (p : Pkt),
   s.migs.find? (fun m => decide (m.obj = i)) = some m →
   lookup i s.objs = some o →
   m.blk = objBlocks o →
   o.waiters = [p.id] →
   o.ue = false →
   s.accepted.find? (fun q => decide (q.id = p.id)) = some p →
   Completes (.migrationComplete i) s (fun t =>
     lookup i t.objs = some { o with
       st := 1, tier := o.target, bank := o.tbank, any := o.tany, pool := o.tpool, target := 0, started := false, drop := false,
       age := if o.st = 2 then ageNow s else o.age, resv := 0, waiters := [], moved := 0 } ∧
     t.migs = s.migs.filter (fun x => decide (x.obj ≠ i)) ∧ t.toMemState = { s.toMemState with objs := t.objs, migs := t.migs } ∧ Ended p stOK 0 t ∧
     RegsExcept ([TIER_MIG_QUEUED, TIER_MIG_RUNNING] ++ replyRegs p.window) s t ∧ Frame (.mem :: replyPieces) s t)) ∧
  (∀ (s : State),
   Completes .ageSweep s (fun t =>
     (∀ k ∈ s.objs.map Prod.fst, ∀ o ∈ (lookup k s.objs).toList, ∀ o' ∈ (lookup k t.objs).toList,
       (elapsed o s < 2 ^ 31 → o' = o) ∧ (2 ^ 31 ≤ elapsed o s → elapsed o' s = 2 ^ 31 ∧ o'.st = o.st ∧ o'.pin = o.pin)) ∧
     t.objs.map Prod.fst = s.objs.map Prod.fst ∧ t.toMemState = { s.toMemState with objs := t.objs } ∧ RegsExcept [] s t ∧ Frame [.mem] s t)) ∧
  (∀ (s : State) (n : Fin 2) (i t' : Nat) (o : Obj),
   poolBelow n (getF (TIER_POOL_Tn_LOW n) s) s = true →
   moreToGo n s = true →
   (ageCands n s).filter (fun o => (ageTarget o.2 s).isSome) = [(i, o)] →
   ageTarget o s = some t' →
   Completes (.ageEviction n) s (fun t =>
     (lookup i t.objs).map (fun x => (x.st, x.target, x.started)) = some (3, t', false) ∧
     (lookup i t.objs).map (fun x => (x.resv, x.waiters)) = some (evictFrames o t' s, []) ∧ t.migQueue = s.migQueue ++ [i] ∧
     n.val ∈ t.ageRun ∧ t.bmap = s.bmap ∧ t.mem = s.mem ∧
     RegsExcept ([TIER_MIG_QUEUED, TIER_MIG_RUNNING] ++ chargeFields o.part ++ vecRegs) s t ∧ Frame (.mem :: vecPieces) s t)) ∧
  (∀ (s : State) (tier frame : Nat) (x : Nat × Nat × Nat),
   s.freeing.find? (fun x => decide (x.1 = tier) && decide (x.2.1 = frame)) = some x →
   Completes (.frameReturn tier frame) s (fun t =>
     t.freeing = s.freeing.filter (fun y => !(decide (y.1 = tier) && decide (y.2.1 = frame))) ∧ t.mem = fillZero (memAddr tier frame 0) (2 ^ 21) s.mem ∧
     (∀ k ∈ t.poison, k.1 < lineOf (memAddr tier frame 0) ∨ lineOf (memAddr tier frame 0) + 32768 ≤ k.1) ∧
     RegsExcept (chargeFields (x.2.2 % 16) ++ vecRegs) s t ∧ Frame (.mem :: vecPieces) s t)) ∧
  (∀ (s : State) (n : Fin 2) (v : BitVec 64),
   hostUp 0 s = true →
   getF (poolUseF (n + 1)) s ≤ v.toNat % 2 ^ 22 →
   v.toNat % 2 ^ 22 + ((List.range 8).map (fun p => getF (quotaF p (n + 1)) s)).sum + (if n = 0 then getF TIER_RADIO_T0 s else getF TIER_RADIO_T1 s) +
     (s.resv.map (fun r => if n = 0 then r.t0Frames else r.t1Frames)).sum ≤ (if n = 0 then getF TIER_CAP_T0 s else getF TIER_CAP_T1 s) →
   Completes (.poolSizeWrite n v) s (fun t =>
     getF (TIER_POOL_Tn_SIZE n) t = v.toNat % 2 ^ 22 ∧ getF (TIER_POOL_Tn_LOW n) t = bitsAt 38 32 v.toNat ∧
     getF (TIER_POOL_Tn_HIGH n) t = (if bitsAt 38 32 v.toNat < bitsAt 46 40 v.toNat ∧ bitsAt 46 40 v.toNat ≤ 100 then bitsAt 46 40 v.toNat else getF (TIER_POOL_Tn_HIGH n) s) ∧
     RegsExcept ([TIER_POOL_Tn_SIZE n, TIER_POOL_Tn_LOW n, TIER_POOL_Tn_HIGH n, TIER_STAT_POOL_LOW_T0, TIER_STAT_POOL_LOW_T1] ++ vecRegs) s t ∧ Frame vecPieces s t)) ∧
  (∀ (s : State) (n : Fin 2) (v : BitVec 64),
   hostUp 0 s = true →
   v.toNat % 2 ^ 22 < getF (poolUseF (n + 1)) s →
   Completes (.poolSizeWrite n v) s (fun t =>
     getF (TIER_POOL_Tn_SIZE n) t = getF (TIER_POOL_Tn_SIZE n) s ∧ flagF TIER_STAT_POOL_REFUSED t = true ∧
     RegsExcept ([TIER_POOL_Tn_LOW n, TIER_POOL_Tn_HIGH n, TIER_STAT_POOL_REFUSED] ++ vecRegs) s t ∧ Frame vecPieces s t))

namespace Sys2Proof

/-- The fields that an entry of function f's Ledger and of the fault history may change (R364, R368, R372, R390). -/
def noteRegs (f : Nat) : List Fld :=
  [FLT_STAT_ITEM_FAILED, FLT_STAT_LEDGER_LOW, FLT_LGf_NEXT_NEXT f, FLT_LGf_BACKLOG_RESV f, FLT_LGf_BACKLOG_HELD f, SEC_VAULT_STAT_PENDING] ++ vecRegs

/-- The index that function f's Ledger gives its next entry. -/
def nextIndex (f : Nat) (s : State) : Nat := getF (FLT_LGf_NEXT_NEXT f) s

/-- The PF's Ledger has taken these entries, with rising indices, and nothing else of the radio has changed (R364). -/
def Noted (l : List LedgerEvent) (s t : State) : Prop :=
  backlog 0 t = backlog 0 s ++ (l.zipIdx.map (fun x => ledgerBytes x.1 ((nextIndex 0 s + x.2) % 2 ^ (FLT_LGf_NEXT_NEXT 0).width))) ∧
  nextIndex 0 t = (nextIndex 0 s + l.length) % 2 ^ (FLT_LGf_NEXT_NEXT 0).width

/-- The entries of a substitution by a spare (R366, R372). -/
def sparedNotes (b : Bool) (cls cause lunit punit spare count : Nat) (s : State) : List LedgerEvent :=
  [injectedIf b (unitEvent cls 3 cause lunit punit spare 0 count (unitBand cls (bandUnit cls lunit punit) s) s),
    injectedIf b (unitEvent cls 4 cause lunit spare spare 0 count (unitBand cls (bandUnit cls lunit spare) s) s)]

/-- What port n held for its peer: the packets not acknowledged and those not sent. -/
def heldBy (n : Nat) (s : State) : List FabPkt := (hpOf n s).replay.map (fun r => r.2) ++ (hpOf n s).queue

/-- Port n has left service for a state: nothing is held, its peer is not known, and the destinations it carried are due an epoch. -/
def PortLeft (n st : Nat) (s t : State) : Prop :=
  portSt n t = st ∧ getF (HJF_Pp_PEER_VALID n) t = 0 ∧ hpOf n t = { HPort.reset with inq := (hpOf n s).inq } ∧
  (portUp n s = true → ∀ d ∈ routesOver n s, d ∈ t.epochPend) ∧ t.fabDrop = (heldBy n s).reverse ++ s.fabDrop ∧ t.routes = s.routes

end Sys2Proof

/-- FAB_PORT begins the training of a port that is OFF or FAILED and waits for it, ends OK on one that is UP, turns one off and gives the spare lane
to a port; FAB_ROUTE and FAB_GROUP write their tables, a changed destination being due a new epoch; FAB_FENCE closes a partition's Fence Gate with its
external key and ELEC turns its ports off; FAB_UNFENCE opens it; FAB_QUERY writes 64 bytes; a Fabric Time exchange on the parent's port measures
domain 7. -/
def Obligations.FabricCommands : Prop :=
  (∀ (s : State) (p : Pkt),
   ready p s = true →
   chkFabPort p (leaveTimed p s) = none →
   fpAction p = 1 →
   portSt (fpPort p) s ≠ 1 ∧ portSt (fpPort p) s ≠ 2 →
   Completes (.fabPort p) s (fun t =>
     portSt (fpPort p) t = 1 ∧ p ∈ t.accepted ∧ p.id ∈ t.begun ∧
     (getF (PWR_DOMd_STATE (176 + fpPort p)) s ≠ 3 → getF (PWR_DOMd_STATE (176 + fpPort p)) t = 2) ∧
     hpOf (fpPort p) t = { HPort.reset with
       inq := (hpOf (fpPort p) s).inq, pkts := [p.id], check := if bitAt 0 (pf p 3 1) then some (pf p 4 2) else none,
       allowSwitch := bitAt 1 (pf p 3 1), since := s.now } ∧
     t.toFabricState = { s.toFabricState with hport := t.hport } ∧
     RegsExcept [CMD_TIMED_PENDING, HJF_Pp_STAT_STATE (fpPort p), PWR_DOMd_STATE (176 + fpPort p)] s t ∧ Frame [.commands, .fabric] s t)) ∧
  (∀ (s : State) (p : Pkt),
   ready p s = true →
   chkFabPort p (leaveTimed p s) = none →
   fpAction p = 1 →
   portSt (fpPort p) s = 2 →
   Completes (.fabPort p) s (fun t => Ended p stOK 0 t ∧ RegsExcept (replyRegs p.window) s t ∧ Frame replyPieces s t)) ∧
  (∀ (s : State) (p : Pkt),
   ready p s = true →
   chkFabPort p (leaveTimed p s) = none →
   fpAction p = 0 →
   (heldBy (fpPort p) s).all (fun k => ownReq k s) = true →
   (hpOf (fpPort p) s).pkts = [] →
   Completes (.fabPort p) s (fun t =>
     PortLeft (fpPort p) 0 s t ∧ Ended p stOK 0 t ∧
     RegsExcept ([HJF_Pp_STAT_STATE (fpPort p), HJF_Pp_PEER_VALID (fpPort p), PWR_DOMd_STATE (176 + fpPort p)] ++ replyRegs p.window) s t ∧
     Frame (.fabric :: replyPieces) s t)) ∧
  (∀ (s : State) (p : Pkt),
   ready p s = true →
   chkFabPort p (leaveTimed p s) = none →
   fpAction p = 2 →
   Completes (.fabPort p) s (fun t =>
     getF (HJF_Pp_STAT_SPARE_IN (fpPort p)) t = 1 ∧ getF (HJF_Pp_STAT_LANE_OUT (fpPort p)) t = fpLane p ∧ getF FLT_SPARE_HJF t = getF FLT_SPARE_HJF s - 1 ∧
     flagF HJF_STAT_SPARE t = true ∧ flagF FLT_STAT_SPARED t = true ∧ Ended p stOK 0 t ∧
     Noted (sparedNotes s.injecting 7 0xB0 (fpPort p) (fpLane p) 4 1 s) s t ∧
     RegsExcept ([HJF_Pp_STAT_SPARE_IN (fpPort p), HJF_Pp_STAT_LANE_OUT (fpPort p), FLT_SPARE_HJF, HJF_STAT_SPARE, FLT_STAT_SPARED] ++ noteRegs 0 ++ replyRegs p.window) s t ∧
     Frame ([.radio, .fault, .power] ++ replyPieces) s t)) ∧
  (∀ (s : State) (p : Pkt),
   ready p s = true →
   fpPort p ≤ 15 →
   fpAction p = 2 →
   portSt (fpPort p) s ≠ 2 ∨ flagF (HJF_Pp_STAT_SPARE_IN (fpPort p)) s = true →
   Completes (.fabPort p) s (fun t => Ended p stBAD_PARAM 33 t ∧ RegsExcept (replyRegs p.window) s t ∧ Frame replyPieces s t)) ∧
  (∀ (s : State) (p : Pkt) (l r : List Nat) (e : Nat),
   ready p s = true →
   chkTable badRoute p (leaveTimed p s) = none →
   tabEntries p = l ++ e :: r →
   (∀ x ∈ r, x % 65536 ≠ e % 65536) →
   Completes (.fabRoute p) s (fun t =>
     routeOf (e % 65536) t = (if rtValid e then e else 0) ∧ (routeOf (e % 65536) t ≠ routeOf (e % 65536) s → e % 65536 ∈ t.epochPend) ∧
     (∀ d ∈ s.routes.map Prod.fst, (∀ x ∈ tabEntries p, x % 65536 ≠ d) → routeOf d t = routeOf d s) ∧
     t.toFabricState = { s.toFabricState with routes := t.routes, epochPend := t.epochPend } ∧ Ended p stOK 0 t ∧
     RegsExcept (replyRegs p.window) s t ∧ Frame (.fabric :: replyPieces) s t)) ∧
  (∀ (s : State) (p : Pkt) (l r : List Nat) (e : Nat),
   ready p s = true →
   chkTable badGroup p (leaveTimed p s) = none →
   tabEntries p = l ++ e :: r →
   (∀ x ∈ r, x % 4096 ≠ e % 4096) →
   Completes (.fabGroup p) s (fun t =>
     lookup (e % 4096) t.groups = (if gpValid e then some e else none) ∧
     (∀ d ∈ s.groups.map Prod.fst, (∀ x ∈ tabEntries p, x % 4096 ≠ d) → lookup d t.groups = lookup d s.groups) ∧
     t.toFabricState = { s.toFabricState with groups := t.groups } ∧ Ended p stOK 0 t ∧
     RegsExcept (replyRegs p.window) s t ∧ Frame (.fabric :: replyPieces) s t)) ∧
  (∀ (s : State) (p : Pkt) (c : Instr),
   c = .fabRoute p ∨ c = .fabGroup p →
   ready p s = true →
   tabCount p = 0 ∨ 499 < tabCount p →
   Completes c s (fun t => Ended p stBAD_PARAM (32 + 499 * 2 ^ 32) t ∧ RegsExcept (replyRegs p.window) s t ∧ Frame replyPieces s t)) ∧
  (∀ (s : State) (p : Pkt),
   ready p s = true →
   pf p 0 1 ≤ 7 →
   partSt (pf p 0 1) s = 1 →
   (bitAt 0 (pf p 1 1) = true → ∀ i ∈ partPorts (pf p 0 1) s, heldBy i s = [] ∧ (hpOf i s).pkts = []) →
   Completes (.fabFence p) s (fun t =>
     partSt (pf p 0 1) t = 2 ∧ bitAt (pf p 0 1) (getF HJF_GATE_FENCED t) = true ∧ getF (HJF_GATE_KEYp_EXTKEY (pf p 0 1)) t = pf p 4 4 ∧
     (bitAt 0 (pf p 1 1) = true → bitAt (pf p 0 1) (getF HJF_GATE_ELEC t) = true ∧ (∀ i ∈ partPorts (pf p 0 1) s, portSt i t = 0)) ∧
     (∀ i ∈ List.range 16, bitAt 0 (pf p 1 1) = false ∨ i ∉ partPorts (pf p 0 1) s → portSt i t = portSt i s ∧ hpOf i t = hpOf i s) ∧
     t.toFabricState = { s.toFabricState with hport := t.hport, epochPend := t.epochPend } ∧ Ended p stOK 0 t ∧
     RegsExcept ([SCHED_Pp_INFO_STATE (pf p 0 1), HJF_GATE_FENCED, HJF_GATE_ELEC, HJF_GATE_KEYp_EXTKEY (pf p 0 1)] ++
       (partPorts (pf p 0 1) s).flatMap (fun i => [HJF_Pp_STAT_STATE i, HJF_Pp_PEER_VALID i, PWR_DOMd_STATE (176 + i)]) ++ replyRegs p.window) s t ∧
     Frame (.fabric :: replyPieces) s t)) ∧
  (∀ (s : State) (p : Pkt),
   ready p s = true →
   pf p 0 1 ≤ 7 →
   partSt (pf p 0 1) s = 2 →
   Completes (.fabUnfence p) s (fun t =>
     partSt (pf p 0 1) t = 1 ∧ getF HJF_GATE_FENCED t = getF HJF_GATE_FENCED s - (if bitAt (pf p 0 1) (getF HJF_GATE_FENCED s) then 2 ^ pf p 0 1 else 0) ∧
     getF HJF_GATE_ELEC t = getF HJF_GATE_ELEC s - (if bitAt (pf p 0 1) (getF HJF_GATE_ELEC s) then 2 ^ pf p 0 1 else 0) ∧
     getF (HJF_GATE_KEYp_EXTKEY (pf p 0 1)) t = 0 ∧ Ended p stOK 0 t ∧
     RegsExcept ([SCHED_Pp_INFO_STATE (pf p 0 1), HJF_GATE_FENCED, HJF_GATE_ELEC, HJF_GATE_KEYp_EXTKEY (pf p 0 1)] ++ replyRegs p.window) s t ∧ Frame replyPieces s t)) ∧
  (∀ (s : State) (p : Pkt) (c : Instr) (w : Nat),
   c = .fabFence p ∧ w = 1 ∨ c = .fabUnfence p ∧ w = 2 →
   ready p s = true →
   pf p 0 1 ≤ 7 →
   partSt (pf p 0 1) s ≠ w →
   Completes c s (fun t => Ended p stSTATE_CONFLICT (conflictDetail 6 (pf p 0 1) (partSt (pf p 0 1) s)) t ∧ RegsExcept (replyRegs p.window) s t ∧ Frame replyPieces s t)) ∧
  (∀ (s : State) (p : Pkt),
   ready p s = true →
   chkFabQuery p s = none →
   replyLands p.window s = true →
   pf p 8 8 + 64 ≤ getF (CMD_PWw_RR_BASE_ADDR p.window) s * 4096 ∨ getF (CMD_PWw_RR_BASE_ADDR p.window) s * 4096 + ringSize p.window s * 32 ≤ pf p 8 8 →
   Completes (.fabQuery p) s (fun t =>
     readBytes t.hostMem (pf p 8 8) 64 =
       padTo 64 (if pf p 0 1 = 0 then portImage (pf p 2 2) s else natLE 8 (if pf p 0 1 = 1 then routeOf (pf p 2 2) s else groupOf (pf p 2 2) s)) ∧
     Ended p stOK 0 t ∧ RegsExcept (replyRegs p.window) s t ∧ Frame replyPieces s t)) ∧
  (∀ (s : State) (p : Fin 16) (off16 : Int) (root locked : Bool) (rootId : Nat),
   flagF HJF_TIME_ROOT s = false →
   portUp p s = true →
   p.val = getF HJF_TIME_PARENT s →
   flagF (AIR_TDn_CTRL_EN 7) s = true →
   (root || locked) = true →
   tdState 7 s = 1 →
   cellBound 7 s = false →
   Completes (.fabricTimeExchange p off16 root locked rootId) s (fun t =>
     ((airTotal 7 t : Nat) : Int) = ((airTotal 7 s : Int) - off16 * 2 ^ 36) % 2 ^ 104 ∧ tdState 7 t = 2 ∧
     (airOf 7 t).gm = some (rootId % 65536, true) ∧ getF (AIR_TDn_GM_CLOCKID 7) t = rootId % 65536 ∧ (airOf 7 t).lastMeas = s.now ∧
     RegsExcept [AIR_TDn_GM_CLOCKID 7, AIR_TDn_OFFSET_OFS 7, AIR_TDn_OFFSET_MPD 7, AIR_TDn_STATE_STATE 7, AIR_TDn_HOLDOVER_ACTIVE 7, AIR_TDn_HOLDOVER_AGE 7,
       AIR_TDn_COUNT_VALUE 7] s t ∧ Frame [.air] s t)) ∧
  (∀ (s : State) (p : Fin 16) (off16 : Int) (root locked : Bool) (rootId : Nat),
   flagF HJF_TIME_ROOT s = true ∨ portUp p s = false ∨ p.val ≠ getF HJF_TIME_PARENT s ∨ flagF (AIR_TDn_CTRL_EN 7) s = false →
   NoEffect (.fabricTimeExchange p off16 root locked rootId) s)

/-- A TRAINING port whose peer is accepted is UP with its peer known and its FAB_PORT ended OK; a peer that is refused, 100 ms without UP, a second
bad lane, 10 µs without a control word and 16 replays without progress take a port to FAILED, which drops the device's own requests and makes the
destinations carried due an epoch. The next flit in order gives back credits and delivers its packets, one with a bad CRC asks for a NAK; a NAK sends
again what is not acknowledged; a transit packet goes on with its TTL one less or is discarded. -/
def Obligations.HjeloLinks : Prop :=
  (∀ (s : State) (n : Fin 16) (peer : Nat) (sw : Bool) (p : Pkt),
   portSt n s = 1 →
   (hpOf n s).check.any (fun c => decide (c ≠ peer % 65536)) = false →
   sw = false ∨ (hpOf n s).allowSwitch = true →
   (hpOf n s).pkts = [p.id] →
   s.accepted.find? (fun q => decide (q.id = p.id)) = some p →
   Completes (.portTrainingDone n peer sw) s (fun t =>
     portSt n t = 2 ∧ getF (HJF_Pp_PEER_ID n) t = peer % 65536 ∧ getF (HJF_Pp_PEER_VALID n) t = 1 ∧ getF (HJF_Pp_STAT_PEER_SWITCH n) t = b2n sw ∧
     hpOf n t = { HPort.reset with inq := (hpOf n s).inq, lastCtl := s.now } ∧ t.toFabricState = { s.toFabricState with hport := t.hport } ∧ Ended p stOK 0 t ∧
     RegsExcept ([HJF_Pp_STAT_STATE n, HJF_Pp_PEER_ID n, HJF_Pp_PEER_VALID n, HJF_Pp_STAT_PEER_SWITCH n] ++ replyRegs p.window) s t ∧ Frame (.fabric :: replyPieces) s t)) ∧
  (∀ (s : State) (n : Fin 16) (peer : Nat) (sw : Bool),
   portSt n s = 1 →
   (hpOf n s).check.any (fun c => decide (c ≠ peer % 65536)) = true ∨ (sw = true ∧ (hpOf n s).allowSwitch = false) →
   portWaiters n s = [] →
   heldBy n s = [] →
   Completes (.portTrainingDone n peer sw) s (fun t =>
     PortLeft n 3 s t ∧ Noted [injectedIf s.injecting (portEvent false n 3 0 0xB0 s)] s t ∧ flagF HJF_STAT_PORT_FAIL t = true ∧
     RegsExcept ([HJF_Pp_STAT_STATE n, HJF_Pp_PEER_VALID n, PWR_DOMd_STATE (176 + n), HJF_STAT_PORT_FAIL] ++ noteRegs 0) s t ∧
     Frame [.radio, .fabric, .fault, .power, .tallies, .bus] s t)) ∧
  (∀ (s : State) (n : Fin 16) (c : Instr),
   (c = .portTrainingTimeout n ∧ portSt n s = 1 ∧ (hpOf n s).since + 10 ^ 8 * 1536 ≤ s.now) ∨
     (c = .portFail n ∧ portUp n s = true ∧ flagF (HJF_Pp_STAT_SPARE_IN n) s = true) ∨
     (c = .controlWordTimeout n ∧ portUp n s = true ∧ (hpOf n s).lastCtl + 10000 * 1536 ≤ s.now) →
   (heldBy n s).all (fun k => ownReq k s) = true →
   portWaiters n s = [] →
   Completes c s (fun t =>
     PortLeft n 3 s t ∧ Noted [injectedIf s.injecting (portEvent false n 3 0 0xB0 s)] s t ∧ flagF HJF_STAT_PORT_FAIL t = true ∧
     RegsExcept ([HJF_Pp_STAT_STATE n, HJF_Pp_PEER_VALID n, PWR_DOMd_STATE (176 + n), HJF_STAT_PORT_FAIL] ++ noteRegs 0) s t ∧
     Frame [.radio, .fabric, .fault, .power, .tallies, .bus] s t)) ∧
  (∀ (s : State) (n : Fin 16) (p : Pkt),
   portSt n s = 1 →
   (hpOf n s).since + 10 ^ 8 * 1536 ≤ s.now →
   heldBy n s = [] →
   portWaiters n s = [p] →
   Completes (.portTrainingTimeout n) s (fun t =>
     portSt n t = 3 ∧ hpOf n t = { HPort.reset with inq := (hpOf n s).inq } ∧
     Ended p stITEM_FAILED (itemsDetail 1 (nextIndex 0 s)) t ∧ Noted [injectedIf s.injecting { portEvent false n 3 0 0xB0 s with status := stITEM_FAILED, seq := p.seq }] s t ∧
     RegsExcept ([HJF_Pp_STAT_STATE n, HJF_Pp_PEER_VALID n, PWR_DOMd_STATE (176 + n), HJF_STAT_PORT_FAIL] ++ noteRegs 0 ++ replyRegs p.window) s t ∧
     Frame ([.radio, .fabric, .fault, .power] ++ replyPieces) s t)) ∧
  (∀ (s : State) (n : Fin 16) (lane : Nat),
   portUp n s = true →
   flagF (HJF_Pp_STAT_SPARE_IN n) s = false →
   lane < 4 →
   Completes (.hjeloLaneSpare n lane) s (fun t =>
     getF (HJF_Pp_STAT_SPARE_IN n) t = 1 ∧ getF (HJF_Pp_STAT_LANE_OUT n) t = lane ∧ getF FLT_SPARE_HJF t = getF FLT_SPARE_HJF s - 1 ∧
     flagF HJF_STAT_SPARE t = true ∧ flagF FLT_STAT_SPARED t = true ∧
     Noted (sparedNotes (s.injecting || injected 6 n lane s) 7 0xB0 n lane 4 1 s) s t ∧
     RegsExcept ([HJF_Pp_STAT_SPARE_IN n, HJF_Pp_STAT_LANE_OUT n, FLT_SPARE_HJF, HJF_STAT_SPARE, FLT_STAT_SPARED] ++ noteRegs 0) s t ∧
     Frame [.radio, .fault, .power, .tallies, .bus] s t)) ∧
  (∀ (s : State) (n : Fin 16) (f : Flit),
   portUp n s = true →
   f.crcOk = true →
   f.seq % 1024 = (hpOf n s).expect →
   f.pkts.all (fun k => k.hdrOk && knownType k) = true →
   (hpOf n s).queue = [] →
   Completes (.flitReceive n f) s (fun t =>
     hpOf n t = { hpOf n s with
       inq := (hpOf n s).inq ++ f.pkts.map (fun k => (s.now, k)), replay := unackedAfter f.ackSeq (hpOf n s).replay,
       stuck := if (unackedAfter f.ackSeq (hpOf n s).replay).length < (hpOf n s).replay.length then 0 else (hpOf n s).stuck,
       expect := (f.seq + 1) % 1024, nak := false, lastCtl := s.now,
       credit := put (f.cvl % 8) (some (laneCredit (hpOf n s) (f.cvl % 8) + f.ccnt % 256)) (hpOf n s).credit } ∧
     t.toFabricState = { s.toFabricState with hport := t.hport } ∧ t.toRadioState = { s.toRadioState with tallyRem := t.tallyRem } ∧
     RegsExcept [] s t ∧ Frame [.fabric, .radio, .tallies] s t)) ∧
  (∀ (s : State) (n : Fin 16) (f : Flit) (k : FabPkt),
   portUp n s = true →
   f.crcOk = true →
   f.seq % 1024 = (hpOf n s).expect →
   f.pkts = [] →
   (hpOf n s).queue = [k] →
   vlane k = f.cvl % 8 →
   slotsOf k ≤ laneCredit (hpOf n s) (vlane k) + f.ccnt % 256 →
   unacked (takeAck f.ackSeq (hpOf n s)) + flitsOf k ≤ 512 →
   Completes (.flitReceive n f) s (fun t =>
     t.fabSent = (n.val, k) :: s.fabSent ∧ (hpOf n t).queue = [] ∧ (hpOf n t).seq = ((hpOf n s).seq + flitsOf k) % 1024 ∧
     (hpOf n t).replay = unackedAfter f.ackSeq (hpOf n s).replay ++ [(((hpOf n s).seq + flitsOf k + 1023) % 1024, k)] ∧
     laneCredit (hpOf n t) (vlane k) = laneCredit (hpOf n s) (vlane k) + f.ccnt % 256 - slotsOf k ∧
     RegsExcept [] s t ∧ Frame [.fabric, .radio, .tallies] s t)) ∧
  (∀ (s : State) (n : Fin 16) (f : Flit),
   portUp n s = true →
   f.crcOk = false →
   Completes (.flitReceive n f) s (fun t =>
     hpOf n t = { hpOf n s with nak := true } ∧ t.toFabricState = { s.toFabricState with hport := t.hport } ∧
     t.toRadioState = { s.toRadioState with tallyRem := t.tallyRem } ∧ RegsExcept [] s t ∧ Frame [.fabric, .radio, .tallies] s t)) ∧
  (∀ (s : State) (n : Fin 16) (ack : Nat),
   portUp n s = true →
   (takeAck ack (hpOf n s)).stuck < 16 →
   Completes (.flitReplay n ack) s (fun t =>
     hpOf n t = { hpOf n s with replay := unackedAfter ack (hpOf n s).replay, stuck := (takeAck ack (hpOf n s)).stuck + 1, lastCtl := s.now } ∧
     t.fabSent = ((unackedAfter ack (hpOf n s).replay).map (fun r => (n.val, r.2))).reverse ++ s.fabSent ∧
     liveOf 14 (HJF_Pp_RETRY_COUNT n) t = min (2 ^ (HJF_Pp_RETRY_COUNT n).width - 1) (liveOf 14 (HJF_Pp_RETRY_COUNT n) s + 1) ∧
     t.toFabricState = { s.toFabricState with hport := t.hport, fabSent := t.fabSent } ∧ RegsExcept [] s t ∧ Frame [.fabric, .radio, .tallies, .engine] s t)) ∧
  (∀ (s : State) (n : Fin 16) (ack : Nat),
   portUp n s = true →
   16 ≤ (takeAck ack (hpOf n s)).stuck →
   (heldBy n s).all (fun k => ownReq k s) = true →
   portWaiters n s = [] →
   Completes (.flitReplay n ack) s (fun t =>
     portSt n t = 3 ∧ getF (HJF_Pp_PEER_VALID n) t = 0 ∧ (hpOf n t).replay = [] ∧ (hpOf n t).queue = [] ∧
     Noted [injectedIf s.injecting (portEvent false n 3 0 0xB0 s)] s t ∧ flagF HJF_STAT_PORT_FAIL t = true ∧
     RegsExcept ([HJF_Pp_STAT_STATE n, HJF_Pp_PEER_VALID n, PWR_DOMd_STATE (176 + n), HJF_STAT_PORT_FAIL] ++ noteRegs 0) s t ∧
     Frame [.radio, .fabric, .fault, .power, .tallies, .bus] s t)) ∧
  (∀ (s : State) (n : Fin 16) (i w q : Nat) (k k1 : FabPkt),
   headIn (isTransit n s) n s = some (i, w, k) →
   k1 = { k with ttl := k.ttl - 1, hop := k.hop + b2n (rtHopInc (routeOf k.dst s)) } →
   1 < k.ttl →
   k1.hop ≤ 3 →
   rtValid (routeOf k.dst s) = true →
   pathOf k1 s = some q →
   k.src ≠ ownId s →
   (hpOf q s).queue = [] →
   slotsOf k1 ≤ laneCredit (hpOf q s) (vlane k1) →
   unacked (hpOf q s) + flitsOf k1 ≤ 512 →
   Completes (.transitForward n) s (fun t =>
     t.fabSent = (q, k1) :: s.fabSent ∧ (hpOf n t).inq = (hpOf n s).inq.eraseIdx i ∧ (hpOf q t).queue = [] ∧
     (hpOf q t).replay = (hpOf q s).replay ++ [(((hpOf q s).seq + flitsOf k1 + 1023) % 1024, k1)] ∧
     t.toFabricState = { s.toFabricState with hport := t.hport, fabSent := t.fabSent } ∧ t.toRadioState = { s.toRadioState with tallyRem := t.tallyRem } ∧
     RegsExcept [] s t ∧ Frame [.fabric, .radio, .tallies] s t)) ∧
  (∀ (s : State) (n : Fin 16) (i w : Nat) (k : FabPkt),
   headIn (isTransit n s) n s = some (i, w, k) →
   k.ttl = 1 ∨ rtValid (routeOf k.dst s) = false →
   k.src ≠ ownId s →
   Completes (.transitForward n) s (fun t =>
     t.fabDrop = { k with ttl := k.ttl - 1, hop := k.hop + b2n (rtHopInc (routeOf k.dst s)) } :: s.fabDrop ∧ (hpOf n t).inq = (hpOf n s).inq.eraseIdx i ∧
     t.fabSent = s.fabSent ∧ flagF HJF_STAT_DISCARD t = true ∧ RegsExcept (HJF_STAT_DISCARD :: vecRegs) s t ∧ Frame [.fabric, .tallies, .bus] s t))

/-- The oldest entry of a backlog is written to its ring at TAIL with its phase, and a HEAD that would pass TAIL is ignored; DIAG_TALLY writes the
records of its groups; DIAG_INJECT keeps an order for the next event of its unit, and an uncorrectable memory error marks its line at once. A
heartbeat is noted for its interval; an interval's end counts a missed one, and fails a processor that has missed MISS in a row; an internal message
with a bad CRC is recorded and asked for once more, and a second one fails its sender; the spare Control Processor takes a failed one's duties; a
commit that the reference monitor allows goes through, and one that it refuses is recorded, restarts the processor and ends its packet ITEM_FAILED. -/
def Obligations.LedgerAndProcessors : Prop :=
  (∀ (s : State) (f : Fin 33) (e : List Byte) (r : List (List Byte)),
   backlog f s = e :: r →
   e.length = 64 →
   flagF (FLT_LGf_CFG_EN f) s = true →
   ledgerUnread f s < ledgerRing f s →
   mayMaster f s = true →
   f.val = 0 ∨ flagF (SCHED_DLOGv_CTRL_EN (f - 1)) s = false →
   Completes (.ledgerWrite f) s (fun t =>
     readBytes t.hostMem (getF (FLT_LGf_BASE_ADDR f) s * 4096 + getF (FLT_LGf_TAIL_TAIL f) s % ledgerRing f s * 64) 64 =
       withPhase e (getF (FLT_LGf_TAIL_TAIL f) s) (ledgerRing f s) ∧
     SameOutside (getF (FLT_LGf_BASE_ADDR f) s * 4096 + getF (FLT_LGf_TAIL_TAIL f) s % ledgerRing f s * 64) 64 s.hostMem t.hostMem ∧
     backlog f t = r ∧ getF (FLT_LGf_TAIL_TAIL f) t = (getF (FLT_LGf_TAIL_TAIL f) s + 1) % 2 ^ (FLT_LGf_TAIL_TAIL f).width ∧
     t.toRadioState = { s.toRadioState with ledger := t.ledger } ∧
     RegsExcept ([FLT_LGf_TAIL_TAIL f, FLT_LGf_BACKLOG_RESV f, FLT_LGf_BACKLOG_HELD f, FLT_STAT_LEDGER_LOW] ++ vecRegs) s t ∧ Frame [.radio, .hostMem, .tallies, .bus] s t)) ∧
  (∀ (s : State) (f : Fin 33),
   backlog f s = [] ∨ flagF (FLT_LGf_CFG_EN f) s = false ∨ ledgerRing f s ≤ ledgerUnread f s →
   NoEffect (.ledgerWrite f) s) ∧
  (∀ (s : State) (f : Fin 33) (v : BitVec 32),
   hostUp f s = true →
   Completes (.ledgerHeadWrite f v) s (fun t =>
     getF (FLT_LGf_HEAD_HEAD f) t = (if (v.toNat + 2 ^ 32 - getF (FLT_LGf_HEAD_HEAD f) s) % 2 ^ 32 ≤ ledgerUnread f s then v.toNat else getF (FLT_LGf_HEAD_HEAD f) s) ∧
     RegsExcept [FLT_LGf_HEAD_HEAD f] s t ∧ Frame [] s t)) ∧
  (∀ (s : State) (p : Pkt),
   ready p s = true →
   chkTally p (leaveTimed p s) = none →
   replyLands p.window s = true →
   pf p 8 8 + (tallyRecords p s).length ≤ getF (CMD_PWw_RR_BASE_ADDR p.window) s * 4096 ∨
     getF (CMD_PWw_RR_BASE_ADDR p.window) s * 4096 + ringSize p.window s * 32 ≤ pf p 8 8 →
   Completes (.diagTally p) s (fun t =>
     readBytes t.hostMem (pf p 8 8) (tallyRecords p s).length = tallyRecords p s ∧ Ended p stOK 0 t ∧ RegsExcept (replyRegs p.window) s t ∧ Frame replyPieces s t)) ∧
  (∀ (s : State) (p : Pkt),
   ready p s = true →
   3 ≤ diKind p →
   chkInject p (leaveTimed p s) = none →
   Completes (.diagInject p) s (fun t =>
     t.inject = s.inject ++ [⟨diKind p, diUnit p, if 5 ≤ diKind p ∧ diKind p ≤ 7 then diSub p else 0, diAddr p, pf p 16 4⟩] ∧
     t.toFaultState = { s.toFaultState with inject := t.inject } ∧ Ended p stOK 0 t ∧ RegsExcept (replyRegs p.window) s t ∧ Frame (.fault :: replyPieces) s t)) ∧
  (∀ (s : State) (p : Pkt),
   ready p s = true →
   diKind p = 2 →
   chkInject p (leaveTimed p s) = none →
   Completes (.diagInject p) s (fun t =>
     (lookup (lineOf (loadAddr (diAddr p) s)) t.poison).isSome = true ∧
     (∀ k ∈ s.poison, (lookup k.1 t.poison).isSome = true) ∧ t.mem = s.mem ∧ t.inject = s.inject ∧ Ended p stOK 0 t)) ∧
  (∀ (s : State) (k : Fin 10),
   procUsed k s = true →
   k.val ∉ s.halted →
   Completes (.heartbeat k) s (fun t => k.val ∈ t.beats ∧ (∀ j ∈ s.beats, j ∈ t.beats) ∧ t.toFaultState = { s.toFaultState with beats := t.beats } ∧ RegsExcept [] s t ∧ Frame [.fault] s t)) ∧
  (∀ (s : State) (k : Fin 10),
   procUsed k s = false ∨ k.val ∈ s.halted →
   NoEffect (.heartbeat k) s) ∧
  (∀ (s : State),
   wdogNow s ≠ s.wdogIdx →
   flagF DEV_STAT_READY s = true →
   s.injecting = false →
   (∀ j ∈ processors, injected 8 j 0 s = false) →
   (∀ j ∈ processors, j ∈ s.beats) →
   Completes .watchdogInterval s (fun t =>
     (∀ j ∈ processors, procUsed j s = true → wdogSkips j s = false → lookup j t.missed = none) ∧ t.beats = [] ∧ t.wdogIdx = wdogNow s ∧
     t.toFaultState = { s.toFaultState with beats := [], wdogIdx := t.wdogIdx, missed := t.missed } ∧ RegsExcept [] s t ∧ Frame [.fault] s t)) ∧
  (∀ (s : State) (k : Nat),
   wdogNow s ≠ s.wdogIdx →
   flagF DEV_STAT_READY s = true →
   s.injecting = false →
   (∀ j ∈ processors, injected 8 j 0 s = false) →
   k ∈ processors →
   (∀ j ∈ processors, j ≠ k → j ∈ s.beats) →
   k ∉ s.beats →
   procUsed k s = true →
   wdogSkips k s = false →
   look 0 k s.missed + 1 < getF FLT_WDOG_MISS s →
   Completes .watchdogInterval s (fun t =>
     lookup k t.missed = some (look 0 k s.missed + 1) ∧ t.beats = [] ∧ t.wdogIdx = wdogNow s ∧
     t.toFaultState = { s.toFaultState with beats := [], wdogIdx := t.wdogIdx, missed := t.missed } ∧ RegsExcept [] s t ∧ Frame [.fault] s t)) ∧
  (∀ (s : State) (k : Nat),
   wdogNow s ≠ s.wdogIdx →
   flagF DEV_STAT_READY s = true →
   s.injecting = false →
   (∀ j ∈ processors, injected 8 j 0 s = false) →
   k ∈ processors →
   (∀ j ∈ processors, j ≠ k → j ∈ s.beats) →
   k ∉ s.beats →
   procUsed k s = true →
   wdogSkips k s = false →
   getF FLT_WDOG_MISS s ≤ look 0 k s.missed + 1 →
   k = 9 ∨ s.cpFor = none →
   Completes .watchdogInterval s (fun t =>
     procAlive k t = false ∧ (∀ j ∈ processors, j ≠ k → procAlive j t = procAlive j s) ∧ lookup k t.missed = none ∧ lookup (3 * 2 ^ 16 + k) t.unitCause = some (0x61 + 256) ∧
     Noted [firmwareEntry k 1 0 0 s] s t ∧ flagF FLT_STAT_WDOG t = true ∧ t.beats = [] ∧
     RegsExcept ([FLT_HEART_ALIVE, FLT_STAT_WDOG] ++ noteRegs 0) s t ∧ Frame [.fault, .radio, .tallies, .bus] s t)) ∧
  (∀ (s : State) (k : Fin 10),
   Completes (.internalMessage k true) s (fun t =>
     k.val ∉ t.msgRetry ∧ t.toFaultState = { s.toFaultState with msgRetry := s.msgRetry.filter (fun x => decide (x ≠ k.val)) } ∧ RegsExcept [] s t ∧ Frame [.fault] s t)) ∧
  (∀ (s : State) (k : Fin 10),
   k.val ∉ s.msgRetry →
   Completes (.internalMessage k false) s (fun t =>
     t.msgRetry = k.val :: s.msgRetry ∧ Noted [injectedIf s.injecting (firmwareEntry k 3 0 0 s)] s t ∧
     t.toFaultState = { s.toFaultState with msgRetry := t.msgRetry } ∧ RegsExcept (noteRegs 0) s t ∧ Frame [.fault, .radio, .tallies, .bus] s t)) ∧
  (∀ (s : State) (k : Fin 10),
   k.val ∈ s.msgRetry →
   k.val = 9 ∨ s.cpFor = none →
   Completes (.internalMessage k false) s (fun t =>
     k.val ∉ t.msgRetry ∧ procAlive k t = false ∧ lookup (3 * 2 ^ 16 + k) t.unitCause = some (0x63 + 256) ∧
     Noted [injectedIf s.injecting (firmwareEntry k 3 0 0 s)] s t ∧ RegsExcept (FLT_HEART_ALIVE :: noteRegs 0) s t ∧ Frame [.fault, .radio, .tallies, .bus] s t)) ∧
  (∀ (s : State) (k : Fin 8),
   procAlive k s = false →
   s.cpFor = none →
   procAlive 8 s = true →
   spareWaits 3 k s = false →
   Completes (.controlProcessorSpare k) s (fun t =>
     t.cpFor = some k.val ∧ getF FLT_SPARE_CP t = 0 ∧ flagF FLT_STAT_SPARED t = true ∧
     Noted (sparedNotes s.injecting 3 (look 0 (3 * 2 ^ 16 + k) s.unitCause % 256) k k 8 (look 0 (3 * 2 ^ 16 + k) s.unitCause / 256) s) s t ∧
     RegsExcept ([FLT_SPARE_CP, FLT_STAT_SPARED] ++ noteRegs 0) s t ∧ Frame [.fault, .radio, .power, .tallies, .bus] s t)) ∧
  (∀ (s : State) (k : Fin 8) (p : Pkt),
   procAlive k s = false →
   s.cpFor = none →
   procAlive 8 s = true →
   s.spareCmd = [(3, k.val, p.id)] →
   s.accepted.find? (fun q => decide (q.id = p.id)) = some p →
   Completes (.controlProcessorSpare k) s (fun t => t.cpFor = some k.val ∧ t.spareCmd = [] ∧ getF FLT_SPARE_CP t = 0 ∧ flagF FLT_STAT_SPARED t = true ∧ Ended p stOK 0 t)) ∧
  (∀ (s : State) (k : Fin 10) (p : Pkt) (tag : Fin 4) (r part idx : Nat),
   s.accepted.find? (fun q => decide (q.id = p.id)) = some p →
   commitOk p r part s = true →
   NoEffect (.monitorCommit k (some p.id) tag r part idx true) s) ∧
  (∀ (s : State) (k : Fin 10) (tag : Fin 4) (r part idx : Nat),
   monitorInternal r tag = true →
   NoEffect (.monitorCommit k none tag r part idx true) s) ∧
  (∀ (s : State) (k : Fin 10) (p : Pkt) (tag : Fin 4) (r part idx : Nat) (ok : Bool),
   s.accepted.find? (fun q => decide (q.id = p.id)) = some p →
   ok = false ∨ commitOk p r part s = false →
   k.val = 9 ∨ s.cpFor = none →
   Completes (.monitorCommit k (some p.id) tag r part idx ok) s (fun t =>
     getF FLT_REFMON_PROC t = k.val ∧ getF FLT_REFMON_STATE t = r % 2 ^ FLT_REFMON_STATE.width ∧ getF FLT_REFMON_OPCODE t = p.opcode % 2 ^ FLT_REFMON_OPCODE.width ∧
     getF FLT_REFMON_SEQ t = p.seq % 2 ^ FLT_REFMON_SEQ.width ∧ procAlive k t = false ∧ flagF FLT_STAT_REFMON t = true ∧
     Noted [injectedIf s.injecting (firmwareEntry k 2 p.opcode idx s)] s t ∧ Ended p stITEM_FAILED 0 t ∧
     RegsExcept ([FLT_REFMON_PROC, FLT_REFMON_STATE, FLT_REFMON_OPCODE, FLT_REFMON_SEQ, FLT_STAT_REFMON, FLT_HEART_ALIVE] ++ noteRegs 0 ++ replyRegs p.window) s t ∧
     Frame ([.fault, .radio] ++ replyPieces) s t))

/-- DIAG_ASSAY waits for its core's idle time; an Assay starts on an idle unit that shows it, and its end counts it and records its band; a mismatch
is recorded, calls for a confirming Assay, and at the threshold makes the unit Suspect; at a period's boundary the period counts restart. DIAG_SPARE
retires its unit and waits for the spare where one has to take effect. A failing HBM4 channel is copied to the stack's spare, which serves at the
copy's end; with no spare left the stack leaves service and a cell's copy on it is rebuilt from the other. -/
def Obligations.AssaysAndSpares : Prop :=
  (∀ (s : State) (p : Pkt),
   ready p s = true →
   chkAssay p (leaveTimed p s) = none →
   Completes (.diagAssay p) s (fun t =>
     t.assayCmd = s.assayCmd ++ [(pf p 0 1, pf p 2 2, p.id)] ∧ p ∈ t.accepted ∧ p.id ∈ t.begun ∧ t.toFaultState = { s.toFaultState with assayCmd := t.assayCmd } ∧
     RegsExcept [CMD_TIMED_PENDING] s t ∧ Frame [.fault, .commands] s t)) ∧
  (∀ (s : State) (cls : Fin 5) (u sub : Nat) (bucket : Fin 8),
   assayIdle cls u sub s = true →
   s.assays.any (fun a => decide (a.cls = cls.val) && decide (a.unit = u) && decide (a.sub = sub)) = false →
   Completes (.assayStart cls u sub bucket) s (fun t =>
     t.assays = s.assays ++ [⟨cls, u, sub, unitBand cls (bandUnit cls u (assayPhys cls u sub s)) s, bucket,
       (s.assayCmd.find? (fun c => decide (c.1 = cls.val) && decide (c.2.1 = u))).map (fun c => c.2.2)⟩] ∧
     lookup (cls.val * 2 ^ 16 + assayPhys cls u sub s) t.assayLast = some s.now ∧ cls.val * 2 ^ 16 + assayPhys cls u sub s ∉ t.assayDue ∧
     (cls.val = 1 → getF (MXC_Cn_INFO_STATE u) t = 4) ∧ (cls.val = 2 → getF (SIG_Cn_INFO_STATE u) t = 2) ∧
     RegsExcept (if cls.val = 1 then [MXC_Cn_INFO_STATE u] else if cls.val = 2 then [SIG_Cn_INFO_STATE u] else []) s t ∧ Frame [.fault] s t)) ∧
  (∀ (s : State) (cls : Fin 5) (u sub : Nat) (a : Assay),
   s.assays.find? (fun a => decide (a.cls = cls.val) && decide (a.unit = u) && decide (a.sub = sub)) = some a →
   cls.val = 1 ∨ cls.val = 2 ∨ cls.val = 4 →
   a.pkt = none →
   s.injecting = false →
   injected 9 u 0 s = false →
   Completes (.assayEnd cls u sub true) s (fun t =>
     t.assays = s.assays.filter (fun b => decide (b ≠ a)) ∧ t.toFaultState = { s.toFaultState with assays := t.assays } ∧
     liveOf 16 FLT_T_ASSAY_COUNT t = min (2 ^ FLT_T_ASSAY_COUNT.width - 1) (liveOf 16 FLT_T_ASSAY_COUNT s + 1) ∧
     (cls.val ≠ 4 → getF (assayBand cls (assayPhys cls u sub s)) t = (a.band + 16 * a.bucket) % 2 ^ (assayBand cls (assayPhys cls u sub s)).width) ∧
     RegsExcept (if cls.val = 1 then [MXC_Cn_INFO_STATE u, assayBand 1 (mcPhys u s)] else if cls.val = 2 then [SIG_Cn_INFO_STATE u, assayBand 2 (scPhys u s)] else []) s t ∧
     Frame [.fault, .tallies] s t)) ∧
  (∀ (s : State) (cls : Fin 5) (u sub : Nat) (a : Assay) (p : Pkt),
   s.assays.find? (fun a => decide (a.cls = cls.val) && decide (a.unit = u) && decide (a.sub = sub)) = some a →
   cls.val = 1 ∨ cls.val = 2 →
   a.cls = cls.val →
   a.pkt = some p.id →
   s.accepted.find? (fun q => decide (q.id = p.id)) = some p →
   s.injecting = false →
   injected 9 u 0 s = false →
   Completes (.assayEnd cls u sub true) s (fun t =>
     t.assays = s.assays.filter (fun b => decide (b ≠ a)) ∧ Ended p stOK (2 * a.band + 16 * a.bucket) t)) ∧
  (∀ (s : State) (u : Nat) (a : Assay),
   s.assays.find? (fun a => decide (a.cls = 1) && decide (a.unit = u) && decide (a.sub = 0)) = some a →
   a.cls = 1 ∧ a.unit = u ∧ a.sub = 0 →
   a.pkt = none →
   s.injecting = false →
   injected 9 u 0 s = false →
   getF (assayCnt 1 (mcPhys u s)) s + 1 < getF FLT_ASSAY_THR s →
   getF FLT_ASSAY_THR s ≤ 3 ∧ getF (assayCells 1 (mcPhys u s) ((a.band * 8 + a.bucket) / 32)) s / 4 ^ ((a.band * 8 + a.bucket) % 32) % 4 + 1 < getF FLT_ASSAY_THR s →
   Completes (.assayEnd 1 u 0 false) s (fun t =>
     getF (assayCnt 1 (mcPhys u s)) t = getF (assayCnt 1 (mcPhys u s)) s + 1 ∧
     2 ^ 16 + mcPhys u s ∈ t.assayDue ∧ flagF (assaySuspectF 1 (mcPhys u s)) t = flagF (assaySuspectF 1 (mcPhys u s)) s ∧
     Noted [unitEvent 1 6 0x10 u (mcPhys u s) 0xFFFF a.bucket (getF (assayCnt 1 (mcPhys u s)) s + 1) a.band s] s t ∧
     liveOf 16 FLT_T_MISMATCH_COUNT t = min (2 ^ FLT_T_MISMATCH_COUNT.width - 1) (liveOf 16 FLT_T_MISMATCH_COUNT s + 1) ∧
     RegsExcept ([MXC_Cn_INFO_STATE u, assayBand 1 (mcPhys u s), assayCnt 1 (mcPhys u s), assayCells 1 (mcPhys u s) 0, assayCells 1 (mcPhys u s) 1] ++ noteRegs 0) s t ∧
     Frame [.fault, .radio, .power, .tallies, .bus] s t)) ∧
  (∀ (s : State) (u : Nat) (a : Assay),
   s.assays.find? (fun a => decide (a.cls = 1) && decide (a.unit = u) && decide (a.sub = 0)) = some a →
   a.cls = 1 ∧ a.unit = u ∧ a.sub = 0 →
   a.pkt = none →
   s.injecting = false →
   injected 9 u 0 s = false →
   getF FLT_ASSAY_THR s ≤ getF (assayCnt 1 (mcPhys u s)) s + 1 →
   getF (assayCnt 1 (mcPhys u s)) s + 1 < 2 ^ (assayCnt 1 (mcPhys u s)).width →
   flagF (assaySuspectF 1 (mcPhys u s)) s = false →
   Completes (.assayEnd 1 u 0 false) s (fun t =>
     flagF (assaySuspectF 1 (mcPhys u s)) t = true ∧ flagF FLT_STAT_SUSPECT t = true ∧ nextIndex 0 t = (nextIndex 0 s + 2) % 2 ^ (FLT_LGf_NEXT_NEXT 0).width ∧
     RegsExcept ([MXC_Cn_INFO_STATE u, assayBand 1 (mcPhys u s), assayCnt 1 (mcPhys u s), assayCells 1 (mcPhys u s) 0, assayCells 1 (mcPhys u s) 1,
       assaySuspectF 1 (mcPhys u s), FLT_STAT_SUSPECT] ++ noteRegs 0) s t ∧ Frame [.fault, .radio, .power, .tallies, .bus] s t)) ∧
  (∀ (s : State),
   assayNow s ≠ s.assayIdx →
   Completes .assayPeriodBoundary s (fun t =>
     t.assayIdx = assayNow s ∧ t.mcFaults = [] ∧ t.sigFaults = [] ∧ t.laneFaults = [] ∧ t.laneMiss = s.laneMiss.filter (fun x => decide (2 ^ 20 ≤ x.1)) ∧
     (∀ i ∈ List.range 160, getF (FLT_MCp_ASSAY_PERIOD_CNT i) t = 0) ∧ (∀ i ∈ List.range 72, getF (FLT_SCq_ASSAY_PERIOD_CNT i) t = 0) ∧
     RegsExcept ((List.range 160).map FLT_MCp_ASSAY_PERIOD_CNT ++ (List.range 72).map FLT_SCq_ASSAY_PERIOD_CNT) s t ∧ Frame [.fault, .radio] s t)) ∧
  (∀ (s : State) (p : Pkt) (q : Nat),
   ready p s = true →
   chkSpare p (leaveTimed p s) = none →
   dsCls p = 1 →
   chooseSpare 20 (mcPhys (dsUnit p) s / 20) (mcSpares s) = some q →
   Completes (.diagSpare p) s (fun t =>
     mcPhys (dsUnit p) s ∈ t.mcRetired ∧ lookup (dsUnit p) t.mcRetiring = some q ∧ (1, dsUnit p, p.id) ∈ t.spareCmd ∧ p ∈ t.accepted ∧ p.id ∈ t.begun ∧
     (getF (PWR_DOMd_STATE q) s = 0 → getF (PWR_DOMd_STATE q) t = 1) ∧ flagF MXC_STAT_RETIRED t = true ∧
     RegsExcept ([CMD_TIMED_PENDING, PWR_DOMd_STATE q, MXC_STAT_RETIRED] ++ vecRegs) s t ∧ Frame [.fault, .commands, .tallies, .bus] s t)) ∧
  (∀ (s : State) (p : Pkt) (c : Nat) (l : List (Nat × Nat × Nat)),
   ready p s = true →
   chkSpare p (leaveTimed p s) = none →
   (dsCls p = 2 ∧ (sigOf (dsUnit p) s).run.any (fun r => r.fault.isNone) = true ∧ c = dsUnit p) ∨
     (dsCls p = 4 ∧ s.code.any (fun w => decide (w.cluster = dsUnit p)) = true ∧ c = dsUnit p * 32 + dsSub p) ∨ (dsCls p = 3 ∧ c = dsUnit p) →
   l = s.spareCmd →
   Completes (.diagSpare p) s (fun t =>
     t.spareCmd = l ++ [(dsCls p, c, p.id)] ∧ p ∈ t.accepted ∧ p.id ∈ t.begun ∧ (dsCls p = 3 → procAlive (dsUnit p) t = false) ∧
     (dsCls p = 2 → lookup (2 * 2 ^ 16 + scPhys (dsUnit p) s) t.unitCause = some 0x20) ∧
     RegsExcept [CMD_TIMED_PENDING, FLT_HEART_ALIVE] s t ∧ Frame [.fault, .commands] s t)) ∧
  (∀ (s : State) (p : Pkt),
   ready p s = true →
   chkSpare p (leaveTimed p s) = none →
   dsCls p = 5 →
   Completes (.diagSpare p) s (fun t =>
     codRetired (dsUnit p) (24 + dsSub p) t = true ∧ getF (COD_CCm_INFO_POLAR (dsUnit p)) t = getF (COD_CCm_INFO_POLAR (dsUnit p)) s - 1 ∧
     getF FLT_SPARE_POLAR t = getF FLT_SPARE_POLAR s - 1 ∧ flagF COD_STAT_RETIRED t = true ∧ flagF FLT_STAT_SPARED t = true ∧
     Noted (sparedNotes s.injecting 5 0x30 (dsUnit p) (dsSub p) 4 0 s) s t ∧ Ended p stOK 0 t ∧
     RegsExcept ([COD_CCm_INFO_POLAR (dsUnit p), COD_STAT_RETIRED, FLT_SPARE_POLAR, FLT_STAT_SPARED] ++ noteRegs 0 ++ replyRegs p.window) s t ∧
     Frame ([.fault, .radio, .power] ++ replyPieces) s t)) ∧
  (∀ (s : State) (p : Pkt),
   ready p s = true →
   chkSpare p (leaveTimed p s) = none →
   dsCls p = 10 →
   Completes (.diagSpare p) s (fun t =>
     t.chanCopy = s.chanCopy ++ [⟨dsUnit p, dsSub p, s.now, 0x40, some p.id⟩] ∧ dsUnit p * 32 + dsSub p ∈ t.chanRetired ∧ stackSpare (dsUnit p) t = false ∧
     p ∈ t.accepted ∧ p.id ∈ t.begun ∧ RegsExcept [CMD_TIMED_PENDING, FLT_SPARE_HBMCH] s t ∧ Frame [.fault, .mem, .commands] s t)) ∧
  (∀ (s : State) (p : Pkt),
   ready p s = true →
   dsCls p = 1 ∨ dsCls p = 2 ∨ dsCls p = 3 ∨ dsCls p = 4 ∨ dsCls p = 5 ∨ dsCls p = 6 ∨ dsCls p = 10 →
   dsUnitOk p (leaveTimed p s) = true ∧ dsSubOk p = true →
   dsNoSpare p (leaveTimed p s) = true →
   Completes (.diagSpare p) s (fun t => Ended p stBAD_PARAM 32 t ∧ RegsExcept (replyRegs p.window) s t ∧ Frame replyPieces s t)) ∧
  (∀ (s : State) (k : Fin 12) (c : Fin 32) (lanes : Bool),
   chanBad k c lanes s = true →
   stackSpare k s = true →
   Completes (.hbmChannelSpare k c lanes) s (fun t =>
     t.chanCopy = s.chanCopy ++ [⟨k, c, s.now, 0x41, none⟩] ∧ k.val * 32 + c.val ∈ t.chanRetired ∧ stackSpare k t = false ∧ RegsExcept [FLT_SPARE_HBMCH] s t ∧ Frame [.fault, .mem] s t)) ∧
  (∀ (s : State) (k : Fin 12) (c : Fin 32) (x : ChanCopy),
   s.chanCopy.find? (fun x => decide (x.stack = k.val) && decide (x.chan = c.val)) = some x →
   x.pkt = none →
   Completes (.hbmChannelCopyDone k c) s (fun t =>
     t.chanCopy = s.chanCopy.filter (fun y => decide (y ≠ x)) ∧ flagF FLT_STAT_SPARED t = true ∧ Noted (sparedNotes s.injecting 10 x.cause k c 32 (chanUeCount k c s) s) s t ∧
     RegsExcept (FLT_STAT_SPARED :: noteRegs 0) s t ∧ Frame [.fault, .mem, .radio, .power, .tallies, .bus] s t)) ∧
  (∀ (s : State) (k : Fin 12) (c : Fin 32) (x : ChanCopy) (p : Pkt),
   s.chanCopy.find? (fun x => decide (x.stack = k.val) && decide (x.chan = c.val)) = some x →
   x.pkt = some p.id →
   s.accepted.find? (fun q => decide (q.id = p.id)) = some p →
   Completes (.hbmChannelCopyDone k c) s (fun t =>
     t.chanCopy = s.chanCopy.filter (fun y => decide (y ≠ x)) ∧ flagF FLT_STAT_SPARED t = true ∧ Ended p stOK 0 t)) ∧
  (∀ (s : State) (k : Fin 12) (c : Fin 32) (lanes : Bool),
   chanBad k c lanes s = true →
   stackSpare k s = false →
   k.val ∉ s.stacksOut →
   (∀ x ∈ s.cells, x.2.stackA ≠ k.val ∧ x.2.stackB ≠ k.val) →
   (∀ x ∈ s.chanCopy, x.stack ≠ k.val) →
   Completes (.stackOutOfService k c lanes) s (fun t =>
     t.stacksOut = k.val :: s.stacksOut ∧ flagF FLT_STAT_NO_SPARE t = true ∧ flagF ESC_STAT_CAP_CHANGED t = true ∧ t.cells = s.cells ∧
     getF ESC_CAP_T1_CAP t = capAt (dutyPct t) 3 t % 2 ^ ESC_CAP_T1_CAP.width ∧
     Noted [injectedIf s.injecting (unitEvent 10 5 0x43 k c 0xFFFF 0 (chanUeCount k c s) (unitBand 10 k s) s)] s t ∧
     RegsExcept ([FLT_STAT_NO_SPARE, ESC_STAT_CAP_CHANGED] ++ noteRegs 0 ++ escrowShown) s t ∧ Frame [.fault, .radio, .power, .tallies, .bus] s t)) ∧
  (∀ (s : State) (k : Fin 12) (c : Fin 32) (lanes : Bool) (n : Nat) (x : Cell),
   chanBad k c lanes s = true →
   stackSpare k s = false →
   k.val ∉ s.stacksOut →
   s.cells = [(n, x)] →
   x.stackA = k.val ∧ x.okA = true ∧ x.okB = true →
   (∀ y ∈ s.chanCopy, y.stack ≠ k.val) →
   Completes (.stackOutOfService k c lanes) s (fun t =>
     t.stacksOut = k.val :: s.stacksOut ∧ flagF FLT_STAT_NO_SPARE t = true ∧
     (lookup n t.cells).map (fun y => (y.okA, y.okB, y.rebuilding)) = some (false, true, true) ∧ (lookup n t.cells).map (fun y => (y.stackB, y.st)) = some (x.stackB, x.st)))

namespace Sys2Proof

/-- The counter of a field in Tally group g has counted one event, saturating (R54). -/
def counted (g : Nat) (f : Fld) (s t : State) : Prop := liveOf g f t = min (2 ^ f.width - 1) (liveOf g f s + 1)

/-- The fields of Flow Table entry f of engine p. -/
def flowFields (p f : Nat) : List Fld :=
  [FH_Ff_MAP_VALID p f, FH_Ff_MAP_CELL p f, FH_Ff_MAP_EAXC p f, FH_Ff_MAP_STREAM p f, FH_Ff_MAP_W p f, FH_Ff_MAP_QUEUE p f,
      FH_Ff_MAP_WP p f, FH_Ff_MAP_DIR p f, FH_Ff_MAP_KIND p f, FH_Ff_MAP_SUBPORT p f, FH_Ff_RATE_CIR p f, FH_Ff_RATE_PIR p f, FH_Ff_BURST_CBS p f, FH_Ff_BURST_PBS p f]

/-- The fields of the Flow Table entries and of the queue settings of Fronthaul Engine p, and its mode and links. -/
def portRegs (p : Nat) : List Fld :=
  [FH_PORT_CFG_MODE p, FH_PORT_STAT_LINK p] ++
    (List.range 128).flatMap (fun q => [FH_Qq_CFG_PRIO p q, FH_Qq_CFG_QUANTUM p q, FH_Qq_SHAPE_RATE p q, FH_Qq_SHAPE_BURST p q]) ++
    (List.range 1024).flatMap (flowFields p)

end Sys2Proof

/-- A write of FH_PORT_CFG.MODE while a cell that is not ABSENT is bound to a sub-port of the port is ignored and sets FH_STAT.MODE_REFUSED; otherwise
the mode is written, every sub-port retrains (its link is down), and the port's Flow Table entries and queue settings are cleared. -/
def Obligations.PortModeWrites : Prop :=
  (∀ (s : State) (p : Fin 4) (w : BitVec 32),
   hostUp 0 s = true →
   s.cells.any (fun c => decide (cfgLport c.2.cfg / 8 = p.val)) = false →
   Completes (.portModeWrite p w) s (fun t =>
     getF (FH_PORT_CFG_MODE p) t = w.toNat % 4 ∧ getF (FH_PORT_STAT_LINK p) t = 0 ∧ (∀ f ∈ List.range 1024, flagF (FH_Ff_MAP_VALID p f) s = true → ∀ g ∈ flowFields p f, getF g t = 0) ∧
     (∀ f ∈ List.range 1024, getF (FH_Ff_MAP_VALID p f) t = 0) ∧
     (∀ q ∈ List.range 128, getF (FH_Qq_CFG_PRIO p q) t = 0 ∧ getF (FH_Qq_CFG_QUANTUM p q) t = 152 ∧ getF (FH_Qq_SHAPE_RATE p q) t = 0 ∧ getF (FH_Qq_SHAPE_BURST p q) t = 152 ∧
       queueMsgs (p * 128 + q) t = []) ∧
     RegsExcept (portRegs p) s t ∧ Frame [.front, .tallies] s t)) ∧
  (∀ (s : State) (p : Fin 4) (w : BitVec 32),
   hostUp 0 s = true →
   s.cells.any (fun c => decide (cfgLport c.2.cfg / 8 = p.val)) = true →
   Completes (.portModeWrite p w) s (fun t =>
     flagF (FH_STAT_MODE_REFUSED p) t = true ∧ RegsExcept (FH_STAT_MODE_REFUSED p :: vecRegs) s t ∧ Frame vecPieces s t))

/-- A Window Profile write takes effect when minimum and maximum are in order and no cell uses the profile; a SHAPE write is refused below the
admitted credit of the queue; a policer write that keeps PIR at or above CIR fills both buckets; a refill puts the SHAPE registers in force and adds
tokens up to the burst; a sub-port's link comes up and goes down; a failed lane takes the spare, or with the spare used the port leaves service. -/
def Obligations.FronthaulPorts : Prop :=
  (∀ (s : State) (p : Fin 4) (k : Fin 16) (i : Fin 8) (w : BitVec 32),
   hostUp 0 s = true →
   profileUsed p k s = false →
   i.val ≠ 0 ∧ i.val ≠ 7 →
   (i.val % 2 = 1 → getF (t1aFld p k (i.val + 1)) s + 8192 ≤ w.toNat % 2 ^ 24) ∧ (i.val % 2 = 0 → w.toNat % 2 ^ 24 + 8192 ≤ getF (t1aFld p k (i.val - 1)) s) →
   Completes (.wpWrite p k i w) s (fun t => getF (t1aFld p k i) t = w.toNat % 2 ^ 24 ∧ RegsExcept [t1aFld p k i] s t ∧ Frame [] s t)) ∧
  (∀ (s : State) (p : Fin 4) (k : Fin 16) (i : Fin 8) (w : BitVec 32),
   hostUp 0 s = true →
   profileUsed p k s = false →
   i.val = 0 ∨ (i.val = 7 ∧ w.toNat % 65536 < w.toNat / 65536) →
   Completes (.wpWrite p k i w) s (fun t =>
     (i.val = 0 → getF (FH_WPk_CFG_EARLY_ACC p k) t = w.toNat % 2) ∧
     (i.val = 7 → getF (FH_WPk_TA4_TA4_MAX p k) t = w.toNat / 65536 ∧ getF (FH_WPk_TA4_TA4_MIN p k) t = w.toNat % 65536) ∧
     RegsExcept (if i.val = 0 then [FH_WPk_CFG_EARLY_ACC p k] else [FH_WPk_TA4_TA4_MAX p k, FH_WPk_TA4_TA4_MIN p k]) s t ∧ Frame [] s t)) ∧
  (∀ (s : State) (p : Fin 4) (k : Fin 16) (i : Fin 8) (w : BitVec 32),
   hostUp 0 s = true →
   profileUsed p k s = true ∨ (i.val = 7 ∧ w.toNat / 65536 ≤ w.toNat % 65536) →
   Completes (.wpWrite p k i w) s (fun t => flagF (FH_STAT_WP_REFUSED p) t = true ∧ RegsExcept (FH_STAT_WP_REFUSED p :: vecRegs) s t ∧ Frame vecPieces s t)) ∧
  (∀ (s : State) (p : Fin 4) (q : Fin 128) (v : BitVec 64),
   hostUp 0 s = true →
   v.toNat % 2 ^ 20 = 0 ∨ queueCredit p q s ≤ v.toNat % 2 ^ 20 * 125 →
   Completes (.shapeWrite p q v) s (fun t =>
     getF (FH_Qq_SHAPE_RATE p q) t = v.toNat % 2 ^ 20 ∧ getF (FH_Qq_SHAPE_BURST p q) t = v.toNat / 2 ^ 32 % 2 ^ 16 ∧
     RegsExcept [FH_Qq_SHAPE_RATE p q, FH_Qq_SHAPE_BURST p q] s t ∧ Frame [] s t)) ∧
  (∀ (s : State) (p : Fin 4) (q : Fin 128) (v : BitVec 64),
   hostUp 0 s = true →
   v.toNat % 2 ^ 20 ≠ 0 →
   v.toNat % 2 ^ 20 * 125 < queueCredit p q s →
   Completes (.shapeWrite p q v) s (fun t => flagF (FH_STAT_SHAPE_REFUSED p) t = true ∧ RegsExcept (FH_STAT_SHAPE_REFUSED p :: vecRegs) s t ∧ Frame vecPieces s t)) ∧
  (∀ (s : State) (p : Fin 4) (f : Fin 1024) (burst : Bool) (v : BitVec 64) (cir pir cbs pbs : Nat),
   hostUp 0 s = true →
   cir = (if burst then getF (FH_Ff_RATE_CIR p f) s else v.toNat % 2 ^ 32) ∧ pir = (if burst then getF (FH_Ff_RATE_PIR p f) s else v.toNat / 2 ^ 32) →
   cbs = (if burst then v.toNat % 2 ^ 32 else getF (FH_Ff_BURST_CBS p f) s) ∧ pbs = (if burst then v.toNat / 2 ^ 32 else getF (FH_Ff_BURST_PBS p f) s) →
   cir ≤ pir →
   pir = 0 ∨ (cbs ≠ 0 ∧ pbs ≠ 0) →
   Completes (.policerWrite p f burst v) s (fun t =>
     getF (FH_Ff_RATE_CIR p f) t = cir % 2 ^ (FH_Ff_RATE_CIR p f).width ∧ getF (FH_Ff_RATE_PIR p f) t = pir % 2 ^ (FH_Ff_RATE_PIR p f).width ∧
     getF (FH_Ff_BURST_CBS p f) t = cbs % 2 ^ (FH_Ff_BURST_CBS p f).width ∧ getF (FH_Ff_BURST_PBS p f) t = pbs % 2 ^ (FH_Ff_BURST_PBS p f).width ∧
     lookup (p * 1024 + f) t.marker = some ⟨cbs * markerByte, pbs * markerByte, s.now⟩ ∧ t.toFrontState = { s.toFrontState with marker := t.marker } ∧
     RegsExcept [FH_Ff_RATE_CIR p f, FH_Ff_RATE_PIR p f, FH_Ff_BURST_CBS p f, FH_Ff_BURST_PBS p f] s t ∧ Frame [.front] s t)) ∧
  (∀ (s : State) (p : Fin 4) (f : Fin 1024) (v : BitVec 64),
   hostUp 0 s = true →
   v.toNat / 2 ^ 32 < v.toNat % 2 ^ 32 →
   Completes (.policerWrite p f false v) s (fun t => flagF (FH_STAT_POL_REFUSED p) t = true ∧ RegsExcept (FH_STAT_POL_REFUSED p :: vecRegs) s t ∧ Frame vecPieces s t)) ∧
  (∀ (s : State) (p : Fin 4),
   Completes (.shaperRefill p) s (fun t =>
     (∀ q ∈ List.range 128, q % 16 ≠ 15 → shapeOf (p * 128 + q) t = (getF (FH_Qq_SHAPE_RATE p q) s, getF (FH_Qq_SHAPE_BURST p q) s) ∧
       tokensOf (p * 128 + q) t = min ((getF (FH_Qq_SHAPE_BURST p q) s * 8000 : Nat) : Int) (tokensOf (p * 128 + q) s + 2 * getF (FH_Qq_SHAPE_RATE p q) s)) ∧
     t.toFrontState = { s.toFrontState with fhShape := t.fhShape, fhTokens := t.fhTokens } ∧ RegsExcept [] s t ∧ Frame [.front] s t)) ∧
  (∀ (s : State) (k : Fin 32),
   subPortExists k s = true →
   spareWaits 6 (k / 8) s = false →
   Completes (.subPortLinkUp k) s (fun t =>
     getF (FH_PORT_STAT_LINK (k / 8)) t = setBit (k % 8) (getF (FH_PORT_STAT_LINK (k / 8)) s) % 2 ^ (FH_PORT_STAT_LINK (k / 8)).width ∧
     t.spareCmd = s.spareCmd ∧ RegsExcept [FH_PORT_STAT_LINK (k / 8)] s t ∧ Frame [] s t)) ∧
  (∀ (s : State) (k : Fin 32) (p : Pkt),
   subPortExists k s = true →
   s.spareCmd = [(6, k.val / 8, p.id)] →
   s.accepted.find? (fun q => decide (q.id = p.id)) = some p →
   Completes (.subPortLinkUp k) s (fun t =>
     linkUp k t = true ∧ t.spareCmd = [] ∧ Ended p stOK 0 t ∧ RegsExcept (FH_PORT_STAT_LINK (k / 8) :: replyRegs p.window) s t ∧ Frame (.fault :: replyPieces) s t)) ∧
  (∀ (s : State) (k : Fin 32),
   linkUp k s = true →
   Completes (.subPortLinkDown k) s (fun t =>
     getF (FH_PORT_STAT_LINK (k / 8)) t = (getF (FH_PORT_STAT_LINK (k / 8)) s - 2 ^ (k.val % 8)) % 2 ^ (FH_PORT_STAT_LINK (k / 8)).width ∧
     RegsExcept [FH_PORT_STAT_LINK (k / 8)] s t ∧ Frame [] s t)) ∧
  (∀ (s : State) (p : Fin 4) (lane : Nat),
   flagF (FH_PORT_STAT_SPARE_IN p) s = false →
   Completes (.fhLaneSpare p lane) s (fun t =>
     getF (FH_PORT_STAT_SPARE_IN p) t = 1 ∧ getF (FH_PORT_STAT_LANE_OUT p) t = lane % 2 ^ (FH_PORT_STAT_LANE_OUT p).width ∧ getF (FH_PORT_STAT_LINK p) t = 0 ∧
     getF FLT_SPARE_FH t = getF FLT_SPARE_FH s - 1 ∧ flagF FLT_STAT_SPARED t = true ∧
     Noted (sparedNotes (s.injecting || injected 7 p lane s) 6 0xA0 p lane 4 1 s) s t ∧
     RegsExcept ([FH_PORT_STAT_SPARE_IN p, FH_PORT_STAT_LANE_OUT p, FH_PORT_STAT_LINK p, FLT_SPARE_FH, FLT_STAT_SPARED] ++ noteRegs 0) s t ∧
     Frame [.radio, .fault, .power, .tallies, .bus] s t)) ∧
  (∀ (s : State) (p : Fin 4) (lane : Nat),
   flagF (FH_PORT_STAT_SPARE_IN p) s = true →
   Completes (.fhLaneSpare p lane) s (fun t =>
     getF (FH_PORT_STAT_LINK p) t = 0 ∧ flagF FLT_STAT_NO_SPARE t = true ∧
     Noted [injectedIf (s.injecting || injected 7 p lane s) (unitEvent 6 5 0xA0 p lane 0xFFFF 0 1 (unitBand 6 p s) s),
       injectedIf (s.injecting || injected 7 p lane s) (portEvent true p 0 lane 0xA0 s)] s t ∧
     RegsExcept ([FH_PORT_STAT_LINK p, FLT_STAT_NO_SPARE] ++ noteRegs 0) s t ∧ Frame [.radio, .fault, .power, .tallies, .bus] s t))

/-- An on-time ingress message that the policer passes is written to the slot buffer, decompressed, and counted; a late one, one without a flow and
one with bad contents are counted and dropped. An egress message is handed to the timing wheel in the first bucket at or after its release time, or to
the far list beyond the horizon; far messages enter the wheel within it; a due bucket's messages enter their queues, C-plane first; a sub-port sends
the head of queue 15, else of the highest-priority queue whose deficit and shaper allow it, and discards and counts a head that its window can no
longer hold; messages past their deadlines leave their queues; a PTP message enters queue 15. -/
def Obligations.FronthaulMessages : Prop :=
  (∀ (s : State) (m : RxMsg) (f t0 : Nat) (x : Cell),
   subPortExists m.lport s = true →
   m.bad = false ∧ m.msgType = 0 →
   ingressFlow m.lport m.eaxc s = some f →
   lookup (getF (FH_Ff_MAP_CELL (m.lport / 8) f) s) s.cells = some x →
   getF (FH_Ff_MAP_KIND (m.lport / 8) f) s ≠ 2 →
   messageSym x.cfg m s = some t0 →
   classify (m.lport / 8) (getF (FH_Ff_MAP_WP (m.lport / 8) f) s) (rxStamp (cfgTd x.cfg) m.lport s) t0 s = .ontime →
   getF (FH_Ff_RATE_PIR (m.lport / 8) f) s = 0 →
   Completes (.uplaneIngress m) s (fun t =>
     t.slotBuf = m.prbs.map (fun r => (⟨getF (FH_Ff_MAP_CELL (m.lport / 8) f) s, getF (FH_Ff_MAP_STREAM (m.lport / 8) f) s, t0, r.prb,
       pairs (bfpDecompress (getF (FH_Ff_MAP_W (m.lport / 8) f) s) r.comp.toNat r.mant), 0⟩ : RxData)) ++ s.slotBuf ∧
     counted (8 + m.lport / 8) (FH_Ss_RX_ONTIME_COUNT (m.lport / 8) (m.lport % 8)) s t ∧ t.toFrontState = { s.toFrontState with slotBuf := t.slotBuf } ∧
     RegsExcept [] s t ∧ Frame [.front, .tallies] s t)) ∧
  (∀ (s : State) (m : RxMsg) (f t0 : Nat) (x : Cell),
   subPortExists m.lport s = true →
   m.bad = false ∧ m.msgType = 0 →
   ingressFlow m.lport m.eaxc s = some f →
   lookup (getF (FH_Ff_MAP_CELL (m.lport / 8) f) s) s.cells = some x →
   getF (FH_Ff_MAP_KIND (m.lport / 8) f) s ≠ 2 →
   messageSym x.cfg m s = some t0 →
   classify (m.lport / 8) (getF (FH_Ff_MAP_WP (m.lport / 8) f) s) (rxStamp (cfgTd x.cfg) m.lport s) t0 s = .late →
   Completes (.uplaneIngress m) s (fun t =>
     counted (128 + getF (FH_Ff_MAP_CELL (m.lport / 8) f) s) (FH_Ff_LATE_COUNT (m.lport / 8) f) s t ∧ t.slotBuf = s.slotBuf ∧
     t.toFrontState = { s.toFrontState with marker := t.marker } ∧ RegsExcept [] s t ∧ Frame [.front, .tallies] s t)) ∧
  (∀ (s : State) (m : RxMsg),
   subPortExists m.lport s = true →
   m.bad = true ∨ m.msgType ≠ 0 ∨ ingressFlow m.lport m.eaxc s = none →
   Completes (.uplaneIngress m) s (fun t =>
     counted (8 + m.lport / 8) ((if m.bad then FH_Ss_RX_BAD_COUNT else FH_Ss_RX_NOFLOW_COUNT) (m.lport / 8) (m.lport % 8)) s t ∧ RegsExcept [] s t ∧ Frame [.tallies] s t)) ∧
  (∀ (s : State) (m m' : TxMsg) (x : Cell),
   lookup m.cell s.cells = some x →
   flagF (FH_Ff_MAP_VALID (m.lport / 8) m.flow) s = true ∧ getF (FH_Ff_MAP_DIR (m.lport / 8) m.flow) s = 1 →
   getF (FH_Ff_MAP_CELL (m.lport / 8) m.flow) s = m.cell ∧ m.lport = cfgLport x.cfg →
   getF (FH_Ff_MAP_KIND (m.lport / 8) m.flow) s ≠ 2 →
   m' = { m with
     td := cfgTd x.cfg, release := (txWindow x.cfg (getF (FH_Ff_MAP_WP (m.lport / 8) m.flow) s) m s).1,
     deadline := (txWindow x.cfg (getF (FH_Ff_MAP_WP (m.lport / 8) m.flow) s) m s).2,
     prbs := m.prbs.map (fun r => if getF (FH_Ff_MAP_W (m.lport / 8) m.flow) s = 16 then r else
       { r with comp := BitVec.ofNat 8 (bfpCompress (getF (FH_Ff_MAP_W (m.lport / 8) m.flow) s) r.mant).1, mant := (bfpCompress (getF (FH_Ff_MAP_W (m.lport / 8) m.flow) s) r.mant).2 }) } →
   counter (cfgTd x.cfg) s ≤ m'.release →
   Completes (.wheelPlace m) s (fun t =>
     (m'.release ≤ counter (cfgTd x.cfg) s + 8388608 → t.fhWheel = s.fhWheel ++ [((m'.release + 2047) / 2048 * 2048, m')] ∧ t.fhFar = s.fhFar) ∧
     (counter (cfgTd x.cfg) s + 8388608 < m'.release → t.fhFar = s.fhFar ++ [m'] ∧ t.fhWheel = s.fhWheel) ∧
     t.toFrontState = { s.toFrontState with fhWheel := t.fhWheel, fhFar := t.fhFar } ∧ t.toRadioState = { s.toRadioState with jobs := t.jobs } ∧
     RegsExcept [] s t ∧ Frame [.front, .radio] s t)) ∧
  (∀ (s : State) (m : TxMsg) (x : Cell),
   lookup m.cell s.cells = some x →
   flagF (FH_Ff_MAP_VALID (m.lport / 8) m.flow) s = true ∧ getF (FH_Ff_MAP_DIR (m.lport / 8) m.flow) s = 1 →
   getF (FH_Ff_MAP_CELL (m.lport / 8) m.flow) s = m.cell ∧ m.lport = cfgLport x.cfg →
   getF (FH_Ff_MAP_KIND (m.lport / 8) m.flow) s ≠ 2 →
   m.cplane = true →
   (txWindow x.cfg (getF (FH_Ff_MAP_WP (m.lport / 8) m.flow) s) m s).1 < counter (cfgTd x.cfg) s →
   (txWindow x.cfg (getF (FH_Ff_MAP_WP (m.lport / 8) m.flow) s) m s).2 < counter (cfgTd x.cfg) s →
   Completes (.wheelPlace m) s (fun t =>
     counted (8 + m.lport / 8) (FH_Ss_TX_MISS_COUNT (m.lport / 8) (m.lport % 8)) s t ∧ flagF (FH_STAT_TX_MISS (m.lport / 8)) t = true ∧
     t.toFrontState = s.toFrontState ∧ RegsExcept (FH_STAT_TX_MISS (m.lport / 8) :: vecRegs) s t ∧ Frame [.radio, .tallies, .bus] s t)) ∧
  (∀ (s : State) (p : Fin 4),
   (∀ m ∈ s.fhFar, m.lport / 8 = p.val → m.release ≤ counter m.td s + 8388608 → counter m.td s ≤ m.release) →
   Completes (.farListEnter p) s (fun t =>
     t.fhFar = s.fhFar.filter (fun m => !(decide (m.lport / 8 = p.val) && decide (m.release ≤ counter m.td s + 8388608))) ∧
     t.fhWheel = s.fhWheel ++ (s.fhFar.filter (fun m => decide (m.lport / 8 = p.val) && decide (m.release ≤ counter m.td s + 8388608))).map
       (fun m => ((m.release + 2047) / 2048 * 2048, m)) ∧
     t.toFrontState = { s.toFrontState with fhWheel := t.fhWheel, fhFar := t.fhFar } ∧ RegsExcept [] s t ∧ Frame [.front] s t)) ∧
  (∀ (s : State) (p : Fin 4) (n : Fin 6) (b : Nat) (m : TxMsg),
   s.fhWheel.filter (fun x => decide (x.2.lport / 8 = p.val) && decide (x.2.td = n.val) && decide (x.1 ≤ counter n s)) = [(b, m)] →
   Completes (.bucketDue p n) s (fun t =>
     queueMsgs (queueKey m.lport (getF (FH_Ff_MAP_QUEUE p m.flow) s)) t = queueMsgs (queueKey m.lport (getF (FH_Ff_MAP_QUEUE p m.flow) s)) s ++ [m] ∧
     t.fhWheel = s.fhWheel.filter (fun x => !(decide (x.2.lport / 8 = p.val) && decide (x.2.td = n.val) && decide (x.1 ≤ counter n s))) ∧
     (queueMsgs (queueKey m.lport (getF (FH_Ff_MAP_QUEUE p m.flow) s)) s = [] ∧ getF (FH_Ff_MAP_QUEUE p m.flow) s ≠ 15 →
       getF (FH_Ff_MAP_QUEUE p m.flow) s ∈ activeOf m.lport (getF (FH_Qq_CFG_PRIO (m.lport / 8) (queueOf m.lport (getF (FH_Ff_MAP_QUEUE p m.flow) s))) s) t) ∧
     t.toFrontState = { s.toFrontState with fhWheel := t.fhWheel, fhQueue := t.fhQueue, fhActive := t.fhActive } ∧ RegsExcept [] s t ∧ Frame [.front] s t)) ∧
  (∀ (s : State) (p : Fin 4) (n : Fin 6) (b : Nat) (m m' : TxMsg),
   s.fhWheel.filter (fun x => decide (x.2.lport / 8 = p.val) && decide (x.2.td = n.val) && decide (x.1 ≤ counter n s)) = [(b, m), (b, m')] →
   m.release = m'.release ∧ m.cplane = false ∧ m'.cplane = true →
   m.lport = m'.lport ∧ m.flow = m'.flow →
   Completes (.bucketDue p n) s (fun t =>
     queueMsgs (queueKey m.lport (getF (FH_Ff_MAP_QUEUE p m.flow) s)) t = queueMsgs (queueKey m.lport (getF (FH_Ff_MAP_QUEUE p m.flow) s)) s ++ [m', m])) ∧
  (∀ (s : State) (k : Fin 32) (m : TxMsg) (r : List TxMsg),
   subPortExists k s = true ∧ linkUp k s = true →
   queueMsgs (queueKey k 15) s = m :: r →
   m.stamp = none →
   Completes (.frameTransmit k) s (fun t =>
     t.fhSent = m :: s.fhSent ∧ queueMsgs (queueKey k 15) t = r ∧ counted (8 + k / 8) (FH_Ss_TX_MSG_COUNT (k / 8) (k % 8)) s t ∧
     t.toFrontState = { s.toFrontState with fhSent := t.fhSent, fhQueue := t.fhQueue } ∧ RegsExcept [] s t ∧ Frame [.front, .tallies] s t)) ∧
  (∀ (s : State) (k : Fin 32) (q prio : Nat) (l : List Nat) (m : TxMsg) (r : List TxMsg),
   subPortExists k s = true ∧ linkUp k s = true →
   queueMsgs (queueKey k 15) s = [] →
   prio < 8 ∧ activeOf k prio s = q :: l →
   q < 15 →
   (∀ j ∈ List.range 8, prio < j → activeOf k j s = []) →
   shaperAllows (queueKey k q) s = true →
   queueMsgs (queueKey k q) s = m :: r →
   m.len ≤ look 0 (queueKey k q) s.fhDeficit + (if look 0 (k * 8 + prio) s.fhVisit ≠ q + 1 then getF (FH_Qq_CFG_QUANTUM (k / 8) (queueOf k q)) s * 64 else 0) →
   m.stamp = none →
   fitsWindow m s = true →
   r ≠ [] →
   Completes (.frameTransmit k) s (fun t =>
     t.fhSent = m :: s.fhSent ∧ queueMsgs (queueKey k q) t = r ∧ look 0 (k * 8 + prio) t.fhVisit = q + 1 ∧ activeOf k prio t = q :: l ∧
     look 0 (queueKey k q) t.fhDeficit =
       look 0 (queueKey k q) s.fhDeficit + (if look 0 (k * 8 + prio) s.fhVisit ≠ q + 1 then getF (FH_Qq_CFG_QUANTUM (k / 8) (queueOf k q)) s * 64 else 0) - m.len ∧
     tokensOf (queueKey k q) t = tokensOf (queueKey k q) s - (if (shapeOf (queueKey k q) s).1 = 0 then 0 else ((m.len + 20) * 125 : Nat)) ∧
     RegsExcept [] s t ∧ Frame [.front, .tallies] s t)) ∧
  (∀ (s : State) (k : Fin 32) (q prio : Nat) (l : List Nat) (m : TxMsg) (r : List TxMsg),
   subPortExists k s = true ∧ linkUp k s = true →
   queueMsgs (queueKey k 15) s = [] →
   prio < 8 ∧ activeOf k prio s = q :: l →
   q < 15 →
   (∀ j ∈ List.range 8, prio < j → activeOf k j s = []) →
   shaperAllows (queueKey k q) s = true →
   queueMsgs (queueKey k q) s = m :: r →
   m.len ≤ look 0 (queueKey k q) s.fhDeficit →
   m.lport = k.val →
   fitsWindow m s = false →
   Completes (.frameTransmit k) s (fun t =>
     t.fhSent = s.fhSent ∧ queueMsgs (queueKey k q) t = r ∧ counted (8 + k / 8) (FH_Ss_TX_MISS_COUNT (k / 8) (k % 8)) s t ∧ flagF (FH_STAT_TX_MISS (k / 8)) t = true ∧
     tokensOf (queueKey k q) t = tokensOf (queueKey k q) s)) ∧
  (∀ (s : State) (k : Fin 32),
   (∀ q ∈ List.range 15, ∀ m ∈ queueMsgs (queueKey k q) s, m.lport = k.val) →
   Completes (.txDeadlineMiss k) s (fun t =>
     (∀ q ∈ List.range 15, queueMsgs (queueKey k q) t = (queueMsgs (queueKey k q) s).filter (fun m => !decide (m.deadline ≤ counter m.td s))) ∧
     ((List.range 15).any (fun q => (queueMsgs (queueKey k q) s).any (fun m => decide (m.deadline ≤ counter m.td s))) = true → flagF (FH_STAT_TX_MISS (k / 8)) t = true) ∧
     queueMsgs (queueKey k 15) t = queueMsgs (queueKey k 15) s ∧ t.fhSent = s.fhSent ∧ t.fhWheel = s.fhWheel ∧
     RegsExcept (FH_STAT_TX_MISS (k / 8) :: vecRegs) s t ∧ Frame [.front, .radio, .tallies, .bus] s t)) ∧
  (∀ (s : State) (k : Fin 32) (m : TxMsg),
   subPortExists k s = true →
   Completes (.ptpTransmit k m) s (fun t =>
     queueMsgs (queueKey k 15) t = queueMsgs (queueKey k 15) s ++ [{ m with lport := k }] ∧ t.toFrontState = { s.toFrontState with fhQueue := t.fhQueue } ∧
     RegsExcept [] s t ∧ Frame [.front] s t))

/-- In HUNT a Frame Word that matches takes a stream to PRE-SYNC at the start of a frame and latches the RSSI; in SYNC the samples of an on-time
message pass the gain and the filter and are written to the slot buffer with the gain in force, and the sample count advances. At a symbol boundary a
stream whose power has risen by more than DET dB freezes its gain, a frozen one keeps it, and a tracking one moves it towards TARGET by no more than
STEP; the HOLD count's expiry ends the freeze; a frame start puts the chosen coefficient bank in force. Which gain the AGC takes within R131's bounds
is a free value (log entry 18), and which stream serves a flow is the model's choice (log entry 10). -/
def Obligations.DirectIq : Prop :=
  (∀ (s : State) (m : DiqMsg) (f a p : Nat) (x : Cell),
   p = m.lport / 8 ∧ a = diqStream 4 m.eaxc →
   subPortExists m.lport s = true →
   ingressFlow m.lport m.eaxc s = some f ∧ getF (FH_Ff_MAP_KIND p f) s = 2 →
   lookup (getF (FH_Ff_MAP_CELL p f) s) s.cells = some x →
   m.fcsBad = false →
   flagF (FH_DIQa_CFG_EN p a) s = true →
   getF (FH_DIQa_STAT_ALIGN p a) s = 0 →
   fawMatch p a m.frameWord s = true →
   m.samples.length < frameSamples p a s →
   Completes (.diqIngress m) s (fun t =>
     getF (FH_DIQa_STAT_ALIGN p a) t = 1 ∧ (diqOf p a t).cnt = m.samples.length ∧ (diqOf p a t).confirm = 0 ∧
     (diqOf p a t).last256 = ((m.samples.map powerOf).reverse ++ (diqOf p a s).last256).take 256 ∧
     getF (FH_DIQa_RSSI_FAW p a) t = rssiNow p a s % 2 ^ (FH_DIQa_RSSI_FAW p a).width ∧
     getF (FH_DIQa_RSSI_FAW_SEQ p a) t = (getF (FH_DIQa_RSSI_FAW_SEQ p a) s + 1) % 2 ^ (FH_DIQa_RSSI_FAW_SEQ p a).width ∧
     t.toFrontState = { s.toFrontState with diq := t.diq } ∧
     RegsExcept [FH_DIQa_STAT_ALIGN p a, FH_DIQa_RSSI_FAW p a, FH_DIQa_RSSI_FAW_SEQ p a] s t ∧ Frame [.front] s t)) ∧
  (∀ (s : State) (m : DiqMsg) (f a p t0 : Nat) (x : Cell),
   p = m.lport / 8 ∧ a = diqStream 4 m.eaxc →
   subPortExists m.lport s = true →
   ingressFlow m.lport m.eaxc s = some f ∧ getF (FH_Ff_MAP_KIND p f) s = 2 →
   lookup (getF (FH_Ff_MAP_CELL p f) s) s.cells = some x →
   m.fcsBad = false →
   flagF (FH_DIQa_CFG_EN p a) s = true →
   getF (FH_DIQa_STAT_ALIGN p a) s = 2 ∧ (diqOf p a s).cnt ≠ 0 →
   fawMatch p a m.frameWord s = false →
   t0 = (diqOf p a s).frame * Config.frameTc + (diqOf p a s).cnt * 64 / 2 ^ getF (FH_DIQa_CFG_FS p a) s →
   classify p (getF (FH_Ff_MAP_WP p f) s) (rxStamp (cfgTd x.cfg) m.lport s) t0 s = .ontime →
   getF (FH_Ff_RATE_PIR p f) s = 0 →
   (diqOf p a s).cnt + m.samples.length < frameSamples p a s →
   Completes (.diqIngress m) s (fun t =>
     t.slotBuf = ⟨getF (FH_Ff_MAP_CELL p f) s, getF (FH_Ff_MAP_STREAM p f) s, t0, (diqOf p a s).cnt,
       (firRun (coefs p a s) (flagF (FH_DIQa_CFG_RATE2 p a) s) (diqOf p a s).cnt (diqOf p a s).line
         (m.samples.map (fun x => (applyGain (getF (FH_DIQa_STAT_GAIN p a) s) x.1, applyGain (getF (FH_DIQa_STAT_GAIN p a) s) x.2)))).1,
       getF (FH_DIQa_STAT_GAIN p a) s⟩ :: s.slotBuf ∧
     (diqOf p a t).cnt = (diqOf p a s).cnt + m.samples.length ∧ (diqOf p a t).symPow = (diqOf p a s).symPow + (m.samples.map powerOf).sum ∧
     (diqOf p a t).symCnt = (diqOf p a s).symCnt + m.samples.length ∧ counted (8 + m.lport / 8) (FH_Ss_RX_ONTIME_COUNT (m.lport / 8) (m.lport % 8)) s t ∧
     RegsExcept [] s t ∧ Frame [.front, .tallies] s t)) ∧
  (∀ (s : State) (p : Fin 4) (a : Fin 32) (x : Cell) (q : Nat),
   streamCell p a s = some x →
   flagF (FH_DIQa_CFG_EN p a) s = true ∧ getF (FH_DIQa_STAT_ALIGN p a) s = 2 →
   (diqOf p a s).symCnt ≠ 0 →
   (diqOf p a s).prevPow = some q →
   q ^ 20 * 10 ^ getF (FH_DIQa_AGC_DET p a) s < ((diqOf p a s).symPow / (diqOf p a s).symCnt) ^ 20 →
   Completes (.agcSymbolBoundary p a) s (fun t =>
     getF (FH_DIQa_STAT_FROZEN p a) t = 1 ∧ getF (FH_DIQa_STAT_GAIN p a) t = getF (FH_DIQa_STAT_GAIN p a) s ∧
     diqOf p a t = { diqOf p a s with
       symPow := 0, symCnt := 0, prevPow := some ((diqOf p a s).symPow / (diqOf p a s).symCnt),
       holdUntil := counter (cfgTd x.cfg) s + usToTc (slotUs (cfgMu x.cfg) * getF (FH_DIQa_AGC_HOLD p a) s) } ∧
     t.toFrontState = { s.toFrontState with diq := t.diq } ∧ RegsExcept [FH_DIQa_STAT_FROZEN p a] s t ∧ Frame [.front] s t)) ∧
  (∀ (s : State) (p : Fin 4) (a : Fin 32) (x : Cell),
   streamCell p a s = some x →
   flagF (FH_DIQa_CFG_EN p a) s = true ∧ getF (FH_DIQa_STAT_ALIGN p a) s = 2 →
   (diqOf p a s).symCnt ≠ 0 →
   (diqOf p a s).prevPow = none →
   Completes (.agcSymbolBoundary p a) s (fun t =>
     diqOf p a t = { diqOf p a s with symPow := 0, symCnt := 0, prevPow := some ((diqOf p a s).symPow / (diqOf p a s).symCnt) } ∧
     (flagF (FH_DIQa_STAT_FROZEN p a) s = true → getF (FH_DIQa_STAT_GAIN p a) t = getF (FH_DIQa_STAT_GAIN p a) s) ∧
     (flagF (FH_DIQa_STAT_FROZEN p a) s = false ∧ getF (FH_DIQa_STAT_GAIN p a) s < 2 ^ 16 →
       (if belowTarget ((diqOf p a s).symPow / (diqOf p a s).symCnt) (getF (FH_DIQa_STAT_GAIN p a) s) (getF (FH_DIQa_AGC_TARGET p a) s) = true then
         getF (FH_DIQa_STAT_GAIN p a) s ≤ getF (FH_DIQa_STAT_GAIN p a) t ∧
           getF (FH_DIQa_STAT_GAIN p a) t ^ 40 ≤ getF (FH_DIQa_STAT_GAIN p a) s ^ 40 * 10 ^ getF (FH_DIQa_AGC_STEP p a) s
       else getF (FH_DIQa_STAT_GAIN p a) t ≤ getF (FH_DIQa_STAT_GAIN p a) s ∧
         getF (FH_DIQa_STAT_GAIN p a) s ^ 40 ≤ getF (FH_DIQa_STAT_GAIN p a) t ^ 40 * 10 ^ getF (FH_DIQa_AGC_STEP p a) s)) ∧
     getF (FH_DIQa_STAT_FROZEN p a) t = getF (FH_DIQa_STAT_FROZEN p a) s ∧
     t.toFrontState = { s.toFrontState with diq := t.diq } ∧ RegsExcept [FH_DIQa_STAT_GAIN p a] s t ∧ Frame [.front, .draws] s t)) ∧
  (∀ (s : State) (p : Fin 4) (a : Fin 32) (x : Cell),
   streamCell p a s = some x →
   flagF (FH_DIQa_STAT_FROZEN p a) s = true →
   (diqOf p a s).holdUntil ≤ counter (cfgTd x.cfg) s →
   Completes (.agcHoldExpiry p a) s (fun t => getF (FH_DIQa_STAT_FROZEN p a) t = 0 ∧ RegsExcept [FH_DIQa_STAT_FROZEN p a] s t ∧ Frame [] s t)) ∧
  (∀ (s : State) (p : Fin 4) (a : Fin 64),
   Completes (.diqBankSwitch p a) s (fun t =>
     diqOf p a t = { diqOf p a s with bank := getF (FH_DIQa_CFG_BANK p a) s } ∧ t.toFrontState = { s.toFrontState with diq := t.diq } ∧ RegsExcept [] s t ∧ Frame [.front] s t))

namespace Sys2Proof

/-- Core n runs invocation r without a fault, and nothing is wrong with its memory. -/
def scRuns (n : Nat) (r : Invocation) (s : State) : Prop := (sigOf n s).run = some r ∧ r.fault = none ∧ issues s = true ∧ injected 4 n 0 s = false

/-- Only Signal Core n differs, and it is c. -/
def OnlyCore (n : Nat) (c : SigCore) (s t : State) : Prop :=
  t.toFaultState = { s.toFaultState with sigCore := put n (some c) s.sigCore } ∧ RegsExcept [] s t ∧ Frame [.fault] s t

/-- The core after a bundle that neither branches nor writes anything but what c holds. -/
def nextBundle (c0 c : SigCore) : SigCore := { c with pc := c0.pend.getD (c0.pc + 1), pend := none }

/-- The core's status with SAT set when some element had to be clamped. -/
def ssrSat (sat : Int → Int) (l : List (Int × Int)) (c : SigCore) : Nat :=
  if l.any (fun v => decide (sat v.1 ≠ v.1) || decide (sat v.2 ≠ v.2)) then setBit 0 c.ssr else c.ssr

/-- Lane by lane, a function of two registers. -/
def lanes2 (f : Int × Int → Int × Int → Int × Int) (a b : List (Int × Int)) : List (Int × Int) :=
  (List.range 32).map (fun l => f (a.getD l (0, 0)) (b.getD l (0, 0)))

end Sys2Proof

/-- A bundle reads the registers before it and then writes: a vector add or subtract saturates every lane to 16 bits and sets SAT where one is
clamped; CMAC adds the exact complex products to the 40-bit accumulator in the lanes of its predicate; a vector load through an address register in
linear mode takes 32 elements and post-increments the register; a vector store puts 32 elements into memory; VEXT shifts with rounding and saturates;
a taken branch waits for one delay bundle. A bundle that is not legal, an address outside the memory and a circular buffer that breaks its rules stop
the invocation with their fault cause. Registers that the spec gives no reset value read zero at reset (log entry 19). -/
def Obligations.SignalBundles : Prop :=
  (∀ (s : State) (n : Fin 64) (r : Invocation) (c : SigCore) (sub : Bool) (d a b : Nat) (l : List (Int × Int)),
   scRuns n r s →
   c = sigOf n s →
   l = lanes2 (fun x y => if sub then (x.1 - y.1, x.2 - y.2) else (x.1 + y.1, x.2 + y.2)) (xReg c a) (xReg c b) →
   Completes (.bundleIssue n ⟨.nop, .nop, .nop, .vadd sub d a b, .nop⟩ 0) s (fun t =>
     OnlyCore n (nextBundle c { c with x := put d (some (l.map (fun v => (sat16 v.1, sat16 v.2)))) c.x, ssr := ssrSat sat16 l c }) s t)) ∧
  (∀ (s : State) (n : Fin 64) (r : Invocation) (c : SigCore) (cj : Bool) (d a b p : Nat) (l : List (Int × Int)),
   scRuns n r s →
   c = sigOf n s →
   l = (List.range 32).map (fun i =>
     let y := if cj then (((xReg c b).getD i (0, 0)).1, -((xReg c b).getD i (0, 0)).2) else (xReg c b).getD i (0, 0);
     let x := (xReg c a).getD i (0, 0);
     let z := (accReg c d).getD i (0, 0);
     if bitAt i (prReg c p) then (z.1 + (x.1 * y.1 - x.2 * y.2), z.2 + (x.1 * y.2 + x.2 * y.1)) else z) →
   Completes (.bundleIssue n ⟨.nop, .nop, .cmac cj d a b p, .nop, .nop⟩ 0) s (fun t =>
     OnlyCore n (nextBundle c { c with acc := put d (some (l.map (fun v => (sat40 v.1, sat40 v.2)))) c.acc, ssr := ssrSat sat40 l c }) s t)) ∧
  (∀ (s : State) (n : Fin 64) (r : Invocation) (c : SigCore) (d a i : Nat),
   scRuns n r s →
   c = sigOf n s →
   look 0 a c.amode = 0 →
   look 0 a c.ad + 128 ≤ 524288 →
   i < 32 →
   Completes (.bundleIssue n ⟨.ldx d a, .nop, .nop, .nop, .nop⟩ 0) s (fun t =>
     (xReg (sigOf n t) d)[i]? = some (bitsInt 16 (leNat (readBytes c.mem (look 0 a c.ad + 4 * i) 4)), bitsInt 16 (leNat (readBytes c.mem (look 0 a c.ad + 4 * i) 4) / 65536)) ∧
     look 0 a (sigOf n t).ad = intBits 20 (((look 0 a c.ad : Nat) : Int) + bitsInt 20 (look 0 a c.md)) ∧
     sigOf n t = nextBundle c { c with x := (sigOf n t).x, ad := (sigOf n t).ad } ∧ (∀ k ∈ c.x.map Prod.fst, k ≠ d → xReg (sigOf n t) k = xReg c k) ∧
     t.toFaultState = { s.toFaultState with sigCore := t.sigCore } ∧ RegsExcept [] s t ∧ Frame [.fault] s t)) ∧
  (∀ (s : State) (n : Fin 64) (r : Invocation) (c : SigCore) (x a : Nat),
   scRuns n r s →
   c = sigOf n s →
   look 0 a c.amode = 0 →
   look 0 a c.ad + 128 ≤ 524288 →
   (xReg c x).length = 32 →
   Completes (.bundleIssue n ⟨.nop, .stx x a, .nop, .nop, .nop⟩ 0) s (fun t =>
     readBytes (sigOf n t).mem (look 0 a c.ad) 128 = (xReg c x).flatMap (fun v => natLE 2 (intBits 16 v.1) ++ natLE 2 (intBits 16 v.2)) ∧
     SameOutside (look 0 a c.ad) 128 c.mem (sigOf n t).mem ∧ sigOf n t = nextBundle c { c with mem := (sigOf n t).mem, ad := (sigOf n t).ad } ∧
     t.toFaultState = { s.toFaultState with sigCore := t.sigCore } ∧ RegsExcept [] s t ∧ Frame [.fault] s t)) ∧
  (∀ (s : State) (n : Fin 64) (r : Invocation) (c : SigCore) (d x k : Nat) (l : List (Int × Int)),
   scRuns n r s →
   c = sigOf n s →
   l = (accReg c d).map (fun v => if k = 0 then v else ((v.1 + 2 ^ (k - 1)) / (2 ^ k : Int), (v.2 + 2 ^ (k - 1)) / (2 ^ k : Int))) →
   Completes (.bundleIssue n ⟨.nop, .nop, .nop, .vext d x k, .nop⟩ 0) s (fun t =>
     OnlyCore n (nextBundle c { c with x := put x (some (l.map (fun v => (sat16 v.1, sat16 v.2)))) c.x, ssr := ssrSat sat16 l c }) s t)) ∧
  (∀ (s : State) (n : Fin 64) (r : Invocation) (c : SigCore) (g : Nat),
   scRuns n r s →
   c = sigOf n s →
   Completes (.bundleIssue n ⟨.nop, .nop, .nop, .nop, .branch g⟩ 0) s (fun t => OnlyCore n { c with pc := c.pend.getD (c.pc + 1), pend := some g } s t)) ∧
  (∀ (s : State) (n : Fin 64) (r : Invocation) (b : ScBundle) (f : Nat),
   scRuns n r s →
   bundleDo (sigOf n s) b = .inl f →
   r.retry = false →
   look 0 (scPhys n s) s.sigFaults = 0 →
   Completes (.bundleIssue n b 0) s (fun t =>
     sigOf n t = { sigOf n s with run := some { r with fault := some f, stores := [] } } ∧
     getF (SIG_Cn_FAULT_CAUSE n) t = f % 2 ^ (SIG_Cn_FAULT_CAUSE n).width ∧ getF (SIG_Cn_FAULT_VALID n) t = 1 ∧
     getF (SIG_Cn_FAULT_KERNEL n) t = r.kernel % 2 ^ (SIG_Cn_FAULT_KERNEL n).width ∧ getF (SIG_Cn_FAULT_PC n) t = (sigOf n s).pc % 2 ^ (SIG_Cn_FAULT_PC n).width ∧
     getF (SIG_Cn_INFO_STATE n) t = 0 ∧ flagF SIG_STAT_FAULT t = true ∧ t.jobs = s.jobs ∧
     RegsExcept ([SIG_Cn_FAULT_CAUSE n, SIG_Cn_FAULT_VALID n, SIG_Cn_FAULT_KERNEL n, SIG_Cn_FAULT_PC n, SIG_Cn_INFO_KERNEL n, SIG_Cn_INFO_STATE n, SIG_STAT_FAULT] ++ vecRegs) s t ∧
     Frame [.fault, .tallies, .bus] s t))

/-- A kernel is placed on an idle Signal Core in service with a budget of twice its worst-case cycles and SSR cleared; an invocation that has run for
its budget, a first run or a retry, raises fault cause 6, and none does before. -/
def Obligations.KernelBudgets : Prop :=
  (∀ (s : State) (n : Fin 64) (k : Nat) (c : Fin 512) (slot : Nat) (x : Cell),
   lookup c.val s.cells = some x →
   k ∈ kernelIds →
   sigFree n s = true ∧ issues s = true →
   Completes (.kernelInvoke n k c slot) s (fun t =>
     sigOf n t = { sigOf n s with ssr := 0, pc := 0, pend := none, run := some ⟨k, c, slot, 2 * kernelCycles k x.cfg s, s.now, false, none, []⟩ } ∧
     getF (SIG_Cn_INFO_STATE n) t = 1 ∧ getF (SIG_Cn_INFO_KERNEL n) t = k % 2 ^ (SIG_Cn_INFO_KERNEL n).width ∧
     t.toFaultState = { s.toFaultState with sigCore := t.sigCore } ∧ RegsExcept [SIG_Cn_INFO_STATE n, SIG_Cn_INFO_KERNEL n] s t ∧ Frame [.fault] s t)) ∧
  (∀ (s : State) (n : Fin 64) (k : Nat) (c : Fin 512) (slot : Nat),
   lookup c.val s.cells = none ∨ k ∉ kernelIds ∨ sigFree n s = false ∨ issues s = false →
   NoEffect (.kernelInvoke n k c slot) s) ∧
  (∀ (s : State) (n : Fin 64) (r : Invocation),
   (sigOf n s).run = some r →
   r.fault = none →
   (r.budget ≤ (s.now - r.start) / 1536 → Completes (.cycleBudgetSpent n) s (fun t =>
       getF (SIG_Cn_FAULT_CAUSE n) t = 6 ∧ getF (SIG_Cn_FAULT_VALID n) t = 1 ∧ getF (SIG_Cn_FAULT_KERNEL n) t = r.kernel % 2 ^ (SIG_Cn_FAULT_KERNEL n).width ∧
       getF (SIG_Cn_INFO_STATE n) t = 0 ∧ flagF SIG_STAT_FAULT t = true ∧ ((sigOf n t).run.all (fun q => decide (q.fault = some 6))) = true)) ∧
     ((s.now - r.start) / 1536 < r.budget → NoEffect (.cycleBudgetSpent n) s)) ∧
  (∀ (s : State) (n : Fin 64) (r : Invocation),
   (sigOf n s).run = some r →
   r.fault = none ∧ r.retry = false ∧ r.budget ≤ (s.now - r.start) / 1536 →
   look 0 (scPhys n s) s.sigFaults = 0 →
   Completes (.cycleBudgetSpent n) s (fun t =>
     sigOf n t = { sigOf n s with run := some { r with fault := some 6, stores := [] } } ∧ look 0 (scPhys n s) t.sigFaults = 1 ∧
     RegsExcept ([SIG_Cn_FAULT_CAUSE n, SIG_Cn_FAULT_VALID n, SIG_Cn_FAULT_KERNEL n, SIG_Cn_FAULT_PC n, SIG_Cn_INFO_KERNEL n, SIG_Cn_INFO_STATE n, SIG_STAT_FAULT] ++ vecRegs) s t ∧
     Frame [.fault, .tallies, .bus] s t))

/-- At a kernel's end its stores reach the radio carve and its report the job of its slot, the core is idle, and an FFT's output is kept with its
exponent; SAT after an FFT is a fault; a faulted invocation runs once more on another core; a DMA transfer to the core lands at once, one from the
core is kept until the invocation ends; the spare of the core's die takes the number of a Suspect core, and without a spare the number leaves service.
-/
def Obligations.SignalKernels : Prop :=
  (∀ (s : State) (n : Fin 64) (r : Invocation) (k : KernelResult) (j : Job),
   (sigOf n s).run = some r →
   r.fault = none ∧ issues s = true →
   bitAt 0 (sigOf n s).ssr = false →
   r.kernel < 0x10 →
   r.kernel ≠ 5 →
   s.jobs = [j] ∧ j.cell = r.cell ∧ j.slot = r.slot ∧ j.ul = true →
   Completes (.kernelComplete n k) s (fun t =>
     sigOf n t = { sigOf n s with run := none } ∧ t.radioMem = r.stores.foldl (fun m w => writeBytes w.1 w.2 m) s.radioMem ∧ t.jobs = [jobReport r false k j] ∧
     getF (SIG_Cn_INFO_STATE n) t = 0 ∧ getF (SIG_Cn_INFO_KERNEL n) t = 0 ∧ counted 4 (SIG_Cn_RUNS_COUNT n) s t ∧
     t.toFaultState = { s.toFaultState with sigCore := t.sigCore, radioMem := t.radioMem } ∧
     t.toRadioState = { s.toRadioState with jobs := t.jobs, tallyRem := t.tallyRem } ∧
     RegsExcept [SIG_Cn_INFO_STATE n, SIG_Cn_INFO_KERNEL n] s t ∧ Frame [.fault, .radio, .tallies] s t)) ∧
  (∀ (s : State) (n : Fin 64) (r : Invocation) (k : KernelResult) (st sy e : Nat) (l : List (Int × Int)),
   (sigOf n s).run = some r →
   r.fault = none ∧ issues s = true →
   bitAt 0 (sigOf n s).ssr = false →
   0x10 ≤ r.kernel →
   k.fft = some (st, sy, e, l) →
   Completes (.kernelComplete n k) s (fun t =>
     t.fftOut = ⟨r.cell, st, sy, e, if e ≤ 15 then l else l.map (shiftC (e - 15))⟩ :: s.fftOut ∧ (sigOf n t).run = none ∧ getF (SIG_Cn_INFO_STATE n) t = 0 ∧
     counted 4 (SIG_Cn_RUNS_COUNT n) s t ∧ RegsExcept [SIG_Cn_INFO_STATE n, SIG_Cn_INFO_KERNEL n] s t ∧ Frame [.fault, .radio, .tallies] s t)) ∧
  (∀ (s : State) (n : Fin 64) (r : Invocation) (k : KernelResult) (c : Instr) (f : Nat),
   c = .kernelComplete n k ∧ issues s = true ∧ bitAt 0 (sigOf n s).ssr = true ∧ 0x10 ≤ r.kernel ∧ f = 7 →
   (sigOf n s).run = some r →
   r.fault = none →
   r.retry = false →
   look 0 (scPhys n s) s.sigFaults = 0 →
   Completes c s (fun t =>
     sigOf n t = { sigOf n s with run := some { r with fault := some f, stores := [] } } ∧ getF (SIG_Cn_FAULT_CAUSE n) t = f ∧ getF (SIG_Cn_FAULT_VALID n) t = 1 ∧
     getF (SIG_Cn_INFO_STATE n) t = 0 ∧ flagF SIG_STAT_FAULT t = true ∧ look 0 (scPhys n s) t.sigFaults = 1 ∧
     RegsExcept ([SIG_Cn_FAULT_CAUSE n, SIG_Cn_FAULT_VALID n, SIG_Cn_FAULT_KERNEL n, SIG_Cn_FAULT_PC n, SIG_Cn_INFO_KERNEL n, SIG_Cn_INFO_STATE n, SIG_STAT_FAULT] ++ vecRegs) s t ∧
     Frame [.fault, .tallies, .bus] s t)) ∧
  (∀ (s : State) (n : Fin 64) (r : Invocation) (j : Job),
   (sigOf n s).run = some r →
   r.fault = none ∧ r.budget ≤ (s.now - r.start) / 1536 →
   r.retry = true →
   look 0 (scPhys n s) s.sigFaults = 1 →
   scSuspect (scPhys n s) s = false →
   s.jobs = [j] ∧ j.cell = r.cell ∧ j.slot = r.slot ∧ j.ul = decide (r.kernel ≠ 0x11) →
   Completes (.cycleBudgetSpent n) s (fun t =>
     (sigOf n t).run = none ∧ t.jobs = [{ j with res := j.res.map (fun a => if a.done then a else { a with status := 1, done := true, cause := 0x26, retried := true, unit := ⟨n, scPhys n s, unitBand 2 (scPhys n s) s, s.injecting⟩ }) }] ∧
     scSuspect (scPhys n s) t = true ∧ flagF FLT_STAT_SUSPECT t = true ∧
     Noted [injectedIf s.injecting (unitEvent 2 2 0x26 n (scPhys n s) 0xFFFF 0 2 (unitBand 2 (scPhys n s) s) s)] s t)) ∧
  (∀ (s : State) (n m : Fin 64) (r : Invocation),
   (sigOf n s).run = some r →
   r.fault.isSome = true →
   m ≠ n →
   sigFree m s = true →
   Completes (.kernelRetry n m) s (fun t =>
     (sigOf n t).run = none ∧ (sigOf m t).run = some { r with retry := true, start := s.now, fault := none, stores := [] } ∧ (sigOf m t).ssr = 0 ∧ (sigOf m t).pc = 0 ∧
     getF (SIG_Cn_INFO_STATE m) t = 1 ∧ getF (SIG_Cn_INFO_KERNEL m) t = r.kernel % 2 ^ (SIG_Cn_INFO_KERNEL m).width ∧
     t.toFaultState = { s.toFaultState with sigCore := t.sigCore } ∧ RegsExcept [SIG_Cn_INFO_STATE m, SIG_Cn_INFO_KERNEL m] s t ∧ Frame [.fault] s t)) ∧
  (∀ (s : State) (n : Fin 64) (a b len : Nat) (r : Invocation),
   (sigOf n s).run = some r →
   r.fault = none →
   a + len ≤ 524288 →
   Completes (.scDmaDone n true a b len) s (fun t =>
     readBytes (sigOf n t).mem a len = readBytes s.radioMem b len ∧ SameOutside a len (sigOf n s).mem (sigOf n t).mem ∧
     sigOf n t = { sigOf n s with mem := (sigOf n t).mem } ∧ t.toFaultState = { s.toFaultState with sigCore := t.sigCore } ∧ RegsExcept [] s t ∧ Frame [.fault] s t)) ∧
  (∀ (s : State) (n : Fin 64) (a b len : Nat) (r : Invocation),
   (sigOf n s).run = some r →
   r.fault = none →
   a + len ≤ 524288 →
   Completes (.scDmaDone n false a b len) s (fun t =>
     OnlyCore n { sigOf n s with run := some { r with stores := r.stores ++ [(b, readBytes (sigOf n s).mem a len)] } } s t)) ∧
  (∀ (s : State) (n : Fin 64) (p : Nat),
   sigIn n s = true →
   scSuspect (scPhys n s) s = true →
   spareWaits 2 n s = false →
   (sigOf n s).run = none →
   scPhys n s ∉ s.scRetired →
   chooseSpare 9 (scPhys n s / 9) (scSpares s) = some p →
   Completes (.signalCoreSpareIn n) s (fun t =>
     getF (SIG_Cn_INFO_PHYS n) t = p % 2 ^ (SIG_Cn_INFO_PHYS n).width ∧ getF (SIG_Cn_INFO_DIE n) t = p / 9 % 2 ^ (SIG_Cn_INFO_DIE n).width ∧
     scPhys n s ∈ t.scRetired ∧ sigOf n t = SigCore.reset ∧
     getF SIG_STAT_SPARES t = getF SIG_STAT_SPARES s - 1 ∧ getF FLT_SPARE_SC t = getF FLT_SPARE_SC s - 1 ∧ flagF SIG_STAT_RETIRED t = true ∧ flagF FLT_STAT_SPARED t = true ∧
     Noted (sparedNotes s.injecting 2 (look 0 (2 * 2 ^ 16 + scPhys n s) s.unitCause % 256) n (scPhys n s) p (look 0 (2 * 2 ^ 16 + scPhys n s) s.unitCause / 256) s) s t ∧
     RegsExcept ([SIG_Cn_INFO_PHYS n, SIG_Cn_INFO_DIE n, SIG_STAT_SPARES, FLT_SPARE_SC, SIG_STAT_RETIRED, FLT_STAT_SPARED] ++ noteRegs 0) s t ∧
     Frame [.fault, .radio, .power, .tallies, .bus] s t)) ∧
  (∀ (s : State) (n : Fin 64),
   sigIn n s = true →
   scSuspect (scPhys n s) s = true →
   spareWaits 2 n s = false →
   (sigOf n s).run = none →
   scPhys n s ∉ s.scRetired →
   scSpares s = [] →
   Completes (.signalCoreSpareIn n) s (fun t =>
     sigIn n t = false ∧ scPhys n s ∈ t.scRetired ∧ getF SIG_STAT_ACTIVE t = getF SIG_STAT_ACTIVE s - 1 ∧ getF ESC_CAP_SC_CAP t = capAt (dutyPct t) 1 t % 2 ^ ESC_CAP_SC_CAP.width ∧
     flagF SIG_STAT_RETIRED t = true ∧ flagF FLT_STAT_NO_SPARE t = true ∧ flagF ESC_STAT_CAP_CHANGED t = true)) ∧
  (∀ (s : State) (n : Fin 64) (p : Pkt),
   sigIn n s = true →
   s.spareCmd = [(2, n.val, p.id)] →
   s.accepted.find? (fun q => decide (q.id = p.id)) = some p →
   (sigOf n s).run = none →
   scPhys n s ∉ s.scRetired →
   Completes (.signalCoreSpareIn n) s (fun t => scPhys n s ∈ t.scRetired ∧ t.spareCmd = [] ∧ Ended p stOK 0 t))

namespace Sys2Proof

/-- The Unified Range address of row i of a transfer. -/
def rowAddr (ua : Nat) (stride : Int) (i : Nat) : Nat := ((ua : Int) + (i : Int) * stride).toNat

/-- The rows of a transfer, each one transaction that no regulator holds. -/
def rowsWhole (ua rows len : Nat) (stride : Int) (s : State) : Prop :=
  0 < rows ∧ rows ≤ 192 ∧ 64 ≤ len ∧ len ≤ 512 ∧ (∀ i ∈ List.range rows, rowAddr ua stride i % 4096 + len ≤ 4096 ∧ regulFor (rowAddr ua stride i) s = none)

/-- Registers GA, GB and GC of engine e hold the addresses, the row count and the row length of a transfer. -/
def xferRegs (g : Engine) (w ua sa rows len : Nat) : Prop :=
  gReg g (insA w) = ua ∧ gReg g (insB w) = sa ∧ gReg g (insC w) / 2 ^ 32 % 2 ^ 16 = rows ∧ gReg g (insC w) % 2 ^ 32 = len

/-- Addresses, length and stride are multiples of 64 bytes (R226). -/
def xferAligned (ua sa len : Nat) (stride : Int) : Prop := ua % 64 = 0 ∧ sa % 64 = 0 ∧ len % 64 = 0 ∧ stride % 64 = 0

/-- The partition of context c. -/
def ctxPart (c : Nat) (s : State) : Nat := ((ctxOf c s).map (fun y => y.part)).getD 0

end Sys2Proof

/-- An aligned LDT or STT whose rows lie in its set's area and in the partition's objects issues one transaction for each row of at most 512 bytes
that stays within 4 KiB, a store with its bytes from Core Scratch, which enter the digest; a misaligned one is fault cause 1, one outside the area
cause 2 and one outside the partition's objects cause 6. XWAIT goes on when its mode's transfers are done and waits otherwise. A load that completes
writes the bytes of the Unified Range to Core Scratch, a store writes its bytes to the Unified Range, and the transaction leaves its tracker; a
poisoned load takes the tile off the core. -/
def Obligations.Transfers : Prop :=
  (∀ (s : State) (n w ua sa rows len : Nat) (x : EngSet),
   Issues n 0 w x s →
   insOp w = 0x28 →
   xferRegs x.ld w ua sa rows len →
   xferAligned ua sa len (insImm w) →
   rowsWhole ua rows len (insImm w) s →
   x.radio = none ∧ x.xfers = [] ∧ x.xacts = [] →
   inArea x sa (rows * len) = true →
   (∀ i ∈ List.range rows, 0 ≤ (ua : Int) + (i : Int) * insImm w ∧ rangeOk x.part false (rowAddr ua (insImm w) i) len s = true) →
   Completes (.ldt n) s (fun t =>
     OnlySet n { ranWord 0 x.ld x s with
       xfers := [⟨x.nextX, true, ua, sa, rows, len, insImm w, rows, 0⟩], nextX := x.nextX + 1,
       xacts := (List.range rows).map (fun i => ⟨x.nextX, true, rowAddr ua (insImm w) i, sa + i * len, len, [], s.now⟩) } s t)) ∧
  (∀ (s : State) (n w ua sa rows len : Nat) (x : EngSet),
   Issues n 3 w x s →
   insOp w = 0x29 →
   xferRegs x.sr w ua sa rows len →
   xferAligned ua sa len (insImm w) →
   rowsWhole ua rows len (insImm w) s →
   x.radio = none ∧ x.xfers = [] ∧ x.xacts = [] ∧ x.shadow = false →
   inArea x sa (rows * len) = true →
   (∀ i ∈ List.range rows, 0 ≤ (ua : Int) + (i : Int) * insImm w ∧ rangeOk x.part true (rowAddr ua (insImm w) i) len s = true) →
   Completes (.stt n) s (fun t =>
     OnlySet n { ranWord 3 x.sr x s with
       xfers := [⟨x.nextX, false, ua, sa, rows, len, insImm w, rows, 0⟩], nextX := x.nextX + 1,
       digest := (List.range rows).foldl (fun d i => d ^^^ chkFeed 1 (rowAddr ua (insImm w) i) (csRead n (sa + i * len) len s)) x.digest,
       xacts := (List.range rows).map (fun i => ⟨x.nextX, false, rowAddr ua (insImm w) i, sa + i * len, len, csRead n (sa + i * len) len s, s.now⟩) } s t)) ∧
  (∀ (s : State) (n e w ua sa rows len : Nat) (x : EngSet) (st : Step) (c : Instr),
   (c = .ldt n ∧ e = 0 ∧ insOp w = 0x28) ∨ (c = .stt n ∧ e = 3 ∧ insOp w = 0x29) →
   Issues n e w x s →
   xferRegs (engine x e) w ua sa rows len →
   x.radio = none →
   stepOf x.ctx s = some st →
   Completes c s (fun t =>
     (¬ xferAligned ua sa len (insImm w) ∨ rows = 0 ∨ len < 64 ∨ 1048576 < len → Faulted n 1 x t) ∧
     (xferAligned ua sa len (insImm w) ∧ 0 < rows ∧ 64 ≤ len ∧ len ≤ 1048576 →
       (inArea x sa (rows * len) = false → Faulted n 2 x t) ∧
       (inArea x sa (rows * len) = true ∧ rangeOk x.part (decide (e = 3)) ua len s = false → Faulted n 6 x t)))) ∧
  (∀ (s : State) (n : Nat) (e : Fin 4) (w : Nat) (x : EngSet),
   Issues n e w x s →
   insOp w = 0x2A →
   (insMode w = 0 ∨ (∀ f ∈ x.xfers, (f.load == decide (e.val = 0)) = false) → Completes (.xwait n e) s (fun t => OnlySet n (ranWord e (engine x e) x s) s t)) ∧
     (insMode w ≠ 0 ∧ (∃ f ∈ x.xfers, (f.load == decide (e.val = 0)) = true) → Completes (.xwait n e) s (fun t => OnlySet n (putEngine x e { engine x e with st := 3 }) s t))) ∧
  (∀ (s : State) (n i line stall : Nat) (x : EngSet) (u : Xact),
   engAt n s = some x →
   x.radio = none ∧ (∀ f ∈ x.xfers, issuing f = false) →
   x.xacts[i]? = some u →
   u.load = true →
   detPart x.part s = false →
   rangeOk x.part false u.ua u.len s = true →
   anyHeld u.ua u.len s = false ∧ anyPoison u.ua u.len s = false →
   Completes (.transactionComplete n i false line [] false stall) s (fun t =>
     csRead n u.sa u.len t = urRead u.ua u.len s ∧ SameOutside (n * 2 ^ 21 + u.sa) u.len s.scratch t.scratch ∧
     engAt n t = some { x with
       xacts := x.xacts.eraseIdx i, act := s.now,
       xfers := x.xfers.filter (fun f => (x.xacts.eraseIdx i).any (fun v => decide (v.xfer = f.id))) } ∧
     t.toMemState = { s.toMemState with scratch := t.scratch } ∧ RegsExcept (ctxShown (ctxPart x.ctx s)) s t ∧ Frame [.mem, .engine] s t)) ∧
  (∀ (s : State) (n i line stall : Nat) (x : EngSet) (u : Xact),
   engAt n s = some x →
   x.radio = none ∧ (∀ f ∈ x.xfers, issuing f = false) →
   x.xacts[i]? = some u →
   u.load = false ∧ u.data.length = u.len ∧ u.len ≤ 512 →
   u.ua % 64 = 0 ∧ u.len % 64 = 0 ∧ u.ua % 4096 + u.len ≤ 4096 →
   detPart x.part s = false →
   rangeOk x.part true u.ua u.len s = true →
   migOf (u.ua / 2 ^ 21) s = none ∧ s.chanCopy = [] ∧ entTier (bent (u.ua / 2 ^ 21) s) = 1 →
   objPoisoned u.ua s = false →
   olderStore x i u = false →
   Completes (.transactionComplete n i false line [] false stall) s (fun t =>
     readBytes t.mem (loadAddr u.ua s) u.len = u.data ∧ SameOutside (loadAddr u.ua s) u.len s.mem t.mem ∧
     (∀ k ∈ t.poison, k.1 < lineOf (loadAddr u.ua s) ∨ lineOf (loadAddr u.ua s) + u.len / 64 ≤ k.1) ∧
     engAt n t = some { x with
       xacts := x.xacts.eraseIdx i, act := s.now,
       xfers := x.xfers.filter (fun f => (x.xacts.eraseIdx i).any (fun v => decide (v.xfer = f.id))) } ∧
     t.scratch = s.scratch ∧ t.bmap = s.bmap ∧ t.objs = s.objs ∧ RegsExcept (ctxShown (ctxPart x.ctx s)) s t ∧ Frame [.mem, .engine] s t)) ∧
  (∀ (s : State) (n i line stall : Nat) (x : EngSet) (u : Xact) (st : Step),
   engAt n s = some x →
   x.radio = none ∧ x.fb = true →
   x.xacts[i]? = some u →
   u.load = true →
   detPart x.part s = false →
   rangeOk x.part false u.ua u.len s = true →
   anyHeld u.ua u.len s = false ∧ anyPoison u.ua u.len s = true →
   stepOf x.ctx s = some st →
   Completes (.transactionComplete n i false line [] false stall) s (fun t =>
     engAt n t = none ∧ t.scratch = s.scratch ∧ t.mem = s.mem ∧ (stepOf x.ctx t).map endsOf = some (endsOf st ++ [(x.tile, stPOISONED, 0x41, x.count)])))

/-- The next tile of a Lease's STEP starts on its core with its four engines at their entries, G1 the tile's number, G2 its parameter and every other
register zero; a radio tile starts in its open window; a tile that faulted for a hardware cause starts once more on another core. A tile whose engines
and work have ended is COMPLETE, or waits for its shadow run where the STEP asks for one; entries left in the Tile Queue are fault cause 1. A shadow
run that agrees with its primary ends the tile COMPLETE, and one that differs ends it FAILED, is recorded and charges both cores. -/
def Obligations.WorkTiles : Prop :=
  (∀ (s : State) (n cn : Nat) (c : Ctx) (st : Step) (a : Again) (h l : List Byte),
   freeLease n s = some (cn, c, st) →
   cascades st s = false →
   nextTile n cn c st s = some a →
   c.saved = [] ∧ a.fb = false →
   ctxOf cn s = some c →
   h = urRead st.image 64 s →
   l = tileEntry st.image st.tab a.tile s →
   Completes (.workTileStart n none) s (fun t =>
     engAt n t = some (freshSet cn c.part a.tile (fieldLE l 24 4) (fieldLE l 28 4) st.image (fieldLE h 20 4 + fieldLE h 24 4) (fieldLE h 8 4) (fieldLE h 32 2) (fieldLE h 28 4)
       (fieldLE l 16 8) ((List.range 4).map (fun e => fieldLE h 20 4 + fieldLE l (4 * e) 4)) a none s.now) ∧
     (∀ e ∈ List.range 4, (engAt n t).map (fun x => ((engine x e).pc, (engine x e).st, gReg (engine x e) 1, gReg (engine x e) 2)) =
       some (fieldLE h 20 4 + fieldLE l (4 * e) 4, 1, a.tile % 2 ^ 64, fieldLE l 16 8 % 2 ^ 64)) ∧
     (stepOf cn t).map (fun q => q.again) = (stepOf cn s).map (fun q => q.again.filter (fun b => !(decide (b.tile = a.tile) && (b.shadow == a.shadow)))) ∧
     getF (MXC_Cn_PASS_LAST n) t = 0 ∧ t.leases = s.leases ∧ t.scratch = s.scratch ∧
     RegsExcept (MXC_Cn_PASS_LAST n :: ctxShown c.part) s t ∧ Frame [.engine] s t)) ∧
  (∀ (s : State) (n : Nat) (r : RadioTile),
   inWindow n r s = true →
   engAt n s = none →
   issues s = true →
   Completes (.workTileStart n (some r)) s (fun t =>
     engAt n t = some (freshSet 0 15 0 r.cell r.slot r.image r.codeEnd 8192 0 0x40000 r.param r.entry ⟨0, none, false, false, false⟩ (some r) s.now) ∧
     t.toEngineState = { s.toEngineState with eng := t.eng } ∧ RegsExcept [] s t ∧ Frame [.engine] s t)) ∧
  (∀ (s : State) (n cn : Nat) (c : Ctx) (st : Step) (a : Again) (l : List Byte),
   freeLease n s = some (cn, c, st) →
   st.again.find? (fun a => a.retry && againOn n c.part a s) = some a →
   c.saved = [] ∧ a.fb = false →
   ctxOf cn s = some c →
   l = tileEntry st.image st.tab a.tile s →
   Completes (.workTileRetry n false) s (fun t =>
     (engAt n t).map (fun x => (x.tile, x.first, x.count, x.retry)) = some (a.tile, fieldLE l 24 4, fieldLE l 28 4, true) ∧
     (stepOf cn t).map (fun q => q.again) = (stepOf cn s).map (fun q => q.again.filter (fun b => !(decide (b.tile = a.tile) && (b.shadow == a.shadow)))) ∧
     t.leases = s.leases ∧ t.scratch = s.scratch ∧ RegsExcept (MXC_Cn_PASS_LAST n :: ctxShown c.part) s t ∧ Frame [.engine] s t)) ∧
  (∀ (s : State) (n m : Nat) (r : RadioTile),
   s.radioAgain.find? (fun x => decide (x.1 ≠ n) && inWindow n x.2 s) = some (m, r) →
   engAt n s = none →
   issues s = true →
   Completes (.workTileRetry n true) s (fun t =>
     (engAt n t).map (fun x => (x.radio, x.retry, x.tile)) = some (some r, true, 0) ∧ (m, r) ∉ t.radioAgain ∧
     RegsExcept [] s t ∧ Frame [.engine, .fault] s t)) ∧
  (∀ (s : State) (n : Nat) (x : EngSet) (c : Ctx) (st : Step) (r : List Step),
   engAt n s = some x →
   x.shadow = false ∧ x.radio = none ∧ x.faberr = false →
   tileDone n x s = true →
   x.tq = [] ∧ x.tqPend = [] →
   ctxOf x.ctx s = some c ∧ c.queue = st :: r →
   Completes (.workTileEnd n) s (fun t =>
     engAt n t = none ∧
     (bitAt 0 st.flags = false → stepOf x.ctx t = some { st with
       ended := st.ended ++ [⟨x.tile, x.first, x.count, 0, 0, 2 * b2n x.fb + 8 * b2n x.retry + 16 * b2n (detPart x.part s), 0xFFFFFFFF, x.done, n, mcPhys n s,
         unitBand 1 (mcPhys n s) s⟩], vstat := st.vstat ||| x.vstat }) ∧
     (bitAt 0 st.flags = true → stepOf x.ctx t = some { st with
       again := st.again ++ [⟨x.tile, some n, x.fb, true, false⟩], vstat := st.vstat ||| x.vstat, shadow := st.shadow ++ [(x.tile, n, x.digest, x.vstat)] }) ∧
     t.leases = s.leases ∧ t.scratch = s.scratch ∧ RegsExcept (ctxShown c.part) s t ∧ Frame [.engine] s t)) ∧
  (∀ (s : State) (n : Nat) (x : EngSet) (st : Step),
   engAt n s = some x →
   x.shadow = false ∧ x.radio = none →
   tileDone n x s = true →
   x.tq ≠ [] ∨ x.tqPend ≠ [] →
   stepOf x.ctx s = some st →
   Completes (.workTileEnd n) s (fun t => Faulted n 1 x t ∧ (stepOf x.ctx t).map endsOf = some (endsOf st ++ [(x.tile, stITEM_FAILED, 0x11, x.count)]))) ∧
  (∀ (s : State) (n : Nat) (x : EngSet),
   engAt n s = some x →
   tileDone n x s = false →
   NoEffect (.workTileEnd n) s) ∧
  (∀ (s : State) (n m : Nat) (x : EngSet) (c : Ctx) (st : Step) (r : List Step),
   engAt n s = some x →
   x.shadow = true →
   tileDone n x s = true →
   x.tq = [] ∧ x.tqPend = [] →
   ctxOf x.ctx s = some c ∧ c.queue = st :: r →
   st.shadow.find? (fun r => decide (r.1 = x.tile)) = some (x.tile, m, x.digest, x.vstat) →
   Completes (.shadowRunEnd n) s (fun t =>
     engAt n t = none ∧ (stepOf x.ctx t).map endsOf = some (endsOf st ++ [(x.tile, 0, 0, x.count)]) ∧
     (stepOf x.ctx t).map (fun q => q.shadow) = some (st.shadow.filter (fun r => decide (r.1 ≠ x.tile))) ∧
     t.leases = s.leases ∧ RegsExcept (ctxShown c.part) s t ∧ Frame [.engine] s t)) ∧
  (∀ (s : State) (n m d v : Nat) (x : EngSet) (c : Ctx) (st : Step) (r : List Step),
   engAt n s = some x →
   x.shadow = true →
   tileDone n x s = true →
   x.tq = [] ∧ x.tqPend = [] →
   ctxOf x.ctx s = some c ∧ c.queue = st :: r →
   st.shadow.find? (fun r => decide (r.1 = x.tile)) = some (x.tile, m, d, v) →
   d ≠ x.digest ∨ v ≠ x.vstat →
   mcPhys m s ≠ mcPhys n s →
   Completes (.shadowRunEnd n) s (fun t =>
     engAt n t = none ∧ (stepOf x.ctx t).map endsOf = some (endsOf st ++ [(x.tile, stITEM_FAILED, 0x90, x.count)]) ∧
     (stepOf x.ctx t).map (fun q => q.shadow) = some (st.shadow.filter (fun r => decide (r.1 ≠ x.tile))) ∧
     flagF FLT_STAT_SHADOW t = true ∧ counted 16 FLT_T_SHADOW_COUNT s t ∧ 2 ^ 16 + mcPhys m s ∈ t.assayDue ∧ 2 ^ 16 + mcPhys n s ∈ t.assayDue ∧ t.leases = s.leases))

/-- A queued STEP of an ACTIVE context starts: the step counter advances by one modulo 2^64, FABERR clears, the start time is kept and the ARGS are
written. A STEP whose tiles have all ended COMPLETE ends OK, with its result record in host memory when REC is 1, and leaves its context IDLE with its
Leases ended, or goes on to the next STEP queued; one with a failed tile ends with that tile's status, the count of failed items and the index of its
ITEMS entry. -/
def Obligations.Steps : Prop :=
  (∀ (s : State) (c : Nat) (x : Ctx) (st : Step) (r : List Step),
   ctxOf c s = some x →
   x.queue = st :: r →
   st.started = false ∧ x.st = 2 →
   st.args = [] →
   Completes (.stepStart c) s (fun t =>
     ctxOf c t = some { x with
       counter := (x.counter + 1) % 2 ^ 64, faberr := false, firstFail := 0,
       queue := { st with
         started := true, startAt := counter (eventTd s) s,
         allFb := bitAt 1 st.flags && decide (x.fbImage ≠ 0) && decide (st.deadline ≠ 0) && decide (st.deadline < counter (eventTd s) s) } :: r } ∧
     t.toEngineState = { s.toEngineState with ctxs := t.ctxs } ∧ RegsExcept (ctxShown x.part) s t ∧ Frame [.engine] s t)) ∧
  (∀ (s : State) (c : Nat) (x : Ctx) (st : Step) (r : List Step),
   ctxOf c s = some x →
   x.queue = st :: r →
   st.started = false ∧ x.st = 2 →
   st.args ≠ [] ∧ rangeOk x.part true st.argsAddr st.args.length s = true →
   st.argsAddr % 64 + st.args.length ≤ 64 →
   migOf (st.argsAddr / 2 ^ 21) s = none ∧ s.chanCopy = [] ∧ entTier (bent (st.argsAddr / 2 ^ 21) s) = 1 →
   objPoisoned st.argsAddr s = false ∧ marked (loadAddr st.argsAddr s) s = false →
   Completes (.stepStart c) s (fun t =>
     readBytes t.mem (loadAddr st.argsAddr s) st.args.length = st.args ∧ SameOutside (loadAddr st.argsAddr s) st.args.length s.mem t.mem ∧
     (stepOf c t).map (fun q => (q.started, q.startAt)) = some (true, counter (eventTd s) s) ∧ (ctxOf c t).map (fun y => y.counter) = some ((x.counter + 1) % 2 ^ 64) ∧
     RegsExcept (ctxShown x.part) s t ∧ Frame [.engine, .mem] s t)) ∧
  (∀ (s : State) (c : Nat),
   ctxOf c s = none →
   NoEffect (.stepStart c) s) ∧
  (∀ (s : State) (c : Nat) (x : Ctx) (st : Step) (p : Pkt),
   ctxOf c s = some x →
   x.queue = [st] →
   st.started = true ∧ st.again = [] ∧ st.shadow = [] ∧ x.saved = [] →
   (∀ y ∈ s.eng, y.2.ctx ≠ c) →
   curStage st s = st.tab.nStages →
   (∀ e ∈ st.ended, e.status = 0) →
   bitAt 2 st.flags = false →
   st.id = p.id ∧ s.accepted.find? (fun q => decide (q.id = p.id)) = some p →
   x.suspend = [] ∧ s.quiesce = [] →
   Completes (.stepComplete c) s (fun t =>
     Ended p stOK 0 t ∧ ctxOf c t = some { x with queue := [], st := 1, sub := 0, resident := false, yielding := false } ∧
     t.leases = s.leases.filter (fun l => decide (l.ctx ≠ c)) ∧ (∀ l ∈ s.leases, l.ctx = c → getF (MXC_Cn_INFO_STATE l.core) t = 0 ∧ getF (MXC_Cn_INFO_CTX l.core) t = 0) ∧
     t.ledger = s.ledger ∧ RegsExcept ((s.leases.filter (fun l => decide (l.ctx = c))).flatMap (fun l => [MXC_Cn_INFO_STATE l.core, MXC_Cn_INFO_CTX l.core]) ++ ctxShown x.part ++ replyRegs p.window) s t ∧
     Frame ([.engine, .radio] ++ replyPieces) s t)) ∧
  (∀ (s : State) (c : Nat) (x : Ctx) (st st' : Step) (r : List Step) (p : Pkt),
   ctxOf c s = some x →
   x.queue = st :: st' :: r →
   st.started = true ∧ st.again = [] ∧ st.shadow = [] ∧ x.saved = [] →
   (∀ y ∈ s.eng, y.2.ctx ≠ c) →
   curStage st s = st.tab.nStages →
   (∀ e ∈ st.ended, e.status = 0) →
   bitAt 2 st.flags = true →
   st.id = p.id ∧ s.accepted.find? (fun q => decide (q.id = p.id)) = some p →
   replyLands p.window s = true →
   st.result + 64 ≤ getF (CMD_PWw_RR_BASE_ADDR p.window) s * 4096 ∨ getF (CMD_PWw_RR_BASE_ADDR p.window) s * 4096 + ringSize p.window s * 32 ≤ st.result →
   Completes (.stepComplete c) s (fun t =>
     readBytes t.hostMem st.result 64 = resultRecord c x st 0 (totalItems st.image st.tab s) 0 s ∧ Ended p stOK 0 t ∧ ctxOf c t = some { x with queue := st' :: r } ∧
     t.leases = s.leases ∧ t.ledger = s.ledger ∧ RegsExcept (ctxShown x.part ++ replyRegs p.window) s t ∧ Frame (.engine :: replyPieces) s t)) ∧
  (∀ (s : State) (c : Nat) (x : Ctx) (st st' : Step) (r : List Step) (p : Pkt) (e : TileEnd),
   ctxOf c s = some x →
   x.queue = st :: st' :: r →
   st.started = true ∧ st.again = [] ∧ st.shadow = [] ∧ x.saved = [] →
   (∀ y ∈ s.eng, y.2.ctx ≠ c) →
   curStage st s = st.tab.nStages →
   failedTiles st = [e] ∧ 0 < e.count →
   cascades st s = true →
   st.tab.nTiles = stageStart st.image st.tab (curStage st s) s →
   bitAt 2 st.flags = false →
   st.id = p.id ∧ s.accepted.find? (fun q => decide (q.id = p.id)) = some p →
   e.status < 0x0400 ∧ e.status ≠ stFENCED →
   Completes (.stepComplete c) s (fun t =>
     Ended p e.status (e.count + nextIndex (partFunc x.part s) s % 2 ^ 32 * 2 ^ 32) t ∧ ctxOf c t = some { x with queue := st' :: r } ∧
     backlog (partFunc x.part s) t = backlog (partFunc x.part s) s ++ [ledgerBytes (injectedIf s.injecting (itemsEntry c x st e s)) (nextIndex (partFunc x.part s) s)] ∧
     liveOf 16 FLT_T_ITEMS_COUNT t = min (2 ^ FLT_T_ITEMS_COUNT.width - 1) (liveOf 16 FLT_T_ITEMS_COUNT s + e.count) ∧ t.leases = s.leases ∧
     RegsExcept (noteRegs (partFunc x.part s) ++ ctxShown x.part ++ replyRegs p.window) s t ∧ Frame ([.engine, .radio] ++ replyPieces) s t))

namespace Sys2Proof

/-- Registers GA, GB and GC of a fabric instruction (R297): the global address, the local address and LEN. -/
def fabOperands (g : Engine) (w ga gb len : Nat) : Prop := gReg g (insA w) = ga ∧ gReg g (insB w) = gb ∧ gReg g (insC w) = len

/-- ADDR of the request: bits 42:0 of GA, or bits 54:12 for a multicast. -/
def fabAddr (ty ga : Nat) : Nat := if ty = 3 then ga / 2 ^ 12 % 2 ^ 43 else ga % 2 ^ 43

/-- The shape that R292 and R297 ask of an operation. -/
def fabShape (ty ga len : Nat) : Prop :=
  ga < 2 ^ 59 ∧ fabAddr ty ga % 64 = 0 ∧ len % 64 = 0 ∧ 64 ≤ len ∧ len ≤ 4096 ∧ fabAddr ty ga % 4096 + len ≤ 4096

/-- The local range of an operation may be used: an RGET's destination, or a source in Core Scratch or in the Unified Range. -/
def fabLocal (x : EngSet) (ty gb len : Nat) (s : State) : Prop :=
  gb % 64 = 0 ∧ (ty = 0 → gb < 2 ^ 43 ∧ rangeOk x.part true gb len s = true) ∧
  (ty ≠ 0 → (bitAt 63 gb = true → inArea x (gb % 2 ^ 43) len = true) ∧
    (bitAt 63 gb = false → rangeOk x.part false (gb % 2 ^ 43) len s = true ∧ anyHeld (gb % 2 ^ 43) len s = false ∧ anyPoison (gb % 2 ^ 43) len s = false))

/-- The data of a request. -/
def fabData (n ty gb len : Nat) (s : State) : List Byte :=
  if ty = 0 then [] else if bitAt 63 gb then csRead n (gb % 2 ^ 43) len s else urRead (gb % 2 ^ 43) len s

/-- The destination that an operation's Transaction ID counts for. -/
def fabDest (ty ga : Nat) : Nat := if ty = 3 then 2 ^ 16 + ga % 4096 else ga / 2 ^ 43 % 2 ^ 16

/-- The request that an instruction gives (R293), before its epoch is filled in. -/
def fabReq (n ty w ga gb len key : Nat) (s : State) : FabPkt :=
  { type := ty, oc := w / 2 ^ 40 % 4, hop := 0, ttl := 63, dst := if ty = 3 then 0xFFFF else ga / 2 ^ 43 % 2 ^ 16, src := ownId s, len := len, epoch := 0,
    txid := txidOf (fabDest ty ga) s, key := key, status := 0, members := 0, addr := fabAddr ty ga, poison := 0,
    rop := if ty = 2 then w / 2 ^ 32 % 16 else 0, rtype := if ty = 2 then w / 2 ^ 36 % 16 else 0, group := if ty = 3 then ga % 4096 else 0, data := fabData n ty gb len s,
    hdrOk := true }

/-- The table entry of that request; an RGET remembers its destination, a multicast the members it expects. -/
def fabHeld (id n : Nat) (x : EngSet) (ty w ga gb len key : Nat) (s : State) : Ftt :=
  ⟨id, n, x.ctx, x.part, decide (ty = 0), x.tile, insMode w % 8, fabReq n ty w ga gb len key s, fabDest ty ga,
    if ty = 0 then gb else if ty = 3 ∧ bitAt 12 (groupOf (ga % 4096) s) then groupOf (ga % 4096) s / 2 ^ 32 % 2 ^ 13 else 0, none, none, none⟩

/-- The fabric instructions that move data: engine, TYPE and opcode. -/
def fabOpsOf (n : Nat) : List (Instr × Nat × Nat × Nat) := [(.rget n, 0, 0, 0x30), (.rput n, 3, 1, 0x31), (.rred n, 3, 2, 0x32), (.rmcast n, 3, 3, 0x33)]

/-- An instruction of TYPE ty stands at engine e with these operands, in a work tile that may use the fabric. -/
def FabReady (n e ty op w ga gb len key : Nat) (x : EngSet) (s : State) : Prop :=
  Issues n e w x s ∧ insOp w = op ∧ fabOperands (engine x e) w ga gb len ∧ x.radio = none ∧ x.fabMax ≠ 0 ∧ fabShape ty ga len ∧ fabLocal x ty gb len s ∧
  ((lookup x.part s.parts).map (fun p => p.key)) = some key ∧ (detPart x.part s = false ∨ ty ≠ 2 ∨ w / 2 ^ 32 % 16 ≠ 0 ∨ 2 ≤ w / 2 ^ 36 % 16)

/-- The set after the instruction: one word on, bound to its core, with the digest of R382. -/
def fabRan (n e ty ga gb len : Nat) (x : EngSet) (s : State) : EngSet :=
  { ranWord e (engine x e) x s with
    bound := true, sentFab := x.sentFab || decide (ty ≠ 0),
    digest := x.digest ^^^ (if ty = 0 then chkFeed 1 (chkSeed 1 gb) (natLE 8 len)
      else chkFeed 1 (chkSeed 1 ((if ty = 3 then ga % 4096 * 2 ^ 43 else ga / 2 ^ 43 % 2 ^ 16 * 2 ^ 43) + fabAddr ty ga)) (fabData n ty gb len s)) }

/-- The engine has room in the table (R302), and id is the entry it takes. -/
def fabRoom (n id ty ga : Nat) (x : EngSet) (s : State) : Prop := freeFtt s = some id ∧ fttRoom n x (some (fabDest ty ga)) s = true

/-- Nothing else of the table waits to be sent, and no fence of the group holds the operation back. -/
def fabClear (n ty w : Nat) (x : EngSet) (s : State) : Prop :=
  (∀ f ∈ s.ftt, unsent f = false) ∧
  (∀ f ∈ s.ftt, f.fence = none ∨ f.core ≠ n ∨ f.ctx ≠ x.ctx ∨ f.tile ≠ x.tile ∨ f.load ≠ decide (ty = 0) ∨ f.group ≠ insMode w % 8)

/-- No operation of the table has this Transaction ID at this destination. -/
def fabFresh (ty ga : Nat) (s : State) : Prop := ∀ f ∈ s.ftt, f.fence ≠ none ∨ f.dest ≠ fabDest ty ga ∨ f.req.txid ≠ txidOf (fabDest ty ga) s

/-- What every issue leaves alone. -/
def FabIssued (n : Nat) (y : EngSet) (ty ga : Nat) (s t : State) : Prop :=
  t.toEngineState = { s.toEngineState with eng := put n (some y) s.eng } ∧
  t.toFabricState = { s.toFabricState with ftt := t.ftt, txids := put (fabDest ty ga) (some ((txidOf (fabDest ty ga) s + 1) % 2 ^ 32)) s.txids, hport := t.hport, fabSent := t.fabSent } ∧
  getF HJF_FTT_USED t = (s.ftt.length + 1) % 2 ^ HJF_FTT_USED.width ∧ RegsExcept [HJF_FTT_USED] s t

end Sys2Proof

/-- A fabric instruction whose operands and local range are sound takes one table entry and the next Transaction ID of its destination, and its
request, filled as R293 says, goes to the local home (the device's own ID, or a multicast) or out on the port of its route; behind a fence of its
group it waits unsent. Without a route, or behind a Fence Gate, it ends FAILED at issue and sends nothing. A shape that breaks R292 or FAB_MAX 0 is
fault cause 1, a Core Scratch range outside the set's area cause 2, a Unified Range outside the partition's objects cause 6; with the table or the
set's share full the engine waits. RFENCE takes an entry that covers the group's operations; RWAIT waits until its group has none. A shadow run sends
nothing. -/
def Obligations.FabricInstructions : Prop :=
  (∀ (s : State) (n e ty op w ga gb len key id : Nat) (x : EngSet) (c : Instr),
   (c, e, ty, op) ∈ fabOpsOf n →
   FabReady n e ty op w ga gb len key x s →
   x.shadow = false →
   fabRoom n id ty ga x s →
   fabClear n ty w x s →
   fabFresh ty ga s →
   ty = 3 ∨ ga / 2 ^ 43 % 2 ^ 16 = ownId s →
   gateClosed x.part s = false →
   8 ≤ x.part ∨ (regulOf x.part 2 s).rate = 0 →
   Completes c s (fun t =>
     t.ftt = s.ftt ++ [{ fabHeld id n x ty w ga gb len key s with sent := some s.now }] ∧
     hpOf 16 t = { hpOf 16 s with inq := (hpOf 16 s).inq ++ [(s.now, { fabReq n ty w ga gb len key s with epoch := look 0 (fabDest ty ga) s.epochs })] } ∧
     (∀ p ∈ List.range 16, hpOf p t = hpOf p s) ∧ t.fabSent = s.fabSent ∧ FabIssued n (fabRan n e ty ga gb len x s) ty ga s t ∧ Frame [.engine, .fabric] s t)) ∧
  (∀ (s : State) (n e ty op w ga gb len key id q : Nat) (x : EngSet) (c : Instr) (k : FabPkt),
   (c, e, ty, op) ∈ fabOpsOf n →
   ty < 3 →
   FabReady n e ty op w ga gb len key x s →
   x.shadow = false →
   fabRoom n id ty ga x s →
   fabClear n ty w x s →
   fabFresh ty ga s →
   ga / 2 ^ 43 % 2 ^ 16 ≠ ownId s ∧ rtValid (routeOf (ga / 2 ^ 43 % 2 ^ 16) s) = true →
   gateClosed x.part s = false →
   8 ≤ x.part ∨ (regulOf x.part 2 s).rate = 0 →
   k = { fabReq n ty w ga gb len key s with epoch := look 0 (fabDest ty ga) s.epochs } →
   pathOf k s = some q →
   (hpOf q s).queue = [] →
   slotsOf k ≤ laneCredit (hpOf q s) (vlane k) →
   unacked (hpOf q s) + flitsOf k ≤ 512 →
   Completes c s (fun t =>
     t.ftt = s.ftt ++ [{ fabHeld id n x ty w ga gb len key s with port := some q, sent := some s.now }] ∧ t.fabSent = (q, k) :: s.fabSent ∧
     hpOf q t = { hpOf q s with
       credit := put (vlane k) (some (laneCredit (hpOf q s) (vlane k) - slotsOf k)) (hpOf q s).credit, seq := ((hpOf q s).seq + flitsOf k) % 1024,
       replay := (hpOf q s).replay ++ [(((hpOf q s).seq + flitsOf k + 1023) % 1024, k)] } ∧
     (∀ p ∈ List.range 17, p ≠ q → hpOf p t = hpOf p s) ∧ t.toRadioState = { s.toRadioState with tallyRem := t.tallyRem } ∧
     FabIssued n (fabRan n e ty ga gb len x s) ty ga s t ∧ Frame [.engine, .fabric, .radio, .tallies] s t)) ∧
  (∀ (s : State) (n e ty op w ga gb len key id : Nat) (x : EngSet) (c : Instr) (f : Ftt),
   (c, e, ty, op) ∈ fabOpsOf n →
   FabReady n e ty op w ga gb len key x s →
   x.shadow = false →
   fabRoom n id ty ga x s →
   (∀ g ∈ s.ftt, unsent g = false) →
   f ∈ s.ftt ∧ f.fence ≠ none ∧ f.core = n ∧ f.ctx = x.ctx ∧ f.tile = x.tile ∧ f.load = decide (ty = 0) ∧ f.group = insMode w % 8 →
   gateClosed x.part s = false →
   ty = 3 ∨ ga / 2 ^ 43 % 2 ^ 16 = ownId s ∨ rtValid (routeOf (ga / 2 ^ 43 % 2 ^ 16) s) = true →
   Completes c s (fun t =>
     t.ftt = s.ftt ++ [fabHeld id n x ty w ga gb len key s] ∧ t.hport = s.hport ∧ t.fabSent = s.fabSent ∧
     FabIssued n (fabRan n e ty ga gb len x s) ty ga s t ∧ Frame [.engine, .fabric] s t)) ∧
  (∀ (s : State) (n e ty op w ga gb len key id cause st : Nat) (x : EngSet) (c : Instr),
   (c, e, ty, op) ∈ fabOpsOf n →
   FabReady n e ty op w ga gb len key x s →
   x.shadow = false →
   fabRoom n id ty ga x s →
   (∀ g ∈ s.ftt, unsent g = false) →
   (gateClosed x.part s = true ∧ cause = 4 ∧ st = stFENCED) ∨
     (gateClosed x.part s = false ∧ ty ≠ 3 ∧ ga / 2 ^ 43 % 2 ^ 16 ≠ ownId s ∧ rtValid (routeOf (ga / 2 ^ 43 % 2 ^ 16) s) = false ∧ cause = 5 ∧ st = stITEM_FAILED) →
   x.faberr = false →
   n < 144 →
   Completes c s (fun t =>
     t.ftt.map (fun g => g.id) = s.ftt.map (fun g => g.id) ∧ t.hport = s.hport ∧ t.fabSent = s.fabSent ∧
     txidOf (fabDest ty ga) t = (txidOf (fabDest ty ga) s + 1) % 2 ^ 32 ∧
     engAt n t = some { fabRan n e ty ga gb len x s with
       faberr := true, firstFail := nextIndex (partFunc x.part s) s, failStatus := st, failCause := cause, fabAct := s.now } ∧
     backlog (partFunc x.part s) t = backlog (partFunc x.part s) s ++
       [ledgerBytes (injectedIf s.injecting (fabEntry (fabHeld id n x ty w ga gb len key s) cause st 0 s)) (nextIndex (partFunc x.part s) s)] ∧
     RegsExcept (noteRegs (partFunc x.part s) ++ [HJF_FTT_USED] ++ ctxShown (ctxPart x.ctx s)) s t ∧ Frame [.radio, .engine, .fabric, .fault, .power, .tallies, .bus] s t)) ∧
  (∀ (s : State) (n e ty op w ga gb len key : Nat) (x : EngSet) (c : Instr),
   (c, e, ty, op) ∈ fabOpsOf n →
   FabReady n e ty op w ga gb len key x s →
   (x.shadow = true → Completes c s (fun t => OnlySet n { ranWord e (engine x e) x s with digest := (fabRan n e ty ga gb len x s).digest } s t)) ∧
     (x.shadow = false ∧ (freeFtt s = none ∨ fttRoom n x (some (fabDest ty ga)) s = false) →
       Completes c s (fun t => OnlySet n (putEngine x e { engine x e with st := 3 }) s t))) ∧
  (∀ (s : State) (n e ty op w ga gb len : Nat) (x : EngSet) (c : Instr) (st : Step),
   (c, e, ty, op) ∈ fabOpsOf n →
   Issues n e w x s →
   insOp w = op →
   fabOperands (engine x e) w ga gb len →
   x.radio = none →
   stepOf x.ctx s = some st →
   Completes c s (fun t =>
     (x.fabMax = 0 ∨ ¬ fabShape ty ga len → Faulted n 1 x t) ∧
     (x.fabMax ≠ 0 ∧ fabShape ty ga len ∧ gb % 64 = 0 ∧ (detPart x.part s = false ∨ ty ≠ 2 ∨ w / 2 ^ 32 % 16 ≠ 0 ∨ 2 ≤ w / 2 ^ 36 % 16) →
       (ty ≠ 0 ∧ bitAt 63 gb = true ∧ inArea x (gb % 2 ^ 43) len = false → Faulted n 2 x t) ∧
       ((ty = 0 ∧ gb < 2 ^ 43 ∨ ty ≠ 0 ∧ bitAt 63 gb = false) ∧ rangeOk x.part (decide (ty = 0)) (gb % 2 ^ 43) len s = false → Faulted n 6 x t)))) ∧
  (∀ (s : State) (n w id : Nat) (x : EngSet),
   Issues n 3 w x s →
   insOp w = 0x34 →
   x.radio = none ∧ x.fabMax ≠ 0 ∧ x.shadow = false →
   freeFtt s = some id ∧ fttRoom n x none s = true →
   Completes (.rfence n) s (fun t =>
     t.ftt.map (fun f => (f.id, f.fence)) = s.ftt.map (fun f => (f.id, f.fence)) ++
       [(id, some ((s.ftt.filter (fun f => opOf n x f && f.fence.isNone && !f.load && decide (f.group = insMode w % 8))).map (fun f => f.id)))] ∧
     t.ftt.take s.ftt.length = s.ftt ∧ (∀ f ∈ t.ftt.drop s.ftt.length, opOf n x f = true ∧ f.load = false ∧ f.group = insMode w % 8 ∧ f.sent = none) ∧
     getF HJF_FTT_USED t = (s.ftt.length + 1) % 2 ^ HJF_FTT_USED.width ∧ engAt n t = some { ranWord 3 x.sr x s with bound := true } ∧
     t.toFabricState = { s.toFabricState with ftt := t.ftt } ∧ t.toEngineState = { s.toEngineState with eng := t.eng } ∧
     RegsExcept [HJF_FTT_USED] s t ∧ Frame [.engine, .fabric] s t)) ∧
  (∀ (s : State) (n : Nat) (e : Fin 4) (w : Nat) (x : EngSet) (c : Instr) (st : Step),
   (c = .rfence n ∧ e = 3 ∧ insOp w = 0x34) ∨ (c = .rwait n e ∧ insOp w = 0x35) →
   Issues n e w x s →
   x.radio = none →
   stepOf x.ctx s = some st →
   (x.fabMax = 0 → Completes c s (fun t => Faulted n 1 x t)) ∧
     (x.fabMax ≠ 0 ∧ insOp w = 0x34 ∧ x.shadow = true → Completes c s (fun t => OnlySet n (ranWord 3 x.sr x s) s t)) ∧
     (x.fabMax ≠ 0 ∧ insOp w = 0x34 ∧ x.shadow = false ∧ (freeFtt s = none ∨ fttRoom n x none s = false) →
       Completes c s (fun t => OnlySet n (putEngine x 3 { x.sr with st := 3 }) s t)) ∧
     (x.fabMax ≠ 0 ∧ insOp w = 0x35 ∧ (∃ f ∈ s.ftt, (opOf n x f && decide (f.group = insMode w % 8)) = true) →
       Completes c s (fun t => OnlySet n (putEngine x e { engine x e with st := 3 }) s t)) ∧
     (x.fabMax ≠ 0 ∧ insOp w = 0x35 ∧ (∀ f ∈ s.ftt, opOf n x f = false ∨ f.group ≠ insMode w % 8) →
       Completes c s (fun t => OnlySet n (ranWord e (engine x e) x s) s t)))

namespace Sys2Proof

/-- The table without entry id, which no fence covers any longer. -/
def fttWithout (id : Nat) (s : State) : List Ftt :=
  (s.ftt.filter (fun g => decide (g.id ≠ id))).map (fun g => { g with fence := g.fence.map (fun l => l.filter (fun i => decide (i ≠ id))) })

/-- Operation f belongs to the set x, which is on its core, and its context is not BLOCKED; nothing of the table waits to be sent. -/
def opLive (f : Ftt) (x : EngSet) (s : State) : Prop :=
  f.core < 144 ∧ engAt f.core s = some x ∧ x.ctx = f.ctx ∧ x.tile = f.tile ∧ ((ctxOf f.ctx s).all (fun c => decide (c.sub ≠ 3))) = true ∧ (∀ g ∈ s.ftt, unsent g = false)

/-- Operation f of the set x has ended: its entry is free. -/
def OpFreed (f : Ftt) (x : EngSet) (s t : State) : Prop :=
  t.ftt = fttWithout f.id s ∧ getF HJF_FTT_USED t = (fttWithout f.id s).length % 2 ^ HJF_FTT_USED.width ∧
  engAt f.core t = some { x with fabAct := s.now } ∧ t.fabSent = s.fabSent

/-- Operation f of the set x has ended FAILED: its set has FABERR, and the Ledger an entry of the cause (R316). -/
def OpFailed (f : Ftt) (x : EngSet) (cause st reason : Nat) (s t : State) : Prop :=
  t.ftt = fttWithout f.id s ∧ t.fabSent = s.fabSent ∧
  engAt f.core t = some (if x.faberr then { x with fabAct := s.now } else
    { x with fabAct := s.now, faberr := true, firstFail := nextIndex (partFunc f.part s) s, failStatus := st, failCause := cause }) ∧
  backlog (partFunc f.part s) t = backlog (partFunc f.part s) s ++
    [ledgerBytes (injectedIf s.injecting (fabEntry f cause st reason s)) (nextIndex (partFunc f.part s) s)]

/-- The registers that the end of an operation may change. -/
def opRegs (f : Ftt) (s : State) : List Fld := [HJF_FTT_USED] ++ ctxShown (ctxPart f.ctx s)

/-- The pieces that the end of an operation may change. -/
def failPieces : List Piece := [.radio, .engine, .fabric, .fault, .power, .tallies, .bus]

/-- The first response of port p's arrivals is k, it is for operation f, and nothing of a gather entry. -/
def rspFor (p i w : Nat) (k : FabPkt) (f : Ftt) (s : State) : Prop := headIn (isRsp p s) p s = some (i, w, k) ∧ gatherFor p k s = none ∧ opFor p k s = some f

end Sys2Proof

/-- The first response that matches an outstanding operation ends it: an OK frees its entry, an RGET's data is written as whole lines that lose their
marks, a poisoned response leaves its marked lines marked and ends it FAILED with POISONED, and a refusal ends it FAILED with its cause in the Ledger
and FABERR in its set. A multicast's ACK ends it COMPLETE only with STATUS OK and the members expected; an ACK of a copy enters its gather entry; a
response that matches nothing is counted. A fence with nothing left to cover frees its entry and lets the operations it held go; a BLOCKED context
whose operation ends is RUNNABLE. An operation past TIMEOUT ends FAILED with cause 1. A path change gives the destination the next epoch and issues
again what was sent on the changed path. A response carries no reason of R298, so the reason byte of a Ledger entry of cause 2 is a free value
(assumption log). -/
def Obligations.FabricEnds : Prop :=
  (∀ (s : State) (id : Nat) (f : Ftt) (x : EngSet),
   s.ftt.find? (fun g => decide (g.id = id) && decide (g.fence = some [])) = some f →
   opLive f x s →
   Completes (.fenceComplete id) s (fun t => OpFreed f x s t ∧ t.hport = s.hport ∧ RegsExcept (opRegs f s) s t ∧ Frame [.engine, .fabric] s t)) ∧
  (∀ (s : State) (id : Nat) (f g : Ftt),
   s.ftt.find? (fun h => decide (h.id = id) && decide (h.fence = some [])) = some f →
   s.ftt.filter unsent = [g] →
   g.dest = ownId s ∧ g.req.dst = ownId s ∧ g.req.src = ownId s ∧ g.req.type < 3 →
   (∀ h ∈ s.ftt, h.id = g.id ∨ h.fence ≠ none ∨ h.dest ≠ g.dest ∨ h.req.txid ≠ g.req.txid) →
   (∀ h ∈ s.ftt, h.id = f.id ∨ h.fence = none ∨ sameEngine h g = false ∨ h.group ≠ g.group) →
   8 ≤ g.part ∨ (regulOf g.part 2 s).rate = 0 →
   Completes (.fenceComplete id) s (fun t =>
     t.ftt = (fttWithout f.id s).map (fun h => if h.id = g.id then { h with sent := some s.now } else h) ∧
     hpOf 16 t = { hpOf 16 s with inq := (hpOf 16 s).inq ++ [(s.now, { g.req with epoch := look 0 g.dest s.epochs })] } ∧
     t.toFabricState = { s.toFabricState with ftt := t.ftt, hport := t.hport } ∧ RegsExcept (opRegs f s) s t ∧ Frame [.engine, .fabric] s t)) ∧
  (∀ (s : State) (id : Nat) (f : Ftt) (c : Ctx),
   s.ftt.find? (fun g => decide (g.id = id) && decide (g.fence = some [])) = some f →
   engAt f.core s = none →
   ctxOf f.ctx s = some c →
   c.sub = 3 →
   f.core < 144 →
   (∀ g ∈ s.ftt, unsent g = false) →
   Completes (.fenceComplete id) s (fun t =>
     t.ftt = fttWithout f.id s ∧
     ctxOf f.ctx t = some { c with sub := 1, readyAt := s.now, saved := c.saved.map (fun y => if y.1 = f.core ∧ y.2.tile = f.tile then (y.1, { y.2 with fabAct := s.now }) else y) } ∧
     t.toFabricState = { s.toFabricState with ftt := t.ftt } ∧ RegsExcept (opRegs f s) s t ∧ Frame [.engine, .fabric] s t)) ∧
  (∀ (s : State) (id : Nat),
   (∀ g ∈ s.ftt, g.id ≠ id ∨ g.fence ≠ some []) →
   NoEffect (.fenceComplete id) s) ∧
  (∀ (s : State) (p : Fin 17) (i w : Nat) (k : FabPkt) (f : Ftt) (x : EngSet),
   rspFor p i w k f s →
   opLive f x s →
   k.status = 0 →
   (f.req.type = 1 ∨ f.req.type = 2) ∨ (f.req.type = 3 ∧ k.members = f.arg ∧ 0 < f.arg) →
   Completes (.fabricResponseReceive p) s (fun t =>
     OpFreed f x s t ∧ hpOf p t = { hpOf p s with inq := (hpOf p s).inq.eraseIdx i } ∧ (∀ q ∈ List.range 17, q ≠ p.val → hpOf q t = hpOf q s) ∧
     t.toFabricState = { s.toFabricState with ftt := t.ftt, hport := t.hport } ∧ RegsExcept (opRegs f s) s t ∧ Frame [.engine, .fabric] s t)) ∧
  (∀ (s : State) (p : Fin 17) (i w : Nat) (k : FabPkt) (f : Ftt) (x : EngSet),
   rspFor p i w k f s →
   opLive f x s →
   f.req.type = 0 ∧ k.status = 0 ∧ k.poison = 0 ∧ k.data.length = f.req.len ∧ 64 ≤ f.req.len ∧ f.req.len ≤ 4096 ∧ f.req.len % 64 = 0 →
   f.arg % 64 = 0 ∧ f.arg % 2 ^ 21 + f.req.len ≤ 2 ^ 21 ∧ rangeOk f.part true f.arg f.req.len s = true →
   migOf (f.arg / 2 ^ 21) s = none ∧ s.chanCopy = [] ∧ entTier (bent (f.arg / 2 ^ 21) s) = 1 ∧ objPoisoned f.arg s = false →
   Completes (.fabricResponseReceive p) s (fun t =>
     readBytes t.mem (loadAddr f.arg s) f.req.len = k.data ∧ SameOutside (loadAddr f.arg s) f.req.len s.mem t.mem ∧
     (∀ l ∈ t.poison, l.1 < lineOf (loadAddr f.arg s) ∨ lineOf (loadAddr f.arg s) + f.req.len / 64 ≤ l.1) ∧
     t.scratch = s.scratch ∧ t.bmap = s.bmap ∧ t.objs = s.objs ∧
     OpFreed f x s t ∧ (hpOf p t).inq = (hpOf p s).inq.eraseIdx i ∧ RegsExcept (opRegs f s) s t ∧ Frame [.mem, .engine, .fabric] s t)) ∧
  (∀ (s : State) (p : Fin 17) (i w : Nat) (k : FabPkt) (f : Ftt) (x : EngSet),
   rspFor p i w k f s →
   opLive f x s →
   f.req.type = 0 ∧ k.status = 2 ∧ k.data.length = f.req.len ∧ 64 ≤ f.req.len ∧ f.req.len ≤ 4096 ∧ f.req.len % 64 = 0 →
   f.arg % 64 = 0 ∧ f.arg % 2 ^ 21 + f.req.len ≤ 2 ^ 21 ∧ rangeOk f.part true f.arg f.req.len s = true →
   migOf (f.arg / 2 ^ 21) s = none ∧ s.chanCopy = [] ∧ entTier (bent (f.arg / 2 ^ 21) s) = 1 ∧ objPoisoned f.arg s = false →
   Completes (.fabricResponseReceive p) s (fun t =>
     readBytes t.mem (loadAddr f.arg s) f.req.len = k.data ∧ SameOutside (loadAddr f.arg s) f.req.len s.mem t.mem ∧
     (List.range (f.req.len / 64)).all (fun j => (lookup (lineOf (loadAddr f.arg s) + j) t.poison).isSome == bitAt j k.poison) = true ∧
     OpFailed f x 3 stPOISONED 0 s t ∧ (hpOf p t).inq = (hpOf p s).inq.eraseIdx i ∧
     RegsExcept (noteRegs (partFunc f.part s) ++ opRegs f s) s t ∧ Frame (.mem :: failPieces) s t)) ∧
  (∀ (s : State) (p : Fin 17) (i w cause st : Nat) (k : FabPkt) (f : Ftt) (x : EngSet),
   rspFor p i w k f s →
   opLive f x s →
   landable f s = true →
   (f.req.type ≠ 3 ∧ ((k.status = 1 ∧ cause = 2 ∧ st = stITEM_FAILED) ∨ (k.status = 2 ∧ (f.req.type ≠ 0 ∨ k.data = []) ∧ cause = 3 ∧ st = stPOISONED) ∨ (k.status = 3 ∧ cause = 4 ∧ st = stFENCED))) ∨
     (f.req.type = 3 ∧ cause = 6 ∧ ((k.status = 0 ∧ k.members ≠ f.arg ∧ st = stITEM_FAILED) ∨ (k.status = 1 ∧ st = stITEM_FAILED) ∨ (k.status = 2 ∧ st = stPOISONED) ∨ (k.status = 3 ∧ st = stFENCED))) →
   Completes (.fabricResponseReceive p) s (fun t =>
     OpFailed f x cause st (if cause = 2 then (drawFree 3 s).1 else 0) s t ∧ (hpOf p t).inq = (hpOf p s).inq.eraseIdx i ∧
     (cause ≠ 2 → t.draws = s.draws) ∧ RegsExcept (noteRegs (partFunc f.part s) ++ opRegs f s) s t ∧ Frame (.draws :: failPieces) s t)) ∧
  (∀ (s : State) (p : Fin 17) (i w : Nat) (k : FabPkt) (g : Gather),
   headIn (isRsp p s) p s = some (i, w, k) →
   gatherFor p k s = some g →
   Completes (.fabricResponseReceive p) s (fun t =>
     t.gathers = s.gathers.map (fun y => if y.id = g.id then { y with wait := y.wait.filter (fun q => decide (q ≠ p.val)), status := max y.status k.status, count := y.count + k.members } else y) ∧
     (hpOf p t).inq = (hpOf p s).inq.eraseIdx i ∧ t.toFabricState = { s.toFabricState with gathers := t.gathers, hport := t.hport } ∧ RegsExcept [] s t ∧ Frame [.fabric] s t)) ∧
  (∀ (s : State) (p : Fin 17) (i w : Nat) (k : FabPkt),
   headIn (isRsp p s) p s = some (i, w, k) →
   gatherFor p k s = none →
   opFor p k s = none →
   Completes (.fabricResponseReceive p) s (fun t =>
     liveOf 14 HJF_T_DUPACK_COUNT t = min (2 ^ HJF_T_DUPACK_COUNT.width - 1) (liveOf 14 HJF_T_DUPACK_COUNT s + 1) ∧ (hpOf p t).inq = (hpOf p s).inq.eraseIdx i ∧
     t.toFabricState = { s.toFabricState with hport := t.hport } ∧ RegsExcept [] s t ∧ Frame [.fabric, .tallies] s t)) ∧
  (∀ (s : State) (id w : Nat) (f : Ftt) (x : EngSet),
   s.ftt.find? (fun g => decide (g.id = id) && isOp g) = some f →
   f.sent = some w →
   w + getF HJF_ORD_TIMEOUT s * 1000 * 1536 ≤ s.now →
   rspArrived f s = false →
   opLive f x s →
   Completes (.fabricTimeout id) s (fun t =>
     OpFailed f x 1 stITEM_FAILED 0 s t ∧ liveOf 14 HJF_T_TIMEOUT_COUNT t = min (2 ^ HJF_T_TIMEOUT_COUNT.width - 1) (liveOf 14 HJF_T_TIMEOUT_COUNT s + 1) ∧
     flagF HJF_OSTAT_TIMEOUT t = true ∧ t.mem = s.mem ∧ RegsExcept (HJF_OSTAT_TIMEOUT :: noteRegs (partFunc f.part s) ++ opRegs f s) s t ∧ Frame failPieces s t)) ∧
  (∀ (s : State) (id w : Nat) (f : Ftt),
   s.ftt.find? (fun g => decide (g.id = id) && isOp g) = some f →
   f.sent = none ∨ (f.sent = some w ∧ s.now < w + getF HJF_ORD_TIMEOUT s * 1000 * 1536) ∨ rspArrived f s = true →
   NoEffect (.fabricTimeout id) s) ∧
  (∀ (s : State) (d : Nat),
   d ∈ s.epochPend →
   (∀ f ∈ s.ftt, f.dest ≠ d ∨ f.fence ≠ none ∨ f.req.type = 3 ∨ unsent f = true ∨ pathChanged f s = false) →
   Completes (.pathEpochAdvance d) s (fun t =>
     t.toFabricState = { s.toFabricState with epochs := put d (some ((look 0 d s.epochs + 1) % 256)) s.epochs, epochPend := s.epochPend.filter (fun e => decide (e ≠ d)) } ∧
     RegsExcept [] s t ∧ Frame [.fabric] s t)) ∧
  (∀ (s : State) (d q : Nat) (f g : Ftt) (k k2 : FabPkt),
   d ∈ s.epochPend →
   d ≠ ownId s →
   s.ftt.filter (fun h => h.fence.isNone && decide (h.dest = d) && decide (h.req.type ≠ 3) && !unsent h && pathChanged h s) = [f, g] →
   f.req.dst = d ∧ g.req.dst = d →
   serialLt 32 g.req.txid f.req.txid = true ∧ serialLt 32 f.req.txid g.req.txid = false →
   f.req.oc = 1 ∧ g.req.oc = 1 ∧ f.req.src = g.req.src ∧ vlane f.req = vlane g.req →
   k = { f.req with epoch := (look 0 d s.epochs + 1) % 256 } ∧ k2 = { g.req with epoch := (look 0 d s.epochs + 1) % 256 } →
   rtValid (routeOf d s) = true →
   pathOf k s = some q →
   (hpOf q s).queue = [] →
   slotsOf k + slotsOf k2 ≤ laneCredit (hpOf q s) (vlane k) →
   unacked (hpOf q s) + flitsOf k + flitsOf k2 ≤ 512 →
   Completes (.pathEpochAdvance d) s (fun t =>
     t.fabSent = (q, k) :: (q, k2) :: s.fabSent ∧ look 0 d t.epochs = (look 0 d s.epochs + 1) % 256 ∧ d ∉ t.epochPend ∧
     t.ftt.map (fun h => (h.id, h.dest, h.req)) = s.ftt.map (fun h => (h.id, h.dest, h.req)) ∧
     t.ftt.map (fun h => (h.id, h.sent.isSome)) = s.ftt.map (fun h => (h.id, h.sent.isSome)) ∧
     (hpOf q t).replay.drop (hpOf q s).replay.length = [(((hpOf q s).seq + flitsOf k2 + 1023) % 1024, k2), (((hpOf q s).seq + flitsOf k2 + flitsOf k + 1023) % 1024, k)] ∧
     (∀ p ∈ List.range 17, p ≠ q → hpOf p t = hpOf p s) ∧
     liveOf 14 HJF_T_REISSUE_COUNT t = min (2 ^ HJF_T_REISSUE_COUNT.width - 1) (liveOf 14 HJF_T_REISSUE_COUNT s + 2) ∧
     RegsExcept [] s t ∧ Frame [.fabric, .radio, .tallies] s t)) ∧
  (∀ (s : State) (d : Nat),
   d ∉ s.epochPend →
   NoEffect (.pathEpochAdvance d) s)

namespace Sys2Proof

/-- The checks of R298 in order: each reason, and whether the request fails it. -/
def refTable (k : FabPkt) (s : State) : List (Nat × Bool) :=
  let e := bent (k.addr / 2 ^ 21) s
  let o := lookup (entObj e) s.objs
  [(1, decide (entTier e = 0) || decide (entExtent e * 4096 < k.addr % 2 ^ 21 + k.len)), (2, decide (entPart e = 14) || decide (entPart e = 15)),
    (3, decide (k.key = 0) || !(List.range 4).any (fun i => o.any (fun o => decide (o.keys[i]? = some k.key)))),
    (4, !(List.range 4).any (fun i => o.any (fun o => decide (o.keys[i]? = some k.key) && bitAt (4 * i + k.type) o.perm))),
    (5, decide (k.type ≠ 0) && entRo e), (6, decide (getF HJF_CFG_EN s = 0)), (7, decide (k.type = 2) && (decide (2 < k.rop) || decide (3 < k.rtype)))]

/-- The reason of the first check that a request fails. -/
def firstReason (k : FabPkt) (s : State) : Option Nat := ((refTable k s).find? (fun x => x.2)).map (fun x => x.1)

/-- A fenced partition that a request names, or whose Job Key or EXTKEY it carries (R321). -/
def FencedBy (p : Nat) (k : FabPkt) (s : State) : Prop :=
  bitAt p (getF HJF_GATE_FENCED s) = true ∧
  ((entTier (bent (k.addr / 2 ^ 21) s) ≠ 0 ∧ entPart (bent (k.addr / 2 ^ 21) s) = p) ∨ (lookup p s.parts).map (fun q => q.key) = some k.key ∨
    (getF (HJF_GATE_KEYp_EXTKEY p) s ≠ 0 ∧ getF (HJF_GATE_KEYp_EXTKEY p) s = k.key))

/-- The request is neither fenced nor refused. -/
def Passes (k : FabPkt) (s : State) : Prop := (∀ p ∈ List.range 8, ¬ FencedBy p k s) ∧ firstReason k s = none

/-- The response to a request (R292, R293). -/
def rspOf (k : FabPkt) (status members poison : Nat) (data : List Byte) (s : State) : FabPkt :=
  { type := if k.type = 0 then 8 else 9, oc := k.oc, hop := 0, ttl := 63, dst := k.src, src := ownId s, len := k.len, epoch := k.epoch, txid := k.txid,
    key := 0, status := status, members := members, addr := 0, poison := poison, rop := 0, rtype := 0, group := if k.type = 3 then k.group else 0, data := data, hdrOk := true }

/-- The way of a response: to the device itself (16), or out on port q, which has room for it. -/
def rspWay (q : Nat) (r : FabPkt) (s : State) : Prop :=
  (r.dst = ownId s ∧ q = 16) ∨
  (r.dst ≠ ownId s ∧ rtValid (routeOf r.dst s) = true ∧ pathOf r s = some q ∧ (hpOf q s).queue = [] ∧ slotsOf r ≤ laneCredit (hpOf q s) (vlane r) ∧
    unacked (hpOf q s) + flitsOf r ≤ 512)

/-- The response has gone its way. -/
def Sent (q : Nat) (r : FabPkt) (s t : State) : Prop :=
  (q = 16 → (hpOf 16 t).inq.getLast? = some (s.now, r) ∧ t.fabSent = s.fabSent) ∧ (q ≠ 16 → t.fabSent = (q, r) :: s.fabSent)

/-- Nothing of the fabric but its ports, the packets sent and the pieces named has changed. -/
def homeKeeps (s t : State) : Prop :=
  t.ftt = s.ftt ∧ t.gathers = s.gathers ∧ t.routes = s.routes ∧ t.groups = s.groups ∧ t.txids = s.txids ∧ t.epochs = s.epochs ∧ t.epochPend = s.epochPend ∧ t.fabDrop = s.fabDrop

/-- The stream of a request after it has arrived (R312). -/
def StreamSeen (k : FabPkt) (s t : State) : Prop :=
  (streamOf k t).map (fun x => (x.src, x.group)) = some (k.src, if k.type = 3 then some k.group else none) ∧
  (streamOf k t).map (fun x => x.last) = some s.now ∧
  (streamOf k t).map (fun x => x.top) = some (match streamOf k s with
    | none => k.txid
    | some x => if serialLt 32 x.top k.txid then k.txid else x.top) ∧
  (streamOf k s = none → (streamOf k t).map (fun x => x.done) = some [] ∧ (streamOf k t).map (fun x => [look 0 1 x.cur, look 0 2 x.cur, look 0 3 x.cur]) = some [k.epoch, k.epoch, k.epoch]) ∧
  t.streams.length = (if streamOf k s = none then s.streams.length + 1 else s.streams.length)

/-- Combiner b is at a line, whose first request r, at place i, shares no line with an earlier one. -/
def combHead (b line i : Nat) (r : CombReq) (s : State) : Prop :=
  combOf (line * 64) = b ∧ s.comb[i]? = some r ∧ r.pkt.addr = line * 64 ∧ (∀ q ∈ s.comb.take i, q.pkt.addr / 64 ≠ line ∧ shareLine q.pkt r.pkt = false)

/-- What the Duplicate Filter decides (R313): applied, a duplicate, or stale. -/
def filterSays (k : FabPkt) (x : Stream) : Nat :=
  if 4096 ≤ (x.top + 2 ^ 32 - k.txid) % 2 ^ 32 then 1
  else if k.oc ≠ 0 ∧ serialLt 8 k.epoch (look 0 k.oc x.cur) then 2
  else if k.txid ∈ x.done then 1
  else if k.oc ≠ 0 ∧ (lookup k.oc x.high).any (fun h => serialLt 32 k.txid h) then 2 else 0

/-- A request's range lies in one block of T0 that nothing moves. -/
def plainHome (k : FabPkt) (s : State) : Prop :=
  k.addr % 64 = 0 ∧ k.len % 64 = 0 ∧ 64 ≤ k.len ∧ k.len ≤ 4096 ∧ k.addr % 4096 + k.len ≤ 4096 ∧ migOf (k.addr / 2 ^ 21) s = none ∧ s.chanCopy = [] ∧
  entTier (bent (k.addr / 2 ^ 21) s) = 1 ∧ objPoisoned k.addr s = false

/-- What a reduction gives an element (R294). -/
def redGives (rop rtype a b : Nat) : Nat :=
  match rtype, rop with
  | 0, 0 => (fpAdd fp32 a b).1
  | 0, r => (fpMinMax fp32 (decide (r = 2)) a b).1
  | 1, 0 => (fpAdd (fmtOf 5) a b).1
  | 1, r => (fpMinMax (fmtOf 5) (decide (r = 2)) a b).1
  | 2, 0 => (BitVec.ofNat 32 a + BitVec.ofNat 32 b).toNat
  | 2, 1 => if (BitVec.ofNat 32 b).slt (BitVec.ofNat 32 a) then b else a
  | 2, _ => if (BitVec.ofNat 32 a).slt (BitVec.ofNat 32 b) then b else a
  | _, 0 => (BitVec.ofNat 64 a + BitVec.ofNat 64 b).toNat
  | _, 1 => if (BitVec.ofNat 64 b).slt (BitVec.ofNat 64 a) then b else a
  | _, _ => if (BitVec.ofNat 64 a).slt (BitVec.ofNat 64 b) then b else a

/-- Bytes of an element. -/
def redWidth (rtype : Nat) : Nat := if rtype = 1 then 2 else if rtype = 3 then 8 else 4

end Sys2Proof

/-- A request that names an object of a fenced partition, or carries its keys, is answered FENCED and counted; one that fails a check of R298 is
answered NOT_PERMITTED, counted, and logged with the reason of the first check that fails; any other enters its Combiner's queue while that has room,
and waits otherwise. A Combiner serves a line's first request when no earlier one shares a line with it: a load is answered with its data and poison
bits, a store or reduction that the Duplicate Filter lets through is applied and then acknowledged, a duplicate is acknowledged and not applied, a
stale ordered write is neither, and a write that meets poison is answered POISONED. A stream that is idle for IDLE µs frees its entry. -/
def Obligations.HomeRequests : Prop :=
  (∀ (s : State) (p : Fin 17) (i w q f : Nat) (k : FabPkt),
   headIn (isRequest s) p s = some (i, w, k) →
   f ∈ List.range 8 ∧ FencedBy f k s →
   rspWay q (rspOf k 3 0 0 [] s) s →
   Completes (.fabricRequestReceive p) s (fun t =>
     Sent q (rspOf k 3 0 0 [] s) s t ∧ (q ≠ 16 ∨ p ≠ 16 → (hpOf p t).inq = (hpOf p s).inq.eraseIdx i) ∧ t.comb = s.comb ∧ t.streams = s.streams ∧
     liveOf 14 HJF_T_FENCED_COUNT t = min (2 ^ HJF_T_FENCED_COUNT.width - 1) (liveOf 14 HJF_T_FENCED_COUNT s + 1) ∧ flagF HJF_OSTAT_FENCED t = true ∧
     homeKeeps s t ∧ RegsExcept (HJF_OSTAT_FENCED :: vecRegs) s t ∧ Frame [.fabric, .radio, .tallies, .bus] s t)) ∧
  (∀ (s : State) (p : Fin 17) (i w q r e : Nat) (k : FabPkt),
   headIn (isRequest s) p s = some (i, w, k) →
   (∀ f ∈ List.range 8, ¬ FencedBy f k s) →
   firstReason k s = some r →
   rspWay q (rspOf k 1 0 0 [] s) s →
   e = getF HJF_LOGHEAD_NEXT s →
   k.src < 2 ^ 16 ∧ k.key < 2 ^ 32 ∧ k.addr < 2 ^ 43 →
   Completes (.fabricRequestReceive p) s (fun t =>
     Sent q (rspOf k 1 0 0 [] s) s t ∧ (q ≠ 16 ∨ p ≠ 16 → (hpOf p t).inq = (hpOf p s).inq.eraseIdx i) ∧ t.comb = s.comb ∧ t.streams = s.streams ∧
     getF (HJF_LOG_ENT0_ENT e) t = k.src + k.type * 2 ^ 16 + r * 2 ^ 20 + 2 ^ 23 + k.key * 2 ^ 24 ∧
     getF (HJF_LOG_ENT1_ENT e) t = k.addr + ageNow s % 2 ^ 21 * 2 ^ 43 ∧ getF HJF_LOGHEAD_NEXT t = (e + 1) % 32 ∧
     getF HJF_LOGHEAD_TOTAL t = min (2 ^ 24 - 1) (getF HJF_LOGHEAD_TOTAL s + 1) ∧
     liveOf 14 HJF_T_DENIED_COUNT t = min (2 ^ HJF_T_DENIED_COUNT.width - 1) (liveOf 14 HJF_T_DENIED_COUNT s + 1) ∧ flagF HJF_STAT_DENIED t = true ∧
     homeKeeps s t ∧ RegsExcept ([HJF_LOG_ENT0_ENT e, HJF_LOG_ENT1_ENT e, HJF_LOGHEAD_NEXT, HJF_LOGHEAD_TOTAL, HJF_STAT_DENIED] ++ vecRegs) s t ∧
     Frame [.fabric, .radio, .tallies, .bus] s t)) ∧
  (∀ (s : State) (p : Fin 17) (i w : Nat) (k : FabPkt),
   headIn (isRequest s) p s = some (i, w, k) →
   Passes k s →
   combRoom k s = true →
   (streamOf k s).isSome = true ∨ s.streams.length < 8192 →
   earlierWaits p w k s = false →
   Completes (.fabricRequestReceive p) s (fun t =>
     t.comb = s.comb ++ [⟨k, p, none, w⟩] ∧ hpOf p t = { hpOf p s with inq := (hpOf p s).inq.eraseIdx i } ∧ (∀ q ∈ List.range 17, q ≠ p.val → hpOf q t = hpOf q s) ∧
     StreamSeen k s t ∧ k.addr / 64 ∈ t.lineBufs ∧
     ((lineQueue (k.addr / 64) s).length + 1 < getF HJF_COMB_HOT_THR s ∨ k.addr / 64 ∈ s.hotSeen → t.hotSeen = s.hotSeen ∧ RegsExcept [HJF_DF_STREAMS] s t) ∧
     (getF HJF_COMB_HOT_THR s ≤ (lineQueue (k.addr / 64) s).length + 1 ∧ k.addr / 64 ∉ s.hotSeen →
       k.addr / 64 ∈ t.hotSeen ∧ getF HJF_HOT_LINE t = k.addr / 64 * 64 % 2 ^ 43 ∧ getF HJF_HOT_COMB t = combOf (k.addr / 64 * 64) % 16 ∧ flagF HJF_OSTAT_HOTLINE t = true ∧
       liveOf 14 HJF_T_HOTLINE_COUNT t = min (2 ^ HJF_T_HOTLINE_COUNT.width - 1) (liveOf 14 HJF_T_HOTLINE_COUNT s + 1)) ∧
     homeKeeps s t ∧ t.fabSent = s.fabSent ∧ t.fabHeld = s.fabHeld ∧ RegsExcept ([HJF_DF_STREAMS, HJF_HOT_LINE, HJF_HOT_COMB, HJF_OSTAT_HOTLINE] ++ vecRegs) s t ∧
     Frame [.fabric, .tallies, .bus] s t)) ∧
  (∀ (s : State) (p : Fin 17) (i w : Nat) (k : FabPkt),
   headIn (isRequest s) p s = none ∨ (headIn (isRequest s) p s = some (i, w, k) ∧ Passes k s ∧
       (combRoom k s = false ∨ (streamOf k s = none ∧ 8192 ≤ s.streams.length) ∨ earlierWaits p w k s = true)) →
   NoEffect (.fabricRequestReceive p) s) ∧
  (∀ (s : State) (b : Fin 16) (line i q : Nat) (r : CombReq) (x : Stream),
   combHead b line i r s →
   Passes r.pkt s →
   r.gather = none ∧ r.pkt.type = 1 ∧ r.pkt.data.length = r.pkt.len →
   plainHome r.pkt s →
   streamOf r.pkt s = some x →
   filterSays r.pkt x = 0 →
   rspWay q (rspOf r.pkt 0 0 0 [] s) s →
   Completes (.combinerOperation b line) s (fun t =>
     readBytes t.mem (loadAddr r.pkt.addr s) r.pkt.len = r.pkt.data ∧ SameOutside (loadAddr r.pkt.addr s) r.pkt.len s.mem t.mem ∧
     (∀ l ∈ t.poison, l.1 < lineOf (loadAddr r.pkt.addr s) ∨ lineOf (loadAddr r.pkt.addr s) + r.pkt.len / 64 ≤ l.1) ∧
     (streamOf r.pkt t).map (fun y => (y.done, y.top)) = some (r.pkt.txid :: x.done, x.top) ∧
     (r.pkt.oc ≠ 0 → (streamOf r.pkt t).map (fun y => lookup r.pkt.oc y.high) = some (some r.pkt.txid) ∧
       (streamOf r.pkt t).map (fun y => look 0 r.pkt.oc y.cur) = some (if serialLt 8 (look 0 r.pkt.oc x.cur) r.pkt.epoch then r.pkt.epoch else look 0 r.pkt.oc x.cur)) ∧
     t.comb = s.comb.eraseIdx i ∧ Sent q (rspOf r.pkt 0 0 0 [] s) s t ∧ homeKeeps s t ∧ t.scratch = s.scratch ∧ t.bmap = s.bmap ∧ t.objs = s.objs ∧
     RegsExcept [] s t ∧ Frame [.fabric, .mem, .radio, .tallies] s t)) ∧
  (∀ (s : State) (b : Fin 16) (line i q j : Nat) (r : CombReq) (x : Stream),
   combHead b line i r s →
   Passes r.pkt s →
   r.gather = none ∧ r.pkt.type = 2 ∧ r.pkt.data.length = r.pkt.len →
   plainHome r.pkt s →
   anyPoison r.pkt.addr r.pkt.len s = false ∧ anyHeld r.pkt.addr r.pkt.len s = false →
   streamOf r.pkt s = some x →
   filterSays r.pkt x = 0 →
   rspWay q (rspOf r.pkt 0 0 0 [] s) s →
   (j + 1) * redWidth r.pkt.rtype ≤ r.pkt.len →
   Completes (.combinerOperation b line) s (fun t =>
     leNat (readBytes t.mem (loadAddr r.pkt.addr s + j * redWidth r.pkt.rtype) (redWidth r.pkt.rtype)) =
       redGives r.pkt.rop r.pkt.rtype (leNat (readBytes s.mem (loadAddr r.pkt.addr s + j * redWidth r.pkt.rtype) (redWidth r.pkt.rtype)))
         (fieldLE r.pkt.data (j * redWidth r.pkt.rtype) (redWidth r.pkt.rtype)) ∧
     SameOutside (loadAddr r.pkt.addr s) r.pkt.len s.mem t.mem ∧ (streamOf r.pkt t).map (fun y => y.done) = some (r.pkt.txid :: x.done) ∧
     t.comb = s.comb.eraseIdx i ∧ Sent q (rspOf r.pkt 0 0 0 [] s) s t ∧ homeKeeps s t ∧ RegsExcept [] s t ∧ Frame [.fabric, .mem, .radio, .tallies] s t)) ∧
  (∀ (s : State) (b : Fin 16) (line i q : Nat) (r : CombReq),
   combHead b line i r s →
   Passes r.pkt s →
   r.gather = none ∧ r.pkt.type = 0 →
   anyHeld r.pkt.addr r.pkt.len s = false →
   rspWay q (rspOf r.pkt (if anyPoison r.pkt.addr r.pkt.len s then 2 else 0) 0 (poisonBits r.pkt s) (urRead r.pkt.addr r.pkt.len s) s) s →
   r.pkt.addr % 64 = 0 ∧ r.pkt.len % 64 = 0 →
   Completes (.combinerOperation b line) s (fun t =>
     Sent q (rspOf r.pkt (if anyPoison r.pkt.addr r.pkt.len s then 2 else 0) 0 (poisonBits r.pkt s) (urRead r.pkt.addr r.pkt.len s) s) s t ∧
     t.comb = s.comb.eraseIdx i ∧ t.streams = s.streams ∧ homeKeeps s t ∧ RegsExcept [] s t ∧ Frame [.fabric, .radio, .tallies] s t)) ∧
  (∀ (s : State) (b : Fin 16) (line i q : Nat) (r : CombReq) (x : Stream),
   combHead b line i r s →
   Passes r.pkt s →
   r.gather = none ∧ r.pkt.type = 1 →
   plainHome r.pkt s →
   streamOf r.pkt s = some x →
   filterSays r.pkt x ≠ 0 →
   (filterSays r.pkt x = 1 → rspWay q (rspOf r.pkt 0 0 0 [] s) s) →
   Completes (.combinerOperation b line) s (fun t =>
     t.mem = s.mem ∧ t.streams = s.streams ∧ t.comb = s.comb.eraseIdx i ∧
     (filterSays r.pkt x = 1 → Sent q (rspOf r.pkt 0 0 0 [] s) s t ∧ liveOf 14 HJF_T_DUP_COUNT t = min (2 ^ HJF_T_DUP_COUNT.width - 1) (liveOf 14 HJF_T_DUP_COUNT s + 1) ∧ RegsExcept [] s t) ∧
     (filterSays r.pkt x = 2 → t.fabSent = s.fabSent ∧ t.hport = s.hport ∧ flagF HJF_OSTAT_STALE t = true ∧
       liveOf 14 HJF_T_STALE_COUNT t = min (2 ^ HJF_T_STALE_COUNT.width - 1) (liveOf 14 HJF_T_STALE_COUNT s + 1)) ∧
     homeKeeps s t ∧ RegsExcept (HJF_OSTAT_STALE :: vecRegs) s t ∧ Frame [.fabric, .radio, .tallies, .bus] s t)) ∧
  (∀ (s : State) (b : Fin 16) (line i q st : Nat) (r : CombReq),
   combHead b line i r s →
   r.gather = none →
   (st = 3 ∧ (∃ f ∈ List.range 8, FencedBy f r.pkt s)) ∨
     (st = 2 ∧ Passes r.pkt s ∧ (r.pkt.type = 1 ∨ r.pkt.type = 2) ∧ storable r.pkt.addr r.pkt.len s = true ∧ (r.pkt.type = 2 → anyHeld r.pkt.addr r.pkt.len s = false) ∧ writePoison r.pkt s = true) →
   rspWay q (rspOf r.pkt st 0 0 [] s) s →
   Completes (.combinerOperation b line) s (fun t =>
     Sent q (rspOf r.pkt st 0 0 [] s) s t ∧ t.mem = s.mem ∧ t.streams = s.streams ∧ t.comb = s.comb.eraseIdx i ∧ homeKeeps s t ∧
     RegsExcept (HJF_OSTAT_FENCED :: vecRegs) s t ∧ Frame [.fabric, .radio, .tallies, .bus] s t)) ∧
  (∀ (s : State) (b : Fin 16) (line i : Nat) (r : CombReq),
   combOf (line * 64) ≠ b.val ∨ (∀ r ∈ s.comb, r.pkt.addr / 64 ≠ line) ∨
     (s.comb[i]? = some r ∧ r.pkt.addr / 64 = line ∧ (∀ q ∈ s.comb.take i, q.pkt.addr / 64 ≠ line) ∧ (s.comb.take i).any (fun q => shareLine q.pkt r.pkt) = true) →
   NoEffect (.combinerOperation b line) s) ∧
  (∀ (s : State) (src : Nat) (g : Option Nat),
   s.streams.all (fun x => !(decide ((x.src, x.group) = (src, g)))) = false →
   Completes (.streamEntryIdle src g) s (fun t =>
     t.streams = s.streams.filter (fun x => decide (x.src ≠ src) || decide (x.group ≠ g) || decide (s.now < x.last + getF HJF_DF_IDLE s * 1000 * 1536)) ∧
     getF HJF_DF_STREAMS t = t.streams.length % 2 ^ 14 ∧ t.toFabricState = { s.toFabricState with streams := t.streams } ∧ RegsExcept [HJF_DF_STREAMS] s t ∧ Frame [.fabric] s t))

namespace Sys2Proof

/-- Port q sends packet k now: it is UP, holds nothing back, and has the credits and the replay room. -/
def goesOut (q : Nat) (k : FabPkt) (s : State) : Prop :=
  portUp q s = true ∧ (hpOf q s).queue = [] ∧ slotsOf k ≤ laneCredit (hpOf q s) (vlane k) ∧ unacked (hpOf q s) + flitsOf k ≤ 512

/-- The first multicast of port p's arrivals is k. -/
def mcastHead (p i w : Nat) (k : FabPkt) (s : State) : Prop := headIn (fun j => decide (j.type = 3)) p s = some (i, w, k)

/-- The number of the next gather entry. -/
def nextGather (s : State) : Nat := (s.gathers.map (fun g => g.id)).foldl max 0 + 1

end Sys2Proof

/-- A multicast without a valid group entry is answered with a count of 0; with one it takes a gather entry that waits for each copy sent and, where
LOCAL is 1, for its own store; a copy goes out on every port of the group but the one it came in on, with its TTL lowered at a forwarding device and
its hop class raised where HOPINC says so; the local store is queued, or refused and counted out. It waits while no gather entry or no queue room is
free. A gather entry with nothing left to wait for sends one ACK with the highest status and the sum of the counts. -/
def Obligations.Multicasts : Prop :=
  (∀ (s : State) (p : Fin 17) (i w : Nat) (k : FabPkt),
   mcastHead p i w k s →
   bitAt 12 (groupOf k.group s) = false →
   p = 16 ∨ goesOut p { rspOf k 0 0 0 [] s with group := 0 } s →
   Completes (.mcastReceive p) s (fun t =>
     (p = 16 → hpOf 16 t = { hpOf 16 s with inq := (hpOf 16 s).inq.eraseIdx i ++ [(s.now, rspOf k 0 0 0 [] s)] } ∧ t.fabSent = s.fabSent) ∧
     (p ≠ 16 → t.fabSent = (p.val, { rspOf k 0 0 0 [] s with group := 0 }) :: s.fabSent ∧ (hpOf p t).inq = (hpOf p s).inq.eraseIdx i) ∧
     homeKeeps s t ∧ t.comb = s.comb ∧ t.streams = s.streams ∧ RegsExcept [] s t ∧ Frame [.fabric, .radio, .tallies] s t)) ∧
  (∀ (s : State) (p : Fin 17) (i w q : Nat) (k c : FabPkt) (e : Nat),
   mcastHead p i w k s →
   e = groupOf k.group s ∧ bitAt 12 e = true →
   s.gathers.length < 4096 →
   (List.range 16).filter (fun j => bitAt (16 + j) e && decide (j ≠ p.val)) = [q] →
   c = { k with ttl := if p = 16 then k.ttl else k.ttl - 1, hop := if bitAt 14 e then k.hop + 1 else k.hop } →
   c.ttl ≠ 0 ∧ c.hop ≤ 3 →
   goesOut q c s →
   k.src ≠ ownId s ∨ p = 16 ∧ (∀ f ∈ s.ftt, f.sent ≠ none) →
   (bitAt 13 e = true → Passes k s ∧ combRoom k s = true ∧ ((streamOf k s).isSome = true ∨ s.streams.length < 8192) ∧ (lineQueue (k.addr / 64) s).length + 1 < getF HJF_COMB_HOT_THR s) →
   Completes (.mcastReceive p) s (fun t =>
     t.gathers = s.gathers ++ [⟨nextGather s, k, p, if bitAt 13 e then [q, 16] else [q], 0, 0⟩] ∧ t.fabSent = (q, c) :: s.fabSent ∧
     (hpOf p t).inq = (hpOf p s).inq.eraseIdx i ∧
     (bitAt 13 e = true → t.comb = s.comb ++ [⟨k, p, some (nextGather s), w⟩] ∧ StreamSeen k s t) ∧ (bitAt 13 e = false → t.comb = s.comb ∧ t.streams = s.streams) ∧
     (hpOf q t).replay = (hpOf q s).replay ++ [(((hpOf q s).seq + flitsOf c + 1023) % 1024, c)] ∧ t.fabDrop = s.fabDrop ∧ t.routes = s.routes ∧ t.groups = s.groups ∧
     RegsExcept [HJF_DF_STREAMS] s t ∧ Frame [.fabric, .radio, .tallies] s t)) ∧
  (∀ (s : State) (p : Fin 17) (i w : Nat) (k : FabPkt) (e : Nat),
   mcastHead p i w k s →
   e = groupOf k.group s ∧ bitAt 12 e = true ∧ bitAt 13 e = true →
   s.gathers.length < 4096 →
   (List.range 16).filter (fun j => bitAt (16 + j) e && decide (j ≠ p.val)) = [] →
   (∀ f ∈ List.range 8, ¬ FencedBy f k s) →
   firstReason k s ≠ none →
   Completes (.mcastReceive p) s (fun t =>
     t.gathers.take s.gathers.length = s.gathers.map (fun x => if x.id = nextGather s then { x with wait := x.wait.filter (fun j => decide (j ≠ 16)), status := max x.status 1 } else x) ∧
     t.gathers.drop s.gathers.length = [⟨nextGather s, k, p, [], 1, 0⟩] ∧ (hpOf p t).inq = (hpOf p s).inq.eraseIdx i ∧
     t.comb = s.comb ∧ t.streams = s.streams ∧ t.fabSent = s.fabSent ∧ flagF HJF_STAT_DENIED t = true ∧
     liveOf 14 HJF_T_DENIED_COUNT t = min (2 ^ HJF_T_DENIED_COUNT.width - 1) (liveOf 14 HJF_T_DENIED_COUNT s + 1) ∧
     RegsExcept ([HJF_LOG_ENT0_ENT (getF HJF_LOGHEAD_NEXT s), HJF_LOG_ENT1_ENT (getF HJF_LOGHEAD_NEXT s), HJF_LOGHEAD_NEXT, HJF_LOGHEAD_TOTAL, HJF_STAT_DENIED] ++ vecRegs) s t ∧
     Frame [.fabric, .tallies, .bus] s t)) ∧
  (∀ (s : State) (p : Fin 17) (i w : Nat) (k : FabPkt),
   headIn (fun j => decide (j.type = 3)) p s = none ∨ (mcastHead p i w k s ∧ bitAt 12 (groupOf k.group s) = true ∧ (4096 ≤ s.gathers.length ∨
       (bitAt 13 (groupOf k.group s) = true ∧ Passes k s ∧ (combRoom k s = false ∨ streamRoom k s = false)))) →
   NoEffect (.mcastReceive p) s) ∧
  (∀ (s : State) (n : Nat) (g : Gather),
   s.gathers.find? (fun x => decide (x.id = n) && x.wait.isEmpty) = some g →
   g.port = 16 ∨ goesOut g.port { rspOf g.req g.status g.count 0 [] s with group := 0 } s →
   g.req.type = 3 →
   Completes (.mcastGatherComplete n) s (fun t =>
     t.gathers = s.gathers.filter (fun x => decide (x.id ≠ n)) ∧
     (g.port = 16 → hpOf 16 t = { hpOf 16 s with inq := (hpOf 16 s).inq ++ [(s.now, rspOf g.req g.status g.count 0 [] s)] } ∧ t.fabSent = s.fabSent) ∧
     (g.port ≠ 16 → t.fabSent = (g.port, { rspOf g.req g.status g.count 0 [] s with group := 0 }) :: s.fabSent) ∧
     t.ftt = s.ftt ∧ t.comb = s.comb ∧ t.streams = s.streams ∧ RegsExcept [] s t ∧ Frame [.fabric, .radio, .tallies] s t)) ∧
  (∀ (s : State) (n : Nat),
   (∀ x ∈ s.gathers, x.id ≠ n ∨ x.wait ≠ []) →
   NoEffect (.mcastGatherComplete n) s)

namespace Sys2Proof

/-- Controller k's patrol reads line l, which lies in T0 and has no mark. -/
def patrolAt (k l : Nat) (s : State) : Prop :=
  getF (MEMC_SCRUB_Tn_PERIOD (ctlTier k - 1)) s ≠ 0 ∧ inReset s = false ∧ patrolNext k s = some l ∧ ctlOf (l * 64) s = k

/-- The pass that controller k's patrol is in has run past its period and has not been reported. -/
def patrolLate (k l : Nat) (s : State) : Bool :=
  (lookup k s.patrol).any (fun x => decide (x < l)) && decide (look 0 k s.patrolStart % 2 = 0) &&
    decide (look 0 k s.patrolStart / 2 + getF (MEMC_SCRUB_Tn_PERIOD (ctlTier k - 1)) s * 60 * 10 ^ 9 * 1536 < s.now)

/-- The patrol stands at line l, and says so where its pass is late. -/
def PatrolMoved (k l : Nat) (s t : State) : Prop :=
  lookup k t.patrol = some l ∧ (∀ j ∈ s.patrol.map Prod.fst, j ≠ k → lookup j t.patrol = lookup j s.patrol) ∧
  ((lookup k s.patrol).all (fun x => decide (l ≤ x)) = true → look 0 k t.patrolStart = s.now * 2) ∧
  (patrolLate k l s = true → flagF MEMC_STAT_SCRUB_SLOW t = true ∧ look 0 k t.patrolStart = look 0 k s.patrolStart + 1) ∧
  (patrolLate k l s = false → getF MEMC_STAT_SCRUB_SLOW t = getF MEMC_STAT_SCRUB_SLOW s)

/-- The log of controller k has taken an entry for line l of T0 (R266). -/
def MemLogged (k l syms : Nat) (ue : Bool) (s t : State) : Prop :=
  getF (MEMC_LOG_ENT0_ENT k (getF (MEMC_Xk_LOGHEAD_NEXT k) s)) t =
    (1 + l * 64 % 2 ^ 43 / 2 ^ 21 * 2 ^ 2 + l * 64 % 2 ^ 21 / 64 * 2 ^ 23 + syms * 2 ^ 38 + 1 * 2 ^ 44 + b2n ue * 2 ^ 47 + getF AIR_DEFAULT_TD_TD s * 2 ^ 48 + 2 ^ 63) % 2 ^ 64 ∧
  getF (MEMC_LOG_ENT1_ENT k (getF (MEMC_Xk_LOGHEAD_NEXT k) s)) t = counter (getF AIR_DEFAULT_TD_TD s) s % 2 ^ 64 ∧
  getF (MEMC_Xk_LOGHEAD_NEXT k) t = (getF (MEMC_Xk_LOGHEAD_NEXT k) s + 1) % 2 ^ (MEMC_Xk_LOGHEAD_NEXT k).width ∧
  getF (MEMC_Xk_LOGHEAD_TOTAL k) t = min (2 ^ (MEMC_Xk_LOGHEAD_TOTAL k).width - 1) (getF (MEMC_Xk_LOGHEAD_TOTAL k) s + 1)

/-- The registers that a logged read of controller k may change. -/
def memLogRegs (k : Nat) (s : State) : List Fld :=
  [MEMC_LOG_ENT0_ENT k (getF (MEMC_Xk_LOGHEAD_NEXT k) s), MEMC_LOG_ENT1_ENT k (getF (MEMC_Xk_LOGHEAD_NEXT k) s), MEMC_Xk_LOGHEAD_NEXT k, MEMC_Xk_LOGHEAD_TOTAL k,
    MEMC_STAT_SCRUB_SLOW] ++ vecRegs

end Sys2Proof

/-- A patrol read takes the next line of its controller in ascending order, or begins again, and sets SCRUB_SLOW once in a pass that has run past its
period; a line corrected by its code is counted, logged and called for repair at CE_THR; an uncorrectable one is marked, counted and logged, and its
block and object are POISONED where it is mapped; a clean or marked line changes nothing else. A T2 page buffer that has not been written for 2 µs is
written out. MEMC_SCRUB period 0 stops the patrol; SCRUB_SLOW is set at the first read past the period (the model's choices, in the assumption log).
-/
def Obligations.PatrolAndPageBuffers : Prop :=
  (∀ (s : State) (k : Fin 32) (l : Nat) (errs : List Nat),
   patrolAt k l s →
   k.val < 4 ∧ l * 64 / 2 ^ 43 = 1 →
   marked (l * 64) s = false →
   (∀ e ∈ errs, e ≤ 1) ∧ 0 < errs.sum →
   Completes (.patrolRead k errs false none) s (fun t =>
     PatrolMoved k l s t ∧ MemLogged k l (min 62 errs.sum) false s t ∧ flagF MEMC_STAT_CE t = true ∧
     liveOf 12 (MEMC_Xk_CE_COUNT k) t = min (2 ^ (MEMC_Xk_CE_COUNT k).width - 1) (liveOf 12 (MEMC_Xk_CE_COUNT k) s + 1) ∧
     look 0 (Config.rowOf l) t.ceRows = look 0 (Config.rowOf l) s.ceRows + 1 ∧
     lookup (Config.rowOf l) t.repairs = (if getF FLT_SPARE_CFG_CE_THR s ≤ look 0 (Config.rowOf l) s.ceRows + 1 then some 1 else lookup (Config.rowOf l) s.repairs) ∧
     t.toMemState = { s.toMemState with patrol := t.patrol, patrolStart := t.patrolStart, ceRows := t.ceRows, repairs := t.repairs } ∧
     RegsExcept (MEMC_STAT_CE :: memLogRegs k s) s t ∧ Frame [.mem, .tallies, .bus] s t)) ∧
  (∀ (s : State) (k : Fin 32) (l b : Nat) (o : Obj) (errs : List Nat),
   patrolAt k l s →
   k.val < 4 ∧ l * 64 / 2 ^ 43 = 1 →
   marked (l * 64) s = false →
   errs.foldl max 0 = 2 →
   blockOf 1 (l * 64 % 2 ^ 43 / 2 ^ 21) s = some b →
   lookup (entObj (bent b s)) s.objs = some o →
   o.st = 1 ∧ o.recon = false ∧ bitAt 59 (bent b s) = false ∧ entTier (bent b s) ≠ 0 →
   Completes (.patrolRead k errs false none) s (fun t =>
     PatrolMoved k l s t ∧ MemLogged k l 63 true s t ∧ flagF MEMC_STAT_UE t = true ∧ lookup l t.poison = some 1 ∧
     (∀ x ∈ s.poison.map Prod.fst, x ≠ l → lookup x t.poison = lookup x s.poison) ∧ bent b t = bent b s + 2 ^ 59 ∧
     lookup (entObj (bent b s)) t.objs = some { o with st := 4, ue := false } ∧
     liveOf 12 (MEMC_Xk_UE_COUNT k) t = min (2 ^ (MEMC_Xk_UE_COUNT k).width - 1) (liveOf 12 (MEMC_Xk_UE_COUNT k) s + 1) ∧
     liveOf 12 MEMC_T_POISON_COUNT t = min (2 ^ MEMC_T_POISON_COUNT.width - 1) (liveOf 12 MEMC_T_POISON_COUNT s + 1) ∧
     t.mem = s.mem ∧ t.ceRows = s.ceRows ∧ t.repairs = s.repairs ∧ RegsExcept ([MEMC_STAT_UE, MEMC_REFETCH_ACTIVE] ++ memLogRegs k s) s t ∧ Frame [.mem, .tallies, .bus] s t)) ∧
  (∀ (s : State) (k : Fin 32) (l : Nat) (errs : List Nat) (addr : Bool),
   patrolAt k l s →
   marked (l * 64) s = true ∨ (errs.sum = 0 ∧ addr = false) →
   Completes (.patrolRead k errs addr none) s (fun t =>
     PatrolMoved k l s t ∧ t.toMemState = { s.toMemState with patrol := t.patrol, patrolStart := t.patrolStart } ∧
     RegsExcept (MEMC_STAT_SCRUB_SLOW :: vecRegs) s t ∧ Frame [.mem, .tallies, .bus] s t)) ∧
  (∀ (s : State) (k : Fin 32) (w : TwinLine) (x : Cell) (errs : List Nat) (addr : Bool),
   getF (MEMC_SCRUB_Tn_PERIOD (ctlTier k - 1)) s ≠ 0 ∧ inReset s = false →
   lookup w.cell s.cells = some x →
   x.okA = true ∧ x.okB = true ∧ w.badA = true ∧ w.badB = false →
   Completes (.patrolRead k errs addr (some w)) s (fun t =>
     liveOf 5 COD_TWIN_REPAIR_COUNT t = min (2 ^ COD_TWIN_REPAIR_COUNT.width - 1) (liveOf 5 COD_TWIN_REPAIR_COUNT s + 1) ∧ flagF COD_STAT_TWIN_REPAIR t = true ∧
     t.cells = s.cells ∧ RegsExcept (COD_STAT_TWIN_REPAIR :: vecRegs) s t ∧ Frame [.tallies, .bus] s t)) ∧
  (∀ (s : State) (k : Fin 32) (w : Option TwinLine) (errs : List Nat) (addr : Bool),
   getF (MEMC_SCRUB_Tn_PERIOD (ctlTier k - 1)) s = 0 ∨ inReset s = true →
   NoEffect (.patrolRead k errs addr w) s) ∧
  (∀ (s : State) (chan page : Nat),
   Completes (.pageBufferWriteout chan page) s (fun t =>
     t.toMemState = { s.toMemState with pageBufs := s.pageBufs.filter (fun x => decide (x.1 ≠ chan) || decide (x.2.1 ≠ page) || decide (s.now < x.2.2 + 2000 * 1536)) } ∧
     RegsExcept [] s t ∧ Frame [.mem] s t))

namespace Sys2Proof

/-- Object i, o, is REFETCHING, and a unit of it, whose fetches have failed k times, lies in T0 and takes stores. -/
def refetching (i unit k : Nat) (o : Obj) (s : State) : Prop :=
  lookup i s.objs = some o ∧ o.st = 5 ∧ lookup unit o.units = some k ∧ storable (o.block * 2 ^ 21 + unit * 4096) 4096 s = true

/-- The unit lies in T0, in a block that nothing moves. -/
def plainUnit (o : Obj) (unit : Nat) (s : State) : Prop :=
  migOf (o.block + unit / 512) s = none ∧ s.chanCopy = [] ∧ entTier (bent (o.block + unit / 512) s) = 1 ∧ objPoisoned (o.block * 2 ^ 21 + unit * 4096) s = false

/-- Byte x of a unit. -/
def unitByte (o : Obj) (unit x : Nat) : Nat := o.block * 2 ^ 21 + unit * 4096 + x

/-- The data l have gone into the marked lines of a unit, and nowhere else. -/
def UnitWritten (o : Obj) (unit : Nat) (l : List Byte) (s t : State) : Prop :=
  ((List.range 4096).all (fun x => decide (readByte t.mem (loadAddr (unitByte o unit x) s) =
    if marked (loadAddr (unitByte o unit x) s) s then l.getD x 0 else readByte s.mem (loadAddr (unitByte o unit x) s)))) = true ∧
  SameOutside (loadAddr (unitByte o unit 0) s) 4096 s.mem t.mem ∧
  (∀ k ∈ t.poison, k.1 < lineOf (loadAddr (unitByte o unit 0) s) ∨ lineOf (loadAddr (unitByte o unit 0) s) + 64 ≤ k.1)

/-- Object i has become POISONED, and what it held is answered. -/
def RefetchFailed (i : Nat) (o : Obj) (s t : State) : Prop :=
  lookup i t.objs = some { o with st := 4, units := [], since := 0 } ∧ t.mem = s.mem ∧ t.poison = s.poison ∧ t.bmap = s.bmap ∧ flagF MEMC_STAT_REFETCH_FAIL t = true ∧
  liveOf 12 MEMC_T_REFAIL_COUNT t = min (2 ^ MEMC_T_REFAIL_COUNT.width - 1) (liveOf 12 MEMC_T_REFAIL_COUNT s + 1)

/-- The registers that the end of a refetch may change. -/
def refetchRegs : List Fld := [MEMC_REFETCH_ACTIVE, MEMC_STAT_REFETCH_FAIL] ++ vecRegs

end Sys2Proof

/-- The data of a unit of a REFETCHING object are written into the lines of the unit that still carry a mark, which they clear, from host memory for
BKIND 1 and from the fabric for BKIND 2; with the last unit the object is SETTLED, its blocks lose POISON, and the reads held on it are served. A
fetch that fails is made once more; a second failure, or the Refetch Bound, makes the object POISONED and sets REFETCH_FAIL. -/
def Obligations.Refetches : Prop :=
  (∀ (s : State) (i unit k : Nat) (o : Obj) (l : List Byte),
   refetching i unit k o s →
   plainUnit o unit s →
   o.units = [(unit, k)] →
   s.fabHeld = [] →
   o.bkind = 2 ∧ l.length = 4096 →
   Completes (.refetchUnitArrive i unit (some l)) s (fun t =>
     UnitWritten o unit l s t ∧ lookup i t.objs = some { o with st := 1, units := [], since := 0 } ∧ (∀ j ∈ s.objs.map Prod.fst, j ≠ i → lookup j t.objs = lookup j s.objs) ∧
     (∀ b ∈ List.range (ceilDiv o.len 512), bitAt 59 (bent (o.block + b) t) = false) ∧ t.scratch = s.scratch ∧ t.radioMem = s.radioMem ∧
     liveOf 12 MEMC_T_REFETCH_COUNT t = min (2 ^ MEMC_T_REFETCH_COUNT.width - 1) (liveOf 12 MEMC_T_REFETCH_COUNT s + 1) ∧
     RegsExcept [MEMC_REFETCH_ACTIVE] s t ∧ Frame [.mem, .tallies] s t)) ∧
  (∀ (s : State) (i unit k : Nat) (o : Obj) (l : List Byte),
   refetching i unit k o s →
   plainUnit o unit s →
   o.units.filter (fun u => decide (u.1 ≠ unit)) ≠ [] →
   s.fabHeld = [] →
   o.bkind = 1 ∧ mayMaster (partFunc o.part s) s = true →
   Completes (.refetchUnitArrive i unit (some l)) s (fun t =>
     UnitWritten o unit (readBytes s.hostMem (o.baddr + unit * 4096) 4096) s t ∧ lookup i t.objs = some { o with units := o.units.filter (fun u => decide (u.1 ≠ unit)) } ∧
     t.bmap = s.bmap ∧ t.scratch = s.scratch ∧ t.radioMem = s.radioMem ∧ RegsExcept [] s t ∧ Frame [.mem] s t)) ∧
  (∀ (s : State) (i unit k : Nat) (o : Obj) (r : CombReq) (l : List Byte),
   refetching i unit k o s →
   plainUnit o unit s →
   o.units = [(unit, k)] →
   o.bkind = 2 ∧ l.length = 4096 →
   s.fabHeld = [r] →
   r.pkt.type = 0 ∧ r.gather = none ∧ r.pkt.addr % 64 = 0 ∧ 64 ≤ r.pkt.len ∧ r.pkt.len % 64 = 0 ∧ r.pkt.addr % 4096 + r.pkt.len ≤ 4096 →
   r.pkt.addr / 4096 = o.block * 512 + unit ∧ entObj (bent (o.block + unit / 512) s) = i →
   (∀ p ∈ List.range 8, ¬ FencedBy p r.pkt s) ∧ firstReason r.pkt s = none →
   r.pkt.src = ownId s →
   Completes (.refetchUnitArrive i unit (some l)) s (fun t =>
     t.fabHeld = [] ∧ lookup i t.objs = some { o with st := 1, units := [], since := 0 } ∧
     (hpOf 16 t).inq = (hpOf 16 s).inq ++ [(s.now, rspOf r.pkt 0 0 0 (urRead r.pkt.addr r.pkt.len t) s)] ∧ t.fabSent = s.fabSent)) ∧
  (∀ (s : State) (i unit k : Nat) (o : Obj),
   refetching i unit k o s →
   s.fabHeld = [] →
   o.bkind = 2 →
   Completes (.refetchUnitArrive i unit none) s (fun t =>
     (k = 0 → lookup i t.objs = some { o with units := o.units.map (fun u => if u.1 = unit then (unit, 1) else u) } ∧ t.mem = s.mem ∧ t.poison = s.poison ∧ t.bmap = s.bmap ∧
       RegsExcept [] s t) ∧
     (k ≠ 0 → RefetchFailed i o s t) ∧ RegsExcept refetchRegs s t ∧ Frame [.mem, .tallies, .bus] s t)) ∧
  (∀ (s : State) (i : Nat) (o : Obj),
   lookup i s.objs = some o →
   o.st = 5 →
   s.fabHeld = [] →
   (o.since + getF MEMC_REFETCH_BOUND s * 100000 * 1536 ≤ s.now →
       Completes (.refetchBoundExpiry i) s (fun t => RefetchFailed i o s t ∧ RegsExcept refetchRegs s t ∧ Frame [.mem, .tallies, .bus] s t)) ∧
     (s.now < o.since + getF MEMC_REFETCH_BOUND s * 100000 * 1536 → NoEffect (.refetchBoundExpiry i) s))

namespace Sys2Proof

/-- Function f sees unit u and may access its registers. -/
def chkAccess (f u : Nat) (s : State) : Prop := hostUp f s = true ∧ (f = 0 ∨ funcPart f s = some (chkOwner u s))

/-- The fields that a CTRL write w of function f gives unit u (R277). -/
def ChkSet (f u w : Nat) (s t : State) : Prop :=
  getF (CHK_Uu_CTRL_RESEED u) t = w / 4 % 2 ∧ getF (CHK_Uu_CTRL_MODE u) t = w / 8 % 2 ∧ getF (CHK_Uu_CTRL_CMP u) t = w / 16 % 2 ∧
  getF (CHK_Uu_CTRL_OWNER u) t = (if f = 0 ∧ 4 ≤ u % 16 then w / 256 % 16 else getF (CHK_Uu_CTRL_OWNER u) s)

/-- RESULT shows RUN XOR XOROUT (R274). -/
def chkShown (u : Nat) (t : State) : Prop :=
  getF (CHK_Uu_RESULT_RESULT u) t = getF (CHK_Uu_RUN_RUN u) t ^^^ (if getF (CHK_Uu_CTRL_MODE u) t = 0 then 0xFFFFFFFF else 0)

/-- RUN as RESEED loads it (R274). -/
def chkSeedOf (mode a : Nat) : Nat := if mode = 0 then 0xFFFFFFFF ^^^ ((a % 2 ^ 32) ^^^ (a / 2 ^ 32)) else a

/-- The first n bytes of unit u's scan can be read: they are its partition's, in T0, neither poisoned nor held. -/
def chkReadable (u n : Nat) (s : State) : Prop :=
  (partSt (chkOwner u s) s ≠ 2 ∨ 8 ≤ chkOwner u s) ∧ rangeOk (chkOwner u s) false (getF (CHK_Uu_START_START u) s) n s = true ∧
  (∀ l ∈ linesOf (getF (CHK_Uu_START_START u) s) n, poisoned l s = false ∧ readHeld l s = false ∧ regulFor l s = none)

/-- The registers that a scan of unit u may change. -/
def chkRegs (u : Nat) : List Fld :=
  [CHK_Uu_STAT_STATE u, CHK_Uu_STAT_ERR u, CHK_Uu_STAT_MATCH u, CHK_Uu_START_START u, CHK_Uu_LEN_LEN u, CHK_Uu_RUN_RUN u, CHK_Uu_RESULT_RESULT u, CHK_DONE_UNIT,
    CHK_STAT_DONE, CHK_STAT_ERR] ++ vecRegs

/-- The unit has read n bytes. -/
def ChkRead (u n : Nat) (s t : State) : Prop :=
  getF (CHK_Uu_RUN_RUN u) t = chkFeed (getF (CHK_Uu_CTRL_MODE u) s) (getF (CHK_Uu_RUN_RUN u) s) (urRead (getF (CHK_Uu_START_START u) s) n s) % 2 ^ 64 ∧
  getF (CHK_Uu_START_START u) t = (getF (CHK_Uu_START_START u) s + n) % 2 ^ 43 ∧ getF (CHK_Uu_LEN_LEN u) t = getF (CHK_Uu_LEN_LEN u) s - n

/-- The fields of CTRL that a write touches. -/
def chkCtrlRegs (u : Nat) : List Fld := [CHK_Uu_CTRL_RESEED u, CHK_Uu_CTRL_MODE u, CHK_Uu_CTRL_CMP u, CHK_Uu_CTRL_OWNER u]

end Sys2Proof

/-- GO on a unit at rest gives the fields of the write, STATE 1 with ERR and MATCH clear, and with RESEED loads RUN from SEEDADDR; with LEN 0 it gives
STATE 4 with ERR 3. A scan reads on to its end: RUN is the CRC of the bytes read, START and LEN have moved over them, STATE is 3, MATCH says with CMP
whether RESULT equals EXPECT, and the unit's bit of CHK_DONE is set; at a line that fails a check, is poisoned or belongs to a FENCED partition it
stops with STATE 4 and the code. STOP stops a running scan at the next 64-byte boundary with STATE 2; GO and STOP together are STOP alone; a GO while
the scan runs is ignored and sets REFUSED. A STOP that does not repeat the fields in force also sets REFUSED (DEDUCED, log entry 22). -/
def Obligations.CheckUnits : Prop :=
  (∀ (s : State) (f : Fin 33) (u : Fin 64) (w : BitVec 32),
   chkAccess f u s →
   getF (CHK_Uu_STAT_STATE u) s ≠ 1 →
   w.toNat % 4 = 1 →
   Completes (.chkGo f u w) s (fun t =>
     ChkSet f u w.toNat s t ∧
     (getF (CHK_Uu_LEN_LEN u) s ≠ 0 → getF (CHK_Uu_STAT_STATE u) t = 1 ∧ getF (CHK_Uu_STAT_ERR u) t = 0 ∧ getF (CHK_Uu_STAT_MATCH u) t = 0 ∧ chkShown u t ∧
       getF (CHK_Uu_RUN_RUN u) t = (if w.toNat / 4 % 2 = 1 then chkSeedOf (w.toNat / 8 % 2) (getF (CHK_Uu_SEEDADDR_A u) s) else getF (CHK_Uu_RUN_RUN u) s) ∧
       RegsExcept (chkCtrlRegs u ++ [CHK_Uu_STAT_STATE u, CHK_Uu_STAT_ERR u, CHK_Uu_STAT_MATCH u, CHK_Uu_RUN_RUN u, CHK_Uu_RESULT_RESULT u]) s t) ∧
     (getF (CHK_Uu_LEN_LEN u) s = 0 → getF (CHK_Uu_STAT_STATE u) t = 4 ∧ getF (CHK_Uu_STAT_ERR u) t = 3 ∧ flagF CHK_STAT_ERR t = true ∧
       RegsExcept (chkCtrlRegs u ++ [CHK_Uu_STAT_STATE u, CHK_Uu_STAT_ERR u, CHK_Uu_RESULT_RESULT u, CHK_STAT_ERR] ++ vecRegs) s t) ∧
     Frame [.tallies, .bus] s t)) ∧
  (∀ (s : State) (f : Fin 33) (u : Fin 64) (w : BitVec 32) (lines : Nat) (c : Instr),
   (c = .chkGo f u w ∧ w.toNat % 4 = 3) ∨ (c = .chkStop f u w lines ∧ w.toNat / 2 % 2 = 1) →
   chkAccess f u s →
   getF (CHK_Uu_STAT_STATE u) s ≠ 1 →
   Completes c s (fun t => ChkSet f u w.toNat s t ∧ chkShown u t ∧ RegsExcept (chkCtrlRegs u ++ [CHK_Uu_RESULT_RESULT u]) s t ∧ Frame [] s t)) ∧
  (∀ (s : State) (f : Fin 33) (u : Fin 64) (w : BitVec 32),
   chkAccess f u s →
   getF (CHK_Uu_STAT_STATE u) s = 1 →
   w.toNat % 4 = 1 →
   Completes (.chkGo f u w) s (fun t => getF (CHK_Uu_STAT_REFUSED u) t = 1 ∧ RegsExcept [CHK_Uu_STAT_REFUSED u] s t ∧ Frame [] s t)) ∧
  (∀ (s : State) (f : Fin 33) (u : Fin 64) (w : BitVec 32) (lines : Nat) (c : Instr),
   c = .chkGo f u w ∨ c = .chkStop f u w lines →
   hostUp f s = false ∨ (f ≠ 0 ∧ funcPart f s ≠ some (chkOwner u s)) →
   NoEffect c s) ∧
  (∀ (s : State) (f : Fin 33) (u : Fin 64) (w : BitVec 32) (lines n : Nat),
   chkAccess f u s →
   getF (CHK_Uu_STAT_STATE u) s = 1 →
   w.toNat / 2 % 2 = 1 →
   n = (if getF (CHK_Uu_START_START u) s % 64 = 0 then 64 * lines else 64 * max 1 lines - getF (CHK_Uu_START_START u) s % 64) →
   n < getF (CHK_Uu_LEN_LEN u) s →
   n = 0 ∨ chkReadable u n s →
   Completes (.chkStop f u w lines) s (fun t =>
     ChkRead u n s t ∧ getF (CHK_Uu_STAT_STATE u) t = 2 ∧ (n ≠ 0 → chkShown u t) ∧ t.toMemState = s.toMemState ∧
     getF (CHK_Uu_STAT_REFUSED u) t = (if w.toNat / 4 % 2 = getF (CHK_Uu_CTRL_RESEED u) s ∧ w.toNat / 8 % 2 = getF (CHK_Uu_CTRL_MODE u) s ∧
       w.toNat / 16 % 2 = getF (CHK_Uu_CTRL_CMP u) s ∧ w.toNat / 256 % 16 = chkOwner u s then getF (CHK_Uu_STAT_REFUSED u) s else 1) ∧
     RegsExcept [CHK_Uu_STAT_STATE u, CHK_Uu_STAT_REFUSED u, CHK_Uu_START_START u, CHK_Uu_LEN_LEN u, CHK_Uu_RUN_RUN u, CHK_Uu_RESULT_RESULT u] s t ∧ Frame [.radio, .tallies] s t)) ∧
  (∀ (s : State) (u : Fin 64),
   getF (CHK_Uu_STAT_STATE u) s = 1 →
   0 < getF (CHK_Uu_LEN_LEN u) s →
   chkReadable u (getF (CHK_Uu_LEN_LEN u) s) s →
   Completes (.chkScanEnd u) s (fun t =>
     ChkRead u (getF (CHK_Uu_LEN_LEN u) s) s t ∧ chkShown u t ∧ getF (CHK_Uu_STAT_STATE u) t = 3 ∧ bitAt u (getF CHK_DONE_UNIT t) = true ∧ flagF CHK_STAT_DONE t = true ∧
     (getF (CHK_Uu_STAT_MATCH u) t = 1 ↔ getF (CHK_Uu_CTRL_CMP u) s = 1 ∧
       getF (CHK_Uu_RESULT_RESULT u) t % (if getF (CHK_Uu_CTRL_MODE u) s = 0 then 2 ^ 32 else 2 ^ 64) =
         getF (CHK_Uu_EXPECT_EXPECT u) s % (if getF (CHK_Uu_CTRL_MODE u) s = 0 then 2 ^ 32 else 2 ^ 64)) ∧
     liveOf 13 CHK_T_SCANS_COUNT t = min (2 ^ CHK_T_SCANS_COUNT.width - 1) (liveOf 13 CHK_T_SCANS_COUNT s + 1) ∧ t.toMemState = s.toMemState ∧
     RegsExcept (chkRegs u) s t ∧ Frame [.radio, .tallies, .bus] s t)) ∧
  (∀ (s : State) (u : Fin 64) (code : Nat),
   getF (CHK_Uu_STAT_STATE u) s = 1 →
   0 < getF (CHK_Uu_LEN_LEN u) s →
   (code = 4 ∧ partSt (chkOwner u s) s = 2 ∧ chkOwner u s < 8) ∨
     ((partSt (chkOwner u s) s ≠ 2 ∨ 8 ≤ chkOwner u s) ∧
       ((code = 1 ∧ rangeOk (chkOwner u s) false (getF (CHK_Uu_START_START u) s) (chkChunk u s) s = false) ∨
       (code = 2 ∧ rangeOk (chkOwner u s) false (getF (CHK_Uu_START_START u) s) (chkChunk u s) s = true ∧ readHeld (getF (CHK_Uu_START_START u) s) s = false ∧
         poisoned (getF (CHK_Uu_START_START u) s) s = true))) →
   Completes (.chkScanEnd u) s (fun t =>
     getF (CHK_Uu_STAT_STATE u) t = 4 ∧ getF (CHK_Uu_STAT_ERR u) t = code ∧ flagF CHK_STAT_ERR t = true ∧
     RegsExcept ([CHK_Uu_STAT_STATE u, CHK_Uu_STAT_ERR u, CHK_STAT_ERR] ++ vecRegs) s t ∧ Frame [.tallies, .bus] s t)) ∧
  (∀ (s : State) (u : Fin 64),
   getF (CHK_Uu_STAT_STATE u) s ≠ 1 →
   NoEffect (.chkScanEnd u) s)

end
end

