-- ==== Sys2Proof/Tests/Slice0.lean ====
section
/-! SUPPORT. Tests: the checks of WellFormed refuse ill-formed commands, and every statement's hypotheses are met by a concrete
state. -/

set_option Elab.async false
set_option linter.unusedVariables false

namespace Sys2Proof
open Sys2Proof.Machine

/-- A state in which the device is up for the host. -/
def up : State := setF DEV_STAT_READY 1 State.reset

/-- A packet of window 0 with opcode op, partition part and payload l, first in the acceptance order. -/
def pkt (op part : Nat) (l : List Byte) : Pkt := ⟨1, 0, 0, op, false, false, false, false, 7, 0, 9, 0, part, 0, 0, l⟩

/-- The device is up and has accepted a packet. -/
def took (p : Pkt) (s : State) : State := { setF FLT_HEART_ALIVE 1023 s with accepted := [p] }

/-- A cell in state st with a configuration payload. -/
def cellOf (st : Nat) (cfg : List Byte) : Cell := ⟨st, cfg, false, 0, 0, false, 0, 0, 0, ⟨0, 0, 0, 0, 0, 0⟩, 0, 0, 0, 0, 1, true, true, false, []⟩

/-- Window 0 is enabled and slot 2 holds a DEV_ECHO packet with a 4-byte payload whose header ends in its CRC plus d. -/
def posted (d : Nat) : State :=
  let h : List Byte := [7, 1, 0, 1, 5, 0, 0, 0, 0, 0, 0, 0, 0, 0, 0, 0, 9, 0, 0, 0, 4, 0, 0, 0, 0, 255, 0, 0]
  { setF DEV_IDENT_GRADE 144 (setF SEC_LC_STATE 2 (setF (CMD_PWw_CTRL_EN 0) 1 (setF CMD_CTRL_EN 1 up))) with
    fns := [(0, ⟨true, true, false, false, []⟩)]
    bar2 := writeBytes (slotAddr 0 2 + 0x40) (h ++ natLE 4 (crc32c h + d) ++ [1, 2, 3, 4]) (writeBytes (slotAddr 0 2) [1, 0, 0, 0] []) }


/-- A planned slot job of packet p with the allocation outcomes res. -/
def jobOf (p : Pkt) (c : Nat) (ul : Bool) (slot : Nat) (res : List AllocRes) : Job :=
  ⟨p, c, ul, slot, true, true, false, none, false, false, false, false, 0, 0, res, []⟩

/-- An allocation outcome, ended or not. -/
def resOf (done : Bool) : AllocRes := ⟨0, false, false, false, 0, 0, 0, [], done, 0, false, noUnit⟩

/-- A slot job's payload for cell 7 and a slot below 256 with one allocation of type ty. -/
def jobPay (slot : Byte) (ty : Byte) : List Byte := [7, 0, 1, 0, 0, 0, 0, 0, slot] ++ zeros 55 ++ [ty] ++ zeros 31

/-- A context of partition 0 in a state and substate. -/
def ctxT (st sub : Nat) : Ctx := ⟨0, 3, 0, st, sub, true, [], 0, 0, 0, 0, false, 0, [], false, []⟩

/-- A work tile's engine set of a context, as it starts. -/
def setT (c : Nat) : EngSet := freshSet c 0 0 0 4 0x1000 0x2000 100 0 0 0 [] ⟨0, none, false, false, false⟩ none 0

/-- A Lease of a core by a context. -/
def leaseT (core ctx passes : Nat) : Lease := ⟨core, ctx, 0, 0, passes, 100, false⟩

/-- A queued STEP. -/
def stepT (id : Nat) : Step := ⟨id, 9, 0, 0, ⟨144, 1, 1, 64, 96⟩, none, 0x5000, 0, 144, 0, [], true, false, 0, [], [], 0, false, 0, 0, 0, 0, 0, []⟩

/-- A fabric packet of a type for a destination. -/
def fpT (ty dst txid addr : Nat) (d : List Byte) : FabPkt := ⟨ty, 0, 0, 7, dst, 0, d.length, 0, txid, 0, 0, 0, addr, 0, 0, 0, 0, d, true⟩

/-- Block 0 is mapped to a frame of T0 for partition 0, and the word w stands at the start of the image of setT. -/
def coded (w : Nat) (s : State) : State :=
  let s1 := { s with bmap := [(0, mkEnt 1 0 1 0 512 false)] }
  { s1 with mem := writeBytes (loadAddr 0x1000 s1) (natLE 40 w) s1.mem }

/-- Partition 0 is OPEN and holds logical cores 0 to 3; at Unified Range offset 0x1000 of its object 1 stands a STEP image with one
table of one stage and one work tile of four items. -/
def stepImg (s : State) : State :=
  let h := natLE 4 0x50455453 ++ natLE 4 1 ++ natLE 4 257 ++ natLE 4 1 ++ natLE 4 0x200 ++ natLE 4 0x100 ++ natLE 4 0x100 ++ natLE 4 0x1000 ++
    natLE 4 16 ++ natLE 2 4 ++ natLE 2 1 ++ natLE 4 0x240 ++ zeros 20
  let o : Obj := ⟨0, 512, 2, 0, 1, 0, false, false, false, false, 0, 0, 0, false, false, [], 0, 0, 0, 0, 0, 0, false, false, 0, [], false, 0, []⟩
  let s0 := { s with bmap := [(0, mkEnt 1 0 1 0 512 false)], objs := [(1, o)] }
  let s1 := setF (SCHED_Pp_INFO_STATE 0) 1 (setF (SCHED_Pp_CORESi_CORES 0 0) 15 s0)
  { s1 with mem := writeBytes (loadAddr 0x1000 s1) h (writeBytes (loadAddr 0x1200 s1) (zeros 28 ++ natLE 4 4) s1.mem) }

/-- A pass of one integer product: K = 1, N = 1, M = 1 over INT8. -/
def passT : Pass := ⟨0, ⟨0, false, false, false, false, 9, 9, 255, 1, 1, 1, 0, 64, 0, 0, 128⟩, none, none, none, false, [], false, false⟩

/-- A work tile's set whose image may issue passes of 1,000 cycles. -/
def setP : EngSet := { setT 9 with passP := 1000 }

/-- An MPASS word w followed by the descriptor of passT. -/
def passWord (w : Nat) : Nat := w + 2 ^ 64 * leNat ([0, 0x99, 255, 0, 1, 0, 1, 0, 1, 0, 0, 0, 0, 0, 0, 0, 64, 0, 0, 0, 0, 0, 0, 0, 0, 0, 0, 0, 128, 0, 0, 0])

/-- PART_SET of partition 2 for function 1 with one resident place, one context and cores 4 and 5, and a state that takes it. -/
def partSetPkt : Pkt := pkt 0x105 255 ([2, 1, 0, 1, 1, 0, 0, 0, 9, 0, 0, 0, 8, 0, 0, 0, 7, 0, 0, 0, 6, 0, 0, 0, 48] ++ zeros 39)
def partSetState : State := setF TIER_CAP_T2 1000 (setF TIER_CAP_T1 1000 (setF TIER_CAP_T0 1000 (setF DEV_IDENT_GRADE 144 (took partSetPkt up))))

/-- A SETTLED object of partition 0 in state st and a tier: 600 units of 4 KiB from block 8. -/
def objT (st tier : Nat) : Obj :=
  ⟨8, 600, st, 0, tier, 0, false, false, false, false, 0, 0, 0, false, false, [], 0, 0, 0, 0, 0, 0, false, false, 0, [], false, 0, []⟩

/-- Partition 0 is OPEN with quotas of 100 frames. -/
def objPart (s : State) : State :=
  setF (TIER_Pp_T2_LIMIT 0) 100 (setF (TIER_Pp_T1_QUOTA 0) 100 (setF (TIER_Pp_T0_QUOTA 0) 100 (setF (SCHED_Pp_INFO_STATE 0) 1 s)))

/-- A work tile's set that may use the fabric, whose load and store registers 2 to 4 hold these. -/
def fabX (ga gb len : Nat) : EngSet :=
  { setT 9 with fabMax := 128, ld := ⟨0, [(2, ga), (3, gb), (4, len)], 1⟩, sr := ⟨0, [(2, ga), (3, gb), (4, len)], 1⟩ }

/-- Device 3, whose core 5 holds the set x of partition 0 at the word w. -/
def fabS (w : Nat) (x : EngSet) : State :=
  setF HJF_CFG_DEVID 3 (coded w { up with now := 5, parts := [(0, ⟨77, 1, 0, []⟩)], leases := [leaseT 5 9 2], eng := [(5, x)], ctxs := [(9, { ctxT 2 2 with queue := [stepT 1] })] })

/-- A table entry of core 5's set: an operation or a fence of group 1. -/
def opT (id : Nat) (k : FabPkt) (dest : Nat) (fence : Option (List Nat)) (sent : Option Nat) : Ftt := ⟨id, 5, 9, 0, false, 0, 1, k, dest, 0, fence, none, sent⟩

/-- Device 3 with its fabric on, a route to device 9 on port 5, and object 1 of partition 0 at block 0, which key 55 may load and store
and key 56 may do all. -/
def homeB : State :=
  let o : Obj := ⟨0, 512, 2, 0, 1, 0, false, false, false, false, 0, 0, 0, false, false, [55, 56, 0, 0], 0xF3, 0, 0, 0, 0, 0, false, false, 0, [], false, 0, []⟩
  setF HJF_CFG_EN 1 (setF HJF_CFG_DEVID 3 (setF (HJF_Pp_STAT_STATE 5) 2 (setF (HJF_Pp_STAT_STATE 4) 2
    { up with now := 9, bmap := [(0, mkEnt 1 0 1 0 512 false)], objs := [(1, o)], routes := [(9, 9 + 2 ^ 16 + 5 * 2 ^ 19)] })))

/-- The port that leads to device 9, with credits in every lane. -/
def portH (l : List (Nat × FabPkt)) : HPort := { HPort.reset with inq := l, credit := [(0, 9), (1, 9), (2, 9), (3, 9), (4, 9), (5, 9), (6, 9), (7, 9)] }

/-- The request k has arrived on port p at time 1. -/
def homeS (p : Nat) (k : FabPkt) : State := { homeB with hport := if p = 5 then [(5, portH [(1, k)])] else if p < 5 then [(p, portH [(1, k)]), (5, portH [])] else [(5, portH []), (p, portH [(1, k)])] }

/-- The request k stands in its Combiner's queue, and x is the one stream. -/
def homeC (k : FabPkt) (x : Stream) : State := { homeB with hport := [(5, portH [])], comb := [⟨k, 4, none, 1⟩], streams := [x] }

/-- The refetched object o is object 1 of partition 0 at block 0 of T0, whose lines of the list carry marks. -/
def refetchS (o : Obj) (marks : FMap) : State := { up with bmap := [(0, mkEnt 1 0 1 0 512 false + 2 ^ 59)], objs := [(1, o)], poison := marks }

/-- A radio section whose mantissas are 24 zeros. -/
def prbT : RxPrb := ⟨0, 0, List.replicate 24 0⟩

/-- A well-formed DEV_ECHO command. -/
def echoT : Pkt := pkt 0x107 255 (zeros 8)

theorem test_wf_register_aligned : Instr.wf (.registerWrite 0 8 true 5) = true := by decide
theorem test_wf_register_misaligned : Instr.wf (.registerWrite 0 4 true 5) = false := by decide
theorem test_wf_register_past_view : Instr.wf (.registerWrite 0 (2 ^ 26) false 5) = false := by decide
theorem test_wf_register_wide_value : Instr.wf (.registerWrite 0 8 false (2 ^ 32)) = false := by decide
theorem test_wf_lower_half_misaligned : Instr.wf (.regLowerHalfRead 1 2 false) = false := by decide
theorem test_wf_bar0_legal_access : Instr.wf (.bar0IllegalAccess 0 ⟨true, 8, 4⟩) = false := by decide
theorem test_wf_bar0_aligned_64 : Instr.wf (.bar0IllegalAccess 0 ⟨true, 8, 8⟩) = false := by decide
theorem test_wf_bar0_no_bytes : Instr.wf (.bar0IllegalAccess 0 ⟨true, 8, 0⟩) = false := by decide
theorem test_wf_bar0_past_view : Instr.wf (.bar0IllegalAccess 0 ⟨true, 2 ^ 26, 2⟩) = false := by decide
theorem test_wf_bar0_misaligned : Instr.wf (.bar0IllegalAccess 0 ⟨true, 2, 4⟩) = true := by decide
theorem test_wf_announce_interval : Instr.wf (.announceMessage 0 0 0 0 0 128) = false := by decide
theorem test_wf_core : Instr.wf (.windowOpen 144 0) = false := by decide
theorem test_wf_ramp : Instr.wf (.guardRampStart 0 9) = false := by decide
theorem test_wf_ctx_zero : Instr.wf (.stepStart 0) = false := by decide
theorem test_wf_ctx_high : Instr.wf (.stepStart 4096) = false := by decide
theorem test_wf_obj : Instr.wf (.migrationStart (2 ^ 20)) = false := by decide
theorem test_wf_packet : Instr.wf (.devEcho echoT) = true := by decide
theorem test_wf_packet_opcode : Instr.wf (.devInfo echoT) = false := by decide
theorem test_wf_packet_window : Instr.wf (.devEcho { echoT with window := 132 }) = false := by decide
theorem test_wf_packet_slot : Instr.wf (.devEcho { echoT with slot := 16 }) = false := by decide
theorem test_wf_packet_seq : Instr.wf (.devEcho { echoT with seq := 2 ^ 32 }) = false := by decide
theorem test_wf_packet_at : Instr.wf (.devEcho { echoT with at_ := 2 ^ 64 }) = false := by decide
theorem test_wf_packet_tag : Instr.wf (.devEcho { echoT with tag := 2 ^ 32 }) = false := by decide
theorem test_wf_packet_func : Instr.wf (.devEcho { echoT with func := 2 ^ 6 }) = false := by decide
theorem test_wf_packet_part : Instr.wf (.devEcho { echoT with part := 2 ^ 8 }) = false := by decide
theorem test_wf_packet_domain : Instr.wf (.devEcho { echoT with td := 8 }) = false := by decide
theorem test_wf_packet_words : Instr.wf (.devEcho { echoT with payload := zeros 6 }) = false := by decide
theorem test_wf_packet_length : Instr.wf (.devEcho { echoT with payload := zeros 4004 }) = false := by decide +kernel
theorem test_wf_uplane_port : Instr.wf (.uplaneIngress ⟨32, 0, 0, false, 0, 0, 0, 0, 64, [prbT]⟩) = false := by decide
theorem test_wf_uplane_symbol : Instr.wf (.uplaneIngress ⟨0, 0, 0, false, 0, 0, 0, 64, 64, [prbT]⟩) = false := by decide
theorem test_wf_uplane_mantissas : Instr.wf (.uplaneIngress ⟨0, 0, 0, false, 0, 0, 0, 0, 64, [⟨0, 0, []⟩]⟩) = false := by decide
theorem test_wf_diq_port : Instr.wf (.diqIngress ⟨32, 0, 0, false, 64, []⟩) = false := by decide
theorem test_wf_diq_frame_word : Instr.wf (.diqIngress ⟨0, 0, 2 ^ 64, false, 64, []⟩) = false := by decide +kernel
theorem test_wf_wheel_flow : Instr.wf (.wheelPlace ⟨0, 1024, 0, 0, 0, 0, false, false, 0, 0, 64, none, [], 0, 0, []⟩) = false := by decide
theorem test_wf_wheel_domain : Instr.wf (.wheelPlace ⟨0, 0, 0, 8, 0, 0, false, false, 0, 0, 64, none, [], 0, 0, []⟩) = false := by decide
theorem test_wf_bundle_thread : Instr.wf (.bundleIssue 0 ⟨.nop, .nop, .nop, .nop, .nop⟩ 4) = false := by decide
theorem test_wf_kernel : Instr.wf (.kernelInvoke 0 0x12 0 0) = false := by decide
theorem test_wf_dma_local : Instr.wf (.scDmaDone 0 true (2 ^ 21) 0 1) = false := by decide
theorem test_wf_dma_carve : Instr.wf (.scDmaDone 0 true 0 (2 ^ 43) 1) = false := by decide
theorem test_wf_code_block_cluster : Instr.wf (.codeBlockDone ⟨8, 0, 0, true, 0, 0, ⟨1, 2, 1, 9⟩, [], 0, true, true, true, [], false, false⟩) = false := by decide
theorem test_wf_code_block_cell : Instr.wf (.codeBlockDone ⟨0, 512, 0, true, 0, 0, ⟨1, 2, 1, 9⟩, [], 0, true, true, true, [], false, false⟩) = false := by decide
theorem test_wf_code_lane : Instr.wf (.codeBlockRetry 0 24 0 1 0 0 true 0 0) = false := by decide
theorem test_wf_transaction_errors : Instr.wf (.transactionComplete 0 0 false 0 (List.replicate 65 0) false 0) = false := by decide
theorem test_wf_pass_load : Instr.wf (.passLoadStart 0 4) = false := by decide
theorem test_wf_pass_stream : Instr.wf (.passStreamEnd 0 4) = false := by decide
theorem test_wf_sub_block : Instr.wf (.subBlockCopyDone 0 (List.replicate 1025 0)) = false := by decide +kernel
theorem test_wf_frame_tier_low : Instr.wf (.frameReturn 0 0) = false := by decide
theorem test_wf_frame_tier_high : Instr.wf (.frameReturn 4 0) = false := by decide
theorem test_wf_page_channel : Instr.wf (.pageBufferWriteout 16 0) = false := by decide
theorem test_wf_refetch_length : Instr.wf (.refetchUnitArrive 0 0 (some [1, 2])) = false := by decide
theorem test_wf_fill_part : Instr.wf (.fillDone 9) = false := by decide
theorem test_wf_training_peer : Instr.wf (.portTrainingDone 0 (2 ^ 16) false) = false := by decide
theorem test_wf_hjelo_lane : Instr.wf (.hjeloLaneSpare 0 4) = false := by decide
theorem test_wf_fronthaul_lane : Instr.wf (.fhLaneSpare 0 4) = false := by decide
theorem test_wf_flit_seq : Instr.wf (.flitReceive 0 ⟨0, 0, true, 1024, 0, false, 0, 0, []⟩) = false := by decide
theorem test_wf_flit_credit_lane : Instr.wf (.flitReceive 0 ⟨0, 0, true, 0, 0, false, 8, 0, []⟩) = false := by decide
theorem test_wf_fabric_type : Instr.wf (.flitReceive 0 ⟨0, 0, true, 0, 0, false, 0, 0, [fpT 16 0 0 0 []]⟩) = false := by decide
theorem test_wf_fabric_address : Instr.wf (.flitReceive 0 ⟨0, 0, true, 0, 0, false, 0, 0, [fpT 0 0 0 (2 ^ 43) []]⟩) = false := by decide
theorem test_wf_replay : Instr.wf (.flitReplay 0 1024) = false := by decide
theorem test_wf_combiner_line : Instr.wf (.combinerOperation 0 (2 ^ 37)) = false := by decide
theorem test_wf_stream_source : Instr.wf (.streamEntryIdle (2 ^ 16) none) = false := by decide
theorem test_wf_stream_group : Instr.wf (.streamEntryIdle 0 (some (2 ^ 12))) = false := by decide
theorem test_wf_epoch_destination : Instr.wf (.pathEpochAdvance (2 ^ 16)) = false := by decide
theorem test_wf_time_root : Instr.wf (.fabricTimeExchange 0 0 true true (2 ^ 16)) = false := by decide
theorem test_wf_monitor_part : Instr.wf (.monitorCommit 0 none 0 0 256 0 true) = false := by decide
theorem test_wf_sensor : Instr.wf (.tempSample [(64, 0)] [] 0 0) = false := by decide
theorem test_wf_bar2_empty : Instr.wf (.bar2Write 0 0 []) = false := by decide
theorem test_wf_bar2_past_end : Instr.wf (.bar2Write 0 (2 ^ 24) [1]) = false := by decide
theorem test_wf_bar4_read_empty : Instr.wf (.bar4Read 0 0 0) = false := by decide
theorem test_wf_bar4_read_past_end : Instr.wf (.bar4Read 0 (2 ^ 36) 4) = false := by decide
theorem test_wf_bar4_write_past_end : Instr.wf (.bar4Write 0 (2 ^ 36) [1]) = false := by decide
theorem test_wf_host_read_past_end : Instr.wf (.hostReadCompletion (.command 1) true (2 ^ 64) [1]) = false := by decide
theorem test_wf_ide_function : Instr.wf (.ideCheckFail 0 [33]) = false := by decide
theorem test_wf_challenge_nonce : Instr.wf (.challenge 0 0 (zeros 31)) = false := by decide
theorem test_wf_measurements_nonce : Instr.wf (.getMeasurements 0 0 true (zeros 33)) = false := by decide
theorem test_wf_quality_level : Instr.wf (.esmcMessage 0 16) = false := by decide

/-! What the queue does with a command, on one small state. -/

theorem test_step_takes_the_front : step { up with pending := [.tsqLostRead 0, .airSnapGo] } =
    exec (.tsqLostRead 0) { up with pending := [.airSnapGo] } := rfl
theorem test_step_idles : step State.reset = .next State.reset := rfl

theorem wit_DeviceIdWrites_1a : ∃ (s : State) (v : BitVec 64),
    (tlpTaken 0 s = true ∧ flagF DEV_STAT_READY s = true ∧ getF SEC_BOOT_RESULT s ≠ 3) :=
  ⟨{ up with perst := false }, 0xFFFF, by decide +kernel⟩

theorem wit_DeviceIdWrites_1b : ∃ (s : State) (v : BitVec 64),
    (tlpTaken 0 s = true ∧ flagF DEV_STAT_READY s = true ∧ getF SEC_BOOT_RESULT s ≠ 3) :=
  ⟨setF (HJF_Pp_STAT_STATE 15) 3 { up with perst := false }, 0x1FFFF, by decide +kernel⟩

theorem wit_AirRegisterAccesses_1 : ∃ (s : State) (p : Fin 4),
    (hostUp 0 s = true) :=
  ⟨{ up with airTsq := [(2, [2 ^ 127 + 5, 2 ^ 127 + 9])] }, 2, by decide +kernel⟩

theorem wit_AirRegisterAccesses_2 : ∃ (s : State) (p : Fin 4),
    (hostUp 0 s = true) :=
  ⟨setF (AIR_FHp_TSQ_LOST_LOST 3) 5 up, 3, by decide +kernel⟩

theorem wit_AirRegisterAccesses_3 : ∃ (s : State),
    (hostUp 0 s = true) :=
  ⟨setF (AIR_TDn_COUNT_VALUE 7) 123 (setF (AIR_TDn_COUNT_VALUE 0) 99 up), by decide +kernel⟩

theorem wit_AirRegisterAccesses_4 : ∃ (s : State) (n : Fin 8) (v : BitVec 64),
    (hostUp 0 s = true) ∧
    (cellBound n s = true) :=
  ⟨{ up with cells := [(4, cellOf 1 [0, 0, 3])] }, 3, 77, by decide +kernel, by decide +kernel⟩

theorem wit_AirRegisterAccesses_5 : ∃ (s : State) (n : Fin 8) (v : BitVec 64),
    (hostUp 0 s = true) ∧
    (cellBound n s = false) :=
  ⟨{ up with cells := [(4, cellOf 1 [0, 0, 3])], air := [(7, { AirDom.reset with frac := 11, ref := some 4 })] }, 7, 100, by decide +kernel, by decide +kernel⟩

theorem wit_AirRegisterAccesses_6a : ∃ (s : State) (n : Fin 8) (w : BitVec 32),
    (hostUp 0 s = true) ∧
    (flagF (AIR_TDn_CTRL_EN n) s = false) ∧
    (tdState n s = 0) ∧
    (w.toNat % 2 = 1) :=
  ⟨up, 2, 0x1F13, by decide +kernel, by decide +kernel, by decide +kernel, by decide +kernel⟩

theorem wit_AirRegisterAccesses_6b : ∃ (s : State) (n : Fin 8) (w : BitVec 32),
    (hostUp 0 s = true) ∧
    (flagF (AIR_TDn_CTRL_EN n) s = false) ∧
    (tdState n s = 0) ∧
    (w.toNat % 2 = 1) :=
  ⟨up, 7, 0x0001, by decide +kernel, by decide +kernel, by decide +kernel, by decide +kernel⟩

theorem wit_AirRegisterAccesses_7 : ∃ (s : State) (n : Fin 8) (w : BitVec 32),
    (hostUp 0 s = true) ∧
    (flagF (AIR_TDn_CTRL_EN n) s = true) ∧
    (cellBound n s = false) ∧
    (w.toNat % 2 = 0) :=
  ⟨setF (AIR_TDn_STATE_STATE 5) 3 (setF (AIR_TDn_CTRL_EN 5) 1 up), 5, 0x2C00, by decide +kernel, by decide +kernel, by decide +kernel, by decide +kernel⟩

theorem wit_AirRegisterAccesses_8 : ∃ (s : State) (n : Fin 8) (w : BitVec 32),
    (hostUp 0 s = true) ∧
    (flagF (AIR_TDn_CTRL_EN n) s = true) ∧
    (cellBound n s = true) ∧
    (w.toNat % 2 = 0) ∧
    (tdState n s ≠ 3) :=
  ⟨{ setF (AIR_TDn_STATE_STATE 1) 2 (setF (AIR_TDn_CTRL_EN 1) 1 up) with cells := [(511, cellOf 2 [0, 0, 1])] }, 1, 0x2C00, by decide +kernel, by decide +kernel, by decide +kernel, by decide +kernel, by decide +kernel⟩

theorem wit_AirTimeAdvances_2 : ∃ (s : State) (n : Fin 8),
    (tdState n s = 2 ∨ tdState n s = 3) ∧
    ((airOf n s).lastMeas + getF (AIR_TDn_LOCK_LOSS_MS n) s * 5 * (1536 * 10 ^ 6) ≤ s.now) :=
  ⟨{ setF (AIR_TDn_STATE_STATE 6) 3 up with now := 10 ^ 20, air := [(6, { AirDom.reset with integ := -77 })] }, 6, by decide +kernel, by decide +kernel⟩

theorem wit_AirTimeAdvances_3 : ∃ (s : State) (n : Fin 8),
    (tdState n s = 4) ∧
    (getF (AIR_TDn_LOCK_LIMIT_S n) s * 60000 = getF (AIR_TDn_HOLDOVER_AGE n) s) :=
  ⟨setF (AIR_TDn_HOLDOVER_AGE 0) 180000 (setF (AIR_TDn_LOCK_LIMIT_S 0) 3 (setF (AIR_TDn_STATE_STATE 0) 4 up)), 0, by decide +kernel, by decide +kernel⟩

theorem wit_AirMeasurements_1 : ∃ (s : State) (n : Fin 8) (off16 : Int) (mpd r : Nat) (clockId : BitVec 64) (lport : Fin 32),
    (measurementValid n clockId.toNat lport s = true) ∧
    (tdState n s = 3) ∧
    ((airOf n s).ref = some r) ∧
    (r < counter n s) ∧
    (mag16 off16 ≤ 64 * getF (AIR_TDn_LOCK_THR n) s) ∧
    (1 ≤ getF (AIR_TDn_LOCK_CNT n) s) :=
  ⟨setF (AIR_TDn_COUNT_VALUE 1) 5000 (setF (AIR_TDn_CTRL_SRC 1) 1 (setF (AIR_TDn_STATE_STATE 1) 3 { up with air := [(1, { AirDom.reset with integ := 40, ref := some 1000, run := 2 })] })), 1, -16, 77, 1000, 0, 3, by decide +kernel, by decide +kernel, by decide +kernel, by decide +kernel, by decide +kernel, by decide +kernel⟩

theorem wit_AirMeasurements_2 : ∃ (s : State) (n : Fin 8) (off16 : Int) (mpd : Nat) (clockId : BitVec 64) (lport : Fin 32),
    (measurementValid n clockId.toNat lport s = true) ∧
    (tdState n s = 1) ∧
    (cellBound n s = false) :=
  ⟨setF (AIR_TDn_COUNT_VALUE 6) 5000 (setF (AIR_TDn_CTRL_SRC 6) 2 (setF (AIR_TDn_STATE_STATE 6) 1 up)), 6, 80001, 0, 0, 0, by decide +kernel, by decide +kernel, by decide +kernel⟩

theorem wit_AirMeasurements_3 : ∃ (s : State) (lport : Fin 32) (dom cls : Byte) (clockId : BitVec 64) (rank n : Nat) (k : Int),
    (ptpDomain lport dom.toNat s = some n) ∧
    (tdState n s ≠ 3) ∧
    ((∀ d ∈ (airOf n s).cands, rank < d.rank)) :=
  ⟨setF (AIR_TDn_PORTS_MASK 2) 8 (setF (AIR_TDn_CTRL_PTPDOM 2) 24 (setF (AIR_TDn_CTRL_EN 2) 1 { up with air := [(2, { AirDom.reset with cands := [⟨4, 1, 6, 9, 100⟩] })] })), 3, 24, 7, 0xABCD, 5, 2, -3, by decide +kernel, by decide +kernel, by decide +kernel⟩

theorem wit_AirMeasurements_4 : ∃ (s : State) (n : Fin 8) (clockId : BitVec 64) (lport : Fin 32) (c : Candidate),
    ((airOf n s).cands = [c]) ∧
    (c.clockId = clockId.toNat) ∧
    (c.port = lport) ∧
    (c.until_ ≤ s.now) :=
  ⟨{ up with now := 200, air := [(2, { AirDom.reset with cands := [⟨4, 1, 6, 9, 100⟩] })] }, 2, 4, 1, ⟨4, 1, 6, 9, 100⟩, by decide +kernel, by decide +kernel, by decide +kernel, by decide +kernel⟩

theorem wit_AirMeasurements_5 : ∃ (s : State) (lport : Fin 32) (dom : Byte) (n : Nat),
    (ptpDomain lport dom.toNat s = some n) :=
  ⟨setF (AIR_TDn_PORTS_MASK 2) 8 (setF (AIR_TDn_CTRL_PTPDOM 2) 24 (setF (AIR_TDn_CTRL_EN 2) 1 up)), 3, 24, 2, by decide +kernel⟩

theorem wit_AirMeasurements_7 : ∃ (s : State) (n : Fin 6),
    (flagF (AIR_TDn_CTRL_EN n) s = true) ∧
    (getF (AIR_TDn_CTRL_SRC n) s = 1) ∧
    (tdState n s = 1) ∧
    (cellBound n s = false) ∧
    ((∀ m ∈ domains, m ≠ n → flagF (AIR_TDn_CTRL_EN m) s = false)) :=
  ⟨setF (AIR_TDn_TOD_SECONDS 4) 1000000000 (setF (AIR_TDn_STATE_STATE 4) 1 (setF (AIR_TDn_CTRL_SRC 4) 1 (setF (AIR_TDn_CTRL_EN 4) 1 up))), 4, by decide +kernel, by decide +kernel, by decide +kernel, by decide +kernel, by decide +kernel⟩

theorem wit_AirMeasurements_8 : ∃ (s : State) (n : Nat) (x : Int),
    (flagF AIR_PPS_OUT_EN s = true) ∧
    (getF AIR_PPS_OUT_TD s = n) ∧
    (tdState n s ≠ 0) ∧
    (x = ((count16 n s : Int) + calEffective 57 4096 0 65535 false s - 16 * bitsInt 24 (getF AIR_PPS_OUT_OFS s)) % (16 * 1966080000)) ∧
    (x < 80) :=
  ⟨setF (AIR_TDn_COUNT_VALUE 4) (1966080000 + 2) (setF (AIR_TDn_STATE_STATE 4) 3 (setF AIR_PPS_OUT_TD 4 (setF AIR_PPS_OUT_EN 1 up))), 4, 32, by decide +kernel, by decide +kernel, by decide +kernel, by decide +kernel, by decide +kernel⟩

theorem wit_TallyBoundaryLatches_1 : ∃ (s : State) (g : Fin 1024) (n b : Nat),
    (tallyDomain g s = some n) ∧
    (tdState n s ≠ 0) ∧
    (b = counter n s / tallyPeriod g s * tallyPeriod g s) ∧
    (tallySeen g n s < b) ∧
    (lookup g.val s.tallyPend = none) :=
  ⟨setF (AIR_TDn_COUNT_VALUE 0) (19660800 * 7 + 5) (setF (AIR_TDn_STATE_STATE 0) 3 (tally 1 DEV_T_CPLERR_COUNT 3 (tally 2 DEV_T_CPLERR_COUNT 4 up))), 1, 0, 19660800 * 7, by decide +kernel, by decide +kernel, by decide +kernel, by decide +kernel, by decide +kernel⟩

theorem wit_TimeCommands_1 : ∃ (s : State) (p : Pkt),
    (ready p s = true) ∧
    (tdState (pTd p) s = 0) ∧
    (srcAllowed (pTd p) (pf p 1 1 % 8) = true) :=
  ⟨took (pkt 0x201 255 [3, 1, 0, 0, 9, 8, 7, 6, 5, 4, 3, 2, 1, 0, 0, 0]) up, pkt 0x201 255 [3, 1, 0, 0, 9, 8, 7, 6, 5, 4, 3, 2, 1, 0, 0, 0], by decide +kernel, by decide +kernel, by decide +kernel⟩

theorem wit_TimeCommands_2 : ∃ (s : State) (p : Pkt),
    (ready p s = true) ∧
    (tdState (pTd p) s = 0) ∧
    (ptpClash (pTd p) s = none) :=
  ⟨took (pkt 0x202 255 [2, 0, 0, 0]) up, pkt 0x202 255 [2, 0, 0, 0], by decide +kernel, by decide +kernel, by decide +kernel⟩

theorem wit_TimeCommands_3 : ∃ (s : State) (p : Pkt),
    (ready p s = true) ∧
    (tdState (pTd p) s ≠ 0) ∧
    (cellBound (pTd p) s = false) :=
  ⟨setF (AIR_TDn_STATE_STATE 2) 4 (took (pkt 0x203 255 [2, 0, 0, 0]) up), pkt 0x203 255 [2, 0, 0, 0], by decide +kernel, by decide +kernel, by decide +kernel⟩

theorem wit_TimeCommands_4 : ∃ (s : State) (p : Pkt) (c : Instr),
    (c = .timeDisable p ∨ c = .timeStep p) ∧
    (ready p s = true) ∧
    (tdState (pTd p) s = 0 ∨ cellBound (pTd p) s = true) :=
  ⟨setF (AIR_TDn_STATE_STATE 2) 3 { took (pkt 0x204 255 [2, 0, 0, 0, 5, 0, 0, 0, 0, 0, 0, 0]) up with cells := [(9, cellOf 1 [0, 0, 2])] }, pkt 0x204 255 [2, 0, 0, 0, 5, 0, 0, 0, 0, 0, 0, 0], .timeStep (pkt 0x204 255 [2, 0, 0, 0, 5, 0, 0, 0, 0, 0, 0, 0]), by decide +kernel, by decide +kernel, by decide +kernel⟩

theorem wit_TimeCommands_5 : ∃ (s : State) (p : Pkt),
    (ready p s = true) ∧
    (tdState (pTd p) s ≠ 0) ∧
    (cellBound (pTd p) s = false) :=
  ⟨setF (AIR_TDn_COUNT_VALUE 2) 3 (setF (AIR_TDn_STATE_STATE 2) 3 (took (pkt 0x204 255 [2, 0, 0, 0, 250, 255, 255, 255, 255, 255, 255, 255]) up)), pkt 0x204 255 [2, 0, 0, 0, 250, 255, 255, 255, 255, 255, 255, 255], by decide +kernel, by decide +kernel, by decide +kernel⟩

theorem wit_TimeCommands_6 : ∃ (s : State) (p : Pkt),
    (ready p s = true) ∧
    (replyLands p.window s = true) ∧
    (pf p 4 8 + 64 ≤ getF (CMD_PWw_RR_BASE_ADDR p.window) s * 4096 ∨ getF (CMD_PWw_RR_BASE_ADDR p.window) s * 4096 + ringSize p.window s * 32 ≤ pf p 4 8) :=
  ⟨setF (CMD_PWw_RR_BASE_ADDR 0) 9 { took (pkt 0x205 255 [2, 0, 0, 0, 0, 1, 0, 0, 0, 0, 0, 0]) up with fns := [(0, ⟨true, true, false, false, []⟩)] }, pkt 0x205 255 [2, 0, 0, 0, 0, 1, 0, 0, 0, 0, 0, 0], by decide +kernel, by decide +kernel, by decide +kernel⟩

theorem wit_TimeCommands_7 : ∃ (s : State) (p : Pkt),
    (ready p s = true) ∧
    (tdState p.td s ≠ 0) :=
  ⟨setF (AIR_TDn_STATE_STATE 0) 3 { took (pkt 0x206 255 []) up with fns := [(0, ⟨true, true, false, false, []⟩)] }, pkt 0x206 255 [], by decide +kernel, by decide +kernel⟩

theorem wit_ThrottleCauses_1 : ∃ (s : State),
    (flagF PWR_TSTAT_PIN s = false) ∧
    (inReset s = false) :=
  ⟨{ setF PWR_TSTAT_IN_FORCE 80 (setF PWR_THROTTLE_DUTY 60 (setF PWR_TSTAT_RELEASING 1 (setF PWR_EVT_MASK_MASK 255 up))) with perst := false }, by decide +kernel, by decide +kernel⟩

theorem wit_ThrottleCauses_2 : ∃ (s : State),
    (flagF PWR_TSTAT_PIN s = true) ∧
    (flagF PWR_TSTAT_FORCE s = false ∧ flagF PWR_TSTAT_THERMAL s = false ∧ flagF PWR_TSTAT_CAP s = false) :=
  ⟨setF PWR_TSTAT_PIN 1 up, by decide +kernel, by decide +kernel⟩

theorem wit_ThrottleCauses_3 : ∃ (s : State),
    (anyCause s = false) ∧
    (flagF PWR_TSTAT_RELEASING s = false) ∧
    (getF PWR_TSTAT_IN_FORCE s < 100) ∧
    (s.thrOff + getF PWR_THROTTLE_HOLD_US s * 1000 * 1536 ≤ s.now) :=
  ⟨{ setF PWR_TSTAT_IN_FORCE 60 up with now := 10 ^ 12 }, by decide +kernel, by decide +kernel, by decide +kernel, by decide +kernel⟩

theorem wit_ThrottleCauses_4a : ∃ (s : State),
    (flagF PWR_TSTAT_RELEASING s = true) ∧
    (getF PWR_TSTAT_IN_FORCE s < 100) ∧
    (s.thrStep + 64 * 1536 ≤ s.now) :=
  ⟨{ setF PWR_TSTAT_RELEASING 1 (setF PWR_TSTAT_IN_FORCE 99 up) with now := 10 ^ 12 }, by decide +kernel, by decide +kernel, by decide +kernel⟩

theorem wit_ThrottleCauses_4b : ∃ (s : State),
    (flagF PWR_TSTAT_RELEASING s = true) ∧
    (getF PWR_TSTAT_IN_FORCE s < 100) ∧
    (s.thrStep + 64 * 1536 ≤ s.now) :=
  ⟨{ setF PWR_TSTAT_RELEASING 1 (setF PWR_TSTAT_IN_FORCE 60 up) with now := 64 * 1536 }, by decide +kernel, by decide +kernel, by decide +kernel⟩

theorem wit_ThrottleCauses_5 : ∃ (s : State) (w : BitVec 32),
    (hostUp 0 s = true) ∧
    (w.toNat % 128 < 50) ∧
    (bitAt 8 w.toNat = true) ∧
    (flagF PWR_TSTAT_FORCE s = false) :=
  ⟨setF PWR_THROTTLE_DUTY 70 up, 0x00050131, by decide +kernel, by decide +kernel, by decide +kernel, by decide +kernel⟩

theorem wit_ThrottleCauses_6 : ∃ (s : State) (w : BitVec 32),
    (hostUp 0 s = true) ∧
    (50 ≤ w.toNat % 128 ∧ w.toNat % 128 ≤ 100) ∧
    (dutyAccepted (w.toNat % 128) s = true) ∧
    (anyCause s = false) ∧
    (bitAt 8 w.toNat = false) :=
  ⟨setF MXC_STAT_ACTIVE 144 up, 0x00050064, by decide +kernel, by decide +kernel, by decide +kernel, by decide +kernel, by decide +kernel⟩

theorem wit_ThrottleCauses_7 : ∃ (s : State) (w : BitVec 32),
    (hostUp 0 s = true) ∧
    (50 ≤ w.toNat % 128 ∧ w.toNat % 128 ≤ 100) ∧
    (dutyAccepted (w.toNat % 128) s = false) ∧
    (flagF PWR_TSTAT_FORCE s = false) ∧
    (bitAt 8 w.toNat = false) :=
  ⟨{ setF ESC_DUTY_DUTY 100 (setF MXC_STAT_ACTIVE 1 up) with cells := [(1, { cellOf 1 [] with credit := ⟨900000, 0, 0, 0, 0, 0⟩ })] }, 0x00000050, by decide +kernel, by decide +kernel, by decide +kernel, by decide +kernel, by decide +kernel⟩

theorem wit_PowerCap_1a : ∃ (s : State),
    (inReset s = false) ∧
    (0 < getF PWR_CAP_WATTS s) :=
  ⟨{ setF PWR_CAP_WATTS 1000 up with pwrLast := [1001, 1000], perst := false }, by decide +kernel, by decide +kernel⟩

theorem wit_PowerCap_1b : ∃ (s : State),
    (inReset s = false) ∧
    (0 < getF PWR_CAP_WATTS s) :=
  ⟨{ setF PWR_TSTAT_CAP 1 (setF PWR_CAP_WATTS 1000 up) with pwrLast := [949, 950], perst := false }, by decide +kernel, by decide +kernel⟩

theorem wit_PowerCap_1c : ∃ (s : State),
    (inReset s = false) ∧
    (0 < getF PWR_CAP_WATTS s) :=
  ⟨{ setF PWR_TSTAT_CAP 1 (setF PWR_CAP_WATTS 1000 up) with pwrLast := [950, 950], perst := false }, by decide +kernel, by decide +kernel⟩

theorem wit_TemperatureAndDomains_1 : ∃ (s : State) (x : List (Nat × Int)) (cata : List Nat) (power current i : Nat) (raw : Int),
    (inReset s = false) ∧
    (i < 24) ∧
    (hottest i x = some raw) :=
  ⟨{ setF (CAL_U_k_VALUE 37) 3 (setF (CAL_F_k_VALUE 37) 65530 up) with perst := false }, [(5, 71552), (5, 71424), (6, 0)], [], 1200, 40, 5, 71552, by decide +kernel, by decide +kernel, by decide +kernel⟩

theorem wit_TemperatureAndDomains_2 : ∃ (s : State) (x : List (Nat × Int)) (cata : List Nat) (power current i : Nat) (raw : Int),
    (inReset s = false) ∧
    (i < 12) ∧
    (hottest i x = some raw) ∧
    ((getF PWR_THERM_TRIP s : Int) * 4 ≤ quarters raw + bitsInt 16 (getF (CAL_F_k_VALUE (32 + i)) s)) :=
  ⟨{ up with perst := false }, [(5, 1024 * 200)], [], 1200, 40, 5, 204800, by decide +kernel, by decide +kernel, by decide +kernel, by decide +kernel⟩

theorem wit_TemperatureAndDomains_3 : ∃ (s : State) (d : Fin 192),
    (getF (PWR_DOMd_STATE d) s = 1) :=
  ⟨setF (PWR_DOMd_STATE 191) 1 up, 191, by decide +kernel⟩

theorem wit_TemperatureAndDomains_4 : ∃ (s : State) (d : Fin 192),
    (getF (PWR_DOMd_STATE d) s = 1 ∨ getF (PWR_DOMd_STATE d) s = 2) ∧
    (176 ≤ d.val) ∧
    (portWaiters (d.val - 176) s = []) :=
  ⟨setF (PWR_DOMd_STATE 178) 2 up, 178, by decide +kernel, by decide +kernel, by decide +kernel⟩

theorem wit_TemperatureAndDomains_5 : ∃ (s : State) (d : Fin 192) (n q : Nat),
    (getF (PWR_DOMd_STATE d) s = 1 ∨ getF (PWR_DOMd_STATE d) s = 2) ∧
    (d.val < 160) ∧
    (mcLogical d s = some n) ∧
    (engAt n s = none) ∧
    (chooseSpare 20 (d.val / 20) ((mcSpares s).filter (fun p => decide (p ≠ d.val))) = some q) :=
  ⟨(setF (PWR_DOMd_STATE 3) 2 (setF (MXC_Cn_INFO_PHYS 0) 3 (setF DEV_IDENT_GRADE 1 up))), 3, 0, 0, by decide +kernel, by decide +kernel, by decide +kernel, by decide +kernel, by decide +kernel⟩

theorem wit_DeviceResets_5 : ∃ (s : State) (straps : Fin 4),
    (s.perst = true) ∧
    (s.vin = true) ∧
    (s.vio = true) :=
  ⟨{ up with cells := [(1, cellOf 1 [])], now := 77 }, 3, by decide +kernel, by decide +kernel, by decide +kernel⟩

theorem wit_DeviceResets_6 : ∃ (s : State),
    (s.vin = false) :=
  ⟨{ up with cells := [(1, cellOf 1 [])], now := 77, vin := false }, by decide +kernel⟩

theorem wit_DeviceResets_7 : ∃ (s : State) (n : Nat),
    (s.vbuf = []) :=
  ⟨setF PWR_TSTAT_TRIPPED 1 { up with cells := [(1, cellOf 1 [])], vault := [(3, 4)] }, 2, by decide +kernel⟩

theorem wit_DeviceResets_8 : ∃ (s : State) (n : Nat) (x : VaultWrite) (r : List VaultWrite),
    (s.vbuf = x :: r) ∧
    (n = 1) :=
  ⟨{ up with vbuf := [⟨7, 9, 0, false⟩, ⟨8, 5, 0, false⟩], vault := [(8, 3)] }, 1, ⟨7, 9, 0, false⟩, [⟨8, 5, 0, false⟩], by decide +kernel, by decide +kernel⟩

theorem wit_DeviceResets_9 : ∃ (s : State),
    (s.vin = true) :=
  ⟨{ up with cells := [(1, cellOf 1 [])], vault := [(3, 4)] }, by decide +kernel⟩

theorem wit_DeviceResets_10 : ∃ (s : State),
    (s.vio = false) ∧
    (s.vin = true) ∧
    (s.perst = false) :=
  ⟨{ up with cells := [(1, cellOf 1 [])], vault := [(3, 4)], vio := false, perst := false }, by decide +kernel, by decide +kernel, by decide +kernel⟩

theorem wit_BringUpAndVault_1 : ∃ (s : State) (speed width : Nat) (flit : Bool),
    (stepRuns 2 [] s = true) :=
  ⟨{ State.reset with perst := false }, 6, 16, true, by decide +kernel⟩

theorem wit_BringUpAndVault_2 : ∃ (s : State) (ue : List Nat),
    (stepRuns 1 [] s = true) :=
  ⟨{ State.reset with perst := false }, [], by decide +kernel⟩

theorem wit_BringUpAndVault_3 : ∃ (s : State),
    (stepRuns 5 [4] s = true) :=
  ⟨{ State.reset with perst := false, bootDone := [4, 1] }, by decide +kernel⟩

theorem wit_BringUpAndVault_4 : ∃ (s : State) (kver : BitVec 32),
    (starting s = true) ∧
    (s.now ≤ s.supAt + 2 * 1536 * 10 ^ 9) :=
  ⟨{ State.reset with perst := false, bootDone := [8, 6] }, 0x10203, by decide +kernel, by decide +kernel⟩

theorem wit_BringUpAndVault_5 : ∃ (s : State),
    (starting s = true) ∧
    (s.supAt + 2 * 1536 * 10 ^ 9 < s.now) ∧
    (flagF SEC_BOOT_PENDING s = false) :=
  ⟨{ State.reset with perst := false, bootDone := [8, 6], now := 10 ^ 13 }, by decide +kernel, by decide +kernel, by decide +kernel⟩

theorem wit_BringUpAndVault_6 : ∃ (s : State) (x : VaultWrite) (r : List VaultWrite),
    (s.vbuf = x :: r) ∧
    (x.pkt = 0) ∧
    (x.reset = false) :=
  ⟨{ up with vbuf := [⟨7, 9, 0, false⟩, ⟨8, 5, 0, false⟩], vault := [(8, 3)], wear := [(7, 10000000)] }, ⟨7, 9, 0, false⟩, [⟨8, 5, 0, false⟩], by decide +kernel, by decide +kernel, by decide +kernel⟩

theorem wit_FunctionsAndInterrupts_2 : ∃ (s : State),
    ((∀ v ∈ vfNumbers, (fnOf v s).present = false)) :=
  ⟨up, by decide +kernel⟩

theorem wit_FunctionsAndInterrupts_3 : ∃ (s : State),
    ((∀ v ∈ vfNumbers, funcPart v s = none)) ∧
    (s.accepted = []) :=
  ⟨setF (CMD_PWw_CTRL_EN 9) 1 { up with fns := [(0, ⟨true, true, false, false, []⟩), (2, ⟨true, true, false, false, [3]⟩)], mbx := [(2 * 4096 + 4, 7)] }, by decide +kernel, by decide +kernel⟩

theorem wit_FunctionsAndInterrupts_4 : ∃ (s : State) (v : Fin 33),
    (v ≠ 0) ∧
    ((fnOf v s).present = true) ∧
    (funcPart v s = none) ∧
    ((∀ p ∈ s.accepted, p.window / 4 ≠ v.val)) :=
  ⟨setF (CMD_PWw_CTRL_EN 9) 1 { up with fns := [(2, ⟨true, true, false, false, [3]⟩)], mbx := [(2 * 4096 + 4, 7), (3 * 4096 + 4, 9)], ledger := [(2, [[1]])] }, 2, by decide +kernel, by decide +kernel, by decide +kernel, by decide +kernel⟩

theorem wit_FunctionsAndInterrupts_5 : ∃ (s : State) (f : Fin 33) (on : Bool),
    ((fnOf f s).present = true) :=
  ⟨up, 0, true, by decide +kernel⟩

theorem wit_FunctionsAndInterrupts_6 : ∃ (s : State) (f : Fin 33) (d3 : Bool),
    ((fnOf f s).present = true) :=
  ⟨up, 0, true, by decide +kernel⟩

theorem wit_FunctionsAndInterrupts_7 : ∃ (s : State) (f : Fin 33) (v : Nat),
    ((fnOf f s).pend = [v]) ∧
    ((fnOf f s).fmask = false) ∧
    (mayMaster f s = true) ∧
    (v < vecCount f) :=
  ⟨{ up with fns := [(0, ⟨true, true, false, false, [2047]⟩)] }, 0, 2047, by decide +kernel, by decide +kernel, by decide +kernel, by decide +kernel⟩

theorem wit_FunctionsAndInterrupts_8 : ∃ (s : State) (f : Fin 33) (v : Nat) (b : Byte),
    ((fnOf f s).present = true) ∧
    ((fnOf f s).pend = []) ∧
    (v < vecCount f) :=
  ⟨up, 0, 5, 0, by decide +kernel, by decide +kernel, by decide +kernel⟩

theorem wit_FunctionsAndInterrupts_10 : ∃ (s : State) (addr id : Nat) (data : List Byte),
    (mayMaster 0 s = true) ∧
    (s.stage = none) ∧
    ((∀ p ∈ s.accepted, p.id ≠ id)) :=
  ⟨{ up with fns := [(0, ⟨true, true, false, false, []⟩)] }, 0, 4, [], by decide +kernel, by decide +kernel, by decide +kernel⟩

theorem wit_FunctionsAndInterrupts_13 : ∃ (s : State) (off16 : Int) (mpd : Nat),
    (tdState 6 s = 4) :=
  ⟨setF (AIR_TDn_STATE_STATE 6) 4 up, -99, 5, by decide +kernel⟩

theorem wit_ApertureAndWindowAccesses_1 : ∃ (s : State) (f : Fin 33) (off : Nat) (l : List Byte),
    (hostUp f s = true) ∧
    ((fnOf f s).present = true) ∧
    (l.length ≤ 64) ∧
    (off + l.length ≤ 2 ^ 18) ∧
    (0x40 ≤ off % 4096) ∧
    (off % 4096 + l.length ≤ 4096) :=
  ⟨{ up with bar2 := [(67, 5)] }, 0, 0x40, [9, 8, 7, 0], by decide +kernel, by decide +kernel, by decide +kernel, by decide +kernel, by decide +kernel, by decide +kernel⟩

theorem wit_ApertureAndWindowAccesses_2 : ∃ (s : State) (off : Nat) (l : List Byte),
    (hostUp 0 s = true) ∧
    ((fnOf 0 s).present = true) ∧
    (l.length ≤ 64) ∧
    (2 ^ 18 ≤ off ∧ off < 0x840000) :=
  ⟨{ up with bar2 := [(67, 5)] }, 0x83FFFF, [9], by decide +kernel, by decide +kernel, by decide +kernel, by decide +kernel⟩

theorem wit_ApertureAndWindowAccesses_3 : ∃ (s : State) (f : Fin 33) (off n : Nat),
    (apIn f off n s = true) ∧
    (apOk f (apAddr f off s) n s = true) ∧
    (anyHeld (apAddr f off s) n s = false) ∧
    (anyPoison (apAddr f off s) n s = false) :=
  ⟨{ up with bmap := [(0, mkEnt 2 4 300 0 512 false)], mem := [(2 * 2 ^ 43 + 5, 7)] }, 0, 5, 2, by decide +kernel, by decide +kernel, by decide +kernel, by decide +kernel⟩

theorem wit_ApertureAndWindowAccesses_4 : ∃ (s : State) (f : Fin 33) (off n : Nat),
    (apIn f off n s = true) ∧
    (apOk f (apAddr f off s) n s = false) :=
  ⟨up, 0, 2 ^ 36 - 4, 4, by decide +kernel, by decide +kernel⟩

theorem wit_ApertureAndWindowAccesses_5 : ∃ (s : State) (f : Fin 33) (off : Nat) (l : List Byte),
    (apIn f off l.length s = true) ∧
    (l ≠ []) ∧
    (apOk f (apAddr f off s) l.length s = false) :=
  ⟨up, 0, 2 ^ 36 - 4, [1, 2, 3, 4], by decide +kernel, by decide +kernel, by decide +kernel⟩

theorem wit_ApertureAndWindowAccesses_6 : ∃ (s : State) (f : Fin 33) (off : Nat) (l : List Byte),
    (apIn f off l.length s = true) ∧
    (l ≠ []) ∧
    (apOk f (apAddr f off s) l.length s = true) ∧
    (apAddr f off s % 64 + l.length ≤ 64) ∧
    (s.poison = [] ∧ s.migs = [] ∧ s.fabHeld = [] ∧ s.shadows = []) ∧
    (objPoisoned (apAddr f off s) s = false) :=
  ⟨{ up with bmap := [(0, mkEnt 2 4 300 0 512 false)], mem := [(2 * 2 ^ 43 + 5, 7)] }, 0, 5, [1, 2, 3], by decide +kernel, by decide +kernel, by decide +kernel, by decide +kernel, by decide +kernel, by decide +kernel⟩

theorem wit_ApertureAndWindowAccesses_7 : ∃ (s : State) (f : Fin 33) (v : BitVec 64),
    (streamOut f s = false) ∧
    (v.toNat / 2 ^ 21 % 2 ^ 22 * 2 ^ 21 ≤ 2 ^ 43 - 2 ^ 36) :=
  ⟨up, 5, 0x7F000000000, by decide +kernel, by decide +kernel⟩

theorem wit_ApertureAndWindowAccesses_8 : ∃ (s : State) (f : Fin 33) (v : BitVec 64),
    (streamOut f s = false) ∧
    (2 ^ 43 - 2 ^ 36 < v.toNat / 2 ^ 21 % 2 ^ 22 * 2 ^ 21) :=
  ⟨up, 5, 0x7F000200000, by decide +kernel, by decide +kernel⟩

theorem wit_RegisterAccesses_1a : ∃ (s : State) (g : Fld) (v : BitVec 64),
    (allOpen s) ∧
    (g ∈ maskFields) ∧
    (v.toNat < 2 ^ 32) :=
  ⟨{ up with perst := false }, FLT_EVT_MASK_MASK, 0x55, by unfold allOpen; decide +kernel, by decide +kernel, by decide +kernel⟩

theorem wit_RegisterAccesses_1b : ∃ (s : State) (g : Fld) (v : BitVec 64),
    (allOpen s) ∧
    (g ∈ maskFields) ∧
    (v.toNat < 2 ^ 32) :=
  ⟨{ up with perst := false }, SIG_EVT_MASK_MASK, 0xFFFFFFFF, by unfold allOpen; decide +kernel, by decide +kernel, by decide +kernel⟩

theorem wit_RegisterAccesses_2 : ∃ (s : State) (v : BitVec 64),
    (allOpen s) ∧
    (v.toNat < 2 ^ 32) :=
  ⟨setF AIR_EVT_EXCEED 0xA1 (setF AIR_EVT_HOLD 0xF0 { up with perst := false }), 0x00200090, by unfold allOpen; decide +kernel, by decide +kernel⟩

theorem wit_RegisterAccesses_3 : ∃ (s : State) (off : Nat) (v : BitVec 64),
    (allOpen s) ∧
    (off = DEV_IDENT ∨ off = AIR_TDn_STATE 3 ∨ off = PWR_TSTAT) :=
  ⟨setF (AIR_TDn_STATE_STATE 3) 2 { up with perst := false }, AIR_TDn_STATE 3, 0xFFFFFFFF, by unfold allOpen; decide +kernel, by decide +kernel⟩

theorem wit_RegisterAccesses_4 : ∃ (s : State) (n : Fin 8),
    (allOpen s) ∧
    (captureOf 0 (AIR_TDn_COUNT n) s = none) :=
  ⟨setF (AIR_TDn_COUNT_VALUE 7) 0x1234567889ABCDEF { up with perst := false }, 7, by unfold allOpen; decide +kernel, by decide +kernel⟩

theorem wit_RegisterAccesses_5 : ∃ (s : State) (n : Fin 8) (x : Nat),
    (allOpen s) ∧
    (captureOf 0 (AIR_TDn_COUNT n + 4) s = some x) :=
  ⟨capture 0 (AIR_TDn_COUNT 7 + 4) 0x1234 { up with perst := false }, 7, 0x1234, by unfold allOpen; decide +kernel, by decide +kernel⟩

theorem wit_RegisterAccesses_6 : ∃ (s : State) (n : Fin 8),
    (allOpen s) :=
  ⟨setF (AIR_TDn_COUNT_VALUE 7) 0x1234567889ABCDEF { up with perst := false }, 7, by unfold allOpen; decide +kernel⟩

theorem wit_RegisterAccesses_7 : ∃ (s : State) (f : Fin 33) (a : Bar0Acc),
    (tlpTaken f s = true) ∧
    (accessOk a.off a.size = false) ∧
    (4 ≤ a.size ∨ 4 < a.off % 4 + a.size ∨ a.size = 0) :=
  ⟨{ up with perst := false }, 0, ⟨true, 3, 2⟩, by decide +kernel, by decide +kernel, by decide +kernel⟩

theorem wit_RegisterAccesses_8 : ∃ (s : State) (f : Fin 33) (a : Bar0Acc),
    (tlpTaken f s = true) ∧
    (a.read = true) ∧
    (0 < a.size) ∧
    (a.size < 4) ∧
    (a.off % 4 + a.size ≤ 4) :=
  ⟨{ up with perst := false }, 0, ⟨true, 3, 1⟩, by decide +kernel, by decide +kernel, by decide +kernel, by decide +kernel, by decide +kernel⟩

theorem wit_RegisterAccesses_9 : ∃ (s : State) (f : Fin 33) (a : Bar0Acc),
    (tlpTaken f s = true) ∧
    (a.read = false) ∧
    (0 < a.size) ∧
    (a.size < 4) :=
  ⟨{ up with perst := false }, 0, ⟨false, 4, 2⟩, by decide +kernel, by decide +kernel, by decide +kernel, by decide +kernel⟩

theorem wit_RegisterAccesses_10 : ∃ (s : State),
    (hostUp 0 s = true) :=
  ⟨setF PWR_PEAK_POWER 77 up, by decide +kernel⟩

theorem wit_SpdmServed_1 : ∃ (s : State) (via : Fin 3),
    (spdmUp s = true) :=
  ⟨up, 2, by decide +kernel⟩

theorem wit_SpdmServed_2 : ∃ (s : State) (via : Fin 3),
    (spdmUp s = true) ∧
    (1 ≤ (spdmOf via s).phase) :=
  ⟨{ up with spdm := [(1, ⟨1, 0⟩)] }, 1, by decide +kernel, by decide +kernel⟩

theorem wit_SpdmServed_3 : ∃ (s : State) (via : Fin 3),
    (spdmUp s = true) ∧
    (2 ≤ (spdmOf via s).phase) :=
  ⟨{ up with spdm := [(1, ⟨2, 0⟩)] }, 1, by decide +kernel, by decide +kernel⟩

theorem wit_SpdmServed_4 : ∃ (s : State) (via : Fin 3) (a b : Byte),
    (spdmUp s = true) ∧
    ((spdmOf via s).phase = 0) :=
  ⟨up, 0, 1, 0, by decide +kernel, by decide +kernel⟩

theorem wit_SpdmServed_5 : ∃ (s : State) (via : Fin 3),
    (spdmReady via s) :=
  ⟨{ up with spdm := [(1, ⟨3, 0⟩)] }, 1, by unfold spdmReady; decide +kernel⟩

theorem wit_SpdmServed_6 : ∃ (s : State) (via : Fin 3) (off len : Nat),
    (spdmReady via s) :=
  ⟨{ up with spdm := [(1, ⟨3, 0⟩)] }, 1, 0, 16, by unfold spdmReady; decide +kernel⟩

theorem wit_SpdmServed_7 : ∃ (s : State) (via : Fin 3) (nonce : List Byte),
    (spdmReady via s) :=
  ⟨{ up with spdm := [(1, ⟨3, 0⟩)] }, 1, [1, 2], by unfold spdmReady; decide +kernel⟩

theorem wit_SpdmServed_8 : ∃ (s : State) (via : Fin 3) (index : Nat) (signed : Bool) (nonce : List Byte),
    (spdmReady via s) ∧
    (1 ≤ index ∧ index ≤ 7) :=
  ⟨{ up with spdm := [(1, ⟨3, 0⟩)] }, 1, 7, true, [1, 2], by unfold spdmReady; decide +kernel, by decide +kernel⟩

theorem wit_SpdmServed_9 : ∃ (s : State) (via : Fin 3) (index : Nat) (signed : Bool) (nonce : List Byte),
    (spdmReady via s) ∧
    (7 < index) ∧
    (index ≠ 255) :=
  ⟨{ up with spdm := [(1, ⟨3, 0⟩)] }, 1, 8, true, [1, 2], by unfold spdmReady; decide +kernel, by decide +kernel, by decide +kernel⟩

theorem wit_SpdmServed_10 : ∃ (s : State) (via : Fin 3) (dhe : List Byte),
    (spdmReady via s) :=
  ⟨{ up with spdm := [(1, ⟨3, 0⟩)] }, 1, [1, 2], by unfold spdmReady; decide +kernel⟩

theorem wit_SpdmServed_11 : ∃ (s : State) (via : Fin 3),
    (spdmReady via s) ∧
    ((spdmOf via s).session = 1) :=
  ⟨{ up with spdm := [(1, ⟨3, 1⟩)] }, 1, by unfold spdmReady; decide +kernel, by decide +kernel⟩

theorem wit_SpdmServed_12 : ∃ (s : State) (via : Fin 3),
    (spdmReady via s) ∧
    ((spdmOf via s).session = 2) :=
  ⟨{ up with spdm := [(1, ⟨3, 2⟩)] }, 1, by unfold spdmReady; decide +kernel, by decide +kernel⟩

theorem wit_SpdmServed_13 : ∃ (s : State) (via : Fin 3),
    (spdmReady via s) ∧
    ((spdmOf via s).session = 2) :=
  ⟨{ up with spdm := [(1, ⟨3, 2⟩)] }, 1, by unfold spdmReady; decide +kernel, by decide +kernel⟩

theorem wit_SpdmServed_14 : ∃ (s : State) (via : Fin 3),
    (spdmReady via s) ∧
    ((spdmOf via s).session = 2) :=
  ⟨{ up with spdm := [(1, ⟨3, 2⟩)] }, 1, by unfold spdmReady; decide +kernel, by decide +kernel⟩

theorem wit_ManagementServed_1 : ∃ (s : State) (i len : Nat),
    (spdmUp s = true) ∧
    (len ≤ 65536) :=
  ⟨up, 2, 65536, by decide +kernel, by decide +kernel⟩

theorem wit_ManagementServed_2 : ∃ (s : State) (n len : Nat),
    (spdmUp s = true) ∧
    ((spdmOf 2 s).session = 2) ∧
    (len ≤ 65536) :=
  ⟨{ up with spdm := [(2, ⟨3, 2⟩)], insecure := [(3, [1])] }, 3, 64, by decide +kernel, by decide +kernel, by decide +kernel⟩

theorem wit_ManagementServed_3 : ∃ (s : State) (f : Fin 33) (len : Nat) (d : DoeObj),
    (f ≠ 0 ∨ 65536 < len) :=
  ⟨up, 1, 4, .discovery 0, by decide +kernel⟩

theorem wit_ManagementServed_5 : ∃ (s : State) (via : Fin 2) (e : Byte),
    (inReset s = false) ∧
    (flagF DEV_STAT_READY s = true) :=
  ⟨{ up with perst := false }, 1, 0x42, by decide +kernel, by decide +kernel⟩

theorem wit_ManagementServed_7 : ∃ (s : State) (via : Fin 2) (eid : Byte),
    (recovering s = false) ∧
    (flagF DEV_STAT_READY s = true) ∧
    (bitAt 9 (getF FLT_HEART_ALIVE s) = true) :=
  ⟨setF FLT_HEART_ALIVE 1023 up, 1, 0x42, by decide +kernel, by decide +kernel, by decide +kernel⟩

theorem wit_ManagementServed_8 : ∃ (s : State) (via : Fin 2) (len : Nat),
    (recovering s = false) ∧
    (flagF DEV_STAT_READY s = true) ∧
    (bitAt 9 (getF FLT_HEART_ALIVE s) = true) ∧
    (retired s = false) ∧
    ((∀ q ∈ s.accepted, q.opcode < 0x0801 ∨ 0x0803 < q.opcode)) ∧
    (s.upd.mode = .idle) :=
  ⟨{ setF FLT_HEART_ALIVE 1023 up with accepted := [pkt 0x804 255 []] }, 1, 9000, by decide +kernel, by decide +kernel, by decide +kernel, by decide +kernel, by decide +kernel, by decide +kernel⟩

theorem wit_ManagementServed_9 : ∃ (s : State) (data : List Byte),
    (s.upd.mode = .transfer) ∧
    (s.upd.got + data.length < s.upd.len) :=
  ⟨{ up with upd := ⟨.transfer, 10, 4, [(1, 5)]⟩ }, [7, 0, 9], by decide +kernel, by decide +kernel⟩

theorem wit_ManagementServed_10 : ∃ (s : State) (data : List Byte),
    (s.upd.mode = .transfer) ∧
    (s.upd.len ≤ s.upd.got + data.length) ∧
    (s.upd.got ≤ s.upd.len) :=
  ⟨{ up with upd := ⟨.transfer, 6, 4, [(1, 5)]⟩ }, [7, 0, 9], by decide +kernel, by decide +kernel, by decide +kernel⟩

theorem wit_ManagementServed_11 : ∃ (s : State),
    (s.upd.mode = .verify) :=
  ⟨{ up with upd := ⟨.verify, 6, 6, [(1, 5)]⟩ }, by decide +kernel⟩

theorem wit_ManagementServed_12 : ∃ (s : State),
    (s.upd.mode = .apply) ∧
    (recovering s = false) :=
  ⟨{ up with upd := ⟨.apply, 6, 6, [(1, 5)]⟩, flash := [(3, 4), (2 ^ 28 + 2, 8), (2 ^ 28 + 8, 9)] }, by decide +kernel, by decide +kernel⟩

theorem wit_ManagementServed_13 : ∃ (s : State),
    (s.upd.mode = .apply) ∧
    (recovering s = false) :=
  ⟨{ up with upd := ⟨.apply, 6, 6, [(1, 5)]⟩ }, by decide +kernel, by decide +kernel⟩

theorem wit_ManagementServed_14 : ∃ (s : State) (via : Fin 2),
    (recovering s = false) ∧
    (flagF DEV_STAT_READY s = true) ∧
    (bitAt 9 (getF FLT_HEART_ALIVE s) = true) ∧
    (s.upd.mode = .ready) :=
  ⟨{ setF FLT_HEART_ALIVE 1023 up with upd := ⟨.ready, 6, 6, [(1, 5)]⟩ }, 0, by decide +kernel, by decide +kernel, by decide +kernel, by decide +kernel⟩

theorem wit_ManagementServed_15 : ∃ (s : State),
    (recovering s = true) ∧
    (s.upd.mode = .apply) :=
  ⟨setF SEC_BOOT_RESULT 3 { State.reset with upd := ⟨.apply, 6, 6, [(1, 5)]⟩, flash := [(3, 4), (2 ^ 28 + 2, 8)] }, by decide +kernel, by decide +kernel⟩

theorem wit_TapInstructions_9 : ∃ (s : State) (k : Fin 10),
    (debugOpen s = true) :=
  ⟨up, 9, by decide +kernel⟩

theorem wit_TapInstructions_10 : ∃ (s : State) (k : Fin 10),
    (debugOpen s = false) :=
  ⟨setF SEC_LC_STATE 2 up, 9, by decide +kernel⟩

theorem wit_SecurityCommands_1 : ∃ (s : State) (p : Pkt),
    (ready p s = true) ∧
    (chkStage p s = none) ∧
    (mayMaster p.func s = true) :=
  ⟨{ took (pkt 0x802 255 ([0, 16, 0, 0, 0, 0, 0, 0, 0, 32] ++ zeros 22)) up with fns := [(0, ⟨true, true, false, false, []⟩)] }, pkt 0x802 255 ([0, 16, 0, 0, 0, 0, 0, 0, 0, 32] ++ zeros 22), by decide +kernel, by decide +kernel, by decide +kernel⟩

theorem wit_SecurityCommands_2 : ∃ (s : State) (g : Stage),
    (s.stage = some g) ∧
    (mayMaster 0 s = true) :=
  ⟨{ took (pkt 0x802 255 []) up with fns := [(0, ⟨true, true, false, false, []⟩)], stage := some ⟨1, 4096, 8, 0⟩ }, ⟨1, 4096, 8, 0⟩, by decide +kernel, by decide +kernel⟩

theorem wit_SecurityCommands_3 : ∃ (s : State) (p : Pkt),
    (ready p s = true) ∧
    (chkActivate p s = none) ∧
    (s.ctxs = []) :=
  ⟨setF SEC_STAGE_BANK 1 (setF SEC_STAGE_STATE 2 (took (pkt 0x803 255 [1, 0, 0, 0]) up)), pkt 0x803 255 [1, 0, 0, 0], by decide +kernel, by decide +kernel, by decide +kernel⟩

theorem wit_SecurityCommands_4 : ∃ (s : State) (p : Pkt),
    (ready p s = true) ∧
    (chkLc p s = none) ∧
    (pSigner p s = some .noToken) ∧
    (s.ctxs = []) ∧
    (s.cells = []) ∧
    ((∀ n ∈ domains, partSt n s = 0)) :=
  ⟨setF SEC_LC_STATE 3 (took (pkt 0x801 255 ([2] ++ zeros 15)) up), pkt 0x801 255 ([2] ++ zeros 15), by decide +kernel, by decide +kernel, by decide +kernel, by decide +kernel, by decide +kernel, by decide +kernel⟩

theorem wit_SecurityCommands_5 : ∃ (s : State) (p : Pkt) (g : Signer),
    (ready p s = true) ∧
    (chkLc p s = none) ∧
    (pSigner p s = some g) ∧
    (g ≠ .noToken) ∧
    (mayMaster p.func s = true) ∧
    (fieldLE (readBytes s.hostMem (pf p 8 8) 4) 0 4 ≠ 0x4B4F544C) :=
  ⟨{ took (pkt 0x801 255 ([1, 0, 0, 0, 0x8B, 0x1C] ++ zeros 10)) up with fns := [(0, ⟨true, true, false, false, []⟩)] }, pkt 0x801 255 ([1, 0, 0, 0, 0x8B, 0x1C] ++ zeros 10), .maker, by decide +kernel, by decide +kernel, by decide +kernel, by decide +kernel, by decide +kernel, by decide +kernel⟩

theorem wit_SecurityCommands_6 : ∃ (s : State) (p : Pkt),
    (ready p s = true) :=
  ⟨{ took (pkt 0x804 255 (zeros 56)) up with fns := [(0, ⟨true, true, false, false, []⟩)] }, pkt 0x804 255 (zeros 56), by decide +kernel⟩

theorem wit_SecurityCommands_7 : ∃ (s : State) (p : Pkt),
    (ready p s = true) ∧
    (chkCal p s = none) :=
  ⟨took (pkt 0x805 255 ([57, 0, 0, 0, 0, 0xF0] ++ zeros 10)) up, pkt 0x805 255 ([57, 0, 0, 0, 0, 0xF0] ++ zeros 10), by decide +kernel, by decide +kernel⟩

theorem wit_CommandSweeper_1 : ∃ (s : State) (w : Fin 132),
    (sweeps w s = true) ∧
    (sealsGood w s) ∧
    (foundSlots w s = []) :=
  ⟨{ posted 0 with bar2 := [] }, 0, by decide +kernel, by unfold sealsGood; decide +kernel, by decide +kernel⟩

theorem wit_CommandSweeper_2 : ∃ (s : State) (w : Fin 132) (k : Nat),
    (sweeps w s = true) ∧
    (sealsGood w s) ∧
    (foundSlots w s = [k]) ∧
    (2 ≤ ringFree w s) ∧
    (slotCheck96 w k s = none) :=
  ⟨posted 0, 0, 2, by decide +kernel, by unfold sealsGood; decide +kernel, by decide +kernel, by decide +kernel, by decide +kernel⟩

theorem wit_CommandSweeper_3 : ∃ (s : State) (w : Fin 132) (k : Nat),
    (sweeps w s = true) ∧
    (sealsGood w s) ∧
    (foundSlots w s = [k]) ∧
    (2 ≤ ringFree w s) ∧
    (crc32c ((slotHdr w k s).take 28) ≠ fieldLE (slotHdr w k s) 28 4) ∧
    ((packetIn w k s).opcode / 256 ≠ 4) :=
  ⟨posted 1, 0, 2, by decide +kernel, by unfold sealsGood; decide +kernel, by decide +kernel, by decide +kernel, by decide +kernel, by decide +kernel⟩

theorem wit_CommandSweeper_4 : ∃ (s : State) (w : Fin 132) (v : BitVec 32),
    (hostUp 0 s = true) ∧
    (flagF (CMD_PWw_CTRL_EN w) s = false) ∧
    (bitAt 0 v.toNat = true) ∧
    (newTotal w v.toNat s ≤ 4096 * sweepScale) :=
  ⟨{ up with bar2 := writeBytes (slotAddr 131 15) [1, 0, 0, 0] [], seals := [(131 * 16 + 15, 1)] }, 131, 0x00020A01, by decide +kernel, by decide +kernel, by decide +kernel, by decide +kernel⟩

theorem wit_CommandSweeper_5 : ∃ (s : State) (w : Fin 132) (v : BitVec 32),
    (hostUp 0 s = true) ∧
    (flagF (CMD_PWw_CTRL_EN w) s = true) ∧
    (bitAt 0 v.toNat = false) ∧
    (newTotal w v.toNat s ≤ 4096 * sweepScale) :=
  ⟨{ posted 0 with accepted := [pkt 0x107 255 []] }, 0, 0x00000A00, by decide +kernel, by decide +kernel, by decide +kernel, by decide +kernel⟩

theorem wit_CommandSweeper_6 : ∃ (s : State) (f : Fin 33) (w : Fin 132) (v : BitVec 32),
    (f ≠ 0) :=
  ⟨up, 3, 12, 1, by decide +kernel⟩

theorem wit_CommandSweeper_7 : ∃ (s : State) (f : Fin 33) (w : Fin 132) (v : BitVec 32),
    (hostUp f s = true) ∧
    (f.val = 0 ∨ w.val / 4 = f.val) ∧
    ((v.toNat % 2 ^ 17 + 2 ^ 17 - getF (CMD_PWw_RR_HEAD_HEAD w) s) % 2 ^ 17 ≤ (getF (CMD_PWw_RR_TAIL_TAIL w) s + 2 ^ 17 - getF (CMD_PWw_RR_HEAD_HEAD w) s) % 2 ^ 17) :=
  ⟨setF (CMD_PWw_RR_HEAD_HEAD 5) (2 ^ 17 - 1) (setF (CMD_PWw_RR_TAIL_TAIL 5) 3 up), 1, 5, 3, by decide +kernel, by decide +kernel, by decide +kernel⟩

theorem wit_CommandSweeper_8 : ∃ (s : State) (f : Fin 33) (w : Fin 132) (v : BitVec 32),
    (hostUp f s = true) ∧
    (f.val = 0 ∨ w.val / 4 = f.val) ∧
    ((getF (CMD_PWw_RR_TAIL_TAIL w) s + 2 ^ 17 - getF (CMD_PWw_RR_HEAD_HEAD w) s) % 2 ^ 17 < (v.toNat % 2 ^ 17 + 2 ^ 17 - getF (CMD_PWw_RR_HEAD_HEAD w) s) % 2 ^ 17) :=
  ⟨setF (CMD_PWw_RR_HEAD_HEAD 5) (2 ^ 17 - 1) (setF (CMD_PWw_RR_TAIL_TAIL 5) 3 up), 1, 5, 4, by decide +kernel, by decide +kernel, by decide +kernel⟩

theorem wit_CommandSweeper_9 : ∃ (s : State) (id : Nat) (p : Pkt) (c : Instr),
    (s.accepted.find? (fun q => decide (q.id = id)) = some p) ∧
    (p.id ∈ s.timed) ∧
    (due p s = true) ∧
    (packetCommand p = some c) :=
  ⟨setF (AIR_TDn_COUNT_VALUE 0) 900 { took { pkt 0x107 255 [1, 2, 3, 4] with at_ := 800 } up with timed := [1] }, 1, { pkt 0x107 255 [1, 2, 3, 4] with at_ := 800 }, .devEcho { pkt 0x107 255 [1, 2, 3, 4] with at_ := 800 }, by decide +kernel, by decide +kernel, by decide +kernel, by decide +kernel⟩

theorem wit_CommandSweeper_10 : ∃ (s : State) (id : Nat) (p : Pkt) (c : Instr),
    (s.accepted.find? (fun q => decide (q.id = id)) = some p) ∧
    (p.barrier = true) ∧
    (waitsBarrier p s = false) ∧
    (packetCommand p = some c) :=
  ⟨took { pkt 0x107 255 [1, 2, 3, 4] with barrier := true } up, 1, { pkt 0x107 255 [1, 2, 3, 4] with barrier := true }, .devEcho { pkt 0x107 255 [1, 2, 3, 4] with barrier := true }, by decide +kernel, by decide +kernel, by decide +kernel, by decide +kernel⟩

theorem wit_CommandSweeper_11 : ∃ (s : State),
    (bitAt 9 (getF FLT_HEART_ALIVE s) = false) ∧
    (s.deferred = []) :=
  ⟨{ setF FLT_HEART_ALIVE 511 up with missed := [(9, 2)] }, by decide +kernel, by decide +kernel⟩

theorem wit_CommandSweeper_12 : ∃ (s : State) (id : Nat) (p : Pkt) (c : Instr),
    (bitAt 9 (getF FLT_HEART_ALIVE s) = false) ∧
    (s.deferred = [id]) ∧
    (s.accepted.find? (fun q => decide (q.id = id)) = some p) ∧
    (packetCommand p = some c) :=
  ⟨setF FLT_HEART_ALIVE 511 { took (pkt 0x107 255 [1, 2, 3, 4]) up with deferred := [1] }, 1, pkt 0x107 255 [1, 2, 3, 4], .devEcho (pkt 0x107 255 [1, 2, 3, 4]), by decide +kernel, by decide +kernel, by decide +kernel, by decide +kernel⟩

theorem wit_DeviceCommands_1 : ∃ (s : State) (p : Pkt),
    (ready p s = true) ∧
    (chkInfo p s = none) ∧
    (replyLands p.window s = true) ∧
    (pf p 0 8 + 128 ≤ getF (CMD_PWw_RR_BASE_ADDR p.window) s * 4096 ∨ getF (CMD_PWw_RR_BASE_ADDR p.window) s * 4096 + ringSize p.window s * 32 ≤ pf p 0 8) :=
  ⟨setF (CMD_PWw_RR_BASE_ADDR 0) 9 { took (pkt 0x101 255 [0, 1, 0, 0, 0, 0, 0, 0, 128, 0, 0, 0, 0, 0, 0, 0]) up with fns := [(0, ⟨true, true, false, false, []⟩)] }, pkt 0x101 255 [0, 1, 0, 0, 0, 0, 0, 0, 128, 0, 0, 0, 0, 0, 0, 0], by decide +kernel, by decide +kernel, by decide +kernel, by decide +kernel⟩

theorem wit_DeviceCommands_2 : ∃ (s : State) (p : Pkt),
    (ready p s = true) :=
  ⟨{ took (pkt 0x107 255 [1, 2, 3, 4]) up with fns := [(0, ⟨true, true, false, false, []⟩)] }, pkt 0x107 255 [1, 2, 3, 4], by decide +kernel⟩

theorem wit_DeviceCommands_3 : ∃ (s : State) (p : Pkt),
    (ready p s = true) ∧
    (chkReset p s = none) :=
  ⟨{ took (pkt 0x104 255 [1, 0, 0, 0]) up with cells := [(1, cellOf 1 [])] }, pkt 0x104 255 [1, 0, 0, 0], by decide +kernel, by decide +kernel⟩

theorem wit_DeviceCommands_4 : ∃ (s : State) (p : Pkt) (c : Nat × Cell),
    (ready p s = true) ∧
    (pf p 0 4 = 0) ∧
    (s.cells.find? (fun c => decide (c.2.st = 1) || decide (c.2.st = 2)) = some c) :=
  ⟨{ took (pkt 0x104 255 [0, 0, 0, 0]) up with cells := [(1, cellOf 3 []), (2, cellOf 2 [])] }, pkt 0x104 255 [0, 0, 0, 0], (2, cellOf 2 []), by decide +kernel, by decide +kernel, by decide +kernel⟩

theorem wit_EscrowCommands_1 : ∃ (s : State) (v : BitVec 64),
    (hostUp 0 s = true) ∧
    ((∀ x ∈ List.range 5, ceiling x s ≤ ceilingGiven v x ∧ 10 ≤ ceilingGiven v x ∧ ceilingGiven v x ≤ 95)) :=
  ⟨setF ESC_CEILING_FH 90 (setF ESC_CEILING_MC 10 up), 0x5F5F5F5F5F, by decide +kernel, by decide +kernel⟩

theorem wit_EscrowCommands_2 : ∃ (s : State) (v : BitVec 64) (x : Nat),
    (hostUp 0 s = true) ∧
    (x < 4) ∧
    (10 ≤ ceilingGiven v x ∧ ceilingGiven v x ≤ 95 ∧ ceilingGiven v x < ceiling x s) ∧
    (capAt (dutyPct s) x s * ceilingGiven v x < usedCredit x s * 100) :=
  ⟨{ setF ESC_DUTY_DUTY 100 (setF MXC_STAT_ACTIVE 1 up) with cells := [(1, { cellOf 1 [] with credit := ⟨600000, 0, 0, 0, 0, 0⟩ })] }, 0x505050500A, 0, by decide +kernel, by decide +kernel, by decide +kernel, by decide +kernel⟩

theorem wit_EscrowCommands_3 : ∃ (s : State) (core : Nat) (c : Fin 512) (slot : Nat) (ul neural : Bool) (start work : Nat) (cell : Cell),
    (lookup c.val s.cells = some cell) ∧
    (coreInService core s = true) ∧
    (coreSuspect core s = false) ∧
    (overlaps core start (workToCycles work s) s = false) ∧
    ((windowInterval cell slot ul neural s).1 ≤ start) ∧
    (((start + nsToTc (workToCycles work s) : Nat) : Int) ≤ (windowInterval cell slot ul neural s).2) ∧
    (planPoint cell.cfg start s ≤ counter (cfgTd cell.cfg) s) :=
  ⟨setF (AIR_TDn_COUNT_VALUE 0) (10 ^ 10) (setF DEV_IDENT_GRADE 144 { up with cells := [(4, cellOf 1 [])] }), 143, 4, 20000000, false, false, 18500000, 1000, cellOf 1 [], by decide +kernel, by decide +kernel, by decide +kernel, by decide +kernel, by decide +kernel, by decide +kernel, by decide +kernel⟩

theorem wit_EscrowCommands_4 : ∃ (s : State) (core : Nat) (c : Fin 512) (slot : Nat) (ul neural : Bool) (start work : Nat) (short : Bool),
    (coreInService core s = false ∨ coreSuspect core s = true ∨ overlaps core start (workToCycles work s) s = true) :=
  ⟨{ up with mcRemoved := [5] }, 5, 4, 20000000, false, false, 18000000, 1000, true, by decide +kernel⟩

theorem wit_EscrowCommands_5 : ∃ (s : State) (core start : Nat) (w : Window) (c : Cell),
    (findWindow core start s = some w) ∧
    (lookup w.cell s.cells = some c) ∧
    (w.retained = false) ∧
    (w.start ≤ counter w.td s + usToTc w.releaseUs) :=
  ⟨{ up with cells := [(4, cellOf 1 [])], windows := [⟨5, 4, 100, true, false, 0, 100, 7000, 20, false, false⟩, ⟨6, 4, 100, true, false, 0, 100, 7000, 20, false, false⟩] }, 5, 100, ⟨5, 4, 100, true, false, 0, 100, 7000, 20, false, false⟩, cellOf 1 [], by decide +kernel, by decide +kernel, by decide +kernel, by decide +kernel⟩

theorem wit_EscrowCommands_6 : ∃ (s : State) (core start : Nat) (w : Window),
    (findWindow core start s = some w) ∧
    (w.opened = false) ∧
    (w.start ≤ counter w.td s) :=
  ⟨setF (AIR_TDn_COUNT_VALUE 3) 100 (setF (MXC_Cn_INFO_CTX 6) 9 { up with windows := [⟨5, 4, 100, true, false, 3, 100, 7000, 20, true, false⟩, ⟨6, 4, 100, true, false, 3, 100, 7000, 20, true, false⟩] }), 6, 100, ⟨6, 4, 100, true, false, 3, 100, 7000, 20, true, false⟩, by decide +kernel, by decide +kernel, by decide +kernel⟩

theorem wit_EscrowCommands_7 : ∃ (s : State) (core start : Nat) (w : Window),
    (findWindow core start s = some w) ∧
    (w.opened = true) ∧
    (getF ESC_CTRL_RETURN_MIN_US s * 1000 ≤ windowLeft w s) :=
  ⟨setF (AIR_TDn_COUNT_VALUE 3) 100 (setF (MXC_Cn_INFO_STATE 6) 1 { up with windows := [⟨5, 4, 100, true, false, 3, 100, 7000, 20, true, false⟩, ⟨6, 4, 100, true, false, 3, 100, 70000, 20, true, true⟩] }), 6, 100, ⟨6, 4, 100, true, false, 3, 100, 70000, 20, true, true⟩, by decide +kernel, by decide +kernel, by decide +kernel⟩

theorem wit_EscrowCommands_8 : ∃ (s : State) (core start : Nat) (w : Window),
    (findWindow core start s = some w) ∧
    (w.opened = true) ∧
    (windowLeft w s < getF ESC_CTRL_RETURN_MIN_US s * 1000) :=
  ⟨setF (AIR_TDn_COUNT_VALUE 3) (10 ^ 9) { up with windows := [⟨6, 4, 100, true, false, 3, 100, 70000, 20, true, true⟩] }, 6, 100, ⟨6, 4, 100, true, false, 3, 100, 70000, 20, true, true⟩, by decide +kernel, by decide +kernel, by decide +kernel⟩

theorem wit_CellCommands_1 : ∃ (s : State) (p : Pkt),
    (ready p s = true) ∧
    (chkCellCreate p s = none) ∧
    (secBusy p s = none) ∧
    (admitAdds createAdds p s = none) :=
  ⟨setF (AIR_TDn_CTRL_EN 3) 1 { took (pkt 0x301 255 ([7, 0, 3, 0, 10, 0, 2, 2, 1, 1, 9] ++ zeros 757)) up with resv := [⟨1, 0, ⟨0, 0, 0, 0, 0, 0⟩, 0, 0, 0⟩] }, pkt 0x301 255 ([7, 0, 3, 0, 10, 0, 2, 2, 1, 1, 9] ++ zeros 757), by decide +kernel, by decide +kernel, by decide +kernel, by decide +kernel⟩

theorem wit_CellCommands_2 : ∃ (s : State) (p : Pkt),
    (ready p s = true) ∧
    (cellSt (pCell p) s ≠ 0) ∧
    ((∀ r ∈ s.resv, r.id ≠ p.id)) :=
  ⟨{ took (pkt 0x301 255 ([7, 0, 3] ++ zeros 765)) up with cells := [(7, cellOf 2 [])] }, pkt 0x301 255 ([7, 0, 3] ++ zeros 765), by decide +kernel, by decide +kernel, by decide +kernel⟩

theorem wit_CellCommands_3 : ∃ (s : State) (p : Pkt) (x : Cell),
    (ready p s = true) ∧
    (lookup (pCell p) s.cells = some x) ∧
    (x.st = 1) ∧
    (admitAdds reconfigAdds p s = none) :=
  ⟨{ took (pkt 0x302 255 ([7, 0, 3, 0, 10, 0, 2, 2, 1, 1, 9] ++ zeros 757)) up with cells := [(7, cellOf 1 ([7, 0, 3] ++ zeros 765))], resv := [⟨1, 0, ⟨0, 0, 0, 0, 0, 0⟩, 0, 0, 0⟩] }, pkt 0x302 255 ([7, 0, 3, 0, 10, 0, 2, 2, 1, 1, 9] ++ zeros 757), cellOf 1 ([7, 0, 3] ++ zeros 765), by decide +kernel, by decide +kernel, by decide +kernel, by decide +kernel⟩

theorem wit_CellCommands_4 : ∃ (s : State) (p : Pkt) (c : Instr),
    (c = .cellReconfig p ∨ c = .cellNeural p) ∧
    (ready p s = true) ∧
    (cellSt (pCell p) s ≠ 1) ∧
    ((∀ r ∈ s.resv, r.id ≠ p.id)) :=
  ⟨{ took (pkt 0x305 255 ([7, 0, 3] ++ zeros 765)) up with cells := [(7, cellOf 2 [])] }, pkt 0x305 255 ([7, 0, 3] ++ zeros 765), .cellNeural (pkt 0x305 255 ([7, 0, 3] ++ zeros 765)), by decide +kernel, by decide +kernel, by decide +kernel, by decide +kernel⟩

theorem wit_CellCommands_5 : ∃ (s : State) (p : Pkt) (x : Cell),
    (ready p s = true) ∧
    (lookup (pCell p) s.cells = some x) ∧
    (x.st = 1) ∧
    (admitAdds neuralAdds p s = none) :=
  ⟨{ took (pkt 0x305 255 ([7, 0, 0, 0] ++ zeros 20)) up with cells := [(7, { cellOf 1 ([7, 0, 3] ++ zeros 765) with neural := true })], resv := [⟨1, 0, ⟨0, 0, 0, 0, 0, 0⟩, 0, 0, 0⟩] }, pkt 0x305 255 ([7, 0, 0, 0] ++ zeros 20), { cellOf 1 ([7, 0, 3] ++ zeros 765) with neural := true }, by decide +kernel, by decide +kernel, by decide +kernel, by decide +kernel⟩

theorem wit_CellCommands_6 : ∃ (s : State) (p : Pkt) (x : Cell),
    (ready p s = true) ∧
    (lookup (pCell p) s.cells = some x) ∧
    (x.st = 1) :=
  ⟨{ took (pkt 0x303 255 [7, 0, 0, 0]) up with cells := [(7, cellOf 1 [])] }, pkt 0x303 255 [7, 0, 0, 0], cellOf 1 [], by decide +kernel, by decide +kernel, by decide +kernel⟩

theorem wit_CellCommands_7 : ∃ (s : State) (p : Pkt),
    (ready p s = true) ∧
    (cellSt (pCell p) s ≠ 1) :=
  ⟨took (pkt 0x303 255 [7, 0, 0, 0]) up, pkt 0x303 255 [7, 0, 0, 0], by decide +kernel, by decide +kernel⟩

theorem wit_CellCommands_8 : ∃ (s : State) (c : Fin 512) (x : Cell) (p : Pkt),
    (lookup c.val s.cells = some x) ∧
    (x.st = 2) ∧
    ((∀ j ∈ s.jobs, j.cell ≠ c.val)) ∧
    ((∀ w ∈ s.windows, w.cell ≠ c.val)) ∧
    (deletePkt c s = some p) :=
  ⟨setF (FH_Ff_MAP_CELL 0 3) 7 (setF (FH_Ff_MAP_VALID 0 3) 1 { took (pkt 0x303 255 [7, 0, 0, 0]) up with cells := [(7, cellOf 2 [])], begun := [1] }), 7, cellOf 2 [], pkt 0x303 255 [7, 0, 0, 0], by decide +kernel, by decide +kernel, by decide +kernel, by decide +kernel, by decide +kernel⟩

theorem wit_CellCommands_9 : ∃ (s : State) (c : Fin 512),
    (cellSt c s ≠ 2 ∨ s.jobs.any (fun j => decide (j.cell = c.val)) = true ∨ s.windows.any (fun w => decide (w.cell = c.val)) = true) :=
  ⟨{ up with cells := [(7, cellOf 2 [])], windows := [⟨6, 7, 100, true, false, 3, 100, 70000, 20, true, true⟩] }, 7, by decide +kernel⟩

theorem wit_CellCommands_10 : ∃ (s : State) (p : Pkt),
    (ready p s = true) ∧
    (replyLands p.window s = true) ∧
    (pf p 4 8 + 832 ≤ getF (CMD_PWw_RR_BASE_ADDR p.window) s * 4096 ∨ getF (CMD_PWw_RR_BASE_ADDR p.window) s * 4096 + ringSize p.window s * 32 ≤ pf p 4 8) :=
  ⟨setF (CMD_PWw_RR_BASE_ADDR 0) 9 { took (pkt 0x304 255 [7, 0, 0, 0, 0, 1, 0, 0, 0, 0, 0, 0]) up with fns := [(0, ⟨true, true, false, false, []⟩)], cells := [(7, cellOf 1 [7])] }, pkt 0x304 255 [7, 0, 0, 0, 0, 1, 0, 0, 0, 0, 0, 0], by decide +kernel, by decide +kernel, by decide +kernel⟩

theorem wit_SlotJobs_1 : ∃ (s : State) (p : Pkt) (c : Instr),
    (c = .slotUl p ∨ c = .slotDl p) ∧
    (ready p s = true) ∧
    (cellSt (pCell p) s = 1) ∧
    ((∀ j ∈ s.jobs, j.pkt.id ≠ p.id)) :=
  ⟨{ took (pkt 0x401 255 (jobPay 9 1)) up with cells := [(7, cellOf 1 [])], timed := [1] }, pkt 0x401 255 (jobPay 9 1), .slotUl (pkt 0x401 255 (jobPay 9 1)), by decide +kernel, by decide +kernel, by decide +kernel, by decide +kernel⟩

theorem wit_SlotJobs_2 : ∃ (s : State) (p : Pkt) (c : Instr),
    (c = .slotUl p ∨ c = .slotDl p) ∧
    (ready p s = true) ∧
    (cellSt (pCell p) s ≠ 1) :=
  ⟨{ took (pkt 0x402 255 (jobPay 9 3)) up with cells := [(7, cellOf 2 [])] }, pkt 0x402 255 (jobPay 9 3), .slotDl (pkt 0x402 255 (jobPay 9 3)), by decide +kernel, by decide +kernel, by decide +kernel⟩

theorem wit_SlotJobs_3 : ∃ (s : State) (c : Fin 512) (ul : Bool) (slot : Nat),
    (ul = true ∨ mayMaster 0 s = true) :=
  ⟨{ up with jobs := [{ jobOf (pkt 0x401 255 []) 7 true 9 [resOf false] with planned := false }] }, 7, true, 9, by decide +kernel⟩

theorem wit_SlotJobs_4 : ∃ (s : State) (c : Fin 512) (slot : Nat) (j : Job) (r : AllocRes),
    (mayMaster 0 s = false) ∧
    (s.jobs = [j]) ∧
    (j.cell = c.val ∧ j.slot = slot ∧ j.ul = false ∧ j.planned = false) ∧
    (j.res = [r]) ∧
    (r.done = false) :=
  ⟨{ up with jobs := [{ jobOf (pkt 0x402 255 []) 7 false 9 [resOf false] with planned := false }] }, 7, 9, { jobOf (pkt 0x402 255 []) 7 false 9 [resOf false] with planned := false }, resOf false, by decide +kernel, by decide +kernel, by decide +kernel, by decide +kernel, by decide +kernel⟩

theorem wit_SlotJobs_5 : ∃ (s : State) (c : Fin 512) (slot : Nat) (x : Cell) (j : Job),
    (lookup c.val s.cells = some x) ∧
    (findJob c slot true s = some j) ∧
    (j.planned = true) ∧
    (j.rxPath = none) ∧
    (slotEndOf x slot + usToTc (cellFp x slot s) ≤ counter (cfgTd x.cfg) s) :=
  ⟨setF (AIR_TDn_COUNT_VALUE 0) (10 ^ 10) { up with cells := [(7, { cellOf 1 [7] with neural := true })], jobs := [{ jobOf (pkt 0x401 255 []) 7 true 0 [resOf false] with neuralDone := true, neuralInvalid := true }] }, 7, 0, { cellOf 1 [7] with neural := true }, { jobOf (pkt 0x401 255 []) 7 true 0 [resOf false] with neuralDone := true, neuralInvalid := true }, by decide +kernel, by decide +kernel, by decide +kernel, by decide +kernel, by decide +kernel⟩

theorem wit_SlotJobs_6 : ∃ (s : State) (c : Fin 512) (slot : Nat) (x : Cell) (j : Job),
    (lookup c.val s.cells = some x) ∧
    (findJob c slot true s = some j) ∧
    (j.rxPath ≠ none) ∧
    (firstInOrder j s = true) ∧
    ((∀ r ∈ j.res, r.done = true ∧ r.status = 0 ∧ r.payload = [])) ∧
    (replyLands j.pkt.window s = true) ∧
    (jobBuf j.pkt.payload + (ulRecord x j (finalRes x j s) s).length ≤ getF (CMD_PWw_RR_BASE_ADDR j.pkt.window) s * 4096) :=
  ⟨setF (CMD_PWw_RR_BASE_ADDR 0) 9 { took (pkt 0x401 255 (jobPay 0 7)) up with fns := [(0, ⟨true, true, false, false, []⟩)], cells := [(7, cellOf 1 [7])], begun := [1], jobs := [{ jobOf (pkt 0x401 255 (jobPay 0 7)) 7 true 0 [resOf true] with rxPath := some 1 }] }, 7, 0, cellOf 1 [7], { jobOf (pkt 0x401 255 (jobPay 0 7)) 7 true 0 [resOf true] with rxPath := some 1 }, by decide +kernel, by decide +kernel, by decide +kernel, by decide +kernel, by decide +kernel, by decide +kernel, by decide +kernel⟩

theorem wit_SlotJobs_7 : ∃ (s : State) (c : Fin 512) (slot : Nat) (x : Cell) (j : Job),
    (lookup c.val s.cells = some x) ∧
    (findJob c slot false s = some j) ∧
    (j.planned = true ∧ j.handed = true) ∧
    (messagesLeft j s = false) ∧
    (firstInOrder j s = true) ∧
    ((∀ r ∈ j.res, r.done = true ∧ r.status = 0)) :=
  ⟨{ took (pkt 0x402 255 (jobPay 0 6)) up with fns := [(0, ⟨true, true, false, false, []⟩)], cells := [(7, cellOf 1 [7])], begun := [1], jobs := [{ jobOf (pkt 0x402 255 (jobPay 0 6)) 7 false 0 [resOf true] with handed := true }] }, 7, 0, cellOf 1 [7], { jobOf (pkt 0x402 255 (jobPay 0 6)) 7 false 0 [resOf true] with handed := true }, by decide +kernel, by decide +kernel, by decide +kernel, by decide +kernel, by decide +kernel, by decide +kernel⟩

theorem wit_SlotJobs_8 : ∃ (s : State) (c : Fin 512) (slot : Nat) (x : Cell) (j : Job) (r : AllocRes),
    (lookup c.val s.cells = some x) ∧
    (findJob c slot false s = some j) ∧
    (j.planned = true ∧ j.handed = true) ∧
    (messagesLeft j s = false) ∧
    (firstInOrder j s = true) ∧
    (j.res = [r]) ∧
    (r.done = true ∧ r.status = 1) :=
  ⟨{ took (pkt 0x402 255 (jobPay 0 3)) up with fns := [(0, ⟨true, true, false, false, []⟩)], cells := [(7, cellOf 1 [7])], begun := [1], jobs := [{ jobOf (pkt 0x402 255 (jobPay 0 3)) 7 false 0 [{ resOf true with status := 1 }] with handed := true }] }, 7, 0, cellOf 1 [7], { jobOf (pkt 0x402 255 (jobPay 0 3)) 7 false 0 [{ resOf true with status := 1 }] with handed := true }, { resOf true with status := 1 }, by decide +kernel, by decide +kernel, by decide +kernel, by decide +kernel, by decide +kernel, by decide +kernel, by decide +kernel⟩

theorem wit_CodeBlocks_1 : ∃ (s : State) (m : Fin 8) (c : Fin 512) (slot : Nat) (ul : Bool) (alloc cb : Nat) (x : Cell) (j : Job),
    (lookup c.val s.cells = some x) ∧
    (findJob c slot ul s = some j) ∧
    (clusterIn m s = true ∧ issues s = true) ∧
    (codeReady x j s = true) ∧
    ((j.res[alloc]?).any (fun r => !r.done) = true) ∧
    ((∀ v ∈ s.code, v ≠ ⟨v.cluster, c, slot, ul, alloc, cb, v.retried⟩)) ∧
    (servedFirst x j s = false) :=
  ⟨setF (COD_CCm_INFO_IN_SERVICE 3) 1 (setF (AIR_TDn_COUNT_VALUE 0) (10 ^ 10) { up with cells := [(7, cellOf 1 [7])], jobs := [{ jobOf (pkt 0x401 255 (jobPay 0 1)) 7 true 0 [resOf false] with rxPath := some 0 }] }), 3, 7, 0, true, 0, 0, cellOf 1 [7], { jobOf (pkt 0x401 255 (jobPay 0 1)) 7 true 0 [resOf false] with rxPath := some 0 }, by decide +kernel, by decide +kernel, by decide +kernel, by decide +kernel, by decide +kernel, by decide +kernel, by decide +kernel⟩

theorem wit_CodeBlocks_2 : ∃ (s : State) (r : CbDone) (w : CodeWork) (x : Cell) (j : Job),
    (issues s = true) ∧
    (findWork r.cluster r.cell r.slot r.ul r.alloc r.cb s = some w) ∧
    (lookup r.cell s.cells = some x) ∧
    (findJob r.cell r.slot r.ul s = some j) ∧
    (s.spareCmd = []) ∧
    (r.ul = false) ∧
    (r.last = true) :=
  ⟨{ up with cells := [(7, cellOf 1 [7])], code := [⟨3, 7, 0, false, 0, 0, false⟩], jobs := [jobOf (pkt 0x402 255 (jobPay 0 3)) 7 false 0 [resOf false]] }, ⟨3, 7, 0, false, 0, 0, ⟨1, 2, 1, 132⟩, [], 0, true, true, true, [], false, false⟩, ⟨3, 7, 0, false, 0, 0, false⟩, cellOf 1 [7], jobOf (pkt 0x402 255 (jobPay 0 3)) 7 false 0 [resOf false], by decide +kernel, by decide +kernel, by decide +kernel, by decide +kernel, by decide +kernel, by decide +kernel, by decide +kernel⟩

theorem wit_CodeBlocks_3 : ∃ (s : State) (r : CbDone) (w : CodeWork) (x : Cell) (j : Job) (y : AllocRes),
    (issues s = true) ∧
    (findWork r.cluster r.cell r.slot r.ul r.alloc r.cb s = some w) ∧
    (lookup r.cell s.cells = some x) ∧
    (findJob r.cell r.slot r.ul s = some j) ∧
    (s.spareCmd = []) ∧
    (r.ul = true) ∧
    (alType (jobAlloc j.pkt.payload r.alloc) = 1) ∧
    (r.badA = false ∧ r.badB = false) ∧
    (j.res[r.alloc]? = some y) ∧
    (y.done = false) :=
  ⟨{ up with cells := [(7, cellOf 1 [7])], code := [⟨3, 7, 0, true, 0, 0, false⟩], jobs := [jobOf (pkt 0x401 255 (jobPay 0 1)) 7 true 0 [resOf false]] }, ⟨3, 7, 0, true, 0, 0, ⟨1, 2, 1, 132⟩, [(5, 9), (4, -130)], 6, false, true, false, [3], false, false⟩, ⟨3, 7, 0, true, 0, 0, false⟩, cellOf 1 [7], jobOf (pkt 0x401 255 (jobPay 0 1)) 7 true 0 [resOf false], resOf false, by decide +kernel, by decide +kernel, by decide +kernel, by decide +kernel, by decide +kernel, by decide +kernel, by decide +kernel, by decide +kernel, by decide +kernel, by decide +kernel⟩

theorem wit_CodeBlocks_4 : ∃ (s : State) (m : Fin 8) (lane cause : Nat) (m2 : Fin 8) (c : Fin 512) (slot : Nat) (ul : Bool) (alloc cb : Nat) (w : CodeWork),
    (findWork m c slot ul alloc cb s = some w) ∧
    (s.inject = []) ∧
    (w.retried = false) ∧
    (m2 ≠ m) ∧
    (clusterIn m2 s = true) ∧
    (lookup (m * 32 + lane) s.laneFaults = none) :=
  ⟨setF (COD_CCm_INFO_IN_SERVICE 7) 1 { up with code := [⟨3, 7, 0, true, 0, 0, false⟩] }, 3, 17, 1, 7, 7, 0, true, 0, 0, ⟨3, 7, 0, true, 0, 0, false⟩, by decide +kernel, by decide +kernel, by decide +kernel, by decide +kernel, by decide +kernel, by decide +kernel⟩

theorem wit_CodeBlocks_5 : ∃ (s : State) (m : Fin 8) (lane cause : Nat) (m2 : Fin 8) (c : Fin 512) (slot : Nat) (ul : Bool) (alloc cb : Nat) (w : CodeWork),
    (findWork m c slot ul alloc cb s = some w) ∧
    (s.inject = []) ∧
    (w.retried = true) ∧
    (lookup (m * 32 + lane) s.laneFaults = none) :=
  ⟨{ up with code := [⟨3, 7, 0, true, 0, 0, true⟩], jobs := [jobOf (pkt 0x401 255 (jobPay 0 1)) 7 true 0 [resOf false]] }, 3, 17, 1, 7, 7, 0, true, 0, 0, ⟨3, 7, 0, true, 0, 0, true⟩, by decide +kernel, by decide +kernel, by decide +kernel, by decide +kernel⟩

theorem wit_CodeBlocks_6 : ∃ (s : State) (m : Fin 8) (c : Fin 512) (slot : Nat) (ul : Bool) (alloc : Nat) (ok : Bool) (payload : List Byte) (j : Job),
    (findJob c slot ul s = some j) ∧
    (alloc < j.res.length) ∧
    (alType (jobAlloc j.pkt.payload alloc) = 2 ∨ alType (jobAlloc j.pkt.payload alloc) = 4 ∨ alType (jobAlloc j.pkt.payload alloc) = 5) ∧
    (j.planned = true) ∧
    (issues s = true) :=
  ⟨{ up with jobs := [jobOf (pkt 0x401 255 (jobPay 0 2)) 7 true 0 [resOf false]] }, 3, 7, 0, true, 0, true, [1], jobOf (pkt 0x401 255 (jobPay 0 2)) 7 true 0 [resOf false], by decide +kernel, by decide +kernel, by decide +kernel, by decide +kernel, by decide +kernel⟩

theorem wit_CodeBlocks_7 : ∃ (s : State) (c : Fin 512) (x : Cell),
    (lookup c.val s.cells = some x) ∧
    (x.rebuilding = true) :=
  ⟨setF COD_STAT_REBUILD 1 { up with cells := [(7, { cellOf 1 [7] with okA := false, rebuilding := true })] }, 7, { cellOf 1 [7] with okA := false, rebuilding := true }, by decide +kernel, by decide +kernel⟩

theorem wit_LeasesAndYields_1 : ∃ (s : State) (n lead p c : Nat) (x : Ctx) (st : Step) (r : List Step),
    (lendable n s = true) ∧
    (eightParts.find? (fun p => partHolds p n s) = some p) ∧
    (chooseCtx n p s = some (c, x)) ∧
    (ctxOf c s = some x) ∧
    (x.queue = st :: r) ∧
    (otherPart n p s = false) ∧
    ((∀ y ∈ s.ctxs, lookup n y.2.saved = none)) ∧
    (0 < stepPass x st s) ∧
    (0 < leasePasses n (nowNs s + lead) (stepPass x st s) s) :=
  ⟨setF PWR_TSTAT_IN_FORCE 100 (setF (SCHED_Pp_CORESi_CORES 0 0) 32 (setF DEV_IDENT_GRADE 144 { up with ctxs := [(5, { ctxT 2 1 with queue := [stepT 1] })], mem := writeBytes (loadAddr 8 up) [0, 4, 0, 0] [] })), 5, 1000, 0, 5, { ctxT 2 1 with queue := [stepT 1] }, stepT 1, [], by decide +kernel, by decide +kernel, by decide +kernel, by decide +kernel, by decide +kernel, by decide +kernel, by decide +kernel, by decide +kernel, by decide +kernel⟩

theorem wit_LeasesAndYields_2 : ∃ (s : State) (n lead : Nat),
    (s.quiesced = true) :=
  ⟨{ up with quiesced := true }, 5, 1000, by decide +kernel⟩

theorem wit_LeasesAndYields_3 : ∃ (s : State) (n : Nat) (l : Lease) (x : EngSet) (c : Ctx),
    (leaseOf n s = some l) ∧
    (l.saving = false) ∧
    (l.passes = 0) ∧
    (engAt n s = some x) ∧
    (x.run = none ∧ x.drain = []) ∧
    (ctxOf x.ctx s = some c) :=
  ⟨{ up with leases := [leaseT 5 9 0, leaseT 6 9 3], eng := [(5, setT 9)], ctxs := [(9, ctxT 2 2)] }, 5, leaseT 5 9 0, setT 9, ctxT 2 2, by decide +kernel, by decide +kernel, by decide +kernel, by decide +kernel, by decide +kernel, by decide +kernel⟩

theorem wit_LeasesAndYields_4 : ∃ (s : State) (n : Nat) (l : Lease),
    (leaseOf n s = some l) ∧
    (l.saving = false) ∧
    (engAt n s = none) ∧
    (leaseSpent n l s = true) :=
  ⟨{ up with leases := [leaseT 5 9 3], ctxs := [(9, ctxT 2 2)] }, 5, leaseT 5 9 3, by decide +kernel, by decide +kernel, by decide +kernel, by decide +kernel⟩

theorem wit_LeasesAndYields_5 : ∃ (s : State) (n : Nat) (l : Lease) (x : EngSet) (c : Ctx),
    (windowWithin n 4916 s = true) ∧
    (leaseOf n s = some l) ∧
    (l.saving = false) ∧
    (l.start < nowNs s) ∧
    (engAt n s = some x) ∧
    (x.run ≠ none) ∧
    (x.drain = []) ∧
    (ctxOf x.ctx s = some c) :=
  ⟨setF (AIR_TDn_COUNT_VALUE 0) 5084 { up with now := 9000, windows := [⟨5, 4, 10000, true, false, 0, 10000, 7000, 20, false, false⟩], leases := [leaseT 5 9 2], eng := [(5, { setT 9 with run := some ⟨0, ⟨0, false, false, false, false, 0, 0, 0, 1, 1, 1, 0, 0, 0, 0, 0⟩, none, none, none, false, [], false, false⟩ })], ctxs := [(9, ctxT 2 2)] }, 5, leaseT 5 9 2, { setT 9 with run := some ⟨0, ⟨0, false, false, false, false, 0, 0, 0, 1, 1, 1, 0, 0, 0, 0, 0⟩, none, none, none, false, [], false, false⟩ }, ctxT 2 2, by decide +kernel, by decide +kernel, by decide +kernel, by decide +kernel, by decide +kernel, by decide +kernel, by decide +kernel, by decide +kernel⟩

theorem wit_LeasesAndYields_6 : ∃ (s : State) (n : Nat) (l : Lease) (c : Ctx),
    (windowWithin n 4916 s = true) ∧
    (leaseOf n s = some l) ∧
    (l.saving = false) ∧
    (nowNs s ≤ l.start) ∧
    (engAt n s = none) ∧
    ((∀ k ∈ s.leases, k.core ≠ n → k.ctx ≠ l.ctx)) ∧
    (ctxOf l.ctx s = some c) ∧
    (c.sub = 2 ∧ c.suspend = [] ∧ c.yielding = false) ∧
    (s.quiesce = []) :=
  ⟨setF (AIR_TDn_COUNT_VALUE 0) 5084 { up with windows := [⟨5, 4, 10000, true, false, 0, 10000, 7000, 20, false, false⟩], leases := [leaseT 5 9 2], ctxs := [(9, ctxT 2 2)] }, 5, leaseT 5 9 2, ctxT 2 2, by decide +kernel, by decide +kernel, by decide +kernel, by decide +kernel, by decide +kernel, by decide +kernel, by decide +kernel, by decide +kernel, by decide +kernel⟩

theorem wit_LeasesAndYields_7 : ∃ (s : State) (n : Nat),
    (windowWithin n 4916 s = false) :=
  ⟨setF (AIR_TDn_COUNT_VALUE 0) 5083 { up with windows := [⟨5, 4, 10000, true, false, 0, 10000, 7000, 20, false, false⟩], leases := [leaseT 5 9 2], ctxs := [(9, ctxT 2 2)] }, 5, by decide +kernel⟩

theorem wit_LeasesAndYields_8a : ∃ (s : State) (n : Nat) (l : Lease) (c : Ctx),
    (leaseOf n s = some l) ∧
    (l.saving = true) ∧
    ((∀ k ∈ s.leases, k.core ≠ n → k.ctx ≠ l.ctx)) ∧
    (ctxOf l.ctx s = some c) ∧
    (c.sub = 2 ∧ c.suspend = []) ∧
    (s.quiesce = []) :=
  ⟨{ up with leases := [{ leaseT 5 9 2 with saving := true }], ctxs := [(9, { ctxT 2 2 with yielding := true })], ftt := [⟨1, 5, 9, 0, true, 0, 0, fpT 1 3 0 0 [], 0, 0, none, none, none⟩] }, 5, { leaseT 5 9 2 with saving := true }, { ctxT 2 2 with yielding := true }, by decide +kernel, by decide +kernel, by decide +kernel, by decide +kernel, by decide +kernel, by decide +kernel⟩

theorem wit_LeasesAndYields_8b : ∃ (s : State) (n : Nat) (l : Lease) (c : Ctx),
    (leaseOf n s = some l) ∧
    (l.saving = true) ∧
    ((∀ k ∈ s.leases, k.core ≠ n → k.ctx ≠ l.ctx)) ∧
    (ctxOf l.ctx s = some c) ∧
    (c.sub = 2 ∧ c.suspend = []) ∧
    (s.quiesce = []) :=
  ⟨{ up with leases := [{ leaseT 5 9 2 with saving := true }], ctxs := [(9, ctxT 2 2)] }, 5, { leaseT 5 9 2 with saving := true }, ctxT 2 2, by decide +kernel, by decide +kernel, by decide +kernel, by decide +kernel, by decide +kernel, by decide +kernel⟩

theorem wit_LeasesAndYields_9 : ∃ (s : State) (n : Nat) (l : Lease) (c : Ctx) (p : Pkt),
    (leaseOf n s = some l) ∧
    (l.saving = true) ∧
    ((∀ k ∈ s.leases, k.core ≠ n → k.ctx ≠ l.ctx)) ∧
    (ctxOf l.ctx s = some c) ∧
    (c.sub = 2 ∧ c.suspend = [p.id]) ∧
    (s.accepted.find? (fun q => decide (q.id = p.id)) = some p) ∧
    (s.quiesce = []) :=
  ⟨{ took (pkt 0x505 0 [9, 0, 0, 0]) up with begun := [1], leases := [{ leaseT 5 9 2 with saving := true }], ctxs := [(9, { ctxT 2 2 with suspend := [1] })] }, 5, { leaseT 5 9 2 with saving := true }, { ctxT 2 2 with suspend := [1] }, pkt 0x505 0 [9, 0, 0, 0], by decide +kernel, by decide +kernel, by decide +kernel, by decide +kernel, by decide +kernel, by decide +kernel, by decide +kernel⟩

theorem wit_LeasesAndYields_10 : ∃ (s : State) (c : Nat) (l : Lease) (x : EngSet) (y : Ctx),
    (s.leases = [l]) ∧
    (l.ctx = c ∧ l.saving = false) ∧
    ((ctxOps c s).isEmpty = false) ∧
    (yieldWaits l.core s = true) ∧
    (engAt l.core s = some x) ∧
    (anyRuns x = true) ∧
    (x.ctx = c ∧ x.drain = []) ∧
    (ctxOf c s = some y) :=
  ⟨coded 0x20 { up with now := 10 ^ 9, leases := [leaseT 5 9 2], eng := [(5, { setT 9 with ld := { (setT 9).ld with st := 2 }, mx := { (setT 9).mx with st := 0 }, vc := { (setT 9).vc with st := 0 }, sr := { (setT 9).sr with st := 0 } })], ctxs := [(9, ctxT 2 2)], ftt := [⟨1, 5, 9, 0, true, 0, 0, fpT 1 3 0 0 [], 0, 0, none, none, none⟩] }, 9, leaseT 5 9 2, { setT 9 with ld := { (setT 9).ld with st := 2 }, mx := { (setT 9).mx with st := 0 }, vc := { (setT 9).vc with st := 0 }, sr := { (setT 9).sr with st := 0 } }, ctxT 2 2, by decide +kernel, by decide +kernel, by decide +kernel, by decide +kernel, by decide +kernel, by decide +kernel, by decide +kernel, by decide +kernel⟩

theorem wit_LeasesAndYields_11 : ∃ (s : State) (p : Fin 8) (c : Nat),
    ((∀ w ∈ s.swaps, w.part ≠ p.val)) ∧
    (swapInChoice p s = some c) ∧
    (placeFree p s = true) :=
  ⟨setF (SCHED_Pp_INFO_NRES 0) 2 { up with ctxs := [(3, ctxT 2 3), (9, { ctxT 2 1 with resident := false })] }, 0, 9, by decide +kernel, by decide +kernel, by decide +kernel⟩

theorem wit_LeasesAndYields_12 : ∃ (s : State) (p : Fin 8) (c o : Nat) (x : Ctx),
    ((∀ w ∈ s.swaps, w.part ≠ p.val)) ∧
    (swapInChoice p s = some c) ∧
    (placeFree p s = false) ∧
    ((ctxsOf p s).any (fun x => x.2.resident && (decide (x.2.sub = 1) || decide (x.2.sub = 2))) = false) ∧
    ((oldestBlock p 4 s).or (oldestBlock p 3 s) = some o) ∧
    (ctxOf o s = some x) :=
  ⟨setF (SCHED_Pp_INFO_NRES 0) 2 { up with ctxs := [(3, { ctxT 2 3 with blockAt := 50 }), (4, { ctxT 2 3 with blockAt := 20 }), (9, { ctxT 2 1 with resident := false })] }, 0, 9, 4, { ctxT 2 3 with blockAt := 20 }, by decide +kernel, by decide +kernel, by decide +kernel, by decide +kernel, by decide +kernel, by decide +kernel⟩

theorem wit_LeasesAndYields_13 : ∃ (s : State) (p : Fin 8) (w : Swap) (x : Ctx),
    (s.swaps.find? (fun w => decide (w.part = p.val)) = some w) ∧
    (ctxOf w.inn s = some x) ∧
    (x.st ≠ 1) :=
  ⟨{ up with swaps := [⟨0, some 4, 9, 0⟩], ctxs := [(9, { ctxT 2 1 with resident := false })] }, 0, ⟨0, some 4, 9, 0⟩, { ctxT 2 1 with resident := false }, by decide +kernel, by decide +kernel, by decide +kernel⟩

theorem wit_LeasesAndYields_14 : ∃ (s : State) (n c a : Nat),
    (s.spills.find? (fun x => decide (x.1 = n) && !x.2.2.1) = some (n, c, false, a)) :=
  ⟨{ up with spills := [(5, 9, true, 0), (5, 9, false, 0)], ctxs := [(9, { ctxT 2 1 with saved := [(5, { setT 9 with scratch := 2 ^ 21 })] })] }, 5, 9, 0, by decide +kernel⟩

theorem wit_LeasesAndYields_15 : ∃ (s : State) (n c a : Nat) (x : Ctx) (e : EngSet),
    (s.spills.find? (fun x => decide (x.1 = n) && x.2.2.1) = some (n, c, true, a)) ∧
    ((∀ y ∈ s.spills, y.1 = n → y.2.2.1 = true)) ∧
    (ctxOf c s = some x) ∧
    (lookup n x.saved = some e) :=
  ⟨{ up with spills := [(5, 9, true, 0)], ctxs := [(9, { ctxT 2 2 with saved := [(5, { setT 9 with scratch := 4, bound := true, spilled := true })] })], scratchOf := writeBytes (9 * 2 ^ 32 + 5 * 2 ^ 21) [7, 8, 9, 10] [], scratch := writeBytes (5 * 2 ^ 21) [1, 1, 1, 1, 1] [] }, 5, 9, 0, { ctxT 2 2 with saved := [(5, { setT 9 with scratch := 4, bound := true, spilled := true })] }, { setT 9 with scratch := 4, bound := true, spilled := true }, by decide +kernel, by decide +kernel, by decide +kernel, by decide +kernel⟩

theorem wit_ContextCommands_1 : ∃ (s : State) (p : Pkt),
    (ready p s = true) ∧
    (s.quiesced = false) ∧
    (s.leases = []) ∧
    (s.quiesce = []) ∧
    (s.accepted.find? (fun q => decide (q.id = p.id)) = some p) :=
  ⟨took (pkt 0x102 255 []) up, pkt 0x102 255 [], by decide +kernel, by decide +kernel, by decide +kernel, by decide +kernel, by decide +kernel⟩

theorem wit_ContextCommands_2 : ∃ (s : State) (p : Pkt),
    (ready p s = true) ∧
    (s.quiesced = false) ∧
    (s.leases ≠ []) :=
  ⟨{ took (pkt 0x102 255 []) up with leases := [leaseT 5 9 2] }, pkt 0x102 255 [], by decide +kernel, by decide +kernel, by decide +kernel⟩

theorem wit_ContextCommands_3 : ∃ (s : State) (p : Pkt),
    (ready p s = true) ∧
    (s.quiesced = true) :=
  ⟨{ took (pkt 0x103 255 []) up with quiesced := true }, pkt 0x103 255 [], by decide +kernel, by decide +kernel⟩

theorem wit_ContextCommands_4 : ∃ (s : State) (p : Pkt) (c : Instr) (q : Bool),
    ((c = .devQuiesce p ∧ q = true) ∨ (c = .devResume p ∧ q = false)) ∧
    (ready p s = true) ∧
    (s.quiesced = q) :=
  ⟨took (pkt 0x103 255 []) up, pkt 0x103 255 [], .devResume (pkt 0x103 255 []), false, by decide +kernel, by decide +kernel, by decide +kernel⟩

theorem wit_ContextCommands_5 : ∃ (s : State) (p : Pkt),
    (ready p s = true) ∧
    (chkCtxCreate p (leaveTimed p s) = none) :=
  ⟨setF (SCHED_Pp_INFO_STATE 0) 1 { took (pkt 0x501 0 ([5] ++ zeros 63)) up with parts := [(0, ⟨0, 4, 0, []⟩)], ctxs := [(1, ctxT 1 0)] }, pkt 0x501 0 ([5] ++ zeros 63), by decide +kernel, by decide +kernel⟩

theorem wit_ContextCommands_6 : ∃ (s : State) (p : Pkt) (q : Part),
    (ready p s = true) ∧
    (pf p 8 8 = 0) ∧
    (partSt p.part s = 1) ∧
    (secBusy p s = none) ∧
    (lookup p.part s.parts = some q) ∧
    (q.maxCtx ≤ (ctxsOf p.part s).length) :=
  ⟨setF (SCHED_Pp_INFO_STATE 0) 1 { took (pkt 0x501 0 ([5] ++ zeros 63)) up with parts := [(0, ⟨0, 1, 0, []⟩)], ctxs := [(1, ctxT 1 0)] }, pkt 0x501 0 ([5] ++ zeros 63), ⟨0, 1, 0, []⟩, by decide +kernel, by decide +kernel, by decide +kernel, by decide +kernel, by decide +kernel, by decide +kernel⟩

theorem wit_ContextCommands_7 : ∃ (s : State) (p : Pkt) (c : Ctx),
    (ready p s = true) ∧
    (ctxOf (pCtx p) s = some c) ∧
    (c.part = p.part) ∧
    (c.st = 1) :=
  ⟨{ took (pkt 0x504 0 [9, 0, 0, 0, 5, 0, 0, 0, 0, 0, 0, 0, 77]) up with ctxs := [(9, ctxT 1 0)] }, pkt 0x504 0 [9, 0, 0, 0, 5, 0, 0, 0, 0, 0, 0, 0, 77], ctxT 1 0, by decide +kernel, by decide +kernel, by decide +kernel, by decide +kernel⟩

theorem wit_ContextCommands_8 : ∃ (s : State) (p : Pkt) (i : Instr),
    (i = .ctxSeed p ∨ i = .ctxSuspend p ∨ i = .ctxResume p ∨ i = .ctxDestroy p ∨ i = .ctxQuery p) ∧
    (ready p s = true) ∧
    ((ctxOf (pCtx p) s).all (fun c => decide (c.part ≠ p.part)) = true) :=
  ⟨{ took (pkt 0x505 1 [9, 0, 0, 0]) up with ctxs := [(9, ctxT 2 1)] }, pkt 0x505 1 [9, 0, 0, 0], .ctxSuspend (pkt 0x505 1 [9, 0, 0, 0]), by decide +kernel, by decide +kernel, by decide +kernel⟩

theorem wit_ContextCommands_9 : ∃ (s : State) (p : Pkt) (i : Instr) (c : Ctx),
    ((i = .ctxSeed p ∧ c.st ≠ 1) ∨ (i = .ctxSuspend p ∧ c.st ≠ 2) ∨ (i = .ctxResume p ∧ c.st ≠ 3) ∨ (i = .ctxDestroy p ∧ c.st = 2)) ∧
    (ready p s = true) ∧
    (ctxOf (pCtx p) s = some c) ∧
    (c.part = p.part) ∧
    (1 ≤ c.st ∧ c.st ≤ 3) :=
  ⟨{ took (pkt 0x502 0 [9, 0, 0, 0]) up with ctxs := [(9, ctxT 2 1)] }, pkt 0x502 0 [9, 0, 0, 0], .ctxDestroy (pkt 0x502 0 [9, 0, 0, 0]), ctxT 2 1, by decide +kernel, by decide +kernel, by decide +kernel, by decide +kernel, by decide +kernel⟩

theorem wit_ContextCommands_10 : ∃ (s : State) (p : Pkt) (c : Ctx),
    (ready p s = true) ∧
    (ctxOf (pCtx p) s = some c) ∧
    (c.part = p.part) ∧
    (c.st = 2) ∧
    (leaseCores (pCtx p) s = []) :=
  ⟨{ took (pkt 0x505 0 [9, 0, 0, 0]) up with ctxs := [(9, ctxT 2 1)] }, pkt 0x505 0 [9, 0, 0, 0], ctxT 2 1, by decide +kernel, by decide +kernel, by decide +kernel, by decide +kernel, by decide +kernel⟩

theorem wit_ContextCommands_11 : ∃ (s : State) (p : Pkt) (c : Ctx),
    (ready p s = true) ∧
    (ctxOf (pCtx p) s = some c) ∧
    (c.part = p.part) ∧
    (c.st = 2) ∧
    (leaseCores (pCtx p) s ≠ []) :=
  ⟨{ took (pkt 0x505 0 [9, 0, 0, 0]) up with ctxs := [(9, ctxT 2 2)], leases := [leaseT 5 9 2] }, pkt 0x505 0 [9, 0, 0, 0], ctxT 2 2, by decide +kernel, by decide +kernel, by decide +kernel, by decide +kernel, by decide +kernel⟩

theorem wit_ContextCommands_12 : ∃ (s : State) (c : Nat) (l : Lease) (x : EngSet) (y : Ctx),
    (ctxOf c s = some y) ∧
    (y.suspend ≠ []) ∧
    (s.leases = [l]) ∧
    (l.ctx = c ∧ l.saving = false) ∧
    (engAt l.core s = some x) ∧
    (x.ctx = c ∧ x.run = none ∧ x.drain = []) :=
  ⟨{ up with ctxs := [(9, { ctxT 2 2 with suspend := [1] })], leases := [leaseT 5 9 2], eng := [(5, setT 9)] }, 9, leaseT 5 9 2, setT 9, { ctxT 2 2 with suspend := [1] }, by decide +kernel, by decide +kernel, by decide +kernel, by decide +kernel, by decide +kernel, by decide +kernel⟩

theorem wit_ContextCommands_13 : ∃ (s : State) (p : Pkt) (c : Ctx),
    (ready p s = true) ∧
    (ctxOf (pCtx p) s = some c) ∧
    (c.part = p.part) ∧
    (c.st = 3) :=
  ⟨{ took (pkt 0x506 0 [9, 0, 0, 0]) up with ctxs := [(9, ctxT 3 4)] }, pkt 0x506 0 [9, 0, 0, 0], ctxT 3 4, by decide +kernel, by decide +kernel, by decide +kernel, by decide +kernel⟩

theorem wit_ContextCommands_14 : ∃ (s : State) (p : Pkt) (c : Ctx),
    (ready p s = true) ∧
    (ctxOf (pCtx p) s = some c) ∧
    (c.part = p.part) ∧
    (replyLands p.window s = true) ∧
    (pf p 4 8 + 64 ≤ getF (CMD_PWw_RR_BASE_ADDR p.window) s * 4096 ∨ getF (CMD_PWw_RR_BASE_ADDR p.window) s * 4096 + ringSize p.window s * 32 ≤ pf p 4 8) :=
  ⟨setF (CMD_PWw_RR_BASE_ADDR 0) 9 { took (pkt 0x507 0 [9, 0, 0, 0, 0, 1, 0, 0, 0, 0, 0, 0]) up with fns := [(0, ⟨true, true, false, false, []⟩)], ctxs := [(9, { ctxT 3 4 with counter := 77 })] }, pkt 0x507 0 [9, 0, 0, 0, 0, 1, 0, 0, 0, 0, 0, 0], { ctxT 3 4 with counter := 77 }, by decide +kernel, by decide +kernel, by decide +kernel, by decide +kernel, by decide +kernel⟩

theorem wit_ContextCommands_15 : ∃ (s : State) (p : Pkt) (c : Ctx),
    (ready p s = true) ∧
    (ctxOf (pCtx p) s = some c) ∧
    (c.part = p.part) ∧
    (c.st = 1 ∨ c.st = 3) ∧
    (c.queue = []) :=
  ⟨{ took (pkt 0x502 0 [9, 0, 0, 0]) up with ctxs := [(9, ctxT 3 4)], scratchOf := writeBytes (9 * 2 ^ 32 + 5) [1] [] }, pkt 0x502 0 [9, 0, 0, 0], ctxT 3 4, by decide +kernel, by decide +kernel, by decide +kernel, by decide +kernel, by decide +kernel⟩

theorem wit_ContextCommands_16 : ∃ (s : State) (p : Pkt) (c : Ctx),
    (ready p s = true) ∧
    (chkStep p (leaveTimed p s) = none) ∧
    (ctxOf (pCtx p) s = some c) :=
  ⟨stepImg { took (pkt 0x503 0 ([9, 0, 0, 0, 0, 0, 0, 0, 0, 16] ++ zeros 54)) up with ctxs := [(9, ctxT 1 0)] }, pkt 0x503 0 ([9, 0, 0, 0, 0, 0, 0, 0, 0, 16] ++ zeros 54), ctxT 1 0, by decide +kernel, by decide +kernel, by decide +kernel⟩

theorem wit_ContextCommands_17 : ∃ (s : State) (p : Pkt),
    (ready p s = true) ∧
    (s.quiesced = true) ∧
    (parCtx p s = none ∧ parStep p (leaveTimed p s) = none) ∧
    ((ctxOf (pCtx p) s).any (fun c => decide (c.st = 1) || decide (c.st = 2)) = true) :=
  ⟨{ stepImg { took (pkt 0x503 0 ([9, 0, 0, 0, 0, 0, 0, 0, 0, 16] ++ zeros 54)) up with ctxs := [(9, ctxT 1 0)] } with quiesced := true }, pkt 0x503 0 ([9, 0, 0, 0, 0, 0, 0, 0, 0, 16] ++ zeros 54), by decide +kernel, by decide +kernel, by decide +kernel, by decide +kernel⟩

theorem wit_ScalarInstructions_1a : ∃ (s : State) (n : Nat) (e : Fin 4) (w : Nat) (x : EngSet),
    (Issues n e w x s) :=
  ⟨coded 0 { up with leases := [leaseT 5 9 2], eng := [(5, setT 9)], ctxs := [(9, ctxT 2 2)] }, 5, 3, 0, setT 9, by unfold Issues; decide +kernel⟩

theorem wit_ScalarInstructions_1b : ∃ (s : State) (n : Nat) (e : Fin 4) (w : Nat) (x : EngSet),
    (Issues n e w x s) :=
  ⟨coded 1 { up with leases := [leaseT 5 9 2], eng := [(5, setT 9)], ctxs := [(9, ctxT 2 2)] }, 5, 3, 1, setT 9, by unfold Issues; decide +kernel⟩

theorem wit_ScalarInstructions_2a : ∃ (s : State) (n : Nat) (e : Fin 4) (w op : Nat) (x : EngSet) (c : Instr),
    ((c, op) ∈ scalarOps n e) ∧
    (Issues n e w x s) ∧
    (insOp w = op) :=
  ⟨coded 0x00081304 { up with now := 5, leases := [leaseT 5 9 2], eng := [(5, { setT 9 with mx := ⟨0, [(2, 5)], 1⟩ })], ctxs := [(9, ctxT 2 2)] }, 5, 1, 0x00081304, 0x04, { setT 9 with mx := ⟨0, [(2, 5)], 1⟩ }, .sub 5 1, by decide +kernel, by unfold Issues; decide +kernel, by decide +kernel⟩

theorem wit_ScalarInstructions_2b : ∃ (s : State) (n : Nat) (e : Fin 4) (w op : Nat) (x : EngSet) (c : Instr),
    ((c, op) ∈ scalarOps n e) ∧
    (Issues n e w x s) ∧
    (insOp w = op) :=
  ⟨coded 0x0009030A { up with now := 5, leases := [leaseT 5 9 2], eng := [(5, { setT 9 with mx := ⟨0, [(2, 5)], 1⟩ })], ctxs := [(9, ctxT 2 2)] }, 5, 1, 0x0009030A, 0x0A, { setT 9 with mx := ⟨0, [(2, 5)], 1⟩ }, .sar 5 1, by decide +kernel, by unfold Issues; decide +kernel, by decide +kernel⟩

theorem wit_ScalarInstructions_2c : ∃ (s : State) (n : Nat) (e : Fin 4) (w op : Nat) (x : EngSet) (c : Instr),
    ((c, op) ∈ scalarOps n e) ∧
    (Issues n e w x s) ∧
    (insOp w = op) :=
  ⟨coded 0x800000010000430F { up with now := 5, leases := [leaseT 5 9 2], eng := [(5, { setT 9 with mx := ⟨0, [(2, 2 ^ 63 + 5)], 1⟩ })], ctxs := [(9, ctxT 2 2)] }, 5, 1, 0x800000010000430F, 0x0F, { setT 9 with mx := ⟨0, [(2, 2 ^ 63 + 5)], 1⟩ }, .lui 5 1, by decide +kernel, by unfold Issues; decide +kernel, by decide +kernel⟩

theorem wit_ScalarInstructions_3a : ∃ (s : State) (n : Nat) (e : Fin 4) (w op : Nat) (x : EngSet) (c : Instr),
    ((c, op) ∈ branchOps n e) ∧
    (Issues n e w x s) ∧
    (insOp w = op) :=
  ⟨coded 0xFFFFFFFF00084012 { up with now := 5, leases := [leaseT 5 9 2], eng := [(5, { setT 9 with mx := ⟨0, [(2, 2 ^ 64 - 5)], 1⟩ })], ctxs := [(9, ctxT 2 2)] }, 5, 1, 0xFFFFFFFF00084012, 0x12, { setT 9 with mx := ⟨0, [(2, 2 ^ 64 - 5)], 1⟩ }, .blt 5 1, by decide +kernel, by unfold Issues; decide +kernel, by decide +kernel⟩

theorem wit_ScalarInstructions_3b : ∃ (s : State) (n : Nat) (e : Fin 4) (w op : Nat) (x : EngSet) (c : Instr),
    ((c, op) ∈ branchOps n e) ∧
    (Issues n e w x s) ∧
    (insOp w = op) :=
  ⟨coded 0x0000001000084010 { up with now := 5, leases := [leaseT 5 9 2], eng := [(5, { setT 9 with mx := ⟨0, [(2, 7)], 1⟩ })], ctxs := [(9, ctxT 2 2)] }, 5, 1, 0x0000001000084010, 0x10, { setT 9 with mx := ⟨0, [(2, 7)], 1⟩ }, .beq 5 1, by decide +kernel, by unfold Issues; decide +kernel, by decide +kernel⟩

theorem wit_ScalarInstructions_4a : ∃ (s : State) (n : Nat) (e : Fin 4) (w : Nat) (x : EngSet),
    (Issues n e w x s) ∧
    (insOp w = 0x15) ∧
    (insA w ≠ 0) :=
  ⟨coded 0xFFFFFFFF00004015 { up with now := 5, leases := [leaseT 5 9 2], eng := [(5, { setT 9 with mx := ⟨0, [(2, 1)], 1⟩ })], ctxs := [(9, ctxT 2 2)] }, 5, 1, 0xFFFFFFFF00004015, { setT 9 with mx := ⟨0, [(2, 1)], 1⟩ }, by unfold Issues; decide +kernel, by decide +kernel, by decide +kernel⟩

theorem wit_ScalarInstructions_4b : ∃ (s : State) (n : Nat) (e : Fin 4) (w : Nat) (x : EngSet),
    (Issues n e w x s) ∧
    (insOp w = 0x15) ∧
    (insA w ≠ 0) :=
  ⟨coded 0xFFFFFFFF00004015 { up with now := 5, leases := [leaseT 5 9 2], eng := [(5, { setT 9 with mx := ⟨0, [], 1⟩ })], ctxs := [(9, ctxT 2 2)] }, 5, 1, 0xFFFFFFFF00004015, { setT 9 with mx := ⟨0, [], 1⟩ }, by unfold Issues; decide +kernel, by decide +kernel, by decide +kernel⟩

theorem wit_ScalarInstructions_5 : ∃ (s : State) (n : Nat) (e : Fin 4) (w : Nat) (x : EngSet),
    (Issues n e w x s) ∧
    (insOp w = 0x15) ∧
    (insA w = 0) :=
  ⟨coded 0xFFFFFFFF00000015 { up with now := 5, leases := [leaseT 5 9 2], eng := [(5, setT 9)], ctxs := [(9, ctxT 2 2)] }, 5, 1, 0xFFFFFFFF00000015, setT 9, by unfold Issues; decide +kernel, by decide +kernel, by decide +kernel⟩

theorem wit_ScalarInstructions_6a : ∃ (s : State) (n : Nat) (e : Fin 4) (w : Nat) (x : EngSet),
    (Issues n e w x s) :=
  ⟨coded 0x0000000000003321 { up with now := 5, leases := [leaseT 5 9 2], eng := [(5, { setT 9 with tok := [(3, 3)] })], ctxs := [(9, ctxT 2 2)] }, 5, 1, 0x0000000000003321, { setT 9 with tok := [(3, 3)] }, by unfold Issues; decide +kernel⟩

theorem wit_ScalarInstructions_6b : ∃ (s : State) (n : Nat) (e : Fin 4) (w : Nat) (x : EngSet),
    (Issues n e w x s) :=
  ⟨coded 0x0000000000003320 { up with now := 5, leases := [leaseT 5 9 2], eng := [(5, { setT 9 with tok := [(3, 252)] })], ctxs := [(9, ctxT 2 2)] }, 5, 1, 0x0000000000003320, { setT 9 with tok := [(3, 252)] }, by unfold Issues; decide +kernel⟩

theorem wit_ScalarInstructions_6c : ∃ (s : State) (n : Nat) (e : Fin 4) (w : Nat) (x : EngSet),
    (Issues n e w x s) :=
  ⟨coded 0x0000000000003320 { up with now := 5, leases := [leaseT 5 9 2], eng := [(5, { setT 9 with tok := [(3, 253)] })], ctxs := [(9, ctxT 2 2)] }, 5, 1, 0x0000000000003320, { setT 9 with tok := [(3, 253)] }, by unfold Issues; decide +kernel⟩

theorem wit_ScalarInstructions_6d : ∃ (s : State) (n : Nat) (e : Fin 4) (w : Nat) (x : EngSet),
    (Issues n e w x s) :=
  ⟨coded 0x0000000000003321 { up with now := 5, leases := [leaseT 5 9 2], eng := [(5, { setT 9 with tok := [(3, 2)] })], ctxs := [(9, ctxT 2 2)] }, 5, 1, 0x0000000000003321, { setT 9 with tok := [(3, 2)] }, by unfold Issues; decide +kernel⟩

theorem wit_ScalarInstructions_7a : ∃ (s : State) (n : Nat) (w : Nat) (x : EngSet),
    (Issues n 2 w x s) :=
  ⟨coded 0x3A8 { up with now := 5, leases := [leaseT 5 9 2], eng := [(5, { setT 9 with vstat := 5 })], ctxs := [(9, ctxT 2 2)] }, 5, 0x3A8, { setT 9 with vstat := 5 }, by unfold Issues; decide +kernel⟩

theorem wit_ScalarInstructions_7b : ∃ (s : State) (n : Nat) (w : Nat) (x : EngSet),
    (Issues n 2 w x s) :=
  ⟨coded 0xA9 { up with now := 5, leases := [leaseT 5 9 2], eng := [(5, { setT 9 with vstat := 5 })], ctxs := [(9, ctxT 2 2)] }, 5, 0xA9, { setT 9 with vstat := 5 }, by unfold Issues; decide +kernel⟩

theorem wit_ScalarInstructions_8 : ∃ (s : State) (n : Nat) (x : EngSet) (st : Step),
    (engAt n s = some x) ∧
    (max x.act x.fabAct + 4096 * 1536 ≤ s.now) ∧
    (anyRuns x = true) ∧
    (allWait [0x20, 0x21, 0x48] x s = true) ∧
    (setRuns n x s = true) ∧
    (x.xfers = [] ∧ x.run = none ∧ x.drain = [] ∧ x.radio = none) ∧
    (holdsFtt n x s = false) ∧
    (stepOf x.ctx s = some st) :=
  ⟨coded 0x0000000000003321 { up with now := 10 ^ 9, leases := [leaseT 5 9 2], eng := [(5, { setT 9 with ld := ⟨0, [], 2⟩, mx := ⟨0, [], 0⟩, vc := ⟨0, [], 0⟩, sr := ⟨0, [], 0⟩ })], ctxs := [(9, { ctxT 2 2 with queue := [stepT 1] })] }, 5, { setT 9 with ld := ⟨0, [], 2⟩, mx := ⟨0, [], 0⟩, vc := ⟨0, [], 0⟩, sr := ⟨0, [], 0⟩ }, stepT 1, by decide +kernel, by decide +kernel, by decide +kernel, by decide +kernel, by decide +kernel, by decide +kernel, by decide +kernel, by decide +kernel⟩

theorem wit_ScalarInstructions_9 : ∃ (s : State) (n : Nat) (x : EngSet),
    (engAt n s = some x) ∧
    (s.now < max x.act x.fabAct + 4096 * 1536) :=
  ⟨{ up with eng := [(5, setT 9)] }, 5, setT 9, by decide +kernel, by decide +kernel⟩

theorem wit_ArrayCommands_1 : ∃ (s : State) (n w l : Nat) (x : EngSet),
    (Issues n 1 w x s) ∧
    (insOp w = 0x40) ∧
    (x.passQ.length < 2) ∧
    (fetchAt x (x.mx.pc + 8) 4 s = .word l) ∧
    (descLegal x.radio.isSome (passCap x) (descOf (natLE 32 l)) = true ∧ descArea x (descOf (natLE 32 l)) = true) :=
  ⟨coded (passWord 0x1A40) { up with now := 5, leases := [leaseT 5 9 2], eng := [(5, setP)], ctxs := [(9, ctxT 2 2)] }, 5, 0x1A40, passWord 0x1A40 / 2 ^ 64, setP, by unfold Issues; decide +kernel, by decide +kernel, by decide +kernel, by decide +kernel, by decide +kernel⟩

theorem wit_ArrayCommands_2 : ∃ (s : State) (n w : Nat) (x : EngSet),
    (Issues n 1 w x s) ∧
    (insOp w = 0x40) ∧
    (2 ≤ x.passQ.length) :=
  ⟨coded (passWord 0x1A40) { up with now := 5, leases := [leaseT 5 9 2], eng := [(5, { setP with passQ := [passT, passT] })], ctxs := [(9, ctxT 2 2)] }, 5, 0x1A40, { setP with passQ := [passT, passT] }, by unfold Issues; decide +kernel, by decide +kernel, by decide +kernel⟩

theorem wit_ArrayCommands_3a : ∃ (s : State) (n w : Nat) (x : EngSet),
    (Issues n 1 w x s) ∧
    (insOp w = 0x41) :=
  ⟨coded 0x41 { up with now := 5, leases := [leaseT 5 9 2], eng := [(5, setP)], ctxs := [(9, ctxT 2 2)] }, 5, 0x41, setP, by unfold Issues; decide +kernel, by decide +kernel⟩

theorem wit_ArrayCommands_3b : ∃ (s : State) (n w : Nat) (x : EngSet),
    (Issues n 1 w x s) ∧
    (insOp w = 0x41) :=
  ⟨coded 0x41 { up with now := 5, leases := [leaseT 5 9 2], eng := [(5, { setP with run := some passT })], ctxs := [(9, ctxT 2 2)] }, 5, 0x41, { setP with run := some passT }, by unfold Issues; decide +kernel, by decide +kernel⟩

theorem wit_ArrayCommands_4 : ∃ (s : State) (n : Nat) (x y : EngSet) (p : Pass) (r : List Pass),
    (engAt n s = some x) ∧
    (x.passQ = p :: r) ∧
    (x.run = none) ∧
    (x.tq.length < 8 ∧ x.tqPend = []) ∧
    (x.radio = none) ∧
    (setRuns n x s = true) ∧
    (modeFits n p.d s = true) ∧
    (passGranted n x s = true) ∧
    (takeWt p x = some y) ∧
    (injected 3 n 0 s = false) :=
  ⟨{ up with now := 5, leases := [leaseT 5 9 2], eng := [(5, { setP with passQ := [{ passT with wt := some 3 }], tok := [(3, 2)] })], ctxs := [(9, ctxT 2 2)] }, 5, { setP with passQ := [{ passT with wt := some 3 }], tok := [(3, 2)] }, { setP with passQ := [{ passT with wt := some 3 }], tok := [(3, 1)] }, { passT with wt := some 3 }, [], by decide +kernel, by decide +kernel, by decide +kernel, by decide +kernel, by decide +kernel, by decide +kernel, by decide +kernel, by decide +kernel, by decide +kernel, by decide +kernel⟩

theorem wit_ArrayCommands_5 : ∃ (s : State) (n : Nat) (x : EngSet) (p : Pass),
    (engAt n s = some x) ∧
    (x.run = some p) ∧
    (accWaits x p = false) ∧
    (x.drain.length < 2) ∧
    (tokenFits x p.et = true) ∧
    (setRuns n x s = true) ∧
    (injected 3 n 0 s = false) :=
  ⟨{ up with now := 5, leases := [leaseT 5 9 2], eng := [(5, { setP with run := some { passT with et := some 3 }, tok := [(3, 2)] })], ctxs := [(9, ctxT 2 2)], scratch := writeBytes (5 * 2 ^ 21) [3] (writeBytes (5 * 2 ^ 21 + 64) [255] []) }, 5, { setP with run := some { passT with et := some 3 }, tok := [(3, 2)] }, { passT with et := some 3 }, by decide +kernel, by decide +kernel, by decide +kernel, by decide +kernel, by decide +kernel, by decide +kernel, by decide +kernel⟩

theorem wit_ArrayCommands_6 : ∃ (s : State) (n : Nat) (x : EngSet) (p : Pass) (r : List Pass),
    (engAt n s = some x) ∧
    (x.drain = p :: r) ∧
    (tokenFits x p.dt = true) :=
  ⟨{ up with now := 5, eng := [(5, { setP with drain := [{ passT with result := [253, 255, 255, 255] }] })] }, 5, { setP with drain := [{ passT with result := [253, 255, 255, 255] }] }, { passT with result := [253, 255, 255, 255] }, [], by decide +kernel, by decide +kernel, by decide +kernel⟩

theorem wit_ArrayCommands_7 : ∃ (s : State) (n q : Nat) (x : EngSet) (r : List Nat),
    (engAt n s = some x) ∧
    (x.tqPend = q :: r) ∧
    (x.tq.length < 8) :=
  ⟨{ up with eng := [(5, { setP with tqPend := [4, 5], tq := [1, 2, 3, 4, 5, 6, 7] })] }, 5, 4, { setP with tqPend := [4, 5], tq := [1, 2, 3, 4, 5, 6, 7] }, [5], by decide +kernel, by decide +kernel, by decide +kernel⟩

theorem wit_ArrayCommands_8 : ∃ (s : State) (n w q : Nat) (x : EngSet) (r : List Nat),
    (Issues n 2 w x s) ∧
    (insOp w = 0x48) ∧
    (x.tq = q :: r) :=
  ⟨coded 0x448 { up with now := 5, leases := [leaseT 5 9 2], eng := [(5, { setP with tq := [2 ^ 64 * 7 + 9] })], ctxs := [(9, ctxT 2 2)] }, 5, 0x448, 2 ^ 64 * 7 + 9, { setP with tq := [2 ^ 64 * 7 + 9] }, [], by unfold Issues; decide +kernel, by decide +kernel, by decide +kernel⟩

theorem wit_ArrayCommands_9a : ∃ (s : State) (n : Nat),
    (govReady n s = true) :=
  ⟨setF (MXC_Cn_LEVEL_LEVEL 5) 63 (setF (MXC_Cn_LEVEL_DEMAND 5) 64 { up with now := 10 ^ 6 }), 5, by decide +kernel⟩

theorem wit_ArrayCommands_9b : ∃ (s : State) (n : Nat),
    (govReady n s = true) :=
  ⟨setF (MXC_Cn_LEVEL_LEVEL 5) 64 { up with now := 10 ^ 6 }, 5, by decide +kernel⟩

theorem wit_ArrayCommands_10 : ∃ (s : State) (n : Nat),
    (gapFor n 64 s = true) ∧
    (gapHeld n s = true) ∧
    (getF (MXC_Cn_LEVEL_DEMAND n) s = 0) ∧
    (0 < getF (MXC_Cn_LEVEL_LEVEL n) s) :=
  ⟨setF (MXC_Cn_LEVEL_LEVEL 5) 7 { up with now := 10 ^ 6 }, 5, by decide +kernel, by decide +kernel, by decide +kernel, by decide +kernel⟩

theorem wit_ArrayCommands_11 : ∃ (s : State) (n demand : Nat),
    (windowWithin n (nsToTc 600) s = true) ∧
    (leaseOf n s = none) :=
  ⟨setF (AIR_TDn_COUNT_VALUE 0) 9000 { up with windows := [⟨5, 4, 10000, true, false, 0, 10000, 7000, 20, false, false⟩] }, 5, 100, by decide +kernel, by decide +kernel⟩

theorem wit_ArrayCommands_12 : ∃ (s : State) (n : Nat),
    ((engAt n s).all (fun x => x.run.isNone) = true) ∧
    (leaseOf n s = none) ∧
    (getF (MXC_Cn_INFO_STATE n) s ≠ 5) ∧
    (flagF (MXC_Cn_INFO_CLOVER n) s = true ∨ windowWithin n (nsToTc 700) s = true) :=
  ⟨setF (MXC_Cn_INFO_CLOVER 5) 1 up, 5, by decide +kernel, by decide +kernel, by decide +kernel, by decide +kernel⟩

theorem wit_ArrayCommands_13 : ∃ (s : State) (n : Nat),
    (getF (MXC_Cn_INFO_STATE n) s = 5) :=
  ⟨setF (MXC_Cn_INFO_STATE 5) 5 (setF (MXC_Cn_INFO_CLOVER 5) 1 up), 5, by decide +kernel⟩

theorem wit_ArrayCommands_14 : ∃ (s : State) (n q : Nat),
    (coreInService n s = true ∧ coreSuspect n s = true ∧ mcPhys n s ∉ s.mcRetired) ∧
    (chooseSpare 20 (mcPhys n s / 20) (mcSpares s) = some q) :=
  ⟨setF (MXC_Cn_INFO_PHYS 0) 3 (setF (FLT_MCp_ASSAY_SUSPECT 3) 1 (setF DEV_IDENT_GRADE 1 up)), 0, 0, by decide +kernel, by decide +kernel⟩

theorem wit_ArrayCommands_15 : ∃ (s : State) (n : Nat),
    (coreInService n s = true ∧ coreSuspect n s = true ∧ mcPhys n s ∉ s.mcRetired) ∧
    (chooseSpare 20 (mcPhys n s / 20) (mcSpares s) = none) ∧
    (coreFree n s = true) ∧
    (s.ctxs = []) ∧
    (s.injecting = false) :=
  ⟨{ setF (FLT_MCp_ASSAY_SUSPECT 0) 1 (setF MXC_STAT_ACTIVE 1 (setF DEV_IDENT_GRADE 1 up)) with mcRetired := (List.range 159).map (· + 1) }, 0, by decide +kernel, by decide +kernel, by decide +kernel, by decide +kernel, by decide +kernel⟩

theorem wit_ArrayCommands_16 : ∃ (s : State) (n q : Nat),
    (lookup n s.mcRetiring = some q) ∧
    (coreFree n s = true) ∧
    (getF (PWR_DOMd_STATE q) s = 2) ∧
    (q ≠ mcPhys n s) ∧
    (s.spareCmd = []) ∧
    (s.injecting = false) :=
  ⟨setF (PWR_DOMd_STATE 9) 2 (setF (PWR_DOMd_STATE 3) 2 (setF (MXC_Cn_INFO_PHYS 0) 3 { up with mcRetiring := [(0, 9)] })), 0, 9, by decide +kernel, by decide +kernel, by decide +kernel, by decide +kernel, by decide +kernel, by decide +kernel⟩

theorem wit_VectorInstructions_1a : ∃ (s : State) (n lo hi i w : Nat) (x : EngSet) (c : Instr),
    ((c, lo, hi, i) ∈ vec3Ops n) ∧
    (IssuesVec n lo hi w x s) :=
  ⟨coded 0x1000C4360 { up with now := 5, leases := [leaseT 5 9 2], eng := [(5, { setT 9 with v := [(128, 0x3F800000), (129, 0x7F800000), (192, 0x3F800001), (193, 0xFF800000)] })], ctxs := [(9, ctxT 2 2)] }, 5, 0x60, 0x6F, 0, 0x1000C4360, { setT 9 with v := [(128, 0x3F800000), (129, 0x7F800000), (192, 0x3F800001), (193, 0xFF800000)] }, .vadd 5, by decide +kernel, by unfold IssuesVec Issues; decide +kernel⟩

theorem wit_VectorInstructions_1b : ∃ (s : State) (n lo hi i w : Nat) (x : EngSet) (c : Instr),
    ((c, lo, hi, i) ∈ vec3Ops n) ∧
    (IssuesVec n lo hi w x s) :=
  ⟨coded 0x1100C4378 { up with now := 5, leases := [leaseT 5 9 2], eng := [(5, { setT 9 with k := [(1, 5)], v := [(128, 0x7FFFFFFF), (129, 3), (192, 2), (193, 2), (194, 9)] })], ctxs := [(9, ctxT 2 2)] }, 5, 0x78, 0x7F, 10, 0x1100C4378, { setT 9 with k := [(1, 5)], v := [(128, 0x7FFFFFFF), (129, 3), (192, 2), (193, 2), (194, 9)] }, .int32Add 5 true, by decide +kernel, by unfold IssuesVec Issues; decide +kernel⟩

theorem wit_VectorInstructions_2 : ∃ (s : State) (n i w : Nat) (x : EngSet) (c : Instr),
    ((c, i) ∈ transcOps n) ∧
    (IssuesVec n 0x90 0x97 w x s) :=
  ⟨coded 0x1000C4390 { up with now := 5, leases := [leaseT 5 9 2], eng := [(5, { setT 9 with v := [(128, 0x3F800000)] })], ctxs := [(9, ctxT 2 2)] }, 5, 4, 0x1000C4390, { setT 9 with v := [(128, 0x3F800000)] }, .vtanh 5, by decide +kernel, by unfold IssuesVec Issues; decide +kernel⟩

theorem wit_VectorInstructions_3 : ∃ (s : State) (n w : Nat) (left arith sat : Bool) (x : EngSet),
    (IssuesVec n 0x78 0x7F w x s) :=
  ⟨coded 0x1000C4378 { up with now := 5, leases := [leaseT 5 9 2], eng := [(5, { setT 9 with v := [(128, 0x80000000), (129, 3), (192, 31), (193, 32), (194, 9)] })], ctxs := [(9, ctxT 2 2)] }, 5, 0x1000C4378, false, true, false, { setT 9 with v := [(128, 0x80000000), (129, 3), (192, 31), (193, 32), (194, 9)] }, by unfold IssuesVec Issues; decide +kernel⟩

theorem wit_VectorInstructions_4 : ∃ (s : State) (n w i : Nat) (x : EngSet) (c : Instr),
    ((c, i) ∈ [((.vsel n : Instr), 0), (.vperm n, 1), (.vbcast n, 2)]) ∧
    (IssuesVec n (if i = 0 then 0x80 else 0x98) (if i = 0 then 0x87 else 0x9F) w x s) :=
  ⟨coded 0x3F00000C4398 { up with now := 5, leases := [leaseT 5 9 2], eng := [(5, { setT 9 with v := [(191, 0x80000000), (192, 63)] })], ctxs := [(9, ctxT 2 2)] }, 5, 0x3F00000C4398, 1, { setT 9 with v := [(191, 0x80000000), (192, 63)] }, .vperm 5, by decide +kernel, by unfold IssuesVec Issues; decide +kernel⟩

theorem wit_VectorInstructions_5 : ∃ (s : State) (n w : Nat) (src dst : Fin 5) (x : EngSet),
    (IssuesVec n 0x88 0x8F w x s) ∧
    (¬ (src.val = 0 ↔ dst.val = 0)) :=
  ⟨coded 0x1000C4388 { up with now := 5, leases := [leaseT 5 9 2], eng := [(5, { setT 9 with v := [(128, 0xC0600000), (129, 0x7FC00000)] })], ctxs := [(9, ctxT 2 2)] }, 5, 0x1000C4388, 0, 4, { setT 9 with v := [(128, 0xC0600000), (129, 0x7FC00000)] }, by unfold IssuesVec Issues; decide +kernel, by decide +kernel⟩

theorem wit_VectorInstructions_6 : ∃ (s : State) (n w : Nat) (fmt : Fin 5) (x : EngSet),
    (IssuesVec n 0x88 0x8F w x s) :=
  ⟨coded 0x1000C4388 { up with now := 5, leases := [leaseT 5 9 2], eng := [(5, { setT 9 with v := [(128, 0x3F800000), (160, 0x40000000)] })], ctxs := [(9, ctxT 2 2)] }, 5, 0x1000C4388, 1, { setT 9 with v := [(128, 0x3F800000), (160, 0x40000000)] }, by unfold IssuesVec Issues; decide +kernel⟩

theorem wit_VectorInstructions_7 : ∃ (s : State) (n w : Nat) (x : EngSet) (c : Ctx),
    (IssuesVec n 0xA0 0xA0 w x s) ∧
    (ctxOf x.ctx s = some c) :=
  ⟨coded 0x43A0 { up with now := 5, leases := [leaseT 5 9 2], eng := [(5, { setT 9 with vc := ⟨0, [(2, 5)], 1⟩ })], ctxs := [(9, { ctxT 2 2 with seed := 9, counter := 4 })] }, 5, 0x43A0, { setT 9 with vc := ⟨0, [(2, 5)], 1⟩ }, { ctxT 2 2 with seed := 9, counter := 4 }, by unfold IssuesVec Issues; decide +kernel, by decide +kernel⟩

theorem wit_VectorInstructions_8a : ∃ (s : State) (n w : Nat) (i : Fin 6) (j : Fin 4) (b : Bool) (x : EngSet) (c : Instr),
    (c = .vcmp n i b ∨ c = .maskLogic n j) ∧
    (IssuesVec n 0x80 0x87 w x s) :=
  ⟨coded 0x100C4380 { up with now := 5, leases := [leaseT 5 9 2], eng := [(5, { setT 9 with k := [(1, 7), (3, 8)], v := [(128, 0x80000000), (130, 5), (192, 0)] })], ctxs := [(9, ctxT 2 2)] }, 5, 0x100C4380, 0, 0, false, { setT 9 with k := [(1, 7), (3, 8)], v := [(128, 0x80000000), (130, 5), (192, 0)] }, .vcmp 5 0 false, by decide +kernel, by unfold IssuesVec Issues; decide +kernel⟩

theorem wit_VectorInstructions_8b : ∃ (s : State) (n w : Nat) (i : Fin 6) (j : Fin 4) (b : Bool) (x : EngSet) (c : Instr),
    (c = .vcmp n i b ∨ c = .maskLogic n j) ∧
    (IssuesVec n 0x80 0x87 w x s) :=
  ⟨coded 0x000C4380 { up with now := 5, leases := [leaseT 5 9 2], eng := [(5, { setT 9 with k := [(2, 7), (3, 9)] })], ctxs := [(9, ctxT 2 2)] }, 5, 0x000C4380, 0, 2, false, { setT 9 with k := [(2, 7), (3, 9)] }, .maskLogic 5 2, by decide +kernel, by unfold IssuesVec Issues; decide +kernel⟩

theorem wit_VectorInstructions_9 : ∃ (s : State) (n w pad : Nat) (x : EngSet) (c : Instr) (r : Nat × Nat),
    ((c = .vrsum n ∧ pad = 0 ∧ r = treeFold (fpAdd fp32) 6 ((List.range 64).map (fun l => if bitAt l (kGet x (insK w)) then vGet x (insA w) l else pad))) ∨
      (c = .vrmax n ∧ pad = 0xFF800000 ∧ r = treeFold (fpMinMax fp32 true) 6 ((List.range 64).map (fun l => if bitAt l (kGet x (insK w)) then vGet x (insA w) l else pad)))) ∧
    (IssuesVec n 0x98 0x9F w x s) :=
  ⟨coded 0x000C4398 { up with now := 5, leases := [leaseT 5 9 2], eng := [(5, { setT 9 with v := [(128, 0x40000000), (130, 0x3F800000)] })], ctxs := [(9, ctxT 2 2)] }, 5, 0x000C4398, 0, { setT 9 with v := [(128, 0x40000000), (130, 0x3F800000)] }, .vrsum 5, (0x40400000, 0), by decide +kernel, by unfold IssuesVec Issues; decide +kernel⟩

theorem wit_VectorInstructions_10 : ∃ (s : State) (n w : Nat) (g : Bool) (x : EngSet) (c : Instr) (a : Nat → Nat),
    ((c = .vld n ∧ g = false) ∨ (c = .vgather n ∧ g = true)) ∧
    ((∀ l ∈ List.range 64, a l = gReg x.vc (insA w) + 4 * (if g then vGet x (insB w) l else l))) ∧
    (IssuesVec n 0x50 0x53 w x s) ∧
    ((∀ l ∈ List.range 64, g = false ∨ bitAt l (kGet x (insK w)) = true → a l % 4 = 0 ∧ inArea x (a l) 4 = true)) :=
  ⟨coded 0x100C4352 { up with now := 5, leases := [leaseT 5 9 2], scratch := writeBytes (5 * 2 ^ 21 + 0x1BFFFC) [1, 2, 3, 4] [], eng := [(5, { setT 9 with vc := ⟨0, [(2, 0x1BFFF0)], 1⟩, k := [(1, 5)], v := [(192, 3), (193, 9), (194, 0)] })], ctxs := [(9, ctxT 2 2)] }, 5, 0x100C4352, true, { setT 9 with vc := ⟨0, [(2, 0x1BFFF0)], 1⟩, k := [(1, 5)], v := [(192, 3), (193, 9), (194, 0)] }, .vgather 5, (fun l => 0x1BFFF0 + 4 * vGet { setT 9 with vc := ⟨0, [(2, 0x1BFFF0)], 1⟩, k := [(1, 5)], v := [(192, 3), (193, 9), (194, 0)] } 3 l), by decide +kernel, by decide +kernel, by unfold IssuesVec Issues; decide +kernel, by decide +kernel⟩

theorem wit_VectorInstructions_11 : ∃ (s : State) (n w : Nat) (g : Bool) (x : EngSet) (c : Instr) (a : Nat → Nat),
    ((c = .vst n ∧ g = false) ∨ (c = .vscatter n ∧ g = true)) ∧
    ((∀ l ∈ List.range 64, a l = gReg x.vc (insA w) + 4 * (if g then vGet x (insB w) l else l))) ∧
    (IssuesVec n 0x50 0x53 w x s) ∧
    ((∀ l ∈ List.range 64, g = false ∨ bitAt l (kGet x (insK w)) = true → a l % 4 = 0 ∧ inArea x (a l) 4 = true)) ∧
    ((∀ l ∈ List.range 64, ∀ m ∈ List.range 64, a l = a m → l = m ∨ bitAt l (kGet x (insK w)) = false ∨ bitAt m (kGet x (insK w)) = false)) :=
  ⟨coded 0x100C4351 { up with now := 5, leases := [leaseT 5 9 2], scratch := writeBytes (5 * 2 ^ 21 + 0x40) [1, 2, 3, 4, 5, 6, 7, 8] [], eng := [(5, { setT 9 with vc := ⟨0, [(2, 0x40)], 1⟩, k := [(1, 2)], v := [(192, 3), (193, 9), (194, 0)] })], ctxs := [(9, ctxT 2 2)] }, 5, 0x100C4351, false, { setT 9 with vc := ⟨0, [(2, 0x40)], 1⟩, k := [(1, 2)], v := [(192, 3), (193, 9), (194, 0)] }, .vst 5, (fun l => 0x40 + 4 * l), by decide +kernel, by decide +kernel, by unfold IssuesVec Issues; decide +kernel, by decide +kernel, by decide +kernel⟩

theorem wit_VectorInstructions_12 : ∃ (s : State) (n w : Nat) (x : EngSet) (c : Instr) (st : Step),
    (c = .vld n ∨ c = .vst n) ∧
    (IssuesVec n 0x50 0x53 w x s) ∧
    (gReg x.vc (insA w) % 4 ≠ 0 ∨ inArea x (gReg x.vc (insA w)) 256 = false) ∧
    (x.radio = none) ∧
    (stepOf x.ctx s = some st) :=
  ⟨coded 0x000C4351 { up with now := 5, leases := [leaseT 5 9 2], eng := [(5, { setT 9 with vc := ⟨0, [(2, 0x1BFF04)], 1⟩ })], ctxs := [(9, { ctxT 2 2 with queue := [stepT 1] })] }, 5, 0x000C4351, { setT 9 with vc := ⟨0, [(2, 0x1BFF04)], 1⟩ }, .vst 5, stepT 1, by decide +kernel, by unfold IssuesVec Issues; decide +kernel, by decide +kernel, by decide +kernel, by decide +kernel⟩

theorem wit_PartitionsAndMailboxes_1 : ∃ (s : State) (p : Pkt),
    (ready p s = true) ∧
    (chkPartSet p (leaveTimed p s) = none) :=
  ⟨partSetState, partSetPkt, by decide +kernel, by decide +kernel⟩

theorem wit_PartitionsAndMailboxes_2 : ∃ (s : State) (p : Pkt),
    (ready p s = true) ∧
    (parPartSet p (leaveTimed p s) = none) ∧
    (partSt (psPart p) s = 2) :=
  ⟨setF (SCHED_Pp_INFO_STATE 2) 2 partSetState, partSetPkt, by decide +kernel, by decide +kernel, by decide +kernel⟩

theorem wit_PartitionsAndMailboxes_3 : ∃ (s : State) (p : Pkt),
    (ready p s = true) ∧
    (psPart p < 8) ∧
    (partSt (psPart p) s ≠ 0) ∧
    ((∀ c ∈ s.ctxs, c.2.part ≠ psPart p)) ∧
    ((∀ o ∈ s.objs, o.2.part ≠ psPart p)) :=
  ⟨setF (SCHED_Pp_CORESi_CORES 2 1) 77 (setF (SCHED_Pp_INFO_STATE 2) 1 { took (pkt 0x106 255 [2, 0, 0, 0]) up with parts := [(2, ⟨9, 4, 0, [(1, 5), (3, 6)]⟩)] }), pkt 0x106 255 [2, 0, 0, 0], by decide +kernel, by decide +kernel, by decide +kernel, by decide +kernel, by decide +kernel⟩

theorem wit_PartitionsAndMailboxes_4 : ∃ (s : State) (p : Pkt),
    (ready p s = true) ∧
    (psPart p < 8) ∧
    (partSt (psPart p) s = 0 ∨ s.ctxs.any (fun c => decide (c.2.part = psPart p)) = true) :=
  ⟨setF (SCHED_Pp_INFO_STATE 0) 1 { took (pkt 0x106 255 [0, 0, 0, 0]) up with ctxs := [(9, ctxT 1 0)] }, pkt 0x106 255 [0, 0, 0, 0], by decide +kernel, by decide +kernel, by decide +kernel⟩

theorem wit_PartitionsAndMailboxes_5 : ∃ (s : State) (i k : Nat) (p : Pkt),
    (i < 8) ∧
    (s.fills.find? (fun x => decide (x.1 = i)) = some (i, k, true)) ∧
    (k = p.id + 1) ∧
    (s.accepted.find? (fun q => decide (q.id = p.id)) = some p) ∧
    ((∀ x ∈ s.freeing, x.2.2 % 16 ≠ i)) ∧
    (partSt i s = 0) :=
  ⟨setF (TIER_Pp_T1_QUOTA 2) 9 { took (pkt 0x106 255 [2, 0, 0, 0]) up with fills := [(2, 2, true)], begun := [1] }, 2, 2, pkt 0x106 255 [2, 0, 0, 0], by decide +kernel, by decide +kernel, by decide +kernel, by decide +kernel, by decide +kernel, by decide +kernel⟩

theorem wit_PartitionsAndMailboxes_6 : ∃ (s : State) (x : Nat × Nat × Bool),
    (s.fills.find? (fun x => decide (x.1 = 8)) = some x) ∧
    (x.2.1 = 0) :=
  ⟨{ up with fills := [(8, 0, false)], mem := [(4, 5)], poison := [(1, 1)] }, (8, 0, false), by decide +kernel, by decide +kernel⟩

theorem wit_PartitionsAndMailboxes_7 : ∃ (s : State) (p : Fin 8),
    (s.eng = []) ∧
    (s.ftt = []) :=
  ⟨setF (SCHED_Pp_REG_T2_BURST 7) 1 (setF (SCHED_Pp_REG_T2_RATE 7) 9 (setF (SCHED_Pp_REG_T1_BURST 7) 1000 (setF (SCHED_Pp_REG_T1_RATE 7) 9 { up with regul := [(21, ⟨-5, 9, 1⟩)] }))), 7, by decide +kernel, by decide +kernel⟩

theorem wit_PartitionsAndMailboxes_8 : ∃ (s : State) (v : Fin 33),
    (hostUp v s = true) ∧
    (v ≠ 0) ∧
    (flagF (SCHED_MBXv_CTRL_V2P_FULL (v - 1)) s = false) :=
  ⟨setF (SCHED_MBXv_VEC_PF_VEC 31) 5 { up with fns := [(0, ⟨true, true, false, false, []⟩)], msix := [(23, 0)] }, 32, by decide +kernel, by decide +kernel, by decide +kernel⟩

theorem wit_PartitionsAndMailboxes_9 : ∃ (s : State) (v : Fin 33),
    (hostUp 0 s = true) ∧
    (v ≠ 0) ∧
    (flagF (SCHED_MBXv_CTRL_P2V_FULL (v - 1)) s = false) :=
  ⟨setF (SCHED_MBXv_VEC_VF_VEC 31) 5 { up with fns := [(32, ⟨true, true, false, false, []⟩)], msix := [(msixKey 32 5 3, 0)] }, 32, by decide +kernel, by decide +kernel, by decide +kernel⟩

theorem wit_PartitionsAndMailboxes_10 : ∃ (s : State) (v : Fin 33) (f : Fin 33) (c : Instr) (full : Fld),
    (v ≠ 0) ∧
    ((c = .v2pPost v v ∧ f = v ∧ full = SCHED_MBXv_CTRL_V2P_FULL (v - 1)) ∨ (c = .p2vPost 0 v ∧ f = 0 ∧ full = SCHED_MBXv_CTRL_P2V_FULL (v - 1))) ∧
    (hostUp f s = true) ∧
    (flagF full s = true) :=
  ⟨setF (SCHED_MBXv_CTRL_P2V_FULL 2) 1 up, 3, 0, .p2vPost 0 3, SCHED_MBXv_CTRL_P2V_FULL 2, by decide +kernel, by decide +kernel, by decide +kernel, by decide +kernel⟩

theorem wit_PartitionsAndMailboxes_11 : ∃ (s : State) (v : Fin 33),
    (hostUp 0 s = true) ∧
    (v ≠ 0) ∧
    (flagF (SCHED_MBXv_CTRL_V2P_FULL (v - 1)) s = true) :=
  ⟨setF (SCHED_MBXv_CTRL_V2P_FULL 2) 1 { up with fns := [(3, ⟨true, true, false, false, []⟩)], msix := [(msixKey 3 0 3, 0)] }, 3, by decide +kernel, by decide +kernel, by decide +kernel⟩

theorem wit_PartitionsAndMailboxes_12 : ∃ (s : State) (v : Fin 33),
    (hostUp v s = true) ∧
    (v ≠ 0) ∧
    (flagF (SCHED_MBXv_CTRL_P2V_FULL (v - 1)) s = true) :=
  ⟨setF (SCHED_MBXv_CTRL_P2V_FULL 2) 1 { up with fns := [(0, ⟨true, true, false, false, []⟩)], msix := [(msixKey 0 0 3, 0)] }, 3, by decide +kernel, by decide +kernel, by decide +kernel⟩

theorem wit_PartitionsAndMailboxes_13 : ∃ (s : State) (f v : Fin 33) (c : Instr),
    ((c = .v2pPost f v ∧ f ≠ v) ∨ (c = .v2pAck f v ∧ f ≠ 0) ∨ (c = .p2vPost f v ∧ f ≠ 0) ∨ (c = .p2vAck f v ∧ f ≠ v)) :=
  ⟨setF (SCHED_MBXv_CTRL_V2P_FULL 2) 1 up, 3, 3, .v2pAck 3 3, by decide +kernel⟩

theorem wit_PartitionsAndMailboxes_14a : ∃ (s : State) (v : Fin 33) (w : BitVec 32) (c : Instr),
    (c = .dlogEnable 0 v w ∨ c = .dlogSwap 0 v w) ∧
    (hostUp 0 s = true) ∧
    (v ≠ 0) :=
  ⟨setF (SCHED_DLOGv_CTRL_EN 2) 1 up, 3, 3, .dlogSwap 0 3 3, by decide +kernel, by decide +kernel, by decide +kernel⟩

theorem wit_PartitionsAndMailboxes_14b : ∃ (s : State) (v : Fin 33) (w : BitVec 32) (c : Instr),
    (c = .dlogEnable 0 v w ∨ c = .dlogSwap 0 v w) ∧
    (hostUp 0 s = true) ∧
    (v ≠ 0) :=
  ⟨setF (SCHED_DLOGv_STAT_FLUSH 2) 1 (setF (SCHED_DLOGv_CTRL_EN 2) 1 up), 3, 3, .dlogSwap 0 3 3, by decide +kernel, by decide +kernel, by decide +kernel⟩

theorem wit_PartitionsAndMailboxes_14c : ∃ (s : State) (v : Fin 33) (w : BitVec 32) (c : Instr),
    (c = .dlogEnable 0 v w ∨ c = .dlogSwap 0 v w) ∧
    (hostUp 0 s = true) ∧
    (v ≠ 0) :=
  ⟨setF (SCHED_DLOGv_STAT_ACTIVE 2) 1 up, 3, 1, .dlogEnable 0 3 1, by decide +kernel, by decide +kernel, by decide +kernel⟩

theorem wit_PartitionsAndMailboxes_15 : ∃ (s : State) (f v : Fin 33) (w : BitVec 32),
    (f ≠ 0) :=
  ⟨up, 3, 3, 3, by decide +kernel⟩

theorem wit_PartitionsAndMailboxes_16 : ∃ (s : State) (v : Fin 33),
    (v ≠ 0) :=
  ⟨setF (SCHED_DLOGv_STAT_FLUSH 2) 1 up, 3, by decide +kernel⟩

theorem wit_ObjectCommands_1 : ∃ (s : State) (p : Pkt) (i b : Nat),
    (ready p s = true) ∧
    (chkCreate p (leaveTimed p (unreserveObj p.id s)) = none) ∧
    (createPlace p s = some (i, b)) :=
  ⟨objPart (took (pkt 0x601 0 ([0, 0, 0, 0, 0, 0, 0, 0, 1, 2, 0, 0, 2, 4] ++ zeros 50)) up), pkt 0x601 0 ([0, 0, 0, 0, 0, 0, 0, 0, 1, 2, 0, 0, 2, 4] ++ zeros 50), 256, 0, by decide +kernel, by decide +kernel, by decide +kernel⟩

theorem wit_ObjectCommands_2 : ∃ (s : State) (p : Pkt) (o : Obj),
    (ready p s = true) ∧
    (chkFree p s = none) ∧
    (lookup (pObj p) s.objs = some o) :=
  ⟨objPart { took (pkt 0x602 0 [0, 1, 0, 0]) up with objs := [(256, objT 1 3)], bmap := [(8, mkEnt 3 40 256 0 512 false), (9, mkEnt 3 41 256 0 88 false)] }, pkt 0x602 0 [0, 1, 0, 0], objT 1 3, by decide +kernel, by decide +kernel, by decide +kernel⟩

theorem wit_ObjectCommands_3a : ∃ (s : State) (p : Pkt) (o o' : Obj) (c : Instr),
    ((c = .objPin p ∧ chkPin p s = none ∧ o' = { o with pin := o.pin + 1 }) ∨ (c = .objUnpin p ∧ chkUnpin p s = none ∧ o' = { o with pin := o.pin - 1 }) ∨
      (c = .objKeys p ∧ chkKeys p s = none ∧ o' = { o with keys := [pf p 4 4, pf p 8 4, pf p 12 4, pf p 16 4], perm := pf p 20 2 })) ∧
    (ready p s = true) ∧
    (lookup (pObj p) s.objs = some o) :=
  ⟨objPart { took (pkt 0x606 0 [0, 1, 0, 0]) up with objs := [(256, { objT 1 3 with pin := 1 })] }, pkt 0x606 0 [0, 1, 0, 0], { objT 1 3 with pin := 1 }, objT 1 3, .objUnpin (pkt 0x606 0 [0, 1, 0, 0]), by decide +kernel, by decide +kernel, by decide +kernel⟩

theorem wit_ObjectCommands_3b : ∃ (s : State) (p : Pkt) (o o' : Obj) (c : Instr),
    ((c = .objPin p ∧ chkPin p s = none ∧ o' = { o with pin := o.pin + 1 }) ∨ (c = .objUnpin p ∧ chkUnpin p s = none ∧ o' = { o with pin := o.pin - 1 }) ∨
      (c = .objKeys p ∧ chkKeys p s = none ∧ o' = { o with keys := [pf p 4 4, pf p 8 4, pf p 12 4, pf p 16 4], perm := pf p 20 2 })) ∧
    (ready p s = true) ∧
    (lookup (pObj p) s.objs = some o) :=
  ⟨objPart { took (pkt 0x605 0 [0, 1, 0, 0]) up with objs := [(256, { objT 1 3 with pin := 65534 })] }, pkt 0x605 0 [0, 1, 0, 0], { objT 1 3 with pin := 65534 }, { objT 1 3 with pin := 65535 }, .objPin (pkt 0x605 0 [0, 1, 0, 0]), by decide +kernel, by decide +kernel, by decide +kernel⟩

theorem wit_ObjectCommands_4 : ∃ (s : State) (p : Pkt) (o : Obj) (c : Instr),
    (c = .objFree p ∨ c = .objUnpin p ∨ c = .objKeys p) ∧
    (ready p s = true) ∧
    (256 ≤ pObj p ∧ pObj p < 2 ^ 20) ∧
    (lookup (pObj p) s.objs = some o) ∧
    (o.part = p.part) ∧
    (partSt p.part s = 2) :=
  ⟨setF (SCHED_Pp_INFO_STATE 0) 2 { took (pkt 0x602 0 [0, 1, 0, 0]) up with objs := [(256, objT 1 3)] }, pkt 0x602 0 [0, 1, 0, 0], objT 1 3, .objFree (pkt 0x602 0 [0, 1, 0, 0]), by decide +kernel, by decide +kernel, by decide +kernel, by decide +kernel, by decide +kernel, by decide +kernel⟩

theorem wit_ObjectCommands_5 : ∃ (s : State) (p : Pkt) (o : Obj),
    (ready p s = true) ∧
    (chkObjQuery p s = none) ∧
    (lookup (pObj p) s.objs = some o) ∧
    (o.keys.length = 4) ∧
    (replyLands p.window s = true) ∧
    (pf p 8 8 + 64 ≤ getF (CMD_PWw_RR_BASE_ADDR p.window) s * 4096 ∨ getF (CMD_PWw_RR_BASE_ADDR p.window) s * 4096 + ringSize p.window s * 32 ≤ pf p 8 8) :=
  ⟨setF (CMD_PWw_RR_BASE_ADDR 0) 9 { took (pkt 0x608 0 [0, 1, 0, 0, 64, 0, 0, 0, 0, 1, 0, 0, 0, 0, 0, 0]) up with fns := [(0, ⟨true, true, false, false, []⟩)], objs := [(256, { objT 1 3 with keys := [1, 2, 3, 4] })] }, pkt 0x608 0 [0, 1, 0, 0, 64, 0, 0, 0, 0, 1, 0, 0, 0, 0, 0, 0], { objT 1 3 with keys := [1, 2, 3, 4] }, by decide +kernel, by decide +kernel, by decide +kernel, by decide +kernel, by decide +kernel, by decide +kernel⟩

theorem wit_ObjectCommands_6 : ∃ (s : State) (p : Pkt) (o : Obj),
    (ready p s = true) ∧
    ((∀ r ∈ s.objResv, r.id ≠ p.id)) ∧
    (chkPromote p s = none) ∧
    (lookup (pObj p) s.objs = some o) ∧
    (o.st = 1 ∧ pTarget p = o.tier) :=
  ⟨{ objPart { took (pkt 0x603 0 [0, 1, 0, 0, 3]) up with objs := [(256, objT 1 3)] } with now := up.resetAt + 500 * 1536000000 }, pkt 0x603 0 [0, 1, 0, 0, 3], objT 1 3, by decide +kernel, by decide +kernel, by decide +kernel, by decide +kernel, by decide +kernel⟩

theorem wit_ObjectCommands_7 : ∃ (s : State) (p : Pkt) (o : Obj),
    (ready p s = true) ∧
    ((∀ r ∈ s.objResv, r.id ≠ p.id)) ∧
    (chkPromote p s = none) ∧
    (lookup (pObj p) s.objs = some o) ∧
    (o.st = 1 ∧ pTarget p ≠ o.tier) :=
  ⟨objPart { took (pkt 0x603 0 [0, 1, 0, 0, 2]) up with objs := [(256, objT 1 3)] }, pkt 0x603 0 [0, 1, 0, 0, 2], objT 1 3, by decide +kernel, by decide +kernel, by decide +kernel, by decide +kernel, by decide +kernel⟩

theorem wit_ObjectCommands_8 : ∃ (s : State) (p : Pkt) (o : Obj),
    (ready p s = true) ∧
    ((∀ r ∈ s.objResv, r.id ≠ p.id)) ∧
    (chkPromote p s = none) ∧
    (lookup (pObj p) s.objs = some o) ∧
    (o.st = 2) :=
  ⟨objPart { took (pkt 0x603 0 [0, 1, 0, 0, 2]) up with objs := [(256, { objT 1 3 with st := 2, target := 2, waiters := [7] })] }, pkt 0x603 0 [0, 1, 0, 0, 2], { objT 1 3 with st := 2, target := 2, waiters := [7] }, by decide +kernel, by decide +kernel, by decide +kernel, by decide +kernel, by decide +kernel⟩

theorem wit_ObjectCommands_9 : ∃ (s : State) (p : Pkt) (o : Obj),
    (ready p s = true) ∧
    ((∀ r ∈ s.objResv, r.id ≠ p.id)) ∧
    (chkEvict p s = none) ∧
    (lookup (pObj p) s.objs = some o) ∧
    (o.st = 1) :=
  ⟨objPart { took (pkt 0x604 0 [0, 1, 0, 0, 3]) up with objs := [(256, objT 1 2)] }, pkt 0x604 0 [0, 1, 0, 0, 3], objT 1 2, by decide +kernel, by decide +kernel, by decide +kernel, by decide +kernel, by decide +kernel⟩

theorem wit_ObjectCommands_10 : ∃ (s : State) (p : Pkt) (o : Obj),
    (ready p s = true) ∧
    ((∀ r ∈ s.objResv, r.id ≠ p.id)) ∧
    (256 ≤ pObj p ∧ pObj p < 2 ^ 20) ∧
    (lookup (pObj p) s.objs = some o) ∧
    (o.part = p.part ∧ o.st = 1 ∧ o.tier < pTarget p) ∧
    (partSt p.part s ≠ 2) ∧
    (0 < o.pin) :=
  ⟨objPart { took (pkt 0x604 0 [0, 1, 0, 0, 3]) up with objs := [(256, { objT 1 2 with pin := 4 })] }, pkt 0x604 0 [0, 1, 0, 0, 3], { objT 1 2 with pin := 4 }, by decide +kernel, by decide +kernel, by decide +kernel, by decide +kernel, by decide +kernel, by decide +kernel, by decide +kernel⟩

theorem wit_MigrationsAndAge_1 : ∃ (s : State) (i : Nat) (o : Obj) (q : List Nat),
    (s.migQueue = i :: q) ∧
    (lookup i s.objs = some o) ∧
    (partSt o.part s ≠ 2) ∧
    (s.migs.length < 4) ∧
    ((∀ x ∈ s.migs, x.obj ≠ i)) ∧
    (i ∉ q) :=
  ⟨{ up with migQueue := [256, 300], objs := [(256, { objT 1 3 with st := 2, target := 2, resv := 2 })], bmap := [(8, mkEnt 3 40 256 0 512 false)] }, 256, { objT 1 3 with st := 2, target := 2, resv := 2 }, [300], by decide +kernel, by decide +kernel, by decide +kernel, by decide +kernel, by decide +kernel, by decide +kernel⟩

theorem wit_MigrationsAndAge_2 : ∃ (s : State) (i : Nat) (m : Mig) (o : Obj),
    (s.migs.find? (fun m => decide (m.obj = i)) = some m) ∧
    (lookup i s.objs = some o) ∧
    (m.cur < 32 ∧ m.blk < objBlocks o) ∧
    (cleanSub o m.blk m.cur s = false) :=
  ⟨{ up with migs := [⟨256, 0, 31, 600, 0⟩], objs := [(256, { objT 1 3 with st := 2, target := 2, resv := 2 })], bmap := [(8, mkEnt 3 40 256 0 512 false)], mem := writeBytes (memAddr 3 40 (31 * 65536 + 5)) [7] [] }, 256, ⟨256, 0, 31, 600, 0⟩, { objT 1 3 with st := 2, target := 2, resv := 2 }, by decide +kernel, by decide +kernel, by decide +kernel, by decide +kernel⟩

theorem wit_MigrationsAndAge_3 : ∃ (s : State) (i : Nat) (bad : List Nat) (m : Mig) (o : Obj),
    (s.migs.find? (fun m => decide (m.obj = i)) = some m) ∧
    (lookup i s.objs = some o) ∧
    (m.cur < 32 ∧ m.blk < objBlocks o) ∧
    (cleanSub o m.blk m.cur s = true) :=
  ⟨{ up with migs := [⟨256, 0, 31, 600, 0⟩], shadows := [(8, ⟨3, 600, false, 5⟩)], objs := [(256, { objT 1 2 with st := 3, target := 3 })], bmap := [(8, mkEnt 2 600 256 0 512 false)] }, 256, [3], ⟨256, 0, 31, 600, 0⟩, { objT 1 2 with st := 3, target := 3 }, by decide +kernel, by decide +kernel, by decide +kernel, by decide +kernel⟩

theorem wit_MigrationsAndAge_4 : ∃ (s : State) (i : Nat) (m : Mig) (o : Obj),
    (s.migs.find? (fun m => decide (m.obj = i)) = some m) ∧
    (lookup i s.objs = some o) ∧
    (m.cur = 32 ∧ m.blk + 1 = objBlocks o) ∧
    (lookup (o.block + m.blk) s.shadows = none) ∧
    (o.st = 2 ∧ o.drop = false) :=
  ⟨{ up with migs := [⟨256, 1, 32, 600, 3⟩], objs := [(256, { objT 1 3 with st := 2, target := 2, resv := 1, moved := 1 })], bmap := [(9, mkEnt 3 40 256 0 88 false)] }, 256, ⟨256, 1, 32, 600, 3⟩, { objT 1 3 with st := 2, target := 2, resv := 1, moved := 1 }, by decide +kernel, by decide +kernel, by decide +kernel, by decide +kernel, by decide +kernel⟩

theorem wit_MigrationsAndAge_5 : ∃ (s : State) (i : Nat) (m : Mig) (o : Obj) (p : Pkt),
    (s.migs.find? (fun m => decide (m.obj = i)) = some m) ∧
    (lookup i s.objs = some o) ∧
    (m.blk = objBlocks o) ∧
    (o.waiters = [p.id]) ∧
    (o.ue = false) ∧
    (s.accepted.find? (fun q => decide (q.id = p.id)) = some p) :=
  ⟨{ took (pkt 0x603 0 [0, 1, 0, 0, 2]) up with begun := [1], migs := [⟨256, 2, 0, 600, 3⟩], objs := [(256, { objT 1 3 with st := 2, target := 2, moved := 2, waiters := [1] })] }, 256, ⟨256, 2, 0, 600, 3⟩, { objT 1 3 with st := 2, target := 2, moved := 2, waiters := [1] }, pkt 0x603 0 [0, 1, 0, 0, 2], by decide +kernel, by decide +kernel, by decide +kernel, by decide +kernel, by decide +kernel, by decide +kernel⟩

theorem wit_MigrationsAndAge_7 : ∃ (s : State) (n : Fin 2) (i t' : Nat) (o : Obj),
    (poolBelow n (getF (TIER_POOL_Tn_LOW n) s) s = true) ∧
    (moreToGo n s = true) ∧
    ((ageCands n s).filter (fun o => (ageTarget o.2 s).isSome) = [(i, o)]) ∧
    (ageTarget o s = some t') :=
  ⟨setF (TIER_POOL_Tn_LOW 1) 10 (setF TIER_POOLUSE_T1 10 (setF (TIER_POOL_Tn_SIZE 1) 10 (objPart { up with objs := [(256, { objT 1 2 with pool := true })] }))), 1, 256, 3, { objT 1 2 with pool := true }, by decide +kernel, by decide +kernel, by decide +kernel, by decide +kernel⟩

theorem wit_MigrationsAndAge_8 : ∃ (s : State) (tier frame : Nat) (x : Nat × Nat × Nat),
    (s.freeing.find? (fun x => decide (x.1 = tier) && decide (x.2.1 = frame)) = some x) :=
  ⟨setF (TIER_Pp_T2_USED 2) 5 { up with freeing := [(3, 7, 2), (3, 8, 2)], mem := [(memAddr 3 7 9, 5), (memAddr 3 8 9, 5)], poison := [(memAddr 3 7 128 / 64, 1)] }, 3, 7, (3, 7, 2), by decide +kernel⟩

theorem wit_MigrationsAndAge_9 : ∃ (s : State) (n : Fin 2) (v : BitVec 64),
    (hostUp 0 s = true) ∧
    (getF (poolUseF (n + 1)) s ≤ v.toNat % 2 ^ 22) ∧
    (v.toNat % 2 ^ 22 + ((List.range 8).map (fun p => getF (quotaF p (n + 1)) s)).sum + (if n = 0 then getF TIER_RADIO_T0 s else getF TIER_RADIO_T1 s) +
      (s.resv.map (fun r => if n = 0 then r.t0Frames else r.t1Frames)).sum ≤ (if n = 0 then getF TIER_CAP_T0 s else getF TIER_CAP_T1 s)) :=
  ⟨setF TIER_CAP_T1 100 up, 1, 0x00000F0A00000064, by decide +kernel, by decide +kernel, by decide +kernel⟩

theorem wit_MigrationsAndAge_10 : ∃ (s : State) (n : Fin 2) (v : BitVec 64),
    (hostUp 0 s = true) ∧
    (v.toNat % 2 ^ 22 < getF (poolUseF (n + 1)) s) :=
  ⟨setF TIER_POOLUSE_T0 7 up, 0, 0x0000000000000006, by decide +kernel, by decide +kernel⟩

theorem wit_FabricCommands_1 : ∃ (s : State) (p : Pkt),
    (ready p s = true) ∧
    (chkFabPort p (leaveTimed p s) = none) ∧
    (fpAction p = 1) ∧
    (portSt (fpPort p) s ≠ 1 ∧ portSt (fpPort p) s ≠ 2) :=
  ⟨took (pkt 0x701 0 [15, 1, 0, 3, 9, 0]) up, pkt 0x701 0 [15, 1, 0, 3, 9, 0], by decide +kernel, by decide +kernel, by decide +kernel, by decide +kernel⟩

theorem wit_FabricCommands_2 : ∃ (s : State) (p : Pkt),
    (ready p s = true) ∧
    (chkFabPort p (leaveTimed p s) = none) ∧
    (fpAction p = 1) ∧
    (portSt (fpPort p) s = 2) :=
  ⟨setF (HJF_Pp_STAT_STATE 0) 2 (took (pkt 0x701 0 [0, 1, 0, 0]) up), pkt 0x701 0 [0, 1, 0, 0], by decide +kernel, by decide +kernel, by decide +kernel, by decide +kernel⟩

theorem wit_FabricCommands_3 : ∃ (s : State) (p : Pkt),
    (ready p s = true) ∧
    (chkFabPort p (leaveTimed p s) = none) ∧
    (fpAction p = 0) ∧
    ((heldBy (fpPort p) s).all (fun k => ownReq k s) = true) ∧
    ((hpOf (fpPort p) s).pkts = []) :=
  ⟨setF (HJF_Pp_STAT_STATE 3) 2 { took (pkt 0x701 0 [3, 0, 0, 0]) up with routes := [(9, 9 + 2 ^ 16 + 3 * 2 ^ 19)], hport := [(3, { HPort.reset with seq := 9, replay := [(8, fpT 0 9 1 0 [])], queue := [fpT 1 9 2 0 []] })] }, pkt 0x701 0 [3, 0, 0, 0], by decide +kernel, by decide +kernel, by decide +kernel, by decide +kernel, by decide +kernel⟩

theorem wit_FabricCommands_4 : ∃ (s : State) (p : Pkt),
    (ready p s = true) ∧
    (chkFabPort p (leaveTimed p s) = none) ∧
    (fpAction p = 2) :=
  ⟨setF (HJF_Pp_STAT_STATE 3) 2 (took (pkt 0x701 0 [3, 2, 1, 0]) up), pkt 0x701 0 [3, 2, 1, 0], by decide +kernel, by decide +kernel, by decide +kernel⟩

theorem wit_FabricCommands_5 : ∃ (s : State) (p : Pkt),
    (ready p s = true) ∧
    (fpPort p ≤ 15) ∧
    (fpAction p = 2) ∧
    (portSt (fpPort p) s ≠ 2 ∨ flagF (HJF_Pp_STAT_SPARE_IN (fpPort p)) s = true) :=
  ⟨setF (HJF_Pp_STAT_SPARE_IN 3) 1 (setF (HJF_Pp_STAT_STATE 3) 2 (took (pkt 0x701 0 [3, 2, 1, 0]) up)), pkt 0x701 0 [3, 2, 1, 0], by decide +kernel, by decide +kernel, by decide +kernel, by decide +kernel⟩

theorem wit_FabricCommands_6 : ∃ (s : State) (p : Pkt) (l r : List Nat) (e : Nat),
    (ready p s = true) ∧
    (chkTable badRoute p (leaveTimed p s) = none) ∧
    (tabEntries p = l ++ e :: r) ∧
    ((∀ x ∈ r, x % 65536 ≠ e % 65536)) :=
  ⟨{ took (pkt 0x702 0 ([2, 0, 0, 0, 0, 0, 0, 0] ++ natLE 8 (9 + 2 ^ 16 + 3 * 2 ^ 19) ++ natLE 8 (9 + 2 ^ 16 + 5 * 2 ^ 19))) up with routes := [(9, 9 + 2 ^ 16), (12, 12 + 2 ^ 16)] }, pkt 0x702 0 ([2, 0, 0, 0, 0, 0, 0, 0] ++ natLE 8 (9 + 2 ^ 16 + 3 * 2 ^ 19) ++ natLE 8 (9 + 2 ^ 16 + 5 * 2 ^ 19)), [9 + 2 ^ 16 + 3 * 2 ^ 19], [], 9 + 2 ^ 16 + 5 * 2 ^ 19, by decide +kernel, by decide +kernel, by decide +kernel, by decide +kernel⟩

theorem wit_FabricCommands_7 : ∃ (s : State) (p : Pkt) (l r : List Nat) (e : Nat),
    (ready p s = true) ∧
    (chkTable badGroup p (leaveTimed p s) = none) ∧
    (tabEntries p = l ++ e :: r) ∧
    ((∀ x ∈ r, x % 4096 ≠ e % 4096)) :=
  ⟨{ took (pkt 0x703 0 ([1, 0, 0, 0, 0, 0, 0, 0] ++ natLE 8 (4095 + 2 ^ 12 + 2 ^ 16))) up with groups := [(3, 3 + 2 ^ 12)] }, pkt 0x703 0 ([1, 0, 0, 0, 0, 0, 0, 0] ++ natLE 8 (4095 + 2 ^ 12 + 2 ^ 16)), [], [], 4095 + 2 ^ 12 + 2 ^ 16, by decide +kernel, by decide +kernel, by decide +kernel, by decide +kernel⟩

theorem wit_FabricCommands_8 : ∃ (s : State) (p : Pkt) (c : Instr),
    (c = .fabRoute p ∨ c = .fabGroup p) ∧
    (ready p s = true) ∧
    (tabCount p = 0 ∨ 499 < tabCount p) :=
  ⟨took (pkt 0x702 0 [0xF4, 1, 0, 0]) up, pkt 0x702 0 [0xF4, 1, 0, 0], .fabRoute (pkt 0x702 0 [0xF4, 1, 0, 0]), by decide +kernel, by decide +kernel, by decide +kernel⟩

theorem wit_FabricCommands_9 : ∃ (s : State) (p : Pkt),
    (ready p s = true) ∧
    (pf p 0 1 ≤ 7) ∧
    (partSt (pf p 0 1) s = 1) ∧
    ((bitAt 0 (pf p 1 1) = true → ∀ i ∈ partPorts (pf p 0 1) s, heldBy i s = [] ∧ (hpOf i s).pkts = [])) :=
  ⟨setF (SCHED_Pp_INFO_STATE 7) 1 (took (pkt 0x704 0 [7, 0, 0, 0, 1, 2, 3, 4]) up), pkt 0x704 0 [7, 0, 0, 0, 1, 2, 3, 4], by decide +kernel, by decide +kernel, by decide +kernel, by decide +kernel⟩

theorem wit_FabricCommands_10 : ∃ (s : State) (p : Pkt),
    (ready p s = true) ∧
    (pf p 0 1 ≤ 7) ∧
    (partSt (pf p 0 1) s = 2) :=
  ⟨setF HJF_GATE_FENCED 0xC0 (setF (SCHED_Pp_INFO_STATE 7) 2 (took (pkt 0x705 0 [7, 0, 0, 0]) up)), pkt 0x705 0 [7, 0, 0, 0], by decide +kernel, by decide +kernel, by decide +kernel⟩

theorem wit_FabricCommands_11 : ∃ (s : State) (p : Pkt) (c : Instr) (w : Nat),
    (c = .fabFence p ∧ w = 1 ∨ c = .fabUnfence p ∧ w = 2) ∧
    (ready p s = true) ∧
    (pf p 0 1 ≤ 7) ∧
    (partSt (pf p 0 1) s ≠ w) :=
  ⟨took (pkt 0x705 0 [7, 0, 0, 0]) up, pkt 0x705 0 [7, 0, 0, 0], .fabUnfence (pkt 0x705 0 [7, 0, 0, 0]), 2, by decide +kernel, by decide +kernel, by decide +kernel, by decide +kernel⟩

theorem wit_FabricCommands_12a : ∃ (s : State) (p : Pkt),
    (ready p s = true) ∧
    (chkFabQuery p s = none) ∧
    (replyLands p.window s = true) ∧
    (pf p 8 8 + 64 ≤ getF (CMD_PWw_RR_BASE_ADDR p.window) s * 4096 ∨ getF (CMD_PWw_RR_BASE_ADDR p.window) s * 4096 + ringSize p.window s * 32 ≤ pf p 8 8) :=
  ⟨setF (CMD_PWw_RR_BASE_ADDR 0) 9 { took (pkt 0x706 0 [1, 0, 9, 0, 64, 0, 0, 0, 0, 1, 0, 0, 0, 0, 0, 0]) up with fns := [(0, ⟨true, true, false, false, []⟩)], routes := [(9, 9 + 2 ^ 16 + 3 * 2 ^ 19)] }, pkt 0x706 0 [1, 0, 9, 0, 64, 0, 0, 0, 0, 1, 0, 0, 0, 0, 0, 0], by decide +kernel, by decide +kernel, by decide +kernel, by decide +kernel⟩

theorem wit_FabricCommands_12b : ∃ (s : State) (p : Pkt),
    (ready p s = true) ∧
    (chkFabQuery p s = none) ∧
    (replyLands p.window s = true) ∧
    (pf p 8 8 + 64 ≤ getF (CMD_PWw_RR_BASE_ADDR p.window) s * 4096 ∨ getF (CMD_PWw_RR_BASE_ADDR p.window) s * 4096 + ringSize p.window s * 32 ≤ pf p 8 8) :=
  ⟨setF (HJF_Pp_STAT_STATE 4) 2 (setF (CMD_PWw_RR_BASE_ADDR 0) 9 { took (pkt 0x706 0 [0, 0, 4, 0, 64, 0, 0, 0, 0, 1, 0, 0, 0, 0, 0, 0]) up with fns := [(0, ⟨true, true, false, false, []⟩)] }), pkt 0x706 0 [0, 0, 4, 0, 64, 0, 0, 0, 0, 1, 0, 0, 0, 0, 0, 0], by decide +kernel, by decide +kernel, by decide +kernel, by decide +kernel⟩

theorem wit_FabricCommands_13 : ∃ (s : State) (p : Fin 16) (off16 : Int) (root locked : Bool) (rootId : Nat),
    (flagF HJF_TIME_ROOT s = false) ∧
    (portUp p s = true) ∧
    (p.val = getF HJF_TIME_PARENT s) ∧
    (flagF (AIR_TDn_CTRL_EN 7) s = true) ∧
    ((root || locked) = true) ∧
    (tdState 7 s = 1) ∧
    (cellBound 7 s = false) :=
  ⟨setF (HJF_Pp_STAT_STATE 15) 2 (setF HJF_TIME_PARENT 15 (setF (AIR_TDn_CTRL_EN 7) 1 (setF (AIR_TDn_STATE_STATE 7) 1 up))), 15, 50, false, true, 70000, by decide +kernel, by decide +kernel, by decide +kernel, by decide +kernel, by decide +kernel, by decide +kernel, by decide +kernel⟩

theorem wit_FabricCommands_14 : ∃ (s : State) (p : Fin 16) (off16 : Int) (root locked : Bool) (rootId : Nat),
    (flagF HJF_TIME_ROOT s = true ∨ portUp p s = false ∨ p.val ≠ getF HJF_TIME_PARENT s ∨ flagF (AIR_TDn_CTRL_EN 7) s = false) :=
  ⟨up, 3, 5, true, true, 9, by decide +kernel⟩

theorem wit_HjeloLinks_1 : ∃ (s : State) (n : Fin 16) (peer : Nat) (sw : Bool) (p : Pkt),
    (portSt n s = 1) ∧
    ((hpOf n s).check.any (fun c => decide (c ≠ peer % 65536)) = false) ∧
    (sw = false ∨ (hpOf n s).allowSwitch = true) ∧
    ((hpOf n s).pkts = [p.id]) ∧
    (s.accepted.find? (fun q => decide (q.id = p.id)) = some p) :=
  ⟨setF (HJF_Pp_STAT_STATE 6) 1 { took (pkt 0x701 0 [6, 1, 0, 3, 9, 0]) up with begun := [1], hport := [(6, { HPort.reset with pkts := [1], check := some 9, allowSwitch := true })] }, 6, 65536 + 9, true, pkt 0x701 0 [6, 1, 0, 3, 9, 0], by decide +kernel, by decide +kernel, by decide +kernel, by decide +kernel, by decide +kernel⟩

theorem wit_HjeloLinks_2 : ∃ (s : State) (n : Fin 16) (peer : Nat) (sw : Bool),
    (portSt n s = 1) ∧
    ((hpOf n s).check.any (fun c => decide (c ≠ peer % 65536)) = true ∨ (sw = true ∧ (hpOf n s).allowSwitch = false)) ∧
    (portWaiters n s = []) ∧
    (heldBy n s = []) :=
  ⟨setF (HJF_Pp_STAT_STATE 6) 1 { up with hport := [(6, { HPort.reset with check := some 9 })] }, 6, 8, false, by decide +kernel, by decide +kernel, by decide +kernel, by decide +kernel⟩

theorem wit_HjeloLinks_3a : ∃ (s : State) (n : Fin 16) (c : Instr),
    ((c = .portTrainingTimeout n ∧ portSt n s = 1 ∧ (hpOf n s).since + 10 ^ 8 * 1536 ≤ s.now) ∨
      (c = .portFail n ∧ portUp n s = true ∧ flagF (HJF_Pp_STAT_SPARE_IN n) s = true) ∨
      (c = .controlWordTimeout n ∧ portUp n s = true ∧ (hpOf n s).lastCtl + 10000 * 1536 ≤ s.now)) ∧
    ((heldBy n s).all (fun k => ownReq k s) = true) ∧
    (portWaiters n s = []) :=
  ⟨setF (HJF_Pp_STAT_STATE 6) 1 { up with now := 10 ^ 8 * 1536 }, 6, .portTrainingTimeout 6, by decide +kernel, by decide +kernel, by decide +kernel⟩

theorem wit_HjeloLinks_3b : ∃ (s : State) (n : Fin 16) (c : Instr),
    ((c = .portTrainingTimeout n ∧ portSt n s = 1 ∧ (hpOf n s).since + 10 ^ 8 * 1536 ≤ s.now) ∨
      (c = .portFail n ∧ portUp n s = true ∧ flagF (HJF_Pp_STAT_SPARE_IN n) s = true) ∨
      (c = .controlWordTimeout n ∧ portUp n s = true ∧ (hpOf n s).lastCtl + 10000 * 1536 ≤ s.now)) ∧
    ((heldBy n s).all (fun k => ownReq k s) = true) ∧
    (portWaiters n s = []) :=
  ⟨setF (HJF_Pp_STAT_STATE 15) 2 (setF (HJF_Pp_STAT_SPARE_IN 15) 1 { up with hport := [(15, { HPort.reset with queue := [fpT 0 9 1 0 []] })], routes := [(9, 9 + 2 ^ 16 + 15 * 2 ^ 19)] }), 15, .portFail 15, by decide +kernel, by decide +kernel, by decide +kernel⟩

theorem wit_HjeloLinks_3c : ∃ (s : State) (n : Fin 16) (c : Instr),
    ((c = .portTrainingTimeout n ∧ portSt n s = 1 ∧ (hpOf n s).since + 10 ^ 8 * 1536 ≤ s.now) ∨
      (c = .portFail n ∧ portUp n s = true ∧ flagF (HJF_Pp_STAT_SPARE_IN n) s = true) ∨
      (c = .controlWordTimeout n ∧ portUp n s = true ∧ (hpOf n s).lastCtl + 10000 * 1536 ≤ s.now)) ∧
    ((heldBy n s).all (fun k => ownReq k s) = true) ∧
    (portWaiters n s = []) :=
  ⟨setF (HJF_Pp_STAT_STATE 0) 2 { up with now := 10000 * 1536 }, 0, .controlWordTimeout 0, by decide +kernel, by decide +kernel, by decide +kernel⟩

theorem wit_HjeloLinks_4 : ∃ (s : State) (n : Fin 16) (p : Pkt),
    (portSt n s = 1) ∧
    ((hpOf n s).since + 10 ^ 8 * 1536 ≤ s.now) ∧
    (heldBy n s = []) ∧
    (portWaiters n s = [p]) :=
  ⟨setF (HJF_Pp_STAT_STATE 6) 1 { took (pkt 0x701 0 [6, 1, 0, 0]) up with begun := [1], now := 10 ^ 8 * 1536, hport := [(6, { HPort.reset with pkts := [1] })] }, 6, pkt 0x701 0 [6, 1, 0, 0], by decide +kernel, by decide +kernel, by decide +kernel, by decide +kernel⟩

theorem wit_HjeloLinks_5 : ∃ (s : State) (n : Fin 16) (lane : Nat),
    (portUp n s = true) ∧
    (flagF (HJF_Pp_STAT_SPARE_IN n) s = false) ∧
    (lane < 4) :=
  ⟨setF (HJF_Pp_STAT_STATE 6) 2 { up with inject := [⟨6, 6, 3, 0, 2⟩] }, 6, 3, by decide +kernel, by decide +kernel, by decide +kernel⟩

theorem wit_HjeloLinks_6 : ∃ (s : State) (n : Fin 16) (f : Flit),
    (portUp n s = true) ∧
    (f.crcOk = true) ∧
    (f.seq % 1024 = (hpOf n s).expect) ∧
    (f.pkts.all (fun k => k.hdrOk && knownType k) = true) ∧
    ((hpOf n s).queue = []) :=
  ⟨setF (HJF_Pp_STAT_STATE 6) 2 { up with hport := [(6, { HPort.reset with expect := 1023, stuck := 3, replay := [(7, fpT 0 9 1 0 []), (8, fpT 0 9 2 0 [])] })] }, 6, { seq := 1023, crcOk := true, errA := 1, errB := 0, ackSeq := 7, nak := false, cvl := 4, ccnt := 200, pkts := [fpT 9 0 5 0 []] }, by decide +kernel, by decide +kernel, by decide +kernel, by decide +kernel, by decide +kernel⟩

theorem wit_HjeloLinks_7 : ∃ (s : State) (n : Fin 16) (f : Flit) (k : FabPkt),
    (portUp n s = true) ∧
    (f.crcOk = true) ∧
    (f.seq % 1024 = (hpOf n s).expect) ∧
    (f.pkts = []) ∧
    ((hpOf n s).queue = [k]) ∧
    (vlane k = f.cvl % 8) ∧
    (slotsOf k ≤ laneCredit (hpOf n s) (vlane k) + f.ccnt % 256) ∧
    (unacked (takeAck f.ackSeq (hpOf n s)) + flitsOf k ≤ 512) :=
  ⟨setF (HJF_Pp_STAT_STATE 6) 2 { up with hport := [(6, { HPort.reset with queue := [fpT 0 9 1 0 []] })] }, 6, { seq := 0, crcOk := true, errA := 1, errB := 0, ackSeq := 1023, nak := false, cvl := 0, ccnt := 1, pkts := [] }, fpT 0 9 1 0 [], by decide +kernel, by decide +kernel, by decide +kernel, by decide +kernel, by decide +kernel, by decide +kernel, by decide +kernel, by decide +kernel⟩

theorem wit_HjeloLinks_8 : ∃ (s : State) (n : Fin 16) (f : Flit),
    (portUp n s = true) ∧
    (f.crcOk = false) :=
  ⟨setF (HJF_Pp_STAT_STATE 6) 2 up, 6, { seq := 0, crcOk := false, errA := 3, errB := 0, ackSeq := 0, nak := false, cvl := 0, ccnt := 1, pkts := [] }, by decide +kernel, by decide +kernel⟩

theorem wit_HjeloLinks_9 : ∃ (s : State) (n : Fin 16) (ack : Nat),
    (portUp n s = true) ∧
    ((takeAck ack (hpOf n s)).stuck < 16) :=
  ⟨setF (HJF_Pp_STAT_STATE 6) 2 { up with hport := [(6, { HPort.reset with stuck := 15, replay := [(7, fpT 0 9 1 0 []), (8, fpT 0 9 2 0 [])] })] }, 6, 6, by decide +kernel, by decide +kernel⟩

theorem wit_HjeloLinks_10 : ∃ (s : State) (n : Fin 16) (ack : Nat),
    (portUp n s = true) ∧
    (16 ≤ (takeAck ack (hpOf n s)).stuck) ∧
    ((heldBy n s).all (fun k => ownReq k s) = true) ∧
    (portWaiters n s = []) :=
  ⟨setF (HJF_Pp_STAT_STATE 6) 2 { up with hport := [(6, { HPort.reset with stuck := 16, replay := [(7, fpT 0 9 1 0 [])] })] }, 6, 6, by decide +kernel, by decide +kernel, by decide +kernel, by decide +kernel⟩

theorem wit_HjeloLinks_11 : ∃ (s : State) (n : Fin 16) (i w q : Nat) (k k1 : FabPkt),
    (headIn (isTransit n s) n s = some (i, w, k)) ∧
    (k1 = { k with ttl := k.ttl - 1, hop := k.hop + b2n (rtHopInc (routeOf k.dst s)) }) ∧
    (1 < k.ttl) ∧
    (k1.hop ≤ 3) ∧
    (rtValid (routeOf k.dst s) = true) ∧
    (pathOf k1 s = some q) ∧
    (k.src ≠ ownId s) ∧
    ((hpOf q s).queue = []) ∧
    (slotsOf k1 ≤ laneCredit (hpOf q s) (vlane k1)) ∧
    (unacked (hpOf q s) + flitsOf k1 ≤ 512) :=
  ⟨setF HJF_CFG_DEVID 3 (setF (HJF_Pp_STAT_STATE 5) 2 { up with hport := [(4, { HPort.reset with inq := [(1, { fpT 0 9 1 0 [] with ttl := 2, hop := 2 })] }), (5, { HPort.reset with credit := [(3, 1)] })], routes := [(9, 9 + 2 ^ 16 + 5 * 2 ^ 19 + 2 ^ 35)] }), 4, 0, 1, 5, { fpT 0 9 1 0 [] with ttl := 2, hop := 2 }, { fpT 0 9 1 0 [] with ttl := 1, hop := 3 }, by decide +kernel, by decide +kernel, by decide +kernel, by decide +kernel, by decide +kernel, by decide +kernel, by decide +kernel, by decide +kernel, by decide +kernel, by decide +kernel⟩

theorem wit_HjeloLinks_12 : ∃ (s : State) (n : Fin 16) (i w : Nat) (k : FabPkt),
    (headIn (isTransit n s) n s = some (i, w, k)) ∧
    (k.ttl = 1 ∨ rtValid (routeOf k.dst s) = false) ∧
    (k.src ≠ ownId s) :=
  ⟨setF HJF_CFG_DEVID 3 { up with hport := [(4, { HPort.reset with inq := [(1, { fpT 0 9 1 0 [] with ttl := 1 })] })], routes := [(9, 9 + 2 ^ 16 + 5 * 2 ^ 19)] }, 4, 0, 1, { fpT 0 9 1 0 [] with ttl := 1 }, by decide +kernel, by decide +kernel, by decide +kernel⟩

theorem wit_LedgerAndProcessors_1 : ∃ (s : State) (f : Fin 33) (e : List Byte) (r : List (List Byte)),
    (backlog f s = e :: r) ∧
    (e.length = 64) ∧
    (flagF (FLT_LGf_CFG_EN f) s = true) ∧
    (ledgerUnread f s < ledgerRing f s) ∧
    (mayMaster f s = true) ∧
    (f.val = 0 ∨ flagF (SCHED_DLOGv_CTRL_EN (f - 1)) s = false) :=
  ⟨setF (FLT_LGf_TAIL_TAIL 32) 1023 (setF (FLT_LGf_HEAD_HEAD 32) 1000 (setF (FLT_LGf_CFG_EN 32) 1 { up with fns := [(32, ⟨true, true, false, false, []⟩)], ledger := [(32, [List.replicate 64 3, zeros 64])] })), 32, List.replicate 64 3, [zeros 64], by decide +kernel, by decide +kernel, by decide +kernel, by decide +kernel, by decide +kernel, by decide +kernel⟩

theorem wit_LedgerAndProcessors_2 : ∃ (s : State) (f : Fin 33),
    (backlog f s = [] ∨ flagF (FLT_LGf_CFG_EN f) s = false ∨ ledgerRing f s ≤ ledgerUnread f s) :=
  ⟨up, 0, by decide +kernel⟩

theorem wit_LedgerAndProcessors_3 : ∃ (s : State) (f : Fin 33) (v : BitVec 32),
    (hostUp f s = true) :=
  ⟨setF (FLT_LGf_TAIL_TAIL 3) 1 (setF (FLT_LGf_HEAD_HEAD 3) 0xFFFFFFFF up), 3, 1, by decide +kernel⟩

theorem wit_LedgerAndProcessors_4 : ∃ (s : State) (p : Pkt),
    (ready p s = true) ∧
    (chkTally p (leaveTimed p s) = none) ∧
    (replyLands p.window s = true) ∧
    (pf p 8 8 + (tallyRecords p s).length ≤ getF (CMD_PWw_RR_BASE_ADDR p.window) s * 4096 ∨
      getF (CMD_PWw_RR_BASE_ADDR p.window) s * 4096 + ringSize p.window s * 32 ≤ pf p 8 8) :=
  ⟨setF (CMD_PWw_RR_BASE_ADDR 0) 9 { took (pkt 0x903 255 [0xFF, 3, 1, 0, 64, 0, 0, 0, 0, 1, 0, 0, 0, 0, 0, 0]) up with fns := [(0, ⟨true, true, false, false, []⟩)] }, pkt 0x903 255 [0xFF, 3, 1, 0, 64, 0, 0, 0, 0, 1, 0, 0, 0, 0, 0, 0], by decide +kernel, by decide +kernel, by decide +kernel, by decide +kernel⟩

theorem wit_LedgerAndProcessors_5 : ∃ (s : State) (p : Pkt),
    (ready p s = true) ∧
    (3 ≤ diKind p) ∧
    (chkInject p (leaveTimed p s) = none) :=
  ⟨took (pkt 0x904 255 ([6, 0, 15, 0, 3, 0, 0, 0] ++ zeros 8 ++ [2, 0, 0, 0])) up, pkt 0x904 255 ([6, 0, 15, 0, 3, 0, 0, 0] ++ zeros 8 ++ [2, 0, 0, 0]), by decide +kernel, by decide +kernel, by decide +kernel⟩

theorem wit_LedgerAndProcessors_6 : ∃ (s : State) (p : Pkt),
    (ready p s = true) ∧
    (diKind p = 2) ∧
    (chkInject p (leaveTimed p s) = none) :=
  ⟨{ took (pkt 0x904 255 ([2, 0, 0, 0, 0, 0, 0, 0, 0, 0, 0, 1, 0, 0, 0, 0, 3, 0, 0, 0])) up with bmap := [(8, mkEnt 1 40 256 0 512 false)] }, pkt 0x904 255 ([2, 0, 0, 0, 0, 0, 0, 0, 0, 0, 0, 1, 0, 0, 0, 0, 3, 0, 0, 0]), by decide +kernel, by decide +kernel, by decide +kernel⟩

theorem wit_LedgerAndProcessors_7 : ∃ (s : State) (k : Fin 10),
    (procUsed k s = true) ∧
    (k.val ∉ s.halted) :=
  ⟨setF FLT_HEART_ALIVE 1023 up, 9, by decide +kernel, by decide +kernel⟩

theorem wit_LedgerAndProcessors_8 : ∃ (s : State) (k : Fin 10),
    (procUsed k s = false ∨ k.val ∈ s.halted) :=
  ⟨setF FLT_HEART_ALIVE 1023 up, 8, by decide +kernel⟩

theorem wit_LedgerAndProcessors_9 : ∃ (s : State),
    (wdogNow s ≠ s.wdogIdx) ∧
    (flagF DEV_STAT_READY s = true) ∧
    (s.injecting = false) ∧
    ((∀ j ∈ processors, injected 8 j 0 s = false)) ∧
    ((∀ j ∈ processors, j ∈ s.beats)) :=
  ⟨setF FLT_HEART_ALIVE 1023 { up with beats := processors, now := 1536 * 500000, missed := [(3, 1), (9, 2)] }, by decide +kernel, by decide +kernel, by decide +kernel, by decide +kernel, by decide +kernel⟩

theorem wit_LedgerAndProcessors_10 : ∃ (s : State) (k : Nat),
    (wdogNow s ≠ s.wdogIdx) ∧
    (flagF DEV_STAT_READY s = true) ∧
    (s.injecting = false) ∧
    ((∀ j ∈ processors, injected 8 j 0 s = false)) ∧
    (k ∈ processors) ∧
    ((∀ j ∈ processors, j ≠ k → j ∈ s.beats)) ∧
    (k ∉ s.beats) ∧
    (procUsed k s = true) ∧
    (wdogSkips k s = false) ∧
    (look 0 k s.missed + 1 < getF FLT_WDOG_MISS s) :=
  ⟨setF FLT_WDOG_MISS 4 (setF FLT_HEART_ALIVE 1023 { up with beats := [0, 1, 2, 3, 4, 5, 6, 7, 8], now := 1536 * 500000, missed := [(9, 2)] }), 9, by decide +kernel, by decide +kernel, by decide +kernel, by decide +kernel, by decide +kernel, by decide +kernel, by decide +kernel, by decide +kernel, by decide +kernel, by decide +kernel⟩

theorem wit_LedgerAndProcessors_11 : ∃ (s : State) (k : Nat),
    (wdogNow s ≠ s.wdogIdx) ∧
    (flagF DEV_STAT_READY s = true) ∧
    (s.injecting = false) ∧
    ((∀ j ∈ processors, injected 8 j 0 s = false)) ∧
    (k ∈ processors) ∧
    ((∀ j ∈ processors, j ≠ k → j ∈ s.beats)) ∧
    (k ∉ s.beats) ∧
    (procUsed k s = true) ∧
    (wdogSkips k s = false) ∧
    (getF FLT_WDOG_MISS s ≤ look 0 k s.missed + 1) ∧
    (k = 9 ∨ s.cpFor = none) :=
  ⟨setF FLT_WDOG_MISS 3 (setF FLT_HEART_ALIVE 1023 { up with beats := [0, 1, 2, 3, 4, 5, 6, 7, 8], now := 1536 * 500000, missed := [(9, 2)] }), 9, by decide +kernel, by decide +kernel, by decide +kernel, by decide +kernel, by decide +kernel, by decide +kernel, by decide +kernel, by decide +kernel, by decide +kernel, by decide +kernel, by decide +kernel⟩

theorem wit_LedgerAndProcessors_13 : ∃ (s : State) (k : Fin 10),
    (k.val ∉ s.msgRetry) :=
  ⟨{ up with msgRetry := [4] }, 3, by decide +kernel⟩

theorem wit_LedgerAndProcessors_14 : ∃ (s : State) (k : Fin 10),
    (k.val ∈ s.msgRetry) ∧
    (k.val = 9 ∨ s.cpFor = none) :=
  ⟨setF FLT_HEART_ALIVE 1023 { up with msgRetry := [4] }, 4, by decide +kernel, by decide +kernel⟩

theorem wit_LedgerAndProcessors_15 : ∃ (s : State) (k : Fin 8),
    (procAlive k s = false) ∧
    (s.cpFor = none) ∧
    (procAlive 8 s = true) ∧
    (spareWaits 3 k s = false) :=
  ⟨setF FLT_HEART_ALIVE 0x3FB { up with unitCause := [(3 * 2 ^ 16 + 2, 0x161)] }, 2, by decide +kernel, by decide +kernel, by decide +kernel, by decide +kernel⟩

theorem wit_LedgerAndProcessors_16 : ∃ (s : State) (k : Fin 8) (p : Pkt),
    (procAlive k s = false) ∧
    (s.cpFor = none) ∧
    (procAlive 8 s = true) ∧
    (s.spareCmd = [(3, k.val, p.id)]) ∧
    (s.accepted.find? (fun q => decide (q.id = p.id)) = some p) :=
  ⟨setF FLT_HEART_ALIVE 0x3FB { took (pkt 0x902 255 [3, 0, 2, 0, 0, 0, 0, 0]) up with begun := [1], spareCmd := [(3, 2, 1)] }, 2, pkt 0x902 255 [3, 0, 2, 0, 0, 0, 0, 0], by decide +kernel, by decide +kernel, by decide +kernel, by decide +kernel, by decide +kernel⟩

theorem wit_LedgerAndProcessors_17 : ∃ (s : State) (k : Fin 10) (p : Pkt) (tag : Fin 4) (r part idx : Nat),
    (s.accepted.find? (fun q => decide (q.id = p.id)) = some p) ∧
    (commitOk p r part s = true) :=
  ⟨took (pkt 0x501 2 []) up, 4, pkt 0x501 2 [], 0, 3, 2, 7, by decide +kernel, by decide +kernel⟩

theorem wit_LedgerAndProcessors_18 : ∃ (s : State) (k : Fin 10) (tag : Fin 4) (r part idx : Nat),
    (monitorInternal r tag = true) :=
  ⟨up, 4, 2, 7, 2, 9, by decide +kernel⟩

theorem wit_LedgerAndProcessors_19 : ∃ (s : State) (k : Fin 10) (p : Pkt) (tag : Fin 4) (r part idx : Nat) (ok : Bool),
    (s.accepted.find? (fun q => decide (q.id = p.id)) = some p) ∧
    (ok = false ∨ commitOk p r part s = false) ∧
    (k.val = 9 ∨ s.cpFor = none) :=
  ⟨took (pkt 0x501 2 []) up, 4, pkt 0x501 2 [], 0, 3, 1, 7, true, by decide +kernel, by decide +kernel, by decide +kernel⟩

theorem wit_AssaysAndSpares_1 : ∃ (s : State) (p : Pkt),
    (ready p s = true) ∧
    (chkAssay p (leaveTimed p s) = none) :=
  ⟨setF DEV_IDENT_GRADE 144 (took (pkt 0x901 255 [1, 0, 143, 0]) up), pkt 0x901 255 [1, 0, 143, 0], by decide +kernel, by decide +kernel⟩

theorem wit_AssaysAndSpares_2 : ∃ (s : State) (cls : Fin 5) (u sub : Nat) (bucket : Fin 8),
    (assayIdle cls u sub s = true) ∧
    (s.assays.any (fun a => decide (a.cls = cls.val) && decide (a.unit = u) && decide (a.sub = sub)) = false) :=
  ⟨up, 4, 7, 17, 5, by decide +kernel, by decide +kernel⟩

theorem wit_AssaysAndSpares_3a : ∃ (s : State) (cls : Fin 5) (u sub : Nat) (a : Assay),
    (s.assays.find? (fun a => decide (a.cls = cls.val) && decide (a.unit = u) && decide (a.sub = sub)) = some a) ∧
    (cls.val = 1 ∨ cls.val = 2 ∨ cls.val = 4) ∧
    (a.pkt = none) ∧
    (s.injecting = false) ∧
    (injected 9 u 0 s = false) :=
  ⟨{ up with assays := [⟨4, 7, 17, 3, 5, none⟩] }, 4, 7, 17, ⟨4, 7, 17, 3, 5, none⟩, by decide +kernel, by decide +kernel, by decide +kernel, by decide +kernel, by decide +kernel⟩

theorem wit_AssaysAndSpares_3b : ∃ (s : State) (cls : Fin 5) (u sub : Nat) (a : Assay),
    (s.assays.find? (fun a => decide (a.cls = cls.val) && decide (a.unit = u) && decide (a.sub = sub)) = some a) ∧
    (cls.val = 1 ∨ cls.val = 2 ∨ cls.val = 4) ∧
    (a.pkt = none) ∧
    (s.injecting = false) ∧
    (injected 9 u 0 s = false) :=
  ⟨{ up with assays := [⟨1, 7, 0, 3, 5, none⟩] }, 1, 7, 0, ⟨1, 7, 0, 3, 5, none⟩, by decide +kernel, by decide +kernel, by decide +kernel, by decide +kernel, by decide +kernel⟩

theorem wit_AssaysAndSpares_4 : ∃ (s : State) (cls : Fin 5) (u sub : Nat) (a : Assay) (p : Pkt),
    (s.assays.find? (fun a => decide (a.cls = cls.val) && decide (a.unit = u) && decide (a.sub = sub)) = some a) ∧
    (cls.val = 1 ∨ cls.val = 2) ∧
    (a.cls = cls.val) ∧
    (a.pkt = some p.id) ∧
    (s.accepted.find? (fun q => decide (q.id = p.id)) = some p) ∧
    (s.injecting = false) ∧
    (injected 9 u 0 s = false) :=
  ⟨{ took (pkt 0x901 255 [2, 0, 7, 0]) up with begun := [1], assays := [⟨2, 7, 0, 3, 5, some 1⟩] }, 2, 7, 0, ⟨2, 7, 0, 3, 5, some 1⟩, pkt 0x901 255 [2, 0, 7, 0], by decide +kernel, by decide +kernel, by decide +kernel, by decide +kernel, by decide +kernel, by decide +kernel, by decide +kernel⟩

theorem wit_AssaysAndSpares_5 : ∃ (s : State) (u : Nat) (a : Assay),
    (s.assays.find? (fun a => decide (a.cls = 1) && decide (a.unit = u) && decide (a.sub = 0)) = some a) ∧
    (a.cls = 1 ∧ a.unit = u ∧ a.sub = 0) ∧
    (a.pkt = none) ∧
    (s.injecting = false) ∧
    (injected 9 u 0 s = false) ∧
    (getF (assayCnt 1 (mcPhys u s)) s + 1 < getF FLT_ASSAY_THR s) ∧
    (getF FLT_ASSAY_THR s ≤ 3 ∧ getF (assayCells 1 (mcPhys u s) ((a.band * 8 + a.bucket) / 32)) s / 4 ^ ((a.band * 8 + a.bucket) % 32) % 4 + 1 < getF FLT_ASSAY_THR s) :=
  ⟨setF FLT_ASSAY_THR 3 (setF (assayCnt 1 7) 1 { up with assays := [⟨1, 7, 0, 3, 5, none⟩] }), 7, ⟨1, 7, 0, 3, 5, none⟩, by decide +kernel, by decide +kernel, by decide +kernel, by decide +kernel, by decide +kernel, by decide +kernel, by decide +kernel⟩

theorem wit_AssaysAndSpares_6 : ∃ (s : State) (u : Nat) (a : Assay),
    (s.assays.find? (fun a => decide (a.cls = 1) && decide (a.unit = u) && decide (a.sub = 0)) = some a) ∧
    (a.cls = 1 ∧ a.unit = u ∧ a.sub = 0) ∧
    (a.pkt = none) ∧
    (s.injecting = false) ∧
    (injected 9 u 0 s = false) ∧
    (getF FLT_ASSAY_THR s ≤ getF (assayCnt 1 (mcPhys u s)) s + 1) ∧
    (getF (assayCnt 1 (mcPhys u s)) s + 1 < 2 ^ (assayCnt 1 (mcPhys u s)).width) ∧
    (flagF (assaySuspectF 1 (mcPhys u s)) s = false) :=
  ⟨setF FLT_ASSAY_THR 3 (setF (assayCnt 1 7) 2 { up with assays := [⟨1, 7, 0, 3, 5, none⟩] }), 7, ⟨1, 7, 0, 3, 5, none⟩, by decide +kernel, by decide +kernel, by decide +kernel, by decide +kernel, by decide +kernel, by decide +kernel, by decide +kernel, by decide +kernel⟩

theorem wit_AssaysAndSpares_7 : ∃ (s : State),
    (assayNow s ≠ s.assayIdx) :=
  ⟨setF FLT_ASSAY_PERIOD 1 { up with now := 1536 * 10 ^ 9, laneMiss := [(5, 1), (2 ^ 20 + 5, 1)] }, by decide +kernel⟩

theorem wit_AssaysAndSpares_8 : ∃ (s : State) (p : Pkt) (q : Nat),
    (ready p s = true) ∧
    (chkSpare p (leaveTimed p s) = none) ∧
    (dsCls p = 1) ∧
    (chooseSpare 20 (mcPhys (dsUnit p) s / 20) (mcSpares s) = some q) :=
  ⟨setF DEV_IDENT_GRADE 144 (took (pkt 0x902 255 [1, 0, 3, 0, 0, 0, 0, 0]) up), pkt 0x902 255 [1, 0, 3, 0, 0, 0, 0, 0], 18, by decide +kernel, by decide +kernel, by decide +kernel, by decide +kernel⟩

theorem wit_AssaysAndSpares_9 : ∃ (s : State) (p : Pkt) (c : Nat) (l : List (Nat × Nat × Nat)),
    (ready p s = true) ∧
    (chkSpare p (leaveTimed p s) = none) ∧
    ((dsCls p = 2 ∧ (sigOf (dsUnit p) s).run.any (fun r => r.fault.isNone) = true ∧ c = dsUnit p) ∨
      (dsCls p = 4 ∧ s.code.any (fun w => decide (w.cluster = dsUnit p)) = true ∧ c = dsUnit p * 32 + dsSub p) ∨ (dsCls p = 3 ∧ c = dsUnit p)) ∧
    (l = s.spareCmd) :=
  ⟨took (pkt 0x902 255 [3, 0, 7, 0, 0, 0, 0, 0]) up, pkt 0x902 255 [3, 0, 7, 0, 0, 0, 0, 0], 7, [], by decide +kernel, by decide +kernel, by decide +kernel, by decide +kernel⟩

theorem wit_AssaysAndSpares_10 : ∃ (s : State) (p : Pkt),
    (ready p s = true) ∧
    (chkSpare p (leaveTimed p s) = none) ∧
    (dsCls p = 5) :=
  ⟨setF (COD_CCm_INFO_POLAR 7) 5 (setF FLT_SPARE_POLAR 8 (took (pkt 0x902 255 [5, 0, 7, 0, 4, 0, 0, 0]) up)), pkt 0x902 255 [5, 0, 7, 0, 4, 0, 0, 0], by decide +kernel, by decide +kernel, by decide +kernel⟩

theorem wit_AssaysAndSpares_11 : ∃ (s : State) (p : Pkt),
    (ready p s = true) ∧
    (chkSpare p (leaveTimed p s) = none) ∧
    (dsCls p = 10) :=
  ⟨setF FLT_SPARE_HBMCH 0xFFF (took (pkt 0x902 255 [10, 0, 11, 0, 31, 0, 0, 0]) up), pkt 0x902 255 [10, 0, 11, 0, 31, 0, 0, 0], by decide +kernel, by decide +kernel, by decide +kernel⟩

theorem wit_AssaysAndSpares_12 : ∃ (s : State) (p : Pkt),
    (ready p s = true) ∧
    (dsCls p = 1 ∨ dsCls p = 2 ∨ dsCls p = 3 ∨ dsCls p = 4 ∨ dsCls p = 5 ∨ dsCls p = 6 ∨ dsCls p = 10) ∧
    (dsUnitOk p (leaveTimed p s) = true ∧ dsSubOk p = true) ∧
    (dsNoSpare p (leaveTimed p s) = true) :=
  ⟨took (pkt 0x902 255 [10, 0, 11, 0, 31, 0, 0, 0]) { up with stacksOut := [11] }, pkt 0x902 255 [10, 0, 11, 0, 31, 0, 0, 0], by decide +kernel, by decide +kernel, by decide +kernel, by decide +kernel⟩

theorem wit_AssaysAndSpares_13 : ∃ (s : State) (k : Fin 12) (c : Fin 32) (lanes : Bool),
    (chanBad k c lanes s = true) ∧
    (stackSpare k s = true) :=
  ⟨setF FLT_SPARE_HBMCH 0x800 up, 11, 31, true, by decide +kernel, by decide +kernel⟩

theorem wit_AssaysAndSpares_14 : ∃ (s : State) (k : Fin 12) (c : Fin 32) (x : ChanCopy),
    (s.chanCopy.find? (fun x => decide (x.stack = k.val) && decide (x.chan = c.val)) = some x) ∧
    (x.pkt = none) :=
  ⟨{ up with chanCopy := [⟨11, 31, 5, 0x41, none⟩] }, 11, 31, ⟨11, 31, 5, 0x41, none⟩, by decide +kernel, by decide +kernel⟩

theorem wit_AssaysAndSpares_15 : ∃ (s : State) (k : Fin 12) (c : Fin 32) (x : ChanCopy) (p : Pkt),
    (s.chanCopy.find? (fun x => decide (x.stack = k.val) && decide (x.chan = c.val)) = some x) ∧
    (x.pkt = some p.id) ∧
    (s.accepted.find? (fun q => decide (q.id = p.id)) = some p) :=
  ⟨{ took (pkt 0x902 255 [10, 0, 11, 0, 31, 0, 0, 0]) up with begun := [1], chanCopy := [⟨11, 31, 5, 0x40, some 1⟩] }, 11, 31, ⟨11, 31, 5, 0x40, some 1⟩, pkt 0x902 255 [10, 0, 11, 0, 31, 0, 0, 0], by decide +kernel, by decide +kernel, by decide +kernel⟩

theorem wit_AssaysAndSpares_16 : ∃ (s : State) (k : Fin 12) (c : Fin 32) (lanes : Bool),
    (chanBad k c lanes s = true) ∧
    (stackSpare k s = false) ∧
    (k.val ∉ s.stacksOut) ∧
    ((∀ x ∈ s.cells, x.2.stackA ≠ k.val ∧ x.2.stackB ≠ k.val)) ∧
    ((∀ x ∈ s.chanCopy, x.stack ≠ k.val)) :=
  ⟨setF FLT_SPARE_HBMCH 0x7FF up, 11, 31, true, by decide +kernel, by decide +kernel, by decide +kernel, by decide +kernel, by decide +kernel⟩

theorem wit_AssaysAndSpares_17 : ∃ (s : State) (k : Fin 12) (c : Fin 32) (lanes : Bool) (n : Nat) (x : Cell),
    (chanBad k c lanes s = true) ∧
    (stackSpare k s = false) ∧
    (k.val ∉ s.stacksOut) ∧
    (s.cells = [(n, x)]) ∧
    (x.stackA = k.val ∧ x.okA = true ∧ x.okB = true) ∧
    ((∀ y ∈ s.chanCopy, y.stack ≠ k.val)) :=
  ⟨{ setF FLT_SPARE_HBMCH 0 up with cells := [(4, { cellOf 1 [] with stackA := 11, stackB := 2 })] }, 11, 31, true, 4, { cellOf 1 [] with stackA := 11, stackB := 2 }, by decide +kernel, by decide +kernel, by decide +kernel, by decide +kernel, by decide +kernel, by decide +kernel⟩

theorem wit_PortModeWrites_1 : ∃ (s : State) (p : Fin 4) (w : BitVec 32),
    (hostUp 0 s = true) ∧
    (s.cells.any (fun c => decide (cfgLport c.2.cfg / 8 = p.val)) = false) :=
  ⟨setF (FH_Ff_MAP_VALID 3 5) 1 (setF (FH_Qq_CFG_PRIO 3 127) 7 (setF (FH_PORT_STAT_LINK 3) 9 { up with cells := [(1, cellOf 1 [])] })), 3, 0xFFFFFFFE, by decide +kernel, by decide +kernel⟩

theorem wit_PortModeWrites_2 : ∃ (s : State) (p : Fin 4) (w : BitVec 32),
    (hostUp 0 s = true) ∧
    (s.cells.any (fun c => decide (cfgLport c.2.cfg / 8 = p.val)) = true) :=
  ⟨{ up with cells := [(1, cellOf 1 [])] }, 0, 1, by decide +kernel, by decide +kernel⟩

theorem wit_FronthaulPorts_1 : ∃ (s : State) (p : Fin 4) (k : Fin 16) (i : Fin 8) (w : BitVec 32),
    (hostUp 0 s = true) ∧
    (profileUsed p k s = false) ∧
    (i.val ≠ 0 ∧ i.val ≠ 7) ∧
    ((i.val % 2 = 1 → getF (t1aFld p k (i.val + 1)) s + 8192 ≤ w.toNat % 2 ^ 24) ∧ (i.val % 2 = 0 → w.toNat % 2 ^ 24 + 8192 ≤ getF (t1aFld p k (i.val - 1)) s)) :=
  ⟨setF (t1aFld 3 15 6) 100 up, 3, 15, 5, 0xFF002064, by decide +kernel, by decide +kernel, by decide +kernel, by decide +kernel⟩

theorem wit_FronthaulPorts_2 : ∃ (s : State) (p : Fin 4) (k : Fin 16) (i : Fin 8) (w : BitVec 32),
    (hostUp 0 s = true) ∧
    (profileUsed p k s = false) ∧
    (i.val = 0 ∨ (i.val = 7 ∧ w.toNat % 65536 < w.toNat / 65536)) :=
  ⟨up, 3, 15, 7, 0x00060005, by decide +kernel, by decide +kernel, by decide +kernel⟩

theorem wit_FronthaulPorts_3 : ∃ (s : State) (p : Fin 4) (k : Fin 16) (i : Fin 8) (w : BitVec 32),
    (hostUp 0 s = true) ∧
    (profileUsed p k s = true ∨ (i.val = 7 ∧ w.toNat / 65536 ≤ w.toNat % 65536)) :=
  ⟨up, 3, 15, 7, 0x00050005, by decide +kernel, by decide +kernel⟩

theorem wit_FronthaulPorts_4 : ∃ (s : State) (p : Fin 4) (q : Fin 128) (v : BitVec 64),
    (hostUp 0 s = true) ∧
    (v.toNat % 2 ^ 20 = 0 ∨ queueCredit p q s ≤ v.toNat % 2 ^ 20 * 125) :=
  ⟨up, 3, 127, 0xFFFFFFFFFFFFFFFF, by decide +kernel, by decide +kernel⟩

theorem wit_FronthaulPorts_5 : ∃ (s : State) (p : Fin 4) (q : Fin 128) (v : BitVec 64),
    (hostUp 0 s = true) ∧
    (v.toNat % 2 ^ 20 ≠ 0) ∧
    (v.toNat % 2 ^ 20 * 125 < queueCredit p q s) :=
  ⟨{ up with cells := [(4, { cellOf 1 ([4, 0, 0, 0, 0, 0, 1] ++ zeros 121 ++ natLE 8 (2 ^ 29) ++ (List.range 79).flatMap (fun _ => natLE 8 (6 * 2 ^ 29))) with credit := ⟨0, 0, 0, 0, 0, 1000⟩ })] }, 0, 0, 7, by decide +kernel, by decide +kernel, by decide +kernel⟩

theorem wit_FronthaulPorts_6 : ∃ (s : State) (p : Fin 4) (f : Fin 1024) (burst : Bool) (v : BitVec 64) (cir pir cbs pbs : Nat),
    (hostUp 0 s = true) ∧
    (cir = (if burst then getF (FH_Ff_RATE_CIR p f) s else v.toNat % 2 ^ 32) ∧ pir = (if burst then getF (FH_Ff_RATE_PIR p f) s else v.toNat / 2 ^ 32)) ∧
    (cbs = (if burst then v.toNat % 2 ^ 32 else getF (FH_Ff_BURST_CBS p f) s) ∧ pbs = (if burst then v.toNat / 2 ^ 32 else getF (FH_Ff_BURST_PBS p f) s)) ∧
    (cir ≤ pir) ∧
    (pir = 0 ∨ (cbs ≠ 0 ∧ pbs ≠ 0)) :=
  ⟨setF (FH_Ff_RATE_CIR 3 1023) 5 (setF (FH_Ff_RATE_PIR 3 1023) 5 up), 3, 1023, true, 0x0000000200000001, 5, 5, 1, 2, by decide +kernel, by decide +kernel, by decide +kernel, by decide +kernel, by decide +kernel⟩

theorem wit_FronthaulPorts_7 : ∃ (s : State) (p : Fin 4) (f : Fin 1024) (v : BitVec 64),
    (hostUp 0 s = true) ∧
    (v.toNat / 2 ^ 32 < v.toNat % 2 ^ 32) :=
  ⟨up, 3, 1023, 0x0000000100000002, by decide +kernel, by decide +kernel⟩

theorem wit_FronthaulPorts_9 : ∃ (s : State) (k : Fin 32),
    (subPortExists k s = true) ∧
    (spareWaits 6 (k / 8) s = false) :=
  ⟨setF (FH_PORT_CFG_MODE 3) 3 { up with spareCmd := [(6, 2, 1)] }, 31, by decide +kernel, by decide +kernel⟩

theorem wit_FronthaulPorts_10 : ∃ (s : State) (k : Fin 32) (p : Pkt),
    (subPortExists k s = true) ∧
    (s.spareCmd = [(6, k.val / 8, p.id)]) ∧
    (s.accepted.find? (fun q => decide (q.id = p.id)) = some p) :=
  ⟨{ took (pkt 0x902 255 [6, 0, 2, 0, 1, 0, 0, 0]) up with begun := [1], spareCmd := [(6, 2, 1)] }, 16, pkt 0x902 255 [6, 0, 2, 0, 1, 0, 0, 0], by decide +kernel, by decide +kernel, by decide +kernel⟩

theorem wit_FronthaulPorts_11 : ∃ (s : State) (k : Fin 32),
    (linkUp k s = true) :=
  ⟨setF (FH_PORT_STAT_LINK 3) 0x82 up, 31, by decide +kernel⟩

theorem wit_FronthaulPorts_12 : ∃ (s : State) (p : Fin 4) (lane : Nat),
    (flagF (FH_PORT_STAT_SPARE_IN p) s = false) :=
  ⟨setF (FH_PORT_STAT_LINK 3) 1 { up with inject := [⟨7, 3, 6, 0, 1⟩] }, 3, 6, by decide +kernel⟩

theorem wit_FronthaulPorts_13 : ∃ (s : State) (p : Fin 4) (lane : Nat),
    (flagF (FH_PORT_STAT_SPARE_IN p) s = true) :=
  ⟨setF (FH_PORT_STAT_SPARE_IN 3) 1 up, 3, 6, by decide +kernel⟩

theorem wit_FronthaulMessages_1 : ∃ (s : State) (m : RxMsg) (f t0 : Nat) (x : Cell),
    (subPortExists m.lport s = true) ∧
    (m.bad = false ∧ m.msgType = 0) ∧
    (ingressFlow m.lport m.eaxc s = some f) ∧
    (lookup (getF (FH_Ff_MAP_CELL (m.lport / 8) f) s) s.cells = some x) ∧
    (getF (FH_Ff_MAP_KIND (m.lport / 8) f) s ≠ 2) ∧
    (messageSym x.cfg m s = some t0) ∧
    (classify (m.lport / 8) (getF (FH_Ff_MAP_WP (m.lport / 8) f) s) (rxStamp (cfgTd x.cfg) m.lport s) t0 s = .ontime) ∧
    (getF (FH_Ff_RATE_PIR (m.lport / 8) f) s = 0) :=
  ⟨setF (FH_WPk_TA4_TA4_MAX 0 0) 65535 (setF (FH_Ff_MAP_W 0 9) 9 (setF (FH_Ff_MAP_CELL 0 9) 4 (setF (FH_Ff_MAP_VALID 0 9) 1 { up with cells := [(4, cellOf 1 [])] }))), ⟨0, 0, 0, false, 0, 0, 0, 0, 80, [⟨2, 0xF3, [1, -2, 255, -256]⟩]⟩, 9, 0, cellOf 1 [], by decide +kernel, by decide +kernel, by decide +kernel, by decide +kernel, by decide +kernel, by decide +kernel, by decide +kernel, by decide +kernel⟩

theorem wit_FronthaulMessages_2 : ∃ (s : State) (m : RxMsg) (f t0 : Nat) (x : Cell),
    (subPortExists m.lport s = true) ∧
    (m.bad = false ∧ m.msgType = 0) ∧
    (ingressFlow m.lport m.eaxc s = some f) ∧
    (lookup (getF (FH_Ff_MAP_CELL (m.lport / 8) f) s) s.cells = some x) ∧
    (getF (FH_Ff_MAP_KIND (m.lport / 8) f) s ≠ 2) ∧
    (messageSym x.cfg m s = some t0) ∧
    (classify (m.lport / 8) (getF (FH_Ff_MAP_WP (m.lport / 8) f) s) (rxStamp (cfgTd x.cfg) m.lport s) t0 s = .late) :=
  ⟨setF (AIR_TDn_COUNT_VALUE 0) 1000 (setF (FH_Ff_MAP_CELL 0 9) 4 (setF (FH_Ff_MAP_VALID 0 9) 1 { up with cells := [(4, cellOf 1 [])] })), ⟨0, 0, 0, false, 0, 0, 0, 0, 80, []⟩, 9, 0, cellOf 1 [], by decide +kernel, by decide +kernel, by decide +kernel, by decide +kernel, by decide +kernel, by decide +kernel, by decide +kernel⟩

theorem wit_FronthaulMessages_3 : ∃ (s : State) (m : RxMsg),
    (subPortExists m.lport s = true) ∧
    (m.bad = true ∨ m.msgType ≠ 0 ∨ ingressFlow m.lport m.eaxc s = none) :=
  ⟨up, ⟨24, 0, 2, false, 0, 0, 0, 0, 80, []⟩, by decide +kernel, by decide +kernel⟩

theorem wit_FronthaulMessages_4 : ∃ (s : State) (m m' : TxMsg) (x : Cell),
    (lookup m.cell s.cells = some x) ∧
    (flagF (FH_Ff_MAP_VALID (m.lport / 8) m.flow) s = true ∧ getF (FH_Ff_MAP_DIR (m.lport / 8) m.flow) s = 1) ∧
    (getF (FH_Ff_MAP_CELL (m.lport / 8) m.flow) s = m.cell ∧ m.lport = cfgLport x.cfg) ∧
    (getF (FH_Ff_MAP_KIND (m.lport / 8) m.flow) s ≠ 2) ∧
    (m' = { m with
      td := cfgTd x.cfg, release := (txWindow x.cfg (getF (FH_Ff_MAP_WP (m.lport / 8) m.flow) s) m s).1,
      deadline := (txWindow x.cfg (getF (FH_Ff_MAP_WP (m.lport / 8) m.flow) s) m s).2,
      prbs := m.prbs.map (fun r => if getF (FH_Ff_MAP_W (m.lport / 8) m.flow) s = 16 then r else
        { r with comp := BitVec.ofNat 8 (bfpCompress (getF (FH_Ff_MAP_W (m.lport / 8) m.flow) s) r.mant).1, mant := (bfpCompress (getF (FH_Ff_MAP_W (m.lport / 8) m.flow) s) r.mant).2 }) }) ∧
    (counter (cfgTd x.cfg) s ≤ m'.release) :=
  ⟨setF (FH_WPk_T1A_MAX_UP_T1A_x 0 0) 1000 (setF (FH_Ff_MAP_W 0 9) 9 (setF (FH_Ff_MAP_DIR 0 9) 1 (setF (FH_Ff_MAP_CELL 0 9) 4 (setF (FH_Ff_MAP_VALID 0 9) 1 { up with cells := [(4, cellOf 1 [])] })))), ⟨0, 9, 4, 0, 0, 3001, false, false, 0, 0, 100, none, [⟨2, 0, [1000, -3]⟩], 0, 0, []⟩, ⟨0, 9, 4, 0, 0, 3001, false, false, 2001, 3001, 100, none, [⟨2, 2, [250, -1]⟩], 0, 0, []⟩, cellOf 1 [], by decide +kernel, by decide +kernel, by decide +kernel, by decide +kernel, by decide +kernel, by decide +kernel⟩

theorem wit_FronthaulMessages_5 : ∃ (s : State) (m : TxMsg) (x : Cell),
    (lookup m.cell s.cells = some x) ∧
    (flagF (FH_Ff_MAP_VALID (m.lport / 8) m.flow) s = true ∧ getF (FH_Ff_MAP_DIR (m.lport / 8) m.flow) s = 1) ∧
    (getF (FH_Ff_MAP_CELL (m.lport / 8) m.flow) s = m.cell ∧ m.lport = cfgLport x.cfg) ∧
    (getF (FH_Ff_MAP_KIND (m.lport / 8) m.flow) s ≠ 2) ∧
    (m.cplane = true) ∧
    ((txWindow x.cfg (getF (FH_Ff_MAP_WP (m.lport / 8) m.flow) s) m s).1 < counter (cfgTd x.cfg) s) ∧
    ((txWindow x.cfg (getF (FH_Ff_MAP_WP (m.lport / 8) m.flow) s) m s).2 < counter (cfgTd x.cfg) s) :=
  ⟨setF (AIR_TDn_COUNT_VALUE 0) 4000 (setF (FH_Ff_MAP_DIR 0 9) 1 (setF (FH_Ff_MAP_CELL 0 9) 4 (setF (FH_Ff_MAP_VALID 0 9) 1 { up with cells := [(4, cellOf 1 [])] }))), ⟨0, 9, 4, 0, 0, 3001, true, false, 0, 0, 100, none, [], 0, 0, []⟩, cellOf 1 [], by decide +kernel, by decide +kernel, by decide +kernel, by decide +kernel, by decide +kernel, by decide +kernel, by decide +kernel⟩

theorem wit_FronthaulMessages_6 : ∃ (s : State) (p : Fin 4),
    ((∀ m ∈ s.fhFar, m.lport / 8 = p.val → m.release ≤ counter m.td s + 8388608 → counter m.td s ≤ m.release)) :=
  ⟨{ up with fhFar := [⟨24, 9, 4, 0, 0, 3001, true, false, 8388608, 9000000, 100, none, [], 0, 0, []⟩, ⟨24, 9, 4, 0, 0, 3001, true, false, 8388609, 9000000, 100, none, [], 0, 0, []⟩] }, 3, by decide +kernel⟩

theorem wit_FronthaulMessages_7 : ∃ (s : State) (p : Fin 4) (n : Fin 6) (b : Nat) (m : TxMsg),
    (s.fhWheel.filter (fun x => decide (x.2.lport / 8 = p.val) && decide (x.2.td = n.val) && decide (x.1 ≤ counter n s)) = [(b, m)]) :=
  ⟨setF (FH_Ff_MAP_QUEUE 3 9) 14 (setF (AIR_TDn_COUNT_VALUE 5) 4096 { up with fhWheel := [(4096, ⟨24, 9, 4, 5, 0, 3001, true, false, 0, 9000000, 100, none, [], 0, 0, []⟩)] }), 3, 5, 4096, ⟨24, 9, 4, 5, 0, 3001, true, false, 0, 9000000, 100, none, [], 0, 0, []⟩, by decide +kernel⟩

theorem wit_FronthaulMessages_8 : ∃ (s : State) (p : Fin 4) (n : Fin 6) (b : Nat) (m m' : TxMsg),
    (s.fhWheel.filter (fun x => decide (x.2.lport / 8 = p.val) && decide (x.2.td = n.val) && decide (x.1 ≤ counter n s)) = [(b, m), (b, m')]) ∧
    (m.release = m'.release ∧ m.cplane = false ∧ m'.cplane = true) ∧
    (m.lport = m'.lport ∧ m.flow = m'.flow) :=
  ⟨{ up with fhWheel := [(0, ⟨24, 9, 4, 5, 0, 1, false, false, 0, 9, 100, none, [], 0, 0, []⟩), (0, ⟨24, 9, 4, 5, 0, 2, true, false, 0, 9, 100, none, [], 0, 0, []⟩)] }, 3, 5, 0, ⟨24, 9, 4, 5, 0, 1, false, false, 0, 9, 100, none, [], 0, 0, []⟩, ⟨24, 9, 4, 5, 0, 2, true, false, 0, 9, 100, none, [], 0, 0, []⟩, by decide +kernel, by decide +kernel, by decide +kernel⟩

theorem wit_FronthaulMessages_9 : ∃ (s : State) (k : Fin 32) (m : TxMsg) (r : List TxMsg),
    (subPortExists k s = true ∧ linkUp k s = true) ∧
    (queueMsgs (queueKey k 15) s = m :: r) ∧
    (m.stamp = none) :=
  ⟨setF (FH_PORT_STAT_LINK 3) 1 { up with fhQueue := [(3 * 128 + 15, [⟨24, 9, 4, 5, 0, 1, false, false, 0, 9, 100, none, [], 0, 0, []⟩])] }, 24, ⟨24, 9, 4, 5, 0, 1, false, false, 0, 9, 100, none, [], 0, 0, []⟩, [], by decide +kernel, by decide +kernel, by decide +kernel⟩

theorem wit_FronthaulMessages_10 : ∃ (s : State) (k : Fin 32) (q prio : Nat) (l : List Nat) (m : TxMsg) (r : List TxMsg),
    (subPortExists k s = true ∧ linkUp k s = true) ∧
    (queueMsgs (queueKey k 15) s = []) ∧
    (prio < 8 ∧ activeOf k prio s = q :: l) ∧
    (q < 15) ∧
    ((∀ j ∈ List.range 8, prio < j → activeOf k j s = [])) ∧
    (shaperAllows (queueKey k q) s = true) ∧
    (queueMsgs (queueKey k q) s = m :: r) ∧
    (m.len ≤ look 0 (queueKey k q) s.fhDeficit + (if look 0 (k * 8 + prio) s.fhVisit ≠ q + 1 then getF (FH_Qq_CFG_QUANTUM (k / 8) (queueOf k q)) s * 64 else 0)) ∧
    (m.stamp = none) ∧
    (fitsWindow m s = true) ∧
    (r ≠ []) :=
  ⟨setF (FH_PORT_STAT_LINK 3) 1 { up with fhActive := [(24 * 8 + 7, [14, 3])], fhTokens := [(3 * 128 + 14, 1)], fhShape := [(3 * 128 + 14, (9, 152))], fhQueue := [(3 * 128 + 14, [⟨24, 9, 4, 5, 0, 1, false, false, 0, 900, 9728, none, [], 0, 0, []⟩, ⟨24, 9, 4, 5, 0, 2, false, false, 0, 9, 100, none, [], 0, 0, []⟩])] }, 24, 14, 7, [3], ⟨24, 9, 4, 5, 0, 1, false, false, 0, 900, 9728, none, [], 0, 0, []⟩, [⟨24, 9, 4, 5, 0, 2, false, false, 0, 9, 100, none, [], 0, 0, []⟩], by decide +kernel, by decide +kernel, by decide +kernel, by decide +kernel, by decide +kernel, by decide +kernel, by decide +kernel, by decide +kernel, by decide +kernel, by decide +kernel, by decide +kernel⟩

theorem wit_FronthaulMessages_11 : ∃ (s : State) (k : Fin 32) (q prio : Nat) (l : List Nat) (m : TxMsg) (r : List TxMsg),
    (subPortExists k s = true ∧ linkUp k s = true) ∧
    (queueMsgs (queueKey k 15) s = []) ∧
    (prio < 8 ∧ activeOf k prio s = q :: l) ∧
    (q < 15) ∧
    ((∀ j ∈ List.range 8, prio < j → activeOf k j s = [])) ∧
    (shaperAllows (queueKey k q) s = true) ∧
    (queueMsgs (queueKey k q) s = m :: r) ∧
    (m.len ≤ look 0 (queueKey k q) s.fhDeficit) ∧
    (m.lport = k.val) ∧
    (fitsWindow m s = false) :=
  ⟨setF (FH_PORT_STAT_LINK 3) 1 { up with fhActive := [(24 * 8 + 7, [14, 3])], fhDeficit := [(3 * 128 + 14, 9728)], fhQueue := [(3 * 128 + 14, [⟨24, 9, 4, 5, 0, 1, false, false, 0, 9, 9728, none, [], 0, 0, []⟩, ⟨24, 9, 4, 5, 0, 2, false, false, 0, 9, 100, none, [], 0, 0, []⟩])] }, 24, 14, 7, [3], ⟨24, 9, 4, 5, 0, 1, false, false, 0, 9, 9728, none, [], 0, 0, []⟩, [⟨24, 9, 4, 5, 0, 2, false, false, 0, 9, 100, none, [], 0, 0, []⟩], by decide +kernel, by decide +kernel, by decide +kernel, by decide +kernel, by decide +kernel, by decide +kernel, by decide +kernel, by decide +kernel, by decide +kernel, by decide +kernel⟩

theorem wit_FronthaulMessages_12 : ∃ (s : State) (k : Fin 32),
    ((∀ q ∈ List.range 15, ∀ m ∈ queueMsgs (queueKey k q) s, m.lport = k.val)) :=
  ⟨setF (AIR_TDn_COUNT_VALUE 5) 9 { up with fhQueue := [(3 * 128 + 14, [⟨24, 9, 4, 5, 0, 1, true, false, 0, 9, 9728, none, [], 0, 0, []⟩, ⟨24, 9, 4, 5, 0, 2, true, false, 0, 10, 100, none, [], 0, 0, []⟩])] }, 24, by decide +kernel⟩

theorem wit_FronthaulMessages_13 : ∃ (s : State) (k : Fin 32) (m : TxMsg),
    (subPortExists k s = true) :=
  ⟨up, 24, ⟨0, 9, 4, 5, 0, 1, true, false, 0, 9, 90, some (3, 7), [], 0, 0, []⟩, by decide +kernel⟩

theorem wit_DirectIq_1 : ∃ (s : State) (m : DiqMsg) (f a p : Nat) (x : Cell),
    (p = m.lport / 8 ∧ a = diqStream 4 m.eaxc) ∧
    (subPortExists m.lport s = true) ∧
    (ingressFlow m.lport m.eaxc s = some f ∧ getF (FH_Ff_MAP_KIND p f) s = 2) ∧
    (lookup (getF (FH_Ff_MAP_CELL p f) s) s.cells = some x) ∧
    (m.fcsBad = false) ∧
    (flagF (FH_DIQa_CFG_EN p a) s = true) ∧
    (getF (FH_DIQa_STAT_ALIGN p a) s = 0) ∧
    (fawMatch p a m.frameWord s = true) ∧
    (m.samples.length < frameSamples p a s) :=
  ⟨setF (FH_DIQa_CFG_EN 0 9) 1 (setF (FH_Ff_MAP_EAXC 0 7) 9 (setF (FH_Ff_MAP_KIND 0 7) 2 (setF (FH_Ff_MAP_CELL 0 7) 4 (setF (FH_Ff_MAP_VALID 0 7) 1 { up with cells := [(4, cellOf 1 [])] })))), ⟨0, 9, getF (FH_DIQa_FAW_WORD 0 9) State.reset, false, 80, [(3, -4)]⟩, 7, 9, 0, cellOf 1 [], by decide +kernel, by decide +kernel, by decide +kernel, by decide +kernel, by decide +kernel, by decide +kernel, by decide +kernel, by decide +kernel, by decide +kernel⟩

theorem wit_DirectIq_2 : ∃ (s : State) (m : DiqMsg) (f a p t0 : Nat) (x : Cell),
    (p = m.lport / 8 ∧ a = diqStream 4 m.eaxc) ∧
    (subPortExists m.lport s = true) ∧
    (ingressFlow m.lport m.eaxc s = some f ∧ getF (FH_Ff_MAP_KIND p f) s = 2) ∧
    (lookup (getF (FH_Ff_MAP_CELL p f) s) s.cells = some x) ∧
    (m.fcsBad = false) ∧
    (flagF (FH_DIQa_CFG_EN p a) s = true) ∧
    (getF (FH_DIQa_STAT_ALIGN p a) s = 2 ∧ (diqOf p a s).cnt ≠ 0) ∧
    (fawMatch p a m.frameWord s = false) ∧
    (t0 = (diqOf p a s).frame * Config.frameTc + (diqOf p a s).cnt * 64 / 2 ^ getF (FH_DIQa_CFG_FS p a) s) ∧
    (classify p (getF (FH_Ff_MAP_WP p f) s) (rxStamp (cfgTd x.cfg) m.lport s) t0 s = .ontime) ∧
    (getF (FH_Ff_RATE_PIR p f) s = 0) ∧
    ((diqOf p a s).cnt + m.samples.length < frameSamples p a s) :=
  ⟨setF (AIR_TDn_COUNT_VALUE 0) 1000 (setF (FH_WPk_TA4_TA4_MAX 0 0) 65535 (setF (FH_DIQa_CFG_FS 0 9) 0 (setF (FH_DIQa_FAW_WORD 0 9) 1 (setF (FH_DIQa_CFG_FAW_TOL 0 9) 0 (setF (FH_DIQa_STAT_GAIN 0 9) 8192 (setF (FH_DIQa_CFG_TAPS 0 9) 1 (setF (FH_DIQa_STAT_ALIGN 0 9) 2 (setF (FH_DIQa_CFG_EN 0 9) 1 (setF (FH_Ff_MAP_EAXC 0 7) 9 (setF (FH_Ff_MAP_KIND 0 7) 2 (setF (FH_Ff_MAP_CELL 0 7) 4 (setF (FH_Ff_MAP_VALID 0 7) 1 { up with cells := [(4, cellOf 1 [])], diq := [(9, { Diq.reset with cnt := 1 })], diqCoef := [((9 * 2) * 128, 16384)] })))))))))))), ⟨0, 9, 0, false, 80, [(300, -400)]⟩, 7, 9, 0, 64, cellOf 1 [], by decide +kernel, by decide +kernel, by decide +kernel, by decide +kernel, by decide +kernel, by decide +kernel, by decide +kernel, by decide +kernel, by decide +kernel, by decide +kernel, by decide +kernel, by decide +kernel⟩

theorem wit_DirectIq_3 : ∃ (s : State) (p : Fin 4) (a : Fin 32) (x : Cell) (q : Nat),
    (streamCell p a s = some x) ∧
    (flagF (FH_DIQa_CFG_EN p a) s = true ∧ getF (FH_DIQa_STAT_ALIGN p a) s = 2) ∧
    ((diqOf p a s).symCnt ≠ 0) ∧
    ((diqOf p a s).prevPow = some q) ∧
    (q ^ 20 * 10 ^ getF (FH_DIQa_AGC_DET p a) s < ((diqOf p a s).symPow / (diqOf p a s).symCnt) ^ 20) :=
  ⟨setF (FH_DIQa_AGC_DET 0 9) 3 (setF (FH_DIQa_STAT_ALIGN 0 9) 2 (setF (FH_DIQa_CFG_EN 0 9) 1 { up with cells := [(4, cellOf 1 ([4, 0, 128, 0] ++ zeros 124 ++ natLE 8 (9 + 4 * 2 ^ 29)))], diq := [(9, { Diq.reset with symPow := 900, symCnt := 3, prevPow := some 140 })] })), 0, 9, cellOf 1 ([4, 0, 128, 0] ++ zeros 124 ++ natLE 8 (9 + 4 * 2 ^ 29)), 140, by decide +kernel, by decide +kernel, by decide +kernel, by decide +kernel, by decide +kernel⟩

theorem wit_DirectIq_4 : ∃ (s : State) (p : Fin 4) (a : Fin 32) (x : Cell),
    (streamCell p a s = some x) ∧
    (flagF (FH_DIQa_CFG_EN p a) s = true ∧ getF (FH_DIQa_STAT_ALIGN p a) s = 2) ∧
    ((diqOf p a s).symCnt ≠ 0) ∧
    ((diqOf p a s).prevPow = none) :=
  ⟨setF (FH_DIQa_STAT_ALIGN 0 9) 2 (setF (FH_DIQa_CFG_EN 0 9) 1 { up with cells := [(4, cellOf 1 ([4, 0, 128, 0] ++ zeros 124 ++ natLE 8 (9 + 4 * 2 ^ 29)))], diq := [(9, { Diq.reset with symPow := 900, symCnt := 3 })] }), 0, 9, cellOf 1 ([4, 0, 128, 0] ++ zeros 124 ++ natLE 8 (9 + 4 * 2 ^ 29)), by decide +kernel, by decide +kernel, by decide +kernel, by decide +kernel⟩

theorem wit_DirectIq_5 : ∃ (s : State) (p : Fin 4) (a : Fin 32) (x : Cell),
    (streamCell p a s = some x) ∧
    (flagF (FH_DIQa_STAT_FROZEN p a) s = true) ∧
    ((diqOf p a s).holdUntil ≤ counter (cfgTd x.cfg) s) :=
  ⟨setF (FH_DIQa_STAT_FROZEN 0 9) 1 { up with cells := [(4, cellOf 1 ([4, 0, 128, 0] ++ zeros 124 ++ natLE 8 (9 + 4 * 2 ^ 29)))] }, 0, 9, cellOf 1 ([4, 0, 128, 0] ++ zeros 124 ++ natLE 8 (9 + 4 * 2 ^ 29)), by decide +kernel, by decide +kernel, by decide +kernel⟩

theorem wit_SignalBundles_1 : ∃ (s : State) (n : Fin 64) (r : Invocation) (c : SigCore) (sub : Bool) (d a b : Nat) (l : List (Int × Int)),
    (scRuns n r s) ∧
    (c = sigOf n s) ∧
    (l = lanes2 (fun x y => if sub then (x.1 - y.1, x.2 - y.2) else (x.1 + y.1, x.2 + y.2)) (xReg c a) (xReg c b)) :=
  ⟨{ up with sigCore := [(63, { SigCore.reset with x := [(1, List.replicate 32 (30000, -5)), (2, List.replicate 32 (-2769, 5))], run := some ⟨1, 4, 0, 100, 0, false, none, []⟩ })] }, 63, ⟨1, 4, 0, 100, 0, false, none, []⟩, { SigCore.reset with x := [(1, List.replicate 32 (30000, -5)), (2, List.replicate 32 (-2769, 5))], run := some ⟨1, 4, 0, 100, 0, false, none, []⟩ }, true, 2, 1, 2, List.replicate 32 (32769, -10), by unfold scRuns; decide +kernel, by decide +kernel, by decide +kernel⟩

theorem wit_SignalBundles_2 : ∃ (s : State) (n : Fin 64) (r : Invocation) (c : SigCore) (cj : Bool) (d a b p : Nat) (l : List (Int × Int)),
    (scRuns n r s) ∧
    (c = sigOf n s) ∧
    (l = (List.range 32).map (fun i =>
      let y := if cj then (((xReg c b).getD i (0, 0)).1, -((xReg c b).getD i (0, 0)).2) else (xReg c b).getD i (0, 0);
      let x := (xReg c a).getD i (0, 0);
      let z := (accReg c d).getD i (0, 0);
      if bitAt i (prReg c p) then (z.1 + (x.1 * y.1 - x.2 * y.2), z.2 + (x.1 * y.2 + x.2 * y.1)) else z)) :=
  ⟨{ up with sigCore := [(0, { SigCore.reset with acc := [(3, List.replicate 32 (1, 1))], pr := [(1, 1)], x := [(1, List.replicate 32 (2, 3)), (2, List.replicate 32 (5, 7))], run := some ⟨1, 4, 0, 100, 0, false, none, []⟩ })] }, 0, ⟨1, 4, 0, 100, 0, false, none, []⟩, { SigCore.reset with acc := [(3, List.replicate 32 (1, 1))], pr := [(1, 1)], x := [(1, List.replicate 32 (2, 3)), (2, List.replicate 32 (5, 7))], run := some ⟨1, 4, 0, 100, 0, false, none, []⟩ }, true, 3, 1, 2, 1, (32, 2) :: List.replicate 31 (1, 1), by unfold scRuns; decide +kernel, by decide +kernel, by decide +kernel⟩

theorem wit_SignalBundles_3 : ∃ (s : State) (n : Fin 64) (r : Invocation) (c : SigCore) (d a i : Nat),
    (scRuns n r s) ∧
    (c = sigOf n s) ∧
    (look 0 a c.amode = 0) ∧
    (look 0 a c.ad + 128 ≤ 524288) ∧
    (i < 32) :=
  ⟨{ up with sigCore := [(9, { SigCore.reset with ad := [(3, 524160)], md := [(3, 0xFFF80)], mem := writeBytes 524284 [1, 2, 3, 0xFF] [], run := some ⟨1, 4, 0, 100, 0, false, none, []⟩ })] }, 9, ⟨1, 4, 0, 100, 0, false, none, []⟩, { SigCore.reset with ad := [(3, 524160)], md := [(3, 0xFFF80)], mem := writeBytes 524284 [1, 2, 3, 0xFF] [], run := some ⟨1, 4, 0, 100, 0, false, none, []⟩ }, 2, 3, 31, by unfold scRuns; decide +kernel, by decide +kernel, by decide +kernel, by decide +kernel, by decide +kernel⟩

theorem wit_SignalBundles_4 : ∃ (s : State) (n : Fin 64) (r : Invocation) (c : SigCore) (x a : Nat),
    (scRuns n r s) ∧
    (c = sigOf n s) ∧
    (look 0 a c.amode = 0) ∧
    (look 0 a c.ad + 128 ≤ 524288) ∧
    ((xReg c x).length = 32) :=
  ⟨{ up with sigCore := [(9, { SigCore.reset with x := [(5, List.replicate 32 (-1, 258))], ad := [(3, 524160)], run := some ⟨1, 4, 0, 100, 0, false, none, []⟩ })] }, 9, ⟨1, 4, 0, 100, 0, false, none, []⟩, { SigCore.reset with x := [(5, List.replicate 32 (-1, 258))], ad := [(3, 524160)], run := some ⟨1, 4, 0, 100, 0, false, none, []⟩ }, 5, 3, by unfold scRuns; decide +kernel, by decide +kernel, by decide +kernel, by decide +kernel, by decide +kernel⟩

theorem wit_SignalBundles_5 : ∃ (s : State) (n : Fin 64) (r : Invocation) (c : SigCore) (d x k : Nat) (l : List (Int × Int)),
    (scRuns n r s) ∧
    (c = sigOf n s) ∧
    (l = (accReg c d).map (fun v => if k = 0 then v else ((v.1 + 2 ^ (k - 1)) / (2 ^ k : Int), (v.2 + 2 ^ (k - 1)) / (2 ^ k : Int)))) :=
  ⟨{ up with sigCore := [(0, { SigCore.reset with acc := [(3, List.replicate 32 (3, -3))], run := some ⟨1, 4, 0, 100, 0, false, none, []⟩ })] }, 0, ⟨1, 4, 0, 100, 0, false, none, []⟩, { SigCore.reset with acc := [(3, List.replicate 32 (3, -3))], run := some ⟨1, 4, 0, 100, 0, false, none, []⟩ }, 3, 1, 1, List.replicate 32 (2, -1), by unfold scRuns; decide +kernel, by decide +kernel, by decide +kernel⟩

theorem wit_SignalBundles_6 : ∃ (s : State) (n : Fin 64) (r : Invocation) (c : SigCore) (g : Nat),
    (scRuns n r s) ∧
    (c = sigOf n s) :=
  ⟨{ up with sigCore := [(0, { SigCore.reset with pc := 9, run := some ⟨1, 4, 0, 100, 0, false, none, []⟩ })] }, 0, ⟨1, 4, 0, 100, 0, false, none, []⟩, { SigCore.reset with pc := 9, run := some ⟨1, 4, 0, 100, 0, false, none, []⟩ }, 4, by unfold scRuns; decide +kernel, by decide +kernel⟩

theorem wit_SignalBundles_7 : ∃ (s : State) (n : Fin 64) (r : Invocation) (b : ScBundle) (f : Nat),
    (scRuns n r s) ∧
    (bundleDo (sigOf n s) b = .inl f) ∧
    (r.retry = false) ∧
    (look 0 (scPhys n s) s.sigFaults = 0) :=
  ⟨{ up with sigCore := [(0, { SigCore.reset with ad := [(3, 524284)], run := some ⟨1, 4, 0, 100, 0, false, none, [(5, [1])]⟩ })] }, 0, ⟨1, 4, 0, 100, 0, false, none, [(5, [1])]⟩, ⟨.ldx 1 3, .nop, .nop, .nop, .nop⟩, 2, by unfold scRuns; decide +kernel, by decide +kernel, by decide +kernel, by decide +kernel⟩

theorem wit_KernelBudgets_1 : ∃ (s : State) (n : Fin 64) (k : Nat) (c : Fin 512) (slot : Nat) (x : Cell),
    (lookup c.val s.cells = some x) ∧
    (k ∈ kernelIds) ∧
    (sigFree n s = true ∧ issues s = true) :=
  ⟨{ up with cells := [(4, cellOf 1 [])], sigCore := [(63, { SigCore.reset with ssr := 7, pc := 3 })] }, 63, 0x11, 4, 9, cellOf 1 [], by decide +kernel, by decide +kernel, by decide +kernel⟩

theorem wit_KernelBudgets_2 : ∃ (s : State) (n : Fin 64) (k : Nat) (c : Fin 512) (slot : Nat),
    (lookup c.val s.cells = none ∨ k ∉ kernelIds ∨ sigFree n s = false ∨ issues s = false) :=
  ⟨up, 63, 1, 4, 9, by decide +kernel⟩

theorem wit_KernelBudgets_3a : ∃ (s : State) (n : Fin 64) (r : Invocation),
    ((sigOf n s).run = some r) ∧
    (r.fault = none) :=
  ⟨{ up with now := 1536 * 100, sigCore := [(63, { SigCore.reset with run := some ⟨0x10, 4, 9, 100, 0, false, none, []⟩ })] }, 63, ⟨0x10, 4, 9, 100, 0, false, none, []⟩, by decide +kernel, by decide +kernel⟩

theorem wit_KernelBudgets_3b : ∃ (s : State) (n : Fin 64) (r : Invocation),
    ((sigOf n s).run = some r) ∧
    (r.fault = none) :=
  ⟨{ up with now := 1536 * 100, sigFaults := [(getF (SIG_Cn_INFO_PHYS 63) State.reset, 1)], sigCore := [(63, { SigCore.reset with run := some ⟨4, 4, 9, 100, 0, true, none, []⟩ })] }, 63, ⟨4, 4, 9, 100, 0, true, none, []⟩, by decide +kernel, by decide +kernel⟩

theorem wit_KernelBudgets_3c : ∃ (s : State) (n : Fin 64) (r : Invocation),
    ((sigOf n s).run = some r) ∧
    (r.fault = none) :=
  ⟨{ up with now := 1536 * 100 - 1, sigCore := [(63, { SigCore.reset with run := some ⟨4, 4, 9, 100, 0, true, none, []⟩ })] }, 63, ⟨4, 4, 9, 100, 0, true, none, []⟩, by decide +kernel, by decide +kernel⟩

theorem wit_KernelBudgets_4 : ∃ (s : State) (n : Fin 64) (r : Invocation),
    ((sigOf n s).run = some r) ∧
    (r.fault = none ∧ r.retry = false ∧ r.budget ≤ (s.now - r.start) / 1536) ∧
    (look 0 (scPhys n s) s.sigFaults = 0) :=
  ⟨{ up with now := 1536 * 100, sigCore := [(63, { SigCore.reset with run := some ⟨0x10, 4, 9, 100, 0, false, none, []⟩ })] }, 63, ⟨0x10, 4, 9, 100, 0, false, none, []⟩, by decide +kernel, by decide +kernel, by decide +kernel⟩

theorem wit_SignalKernels_1 : ∃ (s : State) (n : Fin 64) (r : Invocation) (k : KernelResult) (j : Job),
    ((sigOf n s).run = some r) ∧
    (r.fault = none ∧ issues s = true) ∧
    (bitAt 0 (sigOf n s).ssr = false) ∧
    (r.kernel < 0x10) ∧
    (r.kernel ≠ 5) ∧
    (s.jobs = [j] ∧ j.cell = r.cell ∧ j.slot = r.slot ∧ j.ul = true) :=
  ⟨{ up with jobs := [jobOf (pkt 0x401 0 (jobPay 9 1)) 4 true 9 [resOf false]], sigCore := [(63, { SigCore.reset with run := some ⟨4, 4, 9, 100, 0, false, none, [(5, [1, 2])]⟩ })] }, 63, ⟨4, 4, 9, 100, 0, false, none, [(5, [1, 2])]⟩, ⟨[], -7, 300, [], none⟩, jobOf (pkt 0x401 0 (jobPay 9 1)) 4 true 9 [resOf false], by decide +kernel, by decide +kernel, by decide +kernel, by decide +kernel, by decide +kernel, by decide +kernel⟩

theorem wit_SignalKernels_2 : ∃ (s : State) (n : Fin 64) (r : Invocation) (k : KernelResult) (st sy e : Nat) (l : List (Int × Int)),
    ((sigOf n s).run = some r) ∧
    (r.fault = none ∧ issues s = true) ∧
    (bitAt 0 (sigOf n s).ssr = false) ∧
    (0x10 ≤ r.kernel) ∧
    (k.fft = some (st, sy, e, l)) :=
  ⟨{ up with sigCore := [(63, { SigCore.reset with run := some ⟨0x10, 4, 9, 100, 0, false, none, []⟩ })] }, 63, ⟨0x10, 4, 9, 100, 0, false, none, []⟩, ⟨[], 0, 0, [], some (1, 2, 17, [(6, -6)])⟩, 1, 2, 17, [(6, -6)], by decide +kernel, by decide +kernel, by decide +kernel, by decide +kernel, by decide +kernel⟩

theorem wit_SignalKernels_3 : ∃ (s : State) (n : Fin 64) (r : Invocation) (k : KernelResult) (c : Instr) (f : Nat),
    (c = .kernelComplete n k ∧ issues s = true ∧ bitAt 0 (sigOf n s).ssr = true ∧ 0x10 ≤ r.kernel ∧ f = 7) ∧
    ((sigOf n s).run = some r) ∧
    (r.fault = none) ∧
    (r.retry = false) ∧
    (look 0 (scPhys n s) s.sigFaults = 0) :=
  ⟨{ up with sigCore := [(63, { SigCore.reset with ssr := 1, run := some ⟨0x10, 4, 9, 100, 0, false, none, []⟩ })] }, 63, ⟨0x10, 4, 9, 100, 0, false, none, []⟩, ⟨[], 0, 0, [], none⟩, .kernelComplete 63 ⟨[], 0, 0, [], none⟩, 7, by decide +kernel, by decide +kernel, by decide +kernel, by decide +kernel, by decide +kernel⟩

theorem wit_SignalKernels_4 : ∃ (s : State) (n : Fin 64) (r : Invocation) (j : Job),
    ((sigOf n s).run = some r) ∧
    (r.fault = none ∧ r.budget ≤ (s.now - r.start) / 1536) ∧
    (r.retry = true) ∧
    (look 0 (scPhys n s) s.sigFaults = 1) ∧
    (scSuspect (scPhys n s) s = false) ∧
    (s.jobs = [j] ∧ j.cell = r.cell ∧ j.slot = r.slot ∧ j.ul = decide (r.kernel ≠ 0x11)) :=
  ⟨{ up with now := 1536 * 100, jobs := [jobOf (pkt 0x401 0 (jobPay 9 1)) 4 true 9 [resOf false, resOf true]], sigFaults := [(getF (SIG_Cn_INFO_PHYS 63) State.reset, 1)], sigCore := [(63, { SigCore.reset with run := some ⟨4, 4, 9, 100, 0, true, none, []⟩ })] }, 63, ⟨4, 4, 9, 100, 0, true, none, []⟩, jobOf (pkt 0x401 0 (jobPay 9 1)) 4 true 9 [resOf false, resOf true], by decide +kernel, by decide +kernel, by decide +kernel, by decide +kernel, by decide +kernel, by decide +kernel⟩

theorem wit_SignalKernels_5 : ∃ (s : State) (n m : Fin 64) (r : Invocation),
    ((sigOf n s).run = some r) ∧
    (r.fault.isSome = true) ∧
    (m ≠ n) ∧
    (sigFree m s = true) :=
  ⟨{ up with now := 99, sigCore := [(0, { SigCore.reset with run := some ⟨4, 4, 9, 100, 0, false, some 2, []⟩ })] }, 0, 63, ⟨4, 4, 9, 100, 0, false, some 2, []⟩, by decide +kernel, by decide +kernel, by decide +kernel, by decide +kernel⟩

theorem wit_SignalKernels_6 : ∃ (s : State) (n : Fin 64) (a b len : Nat) (r : Invocation),
    ((sigOf n s).run = some r) ∧
    (r.fault = none) ∧
    (a + len ≤ 524288) :=
  ⟨{ up with radioMem := [(9, 7), (11, 8)], sigCore := [(0, { SigCore.reset with mem := [(524287, 3)], run := some ⟨4, 4, 9, 100, 0, false, none, []⟩ })] }, 0, 524285, 9, 3, ⟨4, 4, 9, 100, 0, false, none, []⟩, by decide +kernel, by decide +kernel, by decide +kernel⟩

theorem wit_SignalKernels_7 : ∃ (s : State) (n : Fin 64) (a b len : Nat) (r : Invocation),
    ((sigOf n s).run = some r) ∧
    (r.fault = none) ∧
    (a + len ≤ 524288) :=
  ⟨{ up with sigCore := [(0, { SigCore.reset with mem := [(524287, 3)], run := some ⟨4, 4, 9, 100, 0, false, none, []⟩ })] }, 0, 524285, 9, 3, ⟨4, 4, 9, 100, 0, false, none, []⟩, by decide +kernel, by decide +kernel, by decide +kernel⟩

theorem wit_SignalKernels_8 : ∃ (s : State) (n : Fin 64) (p : Nat),
    (sigIn n s = true) ∧
    (scSuspect (scPhys n s) s = true) ∧
    (spareWaits 2 n s = false) ∧
    ((sigOf n s).run = none) ∧
    (scPhys n s ∉ s.scRetired) ∧
    (chooseSpare 9 (scPhys n s / 9) (scSpares s) = some p) :=
  ⟨setF (FLT_SCq_ASSAY_SUSPECT (getF (SIG_Cn_INFO_PHYS 63) State.reset)) 1 up, 63, 71, by decide +kernel, by decide +kernel, by decide +kernel, by decide +kernel, by decide +kernel, by decide +kernel⟩

theorem wit_SignalKernels_9 : ∃ (s : State) (n : Fin 64),
    (sigIn n s = true) ∧
    (scSuspect (scPhys n s) s = true) ∧
    (spareWaits 2 n s = false) ∧
    ((sigOf n s).run = none) ∧
    (scPhys n s ∉ s.scRetired) ∧
    (scSpares s = []) :=
  ⟨setF (FLT_SCq_ASSAY_SUSPECT (getF (SIG_Cn_INFO_PHYS 63) State.reset)) 1 { up with scRetired := [8, 17, 26, 35, 44, 53, 62, 71] }, 63, by decide +kernel, by decide +kernel, by decide +kernel, by decide +kernel, by decide +kernel, by decide +kernel⟩

theorem wit_SignalKernels_10 : ∃ (s : State) (n : Fin 64) (p : Pkt),
    (sigIn n s = true) ∧
    (s.spareCmd = [(2, n.val, p.id)]) ∧
    (s.accepted.find? (fun q => decide (q.id = p.id)) = some p) ∧
    ((sigOf n s).run = none) ∧
    (scPhys n s ∉ s.scRetired) :=
  ⟨{ took (pkt 0x902 255 [2, 0, 63, 0]) up with begun := [1], spareCmd := [(2, 63, 1)] }, 63, pkt 0x902 255 [2, 0, 63, 0], by decide +kernel, by decide +kernel, by decide +kernel, by decide +kernel, by decide +kernel⟩

theorem wit_Transfers_1 : ∃ (s : State) (n w ua sa rows len : Nat) (x : EngSet),
    (Issues n 0 w x s) ∧
    (insOp w = 0x28) ∧
    (xferRegs x.ld w ua sa rows len) ∧
    (xferAligned ua sa len (insImm w)) ∧
    (rowsWhole ua rows len (insImm w) s) ∧
    (x.radio = none ∧ x.xfers = [] ∧ x.xacts = []) ∧
    (inArea x sa (rows * len) = true) ∧
    ((∀ i ∈ List.range rows, 0 ≤ (ua : Int) + (i : Int) * insImm w ∧ rangeOk x.part false (rowAddr ua (insImm w) i) len s = true)) :=
  ⟨coded 0xFFFFFFC0020C4028 { up with now := 5, leases := [leaseT 5 9 2], eng := [(5, { setT 9 with ld := ⟨0, [(2, 0x3FC0), (3, 0x140), (4, 3 * 2 ^ 32 + 64)], 1⟩ })], ctxs := [(9, ctxT 2 2)] }, 5, 0xFFFFFFC0020C4028, 0x3FC0, 0x140, 3, 64, { setT 9 with ld := ⟨0, [(2, 0x3FC0), (3, 0x140), (4, 3 * 2 ^ 32 + 64)], 1⟩ }, by unfold Issues; decide +kernel, by decide +kernel, by unfold xferRegs; decide +kernel, by unfold xferAligned; decide +kernel, by unfold rowsWhole; decide +kernel, by decide +kernel, by decide +kernel, by decide +kernel⟩

theorem wit_Transfers_2 : ∃ (s : State) (n w ua sa rows len : Nat) (x : EngSet),
    (Issues n 3 w x s) ∧
    (insOp w = 0x29) ∧
    (xferRegs x.sr w ua sa rows len) ∧
    (xferAligned ua sa len (insImm w)) ∧
    (rowsWhole ua rows len (insImm w) s) ∧
    (x.radio = none ∧ x.xfers = [] ∧ x.xacts = [] ∧ x.shadow = false) ∧
    (inArea x sa (rows * len) = true) ∧
    ((∀ i ∈ List.range rows, 0 ≤ (ua : Int) + (i : Int) * insImm w ∧ rangeOk x.part true (rowAddr ua (insImm w) i) len s = true)) :=
  ⟨coded 0x00000040020C4029 { up with now := 5, leases := [leaseT 5 9 2], scratch := writeBytes (5 * 2 ^ 21 + 0x140) [1, 2] [], eng := [(5, { setT 9 with sr := ⟨0, [(2, 0x3F80), (3, 0x140), (4, 2 * 2 ^ 32 + 64)], 1⟩ })], ctxs := [(9, ctxT 2 2)] }, 5, 0x00000040020C4029, 0x3F80, 0x140, 2, 64, { setT 9 with sr := ⟨0, [(2, 0x3F80), (3, 0x140), (4, 2 * 2 ^ 32 + 64)], 1⟩ }, by unfold Issues; decide +kernel, by decide +kernel, by unfold xferRegs; decide +kernel, by unfold xferAligned; decide +kernel, by unfold rowsWhole; decide +kernel, by decide +kernel, by decide +kernel, by decide +kernel⟩

theorem wit_Transfers_3a : ∃ (s : State) (n e w ua sa rows len : Nat) (x : EngSet) (st : Step) (c : Instr),
    ((c = .ldt n ∧ e = 0 ∧ insOp w = 0x28) ∨ (c = .stt n ∧ e = 3 ∧ insOp w = 0x29)) ∧
    (Issues n e w x s) ∧
    (xferRegs (engine x e) w ua sa rows len) ∧
    (x.radio = none) ∧
    (stepOf x.ctx s = some st) :=
  ⟨coded 0x00000040020C4028 { up with now := 5, leases := [leaseT 5 9 2], eng := [(5, { setT 9 with ld := ⟨0, [(2, 0x3F81), (3, 0x140), (4, 2 * 2 ^ 32 + 64)], 1⟩ })], ctxs := [(9, { ctxT 2 2 with queue := [stepT 1] })] }, 5, 0, 0x00000040020C4028, 0x3F81, 0x140, 2, 64, { setT 9 with ld := ⟨0, [(2, 0x3F81), (3, 0x140), (4, 2 * 2 ^ 32 + 64)], 1⟩ }, stepT 1, .ldt 5, by decide +kernel, by unfold Issues; decide +kernel, by unfold xferRegs; decide +kernel, by decide +kernel, by decide +kernel⟩

theorem wit_Transfers_3b : ∃ (s : State) (n e w ua sa rows len : Nat) (x : EngSet) (st : Step) (c : Instr),
    ((c = .ldt n ∧ e = 0 ∧ insOp w = 0x28) ∨ (c = .stt n ∧ e = 3 ∧ insOp w = 0x29)) ∧
    (Issues n e w x s) ∧
    (xferRegs (engine x e) w ua sa rows len) ∧
    (x.radio = none) ∧
    (stepOf x.ctx s = some st) :=
  ⟨coded 0x00000040020C4029 { up with now := 5, leases := [leaseT 5 9 2], eng := [(5, { setT 9 with sr := ⟨0, [(2, 0x200000), (3, 0x140), (4, 2 * 2 ^ 32 + 64)], 1⟩ })], ctxs := [(9, { ctxT 2 2 with queue := [stepT 1] })] }, 5, 3, 0x00000040020C4029, 0x200000, 0x140, 2, 64, { setT 9 with sr := ⟨0, [(2, 0x200000), (3, 0x140), (4, 2 * 2 ^ 32 + 64)], 1⟩ }, stepT 1, .stt 5, by decide +kernel, by unfold Issues; decide +kernel, by unfold xferRegs; decide +kernel, by decide +kernel, by decide +kernel⟩

theorem wit_Transfers_3c : ∃ (s : State) (n e w ua sa rows len : Nat) (x : EngSet) (st : Step) (c : Instr),
    ((c = .ldt n ∧ e = 0 ∧ insOp w = 0x28) ∨ (c = .stt n ∧ e = 3 ∧ insOp w = 0x29)) ∧
    (Issues n e w x s) ∧
    (xferRegs (engine x e) w ua sa rows len) ∧
    (x.radio = none) ∧
    (stepOf x.ctx s = some st) :=
  ⟨coded 0x00000040020C4028 { up with now := 5, leases := [leaseT 5 9 2], eng := [(5, { setT 9 with ld := ⟨0, [(2, 0x3F80), (3, 0x1BFFC0), (4, 2 * 2 ^ 32 + 64)], 1⟩ })], ctxs := [(9, { ctxT 2 2 with queue := [stepT 1] })] }, 5, 0, 0x00000040020C4028, 0x3F80, 0x1BFFC0, 2, 64, { setT 9 with ld := ⟨0, [(2, 0x3F80), (3, 0x1BFFC0), (4, 2 * 2 ^ 32 + 64)], 1⟩ }, stepT 1, .ldt 5, by decide +kernel, by unfold Issues; decide +kernel, by unfold xferRegs; decide +kernel, by decide +kernel, by decide +kernel⟩

theorem wit_Transfers_4a : ∃ (s : State) (n : Nat) (e : Fin 4) (w : Nat) (x : EngSet),
    (Issues n e w x s) ∧
    (insOp w = 0x2A) :=
  ⟨coded 0x1000002A { up with now := 5, leases := [leaseT 5 9 2], eng := [(5, { setT 9 with xfers := [⟨0, true, 0, 0, 1, 64, 0, 1, 0⟩] })], ctxs := [(9, ctxT 2 2)] }, 5, 0, 0x1000002A, { setT 9 with xfers := [⟨0, true, 0, 0, 1, 64, 0, 1, 0⟩] }, by unfold Issues; decide +kernel, by decide +kernel⟩

theorem wit_Transfers_4b : ∃ (s : State) (n : Nat) (e : Fin 4) (w : Nat) (x : EngSet),
    (Issues n e w x s) ∧
    (insOp w = 0x2A) :=
  ⟨coded 0x1000002A { up with now := 5, leases := [leaseT 5 9 2], eng := [(5, { setT 9 with xfers := [⟨0, true, 0, 0, 1, 64, 0, 1, 0⟩] })], ctxs := [(9, ctxT 2 2)] }, 5, 3, 0x1000002A, { setT 9 with xfers := [⟨0, true, 0, 0, 1, 64, 0, 1, 0⟩] }, by unfold Issues; decide +kernel, by decide +kernel⟩

theorem wit_Transfers_5 : ∃ (s : State) (n i line stall : Nat) (x : EngSet) (u : Xact),
    (engAt n s = some x) ∧
    (x.radio = none ∧ (∀ f ∈ x.xfers, issuing f = false)) ∧
    (x.xacts[i]? = some u) ∧
    (u.load = true) ∧
    (detPart x.part s = false) ∧
    (rangeOk x.part false u.ua u.len s = true) ∧
    (anyHeld u.ua u.len s = false ∧ anyPoison u.ua u.len s = false) :=
  ⟨{ coded 0x0123456789 { up with now := 5, ctxs := [(9, ctxT 2 2)] } with eng := [(5, { setT 9 with xfers := [⟨0, true, 0x1000, 0x40, 1, 64, 0, 1, 0⟩], xacts := [⟨0, true, 0x1000, 0x40, 64, [], 1⟩] })] }, 5, 0, 0, 3, { setT 9 with xfers := [⟨0, true, 0x1000, 0x40, 1, 64, 0, 1, 0⟩], xacts := [⟨0, true, 0x1000, 0x40, 64, [], 1⟩] }, ⟨0, true, 0x1000, 0x40, 64, [], 1⟩, by decide +kernel, by decide +kernel, by decide +kernel, by decide +kernel, by decide +kernel, by decide +kernel, by decide +kernel⟩

theorem wit_Transfers_6 : ∃ (s : State) (n i line stall : Nat) (x : EngSet) (u : Xact),
    (engAt n s = some x) ∧
    (x.radio = none ∧ (∀ f ∈ x.xfers, issuing f = false)) ∧
    (x.xacts[i]? = some u) ∧
    (u.load = false ∧ u.data.length = u.len ∧ u.len ≤ 512) ∧
    (u.ua % 64 = 0 ∧ u.len % 64 = 0 ∧ u.ua % 4096 + u.len ≤ 4096) ∧
    (detPart x.part s = false) ∧
    (rangeOk x.part true u.ua u.len s = true) ∧
    (migOf (u.ua / 2 ^ 21) s = none ∧ s.chanCopy = [] ∧ entTier (bent (u.ua / 2 ^ 21) s) = 1) ∧
    (objPoisoned u.ua s = false) ∧
    (olderStore x i u = false) :=
  ⟨{ coded 0x0123456789 { up with now := 5, ctxs := [(9, ctxT 2 2)], poison := [(memAddr 1 0 0x2000 / 64, 1), (memAddr 1 0 0x2040 / 64, 1)] } with eng := [(5, { setT 9 with xfers := [⟨0, false, 0x2000, 0x40, 1, 64, 0, 1, 0⟩], xacts := [⟨0, false, 0x2000, 0x40, 64, List.replicate 64 7, 1⟩] })] }, 5, 0, 0, 3, { setT 9 with xfers := [⟨0, false, 0x2000, 0x40, 1, 64, 0, 1, 0⟩], xacts := [⟨0, false, 0x2000, 0x40, 64, List.replicate 64 7, 1⟩] }, ⟨0, false, 0x2000, 0x40, 64, List.replicate 64 7, 1⟩, by decide +kernel, by decide +kernel, by decide +kernel, by decide +kernel, by decide +kernel, by decide +kernel, by decide +kernel, by decide +kernel, by decide +kernel, by decide +kernel⟩

theorem wit_Transfers_7 : ∃ (s : State) (n i line stall : Nat) (x : EngSet) (u : Xact) (st : Step),
    (engAt n s = some x) ∧
    (x.radio = none ∧ x.fb = true) ∧
    (x.xacts[i]? = some u) ∧
    (u.load = true) ∧
    (detPart x.part s = false) ∧
    (rangeOk x.part false u.ua u.len s = true) ∧
    (anyHeld u.ua u.len s = false ∧ anyPoison u.ua u.len s = true) ∧
    (stepOf x.ctx s = some st) :=
  ⟨{ coded 0x0123456789 { up with now := 5, leases := [leaseT 5 9 2], ctxs := [(9, { ctxT 2 2 with queue := [stepT 1] })], poison := [(memAddr 1 0 0x1000 / 64, 1)], objs := [(1, { objT 4 1 with block := 0, len := 512 })] } with eng := [(5, { setT 9 with fb := true, xfers := [⟨0, true, 0x1000, 0x40, 1, 64, 0, 1, 0⟩], xacts := [⟨0, true, 0x1000, 0x40, 64, [], 1⟩] })] }, 5, 0, 0, 3, { setT 9 with fb := true, xfers := [⟨0, true, 0x1000, 0x40, 1, 64, 0, 1, 0⟩], xacts := [⟨0, true, 0x1000, 0x40, 64, [], 1⟩] }, ⟨0, true, 0x1000, 0x40, 64, [], 1⟩, stepT 1, by decide +kernel, by decide +kernel, by decide +kernel, by decide +kernel, by decide +kernel, by decide +kernel, by decide +kernel, by decide +kernel⟩

theorem wit_WorkTiles_1 : ∃ (s : State) (n cn : Nat) (c : Ctx) (st : Step) (a : Again) (h l : List Byte),
    (freeLease n s = some (cn, c, st)) ∧
    (cascades st s = false) ∧
    (nextTile n cn c st s = some a) ∧
    (c.saved = [] ∧ a.fb = false) ∧
    (ctxOf cn s = some c) ∧
    (h = urRead st.image 64 s) ∧
    (l = tileEntry st.image st.tab a.tile s) :=
  ⟨{ stepImg up with leases := [leaseT 3 9 2], ctxs := [(9, { ctxT 2 2 with queue := [{ stepT 1 with image := 0x1000, tab := ⟨144, 1, 1, 0x200, 0x220⟩ }] })] }, 3, 9, { ctxT 2 2 with queue := [{ stepT 1 with image := 0x1000, tab := ⟨144, 1, 1, 0x200, 0x220⟩ }] }, { stepT 1 with image := 0x1000, tab := ⟨144, 1, 1, 0x200, 0x220⟩ }, ⟨0, none, false, false, false⟩, natLE 4 0x50455453 ++ natLE 4 1 ++ natLE 4 257 ++ natLE 4 1 ++ natLE 4 0x200 ++ natLE 4 0x100 ++ natLE 4 0x100 ++ natLE 4 0x1000 ++ natLE 4 16 ++ natLE 2 4 ++ natLE 2 1 ++ natLE 4 0x240 ++ zeros 20, zeros 28 ++ natLE 4 4, by decide +kernel, by decide +kernel, by decide +kernel, by decide +kernel, by decide +kernel, by decide +kernel, by decide +kernel⟩

theorem wit_WorkTiles_2 : ∃ (s : State) (n : Nat) (r : RadioTile),
    (inWindow n r s = true) ∧
    (engAt n s = none) ∧
    (issues s = true) :=
  ⟨{ up with windows := [⟨5, 4, 9, true, true, 0, 0, 100, 50, false, true⟩] }, 5, ⟨4, 9, true, true, false, 0, 4096, [0, 8, 16, 24], 7⟩, by decide +kernel, by decide +kernel, by decide +kernel⟩

theorem wit_WorkTiles_3 : ∃ (s : State) (n cn : Nat) (c : Ctx) (st : Step) (a : Again) (l : List Byte),
    (freeLease n s = some (cn, c, st)) ∧
    (st.again.find? (fun a => a.retry && againOn n c.part a s) = some a) ∧
    (c.saved = [] ∧ a.fb = false) ∧
    (ctxOf cn s = some c) ∧
    (l = tileEntry st.image st.tab a.tile s) :=
  ⟨{ stepImg up with leases := [leaseT 3 9 2], ctxs := [(9, { ctxT 2 2 with queue := [{ stepT 1 with image := 0x1000, tab := ⟨144, 1, 1, 0x200, 0x220⟩, again := [⟨0, some 2, false, false, true⟩] }] })] }, 3, 9, { ctxT 2 2 with queue := [{ stepT 1 with image := 0x1000, tab := ⟨144, 1, 1, 0x200, 0x220⟩, again := [⟨0, some 2, false, false, true⟩] }] }, { stepT 1 with image := 0x1000, tab := ⟨144, 1, 1, 0x200, 0x220⟩, again := [⟨0, some 2, false, false, true⟩] }, ⟨0, some 2, false, false, true⟩, zeros 28 ++ natLE 4 4, by decide +kernel, by decide +kernel, by decide +kernel, by decide +kernel, by decide +kernel⟩

theorem wit_WorkTiles_4 : ∃ (s : State) (n m : Nat) (r : RadioTile),
    (s.radioAgain.find? (fun x => decide (x.1 ≠ n) && inWindow n x.2 s) = some (m, r)) ∧
    (engAt n s = none) ∧
    (issues s = true) :=
  ⟨{ up with radioAgain := [(5, ⟨4, 9, true, true, false, 0, 4096, [0, 8, 16, 24], 7⟩), (6, ⟨4, 9, true, true, false, 0, 4096, [0, 8, 16, 24], 7⟩)], windows := [⟨5, 4, 9, true, true, 0, 0, 100, 50, false, true⟩] }, 5, 6, ⟨4, 9, true, true, false, 0, 4096, [0, 8, 16, 24], 7⟩, by decide +kernel, by decide +kernel, by decide +kernel⟩

theorem wit_WorkTiles_5a : ∃ (s : State) (n : Nat) (x : EngSet) (c : Ctx) (st : Step) (r : List Step),
    (engAt n s = some x) ∧
    (x.shadow = false ∧ x.radio = none ∧ x.faberr = false) ∧
    (tileDone n x s = true) ∧
    (x.tq = [] ∧ x.tqPend = []) ∧
    (ctxOf x.ctx s = some c ∧ c.queue = st :: r) :=
  ⟨{ up with eng := [(3, { setT 9 with ld := ⟨8, [], 0⟩, mx := ⟨8, [], 0⟩, vc := ⟨8, [], 0⟩, sr := ⟨8, [], 0⟩ })], leases := [leaseT 3 9 2], ctxs := [(9, { ctxT 2 2 with queue := [stepT 1] })] }, 3, { setT 9 with ld := ⟨8, [], 0⟩, mx := ⟨8, [], 0⟩, vc := ⟨8, [], 0⟩, sr := ⟨8, [], 0⟩ }, { ctxT 2 2 with queue := [stepT 1] }, stepT 1, [], by decide +kernel, by decide +kernel, by decide +kernel, by decide +kernel, by decide +kernel⟩

theorem wit_WorkTiles_5b : ∃ (s : State) (n : Nat) (x : EngSet) (c : Ctx) (st : Step) (r : List Step),
    (engAt n s = some x) ∧
    (x.shadow = false ∧ x.radio = none ∧ x.faberr = false) ∧
    (tileDone n x s = true) ∧
    (x.tq = [] ∧ x.tqPend = []) ∧
    (ctxOf x.ctx s = some c ∧ c.queue = st :: r) :=
  ⟨{ up with eng := [(3, { setT 9 with ld := ⟨8, [], 0⟩, mx := ⟨8, [], 0⟩, vc := ⟨8, [], 0⟩, sr := ⟨8, [], 0⟩ })], leases := [leaseT 3 9 2], ctxs := [(9, { ctxT 2 2 with queue := [{ stepT 1 with flags := 1 }] })] }, 3, { setT 9 with ld := ⟨8, [], 0⟩, mx := ⟨8, [], 0⟩, vc := ⟨8, [], 0⟩, sr := ⟨8, [], 0⟩ }, { ctxT 2 2 with queue := [{ stepT 1 with flags := 1 }] }, { stepT 1 with flags := 1 }, [], by decide +kernel, by decide +kernel, by decide +kernel, by decide +kernel, by decide +kernel⟩

theorem wit_WorkTiles_6 : ∃ (s : State) (n : Nat) (x : EngSet) (st : Step),
    (engAt n s = some x) ∧
    (x.shadow = false ∧ x.radio = none) ∧
    (tileDone n x s = true) ∧
    (x.tq ≠ [] ∨ x.tqPend ≠ []) ∧
    (stepOf x.ctx s = some st) :=
  ⟨{ up with eng := [(3, { setT 9 with tq := [4], ld := ⟨8, [], 0⟩, mx := ⟨8, [], 0⟩, vc := ⟨8, [], 0⟩, sr := ⟨8, [], 0⟩ })], leases := [leaseT 3 9 2], ctxs := [(9, { ctxT 2 2 with queue := [stepT 1] })] }, 3, { setT 9 with tq := [4], ld := ⟨8, [], 0⟩, mx := ⟨8, [], 0⟩, vc := ⟨8, [], 0⟩, sr := ⟨8, [], 0⟩ }, stepT 1, by decide +kernel, by decide +kernel, by decide +kernel, by decide +kernel, by decide +kernel⟩

theorem wit_WorkTiles_7 : ∃ (s : State) (n : Nat) (x : EngSet),
    (engAt n s = some x) ∧
    (tileDone n x s = false) :=
  ⟨{ up with eng := [(3, setT 9)] }, 3, setT 9, by decide +kernel, by decide +kernel⟩

theorem wit_WorkTiles_8 : ∃ (s : State) (n m : Nat) (x : EngSet) (c : Ctx) (st : Step) (r : List Step),
    (engAt n s = some x) ∧
    (x.shadow = true) ∧
    (tileDone n x s = true) ∧
    (x.tq = [] ∧ x.tqPend = []) ∧
    (ctxOf x.ctx s = some c ∧ c.queue = st :: r) ∧
    (st.shadow.find? (fun r => decide (r.1 = x.tile)) = some (x.tile, m, x.digest, x.vstat)) :=
  ⟨{ up with eng := [(3, { setT 9 with shadow := true, digest := 77, ld := ⟨8, [], 0⟩, mx := ⟨8, [], 0⟩, vc := ⟨8, [], 0⟩, sr := ⟨8, [], 0⟩ })], leases := [leaseT 3 9 2], ctxs := [(9, { ctxT 2 2 with queue := [{ stepT 1 with flags := 1, shadow := [(0, 2, 77, 0)] }] })] }, 3, 2, { setT 9 with shadow := true, digest := 77, ld := ⟨8, [], 0⟩, mx := ⟨8, [], 0⟩, vc := ⟨8, [], 0⟩, sr := ⟨8, [], 0⟩ }, { ctxT 2 2 with queue := [{ stepT 1 with flags := 1, shadow := [(0, 2, 77, 0)] }] }, { stepT 1 with flags := 1, shadow := [(0, 2, 77, 0)] }, [], by decide +kernel, by decide +kernel, by decide +kernel, by decide +kernel, by decide +kernel, by decide +kernel⟩

theorem wit_WorkTiles_9 : ∃ (s : State) (n m d v : Nat) (x : EngSet) (c : Ctx) (st : Step) (r : List Step),
    (engAt n s = some x) ∧
    (x.shadow = true) ∧
    (tileDone n x s = true) ∧
    (x.tq = [] ∧ x.tqPend = []) ∧
    (ctxOf x.ctx s = some c ∧ c.queue = st :: r) ∧
    (st.shadow.find? (fun r => decide (r.1 = x.tile)) = some (x.tile, m, d, v)) ∧
    (d ≠ x.digest ∨ v ≠ x.vstat) ∧
    (mcPhys m s ≠ mcPhys n s) :=
  ⟨{ up with eng := [(3, { setT 9 with shadow := true, digest := 77, ld := ⟨8, [], 0⟩, mx := ⟨8, [], 0⟩, vc := ⟨8, [], 0⟩, sr := ⟨8, [], 0⟩ })], leases := [leaseT 3 9 2], ctxs := [(9, { ctxT 2 2 with queue := [{ stepT 1 with flags := 1, shadow := [(0, 2, 78, 0)] }] })] }, 3, 2, 78, 0, { setT 9 with shadow := true, digest := 77, ld := ⟨8, [], 0⟩, mx := ⟨8, [], 0⟩, vc := ⟨8, [], 0⟩, sr := ⟨8, [], 0⟩ }, { ctxT 2 2 with queue := [{ stepT 1 with flags := 1, shadow := [(0, 2, 78, 0)] }] }, { stepT 1 with flags := 1, shadow := [(0, 2, 78, 0)] }, [], by decide +kernel, by decide +kernel, by decide +kernel, by decide +kernel, by decide +kernel, by decide +kernel, by decide +kernel, by decide +kernel⟩

theorem wit_Steps_1 : ∃ (s : State) (c : Nat) (x : Ctx) (st : Step) (r : List Step),
    (ctxOf c s = some x) ∧
    (x.queue = st :: r) ∧
    (st.started = false ∧ x.st = 2) ∧
    (st.args = []) :=
  ⟨setF (AIR_TDn_COUNT_VALUE 0) 50 { up with ctxs := [(9, { ctxT 2 2 with counter := 2 ^ 64 - 1, faberr := true, fbImage := 4096, queue := [{ stepT 1 with started := false, flags := 2, deadline := 49 }] })] }, 9, { ctxT 2 2 with counter := 2 ^ 64 - 1, faberr := true, fbImage := 4096, queue := [{ stepT 1 with started := false, flags := 2, deadline := 49 }] }, { stepT 1 with started := false, flags := 2, deadline := 49 }, [], by decide +kernel, by decide +kernel, by decide +kernel, by decide +kernel⟩

theorem wit_Steps_2 : ∃ (s : State) (c : Nat) (x : Ctx) (st : Step) (r : List Step),
    (ctxOf c s = some x) ∧
    (x.queue = st :: r) ∧
    (st.started = false ∧ x.st = 2) ∧
    (st.args ≠ [] ∧ rangeOk x.part true st.argsAddr st.args.length s = true) ∧
    (st.argsAddr % 64 + st.args.length ≤ 64) ∧
    (migOf (st.argsAddr / 2 ^ 21) s = none ∧ s.chanCopy = [] ∧ entTier (bent (st.argsAddr / 2 ^ 21) s) = 1) ∧
    (objPoisoned st.argsAddr s = false ∧ marked (loadAddr st.argsAddr s) s = false) :=
  ⟨stepImg { up with ctxs := [(9, { ctxT 2 2 with queue := [{ stepT 1 with started := false, argsAddr := 0x2001, args := [1, 2, 3] }] })] }, 9, { ctxT 2 2 with queue := [{ stepT 1 with started := false, argsAddr := 0x2001, args := [1, 2, 3] }] }, { stepT 1 with started := false, argsAddr := 0x2001, args := [1, 2, 3] }, [], by decide +kernel, by decide +kernel, by decide +kernel, by decide +kernel, by decide +kernel, by decide +kernel, by decide +kernel⟩

theorem wit_Steps_3 : ∃ (s : State) (c : Nat),
    (ctxOf c s = none) :=
  ⟨up, 9, by decide +kernel⟩

theorem wit_Steps_4 : ∃ (s : State) (c : Nat) (x : Ctx) (st : Step) (p : Pkt),
    (ctxOf c s = some x) ∧
    (x.queue = [st]) ∧
    (st.started = true ∧ st.again = [] ∧ st.shadow = [] ∧ x.saved = []) ∧
    ((∀ y ∈ s.eng, y.2.ctx ≠ c)) ∧
    (curStage st s = st.tab.nStages) ∧
    ((∀ e ∈ st.ended, e.status = 0)) ∧
    (bitAt 2 st.flags = false) ∧
    (st.id = p.id ∧ s.accepted.find? (fun q => decide (q.id = p.id)) = some p) ∧
    (x.suspend = [] ∧ s.quiesce = []) :=
  ⟨{ stepImg (took (pkt 0x503 0 []) up) with begun := [1], leases := [leaseT 3 9 2, leaseT 2 8 2], ctxs := [(9, { ctxT 2 2 with queue := [{ stepT 1 with image := 0x1000, tab := ⟨144, 1, 1, 0x200, 0x220⟩, ended := [⟨0, 0, 4, 0, 0, 0, 0, 0, 0, 0, 0⟩] }] })] }, 9, { ctxT 2 2 with queue := [{ stepT 1 with image := 0x1000, tab := ⟨144, 1, 1, 0x200, 0x220⟩, ended := [⟨0, 0, 4, 0, 0, 0, 0, 0, 0, 0, 0⟩] }] }, { stepT 1 with image := 0x1000, tab := ⟨144, 1, 1, 0x200, 0x220⟩, ended := [⟨0, 0, 4, 0, 0, 0, 0, 0, 0, 0, 0⟩] }, pkt 0x503 0 [], by decide +kernel, by decide +kernel, by decide +kernel, by decide +kernel, by decide +kernel, by decide +kernel, by decide +kernel, by decide +kernel, by decide +kernel⟩

theorem wit_Steps_5 : ∃ (s : State) (c : Nat) (x : Ctx) (st st' : Step) (r : List Step) (p : Pkt),
    (ctxOf c s = some x) ∧
    (x.queue = st :: st' :: r) ∧
    (st.started = true ∧ st.again = [] ∧ st.shadow = [] ∧ x.saved = []) ∧
    ((∀ y ∈ s.eng, y.2.ctx ≠ c)) ∧
    (curStage st s = st.tab.nStages) ∧
    ((∀ e ∈ st.ended, e.status = 0)) ∧
    (bitAt 2 st.flags = true) ∧
    (st.id = p.id ∧ s.accepted.find? (fun q => decide (q.id = p.id)) = some p) ∧
    (replyLands p.window s = true) ∧
    (st.result + 64 ≤ getF (CMD_PWw_RR_BASE_ADDR p.window) s * 4096 ∨ getF (CMD_PWw_RR_BASE_ADDR p.window) s * 4096 + ringSize p.window s * 32 ≤ st.result) :=
  ⟨setF (CMD_PWw_RR_BASE_ADDR 0) 9 { stepImg (took (pkt 0x503 0 []) up) with begun := [1], fns := [(0, ⟨true, true, false, false, []⟩)], leases := [leaseT 3 9 2], ctxs := [(9, { ctxT 2 2 with queue := [{ stepT 1 with result := 256, flags := 4, image := 0x1000, tab := ⟨144, 1, 1, 0x200, 0x220⟩, ended := [⟨0, 0, 4, 0, 0, 0, 0, 0, 0, 0, 0⟩] }, stepT 2] })] }, 9, { ctxT 2 2 with queue := [{ stepT 1 with result := 256, flags := 4, image := 0x1000, tab := ⟨144, 1, 1, 0x200, 0x220⟩, ended := [⟨0, 0, 4, 0, 0, 0, 0, 0, 0, 0, 0⟩] }, stepT 2] }, { stepT 1 with result := 256, flags := 4, image := 0x1000, tab := ⟨144, 1, 1, 0x200, 0x220⟩, ended := [⟨0, 0, 4, 0, 0, 0, 0, 0, 0, 0, 0⟩] }, stepT 2, [], pkt 0x503 0 [], by decide +kernel, by decide +kernel, by decide +kernel, by decide +kernel, by decide +kernel, by decide +kernel, by decide +kernel, by decide +kernel, by decide +kernel, by decide +kernel⟩

theorem wit_Steps_6 : ∃ (s : State) (c : Nat) (x : Ctx) (st st' : Step) (r : List Step) (p : Pkt) (e : TileEnd),
    (ctxOf c s = some x) ∧
    (x.queue = st :: st' :: r) ∧
    (st.started = true ∧ st.again = [] ∧ st.shadow = [] ∧ x.saved = []) ∧
    ((∀ y ∈ s.eng, y.2.ctx ≠ c)) ∧
    (curStage st s = st.tab.nStages) ∧
    (failedTiles st = [e] ∧ 0 < e.count) ∧
    (cascades st s = true) ∧
    (st.tab.nTiles = stageStart st.image st.tab (curStage st s) s) ∧
    (bitAt 2 st.flags = false) ∧
    (st.id = p.id ∧ s.accepted.find? (fun q => decide (q.id = p.id)) = some p) ∧
    (e.status < 0x0400 ∧ e.status ≠ stFENCED) :=
  ⟨{ stepImg (took (pkt 0x503 0 []) up) with begun := [1], leases := [leaseT 3 9 2], ctxs := [(9, { ctxT 2 2 with queue := [{ stepT 1 with image := 0x1000, tab := ⟨144, 1, 1, 0x200, 0x220⟩, ended := [⟨0, 0, 4, 0x301, 0x15, 0, 0xFFFFFFFF, 0, 3, 3, 0⟩] }, stepT 2] })] }, 9, { ctxT 2 2 with queue := [{ stepT 1 with image := 0x1000, tab := ⟨144, 1, 1, 0x200, 0x220⟩, ended := [⟨0, 0, 4, 0x301, 0x15, 0, 0xFFFFFFFF, 0, 3, 3, 0⟩] }, stepT 2] }, { stepT 1 with image := 0x1000, tab := ⟨144, 1, 1, 0x200, 0x220⟩, ended := [⟨0, 0, 4, 0x301, 0x15, 0, 0xFFFFFFFF, 0, 3, 3, 0⟩] }, stepT 2, [], pkt 0x503 0 [], ⟨0, 0, 4, 0x301, 0x15, 0, 0xFFFFFFFF, 0, 3, 3, 0⟩, by decide +kernel, by decide +kernel, by decide +kernel, by decide +kernel, by decide +kernel, by decide +kernel, by decide +kernel, by decide +kernel, by decide +kernel, by decide +kernel, by decide +kernel⟩

theorem wit_FabricInstructions_1a : ∃ (s : State) (n e ty op w ga gb len key id : Nat) (x : EngSet) (c : Instr),
    ((c, e, ty, op) ∈ fabOpsOf n) ∧
    (FabReady n e ty op w ga gb len key x s) ∧
    (x.shadow = false) ∧
    (fabRoom n id ty ga x s) ∧
    (fabClear n ty w x s) ∧
    (fabFresh ty ga s) ∧
    (ty = 3 ∨ ga / 2 ^ 43 % 2 ^ 16 = ownId s) ∧
    (gateClosed x.part s = false) ∧
    (8 ≤ x.part ∨ (regulOf x.part 2 s).rate = 0) :=
  ⟨fabS 0x100120C4030 (fabX (3 * 2 ^ 43 + 0x4000) 0x2000 64), 5, 0, 0, 0x30, 0x100120C4030, 3 * 2 ^ 43 + 0x4000, 0x2000, 64, 77, 1024, fabX (3 * 2 ^ 43 + 0x4000) 0x2000 64, .rget 5, by decide +kernel, by unfold FabReady fabLocal fabShape fabOperands Issues; decide +kernel, by decide +kernel, by unfold fabRoom; decide +kernel, by unfold fabClear; decide +kernel, by unfold fabFresh; decide +kernel, by decide +kernel, by decide +kernel, by decide +kernel⟩

theorem wit_FabricInstructions_1b : ∃ (s : State) (n e ty op w ga gb len key id : Nat) (x : EngSet) (c : Instr),
    ((c, e, ty, op) ∈ fabOpsOf n) ∧
    (FabReady n e ty op w ga gb len key x s) ∧
    (x.shadow = false) ∧
    (fabRoom n id ty ga x s) ∧
    (fabClear n ty w x s) ∧
    (fabFresh ty ga s) ∧
    (ty = 3 ∨ ga / 2 ^ 43 % 2 ^ 16 = ownId s) ∧
    (gateClosed x.part s = false) ∧
    (8 ≤ x.part ∨ (regulOf x.part 2 s).rate = 0) :=
  ⟨fabS 0x300720C4031 (fabX (3 * 2 ^ 43 + 0x4F80) (2 ^ 63 + 0x1BFF80) 128), 5, 3, 1, 0x31, 0x300720C4031, 3 * 2 ^ 43 + 0x4F80, 2 ^ 63 + 0x1BFF80, 128, 77, 1024, fabX (3 * 2 ^ 43 + 0x4F80) (2 ^ 63 + 0x1BFF80) 128, .rput 5, by decide +kernel, by unfold FabReady fabLocal fabShape fabOperands Issues; decide +kernel, by decide +kernel, by unfold fabRoom; decide +kernel, by unfold fabClear; decide +kernel, by unfold fabFresh; decide +kernel, by decide +kernel, by decide +kernel, by decide +kernel⟩

theorem wit_FabricInstructions_1c : ∃ (s : State) (n e ty op w ga gb len key id : Nat) (x : EngSet) (c : Instr),
    ((c, e, ty, op) ∈ fabOpsOf n) ∧
    (FabReady n e ty op w ga gb len key x s) ∧
    (x.shadow = false) ∧
    (fabRoom n id ty ga x s) ∧
    (fabClear n ty w x s) ∧
    (fabFresh ty ga s) ∧
    (ty = 3 ∨ ga / 2 ^ 43 % 2 ^ 16 = ownId s) ∧
    (gateClosed x.part s = false) ∧
    (8 ≤ x.part ∨ (regulOf x.part 2 s).rate = 0) :=
  ⟨{ fabS 0x31220C4032 (fabX (3 * 2 ^ 43 + 0x4000) 0x2000 64) with txids := [(3, 2 ^ 32 - 1)], epochs := [(3, 255)] }, 5, 3, 2, 0x32, 0x31220C4032, 3 * 2 ^ 43 + 0x4000, 0x2000, 64, 77, 1024, fabX (3 * 2 ^ 43 + 0x4000) 0x2000 64, .rred 5, by decide +kernel, by unfold FabReady fabLocal fabShape fabOperands Issues; decide +kernel, by decide +kernel, by unfold fabRoom; decide +kernel, by unfold fabClear; decide +kernel, by unfold fabFresh; decide +kernel, by decide +kernel, by decide +kernel, by decide +kernel⟩

theorem wit_FabricInstructions_1d : ∃ (s : State) (n e ty op w ga gb len key id : Nat) (x : EngSet) (c : Instr),
    ((c, e, ty, op) ∈ fabOpsOf n) ∧
    (FabReady n e ty op w ga gb len key x s) ∧
    (x.shadow = false) ∧
    (fabRoom n id ty ga x s) ∧
    (fabClear n ty w x s) ∧
    (fabFresh ty ga s) ∧
    (ty = 3 ∨ ga / 2 ^ 43 % 2 ^ 16 = ownId s) ∧
    (gateClosed x.part s = false) ∧
    (8 ≤ x.part ∨ (regulOf x.part 2 s).rate = 0) :=
  ⟨{ fabS 0x120C4033 (fabX (0x4000 * 2 ^ 12 + 0xFFF) 0x2000 64) with groups := [(0xFFF, 0xFFF + 2 ^ 12 + 4096 * 2 ^ 32)] }, 5, 3, 3, 0x33, 0x120C4033, 0x4000 * 2 ^ 12 + 0xFFF, 0x2000, 64, 77, 1024, fabX (0x4000 * 2 ^ 12 + 0xFFF) 0x2000 64, .rmcast 5, by decide +kernel, by unfold FabReady fabLocal fabShape fabOperands Issues; decide +kernel, by decide +kernel, by unfold fabRoom; decide +kernel, by unfold fabClear; decide +kernel, by unfold fabFresh; decide +kernel, by decide +kernel, by decide +kernel, by decide +kernel⟩

theorem wit_FabricInstructions_2 : ∃ (s : State) (n e ty op w ga gb len key id q : Nat) (x : EngSet) (c : Instr) (k : FabPkt),
    ((c, e, ty, op) ∈ fabOpsOf n) ∧
    (ty < 3) ∧
    (FabReady n e ty op w ga gb len key x s) ∧
    (x.shadow = false) ∧
    (fabRoom n id ty ga x s) ∧
    (fabClear n ty w x s) ∧
    (fabFresh ty ga s) ∧
    (ga / 2 ^ 43 % 2 ^ 16 ≠ ownId s ∧ rtValid (routeOf (ga / 2 ^ 43 % 2 ^ 16) s) = true) ∧
    (gateClosed x.part s = false) ∧
    (8 ≤ x.part ∨ (regulOf x.part 2 s).rate = 0) ∧
    (k = { fabReq n ty w ga gb len key s with epoch := look 0 (fabDest ty ga) s.epochs }) ∧
    (pathOf k s = some q) ∧
    ((hpOf q s).queue = []) ∧
    (slotsOf k ≤ laneCredit (hpOf q s) (vlane k)) ∧
    (unacked (hpOf q s) + flitsOf k ≤ 512) :=
  ⟨setF (HJF_Pp_STAT_STATE 5) 2 { fabS 0x100120C4031 (fabX (9 * 2 ^ 43 + 0x4000) 0x2000 64) with routes := [(9, 9 + 2 ^ 16 + 5 * 2 ^ 19)], hport := [(5, { HPort.reset with credit := [(0, 3)] })] }, 5, 3, 1, 0x31, 0x100120C4031, 9 * 2 ^ 43 + 0x4000, 0x2000, 64, 77, 1024, 5, fabX (9 * 2 ^ 43 + 0x4000) 0x2000 64, .rput 5, { fpT 1 9 0 0x4000 (urRead 0x2000 64 (fabS 0x100120C4031 (fabX (9 * 2 ^ 43 + 0x4000) 0x2000 64))) with oc := 1, ttl := 63, src := 3, key := 77 }, by decide +kernel, by decide +kernel, by unfold FabReady fabLocal fabShape fabOperands Issues; decide +kernel, by decide +kernel, by unfold fabRoom; decide +kernel, by unfold fabClear; decide +kernel, by unfold fabFresh; decide +kernel, by decide +kernel, by decide +kernel, by decide +kernel, by decide +kernel, by decide +kernel, by decide +kernel, by decide +kernel, by decide +kernel⟩

theorem wit_FabricInstructions_3 : ∃ (s : State) (n e ty op w ga gb len key id : Nat) (x : EngSet) (c : Instr) (f : Ftt),
    ((c, e, ty, op) ∈ fabOpsOf n) ∧
    (FabReady n e ty op w ga gb len key x s) ∧
    (x.shadow = false) ∧
    (fabRoom n id ty ga x s) ∧
    ((∀ g ∈ s.ftt, unsent g = false)) ∧
    (f ∈ s.ftt ∧ f.fence ≠ none ∧ f.core = n ∧ f.ctx = x.ctx ∧ f.tile = x.tile ∧ f.load = decide (ty = 0) ∧ f.group = insMode w % 8) ∧
    (gateClosed x.part s = false) ∧
    (ty = 3 ∨ ga / 2 ^ 43 % 2 ^ 16 = ownId s ∨ rtValid (routeOf (ga / 2 ^ 43 % 2 ^ 16) s) = true) :=
  ⟨{ fabS 0x100120C4031 (fabX (3 * 2 ^ 43 + 0x4000) 0x2000 64) with ftt := [opT 1024 (fpT 0 0 0 0 []) 0 (some [7]) none] }, 5, 3, 1, 0x31, 0x100120C4031, 3 * 2 ^ 43 + 0x4000, 0x2000, 64, 77, 1025, fabX (3 * 2 ^ 43 + 0x4000) 0x2000 64, .rput 5, opT 1024 (fpT 0 0 0 0 []) 0 (some [7]) none, by decide +kernel, by unfold FabReady fabLocal fabShape fabOperands Issues; decide +kernel, by decide +kernel, by unfold fabRoom; decide +kernel, by decide +kernel, by decide +kernel, by decide +kernel, by decide +kernel⟩

theorem wit_FabricInstructions_4a : ∃ (s : State) (n e ty op w ga gb len key id cause st : Nat) (x : EngSet) (c : Instr),
    ((c, e, ty, op) ∈ fabOpsOf n) ∧
    (FabReady n e ty op w ga gb len key x s) ∧
    (x.shadow = false) ∧
    (fabRoom n id ty ga x s) ∧
    ((∀ g ∈ s.ftt, unsent g = false)) ∧
    ((gateClosed x.part s = true ∧ cause = 4 ∧ st = stFENCED) ∨
      (gateClosed x.part s = false ∧ ty ≠ 3 ∧ ga / 2 ^ 43 % 2 ^ 16 ≠ ownId s ∧ rtValid (routeOf (ga / 2 ^ 43 % 2 ^ 16) s) = false ∧ cause = 5 ∧ st = stITEM_FAILED)) ∧
    (x.faberr = false) ∧
    (n < 144) :=
  ⟨fabS 0x100120C4031 (fabX (9 * 2 ^ 43 + 0x4000) 0x2000 64), 5, 3, 1, 0x31, 0x100120C4031, 9 * 2 ^ 43 + 0x4000, 0x2000, 64, 77, 1024, 5, stITEM_FAILED, fabX (9 * 2 ^ 43 + 0x4000) 0x2000 64, .rput 5, by decide +kernel, by unfold FabReady fabLocal fabShape fabOperands Issues; decide +kernel, by decide +kernel, by unfold fabRoom; decide +kernel, by decide +kernel, by decide +kernel, by decide +kernel, by decide +kernel⟩

theorem wit_FabricInstructions_4b : ∃ (s : State) (n e ty op w ga gb len key id cause st : Nat) (x : EngSet) (c : Instr),
    ((c, e, ty, op) ∈ fabOpsOf n) ∧
    (FabReady n e ty op w ga gb len key x s) ∧
    (x.shadow = false) ∧
    (fabRoom n id ty ga x s) ∧
    ((∀ g ∈ s.ftt, unsent g = false)) ∧
    ((gateClosed x.part s = true ∧ cause = 4 ∧ st = stFENCED) ∨
      (gateClosed x.part s = false ∧ ty ≠ 3 ∧ ga / 2 ^ 43 % 2 ^ 16 ≠ ownId s ∧ rtValid (routeOf (ga / 2 ^ 43 % 2 ^ 16) s) = false ∧ cause = 5 ∧ st = stITEM_FAILED)) ∧
    (x.faberr = false) ∧
    (n < 144) :=
  ⟨setF HJF_GATE_FENCED 1 (fabS 0x120C4033 (fabX (0x4000 * 2 ^ 12 + 0xFFF) 0x2000 64)), 5, 3, 3, 0x33, 0x120C4033, 0x4000 * 2 ^ 12 + 0xFFF, 0x2000, 64, 77, 1024, 4, stFENCED, fabX (0x4000 * 2 ^ 12 + 0xFFF) 0x2000 64, .rmcast 5, by decide +kernel, by unfold FabReady fabLocal fabShape fabOperands Issues; decide +kernel, by decide +kernel, by unfold fabRoom; decide +kernel, by decide +kernel, by decide +kernel, by decide +kernel, by decide +kernel⟩

theorem wit_FabricInstructions_5a : ∃ (s : State) (n e ty op w ga gb len key : Nat) (x : EngSet) (c : Instr),
    ((c, e, ty, op) ∈ fabOpsOf n) ∧
    (FabReady n e ty op w ga gb len key x s) :=
  ⟨fabS 0x100120C4031 { fabX (9 * 2 ^ 43 + 0x4000) 0x2000 64 with shadow := true }, 5, 3, 1, 0x31, 0x100120C4031, 9 * 2 ^ 43 + 0x4000, 0x2000, 64, 77, { fabX (9 * 2 ^ 43 + 0x4000) 0x2000 64 with shadow := true }, .rput 5, by decide +kernel, by unfold FabReady fabLocal fabShape fabOperands Issues; decide +kernel⟩

theorem wit_FabricInstructions_5b : ∃ (s : State) (n e ty op w ga gb len key : Nat) (x : EngSet) (c : Instr),
    ((c, e, ty, op) ∈ fabOpsOf n) ∧
    (FabReady n e ty op w ga gb len key x s) :=
  ⟨{ fabS 0x100120C4031 { fabX (9 * 2 ^ 43 + 0x4000) 0x2000 64 with fabMax := 1 } with ftt := [opT 1024 (fpT 1 3 0 0 []) 3 none (some 4)] }, 5, 3, 1, 0x31, 0x100120C4031, 9 * 2 ^ 43 + 0x4000, 0x2000, 64, 77, { fabX (9 * 2 ^ 43 + 0x4000) 0x2000 64 with fabMax := 1 }, .rput 5, by decide +kernel, by unfold FabReady fabLocal fabShape fabOperands Issues; decide +kernel⟩

theorem wit_FabricInstructions_6a : ∃ (s : State) (n e ty op w ga gb len : Nat) (x : EngSet) (c : Instr) (st : Step),
    ((c, e, ty, op) ∈ fabOpsOf n) ∧
    (Issues n e w x s) ∧
    (insOp w = op) ∧
    (fabOperands (engine x e) w ga gb len) ∧
    (x.radio = none) ∧
    (stepOf x.ctx s = some st) :=
  ⟨fabS 0x100120C4030 (fabX (2 ^ 59 + 0x4000) 0x2000 64), 5, 0, 0, 0x30, 0x100120C4030, 2 ^ 59 + 0x4000, 0x2000, 64, fabX (2 ^ 59 + 0x4000) 0x2000 64, .rget 5, stepT 1, by decide +kernel, by unfold Issues; decide +kernel, by decide +kernel, by unfold fabOperands; decide +kernel, by decide +kernel, by decide +kernel⟩

theorem wit_FabricInstructions_6b : ∃ (s : State) (n e ty op w ga gb len : Nat) (x : EngSet) (c : Instr) (st : Step),
    ((c, e, ty, op) ∈ fabOpsOf n) ∧
    (Issues n e w x s) ∧
    (insOp w = op) ∧
    (fabOperands (engine x e) w ga gb len) ∧
    (x.radio = none) ∧
    (stepOf x.ctx s = some st) :=
  ⟨fabS 0x100120C4031 (fabX (9 * 2 ^ 43 + 0x4FC0) 0x2000 128), 5, 3, 1, 0x31, 0x100120C4031, 9 * 2 ^ 43 + 0x4FC0, 0x2000, 128, fabX (9 * 2 ^ 43 + 0x4FC0) 0x2000 128, .rput 5, stepT 1, by decide +kernel, by unfold Issues; decide +kernel, by decide +kernel, by unfold fabOperands; decide +kernel, by decide +kernel, by decide +kernel⟩

theorem wit_FabricInstructions_6c : ∃ (s : State) (n e ty op w ga gb len : Nat) (x : EngSet) (c : Instr) (st : Step),
    ((c, e, ty, op) ∈ fabOpsOf n) ∧
    (Issues n e w x s) ∧
    (insOp w = op) ∧
    (fabOperands (engine x e) w ga gb len) ∧
    (x.radio = none) ∧
    (stepOf x.ctx s = some st) :=
  ⟨fabS 0x100120C4031 (fabX (9 * 2 ^ 43 + 0x4FC0) (2 ^ 63 + 0x1C0000) 64), 5, 3, 1, 0x31, 0x100120C4031, 9 * 2 ^ 43 + 0x4FC0, 2 ^ 63 + 0x1C0000, 64, fabX (9 * 2 ^ 43 + 0x4FC0) (2 ^ 63 + 0x1C0000) 64, .rput 5, stepT 1, by decide +kernel, by unfold Issues; decide +kernel, by decide +kernel, by unfold fabOperands; decide +kernel, by decide +kernel, by decide +kernel⟩

theorem wit_FabricInstructions_6d : ∃ (s : State) (n e ty op w ga gb len : Nat) (x : EngSet) (c : Instr) (st : Step),
    ((c, e, ty, op) ∈ fabOpsOf n) ∧
    (Issues n e w x s) ∧
    (insOp w = op) ∧
    (fabOperands (engine x e) w ga gb len) ∧
    (x.radio = none) ∧
    (stepOf x.ctx s = some st) :=
  ⟨fabS 0x100120C4030 (fabX (9 * 2 ^ 43 + 0x4FC0) 0x200000 64), 5, 0, 0, 0x30, 0x100120C4030, 9 * 2 ^ 43 + 0x4FC0, 0x200000, 64, fabX (9 * 2 ^ 43 + 0x4FC0) 0x200000 64, .rget 5, stepT 1, by decide +kernel, by unfold Issues; decide +kernel, by decide +kernel, by unfold fabOperands; decide +kernel, by decide +kernel, by decide +kernel⟩

theorem wit_FabricInstructions_7 : ∃ (s : State) (n w id : Nat) (x : EngSet),
    (Issues n 3 w x s) ∧
    (insOp w = 0x34) ∧
    (x.radio = none ∧ x.fabMax ≠ 0 ∧ x.shadow = false) ∧
    (freeFtt s = some id ∧ fttRoom n x none s = true) :=
  ⟨{ fabS 0x10000034 (fabX 0 0 0) with ftt := [opT 1024 (fpT 1 3 0 0 []) 3 none (some 4), opT 1025 (fpT 1 3 1 0 []) 3 none (some 4), { opT 1026 (fpT 1 3 2 0 []) 3 none none with group := 2 }] }, 5, 0x10000034, 1027, fabX 0 0 0, by unfold Issues; decide +kernel, by decide +kernel, by decide +kernel, by decide +kernel⟩

theorem wit_FabricInstructions_8a : ∃ (s : State) (n : Nat) (e : Fin 4) (w : Nat) (x : EngSet) (c : Instr) (st : Step),
    ((c = .rfence n ∧ e = 3 ∧ insOp w = 0x34) ∨ (c = .rwait n e ∧ insOp w = 0x35)) ∧
    (Issues n e w x s) ∧
    (x.radio = none) ∧
    (stepOf x.ctx s = some st) :=
  ⟨{ fabS 0x10000035 (fabX 0 0 0) with ftt := [{ opT 1026 (fpT 1 3 2 0 []) 3 none none with group := 2 }] }, 5, 3, 0x10000035, fabX 0 0 0, .rwait 5 3, stepT 1, by decide +kernel, by unfold Issues; decide +kernel, by decide +kernel, by decide +kernel⟩

theorem wit_FabricInstructions_8b : ∃ (s : State) (n : Nat) (e : Fin 4) (w : Nat) (x : EngSet) (c : Instr) (st : Step),
    ((c = .rfence n ∧ e = 3 ∧ insOp w = 0x34) ∨ (c = .rwait n e ∧ insOp w = 0x35)) ∧
    (Issues n e w x s) ∧
    (x.radio = none) ∧
    (stepOf x.ctx s = some st) :=
  ⟨{ fabS 0x20000035 (fabX 0 0 0) with ftt := [{ opT 1026 (fpT 1 3 2 0 []) 3 none none with group := 2 }] }, 5, 0, 0x20000035, fabX 0 0 0, .rwait 5 0, stepT 1, by decide +kernel, by unfold Issues; decide +kernel, by decide +kernel, by decide +kernel⟩

theorem wit_FabricInstructions_8c : ∃ (s : State) (n : Nat) (e : Fin 4) (w : Nat) (x : EngSet) (c : Instr) (st : Step),
    ((c = .rfence n ∧ e = 3 ∧ insOp w = 0x34) ∨ (c = .rwait n e ∧ insOp w = 0x35)) ∧
    (Issues n e w x s) ∧
    (x.radio = none) ∧
    (stepOf x.ctx s = some st) :=
  ⟨fabS 0x20000034 { fabX 0 0 0 with fabMax := 0 }, 5, 3, 0x20000034, { fabX 0 0 0 with fabMax := 0 }, .rfence 5, stepT 1, by decide +kernel, by unfold Issues; decide +kernel, by decide +kernel, by decide +kernel⟩

theorem wit_FabricEnds_1 : ∃ (s : State) (id : Nat) (f : Ftt) (x : EngSet),
    (s.ftt.find? (fun g => decide (g.id = id) && decide (g.fence = some [])) = some f) ∧
    (opLive f x s) :=
  ⟨{ fabS 0 (fabX 0 0 0) with ftt := [opT 1024 (fpT 0 0 0 0 []) 0 (some []) none, opT 1025 (fpT 1 3 0 0 []) 3 none (some 2), opT 1026 (fpT 1 3 0 0 []) 3 (some [1025]) none] }, 1024, opT 1024 (fpT 0 0 0 0 []) 0 (some []) none, fabX 0 0 0, by decide +kernel, by unfold opLive; decide +kernel⟩

theorem wit_FabricEnds_2 : ∃ (s : State) (id : Nat) (f g : Ftt),
    (s.ftt.find? (fun h => decide (h.id = id) && decide (h.fence = some [])) = some f) ∧
    (s.ftt.filter unsent = [g]) ∧
    (g.dest = ownId s ∧ g.req.dst = ownId s ∧ g.req.src = ownId s ∧ g.req.type < 3) ∧
    ((∀ h ∈ s.ftt, h.id = g.id ∨ h.fence ≠ none ∨ h.dest ≠ g.dest ∨ h.req.txid ≠ g.req.txid)) ∧
    ((∀ h ∈ s.ftt, h.id = f.id ∨ h.fence = none ∨ sameEngine h g = false ∨ h.group ≠ g.group)) ∧
    (8 ≤ g.part ∨ (regulOf g.part 2 s).rate = 0) :=
  ⟨{ fabS 0 (fabX 0 0 0) with ftt := [opT 1024 (fpT 0 0 0 0 []) 0 (some []) none, opT 1025 { fpT 1 3 5 0x40 (zeros 64) with src := 3 } 3 none none] }, 1024, opT 1024 (fpT 0 0 0 0 []) 0 (some []) none, opT 1025 { fpT 1 3 5 0x40 (zeros 64) with src := 3 } 3 none none, by decide +kernel, by decide +kernel, by decide +kernel, by decide +kernel, by decide +kernel, by decide +kernel⟩

theorem wit_FabricEnds_3 : ∃ (s : State) (id : Nat) (f : Ftt) (c : Ctx),
    (s.ftt.find? (fun g => decide (g.id = id) && decide (g.fence = some [])) = some f) ∧
    (engAt f.core s = none) ∧
    (ctxOf f.ctx s = some c) ∧
    (c.sub = 3) ∧
    (f.core < 144) ∧
    ((∀ g ∈ s.ftt, unsent g = false)) :=
  ⟨{ up with now := 7, ctxs := [(9, { ctxT 3 3 with saved := [(5, fabX 0 0 0), (6, fabX 0 0 0)] })], ftt := [opT 1024 (fpT 0 0 0 0 []) 0 (some []) none] }, 1024, opT 1024 (fpT 0 0 0 0 []) 0 (some []) none, { ctxT 3 3 with saved := [(5, fabX 0 0 0), (6, fabX 0 0 0)] }, by decide +kernel, by decide +kernel, by decide +kernel, by decide +kernel, by decide +kernel, by decide +kernel⟩

theorem wit_FabricEnds_4 : ∃ (s : State) (id : Nat),
    ((∀ g ∈ s.ftt, g.id ≠ id ∨ g.fence ≠ some [])) :=
  ⟨{ up with ftt := [opT 1024 (fpT 0 0 0 0 []) 0 (some [1025]) none] }, 1024, by decide +kernel⟩

theorem wit_FabricEnds_5a : ∃ (s : State) (p : Fin 17) (i w : Nat) (k : FabPkt) (f : Ftt) (x : EngSet),
    (rspFor p i w k f s) ∧
    (opLive f x s) ∧
    (k.status = 0) ∧
    ((f.req.type = 1 ∨ f.req.type = 2) ∨ (f.req.type = 3 ∧ k.members = f.arg ∧ 0 < f.arg)) :=
  ⟨{ fabS 0 (fabX 0 0 0) with ftt := [opT 1025 (fpT 1 9 5 0x40 []) 9 none (some 2), opT 1026 (fpT 0 0 0 0 []) 0 (some [1025]) none], hport := [(4, { HPort.reset with inq := [(1, { fpT 9 3 5 0 [] with src := 9 })] })] }, 4, 0, 1, { fpT 9 3 5 0 [] with src := 9 }, opT 1025 (fpT 1 9 5 0x40 []) 9 none (some 2), fabX 0 0 0, by unfold rspFor; decide +kernel, by unfold opLive; decide +kernel, by decide +kernel, by decide +kernel⟩

theorem wit_FabricEnds_5b : ∃ (s : State) (p : Fin 17) (i w : Nat) (k : FabPkt) (f : Ftt) (x : EngSet),
    (rspFor p i w k f s) ∧
    (opLive f x s) ∧
    (k.status = 0) ∧
    ((f.req.type = 1 ∨ f.req.type = 2) ∨ (f.req.type = 3 ∧ k.members = f.arg ∧ 0 < f.arg)) :=
  ⟨{ fabS 0 (fabX 0 0 0) with ftt := [{ opT 1025 { fpT 3 0xFFFF 5 0x40 [] with group := 8 } (2 ^ 16 + 8) none (some 2) with arg := 12 }], hport := [(16, { HPort.reset with inq := [(1, { fpT 9 3 5 0 [] with src := 3, group := 8, members := 12 })] })] }, 16, 0, 1, { fpT 9 3 5 0 [] with src := 3, group := 8, members := 12 }, { opT 1025 { fpT 3 0xFFFF 5 0x40 [] with group := 8 } (2 ^ 16 + 8) none (some 2) with arg := 12 }, fabX 0 0 0, by unfold rspFor; decide +kernel, by unfold opLive; decide +kernel, by decide +kernel, by decide +kernel⟩

theorem wit_FabricEnds_6 : ∃ (s : State) (p : Fin 17) (i w : Nat) (k : FabPkt) (f : Ftt) (x : EngSet),
    (rspFor p i w k f s) ∧
    (opLive f x s) ∧
    (f.req.type = 0 ∧ k.status = 0 ∧ k.poison = 0 ∧ k.data.length = f.req.len ∧ 64 ≤ f.req.len ∧ f.req.len ≤ 4096 ∧ f.req.len % 64 = 0) ∧
    (f.arg % 64 = 0 ∧ f.arg % 2 ^ 21 + f.req.len ≤ 2 ^ 21 ∧ rangeOk f.part true f.arg f.req.len s = true) ∧
    (migOf (f.arg / 2 ^ 21) s = none ∧ s.chanCopy = [] ∧ entTier (bent (f.arg / 2 ^ 21) s) = 1 ∧ objPoisoned f.arg s = false) :=
  ⟨{ fabS 0 (fabX 0 0 0) with poison := [(memAddr 1 0 0x2000 / 64, 1), (memAddr 1 0 0x2080 / 64, 1)], ftt := [{ opT 1025 { fpT 0 9 5 0x40 [] with len := 128 } 9 none (some 2) with arg := 0x2000, load := true }], hport := [(4, { HPort.reset with inq := [(1, { fpT 8 3 5 0 (List.replicate 128 7) with src := 9 })] })] }, 4, 0, 1, { fpT 8 3 5 0 (List.replicate 128 7) with src := 9 }, { opT 1025 { fpT 0 9 5 0x40 [] with len := 128 } 9 none (some 2) with arg := 0x2000, load := true }, fabX 0 0 0, by unfold rspFor; decide +kernel, by unfold opLive; decide +kernel, by decide +kernel, by decide +kernel, by decide +kernel⟩

theorem wit_FabricEnds_7 : ∃ (s : State) (p : Fin 17) (i w : Nat) (k : FabPkt) (f : Ftt) (x : EngSet),
    (rspFor p i w k f s) ∧
    (opLive f x s) ∧
    (f.req.type = 0 ∧ k.status = 2 ∧ k.data.length = f.req.len ∧ 64 ≤ f.req.len ∧ f.req.len ≤ 4096 ∧ f.req.len % 64 = 0) ∧
    (f.arg % 64 = 0 ∧ f.arg % 2 ^ 21 + f.req.len ≤ 2 ^ 21 ∧ rangeOk f.part true f.arg f.req.len s = true) ∧
    (migOf (f.arg / 2 ^ 21) s = none ∧ s.chanCopy = [] ∧ entTier (bent (f.arg / 2 ^ 21) s) = 1 ∧ objPoisoned f.arg s = false) :=
  ⟨{ fabS 0 (fabX 0 0 0) with poison := [(memAddr 1 0 0x2000 / 64, 1), (memAddr 1 0 0x2080 / 64, 1)], ftt := [{ opT 1025 { fpT 0 9 5 0x40 [] with len := 128 } 9 none (some 2) with arg := 0x2000, load := true }], hport := [(4, { HPort.reset with inq := [(1, { fpT 8 3 5 0 (List.replicate 128 7) with src := 9, status := 2, poison := 2 })] })] }, 4, 0, 1, { fpT 8 3 5 0 (List.replicate 128 7) with src := 9, status := 2, poison := 2 }, { opT 1025 { fpT 0 9 5 0x40 [] with len := 128 } 9 none (some 2) with arg := 0x2000, load := true }, fabX 0 0 0, by unfold rspFor; decide +kernel, by unfold opLive; decide +kernel, by decide +kernel, by decide +kernel, by decide +kernel⟩

theorem wit_FabricEnds_8a : ∃ (s : State) (p : Fin 17) (i w cause st : Nat) (k : FabPkt) (f : Ftt) (x : EngSet),
    (rspFor p i w k f s) ∧
    (opLive f x s) ∧
    (landable f s = true) ∧
    ((f.req.type ≠ 3 ∧ ((k.status = 1 ∧ cause = 2 ∧ st = stITEM_FAILED) ∨ (k.status = 2 ∧ (f.req.type ≠ 0 ∨ k.data = []) ∧ cause = 3 ∧ st = stPOISONED) ∨ (k.status = 3 ∧ cause = 4 ∧ st = stFENCED))) ∨
      (f.req.type = 3 ∧ cause = 6 ∧ ((k.status = 0 ∧ k.members ≠ f.arg ∧ st = stITEM_FAILED) ∨ (k.status = 1 ∧ st = stITEM_FAILED) ∨ (k.status = 2 ∧ st = stPOISONED) ∨ (k.status = 3 ∧ st = stFENCED)))) :=
  ⟨{ fabS 0 (fabX 0 0 0) with ftt := [opT 1025 (fpT 1 9 5 0x40 []) 9 none (some 2)], hport := [(4, { HPort.reset with inq := [(1, { fpT 9 3 5 0 [] with src := 9, status := 3 })] })] }, 4, 0, 1, 4, stFENCED, { fpT 9 3 5 0 [] with src := 9, status := 3 }, opT 1025 (fpT 1 9 5 0x40 []) 9 none (some 2), fabX 0 0 0, by unfold rspFor; decide +kernel, by unfold opLive; decide +kernel, by decide +kernel, by decide +kernel⟩

theorem wit_FabricEnds_8b : ∃ (s : State) (p : Fin 17) (i w cause st : Nat) (k : FabPkt) (f : Ftt) (x : EngSet),
    (rspFor p i w k f s) ∧
    (opLive f x s) ∧
    (landable f s = true) ∧
    ((f.req.type ≠ 3 ∧ ((k.status = 1 ∧ cause = 2 ∧ st = stITEM_FAILED) ∨ (k.status = 2 ∧ (f.req.type ≠ 0 ∨ k.data = []) ∧ cause = 3 ∧ st = stPOISONED) ∨ (k.status = 3 ∧ cause = 4 ∧ st = stFENCED))) ∨
      (f.req.type = 3 ∧ cause = 6 ∧ ((k.status = 0 ∧ k.members ≠ f.arg ∧ st = stITEM_FAILED) ∨ (k.status = 1 ∧ st = stITEM_FAILED) ∨ (k.status = 2 ∧ st = stPOISONED) ∨ (k.status = 3 ∧ st = stFENCED)))) :=
  ⟨{ fabS 0 (fabX 0 0 0) with ftt := [{ opT 1025 { fpT 3 0xFFFF 5 0x40 [] with group := 8 } (2 ^ 16 + 8) none (some 2) with arg := 12 }], hport := [(16, { HPort.reset with inq := [(1, { fpT 9 3 5 0 [] with src := 3, group := 8, members := 11 })] })] }, 16, 0, 1, 6, stITEM_FAILED, { fpT 9 3 5 0 [] with src := 3, group := 8, members := 11 }, { opT 1025 { fpT 3 0xFFFF 5 0x40 [] with group := 8 } (2 ^ 16 + 8) none (some 2) with arg := 12 }, fabX 0 0 0, by unfold rspFor; decide +kernel, by unfold opLive; decide +kernel, by decide +kernel, by decide +kernel⟩

theorem wit_FabricEnds_9 : ∃ (s : State) (p : Fin 17) (i w : Nat) (k : FabPkt) (g : Gather),
    (headIn (isRsp p s) p s = some (i, w, k)) ∧
    (gatherFor p k s = some g) :=
  ⟨{ up with gathers := [⟨1, { fpT 3 0xFFFF 5 0x40 [] with src := 6, group := 8 }, 2, [4, 7], 0, 3⟩], hport := [(4, { HPort.reset with inq := [(1, { fpT 9 6 5 0 [] with src := 9, members := 5, status := 1 })] })] }, 4, 0, 1, { fpT 9 6 5 0 [] with src := 9, members := 5, status := 1 }, ⟨1, { fpT 3 0xFFFF 5 0x40 [] with src := 6, group := 8 }, 2, [4, 7], 0, 3⟩, by decide +kernel, by decide +kernel⟩

theorem wit_FabricEnds_10 : ∃ (s : State) (p : Fin 17) (i w : Nat) (k : FabPkt),
    (headIn (isRsp p s) p s = some (i, w, k)) ∧
    (gatherFor p k s = none) ∧
    (opFor p k s = none) :=
  ⟨{ up with hport := [(4, { HPort.reset with inq := [(1, fpT 9 0 5 0 [])] })] }, 4, 0, 1, fpT 9 0 5 0 [], by decide +kernel, by decide +kernel, by decide +kernel⟩

theorem wit_FabricEnds_11 : ∃ (s : State) (id w : Nat) (f : Ftt) (x : EngSet),
    (s.ftt.find? (fun g => decide (g.id = id) && isOp g) = some f) ∧
    (f.sent = some w) ∧
    (w + getF HJF_ORD_TIMEOUT s * 1000 * 1536 ≤ s.now) ∧
    (rspArrived f s = false) ∧
    (opLive f x s) :=
  ⟨setF HJF_ORD_TIMEOUT 200 { fabS 0 (fabX 0 0 0) with now := 200 * 1000 * 1536 + 2, ftt := [opT 1025 (fpT 1 9 5 0x40 []) 9 none (some 2)] }, 1025, 2, opT 1025 (fpT 1 9 5 0x40 []) 9 none (some 2), fabX 0 0 0, by decide +kernel, by decide +kernel, by decide +kernel, by decide +kernel, by unfold opLive; decide +kernel⟩

theorem wit_FabricEnds_12a : ∃ (s : State) (id w : Nat) (f : Ftt),
    (s.ftt.find? (fun g => decide (g.id = id) && isOp g) = some f) ∧
    (f.sent = none ∨ (f.sent = some w ∧ s.now < w + getF HJF_ORD_TIMEOUT s * 1000 * 1536) ∨ rspArrived f s = true) :=
  ⟨{ fabS 0 (fabX 0 0 0) with now := 2 ^ 60, ftt := [opT 1025 (fpT 1 9 5 0x40 []) 9 none (some 2)], hport := [(4, { HPort.reset with inq := [(1, { fpT 9 3 5 0 [] with src := 9 })] })] }, 1025, 2, opT 1025 (fpT 1 9 5 0x40 []) 9 none (some 2), by decide +kernel, by decide +kernel⟩

theorem wit_FabricEnds_12b : ∃ (s : State) (id w : Nat) (f : Ftt),
    (s.ftt.find? (fun g => decide (g.id = id) && isOp g) = some f) ∧
    (f.sent = none ∨ (f.sent = some w ∧ s.now < w + getF HJF_ORD_TIMEOUT s * 1000 * 1536) ∨ rspArrived f s = true) :=
  ⟨setF HJF_ORD_TIMEOUT 200 { fabS 0 (fabX 0 0 0) with now := 200 * 1000 * 1536 + 1, ftt := [opT 1025 (fpT 1 9 5 0x40 []) 9 none (some 2)] }, 1025, 2, opT 1025 (fpT 1 9 5 0x40 []) 9 none (some 2), by decide +kernel, by decide +kernel⟩

theorem wit_FabricEnds_13 : ∃ (s : State) (d : Nat),
    (d ∈ s.epochPend) ∧
    ((∀ f ∈ s.ftt, f.dest ≠ d ∨ f.fence ≠ none ∨ f.req.type = 3 ∨ unsent f = true ∨ pathChanged f s = false)) :=
  ⟨{ up with epochPend := [7, 9], epochs := [(9, 255)], ftt := [opT 1025 (fpT 1 9 5 0x40 []) 9 none none] }, 9, by decide +kernel, by decide +kernel⟩

theorem wit_FabricEnds_14 : ∃ (s : State) (d q : Nat) (f g : Ftt) (k k2 : FabPkt),
    (d ∈ s.epochPend) ∧
    (d ≠ ownId s) ∧
    (s.ftt.filter (fun h => h.fence.isNone && decide (h.dest = d) && decide (h.req.type ≠ 3) && !unsent h && pathChanged h s) = [f, g]) ∧
    (f.req.dst = d ∧ g.req.dst = d) ∧
    (serialLt 32 g.req.txid f.req.txid = true ∧ serialLt 32 f.req.txid g.req.txid = false) ∧
    (f.req.oc = 1 ∧ g.req.oc = 1 ∧ f.req.src = g.req.src ∧ vlane f.req = vlane g.req) ∧
    (k = { f.req with epoch := (look 0 d s.epochs + 1) % 256 } ∧ k2 = { g.req with epoch := (look 0 d s.epochs + 1) % 256 }) ∧
    (rtValid (routeOf d s) = true) ∧
    (pathOf k s = some q) ∧
    ((hpOf q s).queue = []) ∧
    (slotsOf k + slotsOf k2 ≤ laneCredit (hpOf q s) (vlane k)) ∧
    (unacked (hpOf q s) + flitsOf k + flitsOf k2 ≤ 512) :=
  ⟨setF HJF_CFG_DEVID 3 (setF (HJF_Pp_STAT_STATE 5) 2 { up with epochPend := [9], epochs := [(9, 255)], routes := [(9, 9 + 2 ^ 16 + 5 * 2 ^ 19)], hport := [(5, { HPort.reset with seq := 1023, credit := [(0, 6)] })], ftt := [{ opT 1025 { fpT 1 9 0 0x40 (zeros 64) with src := 3, oc := 1 } 9 none (some 2) with port := some 7 }, { opT 1026 { fpT 1 9 (2 ^ 32 - 1) 0x40 (zeros 64) with src := 3, oc := 1 } 9 none (some 2) with port := some 7 }, { opT 1027 { fpT 1 9 1 0x40 (zeros 64) with src := 3, oc := 1 } 9 none (some 2) with port := some 5 }] }), 9, 5, { opT 1025 { fpT 1 9 0 0x40 (zeros 64) with src := 3, oc := 1 } 9 none (some 2) with port := some 7 }, { opT 1026 { fpT 1 9 (2 ^ 32 - 1) 0x40 (zeros 64) with src := 3, oc := 1 } 9 none (some 2) with port := some 7 }, { fpT 1 9 0 0x40 (zeros 64) with src := 3, oc := 1 }, { fpT 1 9 (2 ^ 32 - 1) 0x40 (zeros 64) with src := 3, oc := 1 }, by decide +kernel, by decide +kernel, by decide +kernel, by decide +kernel, by decide +kernel, by decide +kernel, by decide +kernel, by decide +kernel, by decide +kernel, by decide +kernel, by decide +kernel, by decide +kernel⟩

theorem wit_FabricEnds_15 : ∃ (s : State) (d : Nat),
    (d ∉ s.epochPend) :=
  ⟨up, 9, by decide +kernel⟩

theorem wit_HomeRequests_1 : ∃ (s : State) (p : Fin 17) (i w q f : Nat) (k : FabPkt),
    (headIn (isRequest s) p s = some (i, w, k)) ∧
    (f ∈ List.range 8 ∧ FencedBy f k s) ∧
    (rspWay q (rspOf k 3 0 0 [] s) s) :=
  ⟨setF HJF_GATE_FENCED 4 (setF (HJF_GATE_KEYp_EXTKEY 2) 55 (homeS 4 { fpT 1 3 5 0x40 (zeros 64) with src := 9, key := 55 })), 4, 0, 1, 5, 2, { fpT 1 3 5 0x40 (zeros 64) with src := 9, key := 55 }, by decide +kernel, by unfold FencedBy; decide +kernel, by unfold rspWay; decide +kernel⟩

theorem wit_HomeRequests_2a : ∃ (s : State) (p : Fin 17) (i w q r e : Nat) (k : FabPkt),
    (headIn (isRequest s) p s = some (i, w, k)) ∧
    ((∀ f ∈ List.range 8, ¬ FencedBy f k s)) ∧
    (firstReason k s = some r) ∧
    (rspWay q (rspOf k 1 0 0 [] s) s) ∧
    (e = getF HJF_LOGHEAD_NEXT s) ∧
    (k.src < 2 ^ 16 ∧ k.key < 2 ^ 32 ∧ k.addr < 2 ^ 43) :=
  ⟨setF HJF_LOGHEAD_NEXT 31 (homeS 4 { fpT 1 3 5 0x1FFFC0 (zeros 128) with src := 9, key := 55 }), 4, 0, 1, 5, 1, 31, { fpT 1 3 5 0x1FFFC0 (zeros 128) with src := 9, key := 55 }, by decide +kernel, by unfold FencedBy; decide +kernel, by decide +kernel, by unfold rspWay; decide +kernel, by decide +kernel, by decide +kernel⟩

theorem wit_HomeRequests_2b : ∃ (s : State) (p : Fin 17) (i w q r e : Nat) (k : FabPkt),
    (headIn (isRequest s) p s = some (i, w, k)) ∧
    ((∀ f ∈ List.range 8, ¬ FencedBy f k s)) ∧
    (firstReason k s = some r) ∧
    (rspWay q (rspOf k 1 0 0 [] s) s) ∧
    (e = getF HJF_LOGHEAD_NEXT s) ∧
    (k.src < 2 ^ 16 ∧ k.key < 2 ^ 32 ∧ k.addr < 2 ^ 43) :=
  ⟨homeS 4 { fpT 1 3 5 0x1FFFC0 (zeros 64) with src := 9, key := 57 }, 4, 0, 1, 5, 3, 0, { fpT 1 3 5 0x1FFFC0 (zeros 64) with src := 9, key := 57 }, by decide +kernel, by unfold FencedBy; decide +kernel, by decide +kernel, by unfold rspWay; decide +kernel, by decide +kernel, by decide +kernel⟩

theorem wit_HomeRequests_2c : ∃ (s : State) (p : Fin 17) (i w q r e : Nat) (k : FabPkt),
    (headIn (isRequest s) p s = some (i, w, k)) ∧
    ((∀ f ∈ List.range 8, ¬ FencedBy f k s)) ∧
    (firstReason k s = some r) ∧
    (rspWay q (rspOf k 1 0 0 [] s) s) ∧
    (e = getF HJF_LOGHEAD_NEXT s) ∧
    (k.src < 2 ^ 16 ∧ k.key < 2 ^ 32 ∧ k.addr < 2 ^ 43) :=
  ⟨homeS 16 { fpT 2 3 5 0x1FFFC0 (zeros 64) with src := 3, key := 55 }, 16, 0, 1, 16, 4, 0, { fpT 2 3 5 0x1FFFC0 (zeros 64) with src := 3, key := 55 }, by decide +kernel, by unfold FencedBy; decide +kernel, by decide +kernel, by unfold rspWay; decide +kernel, by decide +kernel, by decide +kernel⟩

theorem wit_HomeRequests_3a : ∃ (s : State) (p : Fin 17) (i w : Nat) (k : FabPkt),
    (headIn (isRequest s) p s = some (i, w, k)) ∧
    (Passes k s) ∧
    (combRoom k s = true) ∧
    ((streamOf k s).isSome = true ∨ s.streams.length < 8192) ∧
    (earlierWaits p w k s = false) :=
  ⟨homeS 4 { fpT 1 3 5 0x1FFFC0 (zeros 64) with src := 9, key := 55 }, 4, 0, 1, { fpT 1 3 5 0x1FFFC0 (zeros 64) with src := 9, key := 55 }, by decide +kernel, by unfold Passes FencedBy; decide +kernel, by decide +kernel, by decide +kernel, by decide +kernel⟩

theorem wit_HomeRequests_3b : ∃ (s : State) (p : Fin 17) (i w : Nat) (k : FabPkt),
    (headIn (isRequest s) p s = some (i, w, k)) ∧
    (Passes k s) ∧
    (combRoom k s = true) ∧
    ((streamOf k s).isSome = true ∨ s.streams.length < 8192) ∧
    (earlierWaits p w k s = false) :=
  ⟨setF HJF_COMB_HOT_THR 1 { homeS 4 { fpT 0 3 0 0x1000 [] with src := 9, key := 55, len := 4096 } with streams := [⟨9, none, 2 ^ 32 - 1, [2 ^ 32 - 1, 2 ^ 32 - 4096], [(1, 2)], [], 0⟩] }, 4, 0, 1, { fpT 0 3 0 0x1000 [] with src := 9, key := 55, len := 4096 }, by decide +kernel, by unfold Passes FencedBy; decide +kernel, by decide +kernel, by decide +kernel, by decide +kernel⟩

theorem wit_HomeRequests_4 : ∃ (s : State) (p : Fin 17) (i w : Nat) (k : FabPkt),
    (headIn (isRequest s) p s = none ∨ (headIn (isRequest s) p s = some (i, w, k) ∧ Passes k s ∧
        (combRoom k s = false ∨ (streamOf k s = none ∧ 8192 ≤ s.streams.length) ∨ earlierWaits p w k s = true))) :=
  ⟨setF HJF_COMB_CRED 1 { homeS 4 { fpT 1 3 5 0x1FFFC0 (zeros 64) with src := 9, key := 55 } with comb := [⟨{ fpT 1 3 4 0x1FFFC0 (zeros 64) with src := 9, key := 55 }, 4, none, 0⟩] }, 4, 0, 1, { fpT 1 3 5 0x1FFFC0 (zeros 64) with src := 9, key := 55 }, by unfold Passes FencedBy; decide +kernel⟩

theorem wit_HomeRequests_5 : ∃ (s : State) (b : Fin 16) (line i q : Nat) (r : CombReq) (x : Stream),
    (combHead b line i r s) ∧
    (Passes r.pkt s) ∧
    (r.gather = none ∧ r.pkt.type = 1 ∧ r.pkt.data.length = r.pkt.len) ∧
    (plainHome r.pkt s) ∧
    (streamOf r.pkt s = some x) ∧
    (filterSays r.pkt x = 0) ∧
    (rspWay q (rspOf r.pkt 0 0 0 [] s) s) :=
  ⟨homeC { fpT 1 3 5 0x1FFF80 (List.replicate 128 6) with src := 9, key := 55, oc := 2, epoch := 7 } ⟨9, none, 6, [6], [(1, 3), (2, 255)], [(2, 4)], 0⟩, 9, 0x1FFF80 / 64, 0, 5, ⟨{ fpT 1 3 5 0x1FFF80 (List.replicate 128 6) with src := 9, key := 55, oc := 2, epoch := 7 }, 4, none, 1⟩, ⟨9, none, 6, [6], [(1, 3), (2, 255)], [(2, 4)], 0⟩, by unfold combHead; decide +kernel, by unfold Passes FencedBy; decide +kernel, by decide +kernel, by unfold plainHome; decide +kernel, by decide +kernel, by decide +kernel, by unfold rspWay; decide +kernel⟩

theorem wit_HomeRequests_6 : ∃ (s : State) (b : Fin 16) (line i q j : Nat) (r : CombReq) (x : Stream),
    (combHead b line i r s) ∧
    (Passes r.pkt s) ∧
    (r.gather = none ∧ r.pkt.type = 2 ∧ r.pkt.data.length = r.pkt.len) ∧
    (plainHome r.pkt s) ∧
    (anyPoison r.pkt.addr r.pkt.len s = false ∧ anyHeld r.pkt.addr r.pkt.len s = false) ∧
    (streamOf r.pkt s = some x) ∧
    (filterSays r.pkt x = 0) ∧
    (rspWay q (rspOf r.pkt 0 0 0 [] s) s) ∧
    ((j + 1) * redWidth r.pkt.rtype ≤ r.pkt.len) :=
  ⟨homeC { fpT 2 3 5 0x1000 (zeros 4 ++ [0xFF, 0xFF, 0xFF, 0xFF] ++ zeros 56) with src := 3, key := 56, rtype := 2 } ⟨3, none, 5, [], [], [], 0⟩, 4, 0x1000 / 64, 0, 16, 1, ⟨{ fpT 2 3 5 0x1000 (zeros 4 ++ [0xFF, 0xFF, 0xFF, 0xFF] ++ zeros 56) with src := 3, key := 56, rtype := 2 }, 4, none, 1⟩, ⟨3, none, 5, [], [], [], 0⟩, by unfold combHead; decide +kernel, by unfold Passes FencedBy; decide +kernel, by decide +kernel, by unfold plainHome; decide +kernel, by decide +kernel, by decide +kernel, by decide +kernel, by unfold rspWay; decide +kernel, by decide +kernel⟩

theorem wit_HomeRequests_7 : ∃ (s : State) (b : Fin 16) (line i q : Nat) (r : CombReq),
    (combHead b line i r s) ∧
    (Passes r.pkt s) ∧
    (r.gather = none ∧ r.pkt.type = 0) ∧
    (anyHeld r.pkt.addr r.pkt.len s = false) ∧
    (rspWay q (rspOf r.pkt (if anyPoison r.pkt.addr r.pkt.len s then 2 else 0) 0 (poisonBits r.pkt s) (urRead r.pkt.addr r.pkt.len s) s) s) ∧
    (r.pkt.addr % 64 = 0 ∧ r.pkt.len % 64 = 0) :=
  ⟨{ homeC { fpT 0 3 5 0x1000 [] with src := 9, key := 55, len := 128 } ⟨9, none, 5, [], [], [], 0⟩ with poison := [(memAddr 1 0 0x1040 / 64, 1)] }, 4, 0x1000 / 64, 0, 5, ⟨{ fpT 0 3 5 0x1000 [] with src := 9, key := 55, len := 128 }, 4, none, 1⟩, by unfold combHead; decide +kernel, by unfold Passes FencedBy; decide +kernel, by decide +kernel, by decide +kernel, by unfold rspWay; decide +kernel, by decide +kernel⟩

theorem wit_HomeRequests_8a : ∃ (s : State) (b : Fin 16) (line i q : Nat) (r : CombReq) (x : Stream),
    (combHead b line i r s) ∧
    (Passes r.pkt s) ∧
    (r.gather = none ∧ r.pkt.type = 1) ∧
    (plainHome r.pkt s) ∧
    (streamOf r.pkt s = some x) ∧
    (filterSays r.pkt x ≠ 0) ∧
    ((filterSays r.pkt x = 1 → rspWay q (rspOf r.pkt 0 0 0 [] s) s)) :=
  ⟨homeC { fpT 1 3 5 0x1000 (zeros 64) with src := 9, key := 55 } ⟨9, none, 6, [6, 5], [], [], 0⟩, 4, 0x1000 / 64, 0, 5, ⟨{ fpT 1 3 5 0x1000 (zeros 64) with src := 9, key := 55 }, 4, none, 1⟩, ⟨9, none, 6, [6, 5], [], [], 0⟩, by unfold combHead; decide +kernel, by unfold Passes FencedBy; decide +kernel, by decide +kernel, by unfold plainHome; decide +kernel, by decide +kernel, by decide +kernel, by unfold rspWay; decide +kernel⟩

theorem wit_HomeRequests_8b : ∃ (s : State) (b : Fin 16) (line i q : Nat) (r : CombReq) (x : Stream),
    (combHead b line i r s) ∧
    (Passes r.pkt s) ∧
    (r.gather = none ∧ r.pkt.type = 1) ∧
    (plainHome r.pkt s) ∧
    (streamOf r.pkt s = some x) ∧
    (filterSays r.pkt x ≠ 0) ∧
    ((filterSays r.pkt x = 1 → rspWay q (rspOf r.pkt 0 0 0 [] s) s)) :=
  ⟨homeC { fpT 1 3 (2 ^ 32 - 4090) 0x1000 (zeros 64) with src := 9, key := 55 } ⟨9, none, 6, [6, 5], [], [], 0⟩, 4, 0x1000 / 64, 0, 5, ⟨{ fpT 1 3 (2 ^ 32 - 4090) 0x1000 (zeros 64) with src := 9, key := 55 }, 4, none, 1⟩, ⟨9, none, 6, [6, 5], [], [], 0⟩, by unfold combHead; decide +kernel, by unfold Passes FencedBy; decide +kernel, by decide +kernel, by unfold plainHome; decide +kernel, by decide +kernel, by decide +kernel, by unfold rspWay; decide +kernel⟩

theorem wit_HomeRequests_8c : ∃ (s : State) (b : Fin 16) (line i q : Nat) (r : CombReq) (x : Stream),
    (combHead b line i r s) ∧
    (Passes r.pkt s) ∧
    (r.gather = none ∧ r.pkt.type = 1) ∧
    (plainHome r.pkt s) ∧
    (streamOf r.pkt s = some x) ∧
    (filterSays r.pkt x ≠ 0) ∧
    ((filterSays r.pkt x = 1 → rspWay q (rspOf r.pkt 0 0 0 [] s) s)) :=
  ⟨homeC { fpT 1 3 5 0x1000 (zeros 64) with src := 9, key := 55, oc := 3, epoch := 255 } ⟨9, none, 6, [6], [(3, 0)], [], 0⟩, 4, 0x1000 / 64, 0, 5, ⟨{ fpT 1 3 5 0x1000 (zeros 64) with src := 9, key := 55, oc := 3, epoch := 255 }, 4, none, 1⟩, ⟨9, none, 6, [6], [(3, 0)], [], 0⟩, by unfold combHead; decide +kernel, by unfold Passes FencedBy; decide +kernel, by decide +kernel, by unfold plainHome; decide +kernel, by decide +kernel, by decide +kernel, by unfold rspWay; decide +kernel⟩

theorem wit_HomeRequests_8d : ∃ (s : State) (b : Fin 16) (line i q : Nat) (r : CombReq) (x : Stream),
    (combHead b line i r s) ∧
    (Passes r.pkt s) ∧
    (r.gather = none ∧ r.pkt.type = 1) ∧
    (plainHome r.pkt s) ∧
    (streamOf r.pkt s = some x) ∧
    (filterSays r.pkt x ≠ 0) ∧
    ((filterSays r.pkt x = 1 → rspWay q (rspOf r.pkt 0 0 0 [] s) s)) :=
  ⟨homeC { fpT 1 3 5 0x1000 (zeros 64) with src := 9, key := 55, oc := 3 } ⟨9, none, 6, [6], [(3, 0)], [(3, 6)], 0⟩, 4, 0x1000 / 64, 0, 5, ⟨{ fpT 1 3 5 0x1000 (zeros 64) with src := 9, key := 55, oc := 3 }, 4, none, 1⟩, ⟨9, none, 6, [6], [(3, 0)], [(3, 6)], 0⟩, by unfold combHead; decide +kernel, by unfold Passes FencedBy; decide +kernel, by decide +kernel, by unfold plainHome; decide +kernel, by decide +kernel, by decide +kernel, by unfold rspWay; decide +kernel⟩

theorem wit_HomeRequests_9a : ∃ (s : State) (b : Fin 16) (line i q st : Nat) (r : CombReq),
    (combHead b line i r s) ∧
    (r.gather = none) ∧
    ((st = 3 ∧ (∃ f ∈ List.range 8, FencedBy f r.pkt s)) ∨
      (st = 2 ∧ Passes r.pkt s ∧ (r.pkt.type = 1 ∨ r.pkt.type = 2) ∧ storable r.pkt.addr r.pkt.len s = true ∧ (r.pkt.type = 2 → anyHeld r.pkt.addr r.pkt.len s = false) ∧ writePoison r.pkt s = true)) ∧
    (rspWay q (rspOf r.pkt st 0 0 [] s) s) :=
  ⟨setF HJF_GATE_FENCED 1 (homeC { fpT 1 3 5 0x1000 (zeros 64) with src := 9, key := 55 } ⟨9, none, 6, [6], [], [], 0⟩), 4, 0x1000 / 64, 0, 5, 3, ⟨{ fpT 1 3 5 0x1000 (zeros 64) with src := 9, key := 55 }, 4, none, 1⟩, by unfold combHead; decide +kernel, by decide +kernel, by unfold Passes FencedBy; decide +kernel, by unfold rspWay; decide +kernel⟩

theorem wit_HomeRequests_9b : ∃ (s : State) (b : Fin 16) (line i q st : Nat) (r : CombReq),
    (combHead b line i r s) ∧
    (r.gather = none) ∧
    ((st = 3 ∧ (∃ f ∈ List.range 8, FencedBy f r.pkt s)) ∨
      (st = 2 ∧ Passes r.pkt s ∧ (r.pkt.type = 1 ∨ r.pkt.type = 2) ∧ storable r.pkt.addr r.pkt.len s = true ∧ (r.pkt.type = 2 → anyHeld r.pkt.addr r.pkt.len s = false) ∧ writePoison r.pkt s = true)) ∧
    (rspWay q (rspOf r.pkt st 0 0 [] s) s) :=
  ⟨{ homeC { fpT 2 3 5 0x1000 (zeros 64) with src := 9, key := 56 } ⟨9, none, 6, [6], [], [], 0⟩ with poison := [(memAddr 1 0 0x1000 / 64, 1)] }, 4, 0x1000 / 64, 0, 5, 2, ⟨{ fpT 2 3 5 0x1000 (zeros 64) with src := 9, key := 56 }, 4, none, 1⟩, by unfold combHead; decide +kernel, by decide +kernel, by unfold Passes FencedBy; decide +kernel, by unfold rspWay; decide +kernel⟩

theorem wit_HomeRequests_10 : ∃ (s : State) (b : Fin 16) (line i : Nat) (r : CombReq),
    (combOf (line * 64) ≠ b.val ∨ (∀ r ∈ s.comb, r.pkt.addr / 64 ≠ line) ∨
      (s.comb[i]? = some r ∧ r.pkt.addr / 64 = line ∧ (∀ q ∈ s.comb.take i, q.pkt.addr / 64 ≠ line) ∧ (s.comb.take i).any (fun q => shareLine q.pkt r.pkt) = true)) :=
  ⟨{ homeC { fpT 1 3 5 0x1000 (zeros 128) with src := 9, key := 55 } ⟨9, none, 6, [6], [], [], 0⟩ with comb := [⟨{ fpT 1 3 5 0x1000 (zeros 128) with src := 9, key := 55 }, 4, none, 1⟩, ⟨{ fpT 1 3 6 0x1040 (zeros 64) with src := 9, key := 55 }, 4, none, 1⟩] }, 5, 0x1040 / 64, 1, ⟨{ fpT 1 3 6 0x1040 (zeros 64) with src := 9, key := 55 }, 4, none, 1⟩, by decide +kernel⟩

theorem wit_HomeRequests_11a : ∃ (s : State) (src : Nat) (g : Option Nat),
    (s.streams.all (fun x => !(decide ((x.src, x.group) = (src, g)))) = false) :=
  ⟨{ up with now := 1000 * 1000 * 1536 + 4, streams := [⟨9, none, 6, [6], [], [], 4⟩, ⟨9, some 3, 6, [6], [], [], 4⟩] }, 9, none, by decide +kernel⟩

theorem wit_HomeRequests_11b : ∃ (s : State) (src : Nat) (g : Option Nat),
    (s.streams.all (fun x => !(decide ((x.src, x.group) = (src, g)))) = false) :=
  ⟨{ up with now := 1000 * 1000 * 1536 + 4, streams := [⟨9, none, 6, [6], [], [], 5⟩, ⟨9, some 3, 6, [6], [], [], 4⟩] }, 9, none, by decide +kernel⟩

theorem wit_Multicasts_1a : ∃ (s : State) (p : Fin 17) (i w : Nat) (k : FabPkt),
    (mcastHead p i w k s) ∧
    (bitAt 12 (groupOf k.group s) = false) ∧
    (p = 16 ∨ goesOut p { rspOf k 0 0 0 [] s with group := 0 } s) :=
  ⟨homeS 5 { fpT 3 0xFFFF 5 0x40 (zeros 64) with src := 9, group := 8 }, 5, 0, 1, { fpT 3 0xFFFF 5 0x40 (zeros 64) with src := 9, group := 8 }, by unfold mcastHead; decide +kernel, by decide +kernel, by unfold goesOut; decide +kernel⟩

theorem wit_Multicasts_1b : ∃ (s : State) (p : Fin 17) (i w : Nat) (k : FabPkt),
    (mcastHead p i w k s) ∧
    (bitAt 12 (groupOf k.group s) = false) ∧
    (p = 16 ∨ goesOut p { rspOf k 0 0 0 [] s with group := 0 } s) :=
  ⟨homeS 16 { fpT 3 0xFFFF 5 0x40 (zeros 64) with src := 3, group := 8 }, 16, 0, 1, { fpT 3 0xFFFF 5 0x40 (zeros 64) with src := 3, group := 8 }, by unfold mcastHead; decide +kernel, by decide +kernel, by unfold goesOut; decide +kernel⟩

theorem wit_Multicasts_2a : ∃ (s : State) (p : Fin 17) (i w q : Nat) (k c : FabPkt) (e : Nat),
    (mcastHead p i w k s) ∧
    (e = groupOf k.group s ∧ bitAt 12 e = true) ∧
    (s.gathers.length < 4096) ∧
    ((List.range 16).filter (fun j => bitAt (16 + j) e && decide (j ≠ p.val)) = [q]) ∧
    (c = { k with ttl := if p = 16 then k.ttl else k.ttl - 1, hop := if bitAt 14 e then k.hop + 1 else k.hop }) ∧
    (c.ttl ≠ 0 ∧ c.hop ≤ 3) ∧
    (goesOut q c s) ∧
    (k.src ≠ ownId s ∨ p = 16 ∧ (∀ f ∈ s.ftt, f.sent ≠ none)) ∧
    ((bitAt 13 e = true → Passes k s ∧ combRoom k s = true ∧ ((streamOf k s).isSome = true ∨ s.streams.length < 8192) ∧ (lineQueue (k.addr / 64) s).length + 1 < getF HJF_COMB_HOT_THR s)) :=
  ⟨{ homeS 4 { fpT 3 0xFFFF 5 0x40 (zeros 64) with src := 9, group := 8, ttl := 2, hop := 2 } with groups := [(8, 8 + 2 ^ 12 + 2 ^ 14 + 2 ^ 20 + 2 ^ 21)] }, 4, 0, 1, 5, { fpT 3 0xFFFF 5 0x40 (zeros 64) with src := 9, group := 8, ttl := 2, hop := 2 }, { fpT 3 0xFFFF 5 0x40 (zeros 64) with src := 9, group := 8, ttl := 1, hop := 3 }, 8 + 2 ^ 12 + 2 ^ 14 + 2 ^ 20 + 2 ^ 21, by unfold mcastHead; decide +kernel, by decide +kernel, by decide +kernel, by decide +kernel, by decide +kernel, by decide +kernel, by unfold goesOut; decide +kernel, by decide +kernel, by unfold Passes FencedBy; decide +kernel⟩

theorem wit_Multicasts_2b : ∃ (s : State) (p : Fin 17) (i w q : Nat) (k c : FabPkt) (e : Nat),
    (mcastHead p i w k s) ∧
    (e = groupOf k.group s ∧ bitAt 12 e = true) ∧
    (s.gathers.length < 4096) ∧
    ((List.range 16).filter (fun j => bitAt (16 + j) e && decide (j ≠ p.val)) = [q]) ∧
    (c = { k with ttl := if p = 16 then k.ttl else k.ttl - 1, hop := if bitAt 14 e then k.hop + 1 else k.hop }) ∧
    (c.ttl ≠ 0 ∧ c.hop ≤ 3) ∧
    (goesOut q c s) ∧
    (k.src ≠ ownId s ∨ p = 16 ∧ (∀ f ∈ s.ftt, f.sent ≠ none)) ∧
    ((bitAt 13 e = true → Passes k s ∧ combRoom k s = true ∧ ((streamOf k s).isSome = true ∨ s.streams.length < 8192) ∧ (lineQueue (k.addr / 64) s).length + 1 < getF HJF_COMB_HOT_THR s)) :=
  ⟨{ homeS 4 { fpT 3 0xFFFF 5 0x40 (zeros 64) with src := 9, group := 8, key := 56 } with groups := [(8, 8 + 2 ^ 12 + 2 ^ 13 + 2 ^ 21)], gathers := [⟨6, fpT 3 0xFFFF 4 0 [], 2, [7], 0, 0⟩] }, 4, 0, 1, 5, { fpT 3 0xFFFF 5 0x40 (zeros 64) with src := 9, group := 8, key := 56 }, { fpT 3 0xFFFF 5 0x40 (zeros 64) with src := 9, group := 8, key := 56, ttl := 6 }, 8 + 2 ^ 12 + 2 ^ 13 + 2 ^ 21, by unfold mcastHead; decide +kernel, by decide +kernel, by decide +kernel, by decide +kernel, by decide +kernel, by decide +kernel, by unfold goesOut; decide +kernel, by decide +kernel, by unfold Passes FencedBy; decide +kernel⟩

theorem wit_Multicasts_3 : ∃ (s : State) (p : Fin 17) (i w : Nat) (k : FabPkt) (e : Nat),
    (mcastHead p i w k s) ∧
    (e = groupOf k.group s ∧ bitAt 12 e = true ∧ bitAt 13 e = true) ∧
    (s.gathers.length < 4096) ∧
    ((List.range 16).filter (fun j => bitAt (16 + j) e && decide (j ≠ p.val)) = []) ∧
    ((∀ f ∈ List.range 8, ¬ FencedBy f k s)) ∧
    (firstReason k s ≠ none) :=
  ⟨{ homeS 4 { fpT 3 0xFFFF 5 0x40 (zeros 64) with src := 9, group := 8, key := 55 } with groups := [(8, 8 + 2 ^ 12 + 2 ^ 13 + 2 ^ 20)] }, 4, 0, 1, { fpT 3 0xFFFF 5 0x40 (zeros 64) with src := 9, group := 8, key := 55 }, 8 + 2 ^ 12 + 2 ^ 13 + 2 ^ 20, by unfold mcastHead; decide +kernel, by decide +kernel, by decide +kernel, by decide +kernel, by unfold FencedBy; decide +kernel, by decide +kernel⟩

theorem wit_Multicasts_4 : ∃ (s : State) (p : Fin 17) (i w : Nat) (k : FabPkt),
    (headIn (fun j => decide (j.type = 3)) p s = none ∨ (mcastHead p i w k s ∧ bitAt 12 (groupOf k.group s) = true ∧ (4096 ≤ s.gathers.length ∨
        (bitAt 13 (groupOf k.group s) = true ∧ Passes k s ∧ (combRoom k s = false ∨ streamRoom k s = false))))) :=
  ⟨setF HJF_COMB_CRED 0 { homeS 4 { fpT 3 0xFFFF 5 0x40 (zeros 64) with src := 9, group := 8, key := 56 } with groups := [(8, 8 + 2 ^ 12 + 2 ^ 13 + 2 ^ 20)] }, 4, 0, 1, { fpT 3 0xFFFF 5 0x40 (zeros 64) with src := 9, group := 8, key := 56 }, by unfold mcastHead Passes FencedBy; decide +kernel⟩

theorem wit_Multicasts_5a : ∃ (s : State) (n : Nat) (g : Gather),
    (s.gathers.find? (fun x => decide (x.id = n) && x.wait.isEmpty) = some g) ∧
    (g.port = 16 ∨ goesOut g.port { rspOf g.req g.status g.count 0 [] s with group := 0 } s) ∧
    (g.req.type = 3) :=
  ⟨{ homeS 4 (fpT 0 3 0 0 []) with gathers := [⟨1, { fpT 3 0xFFFF 5 0x40 [] with src := 9, group := 8 }, 5, [], 2, 12⟩] }, 1, ⟨1, { fpT 3 0xFFFF 5 0x40 [] with src := 9, group := 8 }, 5, [], 2, 12⟩, by decide +kernel, by unfold goesOut; decide +kernel, by decide +kernel⟩

theorem wit_Multicasts_5b : ∃ (s : State) (n : Nat) (g : Gather),
    (s.gathers.find? (fun x => decide (x.id = n) && x.wait.isEmpty) = some g) ∧
    (g.port = 16 ∨ goesOut g.port { rspOf g.req g.status g.count 0 [] s with group := 0 } s) ∧
    (g.req.type = 3) :=
  ⟨{ homeS 4 (fpT 0 3 0 0 []) with gathers := [⟨1, { fpT 3 0xFFFF 5 0x40 [] with src := 3, group := 8 }, 16, [], 0, 4096⟩] }, 1, ⟨1, { fpT 3 0xFFFF 5 0x40 [] with src := 3, group := 8 }, 16, [], 0, 4096⟩, by decide +kernel, by unfold goesOut; decide +kernel, by decide +kernel⟩

theorem wit_Multicasts_6 : ∃ (s : State) (n : Nat),
    ((∀ x ∈ s.gathers, x.id ≠ n ∨ x.wait ≠ [])) :=
  ⟨{ up with gathers := [⟨1, { fpT 3 0xFFFF 5 0x40 [] with src := 9, group := 8 }, 5, [7], 2, 12⟩] }, 1, by decide +kernel⟩

theorem wit_PatrolAndPageBuffers_1 : ∃ (s : State) (k : Fin 32) (l : Nat) (errs : List Nat),
    (patrolAt k l s) ∧
    (k.val < 4 ∧ l * 64 / 2 ^ 43 = 1) ∧
    (marked (l * 64) s = false) ∧
    ((∀ e ∈ errs, e ≤ 1) ∧ 0 < errs.sum) :=
  ⟨{ up with perst := false, vin := true, vio := true, now := 77, patrol := [(2, 7)] }, 0, memAddr 1 0 0 / 64, [0, 1, 0, 1], by unfold patrolAt; decide +kernel, by decide +kernel, by decide +kernel, by decide +kernel⟩

theorem wit_PatrolAndPageBuffers_2 : ∃ (s : State) (k : Fin 32) (l b : Nat) (o : Obj) (errs : List Nat),
    (patrolAt k l s) ∧
    (k.val < 4 ∧ l * 64 / 2 ^ 43 = 1) ∧
    (marked (l * 64) s = false) ∧
    (errs.foldl max 0 = 2) ∧
    (blockOf 1 (l * 64 % 2 ^ 43 / 2 ^ 21) s = some b) ∧
    (lookup (entObj (bent b s)) s.objs = some o) ∧
    (o.st = 1 ∧ o.recon = false ∧ bitAt 59 (bent b s) = false ∧ entTier (bent b s) ≠ 0) :=
  ⟨{ up with perst := false, vin := true, vio := true, now := 77, bmap := [(3, mkEnt 1 0 1 0 512 false)], objs := [(1, { objT 1 1 with block := 3, len := 512 })] }, 0, memAddr 1 0 0 / 64, 3, { objT 1 1 with block := 3, len := 512 }, [0, 2, 0, 1], by unfold patrolAt; decide +kernel, by decide +kernel, by decide +kernel, by decide +kernel, by decide +kernel, by decide +kernel, by decide +kernel⟩

theorem wit_PatrolAndPageBuffers_3 : ∃ (s : State) (k : Fin 32) (l : Nat) (errs : List Nat) (addr : Bool),
    (patrolAt k l s) ∧
    (marked (l * 64) s = true ∨ (errs.sum = 0 ∧ addr = false)) :=
  ⟨setF (MEMC_SCRUB_Tn_PERIOD 0) 1 { up with perst := false, vin := true, vio := true, now := 60 * 10 ^ 9 * 1536 + 1, patrol := [(0, memAddr 1 0 0 / 64)], patrolStart := [(0, 0)] }, 0, memAddr 1 0 0 / 64 + 1, [], false, by unfold patrolAt; decide +kernel, by decide +kernel⟩

theorem wit_PatrolAndPageBuffers_4 : ∃ (s : State) (k : Fin 32) (w : TwinLine) (x : Cell) (errs : List Nat) (addr : Bool),
    (getF (MEMC_SCRUB_Tn_PERIOD (ctlTier k - 1)) s ≠ 0 ∧ inReset s = false) ∧
    (lookup w.cell s.cells = some x) ∧
    (x.okA = true ∧ x.okB = true ∧ w.badA = true ∧ w.badB = false) :=
  ⟨{ up with perst := false, vin := true, vio := true, cells := [(7, cellOf 1 [])] }, 4, ⟨7, some 3, true, false⟩, cellOf 1 [], [1], false, by decide +kernel, by decide +kernel, by decide +kernel⟩

theorem wit_PatrolAndPageBuffers_5 : ∃ (s : State) (k : Fin 32) (w : Option TwinLine) (errs : List Nat) (addr : Bool),
    (getF (MEMC_SCRUB_Tn_PERIOD (ctlTier k - 1)) s = 0 ∨ inReset s = true) :=
  ⟨{ up with perst := true }, 4, none, [1], true, by decide +kernel⟩

theorem wit_Refetches_1 : ∃ (s : State) (i unit k : Nat) (o : Obj) (l : List Byte),
    (refetching i unit k o s) ∧
    (plainUnit o unit s) ∧
    (o.units = [(unit, k)]) ∧
    (s.fabHeld = []) ∧
    (o.bkind = 2 ∧ l.length = 4096) :=
  ⟨refetchS { objT 5 1 with block := 0, len := 512, recon := true, bkind := 2, units := [(2, 1)] } [(memAddr 1 0 0x2040 / 64, 1), (memAddr 1 0 0x2FC0 / 64, 1)], 1, 2, 1, { objT 5 1 with block := 0, len := 512, recon := true, bkind := 2, units := [(2, 1)] }, List.replicate 4096 7, by unfold refetching; decide +kernel, by unfold plainUnit; decide +kernel, by decide +kernel, by decide +kernel, by decide +kernel⟩

theorem wit_Refetches_2 : ∃ (s : State) (i unit k : Nat) (o : Obj) (l : List Byte),
    (refetching i unit k o s) ∧
    (plainUnit o unit s) ∧
    (o.units.filter (fun u => decide (u.1 ≠ unit)) ≠ []) ∧
    (s.fabHeld = []) ∧
    (o.bkind = 1 ∧ mayMaster (partFunc o.part s) s = true) :=
  ⟨{ refetchS { objT 5 1 with block := 0, len := 512, recon := true, bkind := 1, baddr := 0x40, units := [(1, 0), (2, 1)] } [(memAddr 1 0 0x2040 / 64, 1), (memAddr 1 0 0x1FC0 / 64, 1)] with fns := [(0, ⟨true, true, false, false, []⟩)] }, 1, 2, 1, { objT 5 1 with block := 0, len := 512, recon := true, bkind := 1, baddr := 0x40, units := [(1, 0), (2, 1)] }, [], by unfold refetching; decide +kernel, by unfold plainUnit; decide +kernel, by decide +kernel, by decide +kernel, by decide +kernel⟩

theorem wit_Refetches_3 : ∃ (s : State) (i unit k : Nat) (o : Obj) (r : CombReq) (l : List Byte),
    (refetching i unit k o s) ∧
    (plainUnit o unit s) ∧
    (o.units = [(unit, k)]) ∧
    (o.bkind = 2 ∧ l.length = 4096) ∧
    (s.fabHeld = [r]) ∧
    (r.pkt.type = 0 ∧ r.gather = none ∧ r.pkt.addr % 64 = 0 ∧ 64 ≤ r.pkt.len ∧ r.pkt.len % 64 = 0 ∧ r.pkt.addr % 4096 + r.pkt.len ≤ 4096) ∧
    (r.pkt.addr / 4096 = o.block * 512 + unit ∧ entObj (bent (o.block + unit / 512) s) = i) ∧
    ((∀ p ∈ List.range 8, ¬ FencedBy p r.pkt s) ∧ firstReason r.pkt s = none) ∧
    (r.pkt.src = ownId s) :=
  ⟨setF HJF_CFG_EN 1 { refetchS { objT 5 1 with block := 0, len := 512, recon := true, bkind := 2, keys := [55], perm := 1, units := [(2, 1)] } [(memAddr 1 0 0x2040 / 64, 1), (memAddr 1 0 0x2FC0 / 64, 1)] with fabHeld := [⟨{ fpT 0 0 9 0x2040 [] with key := 55, len := 64 }, 4, none, 1⟩] }, 1, 2, 1, { objT 5 1 with block := 0, len := 512, recon := true, bkind := 2, keys := [55], perm := 1, units := [(2, 1)] }, ⟨{ fpT 0 0 9 0x2040 [] with key := 55, len := 64 }, 4, none, 1⟩, List.replicate 4096 7, by unfold refetching; decide +kernel, by unfold plainUnit; decide +kernel, by decide +kernel, by decide +kernel, by decide +kernel, by decide +kernel, by decide +kernel, by unfold FencedBy; decide +kernel, by decide +kernel⟩

theorem wit_Refetches_4a : ∃ (s : State) (i unit k : Nat) (o : Obj),
    (refetching i unit k o s) ∧
    (s.fabHeld = []) ∧
    (o.bkind = 2) :=
  ⟨refetchS { objT 5 1 with block := 0, len := 512, recon := true, bkind := 2, units := [(1, 0), (2, 1)] } [], 1, 1, 0, { objT 5 1 with block := 0, len := 512, recon := true, bkind := 2, units := [(1, 0), (2, 1)] }, by unfold refetching; decide +kernel, by decide +kernel, by decide +kernel⟩

theorem wit_Refetches_4b : ∃ (s : State) (i unit k : Nat) (o : Obj),
    (refetching i unit k o s) ∧
    (s.fabHeld = []) ∧
    (o.bkind = 2) :=
  ⟨refetchS { objT 5 1 with block := 0, len := 512, recon := true, bkind := 2, units := [(1, 0), (2, 1)] } [], 1, 2, 1, { objT 5 1 with block := 0, len := 512, recon := true, bkind := 2, units := [(1, 0), (2, 1)] }, by unfold refetching; decide +kernel, by decide +kernel, by decide +kernel⟩

theorem wit_Refetches_5a : ∃ (s : State) (i : Nat) (o : Obj),
    (lookup i s.objs = some o) ∧
    (o.st = 5) ∧
    (s.fabHeld = []) :=
  ⟨{ refetchS { objT 5 1 with block := 0, len := 512, recon := true, bkind := 2, since := 4, units := [(1, 0)] } [] with now := 50 * 100000 * 1536 + 4 }, 1, { objT 5 1 with block := 0, len := 512, recon := true, bkind := 2, since := 4, units := [(1, 0)] }, by decide +kernel, by decide +kernel, by decide +kernel⟩

theorem wit_Refetches_5b : ∃ (s : State) (i : Nat) (o : Obj),
    (lookup i s.objs = some o) ∧
    (o.st = 5) ∧
    (s.fabHeld = []) :=
  ⟨{ refetchS { objT 5 1 with block := 0, len := 512, recon := true, bkind := 2, since := 4, units := [(1, 0)] } [] with now := 50 * 100000 * 1536 + 3 }, 1, { objT 5 1 with block := 0, len := 512, recon := true, bkind := 2, since := 4, units := [(1, 0)] }, by decide +kernel, by decide +kernel, by decide +kernel⟩

theorem wit_CheckUnits_1a : ∃ (s : State) (f : Fin 33) (u : Fin 64) (w : BitVec 32),
    (chkAccess f u s) ∧
    (getF (CHK_Uu_STAT_STATE u) s ≠ 1) ∧
    (w.toNat % 4 = 1) :=
  ⟨setF (CHK_Uu_LEN_LEN 20) 12288 (setF (CHK_Uu_SEEDADDR_A 20) 0x0000000480203000 up), 0, 20, 0x205, by unfold chkAccess; decide +kernel, by decide +kernel, by decide +kernel⟩

theorem wit_CheckUnits_1b : ∃ (s : State) (f : Fin 33) (u : Fin 64) (w : BitVec 32),
    (chkAccess f u s) ∧
    (getF (CHK_Uu_STAT_STATE u) s ≠ 1) ∧
    (w.toNat % 4 = 1) :=
  ⟨setF (CHK_Uu_CTRL_OWNER 20) 3 (setF (SCHED_Pp_INFO_STATE 3) 1 (setF (SCHED_Pp_INFO_FUNC 3) 7 up)), 7, 20, 0x209, by unfold chkAccess; decide +kernel, by decide +kernel, by decide +kernel⟩

theorem wit_CheckUnits_2 : ∃ (s : State) (f : Fin 33) (u : Fin 64) (w : BitVec 32) (lines : Nat) (c : Instr),
    ((c = .chkGo f u w ∧ w.toNat % 4 = 3) ∨ (c = .chkStop f u w lines ∧ w.toNat / 2 % 2 = 1)) ∧
    (chkAccess f u s) ∧
    (getF (CHK_Uu_STAT_STATE u) s ≠ 1) :=
  ⟨up, 0, 20, 0x20B, 0, .chkGo 0 20 0x20B, by decide +kernel, by unfold chkAccess; decide +kernel, by decide +kernel⟩

theorem wit_CheckUnits_3 : ∃ (s : State) (f : Fin 33) (u : Fin 64) (w : BitVec 32),
    (chkAccess f u s) ∧
    (getF (CHK_Uu_STAT_STATE u) s = 1) ∧
    (w.toNat % 4 = 1) :=
  ⟨setF (CHK_Uu_STAT_STATE 20) 1 up, 0, 20, 5, by unfold chkAccess; decide +kernel, by decide +kernel, by decide +kernel⟩

theorem wit_CheckUnits_4 : ∃ (s : State) (f : Fin 33) (u : Fin 64) (w : BitVec 32) (lines : Nat) (c : Instr),
    (c = .chkGo f u w ∨ c = .chkStop f u w lines) ∧
    (hostUp f s = false ∨ (f ≠ 0 ∧ funcPart f s ≠ some (chkOwner u s))) :=
  ⟨up, 4, 20, 5, 0, .chkGo 4 20 5, by decide +kernel, by decide +kernel⟩

theorem wit_CheckUnits_5 : ∃ (s : State) (f : Fin 33) (u : Fin 64) (w : BitVec 32) (lines n : Nat),
    (chkAccess f u s) ∧
    (getF (CHK_Uu_STAT_STATE u) s = 1) ∧
    (w.toNat / 2 % 2 = 1) ∧
    (n = (if getF (CHK_Uu_START_START u) s % 64 = 0 then 64 * lines else 64 * max 1 lines - getF (CHK_Uu_START_START u) s % 64)) ∧
    (n < getF (CHK_Uu_LEN_LEN u) s) ∧
    (n = 0 ∨ chkReadable u n s) :=
  ⟨setF (CHK_Uu_STAT_STATE 20) 1 (setF (CHK_Uu_CTRL_OWNER 20) 0 (setF (CHK_Uu_LEN_LEN 20) 12288 (setF (CHK_Uu_START_START 20) 0x1030 (coded 7 up)))), 0, 20, 2, 2, 80, by unfold chkAccess; decide +kernel, by decide +kernel, by decide +kernel, by decide +kernel, by decide +kernel, by unfold chkReadable; decide +kernel⟩

theorem wit_CheckUnits_6 : ∃ (s : State) (u : Fin 64),
    (getF (CHK_Uu_STAT_STATE u) s = 1) ∧
    (0 < getF (CHK_Uu_LEN_LEN u) s) ∧
    (chkReadable u (getF (CHK_Uu_LEN_LEN u) s) s) :=
  ⟨setF (CHK_Uu_EXPECT_EXPECT 20) 0xE3069283 (setF (CHK_Uu_RUN_RUN 20) 0xFFFFFFFF (setF (CHK_Uu_CTRL_CMP 20) 1 (setF (CHK_Uu_STAT_STATE 20) 1 (setF (CHK_Uu_CTRL_OWNER 20) 0 (setF (CHK_Uu_LEN_LEN 20) 9 (setF (CHK_Uu_START_START 20) 0x103C (let s := coded 7 up; { s with mem := writeBytes (loadAddr 0x103C s) [0x31, 0x32, 0x33, 0x34, 0x35, 0x36, 0x37, 0x38, 0x39] s.mem }))))))), 20, by decide +kernel, by decide +kernel, by unfold chkReadable; decide +kernel⟩

theorem wit_CheckUnits_7a : ∃ (s : State) (u : Fin 64) (code : Nat),
    (getF (CHK_Uu_STAT_STATE u) s = 1) ∧
    (0 < getF (CHK_Uu_LEN_LEN u) s) ∧
    ((code = 4 ∧ partSt (chkOwner u s) s = 2 ∧ chkOwner u s < 8) ∨
      ((partSt (chkOwner u s) s ≠ 2 ∨ 8 ≤ chkOwner u s) ∧
        ((code = 1 ∧ rangeOk (chkOwner u s) false (getF (CHK_Uu_START_START u) s) (chkChunk u s) s = false) ∨
        (code = 2 ∧ rangeOk (chkOwner u s) false (getF (CHK_Uu_START_START u) s) (chkChunk u s) s = true ∧ readHeld (getF (CHK_Uu_START_START u) s) s = false ∧
          poisoned (getF (CHK_Uu_START_START u) s) s = true)))) :=
  ⟨setF (CHK_Uu_STAT_STATE 20) 1 (setF (CHK_Uu_CTRL_OWNER 20) 0 (setF (CHK_Uu_LEN_LEN 20) 9 (setF (CHK_Uu_START_START 20) 0x200000 (coded 7 up)))), 20, 1, by decide +kernel, by decide +kernel, by decide +kernel⟩

theorem wit_CheckUnits_7b : ∃ (s : State) (u : Fin 64) (code : Nat),
    (getF (CHK_Uu_STAT_STATE u) s = 1) ∧
    (0 < getF (CHK_Uu_LEN_LEN u) s) ∧
    ((code = 4 ∧ partSt (chkOwner u s) s = 2 ∧ chkOwner u s < 8) ∨
      ((partSt (chkOwner u s) s ≠ 2 ∨ 8 ≤ chkOwner u s) ∧
        ((code = 1 ∧ rangeOk (chkOwner u s) false (getF (CHK_Uu_START_START u) s) (chkChunk u s) s = false) ∨
        (code = 2 ∧ rangeOk (chkOwner u s) false (getF (CHK_Uu_START_START u) s) (chkChunk u s) s = true ∧ readHeld (getF (CHK_Uu_START_START u) s) s = false ∧
          poisoned (getF (CHK_Uu_START_START u) s) s = true)))) :=
  ⟨setF (CHK_Uu_STAT_STATE 20) 1 (setF (CHK_Uu_CTRL_OWNER 20) 0 (setF (CHK_Uu_LEN_LEN 20) 9 (setF (CHK_Uu_START_START 20) 0x1FFFF0 { coded 7 up with poison := [(memAddr 1 0 0x1FFFC0 / 64, 1)] }))), 20, 2, by decide +kernel, by decide +kernel, by decide +kernel⟩

theorem wit_CheckUnits_7c : ∃ (s : State) (u : Fin 64) (code : Nat),
    (getF (CHK_Uu_STAT_STATE u) s = 1) ∧
    (0 < getF (CHK_Uu_LEN_LEN u) s) ∧
    ((code = 4 ∧ partSt (chkOwner u s) s = 2 ∧ chkOwner u s < 8) ∨
      ((partSt (chkOwner u s) s ≠ 2 ∨ 8 ≤ chkOwner u s) ∧
        ((code = 1 ∧ rangeOk (chkOwner u s) false (getF (CHK_Uu_START_START u) s) (chkChunk u s) s = false) ∨
        (code = 2 ∧ rangeOk (chkOwner u s) false (getF (CHK_Uu_START_START u) s) (chkChunk u s) s = true ∧ readHeld (getF (CHK_Uu_START_START u) s) s = false ∧
          poisoned (getF (CHK_Uu_START_START u) s) s = true)))) :=
  ⟨setF (SCHED_Pp_INFO_STATE 7) 2 (setF (CHK_Uu_STAT_STATE 20) 1 (setF (CHK_Uu_CTRL_OWNER 20) 7 (setF (CHK_Uu_LEN_LEN 20) 9 (setF (CHK_Uu_START_START 20) 0x1FFFF0 (coded 7 up))))), 20, 4, by decide +kernel, by decide +kernel, by decide +kernel⟩

theorem wit_CheckUnits_8 : ∃ (s : State) (u : Fin 64),
    (getF (CHK_Uu_STAT_STATE u) s ≠ 1) :=
  ⟨up, 20, by decide +kernel⟩

end Sys2Proof
end

/-! SUPPORT. Completion and frames: a postcondition that says nothing of the queue, and what each plain update leaves of the
registers and of the pieces of the state. -/

namespace Sys2Proof.Machine

/-! ### Completion -/

/-- A command that goes on to u completes with every postcondition of u that says nothing of the waiting commands. -/
theorem completes_of_goesOn {c : Instr} {s u : State} {post : State → Prop} (h : exec c s = goesOn s u)
    (hq : ∀ t q, post t → post { t with pending := q }) (hu : post u) : Completes c s post :=
  ⟨_, h, hq u s.pending hu⟩

/-! ### Register frames -/

variable {fs : List Fld} {s t : State}

@[simp] theorem regsExcept_refl (fs : List Fld) (s : State) : RegsExcept fs s s := fun _ _ => rfl

/-- Writing a field of the list keeps the frame. -/
theorem regsExcept_setF {f : Fld} (v : Nat) (hf : f ∈ fs) : RegsExcept fs s (setF f v t) ↔ RegsExcept fs s t :=
  forall_congr' fun _ => imp_congr_right fun hg => by rw [getF_setF_ne v t (hg f hf)]

@[simp] theorem regsExcept_setAir (n : Nat) (x : AirDom) : RegsExcept fs s (setAir n x t) ↔ RegsExcept fs s t := Iff.rfl

@[simp] theorem regsExcept_withAir (a : AirState) : RegsExcept fs s { t with toAirState := a } ↔ RegsExcept fs s t := Iff.rfl

@[simp] theorem regsExcept_tally (g : Nat) (f : Fld) (n : Nat) : RegsExcept fs s (tally g f n t) ↔ RegsExcept fs s t := Iff.rfl

@[simp] theorem regsExcept_setFn (f : Nat) (x : Func) : RegsExcept fs s (setFn f x t) ↔ RegsExcept fs s t := Iff.rfl

/-- Fields written one after the other: every other field holds what it held. -/
theorem regsExcept_foldl_setF (F : Nat → Fld) (v : Nat → Nat) (l : List Nat) (s : State) :
    RegsExcept (l.map F) s (l.foldl (fun t n => setF (F n) (v n) t) s) := by
  induction l generalizing s with
  | nil => exact regsExcept_refl _ _
  | cons a l ih =>
    intro f hf
    rw [List.map_cons, List.forall_mem_cons] at hf
    exact (ih (setF (F a) (v a) s) f hf.2).trans (getF_setF_ne _ _ hf.1)

/-- Fields of distinct places written one after the other: each reads as its own value. -/
theorem getF_foldl_setF (F : Nat → Fld) (v : Nat → Nat) (l : List Nat) (s : State)
    (hl : l.Pairwise fun a b => (F a).key ≠ (F b).key) {n : Nat} (hn : n ∈ l) :
    getF (F n) (l.foldl (fun t n => setF (F n) (v n) t) s) = v n % 2 ^ (F n).width := by
  induction l generalizing s with
  | nil => cases hn
  | cons a l ih =>
    rw [List.pairwise_cons] at hl
    obtain rfl | hn := List.mem_cons.mp hn
    · have hrest := regsExcept_foldl_setF F v l (setF (F n) (v n) s) (F n) (by simpa using hl.1)
      exact hrest.trans (getF_setF_same _ _ _)
    · exact ih (setF (F a) (v a) s) hl.2 hn

/-! ### Frames of pieces -/

variable {ps : List Piece}

@[simp] theorem frame_refl (ps : List Piece) (s : State) : Frame ps s s := by
  intro g _
  cases g <;> simp [Piece.same]

/-- Two states that are the same in every piece but one: a frame that names that piece does not tell them apart. -/
theorem frame_congr {u : State} (p : Piece) (h : ∀ g ≠ p, g.same s t ↔ g.same s u) (hp : p ∈ ps) : Frame ps s t ↔ Frame ps s u :=
  forall_congr' fun g => imp_congr_right fun hg => h g (fun e => hg (e ▸ hp))

@[simp] theorem frame_setF (f : Fld) (v : Nat) : Frame ps s (setF f v t) ↔ Frame ps s t := Iff.rfl

theorem frame_withAir (a : AirState) (hp : .air ∈ ps) : Frame ps s { t with toAirState := a } ↔ Frame ps s t :=
  frame_congr .air (fun g hg => by cases g with | air => exact absurd rfl hg | _ => exact Iff.rfl) hp

theorem frame_setAir (n : Nat) (x : AirDom) (hp : .air ∈ ps) : Frame ps s (setAir n x t) ↔ Frame ps s t := frame_withAir _ hp

theorem frame_withCaptured (c : List (Nat × Nat × Nat)) (hp : .captured ∈ ps) : Frame ps s { t with captured := c } ↔ Frame ps s t :=
  frame_congr .captured (fun g hg => by cases g with | captured => exact absurd rfl hg | _ => exact Iff.rfl) hp

theorem frame_tally (g : Nat) (f : Fld) (n : Nat) (hp : .tallies ∈ ps) : Frame ps s (tally g f n t) ↔ Frame ps s t :=
  frame_congr .tallies (fun g hg => by cases g with | tallies => exact absurd rfl hg | _ => exact Iff.rfl) hp

theorem frame_setFn (f : Nat) (x : Func) (hp : .bus ∈ ps) : Frame ps s (setFn f x t) ↔ Frame ps s t :=
  frame_congr .bus (fun g hg => by cases g with | bus => exact absurd rfl hg | _ => exact Iff.rfl) hp

theorem frame_withMsgs (m : List Msg) (hp : .bus ∈ ps) : Frame ps s { t with msgs := m } ↔ Frame ps s t :=
  frame_congr .bus (fun g hg => by cases g with | bus => exact absurd rfl hg | _ => exact Iff.rfl) hp

theorem frame_foldl_setF (F : Nat → Fld) (v : Nat → Nat) (l : List Nat) : Frame ps s (l.foldl (fun t n => setF (F n) (v n) t) s) := by
  suffices h : ∀ t, Frame ps s t → Frame ps s (l.foldl (fun t n => setF (F n) (v n) t) t) from h s (frame_refl ps s)
  induction l with
  | nil => exact fun _ h => h
  | cons a l ih => exact fun t h => ih (setF (F a) (v a) t) h

/-! ### Errors of the host interface (R435, R448) -/

theorem regsExcept_noMaster {f : Nat} (h1 : DEV_HOSTERR_NO_MASTER ∈ fs) (h2 : DEV_HOSTERR_FUNC ∈ fs) :
    RegsExcept fs s (noMaster f t) ↔ RegsExcept fs s t := by
  simp [noMaster, hostErrBit, regsExcept_setF, h1, h2]

theorem regsExcept_raiseIn {f v : Nat} (h1 : DEV_HOSTERR_NO_MASTER ∈ fs) (h2 : DEV_HOSTERR_FUNC ∈ fs) :
    RegsExcept fs s (raiseIn f v t) ↔ RegsExcept fs s t := by
  unfold raiseIn
  split
  · split
    · exact regsExcept_setFn _ _
    · exact Iff.rfl
  · exact regsExcept_noMaster h1 h2

/-- Raising the vector of an error changes no register but the error of a function that may not master the bus. -/
theorem regsExcept_hostErrRaise {e : Fld} (h1 : DEV_HOSTERR_NO_MASTER ∈ fs) (h2 : DEV_HOSTERR_FUNC ∈ fs) :
    RegsExcept fs s (hostErrRaise e t) ↔ RegsExcept fs s t := by
  unfold hostErrRaise
  split
  · exact regsExcept_raiseIn h1 h2
  · exact Iff.rfl

theorem regsExcept_hostErr {e : Fld} {f : Nat} (he : e ∈ fs) (h1 : DEV_HOSTERR_NO_MASTER ∈ fs) (h2 : DEV_HOSTERR_FUNC ∈ fs) :
    RegsExcept fs s (hostErr e f t) ↔ RegsExcept fs s t := by
  simp [hostErr, hostErrBit, regsExcept_hostErrRaise, regsExcept_setF, he, h1, h2]

theorem frame_raiseIn {f v : Nat} (hb : .bus ∈ ps) (ht : .tallies ∈ ps) : Frame ps s (raiseIn f v t) ↔ Frame ps s t := by
  unfold raiseIn
  split
  · split
    · exact frame_setFn _ _ hb
    · exact frame_withMsgs _ hb
  · simp [noMaster, hostErrBit, frame_tally, ht]

theorem frame_hostErr {e : Fld} {f : Nat} (hb : .bus ∈ ps) (ht : .tallies ∈ ps) : Frame ps s (hostErr e f t) ↔ Frame ps s t := by
  unfold hostErr hostErrRaise
  split
  · rw [frame_raiseIn hb ht]; exact Iff.rfl
  · exact Iff.rfl

/-- Recording an error leaves air time, and with it what the last read returned, as it was. -/
theorem hostErr_toAirState (e : Fld) (f : Nat) (s : State) : (hostErr e f s).toAirState = s.toAirState := by
  unfold hostErr hostErrRaise
  split
  · exact (raiseIn_frame _ _ _).1
  · rfl

/-- An error that is recorded reads as set, whatever raising its vector does (R448). -/
theorem flagF_hostErr {e : Fld} {f : Nat} (hw : 0 < e.width) (h1 : e.key ≠ DEV_HOSTERR_NO_MASTER.key) (h2 : e.key ≠ DEV_HOSTERR_FUNC.key)
    (s : State) : flagF e (hostErr e f s) = true := by
  have hraise : getF e (hostErr e f s) = getF e (hostErrBit e f s) :=
    (regsExcept_hostErrRaise (fs := [DEV_HOSTERR_NO_MASTER, DEV_HOSTERR_FUNC]) (by simp) (by simp)).mpr (regsExcept_refl _ _) e (by simp [h1, h2])
  have hone : getF e (hostErrBit e f s) = 1 := by
    rw [hostErrBit, getF_setF_ne _ _ h2, getF_setF_same, Nat.mod_eq_of_lt (Nat.one_lt_two_pow (by omega))]
  rw [flagF_iff, hraise, hone]
  exact Nat.one_ne_zero

end Sys2Proof.Machine

/-! SUPPORT. The registers of a Time Domain: where their fields lie, and what the writes of EN and SRC do (R31, R40, R43, R60). -/

namespace Sys2Proof.Machine

/-! ### Where the fields of a Time Domain lie -/

section Keys

variable (n : Nat)

@[simp] theorem key_AIR_TDn_CTRL_EN : (AIR_TDn_CTRL_EN n).key = n * 0x4000 + 0x4000000 := by
  simp only [Fld.key, AIR_TDn_CTRL_EN, AIR_TDn_CTRL]; omega
@[simp] theorem key_AIR_TDn_CTRL_SRC : (AIR_TDn_CTRL_SRC n).key = n * 0x4000 + 0x4000001 := by
  simp only [Fld.key, AIR_TDn_CTRL_SRC, AIR_TDn_CTRL]; omega
@[simp] theorem key_AIR_TDn_CTRL_SYNCE : (AIR_TDn_CTRL_SYNCE n).key = n * 0x4000 + 0x4000004 := by
  simp only [Fld.key, AIR_TDn_CTRL_SYNCE, AIR_TDn_CTRL]; omega
@[simp] theorem key_AIR_TDn_CTRL_PTPDOM : (AIR_TDn_CTRL_PTPDOM n).key = n * 0x4000 + 0x4000008 := by
  simp only [Fld.key, AIR_TDn_CTRL_PTPDOM, AIR_TDn_CTRL]; omega
@[simp] theorem key_AIR_TDn_COUNT_VALUE : (AIR_TDn_COUNT_VALUE n).key = n * 0x4000 + 0x4000200 := by
  simp only [Fld.key, AIR_TDn_COUNT_VALUE, AIR_TDn_COUNT]; omega
@[simp] theorem key_AIR_TDn_EPOCH_EPOCH : (AIR_TDn_EPOCH_EPOCH n).key = n * 0x4000 + 0x4000400 := by
  simp only [Fld.key, AIR_TDn_EPOCH_EPOCH, AIR_TDn_EPOCH]; omega
@[simp] theorem key_AIR_TDn_STATE_STATE : (AIR_TDn_STATE_STATE n).key = n * 0x4000 + 0x4000600 := by
  simp only [Fld.key, AIR_TDn_STATE_STATE, AIR_TDn_STATE]; omega
@[simp] theorem key_AIR_TDn_STATE_SLEWING : (AIR_TDn_STATE_SLEWING n).key = n * 0x4000 + 0x4000603 := by
  simp only [Fld.key, AIR_TDn_STATE_SLEWING, AIR_TDn_STATE]; omega
@[simp] theorem key_AIR_TDn_HOLDOVER_ACTIVE : (AIR_TDn_HOLDOVER_ACTIVE n).key = n * 0x4000 + 0x4000800 := by
  simp only [Fld.key, AIR_TDn_HOLDOVER_ACTIVE, AIR_TDn_HOLDOVER]; omega
@[simp] theorem key_AIR_TDn_HOLDOVER_AGE : (AIR_TDn_HOLDOVER_AGE n).key = n * 0x4000 + 0x4000820 := by
  simp only [Fld.key, AIR_TDn_HOLDOVER_AGE, AIR_TDn_HOLDOVER]; omega
@[simp] theorem key_AIR_TDn_RATE_NOW : (AIR_TDn_RATE_NOW n).key = n * 0x4000 + 0x4000C00 := by
  simp only [Fld.key, AIR_TDn_RATE_NOW, AIR_TDn_RATE]; omega

end Keys

/-! ### The servo's state -/

variable {n : Nat} {s : State}

@[simp] theorem getF_setAir (f : Fld) (n : Nat) (x : AirDom) (s : State) : getF f (setAir n x s) = getF f s := rfl

@[simp] theorem airOf_setF (m : Nat) (f : Fld) (v : Nat) (s : State) : airOf m (setF f v s) = airOf m s := rfl

@[simp] theorem airOf_setAir_same (n : Nat) (x : AirDom) (s : State) : airOf n (setAir n x s) = x := by
  simp [airOf, setAir]

/-! ### Entering a state (R40, R60) -/

theorem tdState_enterState (n st : Nat) (s : State) : tdState n (enterState n st s) = st % 8 := by
  rw [tdState, enterState, getF_setF_ne _ _ (by simp), getF_setF_ne _ _ (by simp), getF_setAir, getF_setF_same]; rfl

theorem airOf_enterState (n st : Nat) (s : State) : airOf n (enterState n st s) = { airOf n s with run := 0 } := by
  simp [enterState]

/-- Entering a state leaves every register of another place as it was. -/
theorem getF_enterState (st : Nat) {g : Fld} (h1 : g.key ≠ (AIR_TDn_STATE_STATE n).key) (h2 : g.key ≠ (AIR_TDn_HOLDOVER_ACTIVE n).key)
    (h3 : g.key ≠ (AIR_TDn_HOLDOVER_AGE n).key) : getF g (enterState n st s) = getF g s := by
  rw [enterState, getF_setF_ne _ _ h3, getF_setF_ne _ _ h2, getF_setAir, getF_setF_ne _ _ h1]

theorem regsExcept_enterState {fs : List Fld} {t : State} (st : Nat) (h1 : AIR_TDn_STATE_STATE n ∈ fs) (h2 : AIR_TDn_HOLDOVER_ACTIVE n ∈ fs)
    (h3 : AIR_TDn_HOLDOVER_AGE n ∈ fs) : RegsExcept fs s (enterState n st t) ↔ RegsExcept fs s t := by
  simp [enterState, regsExcept_setF, h1, h2, h3]

theorem frame_enterState {ps : List Piece} {t : State} (st : Nat) (hp : .air ∈ ps) : Frame ps s (enterState n st t) ↔ Frame ps s t := by
  simp [enterState, frame_setAir, hp]

/-! ### Writes of CTRL (R31, R43) -/

/-- The state with SRC, SYNCE and PTPDOM of domain n written as a write of v to its CTRL gives them. -/
def ctrlFields (n v : Nat) (s : State) : State :=
  setF (AIR_TDn_CTRL_PTPDOM n) (v / 256) (setF (AIR_TDn_CTRL_SYNCE n) (v / 16) (writeSrc n (v / 2 % 8) s))

/-- TD_CTRL_EN_WRITE, one case for what the write does to EN. -/
theorem execTdCtrlEnWrite_eq (n : Fin 8) (w : BitVec 32) (s : State) (hup : hostUp 0 s = true) :
    execTdCtrlEnWrite n w s = goesOn s (
      if w.toNat % 2 = 1 then
        if flagF (AIR_TDn_CTRL_EN n) s then ctrlFields n w.toNat s else domainEnable n (ctrlFields n w.toNat s)
      else if flagF (AIR_TDn_CTRL_EN n) s ∧ cellBound n s = false then ctrlFields n w.toNat (domainDisable n s)
      else ctrlFields n w.toNat s) := by
  by_cases hen : w.toNat % 2 = 1
  · by_cases hwas : flagF (AIR_TDn_CTRL_EN n) s = true
    · simp [execTdCtrlEnWrite, ctrlFields, hup, hen, hwas]
    · simp [execTdCtrlEnWrite, ctrlFields, hup, hen, hwas]
  · by_cases hoff : flagF (AIR_TDn_CTRL_EN n) s ∧ cellBound n s = false
    · simp [execTdCtrlEnWrite, ctrlFields, hup, hen, hoff]
    · simp [execTdCtrlEnWrite, ctrlFields, hup, hen, hoff]

/-- On a domain that is not LOCKED, a write of SRC writes the field where R31 allows the value, and does nothing else. -/
theorem writeSrc_of_not_locked (src : Nat) (h : tdState n s ≠ 3) :
    writeSrc n src s = if srcAllowed n src then setF (AIR_TDn_CTRL_SRC n) src s else s := by
  simp [writeSrc, h]

section CtrlFields

variable {v : Nat} (h : tdState n s ≠ 3)
include h

theorem regsExcept_ctrlFields {fs : List Fld} {t : State} (h1 : AIR_TDn_CTRL_SRC n ∈ fs) (h2 : AIR_TDn_CTRL_SYNCE n ∈ fs)
    (h3 : AIR_TDn_CTRL_PTPDOM n ∈ fs) : RegsExcept fs t (ctrlFields n v s) ↔ RegsExcept fs t s := by
  rw [ctrlFields, regsExcept_setF _ h3, regsExcept_setF _ h2, writeSrc_of_not_locked _ h]
  split
  · exact regsExcept_setF _ h1
  · exact Iff.rfl

theorem frame_ctrlFields {ps : List Piece} {t : State} : Frame ps t (ctrlFields n v s) ↔ Frame ps t s := by
  rw [ctrlFields, frame_setF, frame_setF, writeSrc_of_not_locked _ h]
  split <;> exact Iff.rfl

/-- The three fields of CTRL beside EN leave every register of another place as it was. -/
theorem getF_ctrlFields {g : Fld} (h1 : g.key ≠ (AIR_TDn_CTRL_SRC n).key) (h2 : g.key ≠ (AIR_TDn_CTRL_SYNCE n).key)
    (h3 : g.key ≠ (AIR_TDn_CTRL_PTPDOM n).key) : getF g (ctrlFields n v s) = getF g s :=
  (regsExcept_ctrlFields h (fs := [AIR_TDn_CTRL_SRC n, AIR_TDn_CTRL_SYNCE n, AIR_TDn_CTRL_PTPDOM n]) (by simp) (by simp) (by simp)).mpr
    (regsExcept_refl _ _) g (by simp only [List.forall_mem_cons]; exact ⟨h1, h2, h3, by simp⟩)

theorem src_ctrlFields : getF (AIR_TDn_CTRL_SRC n) (ctrlFields n v s) =
    if srcAllowed n (v / 2 % 8) then v / 2 % 8 else getF (AIR_TDn_CTRL_SRC n) s := by
  rw [ctrlFields, getF_setF_ne _ _ (by simp), getF_setF_ne _ _ (by simp), writeSrc_of_not_locked _ h]
  split
  · rw [getF_setF_same]; exact Nat.mod_mod _ _
  · rfl

end CtrlFields

theorem synce_ctrlFields (n v : Nat) (s : State) : getF (AIR_TDn_CTRL_SYNCE n) (ctrlFields n v s) = v / 16 % 2 := by
  rw [ctrlFields, getF_setF_ne _ _ (by simp), getF_setF_same]; rfl

theorem ptpdom_ctrlFields (n v : Nat) (s : State) : getF (AIR_TDn_CTRL_PTPDOM n) (ctrlFields n v s) = v / 256 % 256 := by
  rw [ctrlFields, getF_setF_same]; rfl

/-! ### Enabling and disabling a domain (R39, R40, R43) -/

theorem tdState_domainEnable (n : Nat) (s : State) : tdState n (domainEnable n s) = 1 := tdState_enterState _ _ _

theorem tdState_domainDisable (n : Nat) (s : State) : tdState n (domainDisable n s) = 0 := tdState_enterState _ _ _

theorem en_domainEnable (n : Nat) (s : State) : getF (AIR_TDn_CTRL_EN n) (domainEnable n s) = 1 := by
  rw [domainEnable, getF_enterState _ (by simp) (by simp) (by simp), getF_setF_ne _ _ (by simp), getF_setF_ne _ _ (by simp), getF_setAir, getF_setF_same]
  rfl

theorem en_domainDisable (n : Nat) (s : State) : getF (AIR_TDn_CTRL_EN n) (domainDisable n s) = 0 := by
  simp [domainDisable, getF_enterState, getF_setF_ne]

theorem rate_domainEnable (n : Nat) (s : State) : getF (AIR_TDn_RATE_NOW n) (domainEnable n s) = 0 := by
  simp [domainEnable, getF_enterState, getF_setF_ne]

/-- An enabled domain starts with I at 0 and R clear. -/
theorem airOf_domainEnable (n : Nat) (s : State) : (airOf n (domainEnable n s)).integ = 0 ∧ (airOf n (domainEnable n s)).ref = none := by
  simp [domainEnable, airOf_enterState]

/-- The registers that enabling or disabling domain n may change. -/
def domainRegs (n : Nat) : List Fld :=
  [AIR_TDn_CTRL_EN n, AIR_TDn_STATE_STATE n, AIR_TDn_STATE_SLEWING n, AIR_TDn_HOLDOVER_ACTIVE n, AIR_TDn_HOLDOVER_AGE n]

theorem regsExcept_domainEnable {fs : List Fld} {t : State} (h : domainRegs n ⊆ fs) (hr : AIR_TDn_RATE_NOW n ∈ fs) :
    RegsExcept fs s (domainEnable n t) ↔ RegsExcept fs s t := by
  simp only [domainRegs, List.cons_subset] at h
  simp [domainEnable, regsExcept_enterState, regsExcept_setF, h, hr]

theorem regsExcept_domainDisable {fs : List Fld} {t : State} (h : domainRegs n ⊆ fs) :
    RegsExcept fs s (domainDisable n t) ↔ RegsExcept fs s t := by
  simp only [domainRegs, List.cons_subset] at h
  simp [domainDisable, regsExcept_enterState, regsExcept_setF, h]

theorem frame_domainEnable {ps : List Piece} {t : State} (hp : .air ∈ ps) : Frame ps s (domainEnable n t) ↔ Frame ps s t := by
  simp [domainEnable, frame_enterState, frame_setAir, hp]

theorem frame_domainDisable {ps : List Piece} {t : State} (hp : .air ∈ ps) : Frame ps s (domainDisable n t) ↔ Frame ps s t := by
  simp [domainDisable, frame_enterState, frame_setAir, hp]

/-- A register that enabling a domain does not write holds what it held. -/
theorem getF_domainEnable {g : Fld} (h : ∀ x ∈ AIR_TDn_RATE_NOW n :: domainRegs n, g.key ≠ x.key) : getF g (domainEnable n s) = getF g s :=
  (regsExcept_domainEnable (List.subset_cons_self _ _) List.mem_cons_self).mpr (regsExcept_refl _ _) g h

theorem getF_domainDisable {g : Fld} (h : ∀ x ∈ domainRegs n, g.key ≠ x.key) : getF g (domainDisable n s) = getF g s :=
  (regsExcept_domainDisable (List.Subset.refl _)).mpr (regsExcept_refl _ _) g h

end Sys2Proof.Machine

/-! SUPPORT. The registers of air time that act when they are read or written (R36, R43, R49, R50, R53). -/

namespace Sys2Proof.Machine

/-! ### The time-stamp queues and the samples (R49, R50, R53) -/

/-- A read of ENT1 returns the upper half of the head of the queue and removes the head (R49). -/
theorem tsqEnt1Read_completes {s : State} (p : Fin 4) (hup : hostUp 0 s = true) :
    Completes (.tsqEnt1Read p) s (fun t =>
      t.rdata = (look [] p.val s.airTsq).headD 0 / 2 ^ 64 ∧ t.rstat = 0 ∧ look [] p.val t.airTsq = (look [] p.val s.airTsq).tail ∧
      getF (AIR_FHp_TSQ_STAT_COUNT p) t = (look [] p.val s.airTsq).tail.length % 2 ^ (AIR_FHp_TSQ_STAT_COUNT p).width ∧
      RegsExcept [AIR_FHp_TSQ_STAT_COUNT p, AIR_FHp_TSQ_ENT0_LOW p, AIR_FHp_TSQ_ENT1_HIGH p] s t ∧ Frame [.air] s t) := by
  refine completes_of_goesOn (u := showTsq p { s with airTsq := put p (some (look [] p.val s.airTsq).tail) s.airTsq, rdata := (look [] p.val s.airTsq).headD 0 / 2 ^ 64, rstat := 0 }) ?_ (fun _ _ h => h) ?_
  · show execTsqEnt1Read p s = _; simp only [execTsqEnt1Read, hup]; rfl
  · simp [showTsq, regsExcept_setF, frame_withAir]

/-- A read of TSQ_LOST returns the count of dropped stamps and clears it (R14, R50). -/
theorem tsqLostRead_completes {s : State} (p : Fin 4) (hup : hostUp 0 s = true) :
    Completes (.tsqLostRead p) s (fun t =>
      t.rdata = getF (AIR_FHp_TSQ_LOST_LOST p) s ∧ t.rstat = 0 ∧ getF (AIR_FHp_TSQ_LOST_LOST p) t = 0 ∧
      RegsExcept [AIR_FHp_TSQ_LOST_LOST p] s t ∧ Frame [.air] s t) := by
  refine completes_of_goesOn (u := setF (AIR_FHp_TSQ_LOST_LOST p) 0 { s with rdata := getF (AIR_FHp_TSQ_LOST_LOST p) s, rstat := 0 })
    ?_ (fun _ _ h => h) ?_
  · show execTsqLostRead p s = _; simp only [execTsqLostRead, hup]; rfl
  · simp [regsExcept_setF, frame_withAir]

/-- A write of AIR_SNAP.GO samples all eight Air Counters (R53). -/
theorem airSnapGo_completes {s : State} (hup : hostUp 0 s = true) :
    Completes .airSnapGo s (fun t =>
      (∀ n ∈ domains, getF (AIR_SNAP_TDn_VALUE n) t = counter n s % 2 ^ 64) ∧
      RegsExcept (domains.map AIR_SNAP_TDn_VALUE) s t ∧ Frame [] s t) := by
  refine completes_of_goesOn (u := domains.foldl (fun t n => setF (AIR_SNAP_TDn_VALUE n) (counter n s) t) s) ?_ (fun _ _ h => h) ?_
  · show execAirSnapGo s = _; simp only [execAirSnapGo, hup]; rfl
  · have hdistinct : domains.Pairwise fun a b => (AIR_SNAP_TDn_VALUE a).key ≠ (AIR_SNAP_TDn_VALUE b).key := by decide
    exact ⟨fun n hn => getF_foldl_setF _ (fun n => counter n s) _ _ hdistinct hn, regsExcept_foldl_setF _ _ _ _, frame_foldl_setF _ _ _⟩

/-! ### EPOCH (R36) -/

/-- A write of EPOCH is refused while a cell is bound (R36). -/
theorem epochWrite_completes_of_bound {s : State} (n : Fin 8) (v : BitVec 64) (hup : hostUp 0 s = true) (hb : cellBound n s = true) :
    Completes (.epochWrite n v) s (fun t =>
      getF (AIR_TDn_STATE_EPOCH_REFUSED n) t = 1 ∧ RegsExcept [AIR_TDn_STATE_EPOCH_REFUSED n] s t ∧ Frame [] s t) := by
  refine completes_of_goesOn (u := setF (AIR_TDn_STATE_EPOCH_REFUSED n) 1 s) ?_ (fun _ _ h => h) ?_
  · show execEpochWrite n v s = _; simp only [execEpochWrite, hup, hb]; rfl
  · refine ⟨?_, ?_, ?_⟩
    · rw [getF_setF_same]; rfl
    · simp [regsExcept_setF]
    · simp

/-- A write of EPOCH without a bound cell makes a step of the old EPOCH minus the new one due; the counter itself stays (R36). -/
theorem epochWrite_completes_of_free {s : State} (n : Fin 8) (v : BitVec 64) (hup : hostUp 0 s = true) (hb : cellBound n s = false) :
    Completes (.epochWrite n v) s (fun t =>
      getF (AIR_TDn_EPOCH_EPOCH n) t = v.toNat ∧
      (airOf n t).due = (airOf n s).due + (getF (AIR_TDn_EPOCH_EPOCH n) s : Int) - v.toNat ∧ airTotal n t = airTotal n s ∧
      RegsExcept [AIR_TDn_EPOCH_EPOCH n] s t ∧ Frame [.air] s t) := by
  refine completes_of_goesOn (u := setF (AIR_TDn_EPOCH_EPOCH n) v.toNat
    (setAir n { airOf n s with due := (airOf n s).due + (getF (AIR_TDn_EPOCH_EPOCH n) s : Int) - (v.toNat : Int) } s)) ?_ (fun _ _ h => h) ?_
  · show execEpochWrite n v s = _; simp only [execEpochWrite, hup, hb]; rfl
  · refine ⟨?_, by simp, ?_, by simp [regsExcept_setF], by simp [frame_setAir]⟩
    · rw [getF_setF_same]; exact Nat.mod_eq_of_lt v.isLt
    · simp [airTotal, counter, getF_setF_ne]

/-! ### CTRL (R31, R40, R43) -/

/-- A write of CTRL with EN enables a DISABLED domain into FREE and gives its other fields their values (R40, R43). -/
theorem tdCtrlEnWrite_completes_enable {s : State} (n : Fin 8) (w : BitVec 32) (hup : hostUp 0 s = true)
    (hoff : flagF (AIR_TDn_CTRL_EN n) s = false) (hst : tdState n s = 0) (hen : w.toNat % 2 = 1) :
    Completes (.tdCtrlEnWrite n w) s (fun t =>
      getF (AIR_TDn_CTRL_EN n) t = 1 ∧ tdState n t = 1 ∧ getF (AIR_TDn_RATE_NOW n) t = 0 ∧ (airOf n t).integ = 0 ∧ (airOf n t).ref = none ∧
      (srcAllowed n (w.toNat / 2 % 8) = true → getF (AIR_TDn_CTRL_SRC n) t = w.toNat / 2 % 8) ∧
      (srcAllowed n (w.toNat / 2 % 8) = false → getF (AIR_TDn_CTRL_SRC n) t = getF (AIR_TDn_CTRL_SRC n) s) ∧
      getF (AIR_TDn_CTRL_SYNCE n) t = w.toNat / 16 % 2 ∧ getF (AIR_TDn_CTRL_PTPDOM n) t = w.toNat / 256 % 256 ∧
      RegsExcept [AIR_TDn_CTRL_EN n, AIR_TDn_CTRL_SRC n, AIR_TDn_CTRL_SYNCE n, AIR_TDn_CTRL_PTPDOM n, AIR_TDn_STATE_STATE n, AIR_TDn_STATE_SLEWING n,
        AIR_TDn_RATE_NOW n, AIR_TDn_HOLDOVER_ACTIVE n, AIR_TDn_HOLDOVER_AGE n] s t ∧ Frame [.air] s t) := by
  have hlock : tdState n s ≠ 3 := by omega
  refine completes_of_goesOn (u := domainEnable n (ctrlFields n w.toNat s)) ?_ (fun _ _ h => h) ?_
  · show execTdCtrlEnWrite n w s = _; simp [execTdCtrlEnWrite_eq n w s hup, hen, hoff]
  · have hsrc := src_ctrlFields (v := w.toNat) hlock
    rw [← getF_domainEnable (n := n) (by simp [domainRegs])] at hsrc
    refine ⟨en_domainEnable _ _, tdState_domainEnable _ _, rate_domainEnable _ _, (airOf_domainEnable _ _).1, (airOf_domainEnable _ _).2,
      fun h => by rw [hsrc, if_pos h], fun h => by rw [hsrc, if_neg (by simp [h])], ?_, ?_, ?_, ?_⟩
    · rw [getF_domainEnable (by simp [domainRegs]), synce_ctrlFields]
    · rw [getF_domainEnable (by simp [domainRegs]), ptpdom_ctrlFields]
    · rw [regsExcept_domainEnable (by simp [domainRegs]) (by simp)]; simp [regsExcept_ctrlFields hlock]
    · simp [frame_domainEnable, frame_ctrlFields hlock]

/-- A write of CTRL without EN disables a domain without bound cells; its counter holds (R40, R43). -/
theorem tdCtrlEnWrite_completes_disable {s : State} (n : Fin 8) (w : BitVec 32) (hup : hostUp 0 s = true)
    (hon : flagF (AIR_TDn_CTRL_EN n) s = true) (hb : cellBound n s = false) (hen : w.toNat % 2 = 0) :
    Completes (.tdCtrlEnWrite n w) s (fun t =>
      getF (AIR_TDn_CTRL_EN n) t = 0 ∧ tdState n t = 0 ∧ counter n t = counter n s ∧
      RegsExcept [AIR_TDn_CTRL_EN n, AIR_TDn_CTRL_SRC n, AIR_TDn_CTRL_SYNCE n, AIR_TDn_CTRL_PTPDOM n, AIR_TDn_STATE_STATE n, AIR_TDn_STATE_SLEWING n,
        AIR_TDn_HOLDOVER_ACTIVE n, AIR_TDn_HOLDOVER_AGE n] s t ∧ Frame [.air] s t) := by
  have hst := tdState_domainDisable n s
  have hlock : tdState n (domainDisable n s) ≠ 3 := by omega
  refine completes_of_goesOn (u := ctrlFields n w.toNat (domainDisable n s)) ?_ (fun _ _ h => h) ?_
  · show execTdCtrlEnWrite n w s = _; simp [execTdCtrlEnWrite_eq n w s hup, hen, hon, hb]
  · refine ⟨?_, ?_, ?_, ?_, ?_⟩
    · rw [getF_ctrlFields hlock (by simp) (by simp) (by simp), en_domainDisable]
    · rw [tdState, getF_ctrlFields hlock (by simp) (by simp) (by simp)]; exact hst
    · rw [counter, getF_ctrlFields hlock (by simp) (by simp) (by simp), getF_domainDisable (by simp [domainRegs])]; rfl
    · rw [regsExcept_ctrlFields hlock (by simp) (by simp) (by simp), regsExcept_domainDisable (by simp [domainRegs])]; simp
    · simp [frame_ctrlFields hlock, frame_domainDisable]

/-- A clear of EN has no effect on a domain with bound cells (R43). -/
theorem tdCtrlEnWrite_completes_bound {s : State} (n : Fin 8) (w : BitVec 32) (hup : hostUp 0 s = true)
    (hon : flagF (AIR_TDn_CTRL_EN n) s = true) (hb : cellBound n s = true) (hen : w.toNat % 2 = 0) (hlock : tdState n s ≠ 3) :
    Completes (.tdCtrlEnWrite n w) s (fun t =>
      flagF (AIR_TDn_CTRL_EN n) t = true ∧ tdState n t = tdState n s ∧
      RegsExcept [AIR_TDn_CTRL_SRC n, AIR_TDn_CTRL_SYNCE n, AIR_TDn_CTRL_PTPDOM n] s t ∧ Frame [] s t) := by
  refine completes_of_goesOn (u := ctrlFields n w.toNat s) ?_ (fun _ _ h => h) ?_
  · show execTdCtrlEnWrite n w s = _; simp [execTdCtrlEnWrite_eq n w s hup, hen, hb]
  · refine ⟨?_, ?_, ?_, ?_⟩
    · rw [flagF, getF_ctrlFields hlock (by simp) (by simp) (by simp)]; exact hon
    · rw [tdState, getF_ctrlFields hlock (by simp) (by simp) (by simp)]; rfl
    · simp [regsExcept_ctrlFields hlock]
    · simp [frame_ctrlFields hlock]

end Sys2Proof.Machine

namespace Sys2Proof
open Machine

/-- Settles O7: each access by its own rule; the writes of CTRL by whether the domain is enabled and has bound cells. -/
theorem airRegisterAccesses : Obligations.AirRegisterAccesses :=
  ⟨fun _ p hup => tsqEnt1Read_completes p hup,
   fun _ p hup => tsqLostRead_completes p hup,
   fun _ hup => airSnapGo_completes hup,
   fun _ n v hup hb => epochWrite_completes_of_bound n v hup hb,
   fun _ n v hup hb => epochWrite_completes_of_free n v hup hb,
   fun _ n w hup hoff hst hen => tdCtrlEnWrite_completes_enable n w hup hoff hst hen,
   fun _ n w hup hon hb hen => tdCtrlEnWrite_completes_disable n w hup hon hb hen,
   fun _ n w hup hon hb hen hst => tdCtrlEnWrite_completes_bound n w hup hon hb hen hst⟩

end Sys2Proof

/-! SUPPORT. Accesses of BAR0: the word that an access of the PF reaches, writes by Type code, captures, and the accesses that are
refused (R14 to R16, R431, R436, R481). -/

namespace Sys2Proof.Machine

/-! ### The word that an access of the PF reaches -/

theorem blockOpen_of_allOpen {s : State} (h : allOpen s) (off : Nat) : blockOpen off s = true := by
  obtain ⟨_, hready, hboot⟩ := h
  simp [blockOpen, hready, hboot]

theorem reach_pf {s : State} {off : Nat} (h : allOpen s) (hu : absentUnit off s = false) : reach 0 off s = some off := by
  simp [reach, blockOpen_of_allOpen h, hu]

theorem wordAt_pf {s : State} {off : Nat} (h : allOpen s) (hu : absentUnit off s = false) : wordAt 0 off s = pfWord off := by
  simp [wordAt, reach_pf h hu]

/-! ### Writes by Type code (R14) -/

section FieldWrite

variable {b i j v : Nat} {s : State} {f : Fld}

theorem fieldWrite_rw (hty : f.ty = .rw) (h1 : ∀ x, refusesRadio b f.lo i j x s = false) (h2 : ∀ x, refusesStep b f.lo i x v s = false) :
    fieldWrite b i j v s f = setF f (v / 2 ^ f.lo % 2 ^ f.width) s := by
  simp [fieldWrite, hty, h1, h2]

theorem fieldWrite_w1c (hty : f.ty = .w1c) :
    fieldWrite b i j v s f = setF f (bitsLess (getF f s) (v / 2 ^ f.lo % 2 ^ f.width)) s := by
  simp [fieldWrite, hty]

/-- A write leaves the state as it was or gives the field a value, unless the field is persistent; a field that is RO never takes one. -/
theorem fieldWrite_cases (hty : f.ty ≠ .rwp) : fieldWrite b i j v s f = s ∨ f.ty ≠ .ro ∧ ∃ x, fieldWrite b i j v s f = setF f x s := by
  unfold fieldWrite
  cases h : f.ty with
  | rw =>
    dsimp only
    split
    · exact .inl rfl
    · exact .inr ⟨by simp, _, rfl⟩
  | w1c => exact .inr ⟨by simp, _, rfl⟩
  | rwp => exact absurd h hty
  | ro | wo | rc | rl => exact .inl rfl

/-- A write of a register without persistent fields changes no field but those of the register that are not RO, and no piece of the
state. -/
theorem foldl_fieldWrite_frame {fs : List Fld} {ps : List Piece} (l : List Fld) (hl : ∀ f ∈ l, f.ty ≠ .rwp ∧ (f.ty = .ro ∨ f ∈ fs)) (s : State) :
    RegsExcept fs s (l.foldl (fieldWrite b i j v) s) ∧ Frame ps s (l.foldl (fieldWrite b i j v) s) := by
  suffices h : ∀ t, RegsExcept fs s t ∧ Frame ps s t → RegsExcept fs s (l.foldl (fieldWrite b i j v) t) ∧ Frame ps s (l.foldl (fieldWrite b i j v) t) from
    h s ⟨regsExcept_refl _ _, frame_refl _ _⟩
  induction l with
  | nil => exact fun _ h => h
  | cons f l ih =>
    intro t ht
    obtain ⟨⟨hrwp, hf⟩, hl⟩ := List.forall_mem_cons.mp hl
    refine ih hl _ ?_
    obtain h | ⟨hro, x, h⟩ := fieldWrite_cases (b := b) (i := i) (j := j) (v := v) (s := t) hrwp
    · rwa [h]
    · rw [h, regsExcept_setF _ (hf.resolve_left hro), frame_setF]
      exact ht

end FieldWrite

/-! ### Registers whose writes neither act nor refuse a value -/

/-- The 32-bit register at a PF offset, register i of its set, names no unit, and a write of it is a write of its fields by their Type codes. -/
structure PlainReg (off i : Nat) (d : RegDef) : Prop where
  word : pfWord off = .reg d i 0 false
  aligned : off % 4 = 0
  unit : ∀ s, absentUnit off s = false
  width : d.width = 32
  radio : ∀ v s, actRadio d.base i 0 v s = none
  other : ∀ v s, actOther 0 d.base i v s = none
  takesRadio : ∀ lo x s, refusesRadio d.base lo i 0 x s = false
  takesStep : ∀ lo x v s, refusesStep d.base lo i x v s = false

/-- A 32-bit write of such a register by the PF writes its fields in order (R14). -/
theorem exec_registerWrite_plain {s : State} {off i : Nat} {d : RegDef} (hs : allOpen s) (hr : PlainReg off i d) (v : BitVec 64) :
    exec (.registerWrite 0 off false v) s = goesOn s ((d.fields i 0).foldl (fieldWrite d.base i 0 (v.toNat % 2 ^ 32)) s) := by
  show execRegisterWrite 0 off false v s = _
  simp [execRegisterWrite, hs.1, accessOk, hr.aligned, writeHalf, wordAt_pf hs (hr.unit s), hr.word, hr.width, regSet, hr.radio, hr.other]

theorem plainReg_of_mem_maskFields {g : Fld} (hg : g ∈ maskFields) : ∃ d, PlainReg g.off 0 d ∧ d.fields 0 0 = [g] := by
  fin_cases hg <;>
    exact ⟨_, ⟨rfl, rfl, fun _ => rfl, rfl, fun _ _ => rfl, fun _ _ => rfl, fun _ _ _ => rfl, fun _ _ _ _ => rfl⟩, rfl⟩

theorem plainReg_AIR_EVT : ∃ d, PlainReg AIR_EVT 0 d ∧ d.fields 0 0 = [AIR_EVT_HOLD, AIR_EVT_LOCKED, AIR_EVT_EXCEED, AIR_EVT_TSQ_OVF] :=
  ⟨_, ⟨rfl, rfl, fun _ => rfl, rfl, fun _ _ => rfl, fun _ _ => rfl, fun _ _ _ => rfl, fun _ _ _ _ => rfl⟩, rfl⟩

/-- DEV_IDENT and PWR_TSTAT hold RO fields only, and STATE of domain 3 one field beside them. -/
theorem plainReg_readOnly {off : Nat} (h : off = DEV_IDENT ∨ off = AIR_TDn_STATE 3 ∨ off = PWR_TSTAT) :
    ∃ i d, PlainReg off i d ∧ ∀ f ∈ d.fields i 0, f.ty ≠ .rwp ∧ (f.ty = .ro ∨ f ∈ [AIR_TDn_STATE_EPOCH_REFUSED 3]) := by
  obtain rfl | rfl | rfl := h
  · exact ⟨0, _, ⟨rfl, rfl, fun _ => rfl, rfl, fun _ _ => rfl, fun _ _ => rfl, fun _ _ _ => rfl, fun _ _ _ _ => rfl⟩, by decide⟩
  · exact ⟨3, _, ⟨rfl, rfl, fun _ => rfl, rfl, fun _ _ => rfl, fun _ _ => rfl, fun _ _ _ => rfl, fun _ _ _ _ => rfl⟩, by decide⟩
  · exact ⟨0, _, ⟨rfl, rfl, fun _ => rfl, rfl, fun _ _ => rfl, fun _ _ => rfl, fun _ _ _ => rfl, fun _ _ _ _ => rfl⟩, by decide⟩

/-! ### Bits that a write of 1s clears -/

theorem bitAt_eq_testBit (i n : Nat) : bitAt i n = n.testBit i := by
  simp [bitAt, Nat.testBit_eq_decide_div_mod_eq]

/-- The bits that a number holds and another does not (R14). -/
theorem testBit_bitsLess (a b i : Nat) : (bitsLess a b).testBit i = (a.testBit i && !b.testBit i) := by
  induction i generalizing a b with
  | zero =>
    have hle : a &&& b ≤ a := Nat.and_le_left
    have hodd : (a &&& b) % 2 = 1 ↔ a % 2 = 1 ∧ b % 2 = 1 := Nat.and_mod_two_eq_one
    rw [Bool.eq_iff_iff]
    simp only [bitsLess, Nat.testBit_zero, Bool.and_eq_true, Bool.not_eq_true', decide_eq_true_eq, decide_eq_false_iff_not]
    omega
  | succ i ih =>
    have hhalf : bitsLess a b / 2 = bitsLess (a / 2) (b / 2) := by
      have hdiv : (a &&& b) / 2 = a / 2 &&& b / 2 := Nat.and_div_two
      have hle : a / 2 &&& b / 2 ≤ a / 2 := Nat.and_le_left
      have hodd : (a &&& b) % 2 = 1 ↔ a % 2 = 1 ∧ b % 2 = 1 := Nat.and_mod_two_eq_one
      simp only [bitsLess]
      omega
    rw [Nat.testBit_succ, hhalf, ih, Nat.testBit_succ, Nat.testBit_succ]

/-- What is left of the bits of a after a write of 1s: bit k stays unless the write holds a 1 for it, at the field's place (R14). -/
theorem bitAt_bitsLess_field (f : Fld) (a v : Nat) {k : Nat} (hk : k < f.width) :
    bitAt k (bitsLess a (v / 2 ^ f.lo % 2 ^ f.width) % 2 ^ f.width) = (bitAt k a && !bitAt (f.lo + k) v) := by
  simp [bitAt_eq_testBit, Nat.testBit_mod_two_pow, hk, testBit_bitsLess, Nat.testBit_div_two_pow, Nat.add_comm]

/-- After a write of a register of status bits, each field holds its bits that the write does not clear. -/
theorem getF_foldl_fieldWrite_w1c {b i j v : Nat} (l : List Fld) (s : State) (hty : ∀ f ∈ l, f.ty = .w1c)
    (hl : l.Pairwise fun f g => f.key ≠ g.key) {f : Fld} (hf : f ∈ l) :
    getF f (l.foldl (fieldWrite b i j v) s) = bitsLess (getF f s) (v / 2 ^ f.lo % 2 ^ f.width) % 2 ^ f.width := by
  induction l generalizing s with
  | nil => cases hf
  | cons a l ih =>
    rw [List.pairwise_cons] at hl
    rw [List.forall_mem_cons] at hty
    rw [List.foldl_cons, fieldWrite_w1c hty.1]
    obtain rfl | hf := List.mem_cons.mp hf
    · have hrest (t : State) : RegsExcept l t (l.foldl (fieldWrite b i j v) t) :=
        (foldl_fieldWrite_frame (ps := []) l (fun g hg => by simp [hty.2 g hg, hg]) t).1
      rw [hrest _ f hl.1, getF_setF_same]
    · rw [ih _ hty.2 hl.2 hf, getF_setF_ne _ _ (hl.1 f hf).symm]

/-! ### Captures (R16, R465) -/

theorem captureOf_capture_same (f off v : Nat) (s : State) : captureOf f off (capture f off v s) = some v := by
  simp [captureOf, capture]

theorem captureOf_uncapture_same (f off : Nat) (s : State) : captureOf f off (uncapture f off s) = none := by
  have hnone : (uncapture f off s).captured.find? (fun c => decide (c.1 = f) && decide (c.2.1 = off)) = none :=
    List.find?_eq_none.mpr fun c hc => by simpa only [Bool.not_eq_true, Bool.not_eq_true'] using (List.mem_filter.mp hc).2
  simp [captureOf, hnone]

section CaptureFrames

variable {fs : List Fld} {ps : List Piece} {s t : State} (f off v : Nat)

@[simp] theorem regsExcept_uncapture : RegsExcept fs s (uncapture f off t) ↔ RegsExcept fs s t := Iff.rfl

@[simp] theorem regsExcept_capture : RegsExcept fs s (capture f off v t) ↔ RegsExcept fs s t := Iff.rfl

theorem frame_uncapture (hp : .captured ∈ ps) : Frame ps s (uncapture f off t) ↔ Frame ps s t := frame_withCaptured _ hp

theorem frame_capture (hp : .captured ∈ ps) : Frame ps s (capture f off v t) ↔ Frame ps s t :=
  (frame_withCaptured (t := uncapture f off t) _ hp).trans (frame_uncapture f off hp)

end CaptureFrames

/-! ### Reads of a 64-bit register of one RO field (R14, R16) -/

/-- The register at a PF offset, register i of its set, is a 64-bit register that names no unit and shows one RO field; a read of it has no
effect of its own. -/
structure RoPair (off i : Nat) (d : RegDef) (g : Fld) : Prop where
  lower : pfWord off = .reg d i 0 false
  upper : pfWord (off + 4) = .reg d i 0 true
  aligned : off % 8 = 0
  unit : ∀ s, absentUnit off s = false
  upperUnit : ∀ s, absentUnit (off + 4) s = false
  width : d.width = 64
  shows : ∀ s, regShows d i 0 s = getF g s * 2 ^ 0 + 0
  noEntry : isEnt0 d = false
  noEffect : ∀ s, readEffect d i 0 s = s
  noLog : ¬(d.base = MEMC_LOG_ENT1 0 0 ∨ d.base = HJF_LOG_ENT1 0)

theorem roPair_count (n : Fin 8) : ∃ d, RoPair (AIR_TDn_COUNT n) n d (AIR_TDn_COUNT_VALUE n) := by
  fin_cases n <;>
    exact ⟨_, ⟨rfl, rfl, rfl, fun _ => rfl, fun _ => rfl, rfl, fun _ => rfl, rfl, fun _ => rfl, by decide⟩⟩

section RoPair

variable {s : State} {off i : Nat} {d : RegDef} {g : Fld} (hs : allOpen s) (hr : RoPair off i d g)
include hs hr

/-- The lower half shows the low bits of the field and captures the high ones (R16). -/
theorem readHalf_lower (hc : captureOf 0 off s = none) :
    readHalf 0 off s = (getF g s % 2 ^ 32, capture 0 (off + 4) (getF g s / 2 ^ 32 % 2 ^ 32) s) := by
  simp [readHalf, wordAt_pf hs (hr.unit s), reach_pf hs (hr.unit s), hr.lower, hc, wordShows, hr.shows, captures, hr.width, hr.noEntry, hr.noEffect]

/-- The upper half returns what the lower half captured, once (R16). -/
theorem readHalf_upper {x : Nat} (hc : captureOf 0 (off + 4) s = some x) :
    readHalf 0 (off + 4) s = (x, uncapture 0 (off + 4) s) := by
  simp [readHalf, wordAt_pf hs (hr.upperUnit s), reach_pf hs (hr.upperUnit s), hr.upper, hc]

/-- A 64-bit read returns the field whole, and ends what was captured of it (R16). -/
theorem readWide_whole : readWide 0 off s = (getF g s, uncapture 0 off (uncapture 0 (off + 4) s)) := by
  simp [readWide, wordAt_pf hs (hr.unit s), reach_pf hs (hr.unit s), hr.lower, hr.width, hr.shows, captures, hr.noEntry, hr.noEffect, hr.noLog]

end RoPair

/-! ### Accesses that are refused (R431) -/

section Bar0Error

variable {fs : List Fld} {ps : List Piece} {s t : State} (f : Nat)

theorem flagF_bar0Error (s : State) : flagF DEV_HOSTERR_BAR0 (bar0Error f s) = true := flagF_hostErr (by decide) (by decide) (by decide) _

theorem bar0Error_toAirState (s : State) : (bar0Error f s).toAirState = s.toAirState := hostErr_toAirState _ _ _

/-- Reporting an error changes its bit, the function it is recorded for, and what raising a vector may change. -/
theorem regsExcept_bar0Error : RegsExcept (DEV_HOSTERR_BAR0 :: vecRegs) s (bar0Error f t) ↔ RegsExcept (DEV_HOSTERR_BAR0 :: vecRegs) s t := by
  rw [bar0Error, regsExcept_hostErr (by simp) (by simp [vecRegs]) (by simp [vecRegs]), regsExcept_tally]

theorem frame_bar0Error (hp : vecPieces ⊆ ps) : Frame ps s (bar0Error f t) ↔ Frame ps s t := by
  have hb : .bus ∈ ps := hp (by simp [vecPieces])
  have ht : .tallies ∈ ps := hp (by simp [vecPieces])
  rw [bar0Error, frame_hostErr hb ht, frame_tally _ _ _ ht]

end Bar0Error

/-- What an access of another size or alignment does: a small read within a word returns its bytes, any other read is refused and reported, and
a write is reported. -/
theorem illegal_cases (f : Nat) (a : Bar0Acc) (s : State) (h : accessOk a.off a.size = false) :
    illegal f a s =
      if a.read then
        if 0 < a.size ∧ a.size < 4 ∧ a.off % 4 + a.size ≤ 4 then
          { s with rdata := wordShows (wordAt f (a.off / 4 * 4) s) s / 256 ^ (a.off % 4) % 256 ^ a.size, rstat := 0 }
        else bar0Error f (readRefused s)
      else bar0Error f s := by
  cases hr : a.read <;> simp [illegal, h, hr, and_assoc]

theorem exec_bar0IllegalAccess {f : Fin 33} {s : State} (a : Bar0Acc) (ht : tlpTaken f s = true) :
    exec (.bar0IllegalAccess f a) s = goesOn s (illegal f a s) := by
  show execBar0IllegalAccess f a s = _
  rw [execBar0IllegalAccess, if_pos ht]

end Sys2Proof.Machine

/-! SUPPORT. Reads and writes of registers by their Type codes, one rule for each access of the statement (R14, R16, R406, R431). -/

namespace Sys2Proof.Machine

/-! ### Writes (R14) -/

/-- A write of an event mask sets it. -/
theorem registerWrite_mask_completes {s : State} {g : Fld} {v : BitVec 64} (hs : allOpen s) (hg : g ∈ maskFields) (hv : v.toNat < 2 ^ 32) :
    Completes (.registerWrite 0 g.off false v) s (fun t =>
      getF g t = v.toNat / 2 ^ g.lo % 2 ^ g.width ∧ RegsExcept [g] s t ∧ Frame [] s t) := by
  obtain ⟨d, hr, hd⟩ := plainReg_of_mem_maskFields hg
  have hty : g.ty = .rw := (show ∀ g ∈ maskFields, g.ty = .rw by decide) g hg
  refine completes_of_goesOn (exec_registerWrite_plain hs hr v) (fun _ _ h => h) ⟨?_, foldl_fieldWrite_frame _ (by simp [hd, hty]) _⟩
  rw [hd, List.foldl_cons, List.foldl_nil, fieldWrite_rw hty (fun x => hr.takesRadio _ x s) (fun x => hr.takesStep _ x _ s), getF_setF_same,
    Nat.mod_mod, Nat.mod_eq_of_lt hv]

/-- A write of 1s to AIR_EVT clears those bits and no others. -/
theorem registerWrite_AIR_EVT_completes {s : State} {v : BitVec 64} (hs : allOpen s) (hv : v.toNat < 2 ^ 32) :
    Completes (.registerWrite 0 AIR_EVT false v) s (fun t =>
      (∀ i ∈ domains, bitAt i (getF AIR_EVT_HOLD t) = (bitAt i (getF AIR_EVT_HOLD s) && !bitAt i v.toNat)) ∧
      (∀ i ∈ domains, bitAt i (getF AIR_EVT_EXCEED t) = (bitAt i (getF AIR_EVT_EXCEED s) && !bitAt (16 + i) v.toNat)) ∧
      RegsExcept [AIR_EVT_HOLD, AIR_EVT_LOCKED, AIR_EVT_EXCEED, AIR_EVT_TSQ_OVF] s t ∧ Frame [] s t) := by
  obtain ⟨d, hr, hd⟩ := plainReg_AIR_EVT
  have hdomains : ∀ i ∈ domains, i < 8 := by decide
  have hfield {f : Fld} (hf : f ∈ [AIR_EVT_HOLD, AIR_EVT_LOCKED, AIR_EVT_EXCEED, AIR_EVT_TSQ_OVF]) :=
    getF_foldl_fieldWrite_w1c (b := d.base) (i := 0) (j := 0) (v := v.toNat) _ s (by decide) (by decide) hf
  refine completes_of_goesOn (exec_registerWrite_plain hs hr v) (fun _ _ h => h) ?_
  rw [hd, Nat.mod_eq_of_lt hv]
  refine ⟨fun i hi => ?_, fun i hi => ?_, foldl_fieldWrite_frame _ (by decide) _⟩
  · rw [hfield (by simp), bitAt_bitsLess_field _ _ _ (hdomains i hi), show AIR_EVT_HOLD.lo + i = i from Nat.zero_add i]
  · rw [hfield (by simp), bitAt_bitsLess_field _ _ _ (hdomains i hi)]; rfl

/-- A write of a read-only register changes nothing. -/
theorem registerWrite_readOnly_completes {s : State} {off : Nat} (v : BitVec 64) (hs : allOpen s)
    (hoff : off = DEV_IDENT ∨ off = AIR_TDn_STATE 3 ∨ off = PWR_TSTAT) :
    Completes (.registerWrite 0 off false v) s (fun t => RegsExcept [AIR_TDn_STATE_EPOCH_REFUSED 3] s t ∧ Frame [] s t) := by
  obtain ⟨i, d, hr, hd⟩ := plainReg_readOnly hoff
  exact completes_of_goesOn (exec_registerWrite_plain hs hr v) (fun _ _ h => h) (foldl_fieldWrite_frame _ hd _)

/-! ### Reads of an Air Counter (R14, R16) -/

theorem exec_regLowerHalfRead_half {f : Fin 33} {s : State} {off : Nat} {r : Nat × State} (ht : tlpTaken f s = true) (ha : off % 4 = 0)
    (hr : readHalf f off s = r) : exec (.regLowerHalfRead f off false) s = goesOn s { r.2 with rdata := r.1, rstat := 0 } := by
  show execRegLowerHalfRead f off false s = _
  simp [execRegLowerHalfRead, ht, accessOk, ha, hr]

theorem exec_regLowerHalfRead_wide {f : Fin 33} {s : State} {off : Nat} {r : Nat × State} (ht : tlpTaken f s = true) (ha : off % 8 = 0)
    (hr : readWide f off s = r) : exec (.regLowerHalfRead f off true) s = goesOn s { r.2 with rdata := r.1, rstat := 0 } := by
  show execRegLowerHalfRead f off true s = _
  simp [execRegLowerHalfRead, ht, accessOk, ha, hr]

/-- The lower half of an Air Counter is read, and captures its upper half. -/
theorem countLower_completes {s : State} (n : Fin 8) (hs : allOpen s) (hc : captureOf 0 (AIR_TDn_COUNT n) s = none) :
    Completes (.regLowerHalfRead 0 (AIR_TDn_COUNT n) false) s (fun t =>
      t.rdata = counter n s % 2 ^ 32 ∧ t.rstat = 0 ∧ captureOf 0 (AIR_TDn_COUNT n + 4) t = some (counter n s / 2 ^ 32 % 2 ^ 32) ∧
      RegsExcept [] s t ∧ Frame [.air, .captured] s t) := by
  obtain ⟨d, hr⟩ := roPair_count n
  have ha := hr.aligned
  exact completes_of_goesOn (exec_regLowerHalfRead_half hs.1 (by omega) (readHalf_lower hs hr hc)) (fun _ _ h => h)
    ⟨rfl, rfl, captureOf_capture_same _ _ _ _, by simp, by simp [frame_withAir, frame_capture]⟩

/-- The upper half of an Air Counter is read as it was captured, whatever the counter holds by then. -/
theorem countUpper_completes {s : State} {x : Nat} (n : Fin 8) (hs : allOpen s) (hc : captureOf 0 (AIR_TDn_COUNT n + 4) s = some x) :
    Completes (.regLowerHalfRead 0 (AIR_TDn_COUNT n + 4) false) s (fun t =>
      t.rdata = x ∧ t.rstat = 0 ∧ captureOf 0 (AIR_TDn_COUNT n + 4) t = none ∧ RegsExcept [] s t ∧ Frame [.air, .captured] s t) := by
  obtain ⟨d, hr⟩ := roPair_count n
  have ha := hr.aligned
  exact completes_of_goesOn (exec_regLowerHalfRead_half hs.1 (by omega) (readHalf_upper hs hr hc)) (fun _ _ h => h)
    ⟨rfl, rfl, captureOf_uncapture_same _ _ _, by simp, by simp [frame_withAir, frame_uncapture]⟩

/-- A 64-bit read returns the whole Air Counter. -/
theorem countWide_completes {s : State} (n : Fin 8) (hs : allOpen s) :
    Completes (.regLowerHalfRead 0 (AIR_TDn_COUNT n) true) s (fun t =>
      t.rdata = counter n s ∧ t.rstat = 0 ∧ RegsExcept [] s t ∧ Frame [.air, .captured] s t) := by
  obtain ⟨d, hr⟩ := roPair_count n
  exact completes_of_goesOn (exec_regLowerHalfRead_wide hs.1 hr.aligned (readWide_whole hs hr)) (fun _ _ h => h)
    ⟨rfl, rfl, by simp, by simp [frame_withAir, frame_uncapture]⟩

/-! ### Accesses of another size or alignment (R431) -/

/-- An access that is neither legal nor a small one within a word is reported; a read of it is refused. -/
theorem bar0IllegalAccess_completes_refused {f : Fin 33} {s : State} {a : Bar0Acc} (ht : tlpTaken f s = true) (ha : accessOk a.off a.size = false)
    (hbig : 4 ≤ a.size ∨ 4 < a.off % 4 + a.size ∨ a.size = 0) :
    Completes (.bar0IllegalAccess f a) s (fun t =>
      flagF DEV_HOSTERR_BAR0 t = true ∧ (a.read = true → t.rdata = 0 ∧ t.rstat = 1) ∧ (a.read = false → t.toAirState = s.toAirState) ∧
      RegsExcept (DEV_HOSTERR_BAR0 :: vecRegs) s t ∧ Frame (.air :: vecPieces) s t) := by
  refine completes_of_goesOn (exec_bar0IllegalAccess a ht) (fun _ _ h => h) ?_
  rw [illegal_cases _ _ _ ha]
  cases hread : a.read with
  | false =>
    exact ⟨flagF_bar0Error _ _, by simp, fun _ => bar0Error_toAirState _ _, by simp [regsExcept_bar0Error], by simp [frame_bar0Error]⟩
  | true =>
    rw [if_pos rfl, if_neg (by omega)]
    have hair := bar0Error_toAirState f (readRefused s)
    refine ⟨flagF_bar0Error _ _, fun _ => ⟨congrArg AirState.rdata hair, congrArg AirState.rstat hair⟩, by simp, ?_, ?_⟩
    · rw [regsExcept_bar0Error]; simp [readRefused]
    · rw [frame_bar0Error _ (by simp)]; simp [readRefused, frame_withAir]

/-- A small read within a word returns its bytes and has no side effect. -/
theorem bar0IllegalAccess_completes_smallRead {f : Fin 33} {s : State} {a : Bar0Acc} (ht : tlpTaken f s = true) (hread : a.read = true)
    (hpos : 0 < a.size) (hsmall : a.size < 4) (hin : a.off % 4 + a.size ≤ 4) :
    Completes (.bar0IllegalAccess f a) s (fun t =>
      t.rdata = wordShows (wordAt f (a.off / 4 * 4) s) s / 256 ^ (a.off % 4) % 256 ^ a.size ∧ t.rstat = 0 ∧ RegsExcept [] s t ∧ Frame [.air] s t) := by
  have ha : accessOk a.off a.size = false := by simp [accessOk]; omega
  refine completes_of_goesOn (exec_bar0IllegalAccess a ht) (fun _ _ h => h) ?_
  rw [illegal_cases _ _ _ ha, if_pos hread, if_pos ⟨hpos, hsmall, hin⟩]
  exact ⟨rfl, rfl, by simp, by simp [frame_withAir]⟩

/-- A small write is discarded and reported. -/
theorem bar0IllegalAccess_completes_smallWrite {f : Fin 33} {s : State} {a : Bar0Acc} (ht : tlpTaken f s = true) (hread : a.read = false)
    (hpos : 0 < a.size) (hsmall : a.size < 4) :
    Completes (.bar0IllegalAccess f a) s (fun t =>
      flagF DEV_HOSTERR_BAR0 t = true ∧ RegsExcept (DEV_HOSTERR_BAR0 :: vecRegs) s t ∧ Frame vecPieces s t) := by
  have ha : accessOk a.off a.size = false := by simp [accessOk]; omega
  refine completes_of_goesOn (exec_bar0IllegalAccess a ht) (fun _ _ h => h) ?_
  rw [illegal_cases _ _ _ ha, if_neg (by simp [hread])]
  exact ⟨flagF_bar0Error _ _, by simp [regsExcept_bar0Error], by simp [frame_bar0Error]⟩

/-! ### PWR_PEAK (R406) -/

/-- A read of PWR_PEAK returns the highest estimate and clears it. -/
theorem pwrPeakRead_completes {s : State} (hup : hostUp 0 s = true) :
    Completes .pwrPeakRead s (fun t =>
      t.rdata = getF PWR_PEAK_POWER s ∧ t.rstat = 0 ∧ getF PWR_PEAK_POWER t = 0 ∧ RegsExcept [PWR_PEAK_POWER] s t ∧ Frame [.air] s t) := by
  refine completes_of_goesOn (u := setF PWR_PEAK_POWER 0 { s with rdata := getF PWR_PEAK_POWER s, rstat := 0 }) ?_ (fun _ _ h => h) ?_
  · show execPwrPeakRead s = _; simp only [execPwrPeakRead, hup]; rfl
  · simp [regsExcept_setF, frame_withAir]

end Sys2Proof.Machine

namespace Sys2Proof
open Machine

/-- Settles O19: writes go field by field through the Type codes, reads of a 64-bit register through its capture, and every other access through
the cases of a refused one. -/
theorem registerAccesses : Obligations.RegisterAccesses :=
  ⟨fun _ _ _ hs hg hv => registerWrite_mask_completes hs hg hv,
   fun _ _ hs hv => registerWrite_AIR_EVT_completes hs hv,
   fun _ _ v hs hoff => registerWrite_readOnly_completes v hs hoff,
   fun _ n hs hc => countLower_completes n hs hc,
   fun _ n _ hs hc => countUpper_completes n hs hc,
   fun _ n hs => countWide_completes n hs,
   fun _ _ _ ht ha hbig => bar0IllegalAccess_completes_refused ht ha hbig,
   fun _ _ _ ht hread hpos hsmall hin => bar0IllegalAccess_completes_smallRead ht hread hpos hsmall hin,
   fun _ _ _ ht hread hpos hsmall => bar0IllegalAccess_completes_smallWrite ht hread hpos hsmall,
   fun _ hup => pwrPeakRead_completes hup⟩

end Sys2Proof

/-! SUPPORT. What a tick leaves of the radio's state: the windows and the counters' remainders below one unit aside, all of it (R34, R54). -/

namespace Sys2Proof.Machine

/-! ### The remainders of the counters over a tick -/

theorem idleAfter_tallyRem (s : State) (w : Window) : (idleAfter s w).tallyRem = s.tallyRem := by
  unfold idleAfter; split <;> rfl

theorem foldl_tallyRem {α : Type} {f : State → α → State} (hf : ∀ s a, (f s a).tallyRem = s.tallyRem) (l : List α) (s : State) :
    (l.foldl f s).tallyRem = s.tallyRem := by
  induction l generalizing s with
  | nil => rfl
  | cons a l ih => exact (ih (f s a)).trans (hf s a)

theorem endWindows_tallyRem (s : State) : (endWindows s).tallyRem = s.tallyRem := foldl_tallyRem idleAfter_tallyRem _ _

theorem stepDue_tallyRem (n : Nat) (s : State) : (stepDue n s).tallyRem = s.tallyRem := by
  unfold stepDue; simp only; split_ifs <;> rfl

theorem tickDomain_tallyRem (n : Nat) (s : State) : (tickDomain n s).tallyRem = s.tallyRem := by
  unfold tickDomain; split <;> rfl

theorem ageDomain_tallyRem (n : Nat) (s : State) : (ageDomain n s).tallyRem = s.tallyRem := by
  unfold ageDomain; split <;> rfl

theorem goesOn_tallyRem {s u t : State} (h : goesOn s u = .next t) : t.tallyRem = u.tallyRem := by cases h; rfl

theorem exec_airCounterTick (s : State) : exec .airCounterTick s =
    goesOn s (endWindows (domains.foldl (fun s n => ageDomain n (tickDomain n (stepDue n s))) { countCycles s with now := (countCycles s).now + 3125 })) := rfl

/-- A tick leaves in the counters that count in units of 1,024 what the cycles that it ends leave there. -/
theorem airCounterTick_tallyRem {s t : State} (h : exec .airCounterTick s = .next t) : t.tallyRem = (countCycles s).tallyRem := by
  rw [exec_airCounterTick] at h
  refine (goesOn_tallyRem h).trans ((endWindows_tallyRem _).trans (foldl_tallyRem (fun s n => ?_) _ _))
  rw [ageDomain_tallyRem, tickDomain_tallyRem, stepDue_tallyRem]

/-! ### A tick while the Ledger is low -/

/-- The state after reset with FLT_STAT.LEDGER_LOW set, in which FLT_T_LGSTALL counts core cycles (R369, R390). -/
def ledgerStalled : State := setF FLT_STAT_LEDGER_LOW 1 State.reset

/-- The 2 cycles that end with its first tick stay below one unit of FLT_T_LGSTALL. -/
theorem countCycles_ledgerStalled_tallyRem : (countCycles ledgerStalled).tallyRem = [(tallyKey 16 FLT_T_LGSTALL_COUNT, 2)] := by decide +kernel

end Sys2Proof.Machine

namespace Sys2Proof
open Machine

/-- Refutes O8: the first statement leaves of the radio's state only the windows to change, but it holds the remainders of the counters that count
in units of 1,024 cycles, and while FLT_STAT.LEDGER_LOW is set a tick leaves 2 cycles in that of FLT_T_LGSTALL. -/
theorem not_airTimeAdvances : ¬ Obligations.AirTimeAdvances := by
  rintro ⟨htick, _, _⟩
  obtain ⟨t, ht, _, _, _, _, _, _, _, _, _, hradio⟩ := htick ledgerStalled
  have hkept : t.tallyRem = ledgerStalled.tallyRem := by
    show t.toRadioState.tallyRem = _; rw [hradio]
  rw [airCounterTick_tallyRem ht, countCycles_ledgerStalled_tallyRem] at hkept
  exact absurd hkept (by decide)

end Sys2Proof

/-! SUPPORT. Measurements of a Time Domain, the BMCA and the 1PPS signals: what each step of the servo and of the lock state machine
changes and leaves (R36, R39 to R41, R44 to R47). -/

namespace Sys2Proof.Machine

/-! ### Where the fields of a measurement lie -/

section Keys

variable (n : Nat)

@[simp] theorem key_AIR_TDn_OFFSET_OFS : (AIR_TDn_OFFSET_OFS n).key = n * 0x4000 + 0x4000E00 := by
  simp only [Fld.key, AIR_TDn_OFFSET_OFS, AIR_TDn_OFFSET]; omega
@[simp] theorem key_AIR_TDn_OFFSET_MPD : (AIR_TDn_OFFSET_MPD n).key = n * 0x4000 + 0x4000E20 := by
  simp only [Fld.key, AIR_TDn_OFFSET_MPD, AIR_TDn_OFFSET]; omega
@[simp] theorem key_AIR_TDn_SERVO_KP_SHIFT : (AIR_TDn_SERVO_KP_SHIFT n).key = n * 0x4000 + 0x4000A00 := by
  simp only [Fld.key, AIR_TDn_SERVO_KP_SHIFT, AIR_TDn_SERVO]; omega
@[simp] theorem key_AIR_TDn_SERVO_KI_SHIFT : (AIR_TDn_SERVO_KI_SHIFT n).key = n * 0x4000 + 0x4000A08 := by
  simp only [Fld.key, AIR_TDn_SERVO_KI_SHIFT, AIR_TDn_SERVO]; omega
@[simp] theorem key_AIR_TDn_SERVO_SLEW_MAX : (AIR_TDn_SERVO_SLEW_MAX n).key = n * 0x4000 + 0x4000A10 := by
  simp only [Fld.key, AIR_TDn_SERVO_SLEW_MAX, AIR_TDn_SERVO]; omega
@[simp] theorem key_AIR_TDn_LOCK_THR : (AIR_TDn_LOCK_THR n).key = n * 0x4000 + 0x4000B00 := by
  simp only [Fld.key, AIR_TDn_LOCK_THR, AIR_TDn_LOCK]; omega
@[simp] theorem key_AIR_TDn_LOCK_CNT : (AIR_TDn_LOCK_CNT n).key = n * 0x4000 + 0x4000B08 := by
  simp only [Fld.key, AIR_TDn_LOCK_CNT, AIR_TDn_LOCK]; omega

end Keys

variable {n : Nat} {s t : State} {fs : List Fld} {ps : List Piece}

/-! ### Words of w bits -/

/-- A signed number as w bits fits in w bits. -/
theorem intBits_mod (w : Nat) (i : Int) : intBits w i % 2 ^ w = intBits w i := by
  refine Nat.mod_eq_of_lt ?_
  have hlt : i % (2 ^ w : Int) < 2 ^ w := Int.emod_lt_of_pos _ (by positivity)
  have hnn : 0 ≤ i % (2 ^ w : Int) := Int.emod_nonneg _ (by positivity)
  rw [intBits, Int.toNat_lt hnn]
  exact_mod_cast hlt

/-! ### Steps of an Air Counter (R36) -/

/-- What a step leaves of the servo's and the BMCA's state of its domain: all but the fraction, the reference and the landing value. -/
theorem airOf_stepCounter (n : Nat) (d : Int) (s : State) : ∃ f l, airOf n (stepCounter n d s) = { airOf n s with frac := f, ref := none, floor := l } := by
  rw [stepCounter, airOf_setF, airOf_setAir_same]
  exact ⟨_, _, rfl⟩

/-- The Air Counter of domain n and its fraction as a step by d leaves them, in units of 2^-40 Tc. -/
def steppedTotal (n : Nat) (d : Int) (s : State) : Nat := (((airTotal n s : Int) + d) % 2 ^ 104).toNat

theorem steppedTotal_lt (n : Nat) (d : Int) (s : State) : steppedTotal n d s < 2 ^ 104 := by
  have hlt : ((airTotal n s : Int) + d) % 2 ^ 104 < 2 ^ 104 := Int.emod_lt_of_pos _ (by norm_num)
  rw [steppedTotal]; omega

theorem counter_stepCounter (n : Nat) (d : Int) (s : State) : counter n (stepCounter n d s) = steppedTotal n d s / 2 ^ 40 := by
  have hwidth : steppedTotal n d s / 2 ^ 40 % 2 ^ 64 = steppedTotal n d s / 2 ^ 40 := Nat.mod_eq_of_lt (by have := steppedTotal_lt n d s; omega)
  rw [counter, stepCounter, getF_setF_same]
  exact hwidth

theorem frac_stepCounter (n : Nat) (d : Int) (s : State) : (airOf n (stepCounter n d s)).frac = steppedTotal n d s % 2 ^ 40 := by
  rw [stepCounter, airOf_setF, airOf_setAir_same]
  rfl

/-- A step moves the Air Counter and its fraction by its amount, modulo 2^64 Tc. -/
theorem airTotal_stepCounter (n : Nat) (d : Int) (s : State) :
    ((airTotal n (stepCounter n d s) : Nat) : Int) = ((airTotal n s : Int) + d) % 2 ^ 104 := by
  rw [airTotal, counter_stepCounter, frac_stepCounter, Nat.div_add_mod', steppedTotal, Int.toNat_of_nonneg (Int.emod_nonneg _ (by norm_num))]

theorem regsExcept_stepCounter (d : Int) (h : AIR_TDn_COUNT_VALUE n ∈ fs) : RegsExcept fs s (stepCounter n d t) ↔ RegsExcept fs s t := by
  rw [stepCounter, regsExcept_setF _ h]
  exact Iff.rfl

theorem frame_stepCounter (d : Int) (hp : .air ∈ ps) : Frame ps s (stepCounter n d t) ↔ Frame ps s t := by
  rw [stepCounter, frame_setF, frame_setAir _ _ hp]
  exact frame_withAir { t.toAirState with tallyLast := _ } hp

/-! ### What every valid measurement records (R39, R43) -/

/-- The state in which a measurement of domain n has been recorded: its offset, its mean path delay and its time. -/
def recorded (n : Nat) (off16 : Int) (mpd : Nat) (s : State) : State :=
  setAir n { airOf n s with lastMeas := s.now } (setF (AIR_TDn_OFFSET_MPD n) mpd (setF (AIR_TDn_OFFSET_OFS n) (intBits 32 off16) s))

section Recorded

variable (off16 : Int) (mpd : Nat)

@[simp] theorem airOf_recorded : airOf n (recorded n off16 mpd s) = { airOf n s with lastMeas := s.now } := airOf_setAir_same _ _ _

/-- Recording a measurement leaves every register but the two of the record as it was. -/
theorem getF_recorded {g : Fld} (h1 : g.key ≠ (AIR_TDn_OFFSET_OFS n).key) (h2 : g.key ≠ (AIR_TDn_OFFSET_MPD n).key) :
    getF g (recorded n off16 mpd s) = getF g s := by
  rw [recorded, getF_setAir, getF_setF_ne _ _ h2, getF_setF_ne _ _ h1]

theorem ofs_recorded : getF (AIR_TDn_OFFSET_OFS n) (recorded n off16 mpd s) = intBits 32 off16 := by
  rw [recorded, getF_setAir, getF_setF_ne _ _ (by simp), getF_setF_same]
  exact intBits_mod 32 off16

theorem mpd_recorded : getF (AIR_TDn_OFFSET_MPD n) (recorded n off16 mpd s) = mpd % 2 ^ 32 := by
  rw [recorded, getF_setAir, getF_setF_same]
  rfl

theorem regsExcept_recorded (h1 : AIR_TDn_OFFSET_OFS n ∈ fs) (h2 : AIR_TDn_OFFSET_MPD n ∈ fs) :
    RegsExcept fs s (recorded n off16 mpd t) ↔ RegsExcept fs s t := by
  simp [recorded, regsExcept_setF, h1, h2]

theorem frame_recorded (hp : .air ∈ ps) : Frame ps s (recorded n off16 mpd t) ↔ Frame ps s t := by
  simp [recorded, frame_setAir, hp]

end Recorded

/-! ### The first measurement of a FREE domain (R36, R40) -/

/-- The registers that the measurement which takes domain n from FREE to ACQUIRING may change. -/
def acquireRegs (n : Nat) : List Fld :=
  [AIR_TDn_OFFSET_OFS n, AIR_TDn_OFFSET_MPD n, AIR_TDn_STATE_STATE n, AIR_TDn_HOLDOVER_ACTIVE n, AIR_TDn_HOLDOVER_AGE n, AIR_TDn_COUNT_VALUE n]

section FromFree

variable (off16 : Int) (mpd : Nat)

/-- A measurement is recorded and the counter steps to the source phase. -/
def phaseStepped (n : Nat) (off16 : Int) (mpd : Nat) (s : State) : State := stepCounter n (-(off16 * 2 ^ 36)) (recorded n off16 mpd s)

/-- On a FREE domain without bound cells a measurement steps the counter to the source phase, the value there becomes the servo's reference, and
the domain is ACQUIRING. -/
theorem validMeasurement_of_free (hst : tdState n s = 1) (hb : cellBound n s = false) :
    validMeasurement n off16 mpd s =
      enterState n 2 (setAir n { airOf n (phaseStepped n off16 mpd s) with ref := some (counter n (phaseStepped n off16 mpd s)) } (phaseStepped n off16 mpd s)) := by
  rw [validMeasurement, if_neg (by omega)]
  simp only [hst, hb]
  rfl

variable (hst : tdState n s = 1) (hb : cellBound n s = false)
include hst hb

theorem tdState_validMeasurement_of_free : tdState n (validMeasurement n off16 mpd s) = 2 := by
  rw [validMeasurement_of_free _ _ hst hb]
  exact tdState_enterState _ _ _

theorem counter_validMeasurement_of_free : counter n (validMeasurement n off16 mpd s) = counter n (phaseStepped n off16 mpd s) := by
  rw [validMeasurement_of_free _ _ hst hb, counter, getF_enterState _ (by simp) (by simp) (by simp)]
  rfl

/-- What the measurement leaves of the servo's and the BMCA's state: all but the fraction, the reference, the run, the time of the last
measurement and the landing value of the step. -/
theorem airOf_validMeasurement_of_free : ∃ l, airOf n (validMeasurement n off16 mpd s) =
    { airOf n s with frac := (airOf n (phaseStepped n off16 mpd s)).frac, ref := some (counter n (validMeasurement n off16 mpd s)), run := 0, lastMeas := s.now, floor := l } := by
  obtain ⟨f, l, h⟩ := airOf_stepCounter n (-(off16 * 2 ^ 36)) (recorded n off16 mpd s)
  refine ⟨l, ?_⟩
  rw [counter_validMeasurement_of_free _ _ hst hb, validMeasurement_of_free _ _ hst hb, airOf_enterState, airOf_setAir_same, phaseStepped, h, airOf_recorded]

theorem airTotal_validMeasurement_of_free :
    ((airTotal n (validMeasurement n off16 mpd s) : Nat) : Int) = ((airTotal n s : Int) - off16 * 2 ^ 36) % 2 ^ 104 := by
  obtain ⟨l, h⟩ := airOf_validMeasurement_of_free off16 mpd hst hb
  have hstep := airTotal_stepCounter n (-(off16 * 2 ^ 36)) (recorded n off16 mpd s)
  have hrec : airTotal n (recorded n off16 mpd s) = airTotal n s := by
    rw [airTotal, counter, getF_recorded _ _ (by simp) (by simp), airOf_recorded]; rfl
  rw [hrec, ← sub_eq_add_neg] at hstep
  rw [← hstep, airTotal, counter_validMeasurement_of_free _ _ hst hb, h]
  rfl

theorem regsExcept_validMeasurement_of_free : RegsExcept (acquireRegs n) t (validMeasurement n off16 mpd s) ↔ RegsExcept (acquireRegs n) t s := by
  rw [validMeasurement_of_free _ _ hst hb]
  simp [regsExcept_enterState, phaseStepped, regsExcept_stepCounter, regsExcept_recorded, acquireRegs]

theorem frame_validMeasurement_of_free : Frame [.air] t (validMeasurement n off16 mpd s) ↔ Frame [.air] t s := by
  rw [validMeasurement_of_free _ _ hst hb]
  simp [frame_enterState, frame_setAir, phaseStepped, frame_stepCounter, frame_recorded]

end FromFree

/-! ### A measurement of a LOCKED domain (R39, R40) -/

/-- The integral term that a measurement of offset off16 / 16 Tc at the reference r asks for. -/
def servoSum (n : Nat) (off16 : Int) (r : Nat) (s : State) : Int :=
  (airOf n s).integ - divZero (off16 * 2 ^ (40 - getF (AIR_TDn_SERVO_KI_SHIFT n) s)) (16 * ((counter n s : Int) - r))

/-- A number held within the limits of the rate of domain n. -/
def withinRate (n : Nat) (s : State) (x : Int) : Int := clampInt (-rateLimit n s) (rateLimit n s) x

/-- The rate that I and the proportional term of the measurement ask for. -/
def servoRate (n : Nat) (off16 : Int) (r : Nat) (s : State) : Int :=
  withinRate n s (servoSum n off16 r s) - divZero (off16 * 2 ^ (40 - getF (AIR_TDn_SERVO_KP_SHIFT n) s)) (16 * ((counter n s : Int) - r))

@[simp] theorem airOf_setRate (n : Nat) (i rate : Int) (s : State) : airOf n (setRate n i rate s) = { airOf n s with integ := withinRate n s i } := by
  simp only [setRate, airOf_setF, airOf_setAir_same]
  rfl

theorem rate_setRate (n : Nat) (i rate : Int) (s : State) : getF (AIR_TDn_RATE_NOW n) (setRate n i rate s) = intBits 32 (withinRate n s rate) := by
  rw [setRate, getF_setF_ne _ _ (by simp), getF_setF_same]
  exact intBits_mod 32 _

/-- Setting the rate leaves every register but NOW and SLEWING as it was. -/
theorem getF_setRate {g : Fld} (i rate : Int) (h1 : g.key ≠ (AIR_TDn_RATE_NOW n).key) (h2 : g.key ≠ (AIR_TDn_STATE_SLEWING n).key) :
    getF g (setRate n i rate s) = getF g s := by
  rw [setRate, getF_setF_ne _ _ h2, getF_setF_ne _ _ h1, getF_setAir]

theorem regsExcept_setRate (i rate : Int) (h1 : AIR_TDn_RATE_NOW n ∈ fs) (h2 : AIR_TDn_STATE_SLEWING n ∈ fs) :
    RegsExcept fs s (setRate n i rate t) ↔ RegsExcept fs s t := by
  simp [setRate, regsExcept_setF, h1, h2]

theorem frame_setRate (i rate : Int) (hp : .air ∈ ps) : Frame ps s (setRate n i rate t) ↔ Frame ps s t := by
  simp [setRate, frame_setAir, hp]

/-- Outside HOLDOVER, and with a reference before the counter, the servo sets I and the rate and takes the counter as its next reference. -/
theorem servoAct_of_ref {r : Nat} (off16 : Int) (hst : tdState n s ≠ 4) (href : (airOf n s).ref = some r) (hr : r < counter n s) :
    servoAct n off16 s = setAir n { airOf n s with integ := withinRate n s (servoSum n off16 r s), ref := some (counter n s) }
      (setRate n (servoSum n off16 r s) (servoRate n off16 r s) s) := by
  have hgo : ¬(tdState n s = 4 ∨ counter n s = r) := by omega
  simp only [servoAct, href, Bool.or_eq_true, decide_eq_true_eq, if_neg hgo]
  rw [airOf_setRate]
  rfl

/-- A measurement within the threshold ends the count of bad ones of a LOCKED domain. -/
theorem lockAdvance_of_locked {off16 : Int} (hst : tdState n s = 3) (hthr : mag16 off16 ≤ 64 * getF (AIR_TDn_LOCK_THR n) s)
    (hcnt : 1 ≤ getF (AIR_TDn_LOCK_CNT n) s) : lockAdvance n off16 s = setAir n { airOf n s with run := 0 } s := by
  have hgood : ¬4 * (16 * getF (AIR_TDn_LOCK_THR n) s) < mag16 off16 := by omega
  have hstays : ¬getF (AIR_TDn_LOCK_CNT n) s ≤ 0 := by omega
  simp [lockAdvance, hst, hgood, countRun, hstays]

theorem rateLimit_recorded (off16 : Int) (mpd : Nat) : rateLimit n (recorded n off16 mpd s) = rateLimit n s := by
  have hcell : cellBound n (recorded n off16 mpd s) = cellBound n s := rfl
  rw [rateLimit, rateLimit, hcell, getF_recorded _ _ (by simp) (by simp)]

theorem counter_recorded (off16 : Int) (mpd : Nat) : counter n (recorded n off16 mpd s) = counter n s := getF_recorded _ _ (by simp) (by simp)

theorem servoSum_recorded (off16 : Int) (mpd r : Nat) : servoSum n off16 r (recorded n off16 mpd s) = servoSum n off16 r s := by
  rw [servoSum, servoSum, counter_recorded, airOf_recorded, getF_recorded _ _ (by simp) (by simp)]

theorem servoRate_recorded (off16 : Int) (mpd r : Nat) : servoRate n off16 r (recorded n off16 mpd s) = servoRate n off16 r s := by
  rw [servoRate, servoRate, servoSum_recorded, counter_recorded, getF_recorded _ _ (by simp) (by simp)]
  simp only [withinRate, rateLimit_recorded]

section FromLocked

variable {off16 : Int} {r : Nat} (mpd : Nat) (hst : tdState n s = 3) (href : (airOf n s).ref = some r) (hr : r < counter n s)
include hst href hr

/-- The state in which a measurement of a LOCKED domain at the reference r is recorded and the servo has acted on it. -/
theorem servoAct_recorded : servoAct n off16 (recorded n off16 mpd s) =
    setAir n { airOf n s with lastMeas := s.now, integ := withinRate n s (servoSum n off16 r s), ref := some (counter n s) }
      (setRate n (servoSum n off16 r s) (servoRate n off16 r s) (recorded n off16 mpd s)) := by
  have hst' : tdState n (recorded n off16 mpd s) ≠ 4 := by rw [tdState, getF_recorded _ _ (by simp) (by simp)]; exact ne_of_eq_of_ne hst (by decide)
  rw [servoAct_of_ref (r := r) off16 hst' (by simpa using href) (by rw [counter_recorded]; exact hr)]
  rw [servoSum_recorded, servoRate_recorded, counter_recorded, airOf_recorded, withinRate, rateLimit_recorded]
  rfl

variable (hthr : mag16 off16 ≤ 64 * getF (AIR_TDn_LOCK_THR n) s) (hcnt : 1 ≤ getF (AIR_TDn_LOCK_CNT n) s)
include hthr hcnt

/-- A LOCKED domain takes a measurement within its threshold by its servo and stays LOCKED. -/
theorem validMeasurement_of_locked : validMeasurement n off16 mpd s =
    setAir n { airOf n s with lastMeas := s.now, integ := withinRate n s (servoSum n off16 r s), ref := some (counter n s), run := 0 }
      (servoAct n off16 (recorded n off16 mpd s)) := by
  have hkeeps {g : Fld} (h1 : g.key ≠ (AIR_TDn_RATE_NOW n).key) (h2 : g.key ≠ (AIR_TDn_STATE_SLEWING n).key)
      (h3 : g.key ≠ (AIR_TDn_OFFSET_OFS n).key) (h4 : g.key ≠ (AIR_TDn_OFFSET_MPD n).key) :
      getF g (servoAct n off16 (recorded n off16 mpd s)) = getF g s := by
    rw [servoAct_recorded mpd hst href hr, getF_setAir, getF_setRate _ _ h1 h2, getF_recorded _ _ h3 h4]
  have hst' : tdState n (servoAct n off16 (recorded n off16 mpd s)) = 3 := by
    rw [tdState, hkeeps (by simp) (by simp) (by simp) (by simp)]; exact hst
  have hval : validMeasurement n off16 mpd s = lockAdvance n off16 (servoAct n off16 (recorded n off16 mpd s)) := by
    rw [validMeasurement, if_neg (by omega)]
    simp only [hst]
    rfl
  rw [hval, lockAdvance_of_locked hst' (by rwa [hkeeps (by simp) (by simp) (by simp) (by simp)])
    (by rwa [hkeeps (by simp) (by simp) (by simp) (by simp)])]
  rw [servoAct_recorded mpd hst href hr, airOf_setAir_same]

end FromLocked

/-! ### The BMCA (R41) -/

/-- A candidate of a lower rank than every other is the best. -/
theorem bestCand_cons_of_lt {c : Candidate} {l : List Candidate} (h : ∀ d ∈ l, c.rank < d.rank) : bestCand (c :: l) = some c := by
  have hfold : l.foldl betterCand c = c := by
    induction l with
    | nil => rfl
    | cons d l ih =>
      obtain ⟨hd, hl⟩ := List.forall_mem_cons.mp h
      have hbetter : betterCand c d = c := by simp [betterCand]; omega
      rw [List.foldl_cons, hbetter, ih hl]
  rw [bestCand, hfold]

/-- A transmitter has become a candidate on its port, in the place of what it was there before. -/
def withCand (n : Nat) (c : Candidate) (s : State) : State :=
  setAir n { airOf n s with cands := c :: (airOf n s).cands.filter (fun d => !(decide (d.clockId = c.clockId) && decide (d.port = c.port))) } s

theorem bestCand_withCand {c : Candidate} (h : ∀ d ∈ (airOf n s).cands, c.rank < d.rank) : bestCand (airOf n (withCand n c s)).cands = some c := by
  rw [withCand, airOf_setAir_same]
  exact bestCand_cons_of_lt fun d hd => h d (List.mem_of_mem_filter hd)

/-- Without a candidate no grandmaster is selected. -/
theorem reselect_of_none (h : bestCand (airOf n s).cands = none) : reselect n s = setAir n { airOf n s with gm := none } s := by
  rw [reselect, h]

/-- The best candidate's transmitter is selected. -/
def gmSelected (n : Nat) (c : Candidate) (s : State) : State :=
  setAir n { airOf n s with gm := some (c.clockId, decide (c.clockClass = 6 ∨ c.clockClass = 7 ∨ c.clockClass = 135)) } (setF (AIR_TDn_GM_CLOCKID n) c.clockId s)

/-- On a domain that is not LOCKED the best candidate is selected; on one in HOLDOVER a change of the grandmaster starts the count again. -/
theorem reselect_of_best {c : Candidate} (h : bestCand (airOf n s).cands = some c) (hst : tdState n s ≠ 3) :
    reselect n s = gmSelected n c s ∨ reselect n s = countRun n false (gmSelected n c s) := by
  simp only [reselect, h, hst, and_false, if_false]
  split
  · exact .inr rfl
  · exact .inl rfl

section Select

variable {c : Candidate} (hbest : bestCand (airOf n s).cands = some c) (hst : tdState n s ≠ 3)
include hbest hst

/-- What selecting leaves of the servo's and the BMCA's state: all but the grandmaster and the run. -/
theorem airOf_reselect : ∃ k, airOf n (reselect n s) =
    { airOf n s with gm := some (c.clockId, decide (c.clockClass = 6 ∨ c.clockClass = 7 ∨ c.clockClass = 135)), run := k } := by
  obtain h | h := reselect_of_best hbest hst <;> rw [h]
  · exact ⟨_, airOf_setAir_same _ _ _⟩
  · exact ⟨0, by simp [countRun, gmSelected]⟩

theorem clockId_reselect : getF (AIR_TDn_GM_CLOCKID n) (reselect n s) = c.clockId % 2 ^ 64 := by
  obtain h | h := reselect_of_best hbest hst <;> rw [h] <;> exact getF_setF_same _ _ _

theorem regsExcept_reselect (hg : AIR_TDn_GM_CLOCKID n ∈ fs) : RegsExcept fs t (reselect n s) ↔ RegsExcept fs t s := by
  obtain h | h := reselect_of_best hbest hst <;> simp [h, countRun, gmSelected, regsExcept_setF, hg]

theorem frame_reselect (hp : .air ∈ ps) : Frame ps t (reselect n s) ↔ Frame ps t s := by
  obtain h | h := reselect_of_best hbest hst <;> simp [h, countRun, gmSelected, frame_setAir, hp]

end Select

/-! ### The edges of 1PPS (R45) -/

/-- A domain that is not enabled takes no measurement from an edge. -/
theorem ppsMeasure_of_off (h : flagF (AIR_TDn_CTRL_EN n) s = false) : ppsMeasure n s = s := by simp [ppsMeasure, h]

theorem foldl_ppsMeasure_of_off {l : List Nat} (h : ∀ m ∈ l, flagF (AIR_TDn_CTRL_EN m) s = false) : l.foldl (fun t m => ppsMeasure m t) s = s := by
  induction l with
  | nil => rfl
  | cons m l ih =>
    obtain ⟨hm, hl⟩ := List.forall_mem_cons.mp h
    rw [List.foldl_cons, ppsMeasure_of_off hm, ih hl]

/-- The second that the next edge marks for domain n: the one after the last edge's, or TOD's. -/
def ppsSecond (n : Nat) (s : State) : Nat := (airOf n s).ppsNext.getD (getF (AIR_TDn_TOD_SECONDS n) s)

/-- The offset in 1/16 Tc that an edge gives domain n: the counter less the input delay, against the second's start. -/
def ppsOffset (n : Nat) (s : State) : Int :=
  (count16 n s : Int) - calEffective 56 4096 0 65535 false s - 16 * (((ppsSecond n s * secTc : Nat) : Int) - (getF (AIR_TDn_EPOCH_EPOCH n) s : Int))

/-- Domain n has counted the second that an edge marks. -/
def secondCounted (n : Nat) (s : State) : State := setAir n { airOf n s with ppsNext := some (ppsSecond n s + 1) } s

/-- An edge is a measurement of an enabled domain that it serves, and the domain counts the second it marks. -/
theorem ppsMeasure_of_on (hen : flagF (AIR_TDn_CTRL_EN n) s = true) (hsrc : getF (AIR_TDn_CTRL_SRC n) s = 1) (hn : n < 6) :
    ppsMeasure n s = validMeasurement n (ppsOffset n s) 0 (secondCounted n s) := by
  simp only [ppsMeasure, hen, hsrc, hn, decide_true, Bool.and_self, if_true]
  rfl

/-- The enables of the domains are among the registers that a first measurement leaves. -/
theorem key_en_not_mem_acquireRegs (n m : Nat) : ∀ g ∈ acquireRegs n, (AIR_TDn_CTRL_EN m).key ≠ g.key := by
  simp only [acquireRegs, List.forall_mem_cons, key_AIR_TDn_CTRL_EN, key_AIR_TDn_OFFSET_OFS, key_AIR_TDn_OFFSET_MPD, key_AIR_TDn_STATE_STATE,
    key_AIR_TDn_HOLDOVER_ACTIVE, key_AIR_TDn_HOLDOVER_AGE, key_AIR_TDn_COUNT_VALUE]
  refine ⟨?_, ?_, ?_, ?_, ?_, ?_, by simp⟩ <;> omega

/-- Of the domains that an edge goes through, only an enabled one takes it. -/
theorem foldl_ppsMeasure_of_on {l : List Nat} (hl : l.Nodup) (hn : n ∈ l) (hoff : ∀ m ∈ l, m ≠ n → flagF (AIR_TDn_CTRL_EN m) s = false)
    (hregs : RegsExcept (acquireRegs n) s (ppsMeasure n s)) : l.foldl (fun t m => ppsMeasure m t) s = ppsMeasure n s := by
  obtain ⟨a, b, rfl⟩ := List.append_of_mem hn
  rw [List.nodup_append, List.nodup_cons] at hl
  obtain ⟨_, ⟨hnb, _⟩, hdisj⟩ := hl
  have ha : ∀ m ∈ a, flagF (AIR_TDn_CTRL_EN m) s = false := fun m hm => hoff m (by simp [hm]) (hdisj m hm n List.mem_cons_self)
  have hb : ∀ m ∈ b, flagF (AIR_TDn_CTRL_EN m) (ppsMeasure n s) = false := fun m hm => by
    rw [flagF, hregs _ (key_en_not_mem_acquireRegs n m)]
    exact hoff m (by simp [hm]) (fun e => hnb (e ▸ hm))
  rw [List.foldl_append, foldl_ppsMeasure_of_off ha, List.foldl_cons, foldl_ppsMeasure_of_off hb]

end Sys2Proof.Machine

/-! SUPPORT. What the events of air time do: measurements, Announce and ESMC messages, received event messages and the edges of 1PPS. -/

namespace Sys2Proof.Machine

/-- A measurement of a LOCKED domain within its threshold takes both terms off the rate within its limits and records the offset (R39, R40). -/
theorem servoMeasurement_completes_locked {s : State} {n : Fin 8} {off16 : Int} (mpd : Nat) {r : Nat} {clockId : BitVec 64} {lport : Fin 32}
    (hv : measurementValid n clockId.toNat lport s = true) (hst : tdState n s = 3) (href : (airOf n s).ref = some r) (hr : r < counter n s)
    (hthr : mag16 off16 ≤ 64 * getF (AIR_TDn_LOCK_THR n) s) (hcnt : 1 ≤ getF (AIR_TDn_LOCK_CNT n) s) :
    Completes (.servoMeasurement n off16 mpd clockId lport) s (fun t =>
      (airOf n t).integ = clampInt (-rateLimit n s) (rateLimit n s)
        ((airOf n s).integ - divZero (off16 * 2 ^ (40 - getF (AIR_TDn_SERVO_KI_SHIFT n) s)) (16 * ((counter n s : Int) - r))) ∧
      getF (AIR_TDn_RATE_NOW n) t = intBits 32 (clampInt (-rateLimit n s) (rateLimit n s)
        ((airOf n t).integ - divZero (off16 * 2 ^ (40 - getF (AIR_TDn_SERVO_KP_SHIFT n) s)) (16 * ((counter n s : Int) - r)))) ∧
      (airOf n t).ref = some (counter n s) ∧ (airOf n t).lastMeas = s.now ∧ (airOf n t).run = 0 ∧
      getF (AIR_TDn_OFFSET_OFS n) t = intBits 32 off16 ∧ getF (AIR_TDn_OFFSET_MPD n) t = mpd % 2 ^ 32 ∧ tdState n t = 3 ∧
      RegsExcept [AIR_TDn_OFFSET_OFS n, AIR_TDn_OFFSET_MPD n, AIR_TDn_RATE_NOW n, AIR_TDn_STATE_SLEWING n] s t ∧ Frame [.air] s t) := by
  refine completes_of_goesOn (u := validMeasurement n off16 mpd s) ?_ (fun _ _ h => h) ?_
  · show execServoMeasurement n off16 mpd clockId lport s = _; rw [execServoMeasurement, if_pos hv]
  · rw [validMeasurement_of_locked mpd hst href hr hthr hcnt, servoAct_recorded mpd hst href hr]
    refine ⟨by rw [airOf_setAir_same]; rfl, ?_, by simp, by simp, by simp, ?_, ?_, ?_, ?_, ?_⟩
    · rw [airOf_setAir_same, getF_setAir, getF_setAir, rate_setRate, withinRate, rateLimit_recorded]; rfl
    · rw [getF_setAir, getF_setAir, getF_setRate _ _ (by simp) (by simp), ofs_recorded]
    · rw [getF_setAir, getF_setAir, getF_setRate _ _ (by simp) (by simp), mpd_recorded]
    · rw [tdState, getF_setAir, getF_setAir, getF_setRate _ _ (by simp) (by simp), getF_recorded _ _ (by simp) (by simp)]; exact hst
    · simp [regsExcept_setRate, regsExcept_recorded]
    · simp [frame_setAir, frame_setRate, frame_recorded]

/-- The first measurement of a FREE domain steps its counter to the source phase and begins ACQUIRING (R36, R40). -/
theorem servoMeasurement_completes_free {s : State} {n : Fin 8} (off16 : Int) (mpd : Nat) {clockId : BitVec 64} {lport : Fin 32}
    (hv : measurementValid n clockId.toNat lport s = true) (hst : tdState n s = 1) (hb : cellBound n s = false) :
    Completes (.servoMeasurement n off16 mpd clockId lport) s (fun t =>
      ((airTotal n t : Nat) : Int) = ((airTotal n s : Int) - off16 * 2 ^ 36) % 2 ^ 104 ∧
      tdState n t = 2 ∧ (airOf n t).ref = some (counter n t) ∧ (airOf n t).lastMeas = s.now ∧ RegsExcept (acquireRegs n) s t ∧ Frame [.air] s t) := by
  refine completes_of_goesOn (u := validMeasurement n off16 mpd s) ?_ (fun _ _ h => h) ?_
  · show execServoMeasurement n off16 mpd clockId lport s = _; rw [execServoMeasurement, if_pos hv]
  · obtain ⟨l, hair⟩ := airOf_validMeasurement_of_free off16 mpd hst hb
    exact ⟨airTotal_validMeasurement_of_free _ _ hst hb, tdState_validMeasurement_of_free _ _ hst hb, by rw [hair], by rw [hair],
      by simp [regsExcept_validMeasurement_of_free _ _ hst hb], by simp [frame_validMeasurement_of_free _ _ hst hb]⟩

/-- An Announce message of a better transmitter than every candidate is selected (R41). -/
theorem announceMessage_completes {s : State} {lport : Fin 32} {dom : Byte} (cls : Byte) (clockId : BitVec 64) {rank n : Nat} (k : Int)
    (hdom : ptpDomain lport dom.toNat s = some n) (hst : tdState n s ≠ 3) (hrank : ∀ d ∈ (airOf n s).cands, rank < d.rank) :
    Completes (.announceMessage lport dom clockId cls rank k) s (fun t =>
      (airOf n t).gm = some (clockId.toNat, decide (cls.toNat = 6 ∨ cls.toNat = 7 ∨ cls.toNat = 135)) ∧
      (⟨clockId.toNat, lport, cls.toNat, rank, s.now + announceTimeout k⟩ : Candidate) ∈ (airOf n t).cands ∧
      getF (AIR_TDn_GM_CLOCKID n) t = clockId.toNat ∧ RegsExcept [AIR_TDn_GM_CLOCKID n] s t ∧ Frame [.air] s t) := by
  have hbest := bestCand_withCand (c := ⟨clockId.toNat, lport, cls.toNat, rank, s.now + announceTimeout k⟩) hrank
  obtain ⟨_, hair⟩ := airOf_reselect hbest hst
  refine completes_of_goesOn (u := reselect n (withCand n ⟨clockId.toNat, lport, cls.toNat, rank, s.now + announceTimeout k⟩ s)) ?_ (fun _ _ h => h) ?_
  · show execAnnounceMessage lport dom clockId cls rank k s = _; rw [execAnnounceMessage, hdom]; rfl
  · refine ⟨by rw [hair], by rw [hair]; simp [withCand], ?_, (regsExcept_reselect hbest hst (by simp)).mpr (by simp [withCand]),
      (frame_reselect hbest hst (by simp)).mpr (by simp [withCand, frame_setAir])⟩
    rw [clockId_reselect hbest hst]
    exact Nat.mod_eq_of_lt clockId.isLt

/-- The only candidate's timeout has expired: no grandmaster is selected (R41). -/
theorem announceReceiptTimeout_completes {s : State} {n : Fin 8} {clockId : BitVec 64} {lport : Fin 32} {c : Candidate} (hc : (airOf n s).cands = [c])
    (hid : c.clockId = clockId.toNat) (hport : c.port = lport) (hlate : c.until_ ≤ s.now) :
    Completes (.announceReceiptTimeout n clockId lport) s (fun t =>
      (airOf n t).cands = [] ∧ (airOf n t).gm = none ∧ RegsExcept [] s t ∧ Frame [.air] s t) := by
  let s1 := setAir n { airOf n s with cands := [] } s
  have hnone : bestCand (airOf n s1).cands = none := by rw [airOf_setAir_same]; rfl
  refine completes_of_goesOn (u := reselect n s1) ?_ (fun _ _ h => h) ?_
  · show execAnnounceReceiptTimeout n clockId lport s = _
    simp [execAnnounceReceiptTimeout, hc, hid, hport, hlate, s1]
  · rw [reselect_of_none hnone]
    simp [s1, frame_setAir]

/-- A received event message is stamped by the domain that takes it (R46, R47). -/
theorem ptpRxStamp_completes {s : State} {lport : Fin 32} {dom : Byte} {n : Nat} (hdom : ptpDomain lport dom.toNat s = some n) :
    Completes (.ptpRxStamp lport dom) s (fun t =>
      t.airRx = some (n, lport.val, ((count16 n s : Int) - stampLatency (lport.val / 8) (portSpeedCode (lport.val / 8) s) 0 s).toNat) ∧
      RegsExcept [] s t ∧ Frame [.air] s t) := by
  refine completes_of_goesOn (u := { s with airRx := some (n, lport.val, ((count16 n s : Int) - stampLatency (lport.val / 8) (portSpeedCode (lport.val / 8) s) 0 s).toNat) })
    ?_ (fun _ _ h => h) ⟨rfl, by simp, by simp [frame_withAir]⟩
  show execPtpRxStamp lport dom s = _; rw [execPtpRxStamp, hdom]

/-- The level of an ESMC message is kept for its port (R45). -/
theorem esmcMessage_completes (s : State) (lport : Fin 32) (ql : Nat) :
    Completes (.esmcMessage lport ql) s (fun t => look 0 lport.val t.airQl = ql ∧ RegsExcept [] s t ∧ Frame [.air] s t) :=
  completes_of_goesOn (u := { s with airQl := put lport (some ql) s.airQl }) rfl (fun _ _ h => h) ⟨by simp, by simp, by simp [frame_withAir]⟩

/-- An edge of the 1PPS input measures the one enabled domain, which it serves and which is FREE (R45). -/
theorem ppsInEdge_completes {s : State} {n : Fin 6} (hen : flagF (AIR_TDn_CTRL_EN n) s = true) (hsrc : getF (AIR_TDn_CTRL_SRC n) s = 1)
    (hst : tdState n s = 1) (hb : cellBound n s = false) (hoff : ∀ m ∈ domains, m ≠ n → flagF (AIR_TDn_CTRL_EN m) s = false) :
    Completes .ppsInEdge s (fun t =>
      tdState n t = 2 ∧ (airOf n t).ppsNext = some ((airOf n s).ppsNext.getD (getF (AIR_TDn_TOD_SECONDS n) s) + 1) ∧ (airOf n t).lastMeas = s.now ∧
      RegsExcept (acquireRegs n) s t ∧ Frame [.air] s t) := by
  have hst' : tdState n (secondCounted n s) = 1 := hst
  have hb' : cellBound n (secondCounted n s) = false := hb
  obtain ⟨_, hair⟩ := airOf_validMeasurement_of_free (ppsOffset n s) 0 hst' hb'
  have hmeas := ppsMeasure_of_on hen hsrc n.isLt
  have hregs : RegsExcept (acquireRegs n) s (ppsMeasure n s) := by
    rw [hmeas, regsExcept_validMeasurement_of_free _ _ hst' hb']; simp [secondCounted]
  refine completes_of_goesOn (u := ppsMeasure n s) ?_ (fun _ _ h => h) ?_
  · have hn : (n : Nat) ∈ domains := by have := n.isLt; simp [domains]; omega
    show execPpsInEdge s = _
    rw [execPpsInEdge, foldl_ppsMeasure_of_on (by decide) hn hoff hregs]
  · refine ⟨?_, ?_, ?_, hregs, ?_⟩
    · rw [hmeas, tdState_validMeasurement_of_free _ _ hst' hb']
    · rw [hmeas, hair, secondCounted, airOf_setAir_same]; rfl
    · rw [hmeas, hair]; rfl
    · rw [hmeas, frame_validMeasurement_of_free _ _ hst' hb']; simp [secondCounted, frame_setAir]

/-- The edge of the 1PPS output that fell due in the last tick is recorded, to 1/16 Tc (R45). -/
theorem ppsOutEdge_completes {s : State} {n : Nat} {x : Int} (hen : flagF AIR_PPS_OUT_EN s = true) (htd : getF AIR_PPS_OUT_TD s = n) (hst : tdState n s ≠ 0)
    (hx : x = ((count16 n s : Int) + calEffective 57 4096 0 65535 false s - 16 * bitsInt 24 (getF AIR_PPS_OUT_OFS s)) % (16 * 1966080000)) (hlate : x < 80) :
    Completes .ppsOutEdge s (fun t => t.airPps = (n, ((count16 n s : Int) - x).toNat) :: s.airPps ∧ RegsExcept [] s t ∧ Frame [.air] s t) := by
  subst htd hx
  refine completes_of_goesOn (u := { s with airPps := (getF AIR_PPS_OUT_TD s, _) :: s.airPps }) ?_ (fun _ _ h => h) ⟨rfl, by simp, by simp [frame_withAir]⟩
  show execPpsOutEdge s = _
  exact congrArg (goesOn s) (if_pos ⟨hen, hst, hlate⟩)

end Sys2Proof.Machine

namespace Sys2Proof
open Machine

/-- Settles O9: each event by its own rule; a 1PPS edge is a measurement of the one domain that it serves. -/
theorem airMeasurements : Obligations.AirMeasurements :=
  ⟨fun _ _ _ mpd _ _ _ hv hst href hr hthr hcnt => servoMeasurement_completes_locked mpd hv hst href hr hthr hcnt,
   fun _ _ off16 mpd _ _ hv hst hb => servoMeasurement_completes_free off16 mpd hv hst hb,
   fun _ _ _ cls clockId _ _ k hdom hst hrank => announceMessage_completes cls clockId k hdom hst hrank,
   fun _ _ _ _ _ hc hid hport hlate => announceReceiptTimeout_completes hc hid hport hlate,
   fun _ _ _ _ hdom => ptpRxStamp_completes hdom,
   fun s lport ql => esmcMessage_completes s lport ql,
   fun _ _ hen hsrc hst hb hoff => ppsInEdge_completes hen hsrc hst hb hoff,
   fun _ _ _ hen htd hst hx hlate => ppsOutEdge_completes hen htd hst hx hlate⟩

end Sys2Proof

/-! SUPPORT. The latch of a Tally group (R54 to R56, R61). -/

namespace Sys2Proof.Machine

/-! ### Where the registers of a group lie -/

section Keys

variable (g : Nat)

@[simp] theorem key_TALLY_Gg_AT_AT : (TALLY_Gg_AT_AT g).key = g * 0x800 + 0x44000200 := by
  simp only [Fld.key, TALLY_Gg_AT_AT, TALLY_Gg_AT]; omega
@[simp] theorem key_TALLY_Gg_SEQ_SEQ : (TALLY_Gg_SEQ_SEQ g).key = g * 0x800 + 0x44000400 := by
  simp only [Fld.key, TALLY_Gg_SEQ_SEQ, TALLY_Gg_SEQ]; omega
@[simp] theorem key_TALLY_Gg_SAT_SAT : (TALLY_Gg_SAT_SAT g).key = g * 0x800 + 0x44000500 := by
  simp only [Fld.key, TALLY_Gg_SAT_SAT, TALLY_Gg_SAT]; omega

end Keys

/-! ### The counters after a latch -/

section Latch

variable (g b : Nat) (s : State)

theorem live_latchGroup : (latchGroup g b s).live = s.live.filter (fun k => decide (keyGroup k.1 ≠ g)) := rfl

theorem latched_latchGroup : (latchGroup g b s).latched =
    s.latched.filter (fun k => decide (keyGroup k.1 < g)) ++ s.live.filter (fun k => decide (keyGroup k.1 = g)) ++
      s.latched.filter (fun k => decide (g < keyGroup k.1)) := rfl

/-- The live counters of the group restart. -/
theorem live_latchGroup_same : (latchGroup g b s).live.filter (fun k => decide (keyGroup k.1 = g)) = [] := by
  rw [live_latchGroup, List.filter_eq_nil_iff]
  intro k hk
  simpa using List.of_mem_filter hk

/-- The live counters of every other group stay. -/
theorem live_latchGroup_other : (latchGroup g b s).live.filter (fun k => decide (keyGroup k.1 ≠ g)) = s.live.filter (fun k => decide (keyGroup k.1 ≠ g)) := by
  rw [live_latchGroup, List.filter_filter, funext fun _ => Bool.and_self _]

/-- The RL values of the group are the live counters of the moment. -/
theorem latched_latchGroup_same : (latchGroup g b s).latched.filter (fun k => decide (keyGroup k.1 = g)) = s.live.filter (fun k => decide (keyGroup k.1 = g)) := by
  have hbelow : ∀ x, ¬(x = g ∧ x < g) := by omega
  have habove : ∀ x, ¬(x = g ∧ g < x) := by omega
  simp [latched_latchGroup, List.filter_filter, ← Bool.decide_and, hbelow, habove]

theorem latched_latchGroup_below : (latchGroup g b s).latched.filter (fun k => decide (keyGroup k.1 < g)) = s.latched.filter (fun k => decide (keyGroup k.1 < g)) := by
  have hsame : ∀ x, ¬(x < g ∧ x = g) := by omega
  have habove : ∀ x, ¬(x < g ∧ g < x) := by omega
  simp [latched_latchGroup, List.filter_filter, ← Bool.decide_and, hsame, habove]

theorem latched_latchGroup_above : (latchGroup g b s).latched.filter (fun k => decide (g < keyGroup k.1)) = s.latched.filter (fun k => decide (g < keyGroup k.1)) := by
  have hsame : ∀ x, ¬(g < x ∧ x = g) := by omega
  have hbelow : ∀ x, ¬(g < x ∧ x < g) := by omega
  simp [latched_latchGroup, List.filter_filter, ← Bool.decide_and, hsame, hbelow]

/-! ### The registers after a latch -/

theorem at_latchGroup : getF (TALLY_Gg_AT_AT g) (latchGroup g b s) = b % 2 ^ 64 := by
  rw [latchGroup, getF_setF_ne _ _ (by simp), addF, getF_setF_ne _ _ (by simp), getF_setF_same]
  rfl

theorem seq_latchGroup : getF (TALLY_Gg_SEQ_SEQ g) (latchGroup g b s) = (getF (TALLY_Gg_SEQ_SEQ g) s + 1) % 2 ^ (TALLY_Gg_SEQ_SEQ g).width := by
  rw [latchGroup, getF_setF_ne _ _ (by simp), addF, getF_setF_same, getF_setF_ne _ _ (by simp)]
  rfl

theorem sat_latchGroup : getF (TALLY_Gg_SAT_SAT g) (latchGroup g b s) = b2n (decide (g ∈ s.satLive)) := by
  rw [latchGroup, getF_setF_same]
  cases decide (g ∈ s.satLive) <;> rfl

theorem regsExcept_latchGroup : RegsExcept [TALLY_Gg_AT_AT g, TALLY_Gg_SEQ_SEQ g, TALLY_Gg_SAT_SAT g] s (latchGroup g b s) := by
  simp only [latchGroup, addF]
  rw [regsExcept_setF _ (by simp), regsExcept_setF _ (by simp), regsExcept_setF _ (by simp)]
  exact fun _ _ => rfl

/-- A latch changes the counters and registers, and no other piece of the state. -/
theorem frame_latchGroup {ps : List Piece} {t : State} (hp : .tallies ∈ ps) : Frame ps s (latchGroup g b t) ↔ Frame ps s t :=
  frame_congr .tallies (fun p hne => by cases p with | tallies => exact absurd rfl hne | _ => exact Iff.rfl) hp

/-- Where no setting awaits the boundary, none takes effect. -/
theorem takePending_of_none {g : Nat} {s : State} (h : lookup g s.tallyPend = none) : takePending g s = s := by rw [takePending, h]

end Latch

/-- Group g has latched at boundary b of domain n, and the boundaries up to the counter are past (R54, R56). -/
def boundaryLatched (g n b : Nat) (s : State) : State := { latchGroup g b s with tallyLast := put g (some (counter n s)) s.tallyLast }

/-- At a boundary that has not latched the group latches, and with no setting pending that is all. -/
theorem exec_tallyBoundary {s : State} {g : Fin 1024} {n : Nat} (hd : tallyDomain g s = some n) (hst : tdState n s ≠ 0)
    (hseen : tallySeen g n s < counter n s / tallyPeriod g s * tallyPeriod g s) (hpend : lookup g.val s.tallyPend = none) :
    exec (.tallyBoundary g) s = goesOn s (boundaryLatched g n (counter n s / tallyPeriod g s * tallyPeriod g s) s) := by
  have htake : ∀ b, takePending g (boundaryLatched g n b s) = boundaryLatched g n b s := fun _ => takePending_of_none hpend
  show execTallyBoundary g s = _
  simp only [execTallyBoundary, hd]
  rw [if_pos ⟨hst, hseen⟩]
  exact congrArg (goesOn s) (htake _)

end Sys2Proof.Machine

namespace Sys2Proof
open Machine

/-- Settles O10: the boundary latches the group, and with no setting pending it does nothing else. -/
theorem tallyBoundaryLatches : Obligations.TallyBoundaryLatches := by
  intro s g n b hd hst hb hseen hpend
  subst hb
  exact completes_of_goesOn (exec_tallyBoundary hd hst hseen hpend) (fun _ _ h => h)
    ⟨at_latchGroup _ _ _, seq_latchGroup _ _ _, sat_latchGroup _ _ _, live_latchGroup_same _ _ _, live_latchGroup_other _ _ _,
      latched_latchGroup_same _ _ _, latched_latchGroup_below _ _ _, latched_latchGroup_above _ _ _, regsExcept_latchGroup _ _ _,
      (frame_withAir _ (by simp)).mpr ((frame_latchGroup _ _ _ (by simp)).mpr (frame_refl _ _))⟩

end Sys2Proof

/-! SUPPORT. The registers that a reply may change: the vectors that it raises, the dirty log of its write to host memory, and what
the end of a packet shows (R87, R93 to R101, R347, R434, R435, R448). -/

namespace Sys2Proof.Machine

variable {fs : List Fld} {s t : State}

section Vectors

variable (hv : vecRegs ⊆ fs)
include hv

theorem regsExcept_raiseVec (f v : Nat) : RegsExcept fs s (raiseVec f v t) ↔ RegsExcept fs s t := by
  simp only [vecRegs, List.cons_subset] at hv
  obtain ⟨hmaster, hfunc, hvec, _⟩ := hv
  unfold raiseVec
  split
  · exact regsExcept_raiseIn hmaster hfunc
  · exact regsExcept_hostErr hvec hmaster hfunc

theorem regsExcept_event {st : Fld} (hst : st ∈ fs) (i : Nat) (mask : Fld) (e : Nat) (vec : Fld) :
    RegsExcept fs s (event st i mask e vec t) ↔ RegsExcept fs s t := by
  unfold event orF
  dsimp only
  split
  · rw [regsExcept_raiseVec hv, regsExcept_setF _ hst]
  · exact regsExcept_setF _ hst

/-- A request that may not be issued changes the registers of its error alone. -/
theorem regsExcept_notIssued (f : Nat) : RegsExcept fs s (hostErrRaise DEV_HOSTERR_NO_MASTER (noMaster f t)) ↔ RegsExcept fs s t := by
  simp only [vecRegs, List.cons_subset] at hv
  obtain ⟨hmaster, hfunc, _⟩ := hv
  rw [regsExcept_hostErrRaise hmaster hfunc, regsExcept_noMaster hmaster hfunc]

theorem regsExcept_dlogBit (v i : Nat) : RegsExcept fs s (dlogBit v i t) ↔ RegsExcept fs s t := by
  unfold dlogBit
  dsimp only
  generalize (if flagF (SCHED_DLOGv_STAT_ACTIVE v) t = true then _ else _) * 8 + i / 8 = a
  split
  · exact regsExcept_notIssued hv 0
  · split <;> exact Iff.rfl

theorem regsExcept_dlogPage {v : Nat} (hovf : SCHED_STAT_DLOG_OVF ∈ fs) (hlog : SCHED_DLOGv_STAT_OVF v ∈ fs) (pg : Nat) :
    RegsExcept fs s (dlogPage v pg t) ↔ RegsExcept fs s t := by
  unfold dlogPage
  dsimp only
  split
  · exact regsExcept_dlogBit hv _ _
  · rw [dlogOvf, regsExcept_event hv hovf, regsExcept_setF _ hlog]

/-- A write to host memory may report that its function is no master, or that it lies outside the function's dirty log. -/
theorem regsExcept_hostWrite {f : Nat} (hovf : SCHED_STAT_DLOG_OVF ∈ fs) (hlog : SCHED_DLOGv_STAT_OVF (f - 1) ∈ fs) (a : Nat) (l : List Byte) :
    RegsExcept fs s (hostWrite f a l t) ↔ RegsExcept fs s t := by
  unfold hostWrite
  split
  · unfold dlogWrite
    split
    · exact Iff.rfl
    · have hpages : ∀ (l : List Nat) (n : Nat) (u : State), RegsExcept fs s (l.foldl (fun s i => dlogPage (f - 1) (n + i) s) u) ↔ RegsExcept fs s u := by
        intro l n
        induction l with
        | nil => exact fun _ => Iff.rfl
        | cons i l ih => exact fun u => (ih _).trans (regsExcept_dlogPage hv hovf hlog _)
      exact hpages _ _ _
  · exact regsExcept_notIssued hv f

end Vectors

section Replies

variable {p : Pkt} (h : replyRegs p.window ⊆ fs)
include h

theorem regsExcept_writeReply (st : Nat) (final : Bool) (d cat : Nat) : RegsExcept fs s (writeReply p st final d cat t) ↔ RegsExcept fs s t := by
  have hv : vecRegs ⊆ fs := fun f hf => by
    simp only [vecRegs, List.mem_cons, List.not_mem_nil, or_false] at hf
    obtain rfl | rfl | rfl := hf <;> exact h (by simp [replyRegs])
  simp only [replyRegs, List.cons_subset] at h
  obtain ⟨htail, _, _, _, _, _, hovf, hlog, _⟩ := h
  unfold writeReply
  dsimp only
  split
  · rw [regsExcept_raiseVec hv, addF, regsExcept_setF _ htail, regsExcept_hostWrite hv hovf hlog]
  · rw [addF, regsExcept_setF _ htail, regsExcept_hostWrite hv hovf hlog]

theorem regsExcept_leaveTimed : RegsExcept fs s (leaveTimed p t) ↔ RegsExcept fs s t := by
  unfold leaveTimed
  split
  · exact regsExcept_setF _ (h (by simp [replyRegs]))
  · exact Iff.rfl

/-- The end of a packet changes the registers of its reply alone. -/
theorem regsExcept_finish (st d : Nat) : RegsExcept fs s (finish p st d t) ↔ RegsExcept fs s t := by
  have hreply : RegsExcept fs s (reply p st true d (counter p.td t) (leaveTimed p t)) ↔ RegsExcept fs s t := by
    unfold reply
    split
    · exact regsExcept_leaveTimed h
    · rw [regsExcept_writeReply h, regsExcept_leaveTimed h]
  refine Iff.trans ?_ hreply
  unfold finish showBusy
  dsimp only
  split
  · exact Iff.rfl
  · rw [regsExcept_setF _ (h (by simp [replyRegs]))]
    exact Iff.rfl

end Replies

/-- A register that is none of a reply's holds through the end of a packet. -/
theorem getF_finish {p : Pkt} {g : Fld} (st d : Nat) (hg : ∀ f ∈ replyRegs p.window, g.key ≠ f.key) : getF g (finish p st d s) = getF g s :=
  (regsExcept_finish (List.Subset.refl _) st d).mpr (regsExcept_refl _ _) g hg

/-- A command that is ready and passes its check has its effect and ends with its final reply. -/
theorem runCmd_of_legal {chk : Check} {eff : Effect} {p : Pkt} (hr : ready p s = true) (hc : chk p (leaveTimed p s) = none) :
    runCmd chk eff p s = finish p (eff p (leaveTimed p s)).2.1 (eff p (leaveTimed p s)).2.2 (eff p (leaveTimed p s)).1 := by
  rw [runCmd, if_pos hr]
  dsimp only
  rw [hc]

/-! ### The Fence Gate opens (R323) -/

/-- FENCED after a partition's gate has opened is what it held less the partition's bit, in the 8 bits of the field. -/
theorem fenced_unfence (n : Nat) (s : State) (hn : n ≤ 7) :
    getF HJF_GATE_FENCED (unfence n s) = (getF HJF_GATE_FENCED s - (if bitAt n (getF HJF_GATE_FENCED s) then 2 ^ n else 0)) % 2 ^ 8 := by
  have hkey : HJF_GATE_FENCED.key ≠ (HJF_GATE_KEYp_EXTKEY n).key := by
    simp only [Fld.key, HJF_GATE_FENCED, HJF_GATE, HJF_GATE_KEYp_EXTKEY, HJF_GATE_KEYp]; omega
  have hinfo : HJF_GATE_FENCED.key ≠ (SCHED_Pp_INFO_STATE n).key := by
    simp only [Fld.key, HJF_GATE_FENCED, HJF_GATE, SCHED_Pp_INFO_STATE, SCHED_Pp_INFO]; omega
  rw [unfence, getF_setF_ne _ _ hkey, getF_setF_ne _ _ (by decide), getF_setF_same, getF_setF_ne _ _ hinfo]
  rfl

/-- A partition's gate opens at a FAB_UNFENCE that is ready, and the packet ends. -/
theorem exec_fabUnfence {s : State} {p : Pkt} (hr : ready p s = true) (hn : pf p 0 1 ≤ 7) (hst : partSt (pf p 0 1) (leaveTimed p s) = 2) :
    exec (.fabUnfence p) s = goesOn s (finish p stOK 0 (unfence (pf p 0 1) (leaveTimed p s))) := by
  have hchk : chkFence 2 p (leaveTimed p s) = none := by rw [chkFence, if_neg (by omega), if_pos hst]
  show execFabUnfence p s = _
  rw [execFabUnfence, runCmd_of_legal hr hchk]

/-- A FAB_UNFENCE of partition 0, from window 0. -/
def unfencePkt : Pkt := ⟨1, 0, 0, 0x705, false, false, false, false, 7, 0, 9, 0, 0, 0, 0, [0, 0, 0, 0]⟩

/-- The device has accepted it with partition 0 fenced and 257, which is past the field's 8 bits, stored for FENCED. -/
def fencedPastWidth : State :=
  { State.reset with accepted := [unfencePkt], regs := [(HJF_GATE_FENCED.key, 257), ((SCHED_Pp_INFO_STATE 0).key, 2)] }

theorem getF_goesOn {s u t : State} (h : goesOn s u = .next t) (f : Fld) : getF f t = getF f u := by cases h; rfl

/-- The gate that opens leaves 0 in FENCED: 256 is cut to the field's width. -/
theorem fenced_after_fencedPastWidth {t : State} (h : exec (.fabUnfence unfencePkt) fencedPastWidth = .next t) : getF HJF_GATE_FENCED t = 0 := by
  rw [exec_fabUnfence (by decide +kernel) (by decide +kernel) (by decide +kernel)] at h
  rw [getF_goesOn h, getF_finish _ _ (by decide), fenced_unfence _ _ (by decide +kernel)]
  decide +kernel

end Sys2Proof.Machine

namespace Sys2Proof
open Machine

/-- Refutes O38: its statement of FAB_UNFENCE takes the partition's bit off FENCED without a bound, but a write of the field is cut to its 8 bits,
and State bounds no stored value: with 257 stored for FENCED the gate of partition 0 opens to 0, and not to 256. -/
theorem not_fabricCommands : ¬ Obligations.FabricCommands := by
  rintro ⟨_, _, _, _, _, _, _, _, _, hunfence, _⟩
  obtain ⟨t, ht, _, hfenced, _⟩ := hunfence fencedPastWidth unfencePkt (by decide +kernel) (by decide +kernel) (by decide +kernel)
  rw [fenced_after_fencedPastWidth ht] at hfenced
  exact absurd hfenced (by decide +kernel)

end Sys2Proof

/-! SUPPORT. A downlink slot job that ends with a failed allocation: the Ledger index that it takes and the reply that it writes (R169,
R368). -/

namespace Sys2Proof.Machine

/-- A planned downlink job with no message left, first of its cell, ends. -/
theorem exec_dlJobComplete {s : State} {c : Fin 512} {slot : Nat} {x : Cell} {j : Job} (hx : lookup c.val s.cells = some x)
    (hj : findJob c slot false s = some j) (hplan : j.planned = true ∧ j.handed = true) (hleft : messagesLeft j s = false)
    (hfirst : firstInOrder j s = true) :
    exec (.dlJobComplete c slot) s = goesOn s (jobEnd x j (j.res.map fun r => if r.done then r else allocFail 0 false noUnit r) s) := by
  show execDlJobComplete c slot s = _
  simp [execDlJobComplete, hx, hj, hplan, hleft, hfirst]

/-- A SLOT_DL from window 180,224, whose ring's TAIL would lie where NEXT of the PF's Ledger lies. -/
def slotDlPkt : Pkt := ⟨1, 180224, 0, 0x402, false, false, false, false, 7, 0, 9, 0, 0xFF, 0, 0, []⟩

theorem key_tail_slotDlPkt : (CMD_PWw_RR_TAIL_TAIL slotDlPkt.window).key = (FLT_LGf_NEXT_NEXT 0).key := by decide

/-- An allocation that has ended FAILED. -/
def failedRes : AllocRes := ⟨1, false, false, false, 0, 0, 0, [], true, 0, false, noUnit⟩

/-- The job of the packet, for slot 0 of cell 7, whose messages have all left. -/
def failedJob : Job := ⟨slotDlPkt, 7, false, 0, true, true, true, none, false, false, false, false, 0, 0, [failedRes], []⟩

def plainCell : Cell := ⟨1, [], false, 0, 0, false, 0, 0, 0, creditZero, 0, 0, 0, 0, 2, true, true, false, []⟩

/-- The device holds the job. -/
def jobFailed : State := { State.reset with cells := [(7, plainCell)], accepted := [slotDlPkt], begun := [1], jobs := [failedJob] }

/-- The entry of the failed allocation takes NEXT from 0 to 1, and the reply's TAIL, in the same place, from 1 to 2. -/
theorem next_jobEnd_jobFailed : getF (FLT_LGf_NEXT_NEXT 0) (jobEnd plainCell failedJob [failedRes] jobFailed) = 2 := by decide +kernel

end Sys2Proof.Machine

namespace Sys2Proof
open Machine

/-- Refutes O28: its last statement has NEXT of the PF's Ledger advance by one, but bounds no packet's window. The job of a packet from window
180,224 advances the TAIL of that window as well, which lies in the same place: NEXT goes from 0 to 2. -/
theorem not_slotJobs : ¬ Obligations.SlotJobs := by
  rintro ⟨_, _, _, _, _, _, _, hfailed⟩
  obtain ⟨t, ht, _, _, hnext, _⟩ :=
    hfailed jobFailed 7 0 plainCell failedJob failedRes rfl rfl ⟨rfl, rfl⟩ rfl (by decide) rfl ⟨rfl, rfl⟩
  rw [exec_dlJobComplete (j := failedJob) (x := plainCell) rfl rfl ⟨rfl, rfl⟩ rfl (by decide)] at ht
  rw [getF_goesOn ht] at hnext
  exact absurd (hnext.symm.trans next_jobEnd_jobFailed) (by decide +kernel)

end Sys2Proof

/-! SUPPORT. A Cell-class command ends: its final reply is written, and what it had reserved is given back (R68, R100). -/

namespace Sys2Proof.Machine

theorem ended_goesOn {s u t : State} {p : Pkt} {st d : Nat} (h : goesOn s u = .next t) : Ended p st d t ↔ Ended p st d u := by
  cases h; rfl

/-- A CELL_NEURAL that is ready and admitted has its effect, ends, and gives back its reservation. -/
theorem exec_cellNeural_of_legal {s : State} {p : Pkt} (hr : ready p s = true)
    (hc : andThen chkCellAdmitted (admitAdds neuralAdds) p (leaveTimed p s) = none) :
    exec (.cellNeural p) s = goesOn s (unreserve p
      (finish p (effCellNeural p (leaveTimed p s)).2.1 (effCellNeural p (leaveTimed p s)).2.2 (effCellNeural p (leaveTimed p s)).1)) := by
  show execCellNeural p s = _
  rw [execCellNeural, runCell, if_pos hr, runCmd_of_legal hr hc]

/-- A CELL_NEURAL of cell 7 that turns the neural receiver off, from window 0. -/
def neuralOffPkt : Pkt := ⟨1, 0, 0, 0x305, false, false, false, false, 7, 0, 9, 0, 0xFF, 0, 0, [7, 0, 0, 0]⟩

/-- Its acceptance has reserved credit on logical port 131,555, whose ESC_FHk_USED would lie where TAIL of window 0 lies. -/
def neuralReserved : State :=
  { State.reset with
    fns := [(0, ⟨true, true, false, false, []⟩)], accepted := [neuralOffPkt], cells := [(7, plainCell)], resv := [⟨1, 131555, creditZero, 0, 0, 0⟩] }

theorem key_used_neuralReserved : (ESC_FHk_USED_IN 131555).key = (CMD_PWw_RR_TAIL_TAIL neuralOffPkt.window).key := by decide

/-- The state after the command. -/
def neuralEnded : State := unreserve neuralOffPkt (finish neuralOffPkt stOK 0 (effCellNeural neuralOffPkt neuralReserved).1)

theorem exec_neuralOffPkt : exec (.cellNeural neuralOffPkt) neuralReserved = goesOn neuralReserved neuralEnded :=
  exec_cellNeural_of_legal (by decide +kernel) (by decide +kernel)

/-- The reply has advanced TAIL to 1, and the port's credit, shown after it in the same place, makes it 0 again: the entry before TAIL is not the
reply, and its bytes are still zeros. -/
theorem lastReply_neuralEnded : lastReply neuralOffPkt.window neuralEnded = zeros 32 := by decide +kernel

theorem not_ended_neuralEnded : ¬ Ended neuralOffPkt stOK 0 neuralEnded := by
  rintro ⟨_, _, hreply⟩
  have hlast := hreply (by decide +kernel) (.inl rfl)
  rw [lastReply_neuralEnded] at hlast
  exact absurd (congrArg List.head? hlast) (by decide)

end Sys2Proof.Machine

namespace Sys2Proof
open Machine

/-- Refutes O27: its statement of CELL_NEURAL has the final reply be the last entry of the window's ring, but bounds no logical port. A reservation
on port 131,555, given back after the reply is written, shows that port's credit where TAIL of window 0 lies, and TAIL no longer follows the reply. -/
theorem not_cellCommands : ¬ Obligations.CellCommands := by
  rintro ⟨_, _, _, _, hneural, _⟩
  obtain ⟨t, ht, _, _, hended, _⟩ :=
    hneural neuralReserved neuralOffPkt plainCell (by decide +kernel) (by decide +kernel) rfl (by decide +kernel)
  exact not_ended_neuralEnded ((ended_goesOn (exec_neuralOffPkt ▸ ht)).mp hended)

end Sys2Proof

/-! SUPPORT. What the Escrow shows of its capacities and windows, and what each of these changes leaves (R62, R65, R70 to R73, R83). -/

namespace Sys2Proof.Machine

variable {fs : List Fld} {ps : List Piece} {s t : State}

/-! ### Events -/

theorem frame_raiseVec {f v : Nat} (hb : .bus ∈ ps) (ht : .tallies ∈ ps) : Frame ps s (raiseVec f v t) ↔ Frame ps s t := by
  unfold raiseVec
  split
  · exact frame_raiseIn hb ht
  · exact frame_hostErr hb ht

theorem frame_event {st mask vec : Fld} {i e : Nat} (hb : .bus ∈ ps) (ht : .tallies ∈ ps) :
    Frame ps s (event st i mask e vec t) ↔ Frame ps s t := by
  unfold event
  dsimp only
  split
  · rw [frame_raiseVec hb ht]; exact Iff.rfl
  · exact Iff.rfl

theorem setBit_zero_odd (n : Nat) : setBit 0 n % 2 = 1 := by
  simp only [setBit, bitAt, pow_zero, Nat.div_one, decide_eq_true_eq]
  split <;> omega

/-- An event's own bit is set, whatever raising its vector does. -/
theorem flagF_event {st mask vec : Fld} {e : Nat} (hw : 0 < st.width) (hk : ∀ f ∈ vecRegs, st.key ≠ f.key) (s : State) :
    flagF st (event st 0 mask e vec s) = true := by
  have hor : getF st (orF st 0 s) ≠ 0 := by
    rw [orF, getF_setF_same]
    have hodd := setBit_zero_odd (getF st s)
    have hdvd : setBit 0 (getF st s) % 2 ^ st.width % 2 = setBit 0 (getF st s) % 2 := Nat.mod_mod_of_dvd _ (dvd_pow_self 2 (by omega))
    omega
  rw [flagF_iff]
  unfold event
  dsimp only
  split
  · rw [((regsExcept_raiseVec (List.Subset.refl vecRegs) _ _).mpr (regsExcept_refl _ _) st hk : getF st (raiseVec _ _ _) = _)]
    exact hor
  · exact hor

/-! ### Capacities, and how credit stands to them (R62, R65) -/

section Shown

variable (hv : vecRegs ⊆ fs)
include hv

theorem regsExcept_escEvent {f : Fld} (hf : f ∈ fs) : RegsExcept fs s (escEvent f t) ↔ RegsExcept fs s t := regsExcept_event hv hf _ _ _ _

theorem regsExcept_escLevel {f : Fld} (hf : f ∈ fs) (b : Bool) : RegsExcept fs s (escLevel f b t) ↔ RegsExcept fs s t := by
  unfold escLevel
  split
  · split
    · exact Iff.rfl
    · exact regsExcept_escEvent hv hf
  · exact regsExcept_setF _ hf

theorem regsExcept_showEscrow (h : escrowShown ⊆ fs) : RegsExcept fs s (showEscrow t) ↔ RegsExcept fs s t := by
  simp only [escrowShown, List.cons_subset] at h
  obtain ⟨hmc, hsc, hcod, ht1, hrisk, hover, _⟩ := h
  unfold showEscrow
  dsimp only
  rw [regsExcept_escLevel hv hrisk, regsExcept_escLevel hv hover, regsExcept_setF _ ht1, regsExcept_setF _ hcod, regsExcept_setF _ hsc,
    regsExcept_setF _ hmc]

end Shown

theorem frame_escEvent {f : Fld} (hb : .bus ∈ ps) (ht : .tallies ∈ ps) : Frame ps s (escEvent f t) ↔ Frame ps s t := frame_event hb ht

theorem frame_escLevel {f : Fld} {b : Bool} (hb : .bus ∈ ps) (ht : .tallies ∈ ps) : Frame ps s (escLevel f b t) ↔ Frame ps s t := by
  unfold escLevel
  split
  · split
    · exact Iff.rfl
    · exact frame_escEvent hb ht
  · exact frame_setF _ _

theorem frame_showEscrow (hb : .bus ∈ ps) (ht : .tallies ∈ ps) : Frame ps s (showEscrow t) ↔ Frame ps s t := by
  unfold showEscrow
  dsimp only
  rw [frame_escLevel hb ht, frame_escLevel hb ht]
  exact Iff.rfl

/-- A register that shows nothing of the Escrow holds what it held. -/
theorem getF_showEscrow {g : Fld} (hg : ∀ f ∈ escrowShown ++ vecRegs, g.key ≠ f.key) : getF g (showEscrow s) = getF g s :=
  (regsExcept_showEscrow (List.subset_append_right _ _) (List.subset_append_left _ _)).mpr (regsExcept_refl _ _) g hg

/-! ### Ceilings (R63, R64) -/

/-- The ceilings written, each to its own field. -/
def setCeilings (new : Nat → Nat) (s : State) : State :=
  setF ESC_CEILING_FH (new 4) (setF ESC_CEILING_T1 (new 3) (setF ESC_CEILING_COD (new 2) (setF ESC_CEILING_SC (new 1) (setF ESC_CEILING_MC (new 0) s))))

theorem regsExcept_setCeilings (new : Nat → Nat) (h : ceilingFields ⊆ fs) : RegsExcept fs s (setCeilings new t) ↔ RegsExcept fs s t := by
  simp only [ceilingFields, List.cons_subset] at h
  obtain ⟨hmc, hsc, hcod, ht1, hfh, _⟩ := h
  rw [setCeilings, regsExcept_setF _ hfh, regsExcept_setF _ ht1, regsExcept_setF _ hcod, regsExcept_setF _ hsc, regsExcept_setF _ hmc]

theorem frame_setCeilings (new : Nat → Nat) : Frame ps s (setCeilings new t) ↔ Frame ps s t := by
  simp only [setCeilings, frame_setF]

theorem ceiling_setCeilings (new : Nat → Nat) {x : Nat} (hx : x ∈ List.range 5) : ceiling x (setCeilings new s) = new x % 2 ^ 7 := by
  simp only [List.mem_range] at hx
  interval_cases x <;> simp only [ceiling, setCeilings] <;> repeat rw [getF_setF_ne _ _ (by decide)]
  all_goals exact getF_setF_same _ _ _

theorem ceiling_showEscrow {x : Nat} (hx : x ∈ List.range 5) : ceiling x (showEscrow s) = ceiling x s := by
  simp only [List.mem_range] at hx
  interval_cases x <;> exact getF_showEscrow (by decide)

/-- What a write of ESC_CEILING makes of resource x: a field out of range leaves its ceiling (R64). -/
def newCeiling (v : BitVec 64) (s : State) (x : Nat) : Nat :=
  if 10 ≤ ceilingGiven v x ∧ ceilingGiven v x ≤ 95 then ceilingGiven v x else ceiling x s

/-- The write lowers a ceiling below the credit in use (R64). -/
def ceilingBroken (v : BitVec 64) (s : State) : Bool :=
  [0, 1, 2, 3].any (fun x => decide (newCeiling v s x < ceiling x s) && !within (usedCredit x s) (capAt (dutyPct s) x s) (newCeiling v s x)) ||
    (decide (newCeiling v s 4 < ceiling 4 s) && !fhWithin (newCeiling v s 4) s)

theorem exec_ceilingWrite {v : BitVec 64} (hup : hostUp 0 s = true) :
    exec (.ceilingWrite v) s =
      goesOn s (if ceilingBroken v s then escEvent ESC_STAT_CEIL_REFUSED s else showEscrow (setCeilings (newCeiling v s) s)) := by
  show execCeilingWrite v s = _
  simp only [execCeilingWrite, hup]
  rfl

/-! ### Windows (R70 to R73) -/

/-- A radio state that holds the same packets: a frame that names the radio does not tell it apart. -/
theorem frame_withRadio {r : RadioState} (hc : r.accepted = t.accepted ∧ r.timed = t.timed ∧ r.begun = t.begun) (hp : .radio ∈ ps) :
    Frame ps s { t with toRadioState := r } ↔ Frame ps s t :=
  frame_congr .radio (fun g hg => by cases g with
    | radio => exact absurd rfl hg
    | commands => simp only [Piece.same, hc]
    | _ => exact Iff.rfl) hp

theorem frame_withWindows (l : List Window) (hp : .radio ∈ ps) : Frame ps s { t with windows := l } ↔ Frame ps s t :=
  frame_withRadio (r := { t.toRadioState with windows := l }) ⟨rfl, rfl, rfl⟩ hp

theorem frame_setWindow (w : Window) (new : Option Window) (hp : .radio ∈ ps) : Frame ps s (setWindow w new t) ↔ Frame ps s t :=
  frame_withWindows _ hp

theorem frame_tally1024 {g : Nat} {f : Fld} {n : Nat} (hr : .radio ∈ ps) (ht : .tallies ∈ ps) : Frame ps s (tally1024 g f n t) ↔ Frame ps s t := by
  unfold tally1024
  dsimp only
  rw [frame_tally _ _ _ ht]
  exact frame_withRadio (r := { t.toRadioState with tallyRem := _ }) ⟨rfl, rfl, rfl⟩ hr

theorem findWindow_place {core start : Nat} {w : Window} (h : findWindow core start s = some w) : w.core = core ∧ w.start = start := by
  simpa using List.find?_some h

section Replace

variable {α : Type} (P : α → Prop) [DecidablePred P] (new : Option α) (hn : ∀ n ∈ new, P n)
include hn

/-- Where every element with a property is replaced, the first one found is the replacement. -/
theorem find?_replace (l : List α) (hl : ∃ v ∈ l, P v) :
    (l.flatMap fun v => if P v then new.toList else [v]).find? (fun v => decide (P v)) = new := by
  cases new with
  | none => simp [List.find?_eq_none]
  | some n =>
    have hP : P n := hn n rfl
    induction l with
    | nil => simp at hl
    | cons v r ih =>
      by_cases hv : P v
      · simp [hv, hP]
      · simpa [hv] using ih (by simpa [hv] using hl)

/-- The elements without the property stay. -/
theorem filter_replace (l : List α) :
    (l.flatMap fun v => if P v then new.toList else [v]).filter (fun v => !decide (P v)) = l.filter (fun v => !decide (P v)) := by
  induction l with
  | nil => rfl
  | cons v r ih =>
    rw [List.flatMap_cons, List.filter_append, ih]
    by_cases hv : P v
    · cases new with
      | none => simp [hv]
      | some n => simp [hv, hn n rfl]
    · simp [hv]

end Replace

section SetWindow

variable {core start : Nat} {w : Window} {new : Option Window}
variable (hw : findWindow core start s = some w) (hn : ∀ n ∈ new, n.core = core ∧ n.start = start)
include hw hn

theorem findWindow_setWindow : findWindow core start (setWindow w new s) = new := by
  obtain ⟨hcore, hstart⟩ := findWindow_place hw
  have := find?_replace (fun v : Window => v.core = core ∧ v.start = start) new hn s.windows ⟨w, List.mem_of_find?_eq_some hw, hcore, hstart⟩
  simpa [findWindow, setWindow, hcore, hstart] using this

theorem otherWindows_setWindow :
    (setWindow w new s).windows.filter (fun v => decide (v.core ≠ core ∨ v.start ≠ start)) =
      s.windows.filter (fun v => decide (v.core ≠ core ∨ v.start ≠ start)) := by
  obtain ⟨hcore, hstart⟩ := findWindow_place hw
  have := filter_replace (fun v : Window => v.core = core ∧ v.start = start) new hn s.windows
  simpa [setWindow, hcore, hstart, ← not_and_or] using this

end SetWindow

end Sys2Proof.Machine

/-! SUPPORT. The ceilings and the windows of the Escrow, one rule for each outcome of a command (R63, R64, R70 to R73). -/

namespace Sys2Proof.Machine

variable {s : State}

/-! ### ESC_CEILING (R63, R64) -/

/-- A write whose fields raise or keep every ceiling takes effect. -/
theorem ceilingWrite_completes_raised {v : BitVec 64} (hup : hostUp 0 s = true)
    (hv : ∀ x ∈ List.range 5, ceiling x s ≤ ceilingGiven v x ∧ 10 ≤ ceilingGiven v x ∧ ceilingGiven v x ≤ 95) :
    Completes (.ceilingWrite v) s (fun t =>
      (∀ x ∈ List.range 5, ceiling x t = ceilingGiven v x) ∧ RegsExcept (ceilingFields ++ escrowShown ++ vecRegs) s t ∧ Frame vecPieces s t) := by
  have hnew : ∀ x ∈ List.range 5, newCeiling v s x = ceilingGiven v x := fun x hx => if_pos (hv x hx).2
  have hkept : ∀ x ∈ List.range 5, ¬ newCeiling v s x < ceiling x s := fun x hx => by have := hv x hx; rw [hnew x hx]; omega
  have hfits : ceilingBroken v s = false := by
    simp [ceilingBroken, hkept 0, hkept 1, hkept 2, hkept 3, hkept 4]
  refine completes_of_goesOn (u := showEscrow (setCeilings (newCeiling v s) s)) ?_ (fun _ _ h => h) ⟨fun x hx => ?_, ?_, ?_⟩
  · rw [exec_ceilingWrite hup, hfits]; rfl
  · rw [ceiling_showEscrow hx, ceiling_setCeilings _ hx, hnew x hx]
    exact Nat.mod_eq_of_lt (by have := hv x hx; omega)
  · rw [regsExcept_showEscrow (by simp) (by simp), regsExcept_setCeilings _ (by simp)]
    exact regsExcept_refl _ _
  · rw [frame_showEscrow (by decide) (by decide), frame_setCeilings]
    exact frame_refl _ _

/-- A write that lowers a ceiling below the credit in use is refused whole. -/
theorem ceilingWrite_completes_refused {v : BitVec 64} {x : Nat} (hup : hostUp 0 s = true) (hx : x < 4)
    (hv : 10 ≤ ceilingGiven v x ∧ ceilingGiven v x ≤ 95 ∧ ceilingGiven v x < ceiling x s)
    (hused : capAt (dutyPct s) x s * ceilingGiven v x < usedCredit x s * 100) :
    Completes (.ceilingWrite v) s (fun t =>
      flagF ESC_STAT_CEIL_REFUSED t = true ∧ RegsExcept (ESC_STAT_CEIL_REFUSED :: vecRegs) s t ∧ Frame vecPieces s t) := by
  have hnew : newCeiling v s x = ceilingGiven v x := if_pos ⟨hv.1, hv.2.1⟩
  have hbroken : ceilingBroken v s = true := by
    have hbad : (decide (newCeiling v s x < ceiling x s) && !within (usedCredit x s) (capAt (dutyPct s) x s) (newCeiling v s x)) = true := by
      simp [hnew, hv.2.2, within, hused]
    have hmem : x ∈ [0, 1, 2, 3] := by interval_cases x <;> simp
    rw [ceilingBroken, List.any_eq_true.mpr ⟨x, hmem, hbad⟩, Bool.true_or]
  refine completes_of_goesOn (u := escEvent ESC_STAT_CEIL_REFUSED s) ?_ (fun _ _ h => h) ⟨flagF_event (by decide) (by decide) _, ?_, ?_⟩
  · rw [exec_ceilingWrite hup, hbroken]; rfl
  · rw [regsExcept_escEvent (by simp) (by simp)]
    exact regsExcept_refl _ _
  · rw [frame_escEvent (by decide) (by decide)]
    exact frame_refl _ _

/-! ### WINDOW_PLAN (R70) -/

/-- A window that fits its core and its interval, at its planning point, is placed. -/
theorem windowPlan_completes_placed {core slot start work : Nat} {c : Fin 512} {ul neural : Bool} {cell : Cell} (hcell : lookup c.val s.cells = some cell)
    (hin : coreInService core s = true) (hsound : coreSuspect core s = false) (hfree : overlaps core start (workToCycles work s) s = false)
    (hfrom : (windowInterval cell slot ul neural s).1 ≤ start)
    (hto : ((start + nsToTc (workToCycles work s) : Nat) : Int) ≤ (windowInterval cell slot ul neural s).2)
    (hpoint : planPoint cell.cfg start s ≤ counter (cfgTd cell.cfg) s) :
    Completes (.windowPlan core c slot ul neural start work false) s (fun t =>
      t.toRadioState = { s.toRadioState with windows := s.windows ++ [⟨core, c.val, slot, ul, neural, cfgTd cell.cfg, start, workToCycles work s,
        getF ESC_CTRL_RELEASE_US s, false, false⟩] } ∧ RegsExcept [] s t ∧ Frame [.radio] s t) := by
  refine completes_of_goesOn (u := { s with windows := s.windows ++ [⟨core, c.val, slot, ul, neural, cfgTd cell.cfg, start, workToCycles work s,
    getF ESC_CTRL_RELEASE_US s, false, false⟩] }) ?_ (fun _ _ h => h) ⟨rfl, regsExcept_refl _ _, ?_⟩
  · show execWindowPlan core c slot ul neural start work false s = _
    have hcond : coreInService core s ∧ ¬ coreSuspect core s ∧ ¬ overlaps core start (workToCycles work s) s ∧
        (windowInterval cell slot ul neural s).1 ≤ start ∧ ((start + nsToTc (workToCycles work s) : Nat) : Int) ≤ (windowInterval cell slot ul neural s).2 ∧
        planPoint cell.cfg start s ≤ counter (cfgTd cell.cfg) s := ⟨hin, by rw [hsound]; decide, by rw [hfree]; decide, hfrom, hto, hpoint⟩
    simp only [execWindowPlan, hcell, if_pos hcond]
    rfl
  · exact (frame_withWindows _ (by simp)).mpr (frame_refl _ s)

/-- No window is placed on a core out of service, Suspect, or with another window there. -/
theorem windowPlan_completes_unplaced {core slot start work : Nat} (c : Fin 512) (ul neural short : Bool)
    (h : coreInService core s = false ∨ coreSuspect core s = true ∨ overlaps core start (workToCycles work s) s = true) :
    Completes (.windowPlan core c slot ul neural start work short) s (fun t => t = s) := by
  refine ⟨s, ?_, rfl⟩
  show execWindowPlan core c slot ul neural start work short s = _
  rw [execWindowPlan]
  cases hcell : lookup c.val s.cells with
  | none => rfl
  | some cell =>
    dsimp only
    rw [if_neg]
    · rfl
    · rintro ⟨hin, hsound, hfree, _⟩
      obtain h | h | h := h
      · exact absurd hin (by simp [h])
      · exact hsound h
      · exact hfree h

/-! ### RELEASE_HORIZON, WINDOW_OPEN and EARLY_RETURN (R71 to R73) -/

section Window

variable {core start : Nat} {w : Window} (hw : findWindow core start s = some w)
include hw

/-- At its Release Horizon a window keeps what is left to it of the length that its slot's jobs need. -/
theorem releaseHorizon_completes {c : Cell} (hc : lookup w.cell s.cells = some c) (hfirst : w.retained = false)
    (hdue : w.start ≤ counter w.td s + usToTc w.releaseUs) :
    Completes (.releaseHorizon core start) s (fun t =>
      findWindow core start t = (if min w.len (retainedTotal c w s - heldBefore w s.windows) = 0 then none
        else some { w with len := min w.len (retainedTotal c w s - heldBefore w s.windows), retained := true }) ∧
      t.windows.filter (fun v => decide (v.core ≠ core ∨ v.start ≠ start)) = s.windows.filter (fun v => decide (v.core ≠ core ∨ v.start ≠ start)) ∧
      t.toRadioState = { s.toRadioState with windows := t.windows, tallyRem := t.tallyRem } ∧ RegsExcept [] s t ∧ Frame [.radio, .tallies] s t) := by
  generalize hkeep : min w.len (retainedTotal c w s - heldBefore w s.windows) = keep
  have hplace : ∀ n ∈ (if keep = 0 then none else some { w with len := keep, retained := true } : Option Window), n.core = core ∧ n.start = start := by
    intro n hn
    have hsame : n.core = w.core ∧ n.start = w.start := by
      split at hn <;> cases hn
      exact ⟨rfl, rfl⟩
    rw [hsame.1, hsame.2]
    exact findWindow_place hw
  refine completes_of_goesOn (u := tally1024 2 ESC_T_RELEASE_COUNT (w.len - keep)
    (setWindow w (if keep = 0 then none else some { w with len := keep, retained := true }) s)) ?_ (fun _ _ h => h)
    ⟨findWindow_setWindow hw hplace, otherWindows_setWindow hw hplace, rfl, regsExcept_refl _ _, ?_⟩
  · show execReleaseHorizon core start s = _
    have hgo : ¬ (w.retained ∨ counter w.td s + usToTc w.releaseUs < w.start) := by simp [hfirst]; omega
    simp only [execReleaseHorizon, hw, hc, if_neg hgo, hkeep]
  · rw [frame_tally1024 (by simp) (by simp), frame_setWindow _ _ (by simp)]
    exact frame_refl _ _

/-- A window opens at its start, and radio work begins on its core. -/
theorem windowOpen_completes (hclosed : w.opened = false) (hdue : w.start ≤ counter w.td s) :
    Completes (.windowOpen core start) s (fun t =>
      findWindow core start t = some { w with opened := true } ∧ getF (MXC_Cn_INFO_STATE core) t = 1 ∧ getF (MXC_Cn_INFO_CTX core) t = 0 ∧
      t.windows.filter (fun v => decide (v.core ≠ core ∨ v.start ≠ start)) = s.windows.filter (fun v => decide (v.core ≠ core ∨ v.start ≠ start)) ∧
      t.toRadioState = { s.toRadioState with windows := t.windows } ∧
      RegsExcept [MXC_Cn_INFO_STATE core, MXC_Cn_INFO_CTX core] s t ∧ Frame [.radio] s t) := by
  have hplace : ∀ n ∈ some { w with opened := true }, n.core = core ∧ n.start = start := by
    have hold := findWindow_place hw
    rintro n ⟨⟩; exact hold
  refine completes_of_goesOn (u := setF (MXC_Cn_INFO_CTX core) 0 (setF (MXC_Cn_INFO_STATE core) 1 (setWindow w (some { w with opened := true }) s)))
    ?_ (fun _ _ h => h) ⟨findWindow_setWindow hw hplace, ?_, getF_setF_same _ _ _, otherWindows_setWindow hw hplace, rfl, ?_, ?_⟩
  · show execWindowOpen core start s = _
    simp only [execWindowOpen, hw, if_pos (show w.start ≤ counter w.td s ∧ ¬ w.opened from ⟨hdue, by simp [hclosed]⟩)]
  · rw [getF_setF_ne _ _ (by simp [Fld.key, MXC_Cn_INFO_STATE, MXC_Cn_INFO_CTX]), getF_setF_same]; rfl
  · rw [regsExcept_setF _ (by simp), regsExcept_setF _ (by simp)]
    exact regsExcept_refl _ s
  · exact (frame_setWindow _ _ (by simp)).mpr (frame_refl _ s)

variable (hopen : w.opened = true)
include hopen

theorem exec_earlyReturn : exec (.earlyReturn core start) s = goesOn s (returnRest w s) := by
  show execEarlyReturn core start s = _
  simp only [execEarlyReturn, hw, if_pos hopen]

/-- An open window whose work has ended is returned when enough of it is left. -/
theorem earlyReturn_completes_returned (hleft : getF ESC_CTRL_RETURN_MIN_US s * 1000 ≤ windowLeft w s) :
    Completes (.earlyReturn core start) s (fun t =>
      findWindow core start t = none ∧ getF (MXC_Cn_INFO_STATE core) t = 0 ∧
      t.windows.filter (fun v => decide (v.core ≠ core ∨ v.start ≠ start)) = s.windows.filter (fun v => decide (v.core ≠ core ∨ v.start ≠ start)) ∧
      t.toRadioState = { s.toRadioState with windows := t.windows, tallyRem := t.tallyRem } ∧
      RegsExcept [MXC_Cn_INFO_STATE core] s t ∧ Frame [.radio, .tallies] s t) := by
  obtain ⟨hcore, _⟩ := findWindow_place hw
  refine completes_of_goesOn (u := setF (MXC_Cn_INFO_STATE core) 0 (tally1024 2 ESC_T_RETURN_COUNT (min w.len (windowLeft w s)) (setWindow w none s)))
    ?_ (fun _ _ h => h) ⟨findWindow_setWindow hw (by simp), getF_setF_same _ _ _, otherWindows_setWindow hw (by simp), rfl, ?_, ?_⟩
  · rw [exec_earlyReturn hw hopen, returnRest, if_pos hleft, hcore]
  · rw [regsExcept_setF _ (by simp)]
    exact regsExcept_refl _ s
  · rw [frame_setF, frame_tally1024 (by simp) (by simp), frame_setWindow _ _ (by simp)]
    exact frame_refl _ s

/-- A shorter rest stays idle. -/
theorem earlyReturn_completes_kept (hleft : windowLeft w s < getF ESC_CTRL_RETURN_MIN_US s * 1000) :
    Completes (.earlyReturn core start) s (fun t => t = s) :=
  ⟨s, by rw [exec_earlyReturn hw hopen, returnRest, if_neg (by omega)]; rfl, rfl⟩

end Window

end Sys2Proof.Machine

namespace Sys2Proof
open Machine

/-- Settles O26: a ceiling by whether the write lowers it below the credit in use, and each event of a window by its own rule. -/
theorem escrowCommands : Obligations.EscrowCommands :=
  ⟨fun _ _ hup hv => ceilingWrite_completes_raised hup hv,
   fun _ _ _ hup hx hv hused => ceilingWrite_completes_refused hup hx hv hused,
   fun _ _ _ _ _ _ _ _ _ hcell hin hsound hfree hfrom hto hpoint => windowPlan_completes_placed hcell hin hsound hfree hfrom hto hpoint,
   fun _ _ c _ ul neural _ _ short h => windowPlan_completes_unplaced c ul neural short h,
   fun _ _ _ _ _ hw hc hfirst hdue => releaseHorizon_completes hw hc hfirst hdue,
   fun _ _ _ _ hw hclosed hdue => windowOpen_completes hw hclosed hdue,
   fun _ _ _ _ hw hopen hleft => earlyReturn_completes_returned hw hopen hleft,
   fun _ _ _ _ hw hopen hleft => earlyReturn_completes_kept hw hopen hleft⟩

end Sys2Proof

/-! SUPPORT. The final reply of a packet: where it stands in its window's ring, and what the end of a packet leaves beside registers (R93 to
R98, R434, R435). -/

namespace Sys2Proof.Machine

variable {fs : List Fld} {ps : List Piece} {s t : State}

/-! ### The pieces that a reply changes -/

theorem frame_withHostMem (m : Memory) (hp : .hostMem ∈ ps) : Frame ps s { t with hostMem := m } ↔ Frame ps s t :=
  frame_congr .hostMem (fun g hg => by cases g with | hostMem => exact absurd rfl hg | _ => exact Iff.rfl) hp

/-- The radio state with other packets. -/
def RadioState.withPackets (a : List Pkt) (d b : List Nat) (r : RadioState) : RadioState := { r with accepted := a, timed := d, begun := b }

/-- The packets of a state changed: the rest of its radio state is no other. -/
theorem frame_withPackets (a : List Pkt) (d b : List Nat) (hp : .commands ∈ ps) :
    Frame ps s { t with accepted := a, timed := d, begun := b } ↔ Frame ps s t :=
  frame_congr .commands (fun g hg => by
    cases g with
    | commands => exact absurd rfl hg
    | radio =>
      constructor
      · intro h; have := congrArg (RadioState.withPackets t.accepted t.timed t.begun) h; exact this
      · intro h; have := congrArg (RadioState.withPackets a d b) h; exact this
    | _ => exact Iff.rfl) hp

theorem frame_notIssued {f : Nat} (hb : .bus ∈ ps) (ht : .tallies ∈ ps) :
    Frame ps s (hostErrRaise DEV_HOSTERR_NO_MASTER (noMaster f t)) ↔ Frame ps s t := by
  have hcount : Frame ps s (noMaster f t) ↔ Frame ps s t := by rw [noMaster, hostErrBit, frame_setF, frame_setF, frame_tally _ _ _ ht]
  unfold hostErrRaise
  split
  · rw [frame_raiseIn hb ht, hcount]
  · exact hcount

section HostWrites

variable (hm : .hostMem ∈ ps) (hb : .bus ∈ ps) (ht : .tallies ∈ ps)
include hm hb ht

theorem frame_dlogBit {v i : Nat} : Frame ps s (dlogBit v i t) ↔ Frame ps s t := by
  unfold dlogBit
  dsimp only
  generalize (if flagF (SCHED_DLOGv_STAT_ACTIVE v) t = true then _ else _) * 8 + i / 8 = a
  split
  · exact frame_notIssued hb ht
  · split
    · exact Iff.rfl
    · rw [frame_tally _ _ _ ht, frame_withHostMem _ hm]

theorem frame_dlogPage {v pg : Nat} : Frame ps s (dlogPage v pg t) ↔ Frame ps s t := by
  unfold dlogPage
  dsimp only
  split
  · exact frame_dlogBit hm hb ht
  · rw [dlogOvf, frame_event hb ht, frame_setF]

theorem frame_hostWrite {f a : Nat} {l : List Byte} : Frame ps s (hostWrite f a l t) ↔ Frame ps s t := by
  unfold hostWrite
  split
  · unfold dlogWrite
    split
    · exact frame_withHostMem _ hm
    · have hpages : ∀ (l : List Nat) (n : Nat) (u : State), Frame ps s (l.foldl (fun s i => dlogPage (f - 1) (n + i) s) u) ↔ Frame ps s u := by
        intro l n
        induction l with
        | nil => exact fun _ => Iff.rfl
        | cons i l ih => exact fun u => (ih _).trans (frame_dlogPage hm hb ht)
      exact (hpages _ _ _).trans (frame_withHostMem _ hm)
  · exact frame_notIssued hb ht

theorem frame_writeReply {p : Pkt} {st d cat : Nat} {final : Bool} : Frame ps s (writeReply p st final d cat t) ↔ Frame ps s t := by
  unfold writeReply
  dsimp only
  split
  · rw [frame_raiseVec hb ht, addF, frame_setF, frame_hostWrite hm hb ht]
  · rw [addF, frame_setF, frame_hostWrite hm hb ht]

end HostWrites

theorem frame_leaveTimed {p : Pkt} (hc : .commands ∈ ps) : Frame ps s (leaveTimed p t) ↔ Frame ps s t := by
  unfold leaveTimed
  split
  · rw [showTimed, frame_setF]
    exact frame_withPackets _ _ _ hc
  · exact Iff.rfl

theorem frame_reply {p : Pkt} {st d cat : Nat} {final : Bool} (h : [.hostMem, .bus, .tallies] ⊆ ps) :
    Frame ps s (reply p st final d cat t) ↔ Frame ps s t := by
  unfold reply
  split
  · exact Iff.rfl
  · exact frame_writeReply (h (by simp)) (h (by simp)) (h (by simp))

/-- The end of a packet changes the pieces of its reply alone. -/
theorem frame_finish {p : Pkt} {st d : Nat} (h : replyPieces ⊆ ps) : Frame ps s (finish p st d t) ↔ Frame ps s t := by
  have hc : .commands ∈ ps := h (by decide)
  have hreply : Frame ps s (reply p st true d (counter p.td t) (leaveTimed p t)) ↔ Frame ps s t := by
    rw [frame_reply fun g hg => h (List.mem_cons_of_mem _ hg), frame_leaveTimed hc]
  refine Iff.trans ?_ hreply
  unfold finish showBusy
  dsimp only
  split
  · exact frame_withPackets _ _ _ hc
  · rw [frame_setF]
    exact frame_withPackets _ _ _ hc

/-- What no frame lets change but packets: the radio state. -/
theorem Frame.toRadioState (h : Frame [.hostMem, .bus, .tallies] s t) : t.toRadioState = s.toRadioState := by
  obtain ⟨ha, hd, hb⟩ := h .commands (by decide)
  have hr : t.toRadioState = { s.toRadioState with accepted := t.accepted, timed := t.timed, begun := t.begun } := h .radio (by decide)
  rw [hr, ha, hd, hb]

/-! ### The packet that has ended -/

theorem reply_toRadioState (p : Pkt) (st d cat : Nat) (final : Bool) (s : State) : (reply p st final d cat s).toRadioState = s.toRadioState :=
  ((frame_reply (List.Subset.refl _)).mpr (frame_refl _ _)).toRadioState

theorem showBusy_toRadioState (w : Nat) (s : State) : (showBusy w s).toRadioState = s.toRadioState := by
  unfold showBusy; split <;> rfl

theorem accepted_leaveTimed (p : Pkt) (s : State) : (leaveTimed p s).accepted = s.accepted := by
  unfold leaveTimed; split <;> rfl

theorem begun_leaveTimed (p : Pkt) (s : State) : (leaveTimed p s).begun = s.begun := by
  unfold leaveTimed; split <;> rfl

theorem accepted_finish (p : Pkt) (st d : Nat) (s : State) : (finish p st d s).accepted = s.accepted.filter (fun q => decide (q.id ≠ p.id)) := by
  rw [finish, showBusy_toRadioState]
  simp only [reply_toRadioState, accepted_leaveTimed]

theorem begun_finish (p : Pkt) (st d : Nat) (s : State) : (finish p st d s).begun = s.begun.filter (fun i => decide (i ≠ p.id)) := by
  rw [finish, showBusy_toRadioState]
  simp only [reply_toRadioState, begun_leaveTimed]

theorem finish_toRadioState (p : Pkt) (st d : Nat) (s : State) :
    (finish p st d s).toRadioState =
      { s.toRadioState with accepted := (finish p st d s).accepted, timed := (finish p st d s).timed, begun := (finish p st d s).begun } :=
  (frame_finish (List.Subset.refl _)).mpr (frame_refl _ s) .radio (by decide)

theorem finish_toEngineState (p : Pkt) (st d : Nat) (s : State) : (finish p st d s).toEngineState = s.toEngineState :=
  (frame_finish (List.Subset.refl _)).mpr (frame_refl _ s) .engine (by decide)

/-! ### Bus mastering through a reply (R434, R435) -/

theorem mayMaster_pend (f g : Nat) (l : List Nat) (s : State) : mayMaster f (setFn g { fnOf g s with pend := l } s) = mayMaster f s := by
  by_cases h : f = g
  · subst h; simp [mayMaster, fnOf, setFn, streamOut]
  · simp [mayMaster, fnOf, setFn, streamOut, look_put_ne _ _ _ h]

theorem mayMaster_raiseIn (f g v : Nat) (s : State) : mayMaster f (raiseIn g v s) = mayMaster f s := by
  unfold raiseIn
  split
  · split
    · exact mayMaster_pend _ _ _ _
    · rfl
  · rfl

theorem mayMaster_hostErrRaise (f : Nat) (e : Fld) (s : State) : mayMaster f (hostErrRaise e s) = mayMaster f s := by
  unfold hostErrRaise
  split
  · exact mayMaster_raiseIn _ _ _ _
  · rfl

theorem mayMaster_raiseVec (f g v : Nat) (s : State) : mayMaster f (raiseVec g v s) = mayMaster f s := by
  unfold raiseVec
  split
  · exact mayMaster_raiseIn _ _ _ _
  · exact mayMaster_hostErrRaise _ _ _

theorem mayMaster_hostWrite_of_not {f g : Nat} {s : State} (h : mayMaster g s ≠ true) (a : Nat) (l : List Byte) :
    mayMaster f (hostWrite g a l s) = mayMaster f s := by
  rw [hostWrite, if_neg h, mayMaster_hostErrRaise]; rfl

/-- A function that may not master the bus may not after its packet's end either. -/
theorem mayMaster_finish_of_not {p : Pkt} {s : State} (h : mayMaster (p.window / 4) (leaveTimed p s) ≠ true) (st d : Nat) :
    mayMaster (p.window / 4) (finish p st d s) = mayMaster (p.window / 4) (leaveTimed p s) := by
  have hbusy : ∀ u, mayMaster (p.window / 4) (showBusy p.window u) = mayMaster (p.window / 4) u := fun u => by unfold showBusy; split <;> rfl
  have hwrite : ∀ final cat, mayMaster (p.window / 4) (writeReply p st final d cat (leaveTimed p s)) = mayMaster (p.window / 4) (leaveTimed p s) := by
    intro final cat
    have hadd : ∀ u, mayMaster (p.window / 4) (addF (CMD_PWw_RR_TAIL_TAIL p.window) 1 u) = mayMaster (p.window / 4) u := fun _ => rfl
    unfold writeReply
    dsimp only
    split
    · rw [mayMaster_raiseVec, hadd, mayMaster_hostWrite_of_not h]
    · rw [hadd, mayMaster_hostWrite_of_not h]
  rw [finish, hbusy]
  show mayMaster _ (reply _ _ _ _ _ _) = _
  unfold reply
  split
  · rfl
  · exact hwrite _ _

/-! ### Where the fields of a window's ring lie -/

section Keys

variable (w : Nat)

@[simp] theorem key_CMD_PWw_RR_TAIL_TAIL : (CMD_PWw_RR_TAIL_TAIL w).key = w * 0x1000 + 0xC040600 := by
  simp only [Fld.key, CMD_PWw_RR_TAIL_TAIL, CMD_PWw_RR_TAIL]; omega
@[simp] theorem key_CMD_PWw_RR_CFG_SIZE : (CMD_PWw_RR_CFG_SIZE w).key = w * 0x1000 + 0xC040400 := by
  simp only [Fld.key, CMD_PWw_RR_CFG_SIZE, CMD_PWw_RR_CFG]; omega
@[simp] theorem key_CMD_PWw_RR_BASE_ADDR : (CMD_PWw_RR_BASE_ADDR w).key = w * 0x1000 + 0xC04020C := by
  simp only [Fld.key, CMD_PWw_RR_BASE_ADDR, CMD_PWw_RR_BASE]; omega
@[simp] theorem key_CMD_PWw_STAT_BUSY : (CMD_PWw_STAT_BUSY w).key = w * 0x1000 + 0xC040702 := by
  simp only [Fld.key, CMD_PWw_STAT_BUSY, CMD_PWw_STAT]; omega
@[simp] theorem key_SCHED_DLOGv_STAT_OVF : (SCHED_DLOGv_STAT_OVF w).key = w * 0x1000 + 0x34080102 := by
  simp only [Fld.key, SCHED_DLOGv_STAT_OVF, SCHED_DLOGv_STAT]; omega
@[simp] theorem key_SCHED_DLOGv_CTRL_EN : (SCHED_DLOGv_CTRL_EN w).key = w * 0x1000 + 0x34080000 := by
  simp only [Fld.key, SCHED_DLOGv_CTRL_EN, SCHED_DLOGv_CTRL]; omega
@[simp] theorem key_CMD_TIMED_PENDING : CMD_TIMED_PENDING.key = 0xC000300 := rfl
@[simp] theorem key_DEV_HOSTERR_NO_MASTER : DEV_HOSTERR_NO_MASTER.key = 0x305 := rfl
@[simp] theorem key_DEV_HOSTERR_FUNC : DEV_HOSTERR_FUNC.key = 0x310 := rfl
@[simp] theorem key_DEV_HOSTERR_VEC : DEV_HOSTERR_VEC.key = 0x304 := rfl
@[simp] theorem key_SCHED_STAT_DLOG_OVF : SCHED_STAT_DLOG_OVF.key = 0x34000111 := rfl

end Keys

/-! ### The ring before and after a reply (R93, R94) -/

section Ring

variable {p : Pkt}

/-- The places of the registers that a reply may change. -/
theorem forall_mem_replyRegs {w k : Nat} : (∀ f ∈ replyRegs w, k ≠ f.key) ↔
    k ≠ w * 0x1000 + 0xC040600 ∧ k ≠ w * 0x1000 + 0xC040702 ∧ k ≠ 0xC000300 ∧ k ≠ 0x305 ∧ k ≠ 0x310 ∧ k ≠ 0x304 ∧ k ≠ 0x34000111 ∧
      k ≠ (w / 4 - 1) * 0x1000 + 0x34080102 := by
  simp only [replyRegs, List.forall_mem_cons, List.not_mem_nil, false_imp_iff, implies_true, and_true, key_CMD_PWw_RR_TAIL_TAIL, key_CMD_PWw_STAT_BUSY,
    key_CMD_TIMED_PENDING, key_DEV_HOSTERR_NO_MASTER, key_DEV_HOSTERR_FUNC, key_DEV_HOSTERR_VEC, key_SCHED_STAT_DLOG_OVF, key_SCHED_DLOGv_STAT_OVF]

theorem base_finish (st d : Nat) (s : State) : getF (CMD_PWw_RR_BASE_ADDR p.window) (finish p st d s) = getF (CMD_PWw_RR_BASE_ADDR p.window) s :=
  getF_finish _ _ (by rw [forall_mem_replyRegs, key_CMD_PWw_RR_BASE_ADDR]; omega)

theorem size_finish (st d : Nat) (s : State) : getF (CMD_PWw_RR_CFG_SIZE p.window) (finish p st d s) = getF (CMD_PWw_RR_CFG_SIZE p.window) s :=
  getF_finish _ _ (by rw [forall_mem_replyRegs, key_CMD_PWw_RR_CFG_SIZE]; omega)

theorem dlogEn_finish (v st d : Nat) (s : State) : getF (SCHED_DLOGv_CTRL_EN v) (finish p st d s) = getF (SCHED_DLOGv_CTRL_EN v) s :=
  getF_finish _ _ (by rw [forall_mem_replyRegs, key_SCHED_DLOGv_CTRL_EN]; omega)

theorem counter_finish (n st d : Nat) (s : State) : counter n (finish p st d s) = counter n s :=
  getF_finish _ _ (by rw [forall_mem_replyRegs, key_AIR_TDn_COUNT_VALUE]; omega)

/-- A reply's write and its vector leave TAIL as it was. -/
theorem getF_tail_writes {w : Nat} (v : Nat) {t : State}
    (h : RegsExcept (vecRegs ++ [SCHED_STAT_DLOG_OVF, SCHED_DLOGv_STAT_OVF v]) s t) :
    getF (CMD_PWw_RR_TAIL_TAIL w) t = getF (CMD_PWw_RR_TAIL_TAIL w) s := by
  refine h _ ?_
  simp only [vecRegs, List.cons_append, List.nil_append, List.forall_mem_cons, List.not_mem_nil, false_imp_iff, implies_true, and_true,
    key_CMD_PWw_RR_TAIL_TAIL, key_DEV_HOSTERR_NO_MASTER, key_DEV_HOSTERR_FUNC, key_DEV_HOSTERR_VEC, key_SCHED_STAT_DLOG_OVF, key_SCHED_DLOGv_STAT_OVF]
  omega

theorem tail_writeReply (st d cat : Nat) (final : Bool) (s : State) :
    getF (CMD_PWw_RR_TAIL_TAIL p.window) (writeReply p st final d cat s) = (getF (CMD_PWw_RR_TAIL_TAIL p.window) s + 1) % 2 ^ 17 := by
  have hwrite : ∀ a l, getF (CMD_PWw_RR_TAIL_TAIL p.window) (hostWrite (p.window / 4) a l s) = getF (CMD_PWw_RR_TAIL_TAIL p.window) s :=
    fun a l => getF_tail_writes (p.window / 4 - 1) ((regsExcept_hostWrite (List.subset_append_left _ _) (by simp) (by simp) a l).mpr (regsExcept_refl _ _))
  have hraise : ∀ v u, getF (CMD_PWw_RR_TAIL_TAIL p.window) (raiseVec (p.window / 4) v u) = getF (CMD_PWw_RR_TAIL_TAIL p.window) u :=
    fun v u => getF_tail_writes (p.window / 4 - 1) ((regsExcept_raiseVec (List.subset_append_left _ _) _ v).mpr (regsExcept_refl _ _))
  unfold writeReply
  dsimp only
  split
  · rw [hraise, addF, getF_setF_same, hwrite]; rfl
  · rw [addF, getF_setF_same, hwrite]; rfl

/-- Leaving the timed-command table changes its count alone. -/
theorem getF_leaveTimed {g : Fld} (hg : g.key ≠ 0xC000300) (s : State) : getF g (leaveTimed p s) = getF g s := by
  unfold leaveTimed
  split
  · exact getF_setF_ne _ _ (by rwa [key_CMD_TIMED_PENDING])
  · rfl

theorem tail_leaveTimed (s : State) : getF (CMD_PWw_RR_TAIL_TAIL p.window) (leaveTimed p s) = getF (CMD_PWw_RR_TAIL_TAIL p.window) s :=
  getF_leaveTimed (by rw [key_CMD_PWw_RR_TAIL_TAIL]; omega) s

theorem base_leaveTimed (s : State) : getF (CMD_PWw_RR_BASE_ADDR p.window) (leaveTimed p s) = getF (CMD_PWw_RR_BASE_ADDR p.window) s :=
  getF_leaveTimed (by rw [key_CMD_PWw_RR_BASE_ADDR]; omega) s

theorem size_leaveTimed (s : State) : getF (CMD_PWw_RR_CFG_SIZE p.window) (leaveTimed p s) = getF (CMD_PWw_RR_CFG_SIZE p.window) s :=
  getF_leaveTimed (by rw [key_CMD_PWw_RR_CFG_SIZE]; omega) s

theorem dlogEn_leaveTimed (v : Nat) (s : State) : getF (SCHED_DLOGv_CTRL_EN v) (leaveTimed p s) = getF (SCHED_DLOGv_CTRL_EN v) s :=
  getF_leaveTimed (by rw [key_SCHED_DLOGv_CTRL_EN]; omega) s

/-- What the end of a packet leaves of its reply: the packet is gone, and BUSY may end. -/
theorem getF_finish_reply {g : Fld} (st d : Nat) (s : State) (hg : g.key ≠ (CMD_PWw_STAT_BUSY p.window).key) :
    getF g (finish p st d s) = getF g (reply p st true d (counter p.td s) (leaveTimed p s)) := by
  unfold finish showBusy
  dsimp only
  split
  · rfl
  · rw [getF_setF_ne _ _ hg]; rfl

theorem hostMem_finish_reply (st d : Nat) (s : State) :
    (finish p st d s).hostMem = (reply p st true d (counter p.td s) (leaveTimed p s)).hostMem := by
  unfold finish showBusy
  dsimp only
  split <;> rfl

variable {st : Nat} (hloud : p.quiet = false ∨ 2 ≤ st)
include hloud

theorem reply_eq_writeReply (d cat : Nat) (final : Bool) (s : State) : reply p st final d cat s = writeReply p st final d cat s := by
  rw [reply, if_neg]
  simp only [Bool.and_eq_true, decide_eq_true_eq, not_and_or]
  obtain h | h := hloud
  · simp [h]
  · exact .inr (by omega)

/-- A final reply advances TAIL (R94). -/
theorem tail_finish (d : Nat) (s : State) :
    getF (CMD_PWw_RR_TAIL_TAIL p.window) (finish p st d s) = (getF (CMD_PWw_RR_TAIL_TAIL p.window) s + 1) % 2 ^ 17 := by
  rw [getF_finish_reply _ _ _ (by rw [key_CMD_PWw_RR_TAIL_TAIL, key_CMD_PWw_STAT_BUSY]; omega), reply_eq_writeReply hloud, tail_writeReply, tail_leaveTimed]

end Ring

/-! ### The reply as it lands (R93, R94) -/

/-- A write that its function may issue and that no dirty log follows. -/
theorem hostWrite_of_lands {f : Nat} {s : State} (hm : mayMaster f s = true) (hlog : f = 0 ∨ flagF (SCHED_DLOGv_CTRL_EN (f - 1)) s = false)
    (a : Nat) (l : List Byte) : hostWrite f a l s = { s with hostMem := writeBytes a l s.hostMem } := by
  rw [hostWrite, if_pos hm, dlogWrite, if_pos]
  obtain h | h := hlog
  · exact .inl h
  · exact .inr (.inr (by rw [show flagF (SCHED_DLOGv_CTRL_EN (f - 1)) { s with hostMem := writeBytes a l s.hostMem } = _ from h]; rfl))

theorem hostMem_raiseVec (f v : Nat) (s : State) : (raiseVec f v s).hostMem = s.hostMem :=
  (frame_raiseVec (ps := vecPieces) (by decide) (by decide)).mpr (frame_refl _ s) .hostMem (by decide)

theorem hostMem_writeReply {p : Pkt} {s : State} (hm : mayMaster (p.window / 4) s = true)
    (hlog : p.window / 4 = 0 ∨ flagF (SCHED_DLOGv_CTRL_EN (p.window / 4 - 1)) s = false) (st d cat : Nat) (final : Bool) :
    (writeReply p st final d cat s).hostMem = writeBytes
      (getF (CMD_PWw_RR_BASE_ADDR p.window) s * 4096 + getF (CMD_PWw_RR_TAIL_TAIL p.window) s % ringSize p.window s * 32)
      (replyBytes p st final d cat (ringSize p.window s) (getF (CMD_PWw_RR_TAIL_TAIL p.window) s)) s.hostMem := by
  unfold writeReply
  dsimp only
  rw [hostWrite_of_lands hm hlog]
  split
  · exact hostMem_raiseVec _ _ _
  · rfl

theorem readBytes_writeBytes_of_length {a n : Nat} {l : List Byte} {m : Memory} (h : l.length = n) : readBytes (writeBytes a l m) a n = l :=
  h ▸ readBytes_writeBytes_same a l m

theorem replyBytes_length (p : Pkt) (st : Nat) (final : Bool) (d cat size n : Nat) : (replyBytes p st final d cat size n).length = 32 := by
  simp [replyBytes, natLE]

/-- The bytes of a reply tell its place in the ring by its phase alone. -/
theorem replyBytes_congr {p : Pkt} {st d cat size n m : Nat} {final : Bool} (h : (n / size + 1) % 2 = (m / size + 1) % 2) :
    replyBytes p st final d cat size n = replyBytes p st final d cat size m := by
  rw [replyBytes, h]; rfl

/-- The entry before TAIL, after TAIL has gone on from n, is entry n in a counter of 17 bits. -/
theorem entry_before (n : Nat) : ((n + 1) % 2 ^ 17 + 2 ^ 17 - 1) % 2 ^ 17 = n % 2 ^ 17 := by omega

/-- In a ring of R94's sizes the 17 bits of the counter give the same entry and the same phase as the whole count. -/
theorem ring_place {k n : Nat} (hk : k ≤ 10) :
    n % 2 ^ 17 % 2 ^ (k + 6) = n % 2 ^ (k + 6) ∧ (n / 2 ^ (k + 6) + 1) % 2 = (n % 2 ^ 17 / 2 ^ (k + 6) + 1) % 2 := by
  have hsplit : 2 ^ 17 = 2 ^ (k + 6) * 2 ^ (11 - k) := by rw [← pow_add]; congr 1; omega
  refine ⟨Nat.mod_mod_of_dvd _ (pow_dvd_pow 2 (by omega)), ?_⟩
  have heven : n / 2 ^ (k + 6) % 2 ^ (11 - k) % 2 = n / 2 ^ (k + 6) % 2 := Nat.mod_mod_of_dvd _ (dvd_pow_self 2 (by omega))
  rw [hsplit, Nat.mod_mul_right_div_self]
  omega

/-- A reply lands after the packet's end only where it could be written: bus mastering and the dirty log are as before. -/
theorem replyLands_finish {p : Pkt} {st d : Nat} {s : State} (h : replyLands p.window (finish p st d s) = true) :
    mayMaster (p.window / 4) (leaveTimed p s) = true ∧
      (p.window / 4 = 0 ∨ flagF (SCHED_DLOGv_CTRL_EN (p.window / 4 - 1)) (leaveTimed p s) = false) ∧ getF (CMD_PWw_RR_CFG_SIZE p.window) s ≤ 10 := by
  rw [replyLands, Bool.and_eq_true, Bool.and_eq_true, Bool.or_eq_true, decide_eq_true_eq, decide_eq_true_eq, Bool.not_eq_true', size_finish] at h
  obtain ⟨⟨hm, hlog⟩, hsize⟩ := h
  have hmaster : mayMaster (p.window / 4) (leaveTimed p s) = true := by
    by_contra hno
    rw [mayMaster_finish_of_not hno] at hm
    exact hno hm
  refine ⟨hmaster, hlog.imp_right fun hoff => ?_, hsize⟩
  rw [flagF, dlogEn_finish] at hoff
  rw [flagF, dlogEn_leaveTimed]
  exact hoff

/-- A packet that has ended: it is no longer accepted, and its reply is the last entry of its window's ring (R93 to R98). -/
theorem ended_finish (p : Pkt) (st d : Nat) (s : State) : Ended p st d (finish p st d s) := by
  refine ⟨?_, ?_, fun hlands hloud => ?_⟩
  · simp [accepted_finish]
  · simp [begun_finish]
  · obtain ⟨hm, hlog, hsize⟩ := replyLands_finish hlands
    obtain ⟨hplace, hphase⟩ := ring_place (n := getF (CMD_PWw_RR_TAIL_TAIL p.window) s) hsize
    have hring : ringSize p.window (finish p st d s) = 2 ^ (getF (CMD_PWw_RR_CFG_SIZE p.window) s + 6) := by rw [ringSize, size_finish]
    have hlast : lastEntry p.window (finish p st d s) = getF (CMD_PWw_RR_TAIL_TAIL p.window) s % 2 ^ 17 := by
      rw [lastEntry, tail_finish hloud, entry_before]
    rw [lastReply, hlast, hring, hplace, base_finish, counter_finish, hostMem_finish_reply, reply_eq_writeReply hloud, hostMem_writeReply hm hlog,
      ringSize, size_leaveTimed, base_leaveTimed, tail_leaveTimed, ← replyBytes_congr hphase]
    exact readBytes_writeBytes_of_length (replyBytes_length ..)

end Sys2Proof.Machine

/-! SUPPORT. Contexts, Leases and engine sets: what putting a context back, stopping a core and returning a Lease change and leave (R80,
R210, R332, R335, R348). -/

namespace Sys2Proof.Machine

variable {fs : List Fld} {ps : List Piece} {s t : State}

/-! ### Frames of the engines and of memory -/

theorem frame_withEngines (e : EngineState) (hp : .engine ∈ ps) : Frame ps s { t with toEngineState := e } ↔ Frame ps s t :=
  frame_congr .engine (fun g hg => by cases g with | engine => exact absurd rfl hg | _ => exact Iff.rfl) hp

theorem frame_withLeases (l : List Lease) (hp : .radio ∈ ps) : Frame ps s { t with leases := l } ↔ Frame ps s t :=
  frame_withRadio (r := { t.toRadioState with leases := l }) ⟨rfl, rfl, rfl⟩ hp

theorem frame_csWrite {n a : Nat} {l : List Byte} (hp : .mem ∈ ps) : Frame ps s (csWrite n a l t) ↔ Frame ps s t :=
  frame_congr .mem (fun g hg => by cases g with | mem => exact absurd rfl hg | _ => exact Iff.rfl) hp

theorem frame_putEng {n : Nat} {x : Option EngSet} (hp : .engine ∈ ps) : Frame ps s (putEng n x t) ↔ Frame ps s t :=
  frame_withEngines { t.toEngineState with eng := put n x t.eng } hp

theorem frame_countSpill {b : Nat} (hr : .radio ∈ ps) (ht : .tallies ∈ ps) : Frame ps s (countSpill b t) ↔ Frame ps s t := by
  unfold countSpill
  dsimp only
  rw [frame_tally _ _ _ ht]
  exact frame_withRadio (r := { t.toRadioState with tallyRem := _ }) ⟨rfl, rfl, rfl⟩ hr

/-! ### Where the fields that show cores and contexts lie -/

section Keys

variable (n : Nat)

@[simp] theorem key_MXC_Cn_INFO_STATE : (MXC_Cn_INFO_STATE n).key = n * 0x40000 + 0x1C00000C := by
  simp only [Fld.key, MXC_Cn_INFO_STATE, MXC_Cn_INFO]; omega
@[simp] theorem key_MXC_Cn_INFO_CTX : (MXC_Cn_INFO_CTX n).key = n * 0x40000 + 0x1C000010 := by
  simp only [Fld.key, MXC_Cn_INFO_CTX, MXC_Cn_INFO]; omega
@[simp] theorem key_SCHED_Pp_CTX_CTXS : (SCHED_Pp_CTX_CTXS n).key = n * 0x2000 + 0x34040100 := by
  simp only [Fld.key, SCHED_Pp_CTX_CTXS, SCHED_Pp_CTX]; omega
@[simp] theorem key_SCHED_Pp_CTX_RESIDENT : (SCHED_Pp_CTX_RESIDENT n).key = n * 0x2000 + 0x3404010A := by
  simp only [Fld.key, SCHED_Pp_CTX_RESIDENT, SCHED_Pp_CTX]; omega
@[simp] theorem key_SCHED_Pp_CTX_WAITING : (SCHED_Pp_CTX_WAITING n).key = n * 0x2000 + 0x34040111 := by
  simp only [Fld.key, SCHED_Pp_CTX_WAITING, SCHED_Pp_CTX]; omega
@[simp] theorem key_SCHED_STAT_CTXS : SCHED_STAT_CTXS.key = 0x34000100 := rfl

end Keys

/-- The fields that show the work of core n. -/
abbrev coreShown (n : Nat) : List Fld := [MXC_Cn_INFO_STATE n, MXC_Cn_INFO_CTX n]

/-- The places of the registers that show the contexts of a partition. -/
theorem forall_mem_ctxShown {p k : Nat} : (∀ f ∈ ctxShown p, k ≠ f.key) ↔
    k ≠ 0x34000100 ∧ k ≠ p * 0x2000 + 0x34040111 ∧ k ≠ p * 0x2000 + 0x3404010A ∧ k ≠ p * 0x2000 + 0x34040100 := by
  simp only [ctxShown, List.forall_mem_cons, List.not_mem_nil, false_imp_iff, implies_true, and_true, key_SCHED_STAT_CTXS, key_SCHED_Pp_CTX_WAITING,
    key_SCHED_Pp_CTX_RESIDENT, key_SCHED_Pp_CTX_CTXS]

theorem state_ne_ctxShown (n p : Nat) : ∀ f ∈ ctxShown p, (MXC_Cn_INFO_STATE n).key ≠ f.key := by
  rw [forall_mem_ctxShown, key_MXC_Cn_INFO_STATE]; omega

theorem ctx_ne_ctxShown (n p : Nat) : ∀ f ∈ ctxShown p, (MXC_Cn_INFO_CTX n).key ≠ f.key := by
  rw [forall_mem_ctxShown, key_MXC_Cn_INFO_CTX]; omega

/-- Core n shows a state and a context. -/
def showCore (n st c : Nat) (s : State) : State := setF (MXC_Cn_INFO_CTX n) c (setF (MXC_Cn_INFO_STATE n) st s)

theorem state_showCore (n st c : Nat) (s : State) : getF (MXC_Cn_INFO_STATE n) (showCore n st c s) = st % 2 ^ 3 := by
  rw [showCore, getF_setF_ne _ _ (by simp), getF_setF_same]; rfl

theorem ctx_showCore (n st c : Nat) (s : State) : getF (MXC_Cn_INFO_CTX n) (showCore n st c s) = c % 2 ^ (MXC_Cn_INFO_CTX n).width := getF_setF_same _ _ _

theorem regsExcept_showCore {n : Nat} (st c : Nat) (h : coreShown n ⊆ fs) : RegsExcept fs s (showCore n st c t) ↔ RegsExcept fs s t := by
  rw [showCore, regsExcept_setF _ (h (by simp [coreShown])), regsExcept_setF _ (h (by simp [coreShown]))]

theorem frame_showCore {n st c : Nat} : Frame ps s (showCore n st c t) ↔ Frame ps s t := Iff.rfl

/-! ### A context put back (R348) -/

theorem mem_of_lookup {β : Type} {k : Nat} {x : β} {m : List (Nat × β)} (h : lookup k m = some x) : (k, x) ∈ m := by
  induction m with
  | nil => cases h
  | cons q r ih =>
    obtain ⟨j, y⟩ := q
    rw [lookup_cons] at h
    split at h
    · next hj => cases h; simp [hj]
    · exact List.mem_cons_of_mem _ (ih h)

section PutCtx

variable (c : Nat) (x : Ctx)

theorem modCtx_of_ctx {c : Nat} {x : Ctx} (f : Ctx → Ctx) (h : ctxOf c s = some x) : modCtx c f s = putCtx c (some (f x)) s := by
  simp only [modCtx, h]

@[simp] theorem ctxOf_putCtx_same : ctxOf c (putCtx c (some x) s) = some x := lookup_put_same c (some x) s.ctxs

@[simp] theorem putCtx_toRadioState : (putCtx c (some x) s).toRadioState = s.toRadioState := rfl

theorem putCtx_toEngineState : (putCtx c (some x) s).toEngineState = { s.toEngineState with ctxs := (putCtx c (some x) s).ctxs } := rfl

theorem regsExcept_putCtx (h : ctxShown x.part ⊆ fs) : RegsExcept fs s (putCtx c (some x) t) ↔ RegsExcept fs s t := by
  simp only [ctxShown, List.cons_subset] at h
  obtain ⟨hall, hwait, hres, hctxs, _⟩ := h
  show RegsExcept fs s (showCtx x.part _) ↔ _
  rw [showCtx, regsExcept_setF _ hall, regsExcept_setF _ hwait, regsExcept_setF _ hres, regsExcept_setF _ hctxs]
  exact Iff.rfl

theorem frame_putCtx (hp : .engine ∈ ps) : Frame ps s (putCtx c (some x) t) ↔ Frame ps s t := by
  have hput := frame_withEngines (s := s) (t := t) { t.toEngineState with ctxs := put c (some x) t.ctxs } hp
  rw [putCtx, showCtx]
  simp only [frame_setF]
  exact hput

theorem getF_putCtx {g : Fld} (hg : ∀ f ∈ ctxShown x.part, g.key ≠ f.key) : getF g (putCtx c (some x) s) = getF g s :=
  (regsExcept_putCtx c x (List.Subset.refl _)).mpr (regsExcept_refl _ _) g hg

end PutCtx

end Sys2Proof.Machine

/-! SUPPORT. How a Lease ends: its core stops and saves, is returned, and its context goes on (R79, R80, R210, R335, R339). -/

namespace Sys2Proof.Machine

variable {fs : List Fld} {ps : List Piece} {s t : State}

/-! ### Wider frames -/

theorem regsExcept_mono {fs' : List Fld} (h : fs ⊆ fs') (hr : RegsExcept fs s t) : RegsExcept fs' s t := fun f hf => hr f fun g hg => hf g (h hg)

theorem frame_mono {ps' : List Piece} (h : ps ⊆ ps') (hf : Frame ps s t) : Frame ps' s t := fun g hg => hf g fun hp => hg (h hp)

/-! ### A core stops and saves (R80, R210) -/

/-- The Lease of core n is in its save. -/
def savingLease (n : Nat) (s : State) : State := { s with leases := s.leases.map (fun l => if l.core = n then { l with saving := true } else l) }

/-- A context whose save area holds the set of core n, stopped. -/
def withSaved (n : Nat) (x : EngSet) (c : Ctx) : Ctx := { c with saved := put n (some (stopSet x)) c.saved }

section Projections

variable (k n st c : Nat) (s : State)

@[simp] theorem ctxOf_showCore : ctxOf k (showCore n st c s) = ctxOf k s := rfl
@[simp] theorem engAt_showCore : engAt k (showCore n st c s) = engAt k s := rfl
@[simp] theorem live_showCore : (showCore n st c s).live = s.live := rfl
@[simp] theorem toRadioState_showCore : (showCore n st c s).toRadioState = s.toRadioState := rfl
@[simp] theorem toEngineState_showCore : (showCore n st c s).toEngineState = s.toEngineState := rfl

@[simp] theorem ctxOf_savingLease : ctxOf k (savingLease n s) = ctxOf k s := rfl
@[simp] theorem engAt_savingLease : engAt k (savingLease n s) = engAt k s := rfl
@[simp] theorem live_savingLease : (savingLease n s).live = s.live := rfl

@[simp] theorem engAt_putCtx (x : Ctx) : engAt k (putCtx c (some x) s) = engAt k s := rfl
@[simp] theorem live_putCtx (x : Ctx) : (putCtx c (some x) s).live = s.live := rfl

@[simp] theorem ctxOf_dropEng : ctxOf k (dropEng n s) = ctxOf k s := by unfold dropEng; split <;> rfl
@[simp] theorem live_dropEng : (dropEng n s).live = s.live := by unfold dropEng; split <;> rfl
@[simp] theorem toRadioState_dropEng : (dropEng n s).toRadioState = s.toRadioState := by unfold dropEng; split <;> rfl

theorem engAt_dropEng : engAt n (dropEng n s) = none := by
  unfold dropEng
  split
  · assumption
  · exact lookup_put_same n none _

end Projections

theorem regsExcept_savingLease {n : Nat} : RegsExcept fs s (savingLease n t) ↔ RegsExcept fs s t := Iff.rfl

theorem regsExcept_dropEng {n : Nat} : RegsExcept fs s (dropEng n t) ↔ RegsExcept fs s t := by
  unfold dropEng; split <;> exact Iff.rfl

theorem frame_savingLease {n : Nat} (hr : .radio ∈ ps) : Frame ps s (savingLease n t) ↔ Frame ps s t := frame_withLeases _ hr

theorem frame_dropEng {n : Nat} (he : .engine ∈ ps) : Frame ps s (dropEng n t) ↔ Frame ps s t := by
  unfold dropEng
  split
  · exact Iff.rfl
  · rw [frame_putEng he]
    exact frame_withEngines { t.toEngineState with loose := _ } he

theorem saveLease_of_no_set {n : Nat} (h : engAt n s = none) : saveLease n s = showCore n 3 0 (savingLease n s) := by
  simp only [saveLease, completeDrain, h]
  rfl

section SaveLease

variable {n : Nat} {x : EngSet} {c : Ctx} (hx : engAt n s = some x) (hd : x.drain = []) (hc : ctxOf x.ctx s = some c)
include hx hd hc

/-- With no pass left to complete, the set goes to its context's save area, and its issued stores stay. -/
theorem saveLease_of_set : saveLease n s =
    showCore n 3 0 (savingLease n (putCtx x.ctx (some (withSaved n x c)) (dropEng n s))) := by
  have hdrain : completeDrain n s = s := by simp only [completeDrain, hx, hd]; rfl
  simp only [saveLease, hdrain, hx, modCtx_of_ctx _ ((ctxOf_dropEng x.ctx n s).trans hc)]
  rfl

theorem ctxOf_saveLease : ctxOf x.ctx (saveLease n s) = some (withSaved n x c) := by
  rw [saveLease_of_set hx hd hc, ctxOf_showCore, ctxOf_savingLease, ctxOf_putCtx_same]

theorem setSaved_saveLease : setSaved n x (saveLease n s) := by
  refine ⟨?_, ?_, ?_, ?_⟩
  · rw [saveLease_of_set hx hd hc, engAt_showCore, engAt_savingLease, engAt_putCtx, engAt_dropEng]
  · rw [ctxOf_saveLease hx hd hc, Option.bind_some, withSaved, lookup_put_same]
  · rw [saveLease_of_set hx hd hc, state_showCore]; rfl
  · rw [saveLease_of_set hx hd hc, ctx_showCore]; rfl

theorem toRadioState_saveLease : (saveLease n s).toRadioState = (savingLease n s).toRadioState := by
  have hsame : ∀ u : State, u.toRadioState = s.toRadioState → (savingLease n u).toRadioState = (savingLease n s).toRadioState := by
    intro u hu
    simp only [savingLease, hu]
  rw [saveLease_of_set hx hd hc, toRadioState_showCore, hsame]
  rw [putCtx_toRadioState, toRadioState_dropEng]

theorem live_saveLease : (saveLease n s).live = s.live := by
  rw [saveLease_of_set hx hd hc, live_showCore, live_savingLease, live_putCtx, live_dropEng]

theorem regsExcept_saveLease {r : State} (h : coreShown n ++ ctxShown c.part ⊆ fs) : RegsExcept fs r (saveLease n s) ↔ RegsExcept fs r s := by
  obtain ⟨hcore, hctx⟩ := List.append_subset.mp h
  rw [saveLease_of_set hx hd hc, regsExcept_showCore _ _ hcore, regsExcept_savingLease, regsExcept_putCtx x.ctx (withSaved n x c) hctx,
    regsExcept_dropEng]

theorem frame_saveLease {r : State} (hr : .radio ∈ ps) (he : .engine ∈ ps) : Frame ps r (saveLease n s) ↔ Frame ps r s := by
  rw [saveLease_of_set hx hd hc, frame_showCore, frame_savingLease hr, frame_putCtx _ _ he, frame_dropEng he]

end SaveLease

/-! ### A core is returned (R78, R80) -/

/-- The Lease of core n is off the core, and its cycles are counted. -/
def returnedCore (n : Nat) (l : Lease) (s : State) : State := showCore n 0 0 (countLease l (setLease n none s))

theorem frame_setLease {n : Nat} {l : Option Lease} (hp : .radio ∈ ps) : Frame ps s (setLease n l t) ↔ Frame ps s t := frame_withLeases _ hp

theorem regsExcept_countLease (l : Lease) : RegsExcept fs s (countLease l t) ↔ RegsExcept fs s t := by
  unfold countLease; split <;> exact Iff.rfl

theorem frame_countLease {l : Lease} (hr : .radio ∈ ps) (ht : .tallies ∈ ps) : Frame ps s (countLease l t) ↔ Frame ps s t := by
  unfold countLease
  split
  · exact Iff.rfl
  · exact frame_tally1024 hr ht

section CountLease

variable (l : Lease) (s : State)

theorem countLease_toEngineState : (countLease l s).toEngineState = s.toEngineState := by unfold countLease; split <;> rfl
theorem countLease_toFabricState : (countLease l s).toFabricState = s.toFabricState := by unfold countLease; split <;> rfl
theorem countLease_now : (countLease l s).now = s.now := by unfold countLease; split <;> rfl

/-- Counting a Lease's cycles changes of the radio state what is left below a unit alone. -/
theorem countLease_toRadioState : (countLease l s).toRadioState = { s.toRadioState with tallyRem := (countLease l s).tallyRem } := by
  unfold countLease; split <;> rfl

end CountLease

section ReturnedCore

variable (n : Nat) (l : Lease) (s : State)

@[simp] theorem returnedCore_toEngineState : (returnedCore n l s).toEngineState = s.toEngineState := by
  rw [returnedCore, toEngineState_showCore, countLease_toEngineState]; rfl

@[simp] theorem ctxOf_returnedCore (k : Nat) : ctxOf k (returnedCore n l s) = ctxOf k s := by
  rw [ctxOf, returnedCore_toEngineState]; rfl

theorem returnedCore_toRadioState :
    (returnedCore n l s).toRadioState = { (setLease n none s).toRadioState with tallyRem := (returnedCore n l s).tallyRem } := by
  rw [returnedCore, toRadioState_showCore, countLease_toRadioState]

theorem leases_returnedCore : (returnedCore n l s).leases = s.leases.filter (fun k => decide (k.core ≠ n)) := by
  rw [returnedCore_toRadioState]
  show s.leases.flatMap _ = _
  induction s.leases with
  | nil => rfl
  | cons k r ih => by_cases hk : k.core = n <;> simpa [hk] using ih

theorem quiesce_returnedCore : (returnedCore n l s).quiesce = s.quiesce := by rw [returnedCore_toRadioState]; rfl

theorem accepted_returnedCore : (returnedCore n l s).accepted = s.accepted := by rw [returnedCore_toRadioState]; rfl

theorem now_returnedCore : (returnedCore n l s).now = s.now := by
  show (countLease l (setLease n none s)).now = _
  rw [countLease_now]; rfl

theorem ctxOps_returnedCore (k : Nat) : ctxOps k (returnedCore n l s) = ctxOps k s := by
  show (countLease l (setLease n none s)).ftt.filter _ = _
  rw [countLease_toFabricState]; rfl

theorem regsExcept_returnedCore : RegsExcept (coreShown n) s (returnedCore n l s) := by
  rw [returnedCore, regsExcept_showCore _ _ (List.Subset.refl _), regsExcept_countLease]
  exact regsExcept_refl _ s

/-- The time that AIR_DEFAULT_TD shows is that of the state before. -/
theorem defaultTime_returnedCore : defaultTime (returnedCore n l s) = defaultTime s := by
  have hout : ∀ g : Fld, g.key % 64 = 0 → getF g (returnedCore n l s) = getF g s := fun g hg => regsExcept_returnedCore n l s g (by
    simp only [coreShown, List.forall_mem_cons, List.not_mem_nil, false_imp_iff, implies_true, and_true, key_MXC_Cn_INFO_STATE, key_MXC_Cn_INFO_CTX]
    omega)
  have htd : eventTd (returnedCore n l s) = eventTd s := hout _ rfl
  rw [defaultTime, htd]
  exact hout _ (by rw [key_AIR_TDn_COUNT_VALUE]; omega)

theorem frame_returnedCore {r : State} (hr : .radio ∈ ps) (ht : .tallies ∈ ps) : Frame ps r (returnedCore n l s) ↔ Frame ps r s := by
  rw [returnedCore, frame_showCore, frame_countLease hr ht, frame_setLease hr]

end ReturnedCore

/-! ### The context goes on (R335, R338, R339) -/

/-- The context of a Lease that has been saved: BLOCKED where it yielded and an operation of it is outstanding, else RUNNABLE. -/
def afterLease (k : Nat) (c : Ctx) (s : State) : Ctx :=
  if c.yielding = true ∧ (ctxOps k s).isEmpty = false then { c with sub := 3, yielding := false, blockAt := defaultTime s }
  else { c with sub := 1, yielding := false, readyAt := s.now }

theorem part_afterLease (k : Nat) (c : Ctx) (s : State) : (afterLease k c s).part = c.part := by unfold afterLease; split <;> rfl

theorem afterLease_returnedCore (k n : Nat) (c : Ctx) (l : Lease) (s : State) : afterLease k c (returnedCore n l s) = afterLease k c s := by
  rw [afterLease, ctxOps_returnedCore, defaultTime_returnedCore, now_returnedCore]; rfl

theorem leftCores_of_not_suspended {k : Nat} {c : Ctx} (h : c.suspend = []) : leftCores k c s = putCtx k (some (afterLease k c s)) s := by
  simp only [leftCores, h, List.isEmpty_nil, Bool.not_true, Bool.false_eq_true, if_false, Bool.not_eq_true', afterLease]
  split <;> rfl

/-- A context that a CTX_SUSPEND has stopped. -/
def suspendedCtx (c : Ctx) (s : State) : Ctx := { c with st := 3, sub := 4, suspend := [], yielding := false, blockAt := defaultTime s }

theorem leftCores_of_suspended {k : Nat} {c : Ctx} {p : Pkt} (h : c.suspend = [p.id])
    (hp : s.accepted.find? (fun q => decide (q.id = p.id)) = some p) :
    leftCores k c s = finish p stOK 0 (putCtx k (some (suspendedCtx c s)) s) := by
  have hfind : (putCtx k (some (suspendedCtx c s)) s).accepted.find? (fun q => decide (q.id = p.id)) = some p := hp
  simp only [leftCores, h, List.isEmpty_cons, Bool.not_false, if_true, List.foldl_cons, List.foldl_nil, finishId]
  rw [show (putCtx k (some { c with st := 3, sub := 4, suspend := [], yielding := false, blockAt := defaultTime s }) s).accepted.find? _ = some p from hfind]
  rfl

theorem quiesceDone_of_none (h : s.quiesce = []) : quiesceDone s = s := by
  rw [quiesceDone, h]
  split
  · rw [List.foldl_nil, ← h]
  · rfl

section DropLease

variable {n : Nat} {l : Lease} {c : Ctx} (hlast : ∀ k ∈ s.leases, k.core ≠ n → k.ctx ≠ l.ctx) (hc : ctxOf l.ctx s = some c) (hsub : c.sub = 2)
include hlast hc hsub

/-- With its last Lease off its core, a context leaves the cores. -/
theorem dropLease_of_last : dropLease n l s = quiesceDone (leftCores l.ctx c (returnedCore n l s)) := by
  have hnone : leaseCores l.ctx (returnedCore n l s) = [] := by
    rw [leaseCores, leases_returnedCore, List.filter_filter, List.map_eq_nil_iff, List.filter_eq_nil_iff]
    simp only [Bool.and_eq_true, decide_eq_true_eq, not_and]
    exact fun k hk hctx hcore => hlast k hk hcore hctx
  have hctx : ctxOf l.ctx (returnedCore n l s) = some c := by rw [ctxOf_returnedCore, hc]
  show quiesceDone (match ctxOf l.ctx (returnedCore n l s) with
    | none => returnedCore n l s
    | some x => if x.sub = 2 ∧ (leaseCores l.ctx (returnedCore n l s)).isEmpty then leftCores l.ctx x (returnedCore n l s) else returnedCore n l s) = _
  rw [hctx, hnone]
  simp only [hsub, List.isEmpty_nil, and_self, if_true]

end DropLease

end Sys2Proof.Machine

/-! SUPPORT. A core is granted (R78, R332 to R334). -/

namespace Sys2Proof.Machine

variable {fs : List Fld} {ps : List Piece} {s t : State}

/-- Where nothing is saved on a core, nothing gives way on it. -/
theorem displace_of_none {n c : Nat} (h : ∀ y ∈ s.ctxs, lookup n y.2.saved = none) : displace n c s = s := by
  have hlist : ∀ l : List (Nat × Ctx), (∀ y ∈ l, lookup n y.2.saved = none) → l.foldl (displaceOne n) s = s := by
    intro l
    induction l with
    | nil => exact fun _ => rfl
    | cons y l ih =>
      intro hl
      have hy : displaceOne n s y = s := by simp only [displaceOne, hl y List.mem_cons_self]
      rw [List.foldl_cons, hy]
      exact ih fun z hz => hl z (List.mem_cons_of_mem _ hz)
  exact hlist _ fun y hy => h y (List.mem_of_mem_filter hy)

/-- A context on its cores, and its STEP st noting how many it has held at once. -/
def onCores (x : Ctx) : Ctx := { x with sub := 2 }
def runningCtx (x : Ctx) (st : Step) (r : List Step) (held : Nat) : Ctx := { x with sub := 2, queue := { st with maxHeld := max st.maxHeld held } :: r }

/-- Core n with its Lease, before its context has been told. -/
def leasedCore (n p c ls passes len : Nat) (s : State) : State :=
  showCore n 2 c { s with leases := s.leases ++ [⟨n, c, nowNs s, ls, passes, len, false⟩], lastCtx := put n (some (c + 65536 * (p + 1))) s.lastCtx }

theorem regsExcept_leasedCore {n p c ls passes len : Nat} (h : coreShown n ⊆ fs) :
    RegsExcept fs s (leasedCore n p c ls passes len t) ↔ RegsExcept fs s t := by
  rw [leasedCore, regsExcept_showCore _ _ h]
  exact Iff.rfl

theorem frame_leasedCore {n p c ls passes len : Nat} (hr : .radio ∈ ps) (he : .engine ∈ ps) :
    Frame ps s (leasedCore n p c ls passes len t) ↔ Frame ps s t :=
  (frame_withEngines { t.toEngineState with lastCtx := put n (some (c + 65536 * (p + 1))) t.lastCtx } he).trans
    (frame_withLeases (t.leases ++ [⟨n, c, nowNs t, ls, passes, len, false⟩]) hr)

section Grant

variable {n p c ls passes len : Nat} {x : Ctx} {st : Step} {r : List Step}
variable (hc : ctxOf c s = some x) (hq : x.queue = st :: r) (hother : otherPart n p s = false) (hsaved : ∀ y ∈ s.ctxs, lookup n y.2.saved = none)
include hc hq hother hsaved

/-- A core of the partition's own, with nothing saved on it, goes to its context at once. -/
theorem grant_of_clean : ∃ held, grant n p c ls passes len s =
    putCtx c (some (runningCtx x st r held)) (putCtx c (some (onCores x)) (leasedCore n p c ls passes len s)) := by
  have hctx : ctxOf c (leasedCore n p c ls passes len s) = some x := hc
  have hmod : modCtx c onCores (leasedCore n p c ls passes len s) = _ := modCtx_of_ctx onCores hctx
  have hstep : ∀ held, modStep c (fun q => { q with maxHeld := max q.maxHeld held }) (putCtx c (some (onCores x)) (leasedCore n p c ls passes len s)) =
      putCtx c (some (runningCtx x st r held)) (putCtx c (some (onCores x)) (leasedCore n p c ls passes len s)) := by
    intro held
    rw [modStep, modCtx_of_ctx _ (ctxOf_putCtx_same c (onCores x)), show (onCores x).queue = st :: r from hq]
    rfl
  have htake : ∀ held u, takeUp n c (putCtx c (some (runningCtx x st r held)) u) = putCtx c (some (runningCtx x st r held)) u := by
    intro held u
    rw [takeUp, ctxOf_putCtx_same, Option.bind_some, show lookup n (runningCtx x st r held).saved = none from hsaved _ (mem_of_lookup hc)]
  refine ⟨(leaseCores c (modCtx c onCores (leasedCore n p c ls passes len s))).length, ?_⟩
  rw [← htake, ← hstep, ← hmod]
  simp only [grant, displace_of_none hsaved, hother, Bool.false_eq_true, if_false]
  rfl

end Grant

/-! ### The Leases that end on plan and those that windows end (R78 to R80, R210) -/

/-- LEASE_GRANT (R78, R332): a lendable core goes to the context that its partition's keys choose. -/
theorem leaseGrant_completes_granted {n lead p c : Nat} {x : Ctx} {st : Step} {r : List Step} (hlend : lendable n s = true)
    (hpart : eightParts.find? (fun p => partHolds p n s) = some p) (hchoose : chooseCtx n p s = some (c, x)) (hc : ctxOf c s = some x)
    (hq : x.queue = st :: r) (hother : otherPart n p s = false) (hsaved : ∀ y ∈ s.ctxs, lookup n y.2.saved = none) (hlen : 0 < stepPass x st s)
    (hfit : 0 < leasePasses n (nowNs s + lead) (stepPass x st s) s) :
    Completes (.leaseGrant n lead) s (fun t =>
      t.leases = s.leases ++ [⟨n, c, nowNs s, nowNs s + lead, leasePasses n (nowNs s + lead) (stepPass x st s) s, stepPass x st s, false⟩] ∧
      getF (MXC_Cn_INFO_STATE n) t = 2 ∧ getF (MXC_Cn_INFO_CTX n) t = c % 2 ^ (MXC_Cn_INFO_CTX n).width ∧ (ctxOf c t).map (fun y => y.sub) = some 2 ∧
      look 0 n t.lastCtx = c + 65536 * (p + 1) ∧ t.eng = s.eng ∧ t.scratch = s.scratch ∧ t.toRadioState = { s.toRadioState with leases := t.leases } ∧
      RegsExcept ([MXC_Cn_INFO_STATE n, MXC_Cn_INFO_CTX n] ++ ctxShown x.part) s t ∧ Frame [.radio, .engine] s t) := by
  obtain ⟨held, hgrant⟩ := grant_of_clean (ls := nowNs s + lead) (passes := leasePasses n (nowNs s + lead) (stepPass x st s) s)
    (len := stepPass x st s) hc hq hother hsaved
  generalize hu : grant n p c (nowNs s + lead) (leasePasses n (nowNs s + lead) (stepPass x st s) s) (stepPass x st s) s = u at hgrant
  have hcore : ∀ g : Fld, (∀ f ∈ ctxShown x.part, g.key ≠ f.key) → getF g u =
      getF g (leasedCore n p c (nowNs s + lead) (leasePasses n (nowNs s + lead) (stepPass x st s) s) (stepPass x st s) s) := by
    intro g hg
    rw [hgrant, getF_putCtx c (runningCtx x st r held) hg, getF_putCtx c (onCores x) hg]
  refine completes_of_goesOn (u := u) ?_ (fun _ _ h => h) ⟨?_, ?_, ?_, ?_, ?_, ?_, ?_, ?_, ?_, ?_⟩
  · show execLeaseGrant n lead s = _
    have hgo : ¬ ((if stepPass x st s = 0 then 0 else leasePasses n (nowNs s + lead) (stepPass x st s) s) = 0 ∨ otherPart n p s = true ∧ lead < 896) := by
      rw [if_neg (by omega), hother]; simp; omega
    simp only [execLeaseGrant, hlend, hpart, hchoose, hq, if_neg hgo]
    rw [if_neg (by simp), if_neg (by omega), hu]
  · rw [hgrant]; rfl
  · rw [hcore _ (state_ne_ctxShown _ _), leasedCore, state_showCore]; rfl
  · rw [hcore _ (ctx_ne_ctxShown _ _), leasedCore, ctx_showCore]
  · rw [hgrant, ctxOf_putCtx_same]; rfl
  · rw [hgrant]
    show look 0 n (put n (some (c + 65536 * (p + 1))) s.lastCtx) = _
    rw [look_put_same, Option.getD_some]
  · rw [hgrant]; rfl
  · rw [hgrant]; rfl
  · rw [hgrant]; rfl
  · have hshown : ctxShown x.part ⊆ [MXC_Cn_INFO_STATE n, MXC_Cn_INFO_CTX n] ++ ctxShown x.part := List.subset_append_right _ _
    rw [hgrant, regsExcept_putCtx c (runningCtx x st r held) hshown, regsExcept_putCtx c (onCores x) hshown,
      regsExcept_leasedCore (List.subset_append_left _ _)]
    exact regsExcept_refl _ s
  · rw [hgrant, frame_putCtx _ _ (by simp), frame_putCtx _ _ (by simp), frame_leasedCore (by simp) (by simp)]
    exact frame_refl _ s

/-- No Lease is granted while the device is QUIESCED. -/
theorem leaseGrant_completes_quiesced {n lead : Nat} (hq : s.quiesced = true) : Completes (.leaseGrant n lead) s (fun t => t = s) := by
  have hno : lendable n s = false := by simp [lendable, hq]
  refine ⟨s, ?_, rfl⟩
  show execLeaseGrant n lead s = _
  simp only [execLeaseGrant, hno]
  rfl

end Sys2Proof.Machine

/-! SUPPORT. The ends of Leases, block yields, swaps and spills, one rule for each (R78 to R80, R210, R332 to R339). -/

namespace Sys2Proof.Machine

variable {s : State}

/-! ### A Lease stops and saves (R79, R80, R210) -/

section Stops

variable {n : Nat} {l : Lease} (hl : leaseOf n s = some l) (hs : l.saving = false)
include hl hs

theorem exec_leaseEnd (hspent : leaseSpent n l s = true) : exec (.leaseEnd n) s = goesOn s (saveLease n s) := by
  show execLeaseEnd n s = _
  simp only [execLeaseEnd, hl, hs, hspent]
  rfl

/-- LEASE_END with a set on the core: it is stopped and saved. -/
theorem leaseEnd_completes_saved {x : EngSet} {c : Ctx} (hpasses : l.passes = 0) (hx : engAt n s = some x) (hidle : x.run = none ∧ x.drain = [])
    (hc : ctxOf x.ctx s = some c) :
    Completes (.leaseEnd n) s (fun t =>
      setSaved n x t ∧ t.leases = s.leases.map (fun k => if k.core = n then { k with saving := true } else k) ∧
      t.toRadioState = { s.toRadioState with leases := t.leases } ∧
      RegsExcept ([MXC_Cn_INFO_STATE n, MXC_Cn_INFO_CTX n] ++ ctxShown c.part) s t ∧ Frame [.radio, .engine] s t) := by
  have hspent : leaseSpent n l s = true := by simp [leaseSpent, hx, hpasses, hidle.1]
  have hradio := toRadioState_saveLease hx hidle.2 hc
  refine completes_of_goesOn (exec_leaseEnd hl hs hspent) (fun _ _ h => h) ⟨setSaved_saveLease hx hidle.2 hc, ?_, ?_, ?_, ?_⟩
  · rw [hradio]; rfl
  · rw [hradio]; rfl
  · rw [regsExcept_saveLease hx hidle.2 hc (List.Subset.refl _)]
    exact regsExcept_refl _ s
  · rw [frame_saveLease hx hidle.2 hc (by simp) (by simp)]
    exact frame_refl _ s

/-- LEASE_END with no set on the core: it saves nothing of its own. -/
theorem leaseEnd_completes_bare (hx : engAt n s = none) (hspent : leaseSpent n l s = true) :
    Completes (.leaseEnd n) s (fun t =>
      t.leases = s.leases.map (fun k => if k.core = n then { k with saving := true } else k) ∧ t.toRadioState = { s.toRadioState with leases := t.leases } ∧
      getF (MXC_Cn_INFO_STATE n) t = 3 ∧ getF (MXC_Cn_INFO_CTX n) t = 0 ∧
      RegsExcept [MXC_Cn_INFO_STATE n, MXC_Cn_INFO_CTX n] s t ∧ Frame [.radio] s t) := by
  refine completes_of_goesOn (u := showCore n 3 0 (savingLease n s)) ?_ (fun _ _ h => h)
    ⟨rfl, rfl, state_showCore _ _ _ _, ctx_showCore _ _ _ _, ?_, ?_⟩
  · rw [exec_leaseEnd hl hs hspent, saveLease_of_no_set hx]
  · rw [regsExcept_showCore _ _ (List.Subset.refl _), regsExcept_savingLease]
    exact regsExcept_refl _ s
  · rw [frame_showCore, frame_savingLease (by simp)]
    exact frame_refl _ s

/-- FORCED_PREEMPTION of a running pass: it is abandoned and counted, and its set is saved (R79). -/
theorem forcedPreemption_completes_stopped {x : EngSet} {c : Ctx} (hnear : windowWithin n 4916 s = true) (hrun : l.start < nowNs s)
    (hx : engAt n s = some x) (hpass : x.run ≠ none) (hd : x.drain = []) (hc : ctxOf x.ctx s = some c) :
    Completes (.forcedPreemption n) s (fun t =>
      setSaved n x t ∧ t.leases = s.leases.map (fun k => if k.core = n then { k with saving := true } else k) ∧
      liveOf 2 ESC_T_PREEMPT_COUNT t = min (2 ^ ESC_T_PREEMPT_COUNT.width - 1) (liveOf 2 ESC_T_PREEMPT_COUNT s + 1) ∧
      liveOf 6 (MXC_Cn_ABANDON_COUNT n) t = min (2 ^ (MXC_Cn_ABANDON_COUNT n).width - 1) (liveOf 6 (MXC_Cn_ABANDON_COUNT n) s + 1) ∧
      t.toRadioState = { s.toRadioState with leases := t.leases } ∧
      RegsExcept ([MXC_Cn_INFO_STATE n, MXC_Cn_INFO_CTX n] ++ ctxShown c.part) s t ∧ Frame [.radio, .engine, .tallies] s t) := by
  generalize hu : tally 2 ESC_T_PREEMPT_COUNT 1 (tally 6 (MXC_Cn_ABANDON_COUNT n) 1 s) = u
  have hxu : engAt n u = some x := hu ▸ hx
  have hcu : ctxOf x.ctx u = some c := hu ▸ hc
  have hradio : (saveLease n u).toRadioState = (savingLease n s).toRadioState := by
    rw [toRadioState_saveLease hxu hd hcu, ← hu]; rfl
  have hkey : tallyKey 2 ESC_T_PREEMPT_COUNT ≠ tallyKey 6 (MXC_Cn_ABANDON_COUNT n) := by
    simp only [tallyKey, Fld.key, ESC_T_PREEMPT_COUNT, ESC_T_PREEMPT]; omega
  have hlive : ∀ g f, liveOf g f (saveLease n u) = liveOf g f u := fun g f => by rw [liveOf, live_saveLease hxu hd hcu]; rfl
  refine completes_of_goesOn (u := saveLease n u) ?_ (fun _ _ h => h) ⟨setSaved_saveLease hxu hd hcu, ?_, ?_, ?_, ?_, ?_, ?_⟩
  · show execForcedPreemption n s = _
    have hpassing : x.run.isSome = true := Option.isSome_iff_ne_none.mpr hpass
    simp only [execForcedPreemption, hl, hnear, hs, hx, countAbandon, hpassing, if_true, hu]
    rw [if_neg (by simp), if_neg (by omega)]
  · rw [hradio]; rfl
  · rw [hlive, ← hu, liveOf_tally_same, liveOf_tally_ne _ _ hkey]
  · rw [hlive, ← hu, liveOf_tally_ne _ _ hkey.symm, liveOf_tally_same]
  · rw [hradio]; rfl
  · rw [regsExcept_saveLease hxu hd hcu (List.Subset.refl _), ← hu]
    exact regsExcept_refl _ s
  · rw [frame_saveLease hxu hd hcu (by simp) (by simp), ← hu, frame_tally _ _ _ (by simp), frame_tally _ _ _ (by simp)]
    exact frame_refl _ s

end Stops

/-- FORCED_PREEMPTION acts only close before a window. -/
theorem forcedPreemption_completes_far {n : Nat} (hfar : windowWithin n 4916 s = false) : Completes (.forcedPreemption n) s (fun t => t = s) := by
  refine ⟨s, ?_, rfl⟩
  show execForcedPreemption n s = _
  rw [execForcedPreemption]
  split
  · rfl
  · rw [if_pos (.inl (by simp [hfar]))]; rfl

/-! ### A Lease is returned (R79, R80) -/

/-- What a core that is returned and a context that goes on change together. -/
theorem putCtx_returnedCore (n : Nat) (l : Lease) {x c : Ctx} (hpart : x.part = c.part) (s : State) :
    let t := putCtx l.ctx (some x) (returnedCore n l s)
    t.leases = s.leases.filter (fun k => decide (k.core ≠ n)) ∧ getF (MXC_Cn_INFO_STATE n) t = 0 ∧ getF (MXC_Cn_INFO_CTX n) t = 0 ∧
    ctxOf l.ctx t = some x ∧ t.eng = s.eng ∧
    RegsExcept ([MXC_Cn_INFO_STATE n, MXC_Cn_INFO_CTX n] ++ ctxShown c.part) s t ∧ Frame [.radio, .engine, .tallies] s t := by
  have hcore : ∀ g : Fld, (∀ f ∈ ctxShown x.part, g.key ≠ f.key) →
      getF g (putCtx l.ctx (some x) (returnedCore n l s)) = getF g (returnedCore n l s) := fun g hg => getF_putCtx _ _ hg
  refine ⟨?_, ?_, ?_, ctxOf_putCtx_same _ _, ?_, ?_, ?_⟩
  · rw [putCtx_toRadioState, leases_returnedCore]
  · rw [hcore _ (state_ne_ctxShown _ _), returnedCore, state_showCore]; rfl
  · rw [hcore _ (ctx_ne_ctxShown _ _), returnedCore, ctx_showCore]; rfl
  · rw [putCtx_toEngineState, returnedCore_toEngineState]
  · rw [← hpart, regsExcept_putCtx _ _ (List.subset_append_right _ _)]
    exact regsExcept_mono (List.subset_append_left _ _) (regsExcept_returnedCore n l s)
  · rw [frame_putCtx _ _ (by simp), frame_returnedCore _ _ _ (by simp) (by simp)]
    exact frame_refl _ s

section Returns

variable {n : Nat} {l : Lease} {c : Ctx} (hlast : ∀ k ∈ s.leases, k.core ≠ n → k.ctx ≠ l.ctx) (hc : ctxOf l.ctx s = some c) (hsub : c.sub = 2)
  (hquiet : s.quiesce = [])
include hlast hc hsub hquiet

theorem dropLease_not_suspended (hsusp : c.suspend = []) :
    dropLease n l s = putCtx l.ctx (some (afterLease l.ctx c s)) (returnedCore n l s) := by
  rw [dropLease_of_last hlast hc hsub, leftCores_of_not_suspended hsusp, afterLease_returnedCore]
  exact quiesceDone_of_none (by rw [putCtx_toRadioState, quiesce_returnedCore, hquiet])

theorem dropLease_suspended {p : Pkt} (hsusp : c.suspend = [p.id]) (hp : s.accepted.find? (fun q => decide (q.id = p.id)) = some p) :
    dropLease n l s = finish p stOK 0 (putCtx l.ctx (some (suspendedCtx c s)) (returnedCore n l s)) := by
  rw [dropLease_of_last hlast hc hsub, leftCores_of_suspended hsusp (by rw [accepted_returnedCore, hp]), suspendedCtx, defaultTime_returnedCore]
  exact quiesceDone_of_none (by rw [finish_toRadioState, putCtx_toRadioState, quiesce_returnedCore, hquiet])

end Returns

section Saved

variable {n : Nat} {l : Lease} {c : Ctx} (hl : leaseOf n s = some l) (hsave : l.saving = true)
  (hlast : ∀ k ∈ s.leases, k.core ≠ n → k.ctx ≠ l.ctx) (hc : ctxOf l.ctx s = some c) (hquiet : s.quiesce = [])
include hl hsave

theorem exec_contextSaveDone : exec (.contextSaveDone n) s = goesOn s (dropLease n l s) := by
  show execContextSaveDone n s = _
  simp only [execContextSaveDone, hl, hsave, if_true]

include hlast hc hquiet

/-- CONTEXT_SAVE_DONE of a context that is not to be suspended (R80, R335). -/
theorem contextSaveDone_completes_left (hsub : c.sub = 2 ∧ c.suspend = []) :
    Completes (.contextSaveDone n) s (fun t =>
      t.leases = s.leases.filter (fun k => decide (k.core ≠ n)) ∧ getF (MXC_Cn_INFO_STATE n) t = 0 ∧ getF (MXC_Cn_INFO_CTX n) t = 0 ∧
      ctxOf l.ctx t = some (if c.yielding = true ∧ (ctxOps l.ctx s).isEmpty = false then { c with sub := 3, yielding := false, blockAt := defaultTime s }
        else { c with sub := 1, yielding := false, readyAt := s.now }) ∧ t.eng = s.eng ∧
      RegsExcept ([MXC_Cn_INFO_STATE n, MXC_Cn_INFO_CTX n] ++ ctxShown c.part) s t ∧ Frame [.radio, .engine, .tallies] s t) := by
  refine completes_of_goesOn ((exec_contextSaveDone hl hsave).trans (by rw [dropLease_not_suspended hlast hc hsub.1 hquiet hsub.2])) (fun _ _ h => h) ?_
  obtain ⟨hleases, hstate, hctx, hnow, heng, hregs, hframe⟩ := putCtx_returnedCore n l (part_afterLease l.ctx c s) s
  exact ⟨hleases, hstate, hctx, hnow, heng, hregs, hframe⟩

/-- CONTEXT_SAVE_DONE of a context that a CTX_SUSPEND has stopped: it is SUSPENDED, and the command ends (R339). -/
theorem contextSaveDone_completes_suspended {p : Pkt} (hsub : c.sub = 2 ∧ c.suspend = [p.id])
    (hp : s.accepted.find? (fun q => decide (q.id = p.id)) = some p) :
    Completes (.contextSaveDone n) s (fun t =>
      t.leases = s.leases.filter (fun k => decide (k.core ≠ n)) ∧ getF (MXC_Cn_INFO_STATE n) t = 0 ∧
      ctxOf l.ctx t = some { c with st := 3, sub := 4, suspend := [], yielding := false, blockAt := defaultTime s } ∧ Ended p stOK 0 t ∧
      RegsExcept ([MXC_Cn_INFO_STATE n, MXC_Cn_INFO_CTX n] ++ ctxShown c.part ++ replyRegs p.window) s t ∧ Frame (.radio :: .engine :: replyPieces) s t) := by
  generalize hu : putCtx l.ctx (some (suspendedCtx c s)) (returnedCore n l s) = u
  obtain ⟨hleases, hstate, -, hctx, -, hregs, hframe⟩ := putCtx_returnedCore n l (x := suspendedCtx c s) (c := c) rfl s
  rw [hu] at hleases hstate hctx hregs hframe
  refine completes_of_goesOn (u := finish p stOK 0 u) ?_ (fun _ _ h => h) ⟨?_, ?_, ?_, ended_finish _ _ _ _, ?_, ?_⟩
  · rw [exec_contextSaveDone hl hsave, dropLease_suspended hlast hc hsub.1 hquiet hsub.2 hp, hu]
  · rw [finish_toRadioState, hleases]
  · rw [getF_finish _ _ (by rw [forall_mem_replyRegs, key_MXC_Cn_INFO_STATE]; omega), hstate]
  · rw [ctxOf, finish_toEngineState]; exact hctx
  · rw [regsExcept_finish (List.subset_append_right _ _)]
    exact regsExcept_mono (List.subset_append_left _ _) hregs
  · rw [frame_finish (by simp [replyPieces])]
    exact frame_mono (by simp [replyPieces]) hframe

end Saved

/-- FORCED_PREEMPTION of a Lease that has not begun: it is returned unstarted (R79). -/
theorem forcedPreemption_completes_returned {n : Nat} {l : Lease} {c : Ctx} (hnear : windowWithin n 4916 s = true) (hl : leaseOf n s = some l)
    (hs : l.saving = false) (hwait : nowNs s ≤ l.start) (hx : engAt n s = none) (hlast : ∀ k ∈ s.leases, k.core ≠ n → k.ctx ≠ l.ctx)
    (hc : ctxOf l.ctx s = some c) (hsub : c.sub = 2 ∧ c.suspend = [] ∧ c.yielding = false) (hquiet : s.quiesce = []) :
    Completes (.forcedPreemption n) s (fun t =>
      t.leases = s.leases.filter (fun k => decide (k.core ≠ n)) ∧ getF (MXC_Cn_INFO_STATE n) t = 0 ∧ getF (MXC_Cn_INFO_CTX n) t = 0 ∧
      ctxOf l.ctx t = some { c with sub := 1, readyAt := s.now } ∧ t.eng = s.eng ∧
      RegsExcept ([MXC_Cn_INFO_STATE n, MXC_Cn_INFO_CTX n] ++ ctxShown c.part) s t ∧ Frame [.radio, .engine, .tallies] s t) := by
  obtain ⟨hrun, hsusp, hyield⟩ := hsub
  generalize hu : { s with spills := s.spills.filter (fun x => !(decide (x.1 = n) && x.2.2.1)) } = u
  have hafter : afterLease l.ctx c u = { c with sub := 1, readyAt := s.now } := by
    rw [afterLease, hyield, if_neg (by simp), ← hu, ← hyield]
  obtain ⟨hleases, hstate, hctx, hcu, heng, hregs, -⟩ := putCtx_returnedCore n l (part_afterLease l.ctx c u) u
  refine completes_of_goesOn (u := putCtx l.ctx (some (afterLease l.ctx c u)) (returnedCore n l u)) ?_ (fun _ _ h => h) ⟨?_, hstate, hctx, ?_, ?_, ?_, ?_⟩
  · show execForcedPreemption n s = _
    rw [← dropLease_not_suspended (s := u) (n := n) (hu ▸ hlast) (hu ▸ hc) hrun (hu ▸ hquiet) hsusp]
    simp only [execForcedPreemption, hl, hnear, hs, returnLease, hx, hu]
    rw [if_neg (by simp), if_pos hwait]
  · rw [hleases, ← hu]
  · rw [hcu, hafter]
  · rw [heng, ← hu]
  · subst hu; exact hregs
  · rw [frame_putCtx _ _ (by simp), frame_returnedCore _ _ _ (by simp) (by simp), ← hu]
    exact (frame_withEngines { s.toEngineState with spills := _ } (by decide)).mpr (frame_refl _ s)

end Sys2Proof.Machine

/-! SUPPORT. Block yields, swaps and spills, one rule for each (R334, R335, R337). -/

namespace Sys2Proof.Machine

variable {s : State}

/-- A context that has waited long enough for the fabric. -/
def yieldingCtx (y : Ctx) : Ctx := { y with yielding := true }

/-- BLOCK_YIELD (R335): a context with one Lease, on whose core nothing but waits runs, stops there and is counted. -/
theorem blockYield_completes {c : Nat} {l : Lease} {x : EngSet} {y : Ctx} (hls : s.leases = [l]) (hl : l.ctx = c ∧ l.saving = false)
    (hops : (ctxOps c s).isEmpty = false) (hwaits : yieldWaits l.core s = true) (hx : engAt l.core s = some x) (hruns : anyRuns x = true)
    (hset : x.ctx = c ∧ x.drain = []) (hy : ctxOf c s = some y) :
    Completes (.blockYield c) s (fun t =>
      setSaved l.core x t ∧ t.leases = [{ l with saving := true }] ∧ (ctxOf c t).map (fun z => z.yielding) = some true ∧
      liveOf 15 SCHED_T_BLOCK_COUNT t = min (2 ^ SCHED_T_BLOCK_COUNT.width - 1) (liveOf 15 SCHED_T_BLOCK_COUNT s + 1) ∧
      t.toRadioState = { s.toRadioState with leases := t.leases } ∧
      RegsExcept ([MXC_Cn_INFO_STATE l.core, MXC_Cn_INFO_CTX l.core] ++ ctxShown y.part) s t ∧ Frame [.radio, .engine, .tallies] s t) := by
  obtain ⟨rfl, hd⟩ := hset
  obtain ⟨hctx, hsave⟩ := hl
  generalize hu : putCtx x.ctx (some (yieldingCtx y)) s = u
  have hxu : engAt l.core u = some x := by rw [← hu, engAt_putCtx, hx]
  have hcu : ctxOf x.ctx u = some (yieldingCtx y) := by rw [← hu, ctxOf_putCtx_same]
  have hradio : (saveLease l.core u).toRadioState = { s.toRadioState with leases := [{ l with saving := true }] } := by
    rw [toRadioState_saveLease hxu hd hcu, savingLease, ← hu, putCtx_toRadioState, hls]
    simp
  have hlive : liveOf 15 SCHED_T_BLOCK_COUNT (saveLease l.core u) = liveOf 15 SCHED_T_BLOCK_COUNT s := by
    rw [liveOf, live_saveLease hxu hd hcu, ← hu, live_putCtx]; rfl
  have hmine : s.leases.filter (fun l => decide (l.ctx = x.ctx)) = [l] := by simp [hls, hctx]
  refine completes_of_goesOn (u := tally 15 SCHED_T_BLOCK_COUNT 1 (saveLease l.core u)) ?_ (fun _ _ h => h)
    ⟨setSaved_saveLease hxu hd hcu, ?_, ?_, ?_, ?_, ?_, ?_⟩
  · show execBlockYield x.ctx s = _
    have hgo : ¬ ([l].isEmpty = true ∨ [l].any (fun l => l.saving) = true ∨ (ctxOps x.ctx s).isEmpty = true ∨
        (!([l].all fun l => yieldWaits l.core s)) = true ∨ (!([l].any fun l => (engAt l.core s).any anyRuns)) = true) := by
      simp [hsave, hops, hwaits, hx, hruns]
    simp only [execBlockYield, hmine, modCtx_of_ctx _ hy]
    rw [if_neg hgo, ← hu]
    rfl
  · show (saveLease l.core u).leases = _
    rw [hradio]
  · show (ctxOf x.ctx (saveLease l.core u)).map _ = _
    rw [ctxOf_saveLease hxu hd hcu]; rfl
  · rw [liveOf_tally_same, hlive]
  · show (saveLease l.core u).toRadioState = { s.toRadioState with leases := (saveLease l.core u).leases }
    rw [hradio]
  · have hshown : coreShown l.core ++ ctxShown (yieldingCtx y).part ⊆ coreShown l.core ++ ctxShown y.part := List.Subset.refl _
    rw [regsExcept_tally, regsExcept_saveLease hxu hd hcu hshown, ← hu, regsExcept_putCtx x.ctx (yieldingCtx y) (List.append_subset.mp hshown).2]
    exact regsExcept_refl _ s
  · rw [frame_tally _ _ _ (by simp), frame_saveLease hxu hd hcu (by simp) (by simp), ← hu, frame_putCtx _ _ (by simp)]
    exact frame_refl _ s

/-! ### Swaps (R337) -/

section SwapStart

variable {p : Fin 8} {c : Nat} (hnone : ∀ w ∈ s.swaps, w.part ≠ p.val) (hchoice : swapInChoice p s = some c)
include hnone hchoice

/-- A swapped context comes in to a free place. -/
theorem swapStart_completes_free (hfree : placeFree p s = true) :
    Completes (.swapStart p) s (fun t =>
      t.toEngineState = { s.toEngineState with swaps := s.swaps ++ [⟨p, none, c, s.now⟩] } ∧ RegsExcept [] s t ∧ Frame [.engine] s t) := by
  refine completes_of_goesOn (u := { s with swaps := s.swaps ++ [⟨p, none, c, s.now⟩] }) ?_ (fun _ _ h => h) ⟨rfl, regsExcept_refl _ _, ?_⟩
  · show execSwapStart p s = _
    have hidle : s.swaps.any (fun w => decide (w.part = p.val)) = false := by simpa using hnone
    simp only [execSwapStart, hidle, hchoice, hfree]
    rfl
  · exact (frame_withEngines { s.toEngineState with swaps := _ } (by decide)).mpr (frame_refl _ s)

/-- It comes in for the context that has been blocked longest, where no resident can run. -/
theorem swapStart_completes_exchange {o : Nat} {x : Ctx} (hfull : placeFree p s = false)
    (hstuck : (ctxsOf p s).any (fun x => x.2.resident && (decide (x.2.sub = 1) || decide (x.2.sub = 2))) = false)
    (ho : (oldestBlock p 4 s).or (oldestBlock p 3 s) = some o) (hx : ctxOf o s = some x) :
    Completes (.swapStart p) s (fun t =>
      t.swaps = s.swaps ++ [⟨p, some o, c, s.now⟩] ∧ ctxOf o t = some { x with resident := false } ∧
      t.toEngineState = { s.toEngineState with swaps := t.swaps, ctxs := t.ctxs } ∧ RegsExcept (ctxShown x.part) s t ∧ Frame [.engine] s t) := by
  generalize hu : ({ s with swaps := s.swaps ++ [(⟨p, some o, c, s.now⟩ : Swap)] } : State) = u
  have hxu : ctxOf o u = some x := hu ▸ hx
  refine completes_of_goesOn (u := putCtx o (some { x with resident := false }) u) ?_ (fun _ _ h => h) ⟨?_, ctxOf_putCtx_same _ _, ?_, ?_, ?_⟩
  · show execSwapStart p s = _
    have hidle : s.swaps.any (fun w => decide (w.part = p.val)) = false := by simpa using hnone
    simp only [execSwapStart, hidle, hchoice, hfull, hstuck, ho, hu, modCtx_of_ctx _ hxu]
    rfl
  · rw [putCtx_toEngineState, ← hu]
  · rw [putCtx_toEngineState, ← hu]
  · rw [regsExcept_putCtx o { x with resident := false } (List.Subset.refl _), ← hu]
    exact regsExcept_refl _ s
  · rw [frame_putCtx _ _ (by simp), ← hu]
    exact (frame_withEngines { s.toEngineState with swaps := _ } (by decide)).mpr (frame_refl _ s)

end SwapStart

/-- A swap ends: its incoming context is resident, and an exchange is counted. -/
theorem swapEnd_completes {p : Fin 8} {w : Swap} {x : Ctx} (hw : s.swaps.find? (fun w => decide (w.part = p.val)) = some w)
    (hx : ctxOf w.inn s = some x) (hst : x.st ≠ 1) :
    Completes (.swapEnd p) s (fun t =>
      t.swaps = s.swaps.filter (fun v => decide (v.part ≠ p.val)) ∧ ctxOf w.inn t = some { x with resident := true } ∧
      liveOf 15 SCHED_T_SWAP_COUNT t = (if w.out = none then liveOf 15 SCHED_T_SWAP_COUNT s else min (2 ^ SCHED_T_SWAP_COUNT.width - 1) (liveOf 15 SCHED_T_SWAP_COUNT s + 1)) ∧
      t.toEngineState = { s.toEngineState with swaps := t.swaps, ctxs := t.ctxs } ∧ RegsExcept (ctxShown x.part) s t ∧ Frame [.engine, .tallies] s t) := by
  generalize hv : { s with swaps := s.swaps.filter (fun v => decide (v.part ≠ p.val)) } = v
  generalize hu : (if w.out.isSome then tally 15 SCHED_T_SWAP_COUNT 1 v else v) = u
  have heng : u.toEngineState = { s.toEngineState with swaps := s.swaps.filter (fun v => decide (v.part ≠ p.val)) } := by
    rw [← hu, ← hv]; split <;> rfl
  have hxu : ctxOf w.inn u = some x := by rw [ctxOf, heng]; exact hx
  have hres : (if x.st = 1 then x else { x with resident := true }) = { x with resident := true } := if_neg hst
  refine completes_of_goesOn (u := putCtx w.inn (some { x with resident := true }) u) ?_ (fun _ _ h => h) ⟨?_, ctxOf_putCtx_same _ _, ?_, ?_, ?_, ?_⟩
  · show execSwapEnd p s = _
    simp only [execSwapEnd, hw, hv, hu, modCtx_of_ctx _ hxu, hres]
  · rw [putCtx_toEngineState, heng]
  · rw [liveOf, live_putCtx, ← hu]
    cases hout : w.out with
    | none => rw [← hv]; rfl
    | some o =>
      show liveOf 15 SCHED_T_SWAP_COUNT (tally 15 SCHED_T_SWAP_COUNT 1 v) = _
      rw [liveOf_tally_same, ← hv]; rfl
  · rw [putCtx_toEngineState, heng]
  · rw [regsExcept_putCtx w.inn { x with resident := true } (List.Subset.refl _), ← hu, ← hv]
    split <;> exact regsExcept_refl _ s
  · rw [frame_putCtx _ _ (by simp), ← hu]
    have hswap : Frame [.engine, .tallies] s v := hv ▸ (frame_withEngines { s.toEngineState with swaps := _ } (by decide)).mpr (frame_refl _ s)
    split
    · exact (frame_tally _ _ _ (by simp)).mpr hswap
    · exact hswap

/-! ### Spills and restores (R334) -/

/-- A spill ends. -/
theorem spillDone_completes {n c a : Nat} (h : s.spills.find? (fun x => decide (x.1 = n) && !x.2.2.1) = some (n, c, false, a)) :
    Completes (.spillDone n) s (fun t =>
      t.toEngineState = { s.toEngineState with spills := s.spills.filter (fun y => decide (y ≠ (n, c, false, a))) } ∧ RegsExcept [] s t ∧
      Frame [.engine, .radio, .tallies] s t) := by
  refine completes_of_goesOn (u := countSpill (savedScratch n c s) { s with spills := s.spills.filter (fun y => decide (y ≠ (n, c, false, a))) })
    ?_ (fun _ _ h => h) ⟨rfl, regsExcept_refl _ _, ?_⟩
  · show execSpillDone n s = _
    simp only [execSpillDone, h]
  · rw [frame_countSpill (by simp) (by simp)]
    exact (frame_withEngines { s.toEngineState with spills := _ } (by decide)).mpr (frame_refl _ s)

/-- A context whose set of core n is on the core again. -/
def withoutSaved (n : Nat) (x : Ctx) : Ctx := { x with saved := put n none x.saved }

/-- A restore ends: the Core Scratch of the set is back, and the set goes on. -/
theorem restoreDone_completes {n c a : Nat} {x : Ctx} {e : EngSet} (h : s.spills.find? (fun x => decide (x.1 = n) && x.2.2.1) = some (n, c, true, a))
    (hall : ∀ y ∈ s.spills, y.1 = n → y.2.2.1 = true) (hx : ctxOf c s = some x) (he : lookup n x.saved = some e) :
    Completes (.restoreDone n) s (fun t =>
      engAt n t = some { e with act := s.now, spilled := false } ∧ csRead n 0 e.scratch t = readBytes s.scratchOf (c * 2 ^ 32 + n * 2 ^ 21) e.scratch ∧
      (ctxOf c t).map (fun y => lookup n y.saved) = some none ∧ t.spills = s.spills.filter (fun y => decide (y ≠ (n, c, true, a))) ∧
      SameOutside (n * 2 ^ 21) e.scratch s.scratch t.scratch ∧
      RegsExcept (ctxShown x.part) s t ∧ Frame [.engine, .mem, .radio, .tallies] s t) := by
  generalize hl : readBytes s.scratchOf (c * 2 ^ 32 + n * 2 ^ 21) e.scratch = l
  have hlen : l.length = e.scratch := by rw [← hl, readBytes_length]
  generalize hv : countSpill e.scratch { s with spills := s.spills.filter (fun y => decide (y ≠ (n, c, true, a))) } = v
  have hxv : ctxOf c (csWrite n 0 l v) = some x := hv ▸ hx
  have hscratch : (csWrite n 0 l v).scratch = writeBytes (n * 2 ^ 21) l s.scratch := by
    show writeBytes (n * 2 ^ 21 + 0) l v.scratch = _
    rw [Nat.add_zero, ← hv]
    rfl
  refine completes_of_goesOn (u := putEng n (some { e with act := s.now, spilled := false }) (putCtx c (some (withoutSaved n x)) (csWrite n 0 l v)))
    ?_ (fun _ _ h => h) ⟨?_, ?_, ?_, ?_, ?_, ?_, ?_⟩
  · show execRestoreDone n s = _
    have hnospill : s.spills.any (fun y => decide (y.1 = n) && !y.2.2.1) = false := by
      rw [List.any_eq_false]
      intro y hy
      by_cases hyn : y.1 = n
      · simp [hall y hy hyn]
      · simp [hyn]
    have hsaved : (ctxOf c s).bind (fun c => lookup n c.saved) = some e := by rw [hx]; exact he
    simp only [execRestoreDone, h, hnospill, hsaved, hl, hv, resume, modCtx_of_ctx _ hxv]
    rw [← hv]
    rfl
  · exact lookup_put_same n (some { e with act := s.now, spilled := false }) _
  · show readBytes (csWrite n 0 l v).scratch (n * 2 ^ 21 + 0) e.scratch = l
    rw [Nat.add_zero, hscratch, readBytes_writeBytes_of_length hlen]
  · show (ctxOf c (putCtx c (some (withoutSaved n x)) (csWrite n 0 l v))).map _ = _
    rw [ctxOf_putCtx_same, Option.map_some, withoutSaved, lookup_put_same]
  · rw [← hv]; rfl
  · intro b hb
    show readByte (csWrite n 0 l v).scratch b = _
    rw [hscratch, readByte_writeBytes_out _ _ _ _ (by rwa [hlen])]
  · show RegsExcept _ s (putCtx c (some (withoutSaved n x)) (csWrite n 0 l v))
    have hshown : ctxShown (withoutSaved n x).part ⊆ ctxShown x.part := List.Subset.refl _
    rw [regsExcept_putCtx c (withoutSaved n x) hshown, ← hv]
    exact regsExcept_refl _ s
  · rw [frame_putEng (by simp), frame_putCtx _ _ (by simp), frame_csWrite (by simp), ← hv, frame_countSpill (by simp) (by simp)]
    exact (frame_withEngines { s.toEngineState with spills := _ } (by decide)).mpr (frame_refl _ s)

end Sys2Proof.Machine

namespace Sys2Proof
open Machine

/-- Settles O30: a Lease is granted, stopped and saved, or returned, and its context goes on by whether it yielded or is to be suspended. -/
theorem leasesAndYields : Obligations.LeasesAndYields :=
  ⟨fun _ _ _ _ _ _ _ _ hlend hpart hchoose hc hq hother hsaved hlen hfit => leaseGrant_completes_granted hlend hpart hchoose hc hq hother hsaved hlen hfit,
   fun _ _ _ hq => leaseGrant_completes_quiesced hq,
   fun _ _ _ _ _ hl hs hpasses hx hidle hc => leaseEnd_completes_saved hl hs hpasses hx hidle hc,
   fun _ _ _ hl hs hx hspent => leaseEnd_completes_bare hl hs hx hspent,
   fun _ _ _ _ _ hnear hl hs hrun hx hpass hd hc => forcedPreemption_completes_stopped hl hs hnear hrun hx hpass hd hc,
   fun _ _ _ _ hnear hl hs hwait hx hlast hc hsub hquiet => forcedPreemption_completes_returned hnear hl hs hwait hx hlast hc hsub hquiet,
   fun _ _ hfar => forcedPreemption_completes_far hfar,
   fun _ _ _ _ hl hsave hlast hc hsub hquiet => contextSaveDone_completes_left hl hsave hlast hc hquiet hsub,
   fun _ _ _ _ _ hl hsave hlast hc hsub hp hquiet => contextSaveDone_completes_suspended hl hsave hlast hc hquiet hsub hp,
   fun _ _ _ _ _ hls hl hops hwaits hx hruns hset hy => blockYield_completes hls hl hops hwaits hx hruns hset hy,
   fun _ _ _ hnone hchoice hfree => swapStart_completes_free hnone hchoice hfree,
   fun _ _ _ _ _ hnone hchoice hfull hstuck ho hx => swapStart_completes_exchange hnone hchoice hfull hstuck ho hx,
   fun _ _ _ _ hw hx hst => swapEnd_completes hw hx hst,
   fun _ _ _ _ h => spillDone_completes h,
   fun _ _ _ _ _ _ h hall hx he => restoreDone_completes h hall hx he⟩

end Sys2Proof

/-! SUPPORT. Writes of bytes within one line of the Unified Range, and those that a stack out of service loses (R252, R375, R432). -/

namespace Sys2Proof.Machine

variable {s : State} {a : Nat} {l : List Byte}

theorem lineChunks_of_one_line (hne : l ≠ []) (hline : a % 64 + l.length ≤ 64) : lineChunks l.length a l = [(a, l)] := by
  obtain ⟨b, r, rfl⟩ := List.exists_cons_of_ne_nil hne
  have hrest : ∀ f a', lineChunks f a' ([] : List Byte) = [] := fun f a' => by cases f <;> rfl
  rw [List.length_cons] at hline ⊢
  rw [lineChunks, List.isEmpty_cons, if_neg Bool.false_ne_true, List.take_of_length_le (by rw [List.length_cons]; omega),
    List.drop_of_length_le (by rw [List.length_cons]; omega), hrest]

theorem urWrite_of_one_line (hne : l ≠ []) (hline : a % 64 + l.length ≤ 64) : urWrite a l s = writeLine a l s := by
  rw [urWrite, lineChunks_of_one_line hne hline]
  simp only [List.foldl_cons, List.foldl_nil, Bool.false_or]

/-- A write to a line of a stack that has left service is discarded. -/
theorem apLine_of_stack_gone {m : Nat} (hm : storeAddr a s = some m) (hgone : stackGone m s = true) : apLine a l s = s := by
  simp only [apLine, writeLine, hm, hgone, or_true, if_true]

theorem releaseHeld_of_none (h : s.fabHeld = []) : releaseHeld s = s := by
  simp only [releaseHeld, h, List.filter_nil, List.foldl_nil]
  rw [← h]

/-- A write of the aperture that a function may make changes nothing on a stack that has left service. -/
theorem exec_bar4Write_of_stack_gone {f : Fin 33} {off m : Nat} (hin : apIn f off l.length s = true) (hok : apOk f (apAddr f off s) l.length s = true)
    (hne : l ≠ []) (hline : apAddr f off s % 64 + l.length ≤ 64) (hm : storeAddr (apAddr f off s) s = some m) (hgone : stackGone m s = true)
    (hheld : s.fabHeld = []) : NoEffect (.bar4Write f off l) s := by
  show execBar4Write f off l s = goesOn s s
  rw [execBar4Write, if_neg (by simp [hin, hne]), if_neg (by simp [hok]), lineChunks_of_one_line hne hline, List.foldl_cons, List.foldl_nil,
    apLine_of_stack_gone hm hgone, releaseHeld_of_none hheld]

/-- The PF may reach block 0, which lies in frame 0 of T1 and belongs to partition 0; the HBM4 stack that holds the frame's first line has left
service. -/
def stackLeft : State :=
  { setF DEV_STAT_READY 1 State.reset with
    fns := [(0, ⟨true, true, false, false, []⟩)], bmap := [(0, mkEnt 2 0 0 0 512 false)], stacksOut := [0] }

theorem bar4Write_stackLeft : NoEffect (.bar4Write 0 0 [7]) stackLeft :=
  exec_bar4Write_of_stack_gone (m := memAddr 2 0 0) (by decide +kernel) (by decide +kernel) (by decide) (by decide +kernel) (by decide +kernel)
    (by decide +kernel) rfl

end Sys2Proof.Machine

namespace Sys2Proof
open Machine

/-- Refutes O18: its statement of a write that a function may make has the bytes read back, but asks nothing of the stack that holds them. The PF's
write to a block of T1 whose HBM4 stack has left service is discarded, as R375 says, and the byte reads as before. -/
theorem not_apertureAndWindowAccesses : ¬ Obligations.ApertureAndWindowAccesses := by
  rintro ⟨_, _, _, _, _, hstore, _⟩
  obtain ⟨t, ht, hbytes, _⟩ :=
    hstore stackLeft 0 0 [7] (by decide +kernel) (by decide) (by decide +kernel) (by decide +kernel) ⟨rfl, rfl, rfl, rfl⟩ (by decide +kernel)
  obtain rfl : stackLeft = t := Host.Outcome.next.inj (bar4Write_stackLeft.symm.trans ht)
  exact absurd hbytes (by decide +kernel)

end Sys2Proof

/-! SUPPORT. A command whose final reply comes later takes effect, and a DEV_RESET whose ring's registers lie where the reset keeps values (R100,
R436). -/

namespace Sys2Proof.Machine

/-- A command whose reply comes later, that is ready and passes its check, has its effect. -/
theorem runCmdOpen_of_legal {chk : Check} {eff : Pkt → State → State} {p : Pkt} {s : State} (hr : ready p s = true)
    (hc : chk p (leaveTimed p s) = none) :
    runCmdOpen chk eff p s = eff p { leaveTimed p s with begun := insertNat p.id (leaveTimed p s).begun } := by
  rw [runCmdOpen, if_pos hr]
  dsimp only
  rw [hc]

/-- A DEV_RESET from window 212,944, whose ring's TAIL would lie where CAL_F_6 lies. -/
def farResetPkt : Pkt := ⟨1, 212944, 0, 4, false, false, false, false, 7, 0, 9, 0, 0xFF, 0, 0, [0, 0, 0, 0]⟩

theorem key_tail_farResetPkt : (CMD_PWw_RR_TAIL_TAIL farResetPkt.window).key = (CAL_F_k_VALUE 6).key := by decide

/-- The device has accepted it. -/
def farResetTaken : State := { State.reset with accepted := [farResetPkt] }

/-- The state after its final reply and before the reset. -/
def farResetEnded : State := finish farResetPkt stOK 0 { leaveTimed farResetPkt farResetTaken with begun := insertNat farResetPkt.id [] }

theorem exec_farResetPkt : exec (.devReset farResetPkt) farResetTaken = goesOn farResetTaken (deviceReset farResetEnded) :=
  congrArg (goesOn farResetTaken) (runCmdOpen_of_legal (chk := chkReset) (by decide +kernel) (by decide +kernel))

/-- The final reply has taken TAIL from 0 to 1, and the reset keeps what lies in the place of a Vault value. -/
theorem tail_deviceReset_farResetEnded : getF (CMD_PWw_RR_TAIL_TAIL farResetPkt.window) (deviceReset farResetEnded) = 1 := by decide +kernel

end Sys2Proof.Machine

namespace Sys2Proof
open Machine

/-- Refutes O25: its statement of DEV_RESET has TAIL of the packet's window read 0 after the reset, but bounds no packet's window. The TAIL of window
212,944, which the final reply takes to 1, lies in the place of CAL_F_6, and a device reset keeps the Vault's values (R436). -/
theorem not_deviceCommands : ¬ Obligations.DeviceCommands := by
  rintro ⟨_, _, hreset, _⟩
  obtain ⟨t, ht, _, _, _, _, _, _, htail⟩ := hreset farResetTaken farResetPkt (by decide +kernel) (by decide +kernel)
  rw [exec_farResetPkt] at ht
  rw [getF_goesOn ht, tail_deviceReset_farResetEnded] at htail
  exact absurd htail (by decide)

end Sys2Proof

/-! SUPPORT. A store within one line of a block of T0 that does not move (R238, R252, R253). -/

namespace Sys2Proof.Machine

variable {fs : List Fld} {ps : List Piece} {s t : State}

section StoreT0

variable {a : Nat} {l : List Byte}

/-- A place lies in its tier: a frame's number and an offset in it never reach the next. -/
theorem memAddr_tier {tier frame off : Nat} (hf : frame < 2 ^ 21) (ho : off < 2 ^ 21) : memAddr tier frame off / 2 ^ 43 = tier := by
  rw [memAddr]; omega

theorem entFrame_lt (e : Nat) : entFrame e < 2 ^ 21 := Nat.mod_lt _ (by decide)

section Congr

variable (hm : t.toMemState = s.toMemState)
include hm

theorem bent_congr (b : Nat) : bent b t = bent b s := by rw [bent, hm]; rfl

theorem migOf_congr (b : Nat) : migOf b t = migOf b s := by rw [migOf, hm]; rfl

theorem loadAddr_congr (a : Nat) : loadAddr a t = loadAddr a s := by rw [loadAddr, migOf_congr hm, bent_congr hm]; rfl

theorem objPoisoned_congr (a : Nat) : objPoisoned a t = objPoisoned a s := by
  have hobj : ∀ i, objSt i t = objSt i s := fun i => by rw [objSt, hm]; rfl
  rw [objPoisoned, bent_congr hm, hobj]; rfl

theorem marked_congr (hr : t.stacksOut = s.stacksOut) (m : Nat) : marked m t = marked m s := by
  rw [marked, stackGone, hm, hr]; rfl

end Congr

/-- The dirty bits that a store sets change no memory, register or other piece of the state. -/
theorem setDirty_of_still (hmig : migOf (a / 2 ^ 21) s = none) : ∃ h, setDirty a s = { s with shadows := h } := by
  unfold setDirty
  simp only [hmig]
  split
  · exact ⟨s.shadows, rfl⟩
  · exact ⟨_, rfl⟩

variable (hmig : migOf (a / 2 ^ 21) s = none) (htier : entTier (bent (a / 2 ^ 21) s) = 1)
include hmig htier

theorem loadAddr_of_still : loadAddr a s = memAddr 1 (entFrame (bent (a / 2 ^ 21) s)) (a % 2 ^ 21) := by
  simp only [loadAddr, hmig, htier]

theorem loadAddr_in_T0 : loadAddr a s / 2 ^ 43 = 1 := by
  rw [loadAddr_of_still hmig htier]
  exact memAddr_tier (entFrame_lt _) (Nat.mod_lt _ (by decide))

theorem not_T1_of_T0 : loadAddr a s / 2 ^ 43 ≠ 2 := by
  rw [loadAddr_in_T0 hmig htier]; decide

theorem not_T2_of_T0 : ¬ loadAddr a s / 2 ^ 43 = 3 := by
  rw [loadAddr_in_T0 hmig htier]; decide

theorem chanWaits_T0 : chanWaits (loadAddr a s) s = false := by
  rw [chanWaits, decide_eq_false (not_T1_of_T0 hmig htier), Bool.false_and]

theorem stackGone_T0 : stackGone (loadAddr a s) s = false := by
  rw [stackGone, decide_eq_false (not_T1_of_T0 hmig htier), Bool.false_and]

theorem storeAddr_T0 : storeAddr a s = some (loadAddr a s) := by
  have hwait := chanWaits_T0 hmig htier
  rw [loadAddr_of_still hmig htier] at hwait ⊢
  unfold storeAddr
  rw [hmig]
  dsimp only
  rw [htier, Option.bind_some, hwait, if_neg Bool.false_ne_true]

theorem touchPage_T0 (t : State) : touchPage (loadAddr a s) t = t := by
  rw [touchPage, if_neg (not_T2_of_T0 hmig htier)]

/-- Such a store takes effect where a load of the byte looks. -/
theorem writeLine_of_T0 (hpois : objPoisoned a s = false) (hmark : marked (loadAddr a s) s = false) :
    (writeLine a l s).1 = setDirty a { s with mem := writeBytes (loadAddr a s) l s.mem } := by
  simp only [writeLine, storeAddr_T0 hmig htier, hpois, stackGone_T0 hmig htier, hmark, Bool.false_eq_true, false_and, or_self, if_false,
    touchPage_T0 hmig htier]

/-- A write within one line of such a block changes memory there, and at most the dirty bits of a shadow beside it. -/
theorem urWrite_of_T0 (hne : l ≠ []) (hline : a % 64 + l.length ≤ 64) (hpois : objPoisoned a s = false) (hmark : marked (loadAddr a s) s = false) :
    ∃ h, (urWrite a l s).1 = { s with mem := writeBytes (loadAddr a s) l s.mem, shadows := h } := by
  have hstill : migOf (a / 2 ^ 21) { s with mem := writeBytes (loadAddr a s) l s.mem } = none := hmig
  obtain ⟨h, hdirty⟩ := setDirty_of_still hstill
  exact ⟨h, by rw [urWrite_of_one_line hne hline, writeLine_of_T0 hmig htier hpois hmark, hdirty]⟩

end StoreT0

theorem frame_withMem {m : MemState} (hp : .mem ∈ ps) : Frame ps s { t with toMemState := m } ↔ Frame ps s t :=
  frame_congr .mem (fun g hg => by cases g with | mem => exact absurd rfl hg | _ => exact Iff.rfl) hp

end Sys2Proof.Machine

/-! SUPPORT. How a STEP starts (R326, R329, R331). -/

namespace Sys2Proof.Machine

variable {fs : List Fld} {ps : List Piece} {s t : State}

/-- A context as the STEP at the head of its queue starts (R326, R329), and that STEP. -/
def countedCtx (x : Ctx) : Ctx := { x with counter := (x.counter + 1) % 2 ^ 64, faberr := false, firstFail := 0 }
def startedStep (x : Ctx) (st : Step) (s : State) : Step :=
  { st with started := true, startAt := counter (eventTd s) s, allFb := bitAt 1 st.flags && decide (x.fbImage ≠ 0) && lateStep st s }
def startedCtx (x : Ctx) (st : Step) (r : List Step) (s : State) : Ctx := { countedCtx x with queue := startedStep x st s :: r }

/-- The state as the STEP has started, before its ARGS are written. -/
def stepStarted (c : Nat) (x : Ctx) (st : Step) (r : List Step) (s : State) : State :=
  putCtx c (some (startedCtx x st r s)) (putCtx c (some (countedCtx x)) s)

theorem putCtx_toMemState (c : Nat) (x : Ctx) (s : State) : (putCtx c (some x) s).toMemState = s.toMemState := rfl

section Start

variable {c : Nat} {x : Ctx} {st : Step} {r : List Step}

theorem toMemState_stepStarted : (stepStarted c x st r s).toMemState = s.toMemState := by
  rw [stepStarted, putCtx_toMemState, putCtx_toMemState]

theorem stacksOut_stepStarted : (stepStarted c x st r s).stacksOut = s.stacksOut := by
  rw [stepStarted, putCtx_toRadioState, putCtx_toRadioState]

@[simp] theorem ctxOf_stepStarted : ctxOf c (stepStarted c x st r s) = some (startedCtx x st r s) := ctxOf_putCtx_same _ _

theorem regsExcept_stepStarted : RegsExcept (ctxShown x.part) s (stepStarted c x st r s) := by
  have hstarted : ctxShown (startedCtx x st r s).part ⊆ ctxShown x.part := List.Subset.refl _
  have hcounted : ctxShown (countedCtx x).part ⊆ ctxShown x.part := List.Subset.refl _
  rw [stepStarted, regsExcept_putCtx _ _ hstarted, regsExcept_putCtx _ _ hcounted]
  exact regsExcept_refl _ s

theorem frame_stepStarted (hp : .engine ∈ ps) : Frame ps s (stepStarted c x st r t) ↔ Frame ps s t := by
  rw [stepStarted, frame_putCtx _ _ hp, frame_putCtx _ _ hp]

variable (hx : ctxOf c s = some x) (hq : x.queue = st :: r) (hrun : st.started = false ∧ x.st = 2)
include hx hq hrun

theorem exec_stepStart : exec (.stepStart c) s = goesOn s
    (if st.args.isEmpty ∨ !rangeOk x.part true st.argsAddr st.args.length s then stepStarted c x st r s
      else (urWrite st.argsAddr st.args (stepStarted c x st r s)).1) := by
  have hstep : modStep c (fun q => { q with
        started := true, startAt := counter (eventTd s) s, allFb := bitAt 1 st.flags && decide (x.fbImage ≠ 0) && lateStep st s })
      (modCtx c countedCtx s) = stepStarted c x st r s := by
    rw [modStep, modCtx_of_ctx _ hx, modCtx_of_ctx _ (ctxOf_putCtx_same c (countedCtx x)), show (countedCtx x).queue = st :: r from hq]
    rfl
  show execStepStart c s = _
  rw [← hstep]
  simp only [execStepStart, hx, hq]
  rw [if_neg (by simp [hrun])]
  rfl

/-- STEP_START of a STEP without ARGS. -/
theorem stepStart_completes_without_args (hargs : st.args = []) :
    Completes (.stepStart c) s (fun t =>
      ctxOf c t = some { x with
        counter := (x.counter + 1) % 2 ^ 64, faberr := false, firstFail := 0,
        queue := { st with
          started := true, startAt := counter (eventTd s) s,
          allFb := bitAt 1 st.flags && decide (x.fbImage ≠ 0) && decide (st.deadline ≠ 0) && decide (st.deadline < counter (eventTd s) s) } :: r } ∧
      t.toEngineState = { s.toEngineState with ctxs := t.ctxs } ∧ RegsExcept (ctxShown x.part) s t ∧ Frame [.engine] s t) := by
  refine completes_of_goesOn (u := stepStarted c x st r s) ?_ (fun _ _ h => h) ⟨?_, rfl, regsExcept_stepStarted, ?_⟩
  · rw [exec_stepStart hx hq hrun, if_pos (.inl (by rw [hargs]; rfl))]
  · rw [ctxOf_stepStarted, startedCtx, startedStep, lateStep, Bool.and_assoc _ (decide (st.deadline ≠ 0))]
    rfl
  · rw [frame_stepStarted (by decide)]
    exact frame_refl _ s

/-- STEP_START of a STEP whose ARGS lie in one line of T0. -/
theorem stepStart_completes_with_args (hargs : st.args ≠ [] ∧ rangeOk x.part true st.argsAddr st.args.length s = true)
    (hline : st.argsAddr % 64 + st.args.length ≤ 64) (hmig : migOf (st.argsAddr / 2 ^ 21) s = none)
    (htier : entTier (bent (st.argsAddr / 2 ^ 21) s) = 1) (hpois : objPoisoned st.argsAddr s = false)
    (hmark : marked (loadAddr st.argsAddr s) s = false) :
    Completes (.stepStart c) s (fun t =>
      readBytes t.mem (loadAddr st.argsAddr s) st.args.length = st.args ∧ SameOutside (loadAddr st.argsAddr s) st.args.length s.mem t.mem ∧
      (stepOf c t).map (fun q => (q.started, q.startAt)) = some (true, counter (eventTd s) s) ∧
      (ctxOf c t).map (fun y => y.counter) = some ((x.counter + 1) % 2 ^ 64) ∧
      RegsExcept (ctxShown x.part) s t ∧ Frame [.engine, .mem] s t) := by
  obtain ⟨hne, hok⟩ := hargs
  have hmem : (stepStarted c x st r s).toMemState = s.toMemState := toMemState_stepStarted
  have hplace : loadAddr st.argsAddr (stepStarted c x st r s) = loadAddr st.argsAddr s := loadAddr_congr hmem _
  obtain ⟨h, hwrite⟩ := urWrite_of_T0 (s := stepStarted c x st r s) (by rw [migOf_congr hmem, hmig]) (by rw [bent_congr hmem, htier]) hne hline
    (by rw [objPoisoned_congr hmem, hpois]) (by rw [hplace, marked_congr hmem stacksOut_stepStarted, hmark])
  have hmemory : (stepStarted c x st r s).mem = s.mem := congrArg MemState.mem hmem
  rw [hplace, hmemory] at hwrite
  refine completes_of_goesOn (u := { stepStarted c x st r s with mem := writeBytes (loadAddr st.argsAddr s) st.args s.mem, shadows := h })
    ?_ (fun _ _ h => h) ⟨readBytes_writeBytes_same _ _ _, fun b hb => readByte_writeBytes_out _ _ _ _ hb, ?_, ?_, ?_, ?_⟩
  · rw [exec_stepStart hx hq hrun, if_neg (by simp [hne, hok]), hwrite]
  · show ((ctxOf c (stepStarted c x st r s)).bind fun x => x.queue.head?).map _ = _
    rw [ctxOf_stepStarted]; rfl
  · show (ctxOf c (stepStarted c x st r s)).map _ = _
    rw [ctxOf_stepStarted]; rfl
  · exact regsExcept_stepStarted
  · refine (frame_withMem (m := { (stepStarted c x st r s).toMemState with mem := _, shadows := h }) (by decide)).mpr ?_
    exact (frame_stepStarted (by decide)).mpr (frame_refl _ s)

end Start

/-- A STEP_START of no context. -/
theorem stepStart_of_no_context {c : Nat} (hx : ctxOf c s = none) : NoEffect (.stepStart c) s := by
  show execStepStart c s = _
  simp only [execStepStart, hx]
  rfl

end Sys2Proof.Machine

/-! SUPPORT. What stands through the end of a packet and what a packet that has ended stands through: its reply in its ring, the counters, and the
bytes of host memory beside the ring (R93 to R98). -/

namespace Sys2Proof.Machine

variable {fs : List Fld} {ps : List Piece} {s t : State}

/-! ### A packet stays ended -/

/-- A field that is none of those a reply is found by: TAIL, SIZE and BASE of a ring, EN of a dirty log, and an Air Counter, all of which repeat in
steps of 4,096 places. -/
def clearOfReplies (f : Fld) : Prop :=
  f.key % 0x1000 ≠ 0x600 ∧ f.key % 0x1000 ≠ 0x400 ∧ f.key % 0x1000 ≠ 0x20C ∧ f.key % 0x1000 ≠ 0 ∧ f.key % 0x1000 ≠ 0x200

theorem clearOfReplies_ctxShown (p : Nat) : ∀ f ∈ ctxShown p, clearOfReplies f := by
  simp only [ctxShown, clearOfReplies, List.forall_mem_cons, List.not_mem_nil, false_imp_iff, implies_true, and_true, key_SCHED_STAT_CTXS,
    key_SCHED_Pp_CTX_WAITING, key_SCHED_Pp_CTX_RESIDENT, key_SCHED_Pp_CTX_CTXS]
  omega

theorem clearOfReplies_coreShown (n : Nat) : ∀ f ∈ coreShown n, clearOfReplies f := by
  simp only [clearOfReplies, List.forall_mem_cons, List.not_mem_nil, false_imp_iff, implies_true, and_true,
    key_MXC_Cn_INFO_STATE, key_MXC_Cn_INFO_CTX]
  omega

section Stays

variable (hf : Frame [.engine, .radio, .tallies] s t) (hr : RegsExcept fs s t) (hfs : ∀ f ∈ fs, clearOfReplies f)

include hr hfs in
theorem getF_of_clear {g : Fld} (hg : ¬ clearOfReplies g) : getF g t = getF g s :=
  hr g fun f hf he => hg (by rw [clearOfReplies, he]; exact hfs f hf)

include hr hfs in
theorem ring_of_clear (w : Nat) :
    getF (CMD_PWw_RR_TAIL_TAIL w) t = getF (CMD_PWw_RR_TAIL_TAIL w) s ∧ getF (CMD_PWw_RR_BASE_ADDR w) t = getF (CMD_PWw_RR_BASE_ADDR w) s ∧
    getF (CMD_PWw_RR_CFG_SIZE w) t = getF (CMD_PWw_RR_CFG_SIZE w) s := by
  refine ⟨getF_of_clear hr hfs ?_, getF_of_clear hr hfs ?_, getF_of_clear hr hfs ?_⟩ <;>
    simp only [clearOfReplies, key_CMD_PWw_RR_TAIL_TAIL, key_CMD_PWw_RR_BASE_ADDR, key_CMD_PWw_RR_CFG_SIZE] <;> omega

include hf in
theorem mayMaster_of_frame (f : Nat) : mayMaster f t = mayMaster f s := by
  obtain ⟨hfns, _⟩ := hf .bus (by decide)
  have hhost : t.toHostState = s.toHostState := hf .host (by decide)
  simp only [mayMaster, fnOf, streamOut, hfns, hhost]

include hf hr hfs

theorem replyLands_of_clear (w : Nat) : replyLands w t = replyLands w s := by
  obtain ⟨_, _, hsize⟩ := ring_of_clear hr hfs w
  have hlog : getF (SCHED_DLOGv_CTRL_EN (w / 4 - 1)) t = getF (SCHED_DLOGv_CTRL_EN (w / 4 - 1)) s :=
    getF_of_clear hr hfs (by simp only [clearOfReplies, key_SCHED_DLOGv_CTRL_EN]; omega)
  rw [replyLands, mayMaster_of_frame hf, hsize, flagF, hlog]
  rfl

theorem lastReply_of_clear (w : Nat) : lastReply w t = lastReply w s := by
  obtain ⟨htail, hbase, hsize⟩ := ring_of_clear hr hfs w
  have hmem : t.hostMem = s.hostMem := hf .hostMem (by decide)
  simp only [lastReply, lastEntry, ringSize, htail, hbase, hsize, hmem]

/-- A packet that has ended stays so through a change of contexts, cores and counters. -/
theorem Ended.of_clear {p : Pkt} {st d : Nat} (h : Ended p st d s) : Ended p st d t := by
  obtain ⟨haccepted, _, hbegun⟩ := hf .commands (by decide)
  obtain ⟨htail, _, hsize⟩ := ring_of_clear hr hfs p.window
  have htime : counter p.td t = counter p.td s := getF_of_clear hr hfs (by simp only [clearOfReplies, key_AIR_TDn_COUNT_VALUE]; omega)
  obtain ⟨hgone, hdone, hreply⟩ := h
  refine ⟨by rwa [haccepted], by rwa [hbegun], fun hlands hloud => ?_⟩
  rw [replyLands_of_clear hf hr hfs] at hlands
  rw [lastReply_of_clear hf hr hfs, hreply hlands hloud]
  simp only [htime, lastEntry, ringSize, htail, hsize]

end Stays

/-! ### Counters that no reply counts in (R347, R435) -/

section Live

variable {g : Nat} {f : Fld} (hmaster : tallyKey g f ≠ tallyKey 1 DEV_T_NOMASTER_COUNT)
include hmaster

theorem liveOf_noMaster (k : Nat) (s : State) : liveOf g f (noMaster k s) = liveOf g f s := liveOf_tally_ne 1 s hmaster

theorem liveOf_raiseIn (k v : Nat) (s : State) : liveOf g f (raiseIn k v s) = liveOf g f s := by
  unfold raiseIn
  split
  · split <;> rfl
  · exact liveOf_noMaster hmaster k s

theorem liveOf_hostErrRaise (e : Fld) (s : State) : liveOf g f (hostErrRaise e s) = liveOf g f s := by
  unfold hostErrRaise
  split
  · exact liveOf_raiseIn hmaster _ _ _
  · rfl

theorem liveOf_raiseVec (k v : Nat) (s : State) : liveOf g f (raiseVec k v s) = liveOf g f s := by
  unfold raiseVec
  split
  · exact liveOf_raiseIn hmaster _ _ _
  · exact liveOf_hostErrRaise hmaster _ _

theorem liveOf_event (st : Fld) (i : Nat) (mask : Fld) (e : Nat) (vec : Fld) (s : State) : liveOf g f (event st i mask e vec s) = liveOf g f s := by
  unfold event
  dsimp only
  split
  · exact liveOf_raiseVec hmaster _ _ _
  · rfl

variable (hpages : ∀ v, tallyKey g f ≠ tallyKey 15 (SCHED_DLOGv_T_PAGES_COUNT v))
include hpages

theorem liveOf_dlogPage (v pg : Nat) (s : State) : liveOf g f (dlogPage v pg s) = liveOf g f s := by
  have hbit : ∀ i, liveOf g f (dlogBit v i s) = liveOf g f s := by
    intro i
    unfold dlogBit
    dsimp only
    generalize (if flagF (SCHED_DLOGv_STAT_ACTIVE v) s = true then _ else _) * 8 + i / 8 = a
    split
    · rw [liveOf_hostErrRaise hmaster, liveOf_noMaster hmaster]
    · split
      · rfl
      · exact liveOf_tally_ne 1 _ (hpages v)
  unfold dlogPage
  dsimp only
  split
  · exact hbit _
  · rw [dlogOvf, liveOf_event hmaster]; rfl

theorem liveOf_hostWrite (k a : Nat) (l : List Byte) (s : State) : liveOf g f (hostWrite k a l s) = liveOf g f s := by
  unfold hostWrite
  split
  · unfold dlogWrite
    split
    · rfl
    · have hlist : ∀ (l : List Nat) (n : Nat) (u : State), liveOf g f (l.foldl (fun s i => dlogPage (k - 1) (n + i) s) u) = liveOf g f u := by
        intro l n
        induction l with
        | nil => exact fun _ => rfl
        | cons i l ih => exact fun u => (ih _).trans (liveOf_dlogPage hmaster hpages _ _ _)
      exact hlist _ _ _
  · rw [liveOf_hostErrRaise hmaster, liveOf_noMaster hmaster]

theorem liveOf_reply (p : Pkt) (st d cat : Nat) (final : Bool) (s : State) : liveOf g f (reply p st final d cat s) = liveOf g f s := by
  have hadd : ∀ u, liveOf g f (addF (CMD_PWw_RR_TAIL_TAIL p.window) 1 u) = liveOf g f u := fun _ => rfl
  unfold reply writeReply
  dsimp only
  split
  · rfl
  · split
    · rw [liveOf_raiseVec hmaster, hadd, liveOf_hostWrite hmaster hpages]
    · rw [hadd, liveOf_hostWrite hmaster hpages]

/-- The end of a packet counts in no other counter. -/
theorem liveOf_finish (p : Pkt) (st d : Nat) (s : State) : liveOf g f (finish p st d s) = liveOf g f s := by
  have hbusy : ∀ u, liveOf g f (showBusy p.window u) = liveOf g f u := fun u => by unfold showBusy; split <;> rfl
  have htimed : liveOf g f (leaveTimed p s) = liveOf g f s := by unfold leaveTimed; split <;> rfl
  rw [finish, hbusy]
  exact (liveOf_reply hmaster hpages _ _ _ _ _ _).trans htimed

end Live

/-! ### Host memory beside the ring (R94) -/

theorem replyLands_iff (w : Nat) (s : State) : replyLands w s = true ↔
    mayMaster (w / 4) s = true ∧ (w / 4 = 0 ∨ flagF (SCHED_DLOGv_CTRL_EN (w / 4 - 1)) s = false) ∧ getF (CMD_PWw_RR_CFG_SIZE w) s ≤ 10 := by
  simp only [replyLands, Bool.and_eq_true, Bool.or_eq_true, decide_eq_true_eq, Bool.not_eq_true', and_assoc]

theorem finishId_of_accepted {p : Pkt} {st d : Nat} (h : s.accepted.find? (fun q => decide (q.id = p.id)) = some p) :
    finishId p.id st d s = finish p st d s := by
  rw [finishId, h]

/-- What lies beside a ring of k entries of 32 bytes lies beside each. -/
theorem beside_entry {a n base i k : Nat} (hi : i < k) (hout : a + n ≤ base ∨ base + k * 32 ≤ a) :
    a + n ≤ base + i * 32 ∨ base + i * 32 + 32 ≤ a := by omega

/-- Bytes of host memory outside the ring read after a reply that lands as before it. -/
theorem readBytes_finish_out {p : Pkt} {st d a n : Nat} (hlands : replyLands p.window s = true)
    (hout : a + n ≤ getF (CMD_PWw_RR_BASE_ADDR p.window) s * 4096 ∨
      getF (CMD_PWw_RR_BASE_ADDR p.window) s * 4096 + ringSize p.window s * 32 ≤ a) :
    readBytes (finish p st d s).hostMem a n = readBytes s.hostMem a n := by
  obtain ⟨hm, hlog, _⟩ := (replyLands_iff _ _).mp hlands
  have hmaster : mayMaster (p.window / 4) (leaveTimed p s) = true := by
    rw [← hm]; unfold leaveTimed; split <;> rfl
  have hlogOff : p.window / 4 = 0 ∨ flagF (SCHED_DLOGv_CTRL_EN (p.window / 4 - 1)) (leaveTimed p s) = false := by
    rw [flagF, dlogEn_leaveTimed]; exact hlog
  have hmem : (leaveTimed p s).hostMem = s.hostMem := by unfold leaveTimed; split <;> rfl
  rw [hostMem_finish_reply, reply]
  split
  · rw [hmem]
  · have hentry : getF (CMD_PWw_RR_TAIL_TAIL p.window) s % ringSize p.window s < ringSize p.window s := Nat.mod_lt _ (Nat.two_pow_pos _)
    have hsize : ringSize p.window (leaveTimed p s) = ringSize p.window s := by rw [ringSize, size_leaveTimed]; rfl
    rw [hostMem_writeReply hmaster hlogOff, hsize, base_leaveTimed, tail_leaveTimed, hmem]
    exact readBytes_writeBytes_out _ _ _ _ _ (by rw [replyBytes_length]; exact beside_entry hentry hout)

end Sys2Proof.Machine

/-! SUPPORT. An entry of a function's Ledger (R364 to R369). -/

namespace Sys2Proof.Machine

variable {fs : List Fld} {ps : List Piece} {s t : State}

/-- The report of an entry with a failure STATUS (R390). -/
def failureShown (e : LedgerEvent) (s : State) : State :=
  if 0x301 ≤ e.status then event FLT_STAT_ITEM_FAILED 0 FLT_EVT_MASK_MASK 0 FLT_EVT_VEC_VEC s else s

/-- The backlogs with the entry at the end of its function's, and the state that holds them. -/
def ledgerWith (e : LedgerEvent) (s : State) : List (Nat × List (List Byte)) :=
  put e.func (some (backlog e.func s ++ [ledgerBytes (injectedIf s.injecting e) (nextIndex e.func s)])) s.ledger
def enteredLedger (e : LedgerEvent) (s : State) : State := { failureShown e s with ledger := ledgerWith e s }

theorem toRadioState_event (st : Fld) (i : Nat) (mask : Fld) (e : Nat) (vec : Fld) (s : State) :
    (event st i mask e vec s).toRadioState = s.toRadioState :=
  ((frame_event (by decide) (by decide)).mpr (frame_refl [.hostMem, .bus, .tallies] s)).toRadioState

theorem toRadioState_failureShown (e : LedgerEvent) (s : State) : (failureShown e s).toRadioState = s.toRadioState := by
  unfold failureShown
  split
  · exact toRadioState_event _ _ _ _ _ _
  · rfl

theorem ledgerAdd_eq (e : LedgerEvent) (s : State) :
    ledgerAdd e s = showLedger e.func (addF (FLT_LGf_NEXT_NEXT e.func) 1 (enteredLedger e s)) := by
  have hledger : ∀ e' : LedgerEvent, backlog e'.func (failureShown e' s) = backlog e'.func s ∧ (failureShown e' s).ledger = s.ledger := fun e' => by
    rw [backlog, toRadioState_failureShown]; exact ⟨rfl, rfl⟩
  have hassign : ∀ e' : LedgerEvent, e'.func = e.func → e'.status = e.status → injectedIf s.injecting e = e' →
      showLedger e'.func (addF (FLT_LGf_NEXT_NEXT e'.func) 1 { failureShown e' s with
        ledger := put e'.func (some (backlog e'.func (failureShown e' s) ++ [ledgerBytes e' (nextIndex e'.func s)])) (failureShown e' s).ledger }) =
      showLedger e.func (addF (FLT_LGf_NEXT_NEXT e.func) 1 (enteredLedger e s)) := by
    intro e' hfunc hstatus he
    obtain ⟨hback, hold⟩ := hledger e'
    have hshown : failureShown e' s = failureShown e s := by rw [failureShown, hstatus]; rfl
    rw [hback, hold, hshown, hfunc, enteredLedger, ledgerWith, he]
  refine hassign (injectedIf s.injecting e) ?_ ?_ rfl <;> unfold injectedIf <;> split <;> rfl

/-- An entry's index is the next of its function's Ledger (R364). -/
theorem index_ledgerAssign (e : LedgerEvent) (s : State) : (ledgerAssign e s).1 = nextIndex e.func s := by
  unfold ledgerAssign
  dsimp only
  split <;> rfl

section Show

variable {f : Nat}

theorem toRadioState_showLedger : (showLedger f s).toRadioState = s.toRadioState := by
  unfold showLedger
  dsimp only
  split
  · rw [toRadioState_event]; rfl
  · rfl

theorem frame_showLedger (hb : .bus ∈ ps) (ht : .tallies ∈ ps) : Frame ps s (showLedger f t) ↔ Frame ps s t := by
  unfold showLedger
  dsimp only
  split
  · rw [frame_event hb ht, frame_setF, frame_setF]
  · rw [frame_setF, frame_setF, frame_setF]

theorem regsExcept_showLedger (h : noteRegs f ⊆ fs) : RegsExcept fs s (showLedger f t) ↔ RegsExcept fs s t := by
  have hv : vecRegs ⊆ fs := fun g hg => h (List.mem_append_right _ hg)
  have hlow : FLT_STAT_LEDGER_LOW ∈ fs := h (by simp [noteRegs])
  have hresv : FLT_LGf_BACKLOG_RESV f ∈ fs := h (by simp [noteRegs])
  have hheld : FLT_LGf_BACKLOG_HELD f ∈ fs := h (by simp [noteRegs])
  unfold showLedger
  dsimp only
  split
  · rw [regsExcept_event hv hlow, regsExcept_setF _ hresv, regsExcept_setF _ hheld]
  · rw [regsExcept_setF _ hlow, regsExcept_setF _ hresv, regsExcept_setF _ hheld]

theorem liveOf_showLedger {g : Nat} {c : Fld} (hmaster : tallyKey g c ≠ tallyKey 1 DEV_T_NOMASTER_COUNT) :
    liveOf g c (showLedger f s) = liveOf g c s := by
  unfold showLedger
  dsimp only
  split
  · rw [liveOf_event hmaster]; rfl
  · rfl

end Show

section Add

variable (e : LedgerEvent)

/-- An entry changes of the radio state the Ledger alone, and of that its function's backlog. -/
theorem toRadioState_ledgerAdd (s : State) : (ledgerAdd e s).toRadioState = { s.toRadioState with ledger := ledgerWith e s } := by
  rw [ledgerAdd_eq, toRadioState_showLedger, ← toRadioState_failureShown e s]
  rfl

theorem backlog_ledgerAdd (s : State) : backlog e.func (ledgerAdd e s) =
    backlog e.func s ++ [ledgerBytes (injectedIf s.injecting e) (nextIndex e.func s)] := by
  rw [backlog, toRadioState_ledgerAdd, ledgerWith, look_put_same, Option.getD_some]

theorem frame_ledgerAdd (h : [.radio, .bus, .tallies] ⊆ ps) : Frame ps s (ledgerAdd e s) := by
  have hb : .bus ∈ ps := h (by decide)
  have ht : .tallies ∈ ps := h (by decide)
  have hshown : Frame ps s (failureShown e s) := by
    unfold failureShown
    split
    · exact (frame_event hb ht).mpr (frame_refl _ s)
    · exact frame_refl _ s
  rw [ledgerAdd_eq, frame_showLedger hb ht, addF, frame_setF]
  exact (frame_withRadio (r := { (failureShown e s).toRadioState with ledger := ledgerWith e s }) ⟨rfl, rfl, rfl⟩ (h (by decide))).mpr hshown

theorem regsExcept_ledgerAdd (h : noteRegs e.func ⊆ fs) : RegsExcept fs s (ledgerAdd e s) := by
  have hv : vecRegs ⊆ fs := fun g hg => h (List.mem_append_right _ hg)
  have hshown : RegsExcept fs s (failureShown e s) := by
    unfold failureShown
    split
    · exact (regsExcept_event hv (h (by simp [noteRegs])) _ _ _ _).mpr (regsExcept_refl _ s)
    · exact regsExcept_refl _ s
  rw [ledgerAdd_eq, regsExcept_showLedger h, addF, regsExcept_setF _ (h (by simp [noteRegs]))]
  exact hshown

theorem liveOf_ledgerAdd {g : Nat} {c : Fld} (hmaster : tallyKey g c ≠ tallyKey 1 DEV_T_NOMASTER_COUNT) (s : State) :
    liveOf g c (ledgerAdd e s) = liveOf g c s := by
  have hshown : liveOf g c (failureShown e s) = liveOf g c s := by
    unfold failureShown
    split
    · exact liveOf_event hmaster _ _ _ _ _ _
    · rfl
  rw [ledgerAdd_eq, liveOf_showLedger hmaster]
  exact hshown

end Add

end Sys2Proof.Machine

/-! SUPPORT. The Leases that end with a context's last STEP (R326, R330). -/

namespace Sys2Proof.Machine

variable {fs : List Fld} {ps : List Piece} {s t : State}

/-- A core is free of its Lease, whose cycles are counted; and so the cores of several Leases. -/
def freedCore (s : State) (l : Lease) : State := countLease l (showCore l.core 0 0 s)
def freedCores (ls : List Lease) (s : State) : State := ls.foldl freedCore s

/-- The fields that show the work of the cores of several Leases. -/
def coresShown (ls : List Lease) : List Fld := ls.flatMap (fun l => [MXC_Cn_INFO_STATE l.core, MXC_Cn_INFO_CTX l.core])

theorem clearOfReplies_coresShown (ls : List Lease) : ∀ f ∈ coresShown ls, clearOfReplies f := by
  intro f hf
  obtain ⟨l, _, hl⟩ := List.mem_flatMap.mp hf
  exact clearOfReplies_coreShown l.core f hl

theorem getF_countLease (f : Fld) (l : Lease) (s : State) : getF f (countLease l s) = getF f s := by unfold countLease; split <;> rfl

/-- What a freed core changes of the radio's state is what is left below a unit of its counter. -/
theorem toRadioState_freedCore (l : Lease) (s : State) :
    (freedCore s l).toRadioState = { s.toRadioState with tallyRem := (freedCore s l).tallyRem } := countLease_toRadioState l (showCore l.core 0 0 s)

theorem toEngineState_freedCore (l : Lease) (s : State) : (freedCore s l).toEngineState = s.toEngineState :=
  countLease_toEngineState l (showCore l.core 0 0 s)

theorem regsExcept_freedCore {l : Lease} (h : coreShown l.core ⊆ fs) : RegsExcept fs s (freedCore t l) ↔ RegsExcept fs s t := by
  rw [freedCore, regsExcept_countLease, regsExcept_showCore _ _ h]

theorem frame_freedCore {l : Lease} (hr : .radio ∈ ps) (ht : .tallies ∈ ps) : Frame ps s (freedCore t l) ↔ Frame ps s t := by
  rw [freedCore, frame_countLease hr ht, frame_showCore]

/-- Core n shows no work. -/
def showsIdle (n : Nat) (s : State) : Prop := getF (MXC_Cn_INFO_STATE n) s = 0 ∧ getF (MXC_Cn_INFO_CTX n) s = 0

theorem showsIdle_freedCore_same (l : Lease) (s : State) : showsIdle l.core (freedCore s l) := by
  rw [showsIdle, freedCore, getF_countLease, getF_countLease, state_showCore, ctx_showCore]
  exact ⟨rfl, Nat.zero_mod _⟩

/-- Freeing one core leaves a core that shows no work as it is. -/
theorem showsIdle_freedCore {n : Nat} (l : Lease) (h : showsIdle n s) : showsIdle n (freedCore s l) := by
  by_cases hn : n = l.core
  · exact hn ▸ showsIdle_freedCore_same l s
  · have hregs : RegsExcept (coreShown l.core) s (freedCore s l) := (regsExcept_freedCore (List.Subset.refl _)).mpr (regsExcept_refl _ s)
    obtain ⟨hstate, hctx⟩ := h
    refine ⟨(hregs _ ?_).trans hstate, (hregs _ ?_).trans hctx⟩ <;>
      simp only [List.forall_mem_cons, List.not_mem_nil, false_imp_iff, implies_true, and_true, key_MXC_Cn_INFO_STATE, key_MXC_Cn_INFO_CTX] <;> omega

section FreedCores

variable (ls : List Lease) (s : State)

theorem toRadioState_freedCores : (freedCores ls s).toRadioState = { s.toRadioState with tallyRem := (freedCores ls s).tallyRem } := by
  unfold freedCores
  induction ls generalizing s with
  | nil => rfl
  | cons l ls ih =>
    rw [List.foldl_cons, ih, toRadioState_freedCore]

theorem toEngineState_freedCores : (freedCores ls s).toEngineState = s.toEngineState := by
  unfold freedCores
  induction ls generalizing s with
  | nil => rfl
  | cons l ls ih => rw [List.foldl_cons, ih, toEngineState_freedCore]

theorem regsExcept_freedCores : RegsExcept (coresShown ls) s (freedCores ls s) := by
  suffices h : ∀ t, RegsExcept (coresShown ls) s t → RegsExcept (coresShown ls) s (freedCores ls t) from h s (regsExcept_refl _ s)
  have hmem : ∀ l ∈ ls, coreShown l.core ⊆ coresShown ls := fun l hl f hf => List.mem_flatMap.mpr ⟨l, hl, hf⟩
  generalize coresShown ls = fs at hmem
  unfold freedCores
  induction ls with
  | nil => exact fun _ h => h
  | cons l ls ih =>
    intro t h
    rw [List.foldl_cons]
    exact ih (fun k hk => hmem k (List.mem_cons_of_mem _ hk)) _ ((regsExcept_freedCore (hmem l List.mem_cons_self)).mpr h)

theorem frame_freedCores {r : State} (hr : .radio ∈ ps) (ht : .tallies ∈ ps) : Frame ps r (freedCores ls s) ↔ Frame ps r s := by
  unfold freedCores
  induction ls generalizing s with
  | nil => exact Iff.rfl
  | cons l ls ih => rw [List.foldl_cons, ih, frame_freedCore hr ht]

theorem showsIdle_freedCores {l : Lease} (hl : l ∈ ls) : showsIdle l.core (freedCores ls s) := by
  have hkeeps : ∀ (ls : List Lease) (n : Nat) (t : State), showsIdle n t → showsIdle n (freedCores ls t) := by
    intro ls n
    unfold freedCores
    induction ls with
    | nil => exact fun _ h => h
    | cons k ls ih => exact fun t h => ih _ (showsIdle_freedCore k h)
  induction ls generalizing s with
  | nil => cases hl
  | cons k ls ih =>
    obtain rfl | hl := List.mem_cons.mp hl
    · exact hkeeps ls l.core _ (showsIdle_freedCore_same l s)
    · exact ih (freedCore s k) hl

end FreedCores

/-- The Leases of a context, and the state without them. -/
def leasesOf (c : Nat) (s : State) : List Lease := s.leases.filter (fun l => decide (l.ctx = c))
def withoutLeases (c : Nat) (s : State) : State := { s with leases := s.leases.filter (fun l => decide (l.ctx ≠ c)) }

theorem endLeases_of_quiet {c : Nat} (h : s.quiesce = []) : endLeases c s = freedCores (leasesOf c s) (withoutLeases c s) := by
  show quiesceDone (freedCores (leasesOf c s) (withoutLeases c s)) = _
  exact quiesceDone_of_none (by rw [toRadioState_freedCores]; exact h)

end Sys2Proof.Machine

/-! SUPPORT. How a STEP completes (R326, R330, R331, R363 to R368). -/

namespace Sys2Proof.Machine

variable {fs : List Fld} {ps : List Piece} {s t : State}

section Complete

variable {c : Nat} {x : Ctx} {st : Step} {p : Pkt}

/-! ### The failed tiles -/

theorem failedTiles_of_all_complete (h : ∀ e ∈ st.ended, e.status = 0) : failedTiles st = [] := by
  have hnone : st.ended.filter (fun e => decide (e.status ≠ 0)) = [] := List.filter_eq_nil_iff.mpr (by simpa using h)
  rw [failedTiles, hnone, List.foldr_nil]

/-- Past the last stage no tile is left to fail with a cascade. -/
theorem cascadeEnd_of_last (h : curStage st s = st.tab.nStages) : cascadeEnd st s = none := by
  have hpast : stageStart st.image st.tab (curStage st s) s = st.tab.nTiles := by rw [stageStart, h, if_neg (Nat.lt_irrefl _)]
  unfold cascadeEnd
  split
  · rfl
  · simp only [hpast, Nat.sub_self, List.range_zero, List.map_nil, List.isEmpty_nil, if_true]

/-- A STEP with every tile ended, of a context with nothing on a core, completes. -/
theorem exec_stepComplete {r : List Step} (hx : ctxOf c s = some x) (hq : x.queue = st :: r)
    (hidle : st.started = true ∧ st.again = [] ∧ st.shadow = [] ∧ x.saved = []) (heng : ∀ y ∈ s.eng, y.2.ctx ≠ c)
    (hstage : curStage st s = st.tab.nStages) :
    exec (.stepComplete c) s =
      goesOn s (afterStep c (completeStep c x st ((failedTiles st).foldr insertEnd []) (totalItems st.image st.tab s) s)) := by
  obtain ⟨hstarted, hagain, hshadow, hsaved⟩ := hidle
  have hoff : s.eng.any (fun y => decide (y.2.ctx = c)) = false := by simpa using heng
  show execStepComplete c s = _
  simp only [execStepComplete, hx, hq, hstarted, hagain, hshadow, hsaved, hoff, hstage, cascadeEnd_of_last hstage]
  simp

/-! ### What the end of a STEP writes -/

/-- The state with the Ledger entry of a failed tile, its items counted. -/
def itemsNoted (c : Nat) (x : Ctx) (st : Step) (e : TileEnd) (s : State) : State := countItems e.count (ledgerAdd (itemsEntry c x st e s) s)

theorem toRadioState_itemsNoted (e : TileEnd) (s : State) :
    (itemsNoted c x st e s).toRadioState = { s.toRadioState with ledger := ledgerWith (itemsEntry c x st e s) s } := by
  rw [itemsNoted, countItems, tally_toRadioState, toRadioState_ledgerAdd]

theorem backlog_itemsNoted (e : TileEnd) (s : State) : backlog (partFunc x.part s) (itemsNoted c x st e s) = backlog (partFunc x.part s) s ++
    [ledgerBytes (injectedIf s.injecting (itemsEntry c x st e s)) (nextIndex (partFunc x.part s) s)] := by
  have hentry : backlog (partFunc x.part s) (ledgerAdd (itemsEntry c x st e s) s) = _ := backlog_ledgerAdd (itemsEntry c x st e s) s
  rw [itemsNoted, countItems, backlog, tally_toRadioState, ← backlog, hentry]
  rfl

theorem regsExcept_itemsNoted (e : TileEnd) (h : noteRegs (partFunc x.part s) ⊆ fs) : RegsExcept fs s (itemsNoted c x st e s) := by
  rw [itemsNoted, countItems, regsExcept_tally]
  exact regsExcept_ledgerAdd _ h

theorem frame_itemsNoted (e : TileEnd) (h : [.radio, .bus, .tallies] ⊆ ps) : Frame ps s (itemsNoted c x st e s) := by
  rw [itemsNoted, countItems, frame_tally _ _ _ (h (by decide))]
  exact frame_ledgerAdd _ h

theorem liveOf_itemsNoted (e : TileEnd) (s : State) : liveOf 16 FLT_T_ITEMS_COUNT (itemsNoted c x st e s) =
    min (2 ^ FLT_T_ITEMS_COUNT.width - 1) (liveOf 16 FLT_T_ITEMS_COUNT s + e.count) := by
  rw [itemsNoted, countItems, liveOf_tally_same, liveOf_ledgerAdd _ (by decide)]

theorem toEngineState_itemsNoted (e : TileEnd) (s : State) : (itemsNoted c x st e s).toEngineState = s.toEngineState :=
  frame_itemsNoted (s := s) e (List.Subset.refl _) .engine (by decide)

theorem resultRecord_length (c : Nat) (x : Ctx) (st : Step) (failed complete first : Nat) (s : State) :
    (resultRecord c x st failed complete first s).length = 64 := by
  simp [resultRecord, natLE, zeros]

/-- The state with bytes in host memory, and with the result record of a STEP without failed items there. -/
def hostWritten (a : Nat) (l : List Byte) (s : State) : State := { s with hostMem := writeBytes a l s.hostMem }
def stepRecorded (c : Nat) (x : Ctx) (st : Step) (total : Nat) (s : State) : State := hostWritten st.result (resultRecord c x st 0 total 0 s) s

theorem toRadioState_hostWritten (a : Nat) (l : List Byte) (s : State) : (hostWritten a l s).toRadioState = s.toRadioState := rfl
theorem toEngineState_hostWritten (a : Nat) (l : List Byte) (s : State) : (hostWritten a l s).toEngineState = s.toEngineState := rfl
theorem getF_hostWritten (f : Fld) (a : Nat) (l : List Byte) (s : State) : getF f (hostWritten a l s) = getF f s := rfl
theorem ringSize_hostWritten (w a : Nat) (l : List Byte) (s : State) : ringSize w (hostWritten a l s) = ringSize w s := rfl
theorem replyLands_hostWritten (w a : Nat) (l : List Byte) (s : State) : replyLands w (hostWritten a l s) = replyLands w s := rfl
theorem regsExcept_hostWritten (a : Nat) (l : List Byte) : RegsExcept fs s (hostWritten a l t) ↔ RegsExcept fs s t := Iff.rfl
theorem frame_hostWritten (a : Nat) (l : List Byte) (hp : .hostMem ∈ ps) : Frame ps s (hostWritten a l t) ↔ Frame ps s t := frame_withHostMem _ hp

theorem readBytes_hostWritten {a n : Nat} {l : List Byte} (h : l.length = n) (s : State) : readBytes (hostWritten a l s).hostMem a n = l :=
  readBytes_writeBytes_of_length h

section Reply

variable (hp : st.id = p.id ∧ s.accepted.find? (fun q => decide (q.id = p.id)) = some p)
include hp

/-- Without failed items and without REC the final reply is all. -/
theorem completeStep_clean (total : Nat) (hrec : bitAt 2 st.flags = false) : completeStep c x st [] total s = finish p stOK 0 s := by
  obtain ⟨hid, hfind⟩ := hp
  simp only [completeStep, List.map_nil, List.sum_nil, assignItems, if_true, hrec, Bool.false_eq_true, if_false, hid]
  exact finishId_of_accepted hfind

/-- With REC the result record comes before the reply. -/
theorem completeStep_recorded (total : Nat) (hrec : bitAt 2 st.flags = true) (hlands : replyLands p.window s = true) :
    completeStep c x st [] total s = finish p stOK 0 (stepRecorded c x st total s) := by
  obtain ⟨hid, hfind⟩ := hp
  obtain ⟨hm, hlog, _⟩ := (replyLands_iff _ _).mp hlands
  have hwrite : hostWrite (p.window / 4) st.result (resultRecord c x st 0 total 0 s) s = stepRecorded c x st total s := hostWrite_of_lands hm hlog _ _
  have hwindow : (s.accepted.find? (fun q => decide (q.id = p.id))).map (fun p => p.window) = some p.window := by rw [hfind]; rfl
  simp only [completeStep, List.map_nil, List.sum_nil, assignItems, if_true, hrec, hid, hwindow, Option.getD_some, Option.getD_none,
    Nat.sub_zero, hwrite]
  exact finishId_of_accepted (by rw [stepRecorded, toRadioState_hostWritten, hfind])

/-- A failed tile gives the STEP its status, and the DETAIL its items and the index of its entry. -/
theorem completeStep_failed {e : TileEnd} (total : Nat) (hrec : bitAt 2 st.flags = false) (hcount : 0 < e.count) (hstatus : e.status ≠ stFENCED) :
    completeStep c x st [e] total s =
      finish p e.status (e.count + nextIndex (partFunc x.part s) s % 2 ^ 32 * 2 ^ 32) (itemsNoted c x st e s) := by
  obtain ⟨hid, hfind⟩ := hp
  have hassign : assignItems c x st [e] s = (some (nextIndex (partFunc x.part s) s), ledgerAdd (itemsEntry c x st e s) s) := by
    have hindex : (ledgerAssign (itemsEntry c x st e s) s).1 = nextIndex (partFunc x.part s) s := index_ledgerAssign _ s
    rw [← hindex]; rfl
  have hsum : ([e].map fun e => e.count).sum = e.count := by simp
  have hdetail : stepDetail e.status x.part e.count (nextIndex (partFunc x.part s) s) =
      e.count + nextIndex (partFunc x.part s) s % 2 ^ 32 * 2 ^ 32 := by
    rw [stepDetail, if_neg hstatus, if_neg (by omega), itemsDetail]
  have haccepted : (itemsNoted c x st e s).accepted = s.accepted := by rw [toRadioState_itemsNoted]
  have hreply := finishId_of_accepted (s := itemsNoted c x st e s) (st := e.status)
    (d := e.count + nextIndex (partFunc x.part s) s % 2 ^ 32 * 2 ^ 32) (haccepted ▸ hfind)
  simp only [completeStep, hassign, hsum, hrec, hid, Option.getD_some, Bool.false_eq_true, if_false]
  rw [if_neg (by omega), ← hreply, ← hdetail]
  rfl

end Reply

/-! ### The context goes on -/

/-- A context whose last STEP has ended, and one that goes on to its next STEP. -/
def idleCtx (x : Ctx) : Ctx := { x with queue := [], st := 1, sub := 0, resident := false, saved := [], suspend := [], yielding := false }
def nextCtx (x : Ctx) (r : List Step) : Ctx := { x with queue := r }

theorem afterStep_next {st' : Step} {r : List Step} (hx : ctxOf c s = some x) (hq : x.queue = st :: st' :: r) :
    afterStep c s = putCtx c (some (nextCtx x (st' :: r))) s := by
  simp only [afterStep, hx, hq, List.drop_succ_cons, List.drop_zero, List.isEmpty_cons, Bool.false_eq_true, if_false]
  exact modCtx_of_ctx _ hx

theorem afterStep_last (hx : ctxOf c s = some x) (hq : x.queue = [st]) (hsusp : x.suspend = []) :
    afterStep c s = endLeases c (putCtx c (some (idleCtx x)) s) := by
  have hmod : modCtx c idleCtx s = putCtx c (some (idleCtx x)) s := modCtx_of_ctx _ hx
  rw [← hmod]
  simp only [afterStep, hx, hq, hsusp, List.drop_succ_cons, List.drop_zero, List.isEmpty_nil, if_true, List.foldl_nil]
  rfl

end Complete

end Sys2Proof.Machine

/-! SUPPORT. The completions of STEPs, one rule for each (R326, R330, R363, R368). -/

namespace Sys2Proof.Machine

variable {s : State}

theorem regsExcept_trans {fs : List Fld} {t u : State} (h : RegsExcept fs s t) (h' : RegsExcept fs t u) : RegsExcept fs s u :=
  fun f hf => (h' f hf).trans (h f hf)

theorem hostMem_putCtx (c : Nat) (x : Ctx) (s : State) : (putCtx c (some x) s).hostMem = s.hostMem :=
  (frame_putCtx (ps := [.engine]) c x (by decide)).mpr (frame_refl _ s) .hostMem (by decide)

theorem backlog_putCtx (f c : Nat) (x : Ctx) (s : State) : backlog f (putCtx c (some x) s) = backlog f s := by
  rw [backlog, putCtx_toRadioState, backlog]

theorem backlog_finish (f : Nat) (p : Pkt) (st d : Nat) (s : State) : backlog f (finish p st d s) = backlog f s := by
  rw [backlog, finish_toRadioState, backlog]

section Complete

variable {c : Nat} {x : Ctx} {st : Step} {p : Pkt}

/-- The context's last STEP completes: the packet has ended, the context is IDLE, and its Leases have ended. -/
theorem stepComplete_completes_last (hx : ctxOf c s = some x) (hq : x.queue = [st])
    (hidle : st.started = true ∧ st.again = [] ∧ st.shadow = [] ∧ x.saved = []) (heng : ∀ y ∈ s.eng, y.2.ctx ≠ c)
    (hstage : curStage st s = st.tab.nStages) (hall : ∀ e ∈ st.ended, e.status = 0) (hrec : bitAt 2 st.flags = false)
    (hp : st.id = p.id ∧ s.accepted.find? (fun q => decide (q.id = p.id)) = some p) (hsusp : x.suspend = []) (hquiet : s.quiesce = []) :
    Completes (.stepComplete c) s (fun t =>
      Ended p stOK 0 t ∧ ctxOf c t = some { x with queue := [], st := 1, sub := 0, resident := false, yielding := false } ∧
      t.leases = s.leases.filter (fun l => decide (l.ctx ≠ c)) ∧
      (∀ l ∈ s.leases, l.ctx = c → getF (MXC_Cn_INFO_STATE l.core) t = 0 ∧ getF (MXC_Cn_INFO_CTX l.core) t = 0) ∧
      t.ledger = s.ledger ∧
      RegsExcept ((s.leases.filter (fun l => decide (l.ctx = c))).flatMap (fun l => [MXC_Cn_INFO_STATE l.core, MXC_Cn_INFO_CTX l.core]) ++
        ctxShown x.part ++ replyRegs p.window) s t ∧
      Frame ([Piece.engine, Piece.radio] ++ replyPieces) s t) := by
  obtain ⟨u, hu⟩ : ∃ u, u = finish p stOK 0 s := ⟨_, rfl⟩
  obtain ⟨v, hv⟩ : ∃ v, v = withoutLeases c (putCtx c (some (idleCtx x)) u) := ⟨_, rfl⟩
  have hradio : u.toRadioState = { s.toRadioState with accepted := u.accepted, timed := u.timed, begun := u.begun } :=
    hu ▸ finish_toRadioState p stOK 0 s
  have hleases : u.leases = s.leases := by rw [hradio]
  have hctx : ctxOf c u = some x := by rw [ctxOf, hu, finish_toEngineState]; exact hx
  have hends : completeStep c x st ((failedTiles st).foldr insertEnd []) (totalItems st.image st.tab s) s = u := by
    rw [failedTiles_of_all_complete hall, List.foldr_nil, completeStep_clean hp _ hrec, hu]
  have hgoes : afterStep c u = freedCores (leasesOf c s) v := by
    have hmine : leasesOf c (putCtx c (some (idleCtx x)) u) = leasesOf c s := by rw [leasesOf, putCtx_toRadioState, hleases]; rfl
    rw [afterStep_last hctx hq hsusp, endLeases_of_quiet (by rw [putCtx_toRadioState, hradio, hquiet]), hmine, hv]
  have hput : RegsExcept (coresShown (leasesOf c s) ++ ctxShown x.part) u v := by
    subst hv
    exact (regsExcept_putCtx c (idleCtx x) (List.subset_append_right _ _)).mpr (regsExcept_refl _ u)
  have hregs : RegsExcept (coresShown (leasesOf c s) ++ ctxShown x.part) u (freedCores (leasesOf c s) v) :=
    regsExcept_trans hput (regsExcept_mono (List.subset_append_left _ _) (regsExcept_freedCores _ v))
  have hframe : ∀ r (ps : List Piece), [.engine, .radio, .tallies] ⊆ ps → Frame ps r u → Frame ps r (freedCores (leasesOf c s) v) := by
    intro r ps h hru
    rw [frame_freedCores _ _ (h (by decide)) (h (by decide)), hv, withoutLeases, frame_withLeases _ (h (by decide)), frame_putCtx _ _ (h (by decide))]
    exact hru
  have hclear : ∀ f ∈ coresShown (leasesOf c s) ++ ctxShown x.part, clearOfReplies f :=
    List.forall_mem_append.mpr ⟨clearOfReplies_coresShown _, clearOfReplies_ctxShown _⟩
  refine completes_of_goesOn (u := freedCores (leasesOf c s) v) ?_ (fun _ _ h => h) ⟨?_, ?_, ?_, ?_, ?_, ?_, ?_⟩
  · rw [exec_stepComplete hx hq hidle heng hstage, hends, hgoes]
  · exact Ended.of_clear (hframe u _ (List.Subset.refl _) (frame_refl _ u)) hregs hclear (hu ▸ ended_finish p stOK 0 s)
  · obtain ⟨_, _, _, hsaved⟩ := hidle
    rw [ctxOf, toEngineState_freedCores, hv]
    show ctxOf c (putCtx c (some (idleCtx x)) u) = _
    rw [ctxOf_putCtx_same, idleCtx, ← hsaved, ← hsusp]
  · rw [toRadioState_freedCores, hv]
    show u.leases.filter _ = _
    rw [hleases]
  · intro l hl hlc
    exact showsIdle_freedCores _ v (List.mem_filter.mpr ⟨hl, decide_eq_true hlc⟩)
  · rw [toRadioState_freedCores, hv]
    show u.ledger = _
    rw [hradio]
  · refine regsExcept_trans ?_ (regsExcept_mono (List.subset_append_left _ _) hregs)
    exact hu ▸ (regsExcept_finish (List.subset_append_right _ _) stOK 0).mpr (regsExcept_refl _ s)
  · refine hframe s _ (by decide) ?_
    exact hu ▸ (frame_finish (by decide)).mpr (frame_refl _ s)

section Next

variable {st' : Step} {r : List Step} (hx : ctxOf c s = some x) (hq : x.queue = st :: st' :: r)
  (hidle : st.started = true ∧ st.again = [] ∧ st.shadow = [] ∧ x.saved = []) (heng : ∀ y ∈ s.eng, y.2.ctx ≠ c)
  (hstage : curStage st s = st.tab.nStages) (hp : st.id = p.id ∧ s.accepted.find? (fun q => decide (q.id = p.id)) = some p)
include hx hq hidle heng hstage

/-- Where a STEP's end comes down to the end of its packet, with the context as it was, the context goes on to its next STEP. -/
theorem exec_stepComplete_next {v : State} {status d : Nat}
    (hends : completeStep c x st ((failedTiles st).foldr insertEnd []) (totalItems st.image st.tab s) s = finish p status d v)
    (heng' : v.toEngineState = s.toEngineState) :
    exec (.stepComplete c) s = goesOn s (putCtx c (some (nextCtx x (st' :: r))) (finish p status d v)) := by
  have hctx : ctxOf c (finish p status d v) = some x := by rw [ctxOf, finish_toEngineState, heng']; exact hx
  rw [exec_stepComplete hx hq hidle heng hstage, hends, afterStep_next hctx hq]

include hp

/-- A STEP completes without failed items and with REC: its record is in host memory, the packet has ended, and the next STEP is at the head. -/
theorem stepComplete_completes_next (hall : ∀ e ∈ st.ended, e.status = 0) (hrec : bitAt 2 st.flags = true) (hlands : replyLands p.window s = true)
    (hout : st.result + 64 ≤ getF (CMD_PWw_RR_BASE_ADDR p.window) s * 4096 ∨
      getF (CMD_PWw_RR_BASE_ADDR p.window) s * 4096 + ringSize p.window s * 32 ≤ st.result) :
    Completes (.stepComplete c) s (fun t =>
      readBytes t.hostMem st.result 64 = resultRecord c x st 0 (totalItems st.image st.tab s) 0 s ∧ Ended p stOK 0 t ∧
      ctxOf c t = some { x with queue := st' :: r } ∧ t.leases = s.leases ∧ t.ledger = s.ledger ∧
      RegsExcept (ctxShown x.part ++ replyRegs p.window) s t ∧ Frame (.engine :: replyPieces) s t) := by
  obtain ⟨v, hv⟩ : ∃ v, v = stepRecorded c x st (totalItems st.image st.tab s) s := ⟨_, rfl⟩
  obtain ⟨u, hu⟩ : ∃ u, u = finish p stOK 0 v := ⟨_, rfl⟩
  have hends : completeStep c x st ((failedTiles st).foldr insertEnd []) (totalItems st.image st.tab s) s = finish p stOK 0 v := by
    rw [failedTiles_of_all_complete hall, List.foldr_nil, completeStep_recorded hp _ hrec hlands, hv]
  have hradio : u.toRadioState = { s.toRadioState with accepted := u.accepted, timed := u.timed, begun := u.begun } := by
    rw [hu, finish_toRadioState, hv, stepRecorded, toRadioState_hostWritten]
  have hshown : ctxShown (nextCtx x (st' :: r)).part ⊆ ctxShown x.part := List.Subset.refl _
  refine completes_of_goesOn (u := putCtx c (some (nextCtx x (st' :: r))) u) ?_ (fun _ _ h => h) ⟨?_, ?_, ctxOf_putCtx_same _ _, ?_, ?_, ?_, ?_⟩
  · rw [exec_stepComplete_next hx hq hidle heng hstage hends (by rw [hv, stepRecorded, toEngineState_hostWritten]), hu]
  · have hbeside : readBytes (finish p stOK 0 v).hostMem st.result 64 = readBytes v.hostMem st.result 64 := by
      rw [hv, stepRecorded]
      exact readBytes_finish_out (by rw [replyLands_hostWritten, hlands]) (by rwa [getF_hostWritten, ringSize_hostWritten])
    rw [hostMem_putCtx, hu, hbeside, hv, stepRecorded, readBytes_hostWritten (resultRecord_length ..)]
  · exact Ended.of_clear ((frame_putCtx _ _ (by decide)).mpr (frame_refl _ u)) ((regsExcept_putCtx _ _ hshown).mpr (regsExcept_refl _ u))
      (clearOfReplies_ctxShown _) (hu ▸ ended_finish p stOK 0 v)
  · rw [putCtx_toRadioState, hradio]
  · rw [putCtx_toRadioState, hradio]
  · rw [regsExcept_putCtx _ _ (List.Subset.trans hshown (List.subset_append_left _ _)), hu, regsExcept_finish (List.subset_append_right _ _), hv,
      stepRecorded, regsExcept_hostWritten]
    exact regsExcept_refl _ s
  · rw [frame_putCtx _ _ (by decide), hu, frame_finish (by decide), hv, stepRecorded, frame_hostWritten _ _ (by decide)]
    exact frame_refl _ s

/-- A STEP completes with one failed tile: the tile's items are counted and entered in the Ledger, and the reply says its status and its entry. -/
theorem stepComplete_completes_failed {e : TileEnd} (hfail : failedTiles st = [e]) (hcount : 0 < e.count) (hrec : bitAt 2 st.flags = false)
    (hstatus : e.status ≠ stFENCED) :
    Completes (.stepComplete c) s (fun t =>
      Ended p e.status (e.count + nextIndex (partFunc x.part s) s % 2 ^ 32 * 2 ^ 32) t ∧ ctxOf c t = some { x with queue := st' :: r } ∧
      backlog (partFunc x.part s) t = backlog (partFunc x.part s) s ++
        [ledgerBytes (injectedIf s.injecting (itemsEntry c x st e s)) (nextIndex (partFunc x.part s) s)] ∧
      liveOf 16 FLT_T_ITEMS_COUNT t = min (2 ^ FLT_T_ITEMS_COUNT.width - 1) (liveOf 16 FLT_T_ITEMS_COUNT s + e.count) ∧ t.leases = s.leases ∧
      RegsExcept (noteRegs (partFunc x.part s) ++ ctxShown x.part ++ replyRegs p.window) s t ∧
      Frame ([Piece.engine, Piece.radio] ++ replyPieces) s t) := by
  obtain ⟨d, hd⟩ : ∃ d, d = e.count + nextIndex (partFunc x.part s) s % 2 ^ 32 * 2 ^ 32 := ⟨_, rfl⟩
  obtain ⟨v, hv⟩ : ∃ v, v = itemsNoted c x st e s := ⟨_, rfl⟩
  obtain ⟨u, hu⟩ : ∃ u, u = finish p e.status d v := ⟨_, rfl⟩
  rw [← hd]
  have hends : completeStep c x st ((failedTiles st).foldr insertEnd []) (totalItems st.image st.tab s) s = finish p e.status d v := by
    rw [hfail, hd, hv, ← completeStep_failed hp _ hrec hcount hstatus]; rfl
  have hradio : u.toRadioState = { v.toRadioState with accepted := u.accepted, timed := u.timed, begun := u.begun } :=
    hu ▸ finish_toRadioState p e.status d v
  have hshown : ctxShown (nextCtx x (st' :: r)).part ⊆ ctxShown x.part := List.Subset.refl _
  have hpages : ∀ n, tallyKey 16 FLT_T_ITEMS_COUNT ≠ tallyKey 15 (SCHED_DLOGv_T_PAGES_COUNT n) := fun n => by
    simp only [tallyKey, Fld.key, FLT_T_ITEMS_COUNT, FLT_T_ITEMS, SCHED_DLOGv_T_PAGES_COUNT, SCHED_DLOGv_T_PAGES]; omega
  refine completes_of_goesOn (u := putCtx c (some (nextCtx x (st' :: r))) u) ?_ (fun _ _ h => h) ⟨?_, ctxOf_putCtx_same _ _, ?_, ?_, ?_, ?_, ?_⟩
  · rw [exec_stepComplete_next hx hq hidle heng hstage hends (by rw [hv, toEngineState_itemsNoted]), hu]
  · exact Ended.of_clear ((frame_putCtx _ _ (by decide)).mpr (frame_refl _ u)) ((regsExcept_putCtx _ _ hshown).mpr (regsExcept_refl _ u))
      (clearOfReplies_ctxShown _) (hu ▸ ended_finish p e.status d v)
  · rw [backlog_putCtx, hu, backlog_finish, hv, backlog_itemsNoted]
  · rw [liveOf, live_putCtx]
    show liveOf 16 FLT_T_ITEMS_COUNT u = _
    rw [hu, liveOf_finish (by decide) hpages, hv, liveOf_itemsNoted]
  · rw [putCtx_toRadioState, hradio, hv, toRadioState_itemsNoted]
  · have hleft : ctxShown x.part ⊆ noteRegs (partFunc x.part s) ++ ctxShown x.part ++ replyRegs p.window :=
      List.Subset.trans (List.subset_append_right _ _) (List.subset_append_left _ _)
    rw [regsExcept_putCtx _ _ (List.Subset.trans hshown hleft), hu, regsExcept_finish (List.subset_append_right _ _), hv]
    exact regsExcept_itemsNoted e (List.Subset.trans (List.subset_append_left _ _) (List.subset_append_left _ _))
  · rw [frame_putCtx _ _ (by decide), hu, frame_finish (by decide), hv]
    exact frame_itemsNoted e (by decide)

end Next

end Complete

end Sys2Proof.Machine

namespace Sys2Proof
open Machine

/-- Settles O51: a STEP starts with its context counted and its ARGS written, and completes by whether it is its context's last and whether
a tile of it has failed. -/
theorem steps : Obligations.Steps :=
  ⟨fun _ _ _ _ _ hx hq hrun hargs => stepStart_completes_without_args hx hq hrun hargs,
   fun _ _ _ _ _ hx hq hrun hargs hline ⟨hmig, _, htier⟩ ⟨hpois, hmark⟩ =>
     stepStart_completes_with_args hx hq hrun hargs hline hmig htier hpois hmark,
   fun _ _ hx => stepStart_of_no_context hx,
   fun _ _ _ _ _ hx hq hidle heng hstage hall hrec hp ⟨hsusp, hquiet⟩ =>
     stepComplete_completes_last hx hq hidle heng hstage hall hrec hp hsusp hquiet,
   fun _ _ _ _ _ _ _ hx hq hidle heng hstage hall hrec hp hlands hout =>
     stepComplete_completes_next hx hq hidle heng hstage hp hall hrec hlands hout,
   fun _ _ _ _ _ _ _ _ hx hq hidle heng hstage ⟨hfail, hcount⟩ _ _ hrec hp ⟨_, hstatus⟩ =>
     stepComplete_completes_failed hx hq hidle heng hstage hp hfail hcount hrec hstatus⟩

end Sys2Proof

/-! SUPPORT. A write of a fronthaul port's mode clears every register of the queue settings' range, a field of it that no queue has with them
(R109). -/

namespace Sys2Proof.Machine

theorem lookup_filter_of_not {β : Type} {k : Nat} {f : Nat × β → Bool} (h : ∀ x, f (k, x) = false) (m : List (Nat × β)) :
    lookup k (m.filter f) = none := by
  induction m with
  | nil => rfl
  | cons y r ih =>
    obtain ⟨j, x⟩ := y
    by_cases hf : f (j, x) = true
    · have hj : j ≠ k := fun e => by simp [e, h x] at hf
      rw [List.filter_cons_of_pos hf, lookup_cons, if_neg hj, ih]
    · rw [List.filter_cons_of_neg hf, ih]

/-- Every field of a range that is cleared reads as its reset value. -/
theorem getF_clearRegs {a b : Nat} {f : Fld} (h : a ≤ f.key / 64 ∧ f.key / 64 < b) (s : State) : getF f (clearRegs a b s) = f.reset := by
  have hnone : lookup f.key (clearRegs a b s).regs = none := lookup_filter_of_not (by simp [h]) s.regs
  rw [getF, look, hnone]; rfl

theorem getF_queuesClear (f : Fld) (p : Nat) (s : State) : getF f (queuesClear p s) = getF f s := rfl

theorem exec_portModeWrite {s : State} {p : Fin 4} {w : BitVec 32} (hup : hostUp 0 s = true)
    (hfree : s.cells.any (fun c => decide (cfgLport c.2.cfg / 8 = p.val)) = false) :
    exec (.portModeWrite p w) s = goesOn s (portRetrain p (setF (FH_PORT_CFG_MODE p) (w.toNat % 4)
      (queuesClear p (clearRegs (FH_Qq_CFG p 0) (FH_Qq_CFG p 128) ((flowsValid p s).foldl (fun s f => flowRemove p f s) s))))) := by
  show execPortModeWrite p w s = _
  simp [execPortModeWrite, hup, hfree]

/-- A bit of FH_Qq_CFG of engine 0's queue 0 in which no field lies. -/
def strayBit : Fld := ⟨FH_Qq_CFG 0 0, 3, 1, .rw, 0, false⟩

/-- The device is up, and the bit outside the fields is set. -/
def straySet : State := setF strayBit 1 (setF DEV_STAT_READY 1 State.reset)

theorem key_mod_of_mem_portRegs {p : Nat} {g : Fld} (hg : g ∈ portRegs p) : g.key % 64 ≠ 3 := by
  simp only [portRegs, flowFields, List.mem_append, List.mem_flatMap, List.mem_cons, List.not_mem_nil, or_false] at hg
  obtain ((rfl | rfl) | ⟨q, _, rfl | rfl | rfl | rfl⟩) |
    ⟨f, _, rfl | rfl | rfl | rfl | rfl | rfl | rfl | rfl | rfl | rfl | rfl | rfl | rfl | rfl⟩ := hg <;>
  exact fun h => absurd ((Nat.mul_add_mod' _ 64 _).symm.trans h) (Nat.ne_of_beq_eq_false rfl)

theorem strayBit_not_mem_portRegs : ∀ g ∈ portRegs 0, strayBit.key ≠ g.key := fun _ hg he => key_mod_of_mem_portRegs hg (he ▸ rfl)

theorem strayBit_in_range : FH_Qq_CFG (0 : Fin 4) 0 ≤ strayBit.key / 64 ∧ strayBit.key / 64 < FH_Qq_CFG (0 : Fin 4) 128 := by decide +kernel

end Sys2Proof.Machine

namespace Sys2Proof
open Machine

/-- Refutes O42: a state whose FH_Qq_CFG holds a bit that lies in none of its fields; a mode write clears that bit with the settings, and the
statement would have it kept. -/
theorem not_portModeWrites : ¬ Obligations.PortModeWrites := by
  rintro ⟨hwrite, _⟩
  have hup : hostUp 0 straySet = true := by decide +kernel
  obtain ⟨t, ht, _, _, _, _, _, hregs, _⟩ := hwrite straySet 0 0 hup rfl
  have hkept : getF strayBit t = getF strayBit straySet := hregs strayBit strayBit_not_mem_portRegs
  have hcleared : getF strayBit t = 0 := by
    rw [getF_goesOn ((exec_portModeWrite hup rfl).symm.trans ht), portRetrain, getF_setF_ne _ _ (by decide), getF_setF_ne _ _ (by decide),
      getF_queuesClear]
    exact getF_clearRegs strayBit_in_range _
  have hset : getF strayBit straySet = 1 := getF_setF_same _ _ _
  omega

end Sys2Proof

/-! SUPPORT. The count of spare lanes after a failed lane of a fronthaul port, from a count that FLT_SPARE.FH cannot hold (R371). -/

namespace Sys2Proof.Machine

/-- FLT_SPARE.FH, a field of 3 bits, holds 9. -/
def sparesPastWidth : State := { State.reset with regs := [(FLT_SPARE_FH.key, 9)] }

theorem exec_fhLaneSpare {s : State} {p : Fin 4} {lane : Nat} (h : injected 7 p lane s = false) :
    exec (.fhLaneSpare p lane) s = goesOn s (laneSpareIn p lane s) := by
  show execFhLaneSpare p lane s = _
  simp [execFhLaneSpare, withInject, h]

theorem spares_after_sparesPastWidth : getF FLT_SPARE_FH (laneSpareIn 0 0 sparesPastWidth) = 0 := by decide +kernel

end Sys2Proof.Machine

namespace Sys2Proof
open Machine

/-- Refutes O43: a state whose FLT_SPARE.FH holds 9; a failed lane writes 8 to the field, whose 3 bits read as 0. -/
theorem not_fronthaulPorts : ¬ Obligations.FronthaulPorts := by
  rintro ⟨_, _, _, _, _, _, _, _, _, _, _, hspare, _⟩
  obtain ⟨t, ht, _, _, _, hleft, _⟩ := hspare sparesPastWidth 0 0 (by decide +kernel)
  rw [getF_goesOn ((exec_fhLaneSpare (p := 0) rfl).symm.trans ht)] at hleft
  exact absurd (spares_after_sparesPastWidth.symm.trans hleft) (by decide)

end Sys2Proof

/-! SUPPORT. The state of the Fronthaul Engines, the counters of a sub-port, and messages that the policer passes (R119, R126, R134). -/

namespace Sys2Proof.Machine

variable {fs : List Fld} {ps : List Piece} {s t : State}

/-! ### The Fronthaul Engines' piece of the state -/

theorem frame_withFront (x : FrontState) (hp : .front ∈ ps) : Frame ps s { t with toFrontState := x } ↔ Frame ps s t :=
  frame_congr .front (fun g hg => by cases g with | front => exact absurd rfl hg | _ => exact Iff.rfl) hp

/-! ### Counters of a sub-port -/

section CountSub

variable {f : Nat → Nat → Fld} {lport : Nat}

theorem frame_countSub (hp : .tallies ∈ ps) : Frame ps s (countSub f lport t) ↔ Frame ps s t := frame_tally _ _ _ hp

theorem counted_countSub (f : Nat → Nat → Fld) (lport : Nat) (s : State) :
    counted (8 + lport / 8) (f (lport / 8) (lport % 8)) s (countSub f lport s) := liveOf_tally_same _ _ _ _

end CountSub

/-! ### The decisions of R119 -/

theorem police_of_no_peak {p f : Nat} (len : Nat) (h : getF (FH_Ff_RATE_PIR p f) s = 0) : police p f len s = (.green, s) := by
  simp [police, h]

/-- An on-time message of a flow that is not policed is written, and counted as on time. -/
theorem admitRx_of_ontime {lport f : Nat} (len : Nat) (h : getF (FH_Ff_RATE_PIR (lport / 8) f) s = 0) :
    admitRx lport f len .ontime s = (true, countSub FH_Ss_RX_ONTIME_COUNT lport s) := by
  simp [admitRx, police_of_no_peak len h]

end Sys2Proof.Machine

/-! SUPPORT. Direct IQ streams: where their registers lie, the steps of their alignment, and the bounds of the AGC's moves (R129 to R133). -/

namespace Sys2Proof.Machine

variable {fs : List Fld} {ps : List Piece} {s t : State} {p a : Nat}

/-! ### Where the fields of a stream lie -/

section Keys

variable (p a : Nat)

@[simp] theorem key_FH_DIQa_CFG_FS : (FH_DIQa_CFG_FS p a).key = p * 0x1000000 + a * 0x800 + 0x10100001 := by
  simp only [Fld.key, FH_DIQa_CFG_FS, FH_DIQa_CFG]; omega
@[simp] theorem key_FH_DIQa_STAT_ALIGN : (FH_DIQa_STAT_ALIGN p a).key = p * 0x1000000 + a * 0x800 + 0x10100400 := by
  simp only [Fld.key, FH_DIQa_STAT_ALIGN, FH_DIQa_STAT]; omega
@[simp] theorem key_FH_DIQa_STAT_FROZEN : (FH_DIQa_STAT_FROZEN p a).key = p * 0x1000000 + a * 0x800 + 0x10100402 := by
  simp only [Fld.key, FH_DIQa_STAT_FROZEN, FH_DIQa_STAT]; omega
@[simp] theorem key_FH_DIQa_STAT_GAIN : (FH_DIQa_STAT_GAIN p a).key = p * 0x1000000 + a * 0x800 + 0x10100410 := by
  simp only [Fld.key, FH_DIQa_STAT_GAIN, FH_DIQa_STAT]; omega
@[simp] theorem key_FH_DIQa_RSSI_FAW : (FH_DIQa_RSSI_FAW p a).key = p * 0x1000000 + a * 0x800 + 0x10100600 := by
  simp only [Fld.key, FH_DIQa_RSSI_FAW, FH_DIQa_RSSI]; omega
@[simp] theorem key_FH_DIQa_RSSI_FAW_SEQ : (FH_DIQa_RSSI_FAW_SEQ p a).key = p * 0x1000000 + a * 0x800 + 0x10100610 := by
  simp only [Fld.key, FH_DIQa_RSSI_FAW_SEQ, FH_DIQa_RSSI]; omega

end Keys

/-! ### What a stream holds -/

@[simp] theorem diqOf_setDiq_same (p a : Nat) (d : Diq) (s : State) : diqOf p a (setDiq p a d s) = d := by simp [diqOf, setDiq]

@[simp] theorem diqOf_setF (p a : Nat) (f : Fld) (v : Nat) (s : State) : diqOf p a (setF f v s) = diqOf p a s := rfl

@[simp] theorem diqOf_countSub (p a : Nat) (f : Nat → Nat → Fld) (lport : Nat) (s : State) : diqOf p a (countSub f lport s) = diqOf p a s := rfl

@[simp] theorem getF_setDiq (f : Fld) (p a : Nat) (d : Diq) (s : State) : getF f (setDiq p a d s) = getF f s := rfl

@[simp] theorem regsExcept_setDiq (d : Diq) : RegsExcept fs s (setDiq p a d t) ↔ RegsExcept fs s t := Iff.rfl

theorem frame_setDiq (d : Diq) (hp : .front ∈ ps) : Frame ps s (setDiq p a d t) ↔ Frame ps s t := frame_withFront _ hp

/-! ### A Frame Word in HUNT (R129, R132) -/

/-- The stream after a Frame Word that matches in HUNT: in PRE-SYNC, at the start of a frame. -/
def preSync (p a : Nat) (s : State) : State := setAlign p a 1 (setDiq p a { diqOf p a s with cnt := 0, confirm := 0, miss := 0 } s)

theorem alignStep_of_hunt {wp : Nat} {t16 : Int} (h : getF (FH_DIQa_STAT_ALIGN p a) s = 0) : alignStep p a wp t16 true s = preSync p a s := by
  simp [alignStep, preSync, h]

/-- In SYNC, a word inside a frame that does not match changes nothing. -/
theorem alignStep_of_sync {wp : Nat} {t16 : Int} (h : getF (FH_DIQa_STAT_ALIGN p a) s = 2) (hcnt : (diqOf p a s).cnt ≠ 0) :
    alignStep p a wp t16 false s = s := by
  simp [alignStep, h, hcnt]

theorem advanceCount_within {n : Nat} (h : (diqOf p a s).cnt + n < frameSamples p a s) :
    advanceCount p a n s = setDiq p a { diqOf p a s with cnt := (diqOf p a s).cnt + n } s := by
  simp [advanceCount, h]

@[simp] theorem getF_measure (f : Fld) (p a : Nat) (xs : List (Int × Int)) (s : State) : getF f (measure p a xs s) = getF f s := rfl

theorem diqOf_measure (p a : Nat) (xs : List (Int × Int)) (s : State) : diqOf p a (measure p a xs s) =
    { diqOf p a s with last256 := ((xs.map powerOf).reverse ++ (diqOf p a s).last256).take 256 } := diqOf_setDiq_same _ _ _ _

@[simp] theorem align_latchFaw (p a : Nat) (s : State) : getF (FH_DIQa_STAT_ALIGN p a) (latchFaw p a s) = getF (FH_DIQa_STAT_ALIGN p a) s := by
  rw [latchFaw, addF, getF_setF_ne _ _ (by simp), getF_setF_ne _ _ (by simp)]

@[simp] theorem diqOf_latchFaw (p a : Nat) (s : State) : diqOf p a (latchFaw p a s) = diqOf p a s := rfl

@[simp] theorem align_preSync (p a : Nat) (s : State) : getF (FH_DIQa_STAT_ALIGN p a) (preSync p a s) = 1 := getF_setF_same _ _ _

@[simp] theorem diqOf_preSync (p a : Nat) (s : State) : diqOf p a (preSync p a s) = { diqOf p a s with cnt := 0, confirm := 0, miss := 0 } := by
  simp [preSync, setAlign]

@[simp] theorem fs_latchFaw (p a : Nat) (s : State) : getF (FH_DIQa_CFG_FS p a) (latchFaw p a s) = getF (FH_DIQa_CFG_FS p a) s := by
  rw [latchFaw, addF, getF_setF_ne _ _ (by simp), getF_setF_ne _ _ (by simp)]

@[simp] theorem fs_preSync (p a : Nat) (s : State) : getF (FH_DIQa_CFG_FS p a) (preSync p a s) = getF (FH_DIQa_CFG_FS p a) s :=
  getF_setF_ne _ _ (by simp)

theorem rssiFaw_latchFaw (p a : Nat) (s : State) :
    getF (FH_DIQa_RSSI_FAW p a) (latchFaw p a s) = rssiNow p a s % 2 ^ (FH_DIQa_RSSI_FAW p a).width := by
  rw [latchFaw, addF, getF_setF_ne _ _ (by simp), getF_setF_same]

theorem rssiFawSeq_latchFaw (p a : Nat) (s : State) :
    getF (FH_DIQa_RSSI_FAW_SEQ p a) (latchFaw p a s) = (getF (FH_DIQa_RSSI_FAW_SEQ p a) s + 1) % 2 ^ (FH_DIQa_RSSI_FAW_SEQ p a).width := by
  rw [latchFaw, addF, getF_setF_same, getF_setF_ne _ _ (by simp)]

theorem regsExcept_latchFaw (h1 : FH_DIQa_RSSI_FAW p a ∈ fs) (h2 : FH_DIQa_RSSI_FAW_SEQ p a ∈ fs) :
    RegsExcept fs s (latchFaw p a t) ↔ RegsExcept fs s t := by
  rw [latchFaw, addF, regsExcept_setF _ h2, regsExcept_setF _ h1]

theorem frame_latchFaw : Frame ps s (latchFaw p a t) ↔ Frame ps s t := Iff.rfl

theorem regsExcept_preSync (h : FH_DIQa_STAT_ALIGN p a ∈ fs) : RegsExcept fs s (preSync p a t) ↔ RegsExcept fs s t := regsExcept_setF _ h

theorem frame_preSync (hp : .front ∈ ps) : Frame ps s (preSync p a t) ↔ Frame ps s t := frame_setDiq _ hp

/-! ### Messages of a stream (R129, R130) -/

/-- What a message that is written makes of its stream, and the samples as they enter the slot buffer. -/
theorem diqOf_writeSamples (p a c st t0 : Nat) (xs : List (Int × Int)) (s : State) : ∃ line, diqOf p a (writeSamples p a c st t0 xs s) =
    { diqOf p a s with line := line, symPow := (diqOf p a s).symPow + (xs.map powerOf).sum, symCnt := (diqOf p a s).symCnt + xs.length } :=
  ⟨_, diqOf_setDiq_same _ _ _ _⟩

theorem frame_writeSamples {c st t0 : Nat} {xs : List (Int × Int)} (hp : .front ∈ ps) :
    Frame ps s (writeSamples p a c st t0 xs t) ↔ Frame ps s t :=
  frame_withFront (t := t) (writeSamples p a c st t0 xs t).toFrontState hp

theorem slotBuf_writeSamples (p a c st t0 : Nat) (xs : List (Int × Int)) (s : State) : (writeSamples p a c st t0 xs s).slotBuf =
    ⟨c, st, t0, (diqOf p a s).cnt,
      (firRun (coefs p a s) (flagF (FH_DIQa_CFG_RATE2 p a) s) (diqOf p a s).cnt (diqOf p a s).line
        (xs.map (fun x => (applyGain (getF (FH_DIQa_STAT_GAIN p a) s) x.1, applyGain (getF (FH_DIQa_STAT_GAIN p a) s) x.2)))).1,
      getF (FH_DIQa_STAT_GAIN p a) s⟩ :: s.slotBuf := rfl

section Ingress

variable {m : DiqMsg} {f : Nat} {x : Cell} (hplace : p = m.lport / 8 ∧ a = diqStream 4 m.eaxc) (hport : subPortExists m.lport s = true)
  (hflow : ingressFlow m.lport m.eaxc s = some f ∧ getF (FH_Ff_MAP_KIND p f) s = 2) (hcell : lookup (getF (FH_Ff_MAP_CELL p f) s) s.cells = some x)
  (hfcs : m.fcsBad = false) (hen : flagF (FH_DIQa_CFG_EN p a) s = true)
include hplace hport hflow hcell hfcs hen

theorem exec_diqIngress_of_hunt (hst : getF (FH_DIQa_STAT_ALIGN p a) s = 0) (hfaw : fawMatch p a m.frameWord s = true) :
    exec (.diqIngress m) s = goesOn s (advanceCount p a m.samples.length (measure p a m.samples (preSync p a (latchFaw p a s)))) := by
  obtain ⟨rfl, rfl⟩ := hplace
  obtain ⟨hsome, hkind⟩ := hflow
  show execDiqIngress m s = _
  unfold execDiqIngress
  dsimp only
  rw [hport, hsome, Option.filter_some, hkind]
  simp only [decide_true, if_true]
  rw [hcell]
  simp [hfcs, hen, hfaw, alignStep_of_hunt, hst]

theorem diqIngress_completes_hunt (hst : getF (FH_DIQa_STAT_ALIGN p a) s = 0) (hfaw : fawMatch p a m.frameWord s = true)
    (hlen : m.samples.length < frameSamples p a s) :
    Completes (.diqIngress m) s (fun t =>
      getF (FH_DIQa_STAT_ALIGN p a) t = 1 ∧ (diqOf p a t).cnt = m.samples.length ∧ (diqOf p a t).confirm = 0 ∧
      (diqOf p a t).last256 = ((m.samples.map powerOf).reverse ++ (diqOf p a s).last256).take 256 ∧
      getF (FH_DIQa_RSSI_FAW p a) t = rssiNow p a s % 2 ^ (FH_DIQa_RSSI_FAW p a).width ∧
      getF (FH_DIQa_RSSI_FAW_SEQ p a) t = (getF (FH_DIQa_RSSI_FAW_SEQ p a) s + 1) % 2 ^ (FH_DIQa_RSSI_FAW_SEQ p a).width ∧
      t.toFrontState = { s.toFrontState with diq := t.diq } ∧
      RegsExcept [FH_DIQa_STAT_ALIGN p a, FH_DIQa_RSSI_FAW p a, FH_DIQa_RSSI_FAW_SEQ p a] s t ∧ Frame [.front] s t) := by
  have hexec := exec_diqIngress_of_hunt hplace hport hflow hcell hfcs hen hst hfaw
  rw [advanceCount_within (by simpa [diqOf_measure, frameSamples] using hlen)] at hexec
  refine completes_of_goesOn hexec (fun _ _ h => h) ⟨?_, ?_, ?_, ?_, ?_, ?_, rfl, ?_, ?_⟩
  · simp
  · simp [diqOf_measure]
  · simp [diqOf_measure]
  · simp [diqOf_measure]
  · rw [getF_setDiq, getF_measure, preSync, setAlign, getF_setF_ne _ _ (by simp), getF_setDiq, rssiFaw_latchFaw]
  · rw [getF_setDiq, getF_measure, preSync, setAlign, getF_setF_ne _ _ (by simp), getF_setDiq, rssiFawSeq_latchFaw]
  · rw [regsExcept_setDiq, measure, regsExcept_setDiq, regsExcept_preSync (by simp), regsExcept_latchFaw (by simp) (by simp)]
    exact regsExcept_refl _ s
  · rw [frame_setDiq _ (by decide), measure, frame_setDiq _ (by decide), frame_preSync (by decide), frame_latchFaw]
    exact frame_refl _ s

theorem exec_diqIngress_of_sync {t0 : Nat} (hst : getF (FH_DIQa_STAT_ALIGN p a) s = 2) (hcnt : (diqOf p a s).cnt ≠ 0)
    (hfaw : fawMatch p a m.frameWord s = false)
    (ht0 : t0 = (diqOf p a s).frame * Config.frameTc + (diqOf p a s).cnt * 64 / 2 ^ getF (FH_DIQa_CFG_FS p a) s)
    (hclass : classify p (getF (FH_Ff_MAP_WP p f) s) (rxStamp (cfgTd x.cfg) m.lport s) t0 s = .ontime) (hpir : getF (FH_Ff_RATE_PIR p f) s = 0) :
    exec (.diqIngress m) s = goesOn s (advanceCount p a m.samples.length (measure p a m.samples
      (writeSamples p a (getF (FH_Ff_MAP_CELL p f) s) (getF (FH_Ff_MAP_STREAM p f) s) t0 m.samples
        (countSub FH_Ss_RX_ONTIME_COUNT m.lport s)))) := by
  obtain ⟨rfl, rfl⟩ := hplace
  obtain ⟨hsome, hkind⟩ := hflow
  subst ht0
  show execDiqIngress m s = _
  unfold execDiqIngress
  dsimp only
  rw [hport, hsome, Option.filter_some, hkind]
  simp only [decide_true, if_true]
  rw [hcell]
  have hwritten : ∀ c st t0 xs, getF (FH_DIQa_STAT_ALIGN (m.lport / 8) (diqStream 4 m.eaxc)) (writeSamples (m.lport / 8) (diqStream 4 m.eaxc) c st t0 xs
      (countSub FH_Ss_RX_ONTIME_COUNT m.lport s)) = 2 := fun _ _ _ _ => hst
  simp [hfcs, hen, hfaw, alignStep_of_sync hst hcnt, hst, hclass, admitRx_of_ontime m.len hpir, hwritten]

theorem diqIngress_completes_sync {t0 : Nat} (hst : getF (FH_DIQa_STAT_ALIGN p a) s = 2 ∧ (diqOf p a s).cnt ≠ 0)
    (hfaw : fawMatch p a m.frameWord s = false)
    (ht0 : t0 = (diqOf p a s).frame * Config.frameTc + (diqOf p a s).cnt * 64 / 2 ^ getF (FH_DIQa_CFG_FS p a) s)
    (hclass : classify p (getF (FH_Ff_MAP_WP p f) s) (rxStamp (cfgTd x.cfg) m.lport s) t0 s = .ontime) (hpir : getF (FH_Ff_RATE_PIR p f) s = 0)
    (hlen : (diqOf p a s).cnt + m.samples.length < frameSamples p a s) :
    Completes (.diqIngress m) s (fun t =>
      t.slotBuf = ⟨getF (FH_Ff_MAP_CELL p f) s, getF (FH_Ff_MAP_STREAM p f) s, t0, (diqOf p a s).cnt,
        (firRun (coefs p a s) (flagF (FH_DIQa_CFG_RATE2 p a) s) (diqOf p a s).cnt (diqOf p a s).line
          (m.samples.map (fun x => (applyGain (getF (FH_DIQa_STAT_GAIN p a) s) x.1, applyGain (getF (FH_DIQa_STAT_GAIN p a) s) x.2)))).1,
        getF (FH_DIQa_STAT_GAIN p a) s⟩ :: s.slotBuf ∧
      (diqOf p a t).cnt = (diqOf p a s).cnt + m.samples.length ∧ (diqOf p a t).symPow = (diqOf p a s).symPow + (m.samples.map powerOf).sum ∧
      (diqOf p a t).symCnt = (diqOf p a s).symCnt + m.samples.length ∧
      counted (8 + m.lport / 8) (FH_Ss_RX_ONTIME_COUNT (m.lport / 8) (m.lport % 8)) s t ∧
      RegsExcept [] s t ∧ Frame [.front, .tallies] s t) := by
  obtain ⟨halign, hcnt⟩ := hst
  have hexec := exec_diqIngress_of_sync hplace hport hflow hcell hfcs hen halign hcnt hfaw ht0 hclass hpir
  obtain ⟨line, hdiq⟩ := diqOf_writeSamples p a (getF (FH_Ff_MAP_CELL p f) s) (getF (FH_Ff_MAP_STREAM p f) s) t0 m.samples
    (countSub FH_Ss_RX_ONTIME_COUNT m.lport s)
  rw [advanceCount_within (by rw [diqOf_measure, hdiq]; exact hlen), diqOf_measure, hdiq] at hexec
  refine completes_of_goesOn hexec (fun _ _ h => h) ⟨slotBuf_writeSamples _ _ _ _ _ _ _, ?_, ?_, ?_, counted_countSub _ _ s, ?_, ?_⟩
  · simp
  · simp
  · simp
  · exact regsExcept_refl _ s
  · rw [frame_setDiq _ (by decide), measure, frame_setDiq _ (by decide)]
    rw [frame_writeSamples (by decide), frame_countSub (by decide)]
    exact frame_refl _ s

end Ingress

/-! ### The greatest gain that a test allows (R131) -/

section Bisect

variable {ok : Nat → Bool}

theorem bisect_allowed {n g : Nat} (h : ok g = true) : ok (bisect ok n g) = true := by
  induction n generalizing g with
  | zero => exact h
  | succ n ih =>
    refine ih ?_
    split
    · assumption
    · exact h

theorem bisect_lt (n g : Nat) : bisect ok n g < g + 2 ^ n := by
  induction n generalizing g with
  | zero => simp [bisect]
  | succ n ih =>
    rw [bisect, pow_succ]
    split
    · have := ih (g + 2 ^ n)
      omega
    · have := ih g
      omega

/-- Of a test that holds of every smaller gain, no gain in reach that it allows is greater. -/
theorem le_bisect (hmono : ∀ {x y}, x ≤ y → ok y = true → ok x = true) {n g x : Nat} (hx : ok x = true) (hlt : x < g + 2 ^ n) :
    x ≤ bisect ok n g := by
  induction n generalizing g with
  | zero => simpa [bisect, Nat.lt_succ_iff] using hlt
  | succ n ih =>
    refine ih ?_
    rw [pow_succ] at hlt
    split
    · omega
    · rename_i hno
      by_contra hge
      exact hno (hmono (by omega) hx)

end Bisect

/-! ### One move of the AGC (R131) -/

theorem gainUp_allowed (g step : Nat) : gainUp g step ^ 40 ≤ g ^ 40 * 10 ^ step := by
  simpa [gainUp] using bisect_allowed (ok := fun h => decide (h ^ 40 ≤ g ^ 40 * 10 ^ step)) (n := 16) (g := 0) (by simp)

theorem gainUp_lt (g step : Nat) : gainUp g step < 2 ^ 16 := by
  simpa [gainUp] using bisect_lt (ok := fun h => decide (h ^ 40 ≤ g ^ 40 * 10 ^ step)) 16 0

theorem le_gainUp {g : Nat} (step : Nat) (hg : g < 2 ^ 16) : g ≤ gainUp g step := by
  refine le_bisect (fun hxy hy => ?_) ?_ (by omega)
  · rw [decide_eq_true_eq] at hy ⊢
    exact (Nat.pow_le_pow_left hxy 40).trans hy
  · rw [decide_eq_true_eq]
    exact Nat.le_mul_of_pos_right _ (by positivity)

theorem gainDown_le (g step : Nat) : gainDown g step ≤ g := Nat.min_le_left _ _

theorem gainDown_allowed {g : Nat} (step : Nat) (hg : g < 2 ^ 16) : g ^ 40 ≤ gainDown g step ^ 40 * 10 ^ step := by
  rw [gainDown]
  set b := bisect (fun h => decide (h ^ 40 * 10 ^ step < g ^ 40)) 16 0 with hb
  obtain hlt | hle := Nat.lt_or_ge (b + 1) g
  · rw [min_eq_right hlt.le]
    by_contra hmore
    have hnext : b + 1 ≤ b := by
      conv_rhs => rw [hb]
      refine le_bisect (fun hxy hy => ?_) (by simpa using hmore) (by omega)
      rw [decide_eq_true_eq] at hy ⊢
      exact (Nat.mul_le_mul_right _ (Nat.pow_le_pow_left hxy 40)).trans_lt hy
    omega
  · rw [min_eq_left hle]
    exact Nat.le_mul_of_pos_right _ (by positivity)

/-- A free value within bounds. -/
theorem add_mod_within {lo hi : Nat} (v : Nat) (h : lo ≤ hi) : lo ≤ lo + v % (hi + 1 - lo) ∧ lo + v % (hi + 1 - lo) ≤ hi := by
  have := Nat.mod_lt v (by omega : 0 < hi + 1 - lo)
  omega

section NextGain

variable {pw g step target : Nat} (hg : g < 2 ^ 16)
include hg

theorem nextGain_of_below (h : belowTarget pw g target = true) (s : State) :
    g ≤ (nextGain pw g step target s).1 ∧ (nextGain pw g step target s).1 ≤ gainUp g step := by
  simpa [nextGain, drawFree, h] using add_mod_within _ (le_gainUp step hg)

omit hg in
theorem nextGain_of_above (h : belowTarget pw g target = false) (s : State) :
    gainDown g step ≤ (nextGain pw g step target s).1 ∧ (nextGain pw g step target s).1 ≤ g := by
  simpa [nextGain, drawFree, h] using add_mod_within _ (gainDown_le g step)

/-- The next gain is a value of 16 bits, and lies on the side of TARGET within one move. -/
theorem nextGain_bounds (s : State) : (nextGain pw g step target s).1 < 2 ^ 16 ∧
    if belowTarget pw g target = true then
      g ≤ (nextGain pw g step target s).1 ∧ (nextGain pw g step target s).1 ^ 40 ≤ g ^ 40 * 10 ^ step
    else (nextGain pw g step target s).1 ≤ g ∧ g ^ 40 ≤ (nextGain pw g step target s).1 ^ 40 * 10 ^ step := by
  split
  · next h =>
    obtain ⟨hlo, hhi⟩ := nextGain_of_below (step := step) hg h s
    exact ⟨hhi.trans_lt (gainUp_lt g step), hlo, (Nat.pow_le_pow_left hhi 40).trans (gainUp_allowed g step)⟩
  · next h =>
    obtain ⟨hlo, hhi⟩ := nextGain_of_above (step := step) (by simpa using h) s
    exact ⟨hhi.trans_lt hg, hhi, (gainDown_allowed step hg).trans (Nat.mul_le_mul_right _ (Nat.pow_le_pow_left hlo 40))⟩

end NextGain

/-! ### Symbol boundaries (R131) -/

/-- The stream once a symbol's power has been taken: the sum starts anew, and the mean is kept for the next boundary. -/
def closedSymbol (d : Diq) : Diq := { d with symPow := 0, symCnt := 0, prevPow := some (d.symPow / d.symCnt) }
def symbolClosed (p a : Nat) (s : State) : State := setDiq p a (closedSymbol (diqOf p a s)) s

/-- The next gain of stream a, drawn within the bounds of one move. -/
def movedGain (p a : Nat) (s : State) : Nat × State :=
  nextGain ((diqOf p a s).symPow / (diqOf p a s).symCnt) (getF (FH_DIQa_STAT_GAIN p a) s) (getF (FH_DIQa_AGC_STEP p a) s)
    (getF (FH_DIQa_AGC_TARGET p a) s) (symbolClosed p a s)

theorem frame_withDraws (n : Nat) (hp : .draws ∈ ps) : Frame ps s { t with draws := n } ↔ Frame ps s t :=
  frame_congr .draws (fun g hg => by cases g with | draws => exact absurd rfl hg | _ => exact Iff.rfl) hp

theorem frame_movedGain (hp : .draws ∈ ps) : Frame ps s (movedGain p a t).2 ↔ Frame ps s (symbolClosed p a t) := frame_withDraws _ hp

section Boundary

variable {p : Fin 4} {a : Fin 32} {x : Cell} (hcell : streamCell p a s = some x)
include hcell

section Aligned

variable (hsync : flagF (FH_DIQa_CFG_EN p a) s = true ∧ getF (FH_DIQa_STAT_ALIGN p a) s = 2) (hcnt : (diqOf p a s).symCnt ≠ 0)
include hsync hcnt

theorem exec_agcSymbolBoundary_of_rise {q : Nat} (hprev : (diqOf p a s).prevPow = some q)
    (hrise : q ^ 20 * 10 ^ getF (FH_DIQa_AGC_DET p a) s < ((diqOf p a s).symPow / (diqOf p a s).symCnt) ^ 20) :
    exec (.agcSymbolBoundary p a) s = goesOn s (freeze p a (cfgTd x.cfg) (cfgMu x.cfg) (symbolClosed p a s)) := by
  show execAgcSymbolBoundary p a s = _
  simp [execAgcSymbolBoundary, hcell, hsync, hcnt, hprev, hrise, symbolClosed, closedSymbol]

theorem exec_agcSymbolBoundary_of_frozen (hprev : (diqOf p a s).prevPow = none) (hfrozen : flagF (FH_DIQa_STAT_FROZEN p a) s = true) :
    exec (.agcSymbolBoundary p a) s = goesOn s (symbolClosed p a s) := by
  show execAgcSymbolBoundary p a s = _
  simp [execAgcSymbolBoundary, hcell, hsync, hcnt, hprev, hfrozen, symbolClosed, closedSymbol]

theorem exec_agcSymbolBoundary_of_tracking (hprev : (diqOf p a s).prevPow = none) (hfrozen : flagF (FH_DIQa_STAT_FROZEN p a) s = false) :
    exec (.agcSymbolBoundary p a) s = goesOn s (setF (FH_DIQa_STAT_GAIN p a) (movedGain p a s).1 (movedGain p a s).2) := by
  show execAgcSymbolBoundary p a s = _
  simp [execAgcSymbolBoundary, hcell, hsync, hcnt, hprev, hfrozen, movedGain, symbolClosed, closedSymbol]

theorem agcSymbolBoundary_completes_rise {q : Nat} (hprev : (diqOf p a s).prevPow = some q)
    (hrise : q ^ 20 * 10 ^ getF (FH_DIQa_AGC_DET p a) s < ((diqOf p a s).symPow / (diqOf p a s).symCnt) ^ 20) :
    Completes (.agcSymbolBoundary p a) s (fun t =>
      getF (FH_DIQa_STAT_FROZEN p a) t = 1 ∧ getF (FH_DIQa_STAT_GAIN p a) t = getF (FH_DIQa_STAT_GAIN p a) s ∧
      diqOf p a t = { diqOf p a s with
        symPow := 0, symCnt := 0, prevPow := some ((diqOf p a s).symPow / (diqOf p a s).symCnt),
        holdUntil := counter (cfgTd x.cfg) s + usToTc (slotUs (cfgMu x.cfg) * getF (FH_DIQa_AGC_HOLD p a) s) } ∧
      t.toFrontState = { s.toFrontState with diq := t.diq } ∧ RegsExcept [FH_DIQa_STAT_FROZEN p a] s t ∧ Frame [.front] s t) := by
  refine completes_of_goesOn (exec_agcSymbolBoundary_of_rise hcell hsync hcnt hprev hrise) (fun _ _ h => h)
    ⟨getF_setF_same _ _ _, getF_setF_ne _ _ (by simp), ?_, rfl, ?_, ?_⟩
  · rw [freeze, diqOf_setF, diqOf_setDiq_same, symbolClosed, diqOf_setDiq_same]
    rfl
  · exact (regsExcept_setF _ (by simp)).mpr (regsExcept_refl _ s)
  · exact (frame_setDiq _ (by decide)).mpr ((frame_setDiq (ps := [.front]) _ (by decide)).mpr (frame_refl _ s))

theorem agcSymbolBoundary_completes_first (hprev : (diqOf p a s).prevPow = none) :
    Completes (.agcSymbolBoundary p a) s (fun t =>
      diqOf p a t = { diqOf p a s with symPow := 0, symCnt := 0, prevPow := some ((diqOf p a s).symPow / (diqOf p a s).symCnt) } ∧
      (flagF (FH_DIQa_STAT_FROZEN p a) s = true → getF (FH_DIQa_STAT_GAIN p a) t = getF (FH_DIQa_STAT_GAIN p a) s) ∧
      (flagF (FH_DIQa_STAT_FROZEN p a) s = false ∧ getF (FH_DIQa_STAT_GAIN p a) s < 2 ^ 16 →
        (if belowTarget ((diqOf p a s).symPow / (diqOf p a s).symCnt) (getF (FH_DIQa_STAT_GAIN p a) s) (getF (FH_DIQa_AGC_TARGET p a) s) = true then
          getF (FH_DIQa_STAT_GAIN p a) s ≤ getF (FH_DIQa_STAT_GAIN p a) t ∧
            getF (FH_DIQa_STAT_GAIN p a) t ^ 40 ≤ getF (FH_DIQa_STAT_GAIN p a) s ^ 40 * 10 ^ getF (FH_DIQa_AGC_STEP p a) s
        else getF (FH_DIQa_STAT_GAIN p a) t ≤ getF (FH_DIQa_STAT_GAIN p a) s ∧
          getF (FH_DIQa_STAT_GAIN p a) s ^ 40 ≤ getF (FH_DIQa_STAT_GAIN p a) t ^ 40 * 10 ^ getF (FH_DIQa_AGC_STEP p a) s)) ∧
      getF (FH_DIQa_STAT_FROZEN p a) t = getF (FH_DIQa_STAT_FROZEN p a) s ∧
      t.toFrontState = { s.toFrontState with diq := t.diq } ∧ RegsExcept [FH_DIQa_STAT_GAIN p a] s t ∧ Frame [.front, .draws] s t) := by
  have hframe : Frame [.front, .draws] s (symbolClosed p a s) := (frame_setDiq _ (by decide)).mpr (frame_refl _ s)
  obtain hfrozen | hfrozen := Bool.eq_false_or_eq_true (flagF (FH_DIQa_STAT_FROZEN p a) s)
  · exact completes_of_goesOn (exec_agcSymbolBoundary_of_frozen hcell hsync hcnt hprev hfrozen) (fun _ _ h => h)
      ⟨diqOf_setDiq_same _ _ _ s, fun _ => rfl, fun h => absurd (hfrozen.symm.trans h.1) (by decide), rfl, rfl, regsExcept_refl _ s, hframe⟩
  · refine completes_of_goesOn (exec_agcSymbolBoundary_of_tracking hcell hsync hcnt hprev hfrozen) (fun _ _ h => h)
      ⟨diqOf_setDiq_same _ _ _ s, fun h => absurd (hfrozen.symm.trans h) (by decide), fun ⟨_, hgain⟩ => ?_, getF_setF_ne _ _ (by simp), rfl,
        (regsExcept_setF _ (by simp)).mpr (regsExcept_refl _ s), (frame_movedGain (by decide)).mpr hframe⟩
    obtain ⟨hlt, hbounds⟩ := nextGain_bounds (pw := (diqOf p a s).symPow / (diqOf p a s).symCnt) (step := getF (FH_DIQa_AGC_STEP p a) s)
      (target := getF (FH_DIQa_AGC_TARGET p a) s) hgain (symbolClosed p a s)
    have hread : getF (FH_DIQa_STAT_GAIN p a) (setF (FH_DIQa_STAT_GAIN p a) (movedGain p a s).1 (movedGain p a s).2) = (movedGain p a s).1 :=
      (getF_setF_same _ _ _).trans (Nat.mod_eq_of_lt hlt)
    rw [hread]
    exact hbounds

end Aligned

theorem agcHoldExpiry_completes (hfrozen : flagF (FH_DIQa_STAT_FROZEN p a) s = true) (hdue : (diqOf p a s).holdUntil ≤ counter (cfgTd x.cfg) s) :
    Completes (.agcHoldExpiry p a) s (fun t => getF (FH_DIQa_STAT_FROZEN p a) t = 0 ∧ RegsExcept [FH_DIQa_STAT_FROZEN p a] s t ∧ Frame [] s t) := by
  have hexec : exec (.agcHoldExpiry p a) s = goesOn s (setF (FH_DIQa_STAT_FROZEN p a) 0 s) := by
    show execAgcHoldExpiry p a s = _
    simp [execAgcHoldExpiry, hcell, hfrozen, hdue]
  exact completes_of_goesOn hexec (fun _ _ h => h) ⟨getF_setF_same _ _ _, (regsExcept_setF _ (by simp)).mpr (regsExcept_refl _ s),
    (frame_setF _ _).mpr (frame_refl _ s)⟩

end Boundary

theorem diqBankSwitch_completes (s : State) (p : Fin 4) (a : Fin 64) :
    Completes (.diqBankSwitch p a) s (fun t =>
      diqOf p a t = { diqOf p a s with bank := getF (FH_DIQa_CFG_BANK p a) s } ∧ t.toFrontState = { s.toFrontState with diq := t.diq } ∧
      RegsExcept [] s t ∧ Frame [.front] s t) :=
  completes_of_goesOn (u := setDiq p a { diqOf p a s with bank := getF (FH_DIQa_CFG_BANK p a) s } s) rfl (fun _ _ h => h)
    ⟨diqOf_setDiq_same _ _ _ s, rfl, regsExcept_refl _ s, (frame_setDiq _ (by decide)).mpr (frame_refl _ s)⟩

end Sys2Proof.Machine

namespace Sys2Proof
open Machine

/-- Settles O45: a stream's messages by its alignment, and its AGC by whether the power has risen and the gain is frozen. -/
theorem directIq : Obligations.DirectIq :=
  ⟨fun _ _ _ _ _ _ hplace hport hflow hcell hfcs hen hst hfaw hlen =>
     diqIngress_completes_hunt hplace hport hflow hcell hfcs hen hst hfaw hlen,
   fun _ _ _ _ _ _ _ hplace hport hflow hcell hfcs hen hst hfaw ht0 hclass hpir hlen =>
     diqIngress_completes_sync hplace hport hflow hcell hfcs hen hst hfaw ht0 hclass hpir hlen,
   fun _ _ _ _ _ hcell hsync hcnt hprev hrise => agcSymbolBoundary_completes_rise hcell hsync hcnt hprev hrise,
   fun _ _ _ _ hcell hsync hcnt hprev => agcSymbolBoundary_completes_first hcell hsync hcnt hprev,
   fun _ _ _ _ hcell hfrozen hdue => agcHoldExpiry_completes hcell hfrozen hdue,
   fun s p a => diqBankSwitch_completes s p a⟩

end Sys2Proof

/-! SUPPORT. Ingress of U-plane messages (R116 to R119). -/

namespace Sys2Proof.Machine

variable {fs : List Fld} {ps : List Piece} {s t : State}

/-- The policer changes its marker and nothing else. -/
theorem police_state (p f len : Nat) (s : State) : ∃ mk, (police p f len s).2 = { s with marker := mk } := by
  unfold police
  dsimp only
  split
  · exact ⟨_, rfl⟩
  · split
    · exact ⟨_, rfl⟩
    · split <;> exact ⟨_, rfl⟩

/-- A late message is dropped, and counted for its sub-port and for its flow. -/
theorem admitRx_of_late (lport f len : Nat) (s : State) : admitRx lport f len .late s = (false,
    tally (128 + getF (FH_Ff_MAP_CELL (lport / 8) f) s) (FH_Ff_LATE_COUNT (lport / 8) f) 1
      (countSub FH_Ss_RX_LATE_COUNT lport (police (lport / 8) f len s).2)) := rfl

/-- The counter of a flow's late messages is not that of its sub-port. -/
theorem tallyKey_late_ne {lport f : Nat} (c : Nat) (hf : f < 1024) :
    tallyKey (128 + c) (FH_Ff_LATE_COUNT (lport / 8) f) ≠ tallyKey (8 + lport / 8) (FH_Ss_RX_LATE_COUNT (lport / 8) (lport % 8)) := by
  simp only [tallyKey, Fld.key, FH_Ff_LATE_COUNT, FH_Ff_LATE, FH_Ss_RX_LATE_COUNT, FH_Ss_RX_LATE]
  omega

theorem lt_of_ingressFlow {lport eaxc f : Nat} (h : ingressFlow lport eaxc s = some f) : f < 1024 := by
  unfold ingressFlow at h
  exact List.mem_range.mp (List.mem_of_find?_eq_some h)

/-- What the slot buffer takes from a message: each PRB decompressed by the flow's width, for the symbol that starts at t0. -/
def rxEntries (f t0 : Nat) (m : RxMsg) (s : State) : List RxData :=
  m.prbs.map (fun r => ⟨getF (FH_Ff_MAP_CELL (m.lport / 8) f) s, getF (FH_Ff_MAP_STREAM (m.lport / 8) f) s, t0, r.prb,
    pairs (bfpDecompress (getF (FH_Ff_MAP_W (m.lport / 8) f) s) r.comp.toNat r.mant), 0⟩)

section Ingress

variable {m : RxMsg} (hport : subPortExists m.lport s = true)
include hport

theorem uplaneIngress_completes_dropped (h : m.bad = true ∨ m.msgType ≠ 0 ∨ ingressFlow m.lport m.eaxc s = none) :
    Completes (.uplaneIngress m) s (fun t =>
      counted (8 + m.lport / 8) ((if m.bad then FH_Ss_RX_BAD_COUNT else FH_Ss_RX_NOFLOW_COUNT) (m.lport / 8) (m.lport % 8)) s t ∧
      RegsExcept [] s t ∧ Frame [.tallies] s t) := by
  have hexec : exec (.uplaneIngress m) s = goesOn s (countSub (if m.bad then FH_Ss_RX_BAD_COUNT else FH_Ss_RX_NOFLOW_COUNT) m.lport s) := by
    show execUplaneIngress m s = _
    by_cases hbad : m.bad = true
    · simp [execUplaneIngress, hport, hbad]
    · by_cases htype : m.msgType = 0
      · have hnone : ingressFlow m.lport m.eaxc s = none := by simpa [hbad, htype] using h
        simp [execUplaneIngress, hport, hbad, htype, hnone]
      · simp [execUplaneIngress, hport, hbad, htype]
  exact completes_of_goesOn hexec (fun _ _ h => h)
    ⟨counted_countSub _ _ s, regsExcept_refl _ s, (frame_countSub (by decide)).mpr (frame_refl _ s)⟩

variable {f t0 : Nat} {x : Cell} (hgood : m.bad = false ∧ m.msgType = 0) (hflow : ingressFlow m.lport m.eaxc s = some f)
  (hcell : lookup (getF (FH_Ff_MAP_CELL (m.lport / 8) f) s) s.cells = some x) (hkind : getF (FH_Ff_MAP_KIND (m.lport / 8) f) s ≠ 2)
  (hsym : messageSym x.cfg m s = some t0)
include hgood hflow hcell hkind hsym

/-- A message that names a symbol of its flow's cell is classified against that symbol and admitted or not. -/
theorem exec_uplaneIngress {b : Bool} {u : State} {cl : RxClass}
    (hclass : classify (m.lport / 8) (getF (FH_Ff_MAP_WP (m.lport / 8) f) s) (rxStamp (cfgTd x.cfg) m.lport s) t0 s = cl)
    (hadmit : admitRx m.lport f m.len cl s = (b, u)) :
    exec (.uplaneIngress m) s = goesOn s (if b then { u with slotBuf := rxEntries f t0 m s ++ u.slotBuf } else u) := by
  obtain ⟨hbad, htype⟩ := hgood
  show execUplaneIngress m s = _
  unfold execUplaneIngress
  dsimp only
  rw [hport, hflow]
  dsimp only
  rw [hcell]
  dsimp only
  rw [hsym]
  dsimp only
  rw [hclass, hadmit]
  cases b <;> simp [hbad, htype, hkind, rxEntries]

theorem uplaneIngress_completes_ontime
    (hclass : classify (m.lport / 8) (getF (FH_Ff_MAP_WP (m.lport / 8) f) s) (rxStamp (cfgTd x.cfg) m.lport s) t0 s = .ontime)
    (hpir : getF (FH_Ff_RATE_PIR (m.lport / 8) f) s = 0) :
    Completes (.uplaneIngress m) s (fun t =>
      t.slotBuf = rxEntries f t0 m s ++ s.slotBuf ∧
      counted (8 + m.lport / 8) (FH_Ss_RX_ONTIME_COUNT (m.lport / 8) (m.lport % 8)) s t ∧
      t.toFrontState = { s.toFrontState with slotBuf := t.slotBuf } ∧ RegsExcept [] s t ∧ Frame [.front, .tallies] s t) := by
  refine completes_of_goesOn (exec_uplaneIngress hport hgood hflow hcell hkind hsym hclass (admitRx_of_ontime m.len hpir)) (fun _ _ h => h)
    ⟨rfl, counted_countSub _ _ s, rfl, regsExcept_refl _ s, ?_⟩
  exact (frame_withFront (t := countSub FH_Ss_RX_ONTIME_COUNT m.lport s) _ (by decide)).mpr
    ((frame_countSub (by decide)).mpr (frame_refl [.front, .tallies] s))

theorem uplaneIngress_completes_late
    (hclass : classify (m.lport / 8) (getF (FH_Ff_MAP_WP (m.lport / 8) f) s) (rxStamp (cfgTd x.cfg) m.lport s) t0 s = .late) :
    Completes (.uplaneIngress m) s (fun t =>
      counted (128 + getF (FH_Ff_MAP_CELL (m.lport / 8) f) s) (FH_Ff_LATE_COUNT (m.lport / 8) f) s t ∧ t.slotBuf = s.slotBuf ∧
      t.toFrontState = { s.toFrontState with marker := t.marker } ∧ RegsExcept [] s t ∧ Frame [.front, .tallies] s t) := by
  obtain ⟨mk, hpolice⟩ := police_state (m.lport / 8) f m.len s
  have hadmit := admitRx_of_late m.lport f m.len s
  rw [hpolice] at hadmit
  refine completes_of_goesOn (exec_uplaneIngress hport hgood hflow hcell hkind hsym hclass hadmit) (fun _ _ h => h)
    ⟨?_, rfl, rfl, regsExcept_refl _ s, ?_⟩
  · refine (liveOf_tally_same _ _ _ _).trans ?_
    rw [countSub, liveOf_tally_ne _ _ (tallyKey_late_ne _ (lt_of_ingressFlow hflow))]
    rfl
  · exact (frame_tally _ _ _ (by decide)).mpr ((frame_countSub (by decide)).mpr
      ((frame_withFront (t := s) { s.toFrontState with marker := mk } (by decide)).mpr (frame_refl [.front, .tallies] s)))

end Ingress

end Sys2Proof.Machine

/-! SUPPORT. Egress messages that their windows lose, and the timing wheel (R120, R121, R125). -/

namespace Sys2Proof.Machine

variable {fs : List Fld} {ps : List Piece} {s t : State}

/-! ### Events of a Fronthaul Engine (R134) -/

section FhEvent

variable {p : Nat} {f : Fld}

theorem regsExcept_fhEvent (hv : vecRegs ⊆ fs) (hf : f ∈ fs) : RegsExcept fs s (fhEvent p f t) ↔ RegsExcept fs s t :=
  regsExcept_event hv hf _ _ _ _

theorem frame_fhEvent (hb : .bus ∈ ps) (ht : .tallies ∈ ps) : Frame ps s (fhEvent p f t) ↔ Frame ps s t := frame_event hb ht

theorem fhEvent_frame (p : Nat) (f : Fld) (s : State) : Frame vecPieces s (fhEvent p f s) :=
  (frame_fhEvent (by decide) (by decide)).mpr (frame_refl _ s)

@[simp] theorem fhEvent_toFrontState (p : Nat) (f : Fld) (s : State) : (fhEvent p f s).toFrontState = s.toFrontState :=
  fhEvent_frame p f s .front (by decide)

end FhEvent

/-! ### A message that is lost to its window (R125) -/

@[simp] theorem key_FH_STAT_TX_MISS (p : Nat) : (FH_STAT_TX_MISS p).key = p * 0x1000000 + 0x10000204 := by
  simp only [Fld.key, FH_STAT_TX_MISS, FH_STAT]; omega

theorem key_FH_STAT_TX_MISS_ne (p : Nat) : ∀ f ∈ vecRegs, (FH_STAT_TX_MISS p).key ≠ f.key := by
  simp only [vecRegs, List.forall_mem_cons, List.not_mem_nil, false_imp_iff, implies_true, and_true, key_FH_STAT_TX_MISS,
    key_DEV_HOSTERR_NO_MASTER, key_DEV_HOSTERR_FUNC, key_DEV_HOSTERR_VEC]
  omega

/-- The counter of a sub-port's lost messages is not one that a discarded vector counts in. -/
theorem tallyKey_txMiss_ne (p k : Nat) : tallyKey (8 + p) (FH_Ss_TX_MISS_COUNT p k) ≠ tallyKey 1 DEV_T_NOMASTER_COUNT := by
  simp only [tallyKey, Fld.key, FH_Ss_TX_MISS_COUNT, FH_Ss_TX_MISS, DEV_T_NOMASTER_COUNT, DEV_T_NOMASTER]
  omega

/-- The count and the event of a lost message, before its job is told. -/
def missNoted (m : TxMsg) (s : State) : State :=
  fhEvent (m.lport / 8) (FH_STAT_TX_MISS (m.lport / 8)) (countSub FH_Ss_TX_MISS_COUNT m.lport s)

/-- Losing a message counts it and raises its event; beside that at most the radio's jobs change. -/
theorem txMiss_cases (m : TxMsg) (s : State) :
    txMiss m s = missNoted m s ∨ ∃ f, txMiss m s = modJob m.cell m.slot false f (missNoted m s) := by
  unfold txMiss
  dsimp only
  split
  · exact .inl rfl
  · split
    · exact .inl rfl
    · exact .inr ⟨_, rfl⟩

theorem frame_modJob {c slot : Nat} {ul : Bool} {f : Job → Job} (hp : .radio ∈ ps) : Frame ps s (modJob c slot ul f t) ↔ Frame ps s t :=
  frame_withRadio (r := (modJob c slot ul f t).toRadioState) ⟨rfl, rfl, rfl⟩ hp

section TxMiss

variable {m : TxMsg}

theorem toFrontState_txMiss (m : TxMsg) (s : State) : (txMiss m s).toFrontState = s.toFrontState := by
  have hnoted : (missNoted m s).toFrontState = s.toFrontState := fhEvent_toFrontState _ _ _
  obtain h | ⟨f, h⟩ := txMiss_cases m s <;> rw [h]
  · exact hnoted
  · exact hnoted

theorem regsExcept_txMiss (hv : vecRegs ⊆ fs) (hf : FH_STAT_TX_MISS (m.lport / 8) ∈ fs) : RegsExcept fs s (txMiss m t) ↔ RegsExcept fs s t := by
  have hnoted : RegsExcept fs s (missNoted m t) ↔ RegsExcept fs s t := regsExcept_fhEvent hv hf
  obtain h | ⟨f, h⟩ := txMiss_cases m t <;> rw [h]
  · exact hnoted
  · exact hnoted

theorem frame_txMiss (h : [.radio, .tallies, .bus] ⊆ ps) : Frame ps s (txMiss m t) ↔ Frame ps s t := by
  simp only [List.cons_subset] at h
  obtain ⟨hr, ht, hb, _⟩ := h
  have hnoted : Frame ps s (missNoted m t) ↔ Frame ps s t := (frame_fhEvent hb ht).trans (frame_countSub ht)
  obtain h | ⟨f, h⟩ := txMiss_cases m t <;> rw [h]
  · exact hnoted
  · exact (frame_modJob hr).trans hnoted

theorem flagF_txMiss (m : TxMsg) (s : State) : flagF (FH_STAT_TX_MISS (m.lport / 8)) (txMiss m s) = true := by
  have hnoted : flagF (FH_STAT_TX_MISS (m.lport / 8)) (missNoted m s) = true := flagF_event Nat.one_pos (key_FH_STAT_TX_MISS_ne _) _
  obtain h | ⟨f, h⟩ := txMiss_cases m s <;> rw [h]
  · exact hnoted
  · exact hnoted

theorem counted_txMiss (m : TxMsg) (s : State) :
    counted (8 + m.lport / 8) (FH_Ss_TX_MISS_COUNT (m.lport / 8) (m.lport % 8)) s (txMiss m s) := by
  have hnoted : counted (8 + m.lport / 8) (FH_Ss_TX_MISS_COUNT (m.lport / 8) (m.lport % 8)) s (missNoted m s) :=
    (liveOf_event (tallyKey_txMiss_ne _ _) _ _ _ _ _ _).trans (counted_countSub _ _ s)
  obtain h | ⟨f, h⟩ := txMiss_cases m s <;> rw [h]
  · exact hnoted
  · exact hnoted

end TxMiss

/-! ### The timing wheel (R121) -/

/-- The start of the first bucket at or after a release time. -/
def bucketAt (release : Nat) : Nat := (release + 2047) / 2048 * 2048

/-- What the wheel holds of message m. -/
def wheelPlaced (m : TxMsg) (s : State) : State := { s with fhWheel := s.fhWheel ++ [(bucketAt m.release, m)] }

theorem wheelPut_near {m : TxMsg} (h : counter m.td s ≤ m.release) (hnear : m.release ≤ counter m.td s + 8388608) :
    wheelPut m s = wheelPlaced m s := by
  simp [wheelPut, wheelHorizon, h, hnear, not_lt_of_ge, wheelPlaced, bucketAt, ceilDiv, bucketTc]

theorem wheelPut_far {m : TxMsg} (hfar : counter m.td s + 8388608 < m.release) : wheelPut m s = { s with fhFar := s.fhFar ++ [m] } := by
  have hnow : ¬ m.release < counter m.td s := by omega
  simp [wheelPut, wheelHorizon, hfar, hnow]

theorem wheelPut_lost {m : TxMsg} (h : m.release < counter m.td s) (hlate : m.deadline < counter m.td s) : wheelPut m s = txMiss m s := by
  simp [wheelPut, h, not_le_of_gt hlate]

/-- A PRB as the engine sends it at width w: compressed, or as it stands at width 16 (R113). -/
def sentPrb (w : Nat) (r : RxPrb) : RxPrb :=
  if w = 16 then r else { r with comp := BitVec.ofNat 8 (bfpCompress w r.mant).1, mant := (bfpCompress w r.mant).2 }

/-- The message as the engine takes it: with its domain, its window and its PRBs compressed to the flow's width. -/
def takenMsg (x : Cell) (m : TxMsg) (s : State) : TxMsg :=
  { m with
    td := cfgTd x.cfg, release := (txWindow x.cfg (getF (FH_Ff_MAP_WP (m.lport / 8) m.flow) s) m s).1,
    deadline := (txWindow x.cfg (getF (FH_Ff_MAP_WP (m.lport / 8) m.flow) s) m s).2,
    prbs := m.prbs.map (sentPrb (getF (FH_Ff_MAP_W (m.lport / 8) m.flow) s)) }

/-- The state in which the job of message m has handed it over. -/
def handedOver (m : TxMsg) (s : State) : State := modJob m.cell m.slot m.ul (fun j => { j with handed := true }) s

section Place

variable {m : TxMsg} {x : Cell} (hcell : lookup m.cell s.cells = some x)
  (hvalid : flagF (FH_Ff_MAP_VALID (m.lport / 8) m.flow) s = true ∧ getF (FH_Ff_MAP_DIR (m.lport / 8) m.flow) s = 1)
  (hflow : getF (FH_Ff_MAP_CELL (m.lport / 8) m.flow) s = m.cell ∧ m.lport = cfgLport x.cfg)
  (hkind : getF (FH_Ff_MAP_KIND (m.lport / 8) m.flow) s ≠ 2)
include hcell hvalid hflow hkind

theorem exec_wheelPlace : exec (.wheelPlace m) s = goesOn s (wheelPut (takenMsg x m s) (handedOver m s)) := by
  show execWheelPlace m s = _
  unfold execWheelPlace
  dsimp only
  rw [hcell]
  dsimp only
  rw [if_pos ⟨hvalid.1, hvalid.2, hflow.1, hflow.2⟩, txContents, if_neg hkind]
  rfl

theorem wheelPlace_completes_kept {m' : TxMsg} (hm : m' = takenMsg x m s) (hnow : counter (cfgTd x.cfg) s ≤ m'.release) :
    Completes (.wheelPlace m) s (fun t =>
      (m'.release ≤ counter (cfgTd x.cfg) s + 8388608 → t.fhWheel = s.fhWheel ++ [((m'.release + 2047) / 2048 * 2048, m')] ∧ t.fhFar = s.fhFar) ∧
      (counter (cfgTd x.cfg) s + 8388608 < m'.release → t.fhFar = s.fhFar ++ [m'] ∧ t.fhWheel = s.fhWheel) ∧
      t.toFrontState = { s.toFrontState with fhWheel := t.fhWheel, fhFar := t.fhFar } ∧ t.toRadioState = { s.toRadioState with jobs := t.jobs } ∧
      RegsExcept [] s t ∧ Frame [.front, .radio] s t) := by
  subst hm
  have hexec := exec_wheelPlace hcell hvalid hflow hkind
  have hcount : counter (takenMsg x m s).td (handedOver m s) = counter (cfgTd x.cfg) s := rfl
  have hframe : Frame [.front, .radio] s (handedOver m s) := (frame_modJob (by decide)).mpr (frame_refl _ s)
  obtain hfar | hnear := Nat.lt_or_ge (counter (cfgTd x.cfg) s + 8388608) (takenMsg x m s).release
  · rw [wheelPut_far (hcount ▸ hfar)] at hexec
    exact completes_of_goesOn hexec (fun _ _ h => h) ⟨fun h => absurd hfar (Nat.not_lt.mpr h), fun _ => ⟨rfl, rfl⟩, rfl, rfl, regsExcept_refl _ s,
      (frame_withFront (t := handedOver m s) _ (by decide)).mpr hframe⟩
  · rw [wheelPut_near (hcount ▸ hnow) (hcount ▸ hnear)] at hexec
    exact completes_of_goesOn hexec (fun _ _ h => h) ⟨fun _ => ⟨rfl, rfl⟩, fun h => absurd h (Nat.not_lt.mpr hnear), rfl, rfl, regsExcept_refl _ s,
      (frame_withFront (t := handedOver m s) _ (by decide)).mpr hframe⟩

theorem wheelPlace_completes_lost
    (hrelease : (txWindow x.cfg (getF (FH_Ff_MAP_WP (m.lport / 8) m.flow) s) m s).1 < counter (cfgTd x.cfg) s)
    (hdeadline : (txWindow x.cfg (getF (FH_Ff_MAP_WP (m.lport / 8) m.flow) s) m s).2 < counter (cfgTd x.cfg) s) :
    Completes (.wheelPlace m) s (fun t =>
      counted (8 + m.lport / 8) (FH_Ss_TX_MISS_COUNT (m.lport / 8) (m.lport % 8)) s t ∧ flagF (FH_STAT_TX_MISS (m.lport / 8)) t = true ∧
      t.toFrontState = s.toFrontState ∧ RegsExcept (FH_STAT_TX_MISS (m.lport / 8) :: vecRegs) s t ∧ Frame [.radio, .tallies, .bus] s t) := by
  have hexec := exec_wheelPlace hcell hvalid hflow hkind
  rw [wheelPut_lost (m := takenMsg x m s) (s := handedOver m s) hrelease hdeadline] at hexec
  refine completes_of_goesOn hexec (fun _ _ h => h) ⟨counted_txMiss (takenMsg x m s) (handedOver m s), flagF_txMiss (takenMsg x m s) _,
    toFrontState_txMiss _ _, ?_, ?_⟩
  · exact (regsExcept_txMiss (m := takenMsg x m s) (List.subset_cons_self _ _) (List.mem_cons_self)).mpr (regsExcept_refl _ s)
  · exact (frame_txMiss (by decide)).mpr ((frame_modJob (by decide)).mpr (frame_refl _ s))

end Place

/-! ### The far list (R121) -/

theorem foldl_wheelPut_near (l : List TxMsg) (s : State)
    (h : ∀ m ∈ l, counter m.td s ≤ m.release ∧ m.release ≤ counter m.td s + 8388608) :
    l.foldl (fun s m => wheelPut m s) s = { s with fhWheel := s.fhWheel ++ l.map (fun m => (bucketAt m.release, m)) } := by
  induction l generalizing s with
  | nil => simp
  | cons m l ih =>
    rw [List.forall_mem_cons] at h
    obtain ⟨⟨hnow, hnear⟩, hl⟩ := h
    rw [List.foldl_cons, wheelPut_near hnow hnear, ih (wheelPlaced m s) hl]
    simp [wheelPlaced]

/-- Message m of engine p has come within the horizon. -/
def comesNear (p : Nat) (s : State) (m : TxMsg) : Bool := decide (m.lport / 8 = p) && decide (m.release ≤ counter m.td s + 8388608)

theorem farListEnter_completes {p : Fin 4}
    (h : ∀ m ∈ s.fhFar, m.lport / 8 = p.val → m.release ≤ counter m.td s + 8388608 → counter m.td s ≤ m.release) :
    Completes (.farListEnter p) s (fun t =>
      t.fhFar = s.fhFar.filter (fun m => !comesNear p s m) ∧
      t.fhWheel = s.fhWheel ++ (s.fhFar.filter (comesNear p s)).map (fun m => (bucketAt m.release, m)) ∧
      t.toFrontState = { s.toFrontState with fhWheel := t.fhWheel, fhFar := t.fhFar } ∧ RegsExcept [] s t ∧ Frame [.front] s t) := by
  have hexec : exec (.farListEnter p) s = goesOn s ((s.fhFar.filter (comesNear p s)).foldl (fun s m => wheelPut m s)
    { s with fhFar := s.fhFar.filter (fun m => !comesNear p s m) }) := rfl
  rw [foldl_wheelPut_near] at hexec
  · exact completes_of_goesOn hexec (fun _ _ h => h) ⟨rfl, rfl, rfl, regsExcept_refl _ s, (frame_withFront (t := s) _ (by decide)).mpr (frame_refl _ s)⟩
  · intro m hm
    obtain ⟨hfar, hnear⟩ := List.mem_filter.mp hm
    simp only [comesNear, Bool.and_eq_true, decide_eq_true_eq] at hnear
    exact ⟨h m hfar hnear.1 hnear.2, hnear.2⟩

end Sys2Proof.Machine

/-! SUPPORT. The egress queues and their active lists, and the messages that enter them (R44, R122). -/

namespace Sys2Proof.Machine

variable {fs : List Fld} {ps : List Piece} {s t : State}

/-! ### Queues and active lists -/

@[simp] theorem queueMsgs_setQueue_same (k : Nat) (l : List TxMsg) (s : State) : queueMsgs k (setQueue k l s) = l := by
  cases l <;> simp [queueMsgs, setQueue]

theorem queueMsgs_setQueue_ne {k j : Nat} (l : List TxMsg) (s : State) (h : j ≠ k) : queueMsgs j (setQueue k l s) = queueMsgs j s :=
  look_put_ne _ _ _ h

@[simp] theorem queueMsgs_setActive (k lport prio : Nat) (l : List Nat) (s : State) : queueMsgs k (setActive lport prio l s) = queueMsgs k s := rfl

@[simp] theorem activeOf_setActive_same (lport prio : Nat) (l : List Nat) (s : State) : activeOf lport prio (setActive lport prio l s) = l := by
  cases l <;> simp [activeOf, setActive]

theorem queueKey_ne {q r : Nat} (lport : Nat) (h : q ≠ r) : queueKey lport q ≠ queueKey lport r := by
  unfold queueKey queueOf
  omega

/-! ### A message enters its queue -/

section Enqueue

variable (lport q : Nat) (m : TxMsg) (s : State)

/-- A message that enters a queue changes the queues and the active lists, and nothing else. -/
theorem enqueue_state : ∃ fq fa, enqueue lport q m s = { s with fhQueue := fq, fhActive := fa } := by
  unfold enqueue
  dsimp only
  split <;> exact ⟨_, _, rfl⟩

@[simp] theorem getF_enqueue (f : Fld) : getF f (enqueue lport q m s) = getF f s := by
  obtain ⟨fq, fa, hstate⟩ := enqueue_state lport q m s
  rw [hstate]; rfl

@[simp] theorem queueMsgs_enqueue_same : queueMsgs (queueKey lport q) (enqueue lport q m s) = queueMsgs (queueKey lport q) s ++ [m] := by
  unfold enqueue
  dsimp only
  split <;> simp

/-- Queue 15 stands in no active list. -/
theorem enqueue_15 : enqueue lport 15 m s = setQueue (queueKey lport 15) (queueMsgs (queueKey lport 15) s ++ [m]) s := by
  simp [enqueue]

variable {lport q m s}

theorem mem_activeOf_enqueue (h : queueMsgs (queueKey lport q) s = [] ∧ q ≠ 15) :
    q ∈ activeOf lport (getF (FH_Qq_CFG_PRIO (lport / 8) (queueOf lport q)) s) (enqueue lport q m s) := by
  simp [enqueue, h]

end Enqueue

/-! ### Buckets that come due (R122) -/

/-- Bucket x of engine p and domain n has come due. -/
def bucketIsDue (p n : Nat) (s : State) (x : Nat × TxMsg) : Bool := decide (x.2.lport / 8 = p) && decide (x.2.td = n) && decide (x.1 ≤ counter n s)

/-- The wheels without the buckets that have come due. -/
def wheelsLeft (p n : Nat) (s : State) : State := { s with fhWheel := s.fhWheel.filter (fun x => !bucketIsDue p n s x) }

/-- The number of the queue that a flow's messages enter. -/
def flowQueueOf (p : Nat) (m : TxMsg) (s : State) : Nat := getF (FH_Ff_MAP_QUEUE p m.flow) s

theorem exec_bucketDue (p : Fin 4) (n : Fin 6) (s : State) : exec (.bucketDue p n) s =
    goesOn s (((s.fhWheel.filter (bucketIsDue p n s)).foldl (fun acc x => txInsert x acc) []).foldl
      (fun t x => enqueue x.2.lport (flowQueueOf p x.2 t) x.2 t) (wheelsLeft p n s)) := rfl

theorem bucketDue_completes_one {p : Fin 4} {n : Fin 6} {b : Nat} {m : TxMsg} (h : s.fhWheel.filter (bucketIsDue p n s) = [(b, m)]) :
    Completes (.bucketDue p n) s (fun t =>
      queueMsgs (queueKey m.lport (flowQueueOf p m s)) t = queueMsgs (queueKey m.lport (flowQueueOf p m s)) s ++ [m] ∧
      t.fhWheel = s.fhWheel.filter (fun x => !bucketIsDue p n s x) ∧
      (queueMsgs (queueKey m.lport (flowQueueOf p m s)) s = [] ∧ flowQueueOf p m s ≠ 15 →
        flowQueueOf p m s ∈ activeOf m.lport (getF (FH_Qq_CFG_PRIO (m.lport / 8) (queueOf m.lport (flowQueueOf p m s))) s) t) ∧
      t.toFrontState = { s.toFrontState with fhWheel := t.fhWheel, fhQueue := t.fhQueue, fhActive := t.fhActive } ∧
      RegsExcept [] s t ∧ Frame [.front] s t) := by
  have hexec : exec (.bucketDue p n) s = goesOn s (enqueue m.lport (flowQueueOf p m s) m (wheelsLeft p n s)) := by
    rw [exec_bucketDue, h]; rfl
  obtain ⟨fq, fa, hstate⟩ := enqueue_state m.lport (flowQueueOf p m s) m (wheelsLeft p n s)
  refine completes_of_goesOn hexec (fun _ _ h => h) ⟨queueMsgs_enqueue_same _ _ m (wheelsLeft p n s), ?_,
    fun h => mem_activeOf_enqueue (s := wheelsLeft p n s) h, ?_⟩ <;> rw [hstate]
  · rfl
  · exact ⟨rfl, regsExcept_refl _ s, (frame_withFront (t := s) _ (by decide)).mpr (frame_refl _ s)⟩

/-- Of two messages of one queue and release time, that of the C-plane enters first. -/
theorem bucketDue_completes_two {p : Fin 4} {n : Fin 6} {b : Nat} {m m' : TxMsg} (h : s.fhWheel.filter (bucketIsDue p n s) = [(b, m), (b, m')])
    (hplanes : m.release = m'.release ∧ m.cplane = false ∧ m'.cplane = true) (hflow : m.lport = m'.lport ∧ m.flow = m'.flow) :
    Completes (.bucketDue p n) s (fun t =>
      queueMsgs (queueKey m.lport (flowQueueOf p m s)) t = queueMsgs (queueKey m.lport (flowQueueOf p m s)) s ++ [m', m]) := by
  obtain ⟨hrelease, hu, hc⟩ := hplanes
  obtain ⟨hport, hsame⟩ := hflow
  have hfirst : flowQueueOf p m' (wheelsLeft p n s) = flowQueueOf p m s := by rw [flowQueueOf, ← hsame]; rfl
  have hsecond : ∀ q, flowQueueOf p m (enqueue m.lport q m' (wheelsLeft p n s)) = flowQueueOf p m s := fun _ => getF_enqueue _ _ _ _ _
  have horder : txBefore (b, m') (b, m) = true := by simp [txBefore, hrelease, hu, hc]
  have hexec : exec (.bucketDue p n) s = goesOn s (enqueue m.lport (flowQueueOf p m s) m (enqueue m.lport (flowQueueOf p m s) m' (wheelsLeft p n s))) := by
    rw [exec_bucketDue, h]
    simp [txInsert, horder, hfirst, hsecond, ← hport]
  refine completes_of_goesOn hexec (fun _ _ h => h) ?_
  rw [queueMsgs_enqueue_same, queueMsgs_enqueue_same, List.append_assoc]
  rfl

/-- A PTP message enters queue 15 of its sub-port (R44). -/
theorem ptpTransmit_completes {k : Fin 32} (m : TxMsg) (hport : subPortExists k s = true) :
    Completes (.ptpTransmit k m) s (fun t =>
      queueMsgs (queueKey k 15) t = queueMsgs (queueKey k 15) s ++ [{ m with lport := k }] ∧
      t.toFrontState = { s.toFrontState with fhQueue := t.fhQueue } ∧ RegsExcept [] s t ∧ Frame [.front] s t) := by
  have hexec : exec (.ptpTransmit k m) s = goesOn s (enqueue k 15 { m with lport := k } s) := by
    show execPtpTransmit k m s = _
    simp [execPtpTransmit, hport]
  rw [enqueue_15] at hexec
  exact completes_of_goesOn hexec (fun _ _ h => h) ⟨queueMsgs_setQueue_same _ _ s, rfl, regsExcept_refl _ s,
    (frame_withFront (t := s) _ (by decide)).mpr (frame_refl _ s)⟩

end Sys2Proof.Machine

/-! SUPPORT. Frames that a sub-port sends or discards: the round robin's choice and what sending the head of a queue does (R122 to R125). -/

namespace Sys2Proof.Machine

variable {fs : List Fld} {ps : List Piece} {s t : State}

/-! ### A queue that leaves its list (R122) -/

theorem foldl_setActive_state (lport : Nat) (F : State → Nat → List Nat) (l : List Nat) (s : State) :
    ∃ fa, l.foldl (fun s prio => setActive lport prio (F s prio) s) s = { s with fhActive := fa } := by
  induction l generalizing s with
  | nil => exact ⟨_, rfl⟩
  | cons prio l ih =>
    obtain ⟨fa, h⟩ := ih (setActive lport prio (F s prio) s)
    exact ⟨fa, h⟩

/-- A queue that leaves its list changes the round robin's state, and nothing else. -/
theorem queueLeaves_state (lport q : Nat) (s : State) :
    ∃ fa fd fv, queueLeaves lport q s = { s with fhActive := fa, fhDeficit := fd, fhVisit := fv } := by
  obtain ⟨fa, h⟩ := foldl_setActive_state lport (fun s prio => (activeOf lport prio s).filter (fun x => decide (x ≠ q))) (List.range 8) s
  unfold queueLeaves
  dsimp only
  rw [h]
  exact ⟨_, _, _, rfl⟩

/-! ### The choice of the round robin (R122) -/

/-- The deficit with which queue q is visited: a new visit adds the quantum. -/
def visitDeficit (lport prio q : Nat) (s : State) : Nat :=
  look 0 (queueKey lport q) s.fhDeficit +
    (if look 0 (lport * 8 + prio) s.fhVisit ≠ q + 1 then getF (FH_Qq_CFG_QUANTUM (lport / 8) (queueOf lport q)) s * 64 else 0)

/-- The round robin of a priority visits queue q. -/
def visiting (lport prio q : Nat) (s : State) : State :=
  { s with fhDeficit := put (queueKey lport q) (some (visitDeficit lport prio q s)) s.fhDeficit
           fhVisit := put (lport * 8 + prio) (some (q + 1)) s.fhVisit }

theorem visit_visiting (lport prio q : Nat) (s : State) : look 0 (lport * 8 + prio) (visiting lport prio q s).fhVisit = q + 1 := by
  simp [visiting]

theorem deficit_visiting (lport prio q : Nat) (s : State) :
    look 0 (queueKey lport q) (visiting lport prio q s).fhDeficit = visitDeficit lport prio q s := by
  simp [visiting]

theorem drr_of_idle {lport prio : Nat} (h : activeOf lport prio s = []) (n : Nat) : drr lport prio n s = (none, s) := by
  cases n with
  | zero => rfl
  | succ n => rw [drr, h]

section Choice

variable {lport prio q : Nat} {l : List Nat} {m : TxMsg} {r : List TxMsg} (hactive : activeOf lport prio s = q :: l)
  (hshaper : shaperAllows (queueKey lport q) s = true) (hhead : queueMsgs (queueKey lport q) s = m :: r)
  (hlen : m.len ≤ visitDeficit lport prio q s)
include hactive hshaper hhead hlen

/-- The head of the list may send: its shaper allows it, and its head frame fits its deficit. -/
theorem drr_of_ready (n : Nat) : drr lport prio (n + 1) s = (some q, visiting lport prio q s) := by
  have hhead' : ∀ fd fv, queueMsgs (queueKey lport q) { s with fhDeficit := fd, fhVisit := fv } = m :: r := fun _ _ => hhead
  have hshaper' : ∀ fd fv, shaperAllows (queueKey lport q) { s with fhDeficit := fd, fhVisit := fv } = true := fun _ _ => hshaper
  simp only [visitDeficit] at hlen
  rw [drr, hactive]
  simp only [List.all_cons, hshaper, Bool.not_true, Bool.false_and, Bool.false_eq_true, if_false, hhead', hshaper', decide_eq_true_eq, hlen,
    and_self, if_true, visiting, visitDeficit]

theorem nextQueue_of_ready (h15 : queueMsgs (queueKey lport 15) s = []) (hprio : prio < 8)
    (hidle : ∀ j ∈ List.range 8, prio < j → activeOf lport j s = []) : nextQueue lport s = (some q, visiting lport prio q s) := by
  have hnone : ∀ j < 8, prio < j → drr lport j 4096 s = (none, s) := fun j hj hlt => drr_of_idle (hidle j (List.mem_range.mpr hj) hlt) _
  have hready := drr_of_ready hactive hshaper hhead hlen 4095
  rw [nextQueue, h15]
  interval_cases prio <;> simp [hnone, hready]

end Choice

theorem nextQueue_of_15 {lport : Nat} {m : TxMsg} {r : List TxMsg} (h : queueMsgs (queueKey lport 15) s = m :: r) :
    nextQueue lport s = (some 15, s) := by
  rw [nextQueue, h]; rfl

/-! ### Sending and discarding a head (R122 to R125) -/

/-- The queue's head message has left on the wire, and the queue stays in its list. -/
theorem sendHead_15 (lport : Nat) (m : TxMsg) (r : List TxMsg) (s : State) : sendHead lport 15 m r s = setQueue (queueKey lport 15) r s := rfl

/-- Sending charges the deficit of the queue and its shaper; a queue that holds more messages stays in its list. -/
theorem sendHead_of_more {lport q : Nat} (m : TxMsg) {r : List TxMsg} (hq : q ≠ 15) (hr : r ≠ []) (s : State) :
    sendHead lport q m r s = { setQueue (queueKey lport q) r s with
      fhDeficit := put (queueKey lport q) (some (look 0 (queueKey lport q) s.fhDeficit - m.len)) s.fhDeficit
      fhTokens := if (shapeOf (queueKey lport q) s).1 = 0 then s.fhTokens
        else put (queueKey lport q) (some (tokensOf (queueKey lport q) s - (m.len + 20) * 125)) s.fhTokens } := by
  have hsome : r.isEmpty = false := by simpa using hr
  rw [sendHead, if_neg hq]
  simp only [hsome, Bool.false_eq_true, if_false]
  rfl

/-- The queue without its head, out of its list when it holds nothing more. -/
def headTaken (lport q : Nat) (r : List TxMsg) (s : State) : State :=
  if r.isEmpty then queueLeaves lport q (setQueue (queueKey lport q) r s) else setQueue (queueKey lport q) r s

/-- Taking messages from a queue changes the queue and the round robin's state, and nothing else. -/
theorem headTaken_state (lport q : Nat) (r : List TxMsg) (s : State) : ∃ fa fd fv, headTaken lport q r s =
    { setQueue (queueKey lport q) r s with fhActive := fa, fhDeficit := fd, fhVisit := fv } := by
  unfold headTaken
  split
  · exact queueLeaves_state _ _ _
  · exact ⟨_, _, _, rfl⟩

theorem discardHead_eq (lport q : Nat) (m : TxMsg) (r : List TxMsg) (s : State) : discardHead lport q m r s = txMiss m (headTaken lport q r s) := rfl

section Transmit

variable {k : Fin 32} {q : Nat} {m : TxMsg} {r : List TxMsg} {s1 : State} (hlink : subPortExists k s = true ∧ linkUp k s = true)
include hlink

section Next

variable (hnext : nextQueue k s = (some q, s1)) (hhead : queueMsgs (queueKey k q) s1 = m :: r)
include hnext hhead

theorem exec_frameTransmit_of_fits (hfits : q = 15 ∨ fitsWindow m s1 = true) (hstamp : m.stamp = none) : exec (.frameTransmit k) s =
    goesOn s { countSub FH_Ss_TX_MSG_COUNT k (sendHead k q m r s1) with
      fhSent := m :: (countSub FH_Ss_TX_MSG_COUNT k (sendHead k q m r s1)).fhSent } := by
  show execFrameTransmit k s = _
  have hkeep : ¬ (q ≠ 15 ∧ (!fitsWindow m s1) = true) := by
    rintro ⟨hne, hno⟩
    rw [hfits.resolve_left hne] at hno
    exact absurd hno (by decide)
  unfold execFrameTransmit
  rw [if_pos hlink, hnext]
  dsimp only
  rw [hhead]
  dsimp only
  rw [if_neg hkeep, hstamp]

theorem exec_frameTransmit_of_late (hq : q ≠ 15) (hfits : fitsWindow m s1 = false) :
    exec (.frameTransmit k) s = goesOn s (txMiss m (headTaken k q r s1)) := by
  show execFrameTransmit k s = _
  have hdiscard : q ≠ 15 ∧ (!fitsWindow m s1) = true := ⟨hq, by rw [hfits]; rfl⟩
  unfold execFrameTransmit
  rw [if_pos hlink, hnext]
  dsimp only
  rw [hhead]
  dsimp only
  rw [if_pos hdiscard, discardHead_eq]

end Next

theorem frameTransmit_completes_15 (hhead : queueMsgs (queueKey k 15) s = m :: r) (hstamp : m.stamp = none) :
    Completes (.frameTransmit k) s (fun t =>
      t.fhSent = m :: s.fhSent ∧ queueMsgs (queueKey k 15) t = r ∧ counted (8 + k / 8) (FH_Ss_TX_MSG_COUNT (k / 8) (k % 8)) s t ∧
      t.toFrontState = { s.toFrontState with fhSent := t.fhSent, fhQueue := t.fhQueue } ∧ RegsExcept [] s t ∧ Frame [.front, .tallies] s t) := by
  have hexec := exec_frameTransmit_of_fits hlink (nextQueue_of_15 hhead) hhead (.inl rfl) hstamp
  rw [sendHead_15] at hexec
  refine completes_of_goesOn hexec (fun _ _ h => h) ⟨rfl, queueMsgs_setQueue_same _ _ s, counted_countSub _ _ s, rfl, regsExcept_refl _ s, ?_⟩
  exact (frame_withFront (t := countSub FH_Ss_TX_MSG_COUNT k s) _ (by decide)).mpr ((frame_countSub (by decide)).mpr (frame_refl [.front, .tallies] s))

variable {prio : Nat} {l : List Nat} (h15 : queueMsgs (queueKey k 15) s = []) (hactive : prio < 8 ∧ activeOf k prio s = q :: l) (hq : q < 15)
  (hidle : ∀ j ∈ List.range 8, prio < j → activeOf k j s = []) (hshaper : shaperAllows (queueKey k q) s = true)
  (hhead : queueMsgs (queueKey k q) s = m :: r)
include h15 hactive hq hidle hshaper hhead

theorem frameTransmit_completes_sent (hlen : m.len ≤ visitDeficit k prio q s) (hstamp : m.stamp = none) (hfits : fitsWindow m s = true) (hr : r ≠ []) :
    Completes (.frameTransmit k) s (fun t =>
      t.fhSent = m :: s.fhSent ∧ queueMsgs (queueKey k q) t = r ∧ look 0 (k * 8 + prio) t.fhVisit = q + 1 ∧ activeOf k prio t = q :: l ∧
      look 0 (queueKey k q) t.fhDeficit = visitDeficit k prio q s - m.len ∧
      tokensOf (queueKey k q) t = tokensOf (queueKey k q) s - (if (shapeOf (queueKey k q) s).1 = 0 then 0 else ((m.len + 20) * 125 : Nat)) ∧
      RegsExcept [] s t ∧ Frame [.front, .tallies] s t) := by
  have hnext := nextQueue_of_ready hactive.2 hshaper hhead hlen h15 hactive.1 hidle
  have hexec := exec_frameTransmit_of_fits hlink hnext hhead (.inr hfits) hstamp
  rw [sendHead_of_more m hq.ne hr] at hexec
  refine completes_of_goesOn hexec (fun _ _ h => h) ⟨rfl, queueMsgs_setQueue_same _ _ (visiting k prio q s), visit_visiting k prio q s, hactive.2,
    ?_, ?_, regsExcept_refl _ s, ?_⟩
  · rw [← deficit_visiting k prio q s]
    exact look_put_same 0 (queueKey k q) (some (look 0 (queueKey k q) (visiting k prio q s).fhDeficit - m.len)) (visiting k prio q s).fhDeficit
  · have hshape : shapeOf (queueKey k q) (visiting k prio q s) = shapeOf (queueKey k q) s := rfl
    have htokens : tokensOf (queueKey k q) (visiting k prio q s) = tokensOf (queueKey k q) s := rfl
    rw [tokensOf, hshape, htokens]
    split
    · rw [Nat.cast_zero, sub_zero]; rfl
    · refine (look_put_same (0 : Int) (queueKey k q) (some (tokensOf (queueKey k q) s - (m.len + 20) * 125)) s.fhTokens).trans ?_
      push_cast
      rfl
  · exact (frame_withFront (t := countSub FH_Ss_TX_MSG_COUNT k s) _ (by decide)).mpr ((frame_countSub (by decide)).mpr (frame_refl [.front, .tallies] s))

theorem frameTransmit_completes_discarded (hlen : m.len ≤ look 0 (queueKey k q) s.fhDeficit) (hport : m.lport = k.val) (hfits : fitsWindow m s = false) :
    Completes (.frameTransmit k) s (fun t =>
      t.fhSent = s.fhSent ∧ queueMsgs (queueKey k q) t = r ∧ counted (8 + k / 8) (FH_Ss_TX_MISS_COUNT (k / 8) (k % 8)) s t ∧
      flagF (FH_STAT_TX_MISS (k / 8)) t = true ∧ tokensOf (queueKey k q) t = tokensOf (queueKey k q) s) := by
  have hnext := nextQueue_of_ready hactive.2 hshaper hhead (hlen.trans (Nat.le_add_right _ _)) h15 hactive.1 hidle
  have hexec := exec_frameTransmit_of_late hlink hnext hhead hq.ne hfits
  obtain ⟨fa, fd, fv, htaken⟩ := headTaken_state k q r (visiting k prio q s)
  have hcounted := counted_txMiss m (headTaken k q r (visiting k prio q s))
  have hflag := flagF_txMiss m (headTaken k q r (visiting k prio q s))
  have hfront := toFrontState_txMiss m (headTaken k q r (visiting k prio q s))
  rw [htaken] at hexec hcounted hflag hfront
  rw [hport] at hcounted hflag
  refine completes_of_goesOn hexec (fun _ _ h => h) ⟨?_, ?_, hcounted, hflag, ?_⟩
  · rw [hfront]; rfl
  · rw [queueMsgs, hfront]
    exact queueMsgs_setQueue_same _ _ (visiting k prio q s)
  · rw [tokensOf, hfront]; rfl

end Transmit

end Sys2Proof.Machine

/-! SUPPORT. Messages that leave their queues at their deadlines (R125). -/

namespace Sys2Proof.Machine

variable {fs : List Fld} {ps : List Piece} {s t u : State}

theorem frame_trans (h : Frame ps s t) (h' : Frame ps t u) : Frame ps s u := by
  intro g hg
  have h1 := h g hg
  have h2 := h' g hg
  cases g with
  | tallies | bus | commands => simp_all [Piece.same]
  | radio =>
    simp only [Piece.same] at h1 h2 ⊢
    rw [h2, h1]
  | _ => exact h2.trans h1

/-! ### Several messages are lost -/

section Misses

variable {p : Nat} {l : List TxMsg} (hport : ∀ m ∈ l, m.lport / 8 = p)

theorem toFrontState_foldl_txMiss (l : List TxMsg) (s : State) : (l.foldl (fun s m => txMiss m s) s).toFrontState = s.toFrontState := by
  induction l generalizing s with
  | nil => rfl
  | cons m l ih => exact (ih (txMiss m s)).trans (toFrontState_txMiss m s)

theorem frame_foldl_txMiss (h : [.radio, .tallies, .bus] ⊆ ps) (l : List TxMsg) : Frame ps s (l.foldl (fun s m => txMiss m s) t) ↔ Frame ps s t := by
  induction l generalizing t with
  | nil => exact Iff.rfl
  | cons m l ih => exact ih.trans (frame_txMiss h)

include hport

theorem regsExcept_foldl_txMiss (hv : vecRegs ⊆ fs) (hf : FH_STAT_TX_MISS p ∈ fs) :
    RegsExcept fs s (l.foldl (fun s m => txMiss m s) t) ↔ RegsExcept fs s t := by
  induction l generalizing t with
  | nil => exact Iff.rfl
  | cons m l ih =>
    rw [List.forall_mem_cons] at hport
    exact (ih hport.2).trans (regsExcept_txMiss hv (hport.1 ▸ hf))

/-- TX_MISS is set once a message has been lost, and stays set. -/
theorem flagF_foldl_txMiss (h : flagF (FH_STAT_TX_MISS p) s = true ∨ l ≠ []) : flagF (FH_STAT_TX_MISS p) (l.foldl (fun s m => txMiss m s) s) = true := by
  induction l generalizing s with
  | nil => simpa using h
  | cons m l ih =>
    rw [List.forall_mem_cons] at hport
    exact ih hport.2 (.inl (hport.1 ▸ flagF_txMiss m s))

end Misses

/-! ### The queues of a sub-port at the deadlines -/

theorem key_COUNT_ne_txMiss (n p : Nat) : ∀ f ∈ FH_STAT_TX_MISS p :: vecRegs, (AIR_TDn_COUNT_VALUE n).key ≠ f.key := by
  simp only [vecRegs, List.forall_mem_cons, List.not_mem_nil, false_imp_iff, implies_true, and_true, key_AIR_TDn_COUNT_VALUE, key_FH_STAT_TX_MISS,
    key_DEV_HOSTERR_NO_MASTER, key_DEV_HOSTERR_FUNC, key_DEV_HOSTERR_VEC]
  omega

/-- Message m is at or past its deadline. -/
def pastDeadline (s : State) (m : TxMsg) : Bool := decide (m.deadline ≤ counter m.td s)

/-- The messages of queue q of sub-port k that are past their deadlines, and the others. -/
def lateMsgs (k q : Nat) (s : State) : List TxMsg := (queueMsgs (queueKey k q) s).filter (pastDeadline s)
def onTimeMsgs (k q : Nat) (s : State) : List TxMsg := (queueMsgs (queueKey k q) s).filter (fun m => !pastDeadline s m)

section DropLate

variable {k q : Nat}

theorem onTimeMsgs_of_none (h : (queueMsgs (queueKey k q) s).any (pastDeadline s) = false) : onTimeMsgs k q s = queueMsgs (queueKey k q) s := by
  rw [List.any_eq_false] at h
  exact List.filter_eq_self.mpr fun m hm => by simpa using h m hm

theorem length_onTimeMsgs_lt (h : (queueMsgs (queueKey k q) s).any (pastDeadline s) = true) :
    (onTimeMsgs k q s).length ≠ (queueMsgs (queueKey k q) s).length := by
  obtain ⟨m, hm, hlate⟩ := List.any_eq_true.mp h
  intro he
  have := List.length_filter_eq_length_iff.mp he m hm
  simp [hlate] at this

variable (hq : q ≠ 15)
include hq

theorem dropLate_eq : dropLate k q s = if (onTimeMsgs k q s).length = (queueMsgs (queueKey k q) s).length then s
    else if (onTimeMsgs k q s).isEmpty then
      queueLeaves k q ((lateMsgs k q s).foldl (fun s m => txMiss m s) (setQueue (queueKey k q) (onTimeMsgs k q s) s))
    else (lateMsgs k q s).foldl (fun s m => txMiss m s) (setQueue (queueKey k q) (onTimeMsgs k q s) s) := by
  have hlost : ∀ m : TxMsg, (decide (q ≠ 15) && decide (m.deadline ≤ counter m.td s)) = pastDeadline s m := fun m => by simp [pastDeadline, hq]
  unfold dropLate
  simp only [hlost]
  rfl

theorem dropLate_of_none (h : (queueMsgs (queueKey k q) s).any (pastDeadline s) = false) : dropLate k q s = s := by
  rw [dropLate_eq hq, onTimeMsgs_of_none h, if_pos rfl]

theorem dropLate_of_some (h : (queueMsgs (queueKey k q) s).any (pastDeadline s) = true) : ∃ fa fd fv, dropLate k q s =
    { (lateMsgs k q s).foldl (fun s m => txMiss m s) (setQueue (queueKey k q) (onTimeMsgs k q s) s) with
      fhActive := fa, fhDeficit := fd, fhVisit := fv } := by
  rw [dropLate_eq hq, if_neg (length_onTimeMsgs_lt h)]
  split
  · exact queueLeaves_state _ _ _
  · exact ⟨_, _, _, rfl⟩

end DropLate

/-- Between s and t the queues l of sub-port k have lost their messages that are past their deadlines, and nothing else has been sent or moved. -/
structure LateDropped (k : Nat) (l : List Nat) (s t : State) : Prop where
  dropped : ∀ q ∈ l, queueMsgs (queueKey k q) t = onTimeMsgs k q s
  kept : ∀ q ∉ l, queueMsgs (queueKey k q) t = queueMsgs (queueKey k q) s
  told : flagF (FH_STAT_TX_MISS (k / 8)) s = true ∨ l.any (fun q => (queueMsgs (queueKey k q) s).any (pastDeadline s)) = true →
    flagF (FH_STAT_TX_MISS (k / 8)) t = true
  sent : t.fhSent = s.fhSent
  wheel : t.fhWheel = s.fhWheel
  regs : RegsExcept (FH_STAT_TX_MISS (k / 8) :: vecRegs) s t
  frame : Frame [.front, .radio, .tallies, .bus] s t

namespace LateDropped

variable {k q : Nat} {l : List Nat}

theorem refl (k : Nat) (s : State) : LateDropped k [] s s :=
  ⟨fun _ h => absurd h List.not_mem_nil, fun _ _ => rfl, fun h => by simpa using h, rfl, rfl, regsExcept_refl _ s, frame_refl _ s⟩

/-- No deadline comes nearer by the loss of messages. -/
theorem pastDeadline_eq (h : LateDropped k l s t) : pastDeadline t = pastDeadline s := by
  funext m
  have hcount : counter m.td t = counter m.td s := h.regs _ (key_COUNT_ne_txMiss _ _)
  rw [pastDeadline, pastDeadline, hcount]

theorem cons (h : LateDropped k [q] s t) (h' : LateDropped k l t u) (hq : q ∉ l) : LateDropped k (q :: l) s u where
  dropped r hr := by
    obtain rfl | hr := List.mem_cons.mp hr
    · rw [h'.kept r hq, h.dropped r (List.mem_singleton_self r)]
    · have hne : r ∉ [q] := fun he => hq (List.mem_singleton.mp he ▸ hr)
      rw [h'.dropped r hr, onTimeMsgs, h.kept r hne, h.pastDeadline_eq, onTimeMsgs]
  kept r hr := by
    rw [List.mem_cons, not_or] at hr
    rw [h'.kept r hr.2, h.kept r (by simpa using hr.1)]
  told := by
    have hsame : ∀ r ∈ l, queueMsgs (queueKey k r) t = queueMsgs (queueKey k r) s := fun r hr =>
      h.kept r fun he => hq (List.mem_singleton.mp he ▸ hr)
    rintro (hs | hs)
    · exact h'.told (.inl (h.told (.inl hs)))
    · rw [List.any_cons, Bool.or_eq_true] at hs
      obtain hlate | hlate := hs
      · exact h'.told (.inl (h.told (.inr (by simpa using hlate))))
      · obtain ⟨r, hr, hlate⟩ := List.any_eq_true.mp hlate
        exact h'.told (.inr (List.any_eq_true.mpr ⟨r, hr, by rwa [hsame r hr, h.pastDeadline_eq]⟩))
  sent := h'.sent.trans h.sent
  wheel := h'.wheel.trans h.wheel
  regs := regsExcept_trans h.regs h'.regs
  frame := frame_trans h.frame h'.frame

/-- One queue: its late messages are lost, and it leaves its list when nothing is left. -/
theorem of_dropLate (hq : q ≠ 15) (hport : ∀ m ∈ queueMsgs (queueKey k q) s, m.lport = k) : LateDropped k [q] s (dropLate k q s) := by
  cases hany : (queueMsgs (queueKey k q) s).any (pastDeadline s) with
  | false =>
    rw [dropLate_of_none hq hany]
    refine ⟨fun r hr => ?_, fun _ _ => rfl, fun h => ?_, rfl, rfl, regsExcept_refl _ s, frame_refl _ s⟩
    · rw [List.mem_singleton.mp hr, onTimeMsgs_of_none hany]
    · simpa [hany] using h
  | true =>
    obtain ⟨fa, fd, fv, hstate⟩ := dropLate_of_some hq hany
    have hfront := toFrontState_foldl_txMiss (lateMsgs k q s) (setQueue (queueKey k q) (onTimeMsgs k q s) s)
    have hsub : ∀ m ∈ lateMsgs k q s, m.lport / 8 = k / 8 := fun m hm => by rw [hport m (List.mem_filter.mp hm).1]
    have hqueue : ∀ j, queueMsgs j (dropLate k q s) = queueMsgs j (setQueue (queueKey k q) (onTimeMsgs k q s) s) := fun j => by
      rw [hstate]
      exact (congrArg (fun x : FrontState => look [] j x.fhQueue) hfront :)
    refine ⟨fun r hr => ?_, fun r hr => ?_, fun _ => ?_, ?_, ?_, ?_, ?_⟩
    · rw [List.mem_singleton.mp hr, hqueue, queueMsgs_setQueue_same]
    · rw [hqueue, queueMsgs_setQueue_ne _ _ (queueKey_ne k (by simpa using hr))]
    · rw [hstate]
      refine flagF_foldl_txMiss hsub (.inr ?_)
      simpa [lateMsgs] using hany
    · rw [hstate]
      exact (congrArg FrontState.fhSent hfront :)
    · rw [hstate]
      exact (congrArg FrontState.fhWheel hfront :)
    · rw [hstate]
      exact (regsExcept_foldl_txMiss hsub (List.subset_cons_self _ _) List.mem_cons_self).mpr (regsExcept_refl _ s)
    · rw [hstate]
      refine (frame_withFront _ (by decide)).mpr ((frame_foldl_txMiss (by decide) _).mpr ((frame_withFront (t := s) _ (by decide)).mpr (frame_refl _ s)))

/-- The queues one after the other. -/
theorem of_foldl (l : List Nat) (s : State) (hl : l.Nodup) (hq : ∀ q ∈ l, q ≠ 15) (hport : ∀ q ∈ l, ∀ m ∈ queueMsgs (queueKey k q) s, m.lport = k) :
    LateDropped k l s (l.foldl (fun s q => dropLate k q s) s) := by
  induction l generalizing s with
  | nil => exact refl k s
  | cons q l ih =>
    rw [List.nodup_cons] at hl
    rw [List.forall_mem_cons] at hq hport
    have hfirst : LateDropped k [q] s (dropLate k q s) := of_dropLate hq.1 hport.1
    refine hfirst.cons (ih _ hl.2 hq.2 fun r hr m hm => ?_) hl.1
    rw [hfirst.kept r fun he => hl.1 (List.mem_singleton.mp he ▸ hr)] at hm
    exact hport.2 r hr m hm

end LateDropped

theorem txDeadlineMiss_completes {k : Fin 32} (hport : ∀ q ∈ List.range 15, ∀ m ∈ queueMsgs (queueKey k q) s, m.lport = k.val) :
    Completes (.txDeadlineMiss k) s (fun t =>
      (∀ q ∈ List.range 15, queueMsgs (queueKey k q) t = (queueMsgs (queueKey k q) s).filter (fun m => !pastDeadline s m)) ∧
      ((List.range 15).any (fun q => (queueMsgs (queueKey k q) s).any (pastDeadline s)) = true → flagF (FH_STAT_TX_MISS (k / 8)) t = true) ∧
      queueMsgs (queueKey k 15) t = queueMsgs (queueKey k 15) s ∧ t.fhSent = s.fhSent ∧ t.fhWheel = s.fhWheel ∧
      RegsExcept (FH_STAT_TX_MISS (k / 8) :: vecRegs) s t ∧ Frame [.front, .radio, .tallies, .bus] s t) := by
  have hdrop : LateDropped k (List.range 15) s ((List.range 15).foldl (fun s q => dropLate k q s) s) :=
    .of_foldl _ s List.nodup_range (fun q hq => (List.mem_range.mp hq).ne) hport
  exact completes_of_goesOn (c := .txDeadlineMiss k) rfl (fun _ _ h => h)
    ⟨hdrop.dropped, fun h => hdrop.told (.inr h), hdrop.kept 15 List.not_mem_range_self, hdrop.sent, hdrop.wheel, hdrop.regs, hdrop.frame⟩

end Sys2Proof.Machine

namespace Sys2Proof
open Machine

/-- Settles O44: an ingress message by its class, an egress message by its way from the wheel through its queue to the wire or out of its window. -/
theorem fronthaulMessages : Obligations.FronthaulMessages :=
  ⟨fun _ _ _ _ _ hport hgood hflow hcell hkind hsym hclass hpir => uplaneIngress_completes_ontime hport hgood hflow hcell hkind hsym hclass hpir,
   fun _ _ _ _ _ hport hgood hflow hcell hkind hsym hclass => uplaneIngress_completes_late hport hgood hflow hcell hkind hsym hclass,
   fun _ _ hport h => uplaneIngress_completes_dropped hport h,
   fun _ _ _ _ hcell hvalid hflow hkind hm hnow => wheelPlace_completes_kept hcell hvalid hflow hkind hm hnow,
   fun _ _ _ hcell hvalid hflow hkind _ hrelease hdeadline => wheelPlace_completes_lost hcell hvalid hflow hkind hrelease hdeadline,
   fun _ _ h => farListEnter_completes h,
   fun _ _ _ _ _ h => bucketDue_completes_one h,
   fun _ _ _ _ _ _ h hplanes hflow => bucketDue_completes_two h hplanes hflow,
   fun _ _ _ _ hlink hhead hstamp => frameTransmit_completes_15 hlink hhead hstamp,
   fun _ _ _ _ _ _ _ hlink h15 hactive hq hidle hshaper hhead hlen hstamp hfits hr =>
     frameTransmit_completes_sent hlink h15 hactive hq hidle hshaper hhead hlen hstamp hfits hr,
   fun _ _ _ _ _ _ _ hlink h15 hactive hq hidle hshaper hhead hlen hport hfits =>
     frameTransmit_completes_discarded hlink h15 hactive hq hidle hshaper hhead hlen hport hfits,
   fun _ _ hport => txDeadlineMiss_completes hport,
   fun _ _ m hport => ptpTransmit_completes m hport⟩

end Sys2Proof

/-! SUPPORT. The work of the Coding Clusters: its jobs, its events and faults, and the counts that a code block's end makes (R162, R170, R172, R178). -/

namespace Sys2Proof.Machine

variable {fs : List Fld} {ps : List Piece} {s t : State}

/-! ### Jobs and the code blocks in hand -/

theorem findJob_modJob {c slot : Nat} {ul : Bool} {f : Job → Job} (hf : ∀ j, (f j).cell = j.cell ∧ (f j).slot = j.slot ∧ (f j).ul = j.ul) :
    findJob c slot ul (modJob c slot ul f s) = (findJob c slot ul s).map f := by
  have hsame : (fun j => decide (j.cell = c) && decide (j.slot = slot) && decide (j.ul = ul)) ∘
      (fun j => if j.cell = c ∧ j.slot = slot ∧ j.ul = ul then f j else j) =
      fun j => decide (j.cell = c) && decide (j.slot = slot) && decide (j.ul = ul) := by
    funext j
    rw [Function.comp_apply]
    split
    · simp only [hf j]
    · rfl
  unfold findJob modJob
  rw [List.find?_map, hsame]
  cases hj : s.jobs.find? (fun j => decide (j.cell = c) && decide (j.slot = slot) && decide (j.ul = ul)) with
  | none => rfl
  | some j =>
    have hmine : j.cell = c ∧ j.slot = slot ∧ j.ul = ul := by simpa [and_assoc] using List.find?_some hj
    exact congrArg some (if_pos hmine)

/-- A code block leaves the list of those in hand. -/
def codeLeft (w : CodeWork) (s : State) : State := { s with code := s.code.filter (fun v => decide (v ≠ w)) }

theorem frame_codeLeft (w : CodeWork) (hp : .radio ∈ ps) : Frame ps s (codeLeft w t) ↔ Frame ps s t :=
  frame_withRadio (r := (codeLeft w t).toRadioState) ⟨rfl, rfl, rfl⟩ hp

/-! ### Events and faults of a cluster (R172, R186) -/

section Events

variable {f : Fld}

theorem regsExcept_codEvent (hv : vecRegs ⊆ fs) (hf : f ∈ fs) : RegsExcept fs s (codEvent f t) ↔ RegsExcept fs s t := regsExcept_event hv hf _ _ _ _

theorem frame_codEvent (hb : .bus ∈ ps) (ht : .tallies ∈ ps) : Frame ps s (codEvent f t) ↔ Frame ps s t := frame_event hb ht

theorem codEvent_toRadioState (f : Fld) (s : State) : (codEvent f s).toRadioState = s.toRadioState := toRadioState_event _ _ _ _ _ _

/-- Every field but the event's own and those of a vector holds what it held. -/
theorem getF_codEvent {g : Fld} (hg : ∀ h ∈ f :: vecRegs, g.key ≠ h.key) (s : State) : getF g (codEvent f s) = getF g s :=
  (regsExcept_codEvent (List.subset_cons_self _ _) List.mem_cons_self).mpr (regsExcept_refl _ _) g hg

end Events

section Fault

variable (m : Nat)

@[simp] theorem key_COD_CCm_INFO_IN_SERVICE : (COD_CCm_INFO_IN_SERVICE m).key = m * 0x1000 + 0x18040000 := by
  simp only [Fld.key, COD_CCm_INFO_IN_SERVICE, COD_CCm_INFO]; omega
@[simp] theorem key_COD_CCm_FAULT_CAUSE : (COD_CCm_FAULT_CAUSE m).key = m * 0x1000 + 0x18040100 := by
  simp only [Fld.key, COD_CCm_FAULT_CAUSE, COD_CCm_FAULT]; omega
@[simp] theorem key_COD_CCm_FAULT_VALID : (COD_CCm_FAULT_VALID m).key = m * 0x1000 + 0x18040103 := by
  simp only [Fld.key, COD_CCm_FAULT_VALID, COD_CCm_FAULT]; omega
@[simp] theorem key_COD_CCm_FAULT_LANE : (COD_CCm_FAULT_LANE m).key = m * 0x1000 + 0x18040104 := by
  simp only [Fld.key, COD_CCm_FAULT_LANE, COD_CCm_FAULT]; omega
@[simp] theorem key_COD_STAT_FAULT : COD_STAT_FAULT.key = 0x18000010 := rfl

/-- The fields of a cluster's fault. -/
abbrev faultFields : List Fld := [COD_CCm_FAULT_LANE m, COD_CCm_FAULT_VALID m, COD_CCm_FAULT_CAUSE m]

/-- The event of a fault writes no register of a cluster. -/
theorem getF_faultEvent {g : Fld} (hg : g ∈ COD_CCm_INFO_IN_SERVICE m :: faultFields m) (s : State) : getF g (codEvent COD_STAT_FAULT s) = getF g s := by
  have hhigh : ∀ g ∈ COD_CCm_INFO_IN_SERVICE m :: faultFields m, 0x18040000 ≤ g.key := by
    simp only [faultFields, List.forall_mem_cons, List.not_mem_nil, false_imp_iff, implies_true, and_true, key_COD_CCm_INFO_IN_SERVICE,
      key_COD_CCm_FAULT_LANE, key_COD_CCm_FAULT_VALID, key_COD_CCm_FAULT_CAUSE]
    omega
  have hlow : ∀ f ∈ COD_STAT_FAULT :: vecRegs, f.key < 0x18040000 := by decide
  exact getF_codEvent (fun f hf => ((hlow f hf).trans_le (hhigh g hg)).ne') s

variable (unit cause : Nat)

section Reads

variable (s : State)

theorem lane_codFault : getF (COD_CCm_FAULT_LANE m) (codFault m unit cause s) = unit % 2 ^ (COD_CCm_FAULT_LANE m).width := by
  rw [codFault, getF_faultEvent m (by simp), getF_setF_same]

theorem valid_codFault : getF (COD_CCm_FAULT_VALID m) (codFault m unit cause s) = 1 := by
  rw [codFault, getF_faultEvent m (by simp), getF_setF_ne _ _ (by simp), getF_setF_same]
  rfl

theorem cause_codFault : getF (COD_CCm_FAULT_CAUSE m) (codFault m unit cause s) = cause % 2 ^ (COD_CCm_FAULT_CAUSE m).width := by
  rw [codFault, getF_faultEvent m (by simp), getF_setF_ne _ _ (by simp), getF_setF_ne _ _ (by simp), getF_setF_same]

theorem stat_codFault : flagF COD_STAT_FAULT (codFault m unit cause s) = true := flagF_event Nat.one_pos (by decide) _

/-- A fault takes no cluster out of service. -/
theorem clusterIn_codFault (n : Nat) : clusterIn n (codFault m unit cause s) = clusterIn n s := by
  have hkey : ∀ f ∈ faultFields m, (COD_CCm_INFO_IN_SERVICE n).key ≠ f.key := by
    simp only [List.forall_mem_cons, List.not_mem_nil, false_imp_iff, implies_true, and_true, key_COD_CCm_INFO_IN_SERVICE, key_COD_CCm_FAULT_LANE,
      key_COD_CCm_FAULT_VALID, key_COD_CCm_FAULT_CAUSE]
    omega
  simp only [List.forall_mem_cons] at hkey
  obtain ⟨hlane, hvalid, hcause, _⟩ := hkey
  unfold clusterIn flagF
  rw [codFault, getF_faultEvent n (by simp), getF_setF_ne _ _ hlane, getF_setF_ne _ _ hvalid, getF_setF_ne _ _ hcause]

theorem codFault_toRadioState : (codFault m unit cause s).toRadioState = s.toRadioState := codEvent_toRadioState _ _

end Reads

theorem regsExcept_codFault (hv : vecRegs ⊆ fs) (hf : faultFields m ⊆ fs) (hs : COD_STAT_FAULT ∈ fs) :
    RegsExcept fs s (codFault m unit cause t) ↔ RegsExcept fs s t := by
  simp only [faultFields, List.cons_subset] at hf
  obtain ⟨hlane, hvalid, hcause, _⟩ := hf
  rw [codFault, regsExcept_codEvent hv hs, regsExcept_setF _ hlane, regsExcept_setF _ hvalid, regsExcept_setF _ hcause]

theorem frame_codFault (hb : .bus ∈ ps) (ht : .tallies ∈ ps) : Frame ps s (codFault m unit cause t) ↔ Frame ps s t := by
  rw [codFault, frame_codEvent hb ht, frame_setF, frame_setF, frame_setF]

end Fault

/-- The first fault of a lane in an Assay period is counted, and retires nothing (R172). -/
theorem laneFault_of_first {m lane : Nat} (cause : Nat) (h : lookup (m * 32 + lane) s.laneFaults = none) :
    laneFault m lane cause s = { s with laneFaults := put (m * 32 + lane) (some 1) s.laneFaults } := by
  have hone : look 0 (m * 32 + lane) s.laneFaults + 1 = 1 := by rw [look, h]; rfl
  simp only [laneFault, hone]
  exact if_neg (by omega)

/-! ### The counts of a decoded code block (R170, R186) -/

/-- What the end of a decode counts. -/
def decodeCounted (r : CbDone) (s : State) : State :=
  let u := tally1024 5 (COD_CCm_ITER_COUNT r.cluster) r.iters (tally 5 (COD_CCm_DEC_CB_COUNT r.cluster) 1 s)
  if r.crcOk then u else tally 5 (COD_CCm_CB_FAIL_COUNT r.cluster) 1 u

section Counted

variable (r : CbDone)

theorem decodeCounted_toRadioState (s : State) :
    (decodeCounted r s).toRadioState = { s.toRadioState with tallyRem := (decodeCounted r s).tallyRem } := by
  unfold decodeCounted
  dsimp only
  split <;> rfl

theorem decodeCounted_toFaultState (s : State) : (decodeCounted r s).toFaultState = s.toFaultState := by
  unfold decodeCounted
  dsimp only
  split <;> rfl

theorem regsExcept_decodeCounted : RegsExcept fs s (decodeCounted r t) ↔ RegsExcept fs s t := by
  unfold decodeCounted
  dsimp only
  split <;> exact Iff.rfl

theorem frame_decodeCounted (hr : .radio ∈ ps) (ht : .tallies ∈ ps) : Frame ps s (decodeCounted r t) ↔ Frame ps s t := by
  have hiter : Frame ps s (tally1024 5 (COD_CCm_ITER_COUNT r.cluster) r.iters (tally 5 (COD_CCm_DEC_CB_COUNT r.cluster) 1 t)) ↔ Frame ps s t :=
    (frame_tally1024 hr ht).trans (frame_tally _ _ _ ht)
  unfold decodeCounted
  dsimp only
  split
  · exact hiter
  · exact (frame_tally _ _ _ ht).trans hiter

theorem counted_decodeCounted (s : State) : counted 5 (COD_CCm_DEC_CB_COUNT r.cluster) s (decodeCounted r s) := by
  have hiter : tallyKey 5 (COD_CCm_DEC_CB_COUNT r.cluster) ≠ tallyKey 5 (COD_CCm_ITER_COUNT r.cluster) := by
    simp only [tallyKey, Fld.key, COD_CCm_DEC_CB_COUNT, COD_CCm_DEC_CB, COD_CCm_ITER_COUNT, COD_CCm_ITER]; omega
  have hfail : tallyKey 5 (COD_CCm_DEC_CB_COUNT r.cluster) ≠ tallyKey 5 (COD_CCm_CB_FAIL_COUNT r.cluster) := by
    simp only [tallyKey, Fld.key, COD_CCm_DEC_CB_COUNT, COD_CCm_DEC_CB, COD_CCm_CB_FAIL_COUNT, COD_CCm_CB_FAIL]; omega
  have hdec : counted 5 (COD_CCm_DEC_CB_COUNT r.cluster) s
      (tally1024 5 (COD_CCm_ITER_COUNT r.cluster) r.iters (tally 5 (COD_CCm_DEC_CB_COUNT r.cluster) 1 s)) :=
    (liveOf_tally_ne _ _ hiter).trans (liveOf_tally_same _ _ _ _)
  unfold decodeCounted
  dsimp only
  split
  · exact hdec
  · exact (liveOf_tally_ne _ _ hfail).trans hdec

end Counted

end Sys2Proof.Machine

/-! SUPPORT. Code blocks from their dispatch to their end, one rule for each outcome (R162, R170, R172, R178). -/

namespace Sys2Proof.Machine

variable {s : State}

/-! ### Dispatch (R162) -/

theorem exec_codeBlockDispatch {m : Fin 8} {c : Fin 512} {slot : Nat} {ul : Bool} {alloc cb : Nat} {x : Cell} {j : Job}
    (hx : lookup c.val s.cells = some x) (hj : findJob c slot ul s = some j) (hin : clusterIn m s = true ∧ issues s = true)
    (hready : codeReady x j s = true) (hopen : (j.res[alloc]?).any (fun r => !r.done) = true)
    (hnew : ∀ v ∈ s.code, v ≠ ⟨v.cluster, c, slot, ul, alloc, cb, v.retried⟩) (hfirst : servedFirst x j s = false) :
    exec (.codeBlockDispatch m c slot ul alloc cb) s = goesOn s { s with code := s.code ++ [⟨m, c, slot, ul, alloc, cb, false⟩] } := by
  have hfree : s.code.any (fun v => decide (v = ⟨v.cluster, c, slot, ul, alloc, cb, v.retried⟩)) = false := by
    simpa only [List.any_eq_false, decide_eq_true_eq] using hnew
  show execCodeBlockDispatch m c slot ul alloc cb s = _
  rw [execCodeBlockDispatch, hx, hj]
  dsimp only
  rw [hfree]
  simp only [hin, hready, hopen, hfirst]
  rfl

theorem codeBlockDispatch_completes {m : Fin 8} {c : Fin 512} {slot : Nat} {ul : Bool} {alloc cb : Nat} {x : Cell} {j : Job}
    (hx : lookup c.val s.cells = some x) (hj : findJob c slot ul s = some j) (hin : clusterIn m s = true ∧ issues s = true)
    (hready : codeReady x j s = true) (hopen : (j.res[alloc]?).any (fun r => !r.done) = true)
    (hnew : ∀ v ∈ s.code, v ≠ ⟨v.cluster, c, slot, ul, alloc, cb, v.retried⟩) (hfirst : servedFirst x j s = false) :
    Completes (.codeBlockDispatch m c slot ul alloc cb) s (fun t =>
      t.toRadioState = { s.toRadioState with code := s.code ++ [⟨m, c, slot, ul, alloc, cb, false⟩] } ∧ RegsExcept [] s t ∧ Frame [.radio] s t) :=
  completes_of_goesOn (exec_codeBlockDispatch hx hj hin hready hopen hnew hfirst) (fun _ _ h => h)
    ⟨rfl, regsExcept_refl _ _,
      (frame_withRadio (r := { s.toRadioState with code := s.code ++ [⟨m, c, slot, ul, alloc, cb, false⟩] }) ⟨rfl, rfl, rfl⟩ (by decide)).mpr (frame_refl _ s)⟩

/-! ### A decode and what it leaves (R170, R178) -/

section Decode

variable {x : Cell} {j : Job} {r : CbDone}

/-- Allocation entry and handle that a decoded code block belongs to, and whether the stored codes count as zero. -/
def blockEntry (j : Job) (r : CbDone) : List Byte := jobAlloc j.pkt.payload r.alloc
def blockHandle (x : Cell) (j : Job) (r : CbDone) : Handle := handleOf x (alHandle (blockEntry j r))
def blockZero (x : Cell) (j : Job) (r : CbDone) : Bool := softZero (blockHandle x j r) (alNew (blockEntry j r)) (alTbs (blockEntry j r)) r.params

/-- The soft buffer with the code block's values combined, and the handle's header after the transport block. -/
def combined (x : Cell) (j : Job) (r : CbDone) (s : State) : State :=
  harqCombine r.cell (alHandle (blockEntry j r)) r.cb (blockZero x j r) r.rx s
def headerAfter (x : Cell) (j : Job) (r : CbDone) : Handle :=
  handleAfter (blockHandle x j r) (alRnti (blockEntry j r)) (alNew (blockEntry j r)) (blockZero x j r) (alTbs (blockEntry j r)) r.params

/-- The cells after the code block: the last one of its transport block writes the handle's header. -/
def cellsAfter (x : Cell) (j : Job) (r : CbDone) (s : State) : List (Nat × Cell) :=
  if r.last then put r.cell (some { x with handles := put (alHandle (blockEntry j r)) (some (headerAfter x j r)) x.handles }) s.cells else s.cells

/-- An allocation's outcome after the code block. -/
def decodedRes (x : Cell) (j : Job) (r : CbDone) (y : AllocRes) : AllocRes :=
  let a := blockEntry j r
  let hd := blockHandle x j r
  let y1 := { y with
    iters := max y.iters (min 255 r.iters), cbFail := min 255 (y.cbFail + b2n (!r.crcOk)),
    mismatch := y.mismatch || (!alNew a && decide (hd.gen ≠ 0) && !hd.lost && handleMismatch hd (alTbs a) r.params) }
  if r.last ∧ ¬ y1.done then
    { y1 with done := true, crcOk := r.tbOk, payload := r.payload, status := if hd.lost && !alNew a then 2 else 0, cause := 0 }
  else y1

theorem decodedRes_of_open {y : AllocRes} (hy : y.done = false) :
    ((decodedRes x j r y).iters, (decodedRes x j r y).cbFail, (decodedRes x j r y).done, (decodedRes x j r y).payload) =
      (max y.iters (min 255 r.iters), min 255 (y.cbFail + b2n (!r.crcOk)), r.last, if r.last then r.payload else y.payload) := by
  cases hlast : r.last <;> simp [decodedRes, hlast, hy]

/-- The state after a decode that both copies of the handle have served. -/
def decoded (x : Cell) (j : Job) (r : CbDone) (s : State) : State :=
  modJob r.cell r.slot true (modAlloc r.alloc (decodedRes x j r)) { decodeCounted r (combined x j r s) with cells := cellsAfter x j r s }

theorem cells_decodeCounted_combined : (decodeCounted r (combined x j r s)).cells = s.cells := by rw [decodeCounted_toRadioState]; rfl

theorem decodeDone_of_coded (hty : alType (blockEntry j r) = 1) (hx : lookup r.cell s.cells = some x) : decodeDone x j r s = decoded x j r s := by
  have hheader : (if r.last ∧ alType (blockEntry j r) = 1 then setHandle r.cell (alHandle (blockEntry j r)) (headerAfter x j r)
      (decodeCounted r (combined x j r s)) else decodeCounted r (combined x j r s)) =
      { decodeCounted r (combined x j r s) with cells := cellsAfter x j r s } := by
    unfold cellsAfter
    cases r.last with
    | true =>
      rw [if_pos ⟨rfl, hty⟩, if_pos rfl, setHandle, cells_decodeCounted_combined, hx]
    | false =>
      rw [if_neg (by simp), if_neg (by simp), ← cells_decodeCounted_combined]
  have hcombined : (if alType (blockEntry j r) = 1 then combined x j r s else s) = combined x j r s := if_pos hty
  rw [decoded, ← hheader, ← hcombined]
  rfl

theorem frame_withCells (l : List (Nat × Cell)) {ps : List Piece} {t : State} (hp : .radio ∈ ps) : Frame ps s { t with cells := l } ↔ Frame ps s t :=
  frame_withRadio (r := { t.toRadioState with cells := l }) ⟨rfl, rfl, rfl⟩ hp

theorem frame_withCode (l : List CodeWork) {ps : List Piece} {t : State} (hp : .radio ∈ ps) : Frame ps s { t with code := l } ↔ Frame ps s t :=
  frame_withRadio (r := { t.toRadioState with code := l }) ⟨rfl, rfl, rfl⟩ hp

theorem frame_combined {ps : List Piece} {t : State} (hp : .radio ∈ ps) : Frame ps s (combined x j r t) ↔ Frame ps s t :=
  frame_withRadio (r := (combined x j r t).toRadioState) ⟨rfl, rfl, rfl⟩ hp

end Decode

/-! ### The end of a code block (R170, R178) -/

theorem laneSpares_of_none (m : Nat) (h : s.spareCmd = []) : laneSpares m s = s := by simp [laneSpares, h]

/-- A read that finds no line of the handle uncorrectable changes nothing (R180). -/
theorem twinRead_of_good {c : Nat} {h : Option Nat} {badA badB : Bool} (hgood : badA = false ∧ badB = false) : twinRead c h badA badB s = s := by
  unfold twinRead
  split
  · rfl
  · simp [hgood]

section Done

variable {r : CbDone} {w : CodeWork} {x : Cell} {j : Job} (hissues : issues s = true)
  (hw : findWork r.cluster r.cell r.slot r.ul r.alloc r.cb s = some w) (hx : lookup r.cell s.cells = some x)
  (hj : findJob r.cell r.slot r.ul s = some j) (hspare : s.spareCmd = [])
include hissues hw hx hj hspare

/-- An allocation's encode has ended. -/
def encodedRes (y : AllocRes) : AllocRes := { y with done := true }

/-- The state after the last code block of a downlink allocation. -/
def encoded (r : CbDone) (w : CodeWork) (s : State) : State :=
  modJob r.cell r.slot false (modAlloc r.alloc encodedRes) (tally 5 (COD_CCm_ENC_CB_COUNT r.cluster) 1 (codeLeft w s))

theorem exec_codeBlockDone_encode (hul : r.ul = false) (hlast : r.last = true) : exec (.codeBlockDone r) s = goesOn s (encoded r w s) := by
  show execCodeBlockDone r s = _
  rw [execCodeBlockDone, hw, hx, hj, hissues]
  simp only [hul, hlast]
  exact congrArg (goesOn s) (laneSpares_of_none (s := encoded r w s) _ hspare)

theorem codeBlockDone_completes_encode (hul : r.ul = false) (hlast : r.last = true) :
    Completes (.codeBlockDone r) s (fun t =>
      t.code = s.code.filter (fun v => decide (v ≠ w)) ∧ t.jobs = (modJob r.cell r.slot false (modAlloc r.alloc (fun y => { y with done := true })) s).jobs ∧
      liveOf 5 (COD_CCm_ENC_CB_COUNT r.cluster) t = min (2 ^ (COD_CCm_ENC_CB_COUNT r.cluster).width - 1) (liveOf 5 (COD_CCm_ENC_CB_COUNT r.cluster) s + 1) ∧
      t.toRadioState = { s.toRadioState with code := t.code, jobs := t.jobs } ∧ RegsExcept [] s t ∧ Frame [.radio, .tallies] s t) :=
  completes_of_goesOn (exec_codeBlockDone_encode hissues hw hx hj hspare hul hlast) (fun _ _ h => h)
    ⟨rfl, rfl, liveOf_tally_same 5 _ 1 (codeLeft w s), rfl, regsExcept_refl _ s, by
      rw [encoded, frame_modJob (by decide), frame_tally _ _ _ (by decide), frame_codeLeft _ (by decide)]
      exact frame_refl _ s⟩

theorem exec_codeBlockDone_decode (hul : r.ul = true) (hty : alType (blockEntry j r) = 1) (hgood : r.badA = false ∧ r.badB = false) :
    exec (.codeBlockDone r) s = goesOn s (decoded x j r (codeLeft w s)) := by
  have htwin : ∀ h, twinRead r.cell h r.badA r.badB (codeLeft w s) = codeLeft w s := fun h => twinRead_of_good hgood
  have hdone : decodeDone ((lookup r.cell (codeLeft w s).cells).getD x) j r (codeLeft w s) = decoded x j r (codeLeft w s) := by
    rw [show lookup r.cell (codeLeft w s).cells = some x from hx]
    exact decodeDone_of_coded hty hx
  have hnone : (decoded x j r (codeLeft w s)).spareCmd = [] := (congrArg FaultState.spareCmd (decodeCounted_toFaultState r _)).trans hspare
  show execCodeBlockDone r s = _
  rw [execCodeBlockDone, hw, hx, hj, hissues]
  simp only [hul]
  change goesOn s (laneSpares r.cluster (decodeDone ((lookup r.cell (if alType (blockEntry j r) = 1 then
    twinRead r.cell (some (alHandle (blockEntry j r))) r.badA r.badB (codeLeft w s) else codeLeft w s).cells).getD x) j r
    (if alType (blockEntry j r) = 1 then twinRead r.cell (some (alHandle (blockEntry j r))) r.badA r.badB (codeLeft w s) else codeLeft w s))) = _
  rw [if_pos hty, htwin, hdone, laneSpares_of_none _ hnone]

theorem codeBlockDone_completes_decode {y : AllocRes} (hul : r.ul = true) (hty : alType (blockEntry j r) = 1)
    (hgood : r.badA = false ∧ r.badB = false) (hy : j.res[r.alloc]? = some y) (hopen : y.done = false) :
    Completes (.codeBlockDone r) s (fun t =>
      t.code = s.code.filter (fun v => decide (v ≠ w)) ∧ t.soft = (combined x j r s).soft ∧ (r.last = false → t.cells = s.cells) ∧
      (r.last = true → lookup r.cell t.cells = some { x with handles := put (alHandle (blockEntry j r)) (some (headerAfter x j r)) x.handles }) ∧
      (((findJob r.cell r.slot true t).bind (fun k => k.res[r.alloc]?)).map (fun z => (z.iters, z.cbFail, z.done, z.payload)) =
          some (max y.iters (min 255 r.iters), min 255 (y.cbFail + b2n (!r.crcOk)), r.last, if r.last then r.payload else y.payload)) ∧
      liveOf 5 (COD_CCm_DEC_CB_COUNT r.cluster) t = min (2 ^ (COD_CCm_DEC_CB_COUNT r.cluster).width - 1) (liveOf 5 (COD_CCm_DEC_CB_COUNT r.cluster) s + 1) ∧
      RegsExcept [] s t ∧ Frame [.radio, .tallies] s t) := by
  have hradio := decodeCounted_toRadioState r (combined x j r (codeLeft w s))
  have hjobs : (decoded x j r (codeLeft w s)).jobs = (modJob r.cell r.slot true (modAlloc r.alloc (decodedRes x j r)) s).jobs := by
    have hsame : (decodeCounted r (combined x j r (codeLeft w s))).jobs = s.jobs := (congrArg RadioState.jobs hradio :)
    exact congrArg (List.map _) hsame
  refine completes_of_goesOn (exec_codeBlockDone_decode hissues hw hx hj hspare hul hty hgood) (fun _ _ h => h)
    ⟨?code, ?soft, fun hlast => ?kept, fun hlast => ?header, ?res, ?count, ?regs, ?frame⟩
  case code => exact congrArg RadioState.code hradio
  case soft => exact (congrArg RadioState.soft hradio :)
  case kept => exact if_neg (by simp [hlast])
  case header => exact (congrArg (lookup r.cell) (if_pos hlast)).trans (lookup_put_same _ _ _)
  case res =>
    have hmod : findJob r.cell r.slot true (decoded x j r (codeLeft w s)) = some (modAlloc r.alloc (decodedRes x j r) j) := by
      rw [findJob, hjobs, ← findJob, findJob_modJob (f := modAlloc r.alloc (decodedRes x j r)) (fun _ => ⟨rfl, rfl, rfl⟩), ← hul, hj]
      rfl
    rw [hmod, Option.bind_some, modAlloc, List.getElem?_modify_eq, hy]
    exact congrArg some (decodedRes_of_open hopen)
  case count => exact counted_decodeCounted r (combined x j r (codeLeft w s))
  case regs => exact (regsExcept_decodeCounted (s := s) (t := combined x j r (codeLeft w s)) r).mpr (regsExcept_refl _ s)
  case frame =>
    rw [decoded, frame_modJob (by decide), frame_withCells _ (by decide), frame_decodeCounted r (by decide) (by decide), frame_combined (by decide),
      frame_codeLeft _ (by decide)]
    exact frame_refl _ s

end Done

/-! ### A code block that faults (R172) -/

section Retry

variable {m : Fin 8} {lane : Nat} (cause : Nat) {m2 : Fin 8} {c : Fin 512} {slot : Nat} {ul : Bool} {alloc cb : Nat} {w : CodeWork}
  (hw : findWork m c slot ul alloc cb s = some w) (hinject : s.inject = []) (hlane : lookup (m * 32 + lane) s.laneFaults = none)

/-- The fault of a code block is recorded, and the block has left its cluster. -/
def blockFaulted (m lane cause : Nat) (w : CodeWork) (s : State) : State := codFault m lane cause (codeLeft w s)

theorem blockFaulted_toRadioState (m lane cause : Nat) (w : CodeWork) (s : State) :
    (blockFaulted m lane cause w s).toRadioState = (codeLeft w s).toRadioState := codFault_toRadioState _ _ _ _

theorem regsExcept_blockFaulted (w : CodeWork) : RegsExcept (faultFields m ++ COD_STAT_FAULT :: vecRegs) s (blockFaulted m lane cause w s) :=
  (regsExcept_codFault (s := s) (t := codeLeft w s) m lane cause (List.subset_append_of_subset_right _ (List.subset_cons_self _ _))
    (List.subset_append_left _ _) (List.mem_append_right _ List.mem_cons_self)).mpr (regsExcept_refl _ s)

theorem frame_blockFaulted (w : CodeWork) : Frame (.radio :: vecPieces) s (blockFaulted m lane cause w s) := by
  rw [blockFaulted, frame_codFault _ _ _ (by decide) (by decide), frame_codeLeft _ (by decide)]
  exact frame_refl _ s

/-- A code block is handed to another cluster, once. -/
def handedOn (m2 : Nat) (w : CodeWork) (s : State) : State := { s with code := s.code ++ [{ w with cluster := m2, retried := true }] }

/-- The first fault of a lane is counted. -/
def laneCounted (m lane : Nat) (s : State) : State := { s with laneFaults := put (m * 32 + lane) (some 1) s.laneFaults }

theorem getF_laneCounted_handedOn (f : Fld) (m lane m2 : Nat) (w : CodeWork) (s : State) : getF f (laneCounted m lane (handedOn m2 w s)) = getF f s := rfl

theorem look_laneCounted (m lane : Nat) (s : State) : look 0 (m * 32 + lane) (laneCounted m lane s).laneFaults = 1 :=
  look_put_same 0 (m * 32 + lane) (some 1) s.laneFaults

theorem frame_laneCounted (m lane : Nat) {ps : List Piece} {t : State} (hp : .radio ∈ ps) : Frame ps s (laneCounted m lane t) ↔ Frame ps s t :=
  frame_withRadio (r := (laneCounted m lane t).toRadioState) ⟨rfl, rfl, rfl⟩ hp

/-- The outcome of an allocation whose code block has faulted a second time. -/
def blockLost (m lane cause : Nat) (s : State) : AllocRes → AllocRes := allocFail (0x30 + cause) true ⟨m, lane, unitBand 4 m s, s.injecting⟩

include hw hinject

theorem exec_codeBlockRetry : exec (.codeBlockRetry m lane cause m2 c slot ul alloc cb) s = goesOn s (laneFault m lane cause
    (if w.retried then modJob c slot ul (modAlloc alloc (blockLost m lane cause s)) (blockFaulted m lane cause w s)
      else if m2 ≠ m ∧ clusterIn m2 (blockFaulted m lane cause w s) then handedOn m2 w (blockFaulted m lane cause w s)
      else modJob c slot ul (modAlloc alloc (allocFail (0x30 + cause) false ⟨m, lane, unitBand 4 m s, s.injecting⟩)) (blockFaulted m lane cause w s))) := by
  have hplain : ¬ injected 5 m lane s = true := by simp [injected, hinject]
  show execCodeBlockRetry m lane cause m2 c slot ul alloc cb s = _
  rw [execCodeBlockRetry, hw]
  exact congrArg (goesOn s) (if_neg hplain)

include hlane

theorem exec_codeBlockRetry_first (hretry : w.retried = false) (hne : m2 ≠ m) (hin : clusterIn m2 s = true) :
    exec (.codeBlockRetry m lane cause m2 c slot ul alloc cb) s =
      goesOn s (laneCounted m lane (handedOn m2 w (blockFaulted m lane cause w s))) := by
  have hin' : clusterIn m2 (blockFaulted m lane cause w s) = true := (clusterIn_codFault m lane cause (codeLeft w s) m2).trans hin
  have hnone : lookup (m * 32 + lane) (handedOn m2 w (blockFaulted m lane cause w s)).laneFaults = none := by
    rw [handedOn, blockFaulted_toRadioState]
    exact hlane
  rw [exec_codeBlockRetry cause hw hinject, hretry, if_neg Bool.false_ne_true, if_pos ⟨hne, hin'⟩, laneFault_of_first cause hnone, laneCounted]

theorem codeBlockRetry_completes_first (hretry : w.retried = false) (hne : m2 ≠ m) (hin : clusterIn m2 s = true) :
    Completes (.codeBlockRetry m lane cause m2 c slot ul alloc cb) s (fun t =>
      t.code = s.code.filter (fun v => decide (v ≠ w)) ++ [{ w with cluster := m2, retried := true }] ∧ t.jobs = s.jobs ∧
      look 0 (m * 32 + lane) t.laneFaults = 1 ∧ getF (COD_CCm_FAULT_LANE m) t = lane % 2 ^ (COD_CCm_FAULT_LANE m).width ∧
      getF (COD_CCm_FAULT_VALID m) t = 1 ∧ getF (COD_CCm_FAULT_CAUSE m) t = cause % 2 ^ (COD_CCm_FAULT_CAUSE m).width ∧ flagF COD_STAT_FAULT t = true ∧
      RegsExcept ([COD_CCm_FAULT_LANE m, COD_CCm_FAULT_VALID m, COD_CCm_FAULT_CAUSE m, COD_STAT_FAULT] ++ vecRegs) s t ∧ Frame (.radio :: vecPieces) s t) := by
  have hradio := blockFaulted_toRadioState m lane cause w s
  refine completes_of_goesOn (exec_codeBlockRetry_first cause hw hinject hlane hretry hne hin) (fun _ _ h => h)
    ⟨?code, ?jobs, look_laneCounted _ _ _, ?lane, ?valid, ?cause, ?stat, ?regs, ?frame⟩
  case lane => rw [getF_laneCounted_handedOn, blockFaulted, lane_codFault]
  case valid => rw [getF_laneCounted_handedOn, blockFaulted, valid_codFault]
  case cause => rw [getF_laneCounted_handedOn, blockFaulted, cause_codFault]
  case stat =>
    rw [flagF_iff, getF_laneCounted_handedOn, ← flagF_iff]
    exact stat_codFault m lane cause (codeLeft w s)
  case code => exact (congrArg (fun q : RadioState => q.code ++ [{ w with cluster := m2, retried := true }]) hradio :)
  case jobs => exact (congrArg RadioState.jobs hradio :)
  case regs => exact regsExcept_blockFaulted cause w
  case frame =>
    rw [frame_laneCounted _ _ (by decide), handedOn, frame_withCode _ (by decide)]
    exact frame_blockFaulted cause w

theorem codeBlockRetry_completes_second (hretry : w.retried = true) :
    Completes (.codeBlockRetry m lane cause m2 c slot ul alloc cb) s (fun t =>
      t.code = s.code.filter (fun v => decide (v ≠ w)) ∧ t.jobs = (modJob c slot ul (modAlloc alloc (blockLost m lane cause s)) s).jobs ∧
      look 0 (m * 32 + lane) t.laneFaults = 1 ∧ Frame (.radio :: vecPieces) s t) := by
  have hradio := blockFaulted_toRadioState m lane cause w s
  have hnone : lookup (m * 32 + lane) (modJob c slot ul (modAlloc alloc (blockLost m lane cause s)) (blockFaulted m lane cause w s)).laneFaults = none := by
    rw [modJob_laneFaults, hradio]
    exact hlane
  have hexec : exec (.codeBlockRetry m lane cause m2 c slot ul alloc cb) s =
      goesOn s (laneCounted m lane (modJob c slot ul (modAlloc alloc (blockLost m lane cause s)) (blockFaulted m lane cause w s))) := by
    rw [exec_codeBlockRetry cause hw hinject, if_pos hretry, laneFault_of_first cause hnone, laneCounted]
  refine completes_of_goesOn hexec (fun _ _ h => h) ⟨?code, ?jobs, look_laneCounted _ _ _, ?frame⟩
  case code => exact (congrArg RadioState.code hradio :)
  case jobs => exact (congrArg (fun q : RadioState => q.jobs.map _) hradio :)
  case frame =>
    rw [frame_laneCounted _ _ (by decide), frame_modJob (by decide)]
    exact frame_blockFaulted cause w

end Retry

/-! ### Polar operations and rebuilds (R173, R174, R181) -/

theorem polarOperationDone_completes {m : Fin 8} {c : Fin 512} {slot : Nat} {ul : Bool} {alloc : Nat} (ok : Bool) (payload : List Byte) {j : Job}
    (hj : findJob c slot ul s = some j) (hlen : alloc < j.res.length)
    (hty : alType (jobAlloc j.pkt.payload alloc) = 2 ∨ alType (jobAlloc j.pkt.payload alloc) = 4 ∨ alType (jobAlloc j.pkt.payload alloc) = 5)
    (hplanned : j.planned = true) (hissues : issues s = true) :
    Completes (.polarOperationDone m none c slot ul alloc ok payload) s (fun t =>
      t.jobs = (modJob c slot ul (modAlloc alloc (fun y => if y.done then y else { y with done := true, crcOk := ok, payload := payload })) s).jobs ∧
      liveOf 5 (COD_CCm_POLAR_COUNT m) t = min (2 ^ (COD_CCm_POLAR_COUNT m).width - 1) (liveOf 5 (COD_CCm_POLAR_COUNT m) s + 1) ∧
      t.toRadioState = { s.toRadioState with jobs := t.jobs } ∧ RegsExcept [] s t ∧ Frame [.radio, .tallies] s t) := by
  have hexec : exec (.polarOperationDone m none c slot ul alloc ok payload) s = goesOn s (modJob c slot ul
      (modAlloc alloc (fun y => if y.done then y else { y with done := true, crcOk := ok, payload := payload })) (tally 5 (COD_CCm_POLAR_COUNT m) 1 s)) := by
    show execPolarOperationDone m none c slot ul alloc ok payload s = _
    rw [execPolarOperationDone, hj]
    exact congrArg (goesOn s) (if_pos ⟨hlen, hty, hplanned, hissues⟩)
  refine completes_of_goesOn hexec (fun _ _ h => h) ⟨rfl, liveOf_tally_same _ _ _ _, rfl, regsExcept_refl _ s, ?frame⟩
  rw [frame_modJob (by decide), frame_tally _ _ _ (by decide)]
  exact frame_refl _ s

section ShowRebuild

/-- How many cells have a rebuild in progress. -/
def rebuildCount (s : State) : Nat := (s.cells.filter (fun c => c.2.rebuilding)).length

theorem showRebuild_cases (s : State) : showRebuild s = setF COD_REBUILD_CELLS (rebuildCount s) s ∨
    showRebuild s = codEvent COD_STAT_REBUILD (setF COD_REBUILD_CELLS (rebuildCount s) s) ∨
    showRebuild s = setF COD_STAT_REBUILD 0 (setF COD_REBUILD_CELLS (rebuildCount s) s) := by
  unfold showRebuild
  dsimp only
  split
  · split
    · exact .inl rfl
    · exact .inr (.inl rfl)
  · exact .inr (.inr rfl)

theorem cells_showRebuild (s : State) : getF COD_REBUILD_CELLS (showRebuild s) = rebuildCount s % 2 ^ COD_REBUILD_CELLS.width := by
  obtain h | h | h := showRebuild_cases s <;> rw [h]
  · exact getF_setF_same _ _ _
  · rw [getF_codEvent (by decide), getF_setF_same]
  · rw [getF_setF_ne _ _ (by decide), getF_setF_same]

theorem showRebuild_toRadioState (s : State) : (showRebuild s).toRadioState = s.toRadioState := by
  obtain h | h | h := showRebuild_cases s <;> rw [h]
  · rfl
  · exact codEvent_toRadioState _ _
  · rfl

variable {fs : List Fld} {ps : List Piece} {t : State}

theorem regsExcept_showRebuild (hv : vecRegs ⊆ fs) (h1 : COD_REBUILD_CELLS ∈ fs) (h2 : COD_STAT_REBUILD ∈ fs) :
    RegsExcept fs s (showRebuild t) ↔ RegsExcept fs s t := by
  obtain h | h | h := showRebuild_cases t <;> rw [h]
  · exact regsExcept_setF _ h1
  · rw [regsExcept_codEvent hv h2, regsExcept_setF _ h1]
  · rw [regsExcept_setF _ h2, regsExcept_setF _ h1]

theorem frame_showRebuild (hb : .bus ∈ ps) (ht : .tallies ∈ ps) : Frame ps s (showRebuild t) ↔ Frame ps s t := by
  obtain h | h | h := showRebuild_cases t <;> rw [h]
  · exact frame_setF _ _
  · rw [frame_codEvent hb ht, frame_setF]
  · rw [frame_setF, frame_setF]

end ShowRebuild

/-- Both copies of a cell's context are whole. -/
def rebuilt (c : Nat) (x : Cell) (s : State) : State := { s with cells := put c (some { x with okA := true, okB := true, rebuilding := false }) s.cells }

theorem rebuildDone_completes {c : Fin 512} {x : Cell} (hx : lookup c.val s.cells = some x) (hrebuild : x.rebuilding = true) :
    Completes (.rebuildDone c) s (fun t =>
      lookup c.val t.cells = some { x with okA := true, okB := true, rebuilding := false } ∧ t.toRadioState = { s.toRadioState with cells := t.cells } ∧
      getF COD_REBUILD_CELLS t = (t.cells.filter (fun d => d.2.rebuilding)).length % 2 ^ COD_REBUILD_CELLS.width ∧
      RegsExcept ([COD_REBUILD_CELLS, COD_STAT_REBUILD] ++ vecRegs) s t ∧ Frame (.radio :: vecPieces) s t) := by
  have hexec : exec (.rebuildDone c) s = goesOn s (showRebuild (rebuilt c x s)) := by
    show execRebuildDone c s = _
    rw [execRebuildDone, hx]
    exact congrArg (goesOn s) (if_pos hrebuild)
  have hradio := showRebuild_toRadioState (rebuilt c x s)
  have hcells : (showRebuild (rebuilt c x s)).cells = (rebuilt c x s).cells := congrArg RadioState.cells hradio
  refine completes_of_goesOn hexec (fun _ _ h => h) ⟨?copy, ?radio, ?count, ?regs, ?frame⟩
  case copy => rw [hcells]; exact lookup_put_same c.val (some _) s.cells
  case radio => rw [hcells]; exact hradio
  case count => rw [hcells]; exact cells_showRebuild _
  case regs => exact (regsExcept_showRebuild (t := rebuilt c x s) (by simp) (by simp) (by simp)).mpr (regsExcept_refl _ s)
  case frame =>
    rw [frame_showRebuild (by decide) (by decide), rebuilt, frame_withCells _ (by decide)]
    exact frame_refl _ s

end Sys2Proof.Machine

namespace Sys2Proof
open Machine

/-- Settles O29: a code block from its dispatch to its end or its second fault, a polar operation, and the end of a rebuild. -/
theorem codeBlocks : Obligations.CodeBlocks :=
  ⟨fun _ _ _ _ _ _ _ _ _ hx hj hin hready hopen hnew hfirst => codeBlockDispatch_completes hx hj hin hready hopen hnew hfirst,
   fun _ _ _ _ _ hissues hw hx hj hspare hul hlast => codeBlockDone_completes_encode hissues hw hx hj hspare hul hlast,
   fun _ _ _ _ _ _ hissues hw hx hj hspare hul hty hgood hy hopen => codeBlockDone_completes_decode hissues hw hx hj hspare hul hty hgood hy hopen,
   fun _ _ _ cause _ _ _ _ _ _ _ hw hinject hretry hne hin hlane => codeBlockRetry_completes_first cause hw hinject hlane hretry hne hin,
   fun _ _ _ cause _ _ _ _ _ _ _ hw hinject hretry hlane => codeBlockRetry_completes_second cause hw hinject hlane hretry,
   fun _ _ _ _ _ _ ok payload _ hj hlen hty hplanned hissues => polarOperationDone_completes ok payload hj hlen hty hplanned hissues,
   fun _ _ _ hx hrebuild => rebuildDone_completes hx hrebuild⟩

end Sys2Proof

/-! SUPPORT. A DIAG_SPARE of a polar engine, and the count of spare engines it leaves, from a count that FLT_SPARE.POLAR cannot hold (R173, R371,
R376). -/

namespace Sys2Proof.Machine

/-- A DIAG_SPARE that is ready and passes its checks has its effect. -/
theorem exec_diagSpare_of_legal {p : Pkt} {s : State} (hr : ready p s = true) (hc : chkSpare p (leaveTimed p s) = none) :
    exec (.diagSpare p) s = goesOn s (effSpare p { leaveTimed p s with begun := insertNat p.id (leaveTimed p s).begun }) :=
  congrArg (goesOn s) (runCmdOpen_of_legal hr hc)

/-- A DIAG_SPARE of polar engine 4 of cluster 7. -/
def sparePolarPkt : Pkt := ⟨1, 0, 0, 0x902, false, false, false, false, 7, 0, 9, 0, 0xFF, 0, 0, [5, 0, 7, 0, 4, 0, 0, 0]⟩

/-- The device has accepted it, and FLT_SPARE.POLAR, a field of 4 bits, holds 17. -/
def polarSparesPastWidth : State := { State.reset with regs := [(FLT_SPARE_POLAR.key, 17)], accepted := [sparePolarPkt] }

/-- The command's effect takes one from 17, and the field reads as 0. -/
theorem spares_after_polarSparesPastWidth :
    getF FLT_SPARE_POLAR (effSpare sparePolarPkt { leaveTimed sparePolarPkt polarSparesPastWidth with begun := [1] }) = 0 := by decide +kernel

end Sys2Proof.Machine

namespace Sys2Proof
open Machine

/-- Refutes O41: its statement of a polar engine's DIAG_SPARE takes one from FLT_SPARE.POLAR without a bound on what the field holds. From a state
whose FLT_SPARE.POLAR holds 17 the command writes 16 to the field, whose 4 bits read as 0. -/
theorem not_assaysAndSpares : ¬ Obligations.AssaysAndSpares := by
  rintro ⟨_, _, _, _, _, _, _, _, _, hpolar, _⟩
  have hlegal : chkSpare sparePolarPkt (leaveTimed sparePolarPkt polarSparesPastWidth) = none := by decide +kernel
  obtain ⟨t, ht, _, _, hleft, _⟩ := hpolar polarSparesPastWidth sparePolarPkt (by decide +kernel) hlegal (by decide)
  rw [exec_diagSpare_of_legal (by decide +kernel) hlegal] at ht
  rw [getF_goesOn ht] at hleft
  exact absurd (spares_after_polarSparesPastWidth.symm.trans hleft) (by decide)

end Sys2Proof

/-! SUPPORT. Patrol reads, and the log of a controller whose NEXT is past the log's 32 entries (R265, R266, R278, R371). -/

namespace Sys2Proof.Machine

section Patrol

variable {k : Fin 32} {l : Nat} {s : State}

/-- A patrol read reads on in its pass and meets the errors of the line that it reads. -/
theorem exec_patrolRead (h : patrolAt k l s) (errs : List Nat) (addr : Bool) :
    exec (.patrolRead k errs addr none) s = goesOn s (readErrors (l * 64) 1 errs addr (patrolPass k l s)) := by
  obtain ⟨hperiod, hreset, hnext, _⟩ := h
  show execPatrolRead k errs addr none s = _
  simp [execPatrolRead, hperiod, hreset, hnext]

end Patrol

/-- NEXT of controller 0's log, a field of 5 bits, holds 0x3FC03, and a row is repaired from its first corrected read on. -/
def logPastEnd : State :=
  { State.reset with vin := true, vio := true, perst := false, regs := [((MEMC_Xk_LOGHEAD_NEXT 0).key, 0x3FC03), (FLT_SPARE_CFG_CE_THR.key, 1)] }

/-- The first line of controller 0. -/
def firstLine : Nat := 2 ^ 37

theorem patrolAt_logPastEnd : patrolAt (0 : Fin 32) firstLine logPastEnd := by
  unfold patrolAt
  decide +kernel

/-- The log's entry would lie where FLT_SPARE_CFG lies. -/
theorem key_ent0_logPastEnd : (MEMC_LOG_ENT0_ENT 0 0x3FC03).key = FLT_SPARE_CFG_CE_THR.key := by decide

/-- A row's first corrected read calls for its repair, by CE_THR before the read. -/
theorem due_logPastEnd : getF FLT_SPARE_CFG_CE_THR logPastEnd ≤ look 0 (Config.rowOf firstLine) logPastEnd.ceRows + 1 :=
  (by decide +kernel : getF FLT_SPARE_CFG_CE_THR logPastEnd = 1).le.trans (Nat.le_add_left 1 _)

/-- The entry of the read makes CE_THR greater than the row's count, and no repair is called for. -/
theorem repairs_after_logPastEnd : (readErrors (firstLine * 64) 1 [1] false (patrolPass (0 : Fin 32) firstLine logPastEnd)).repairs = [] := by decide +kernel

theorem toMemState_goesOn {s u t : State} (h : goesOn s u = .next t) : t.toMemState = u.toMemState := by cases h; rfl

end Sys2Proof.Machine

namespace Sys2Proof
open Machine

/-- Refutes O56: its statement of a corrected read calls for a repair at CE_THR, but bounds no NEXT of a log. With NEXT of controller 0 at 0x3FC03 the
log's entry is written where FLT_SPARE_CFG lies, over CE_THR, before the count is compared with it. -/
theorem not_patrolAndPageBuffers : ¬ Obligations.PatrolAndPageBuffers := by
  rintro ⟨hcorrected, _⟩
  obtain ⟨t, ht, _, _, _, _, _, hrepair, _⟩ :=
    hcorrected logPastEnd 0 firstLine [1] patrolAt_logPastEnd (by decide +kernel) (by decide +kernel) (by decide)
  rw [exec_patrolRead patrolAt_logPastEnd] at ht
  rw [if_pos due_logPastEnd, toMemState_goesOn ht, repairs_after_logPastEnd] at hrepair
  exact absurd hrepair (by decide)

end Sys2Proof

/-! SUPPORT. A spare that takes the number of a retired core, for a number past the 144 logical cores whose MXC_Cn_INFO lies where MXC_STAT lies
(R19, R214, R215). -/

namespace Sys2Proof.Machine

/-- MXC_Cn_INFO.DIE of core 256 would lie where MXC_STAT.SPARES lies. -/
theorem key_die_256 : (MXC_Cn_INFO_DIE 256).key = MXC_STAT_SPARES.key := by decide

/-- Physical core 9, whose domain is on, is kept as the spare for number 256; 16 spares remain. -/
def spareForPastEnd : State := { State.reset with mcRetiring := [(256, 9)], regs := [((PWR_DOMd_STATE 9).key, 2)] }

theorem spares_spareForPastEnd : getF MXC_STAT_SPARES spareForPastEnd = 16 := by decide +kernel

/-- The die of core 9, which is 0, is written where the count of spares lies, and the count goes on from it. -/
theorem spares_mcSpareIn_spareForPastEnd : getF MXC_STAT_SPARES (mcSpareIn 256 spareForPastEnd) = 0 := by decide +kernel

end Sys2Proof.Machine

namespace Sys2Proof
open Machine

/-- Refutes O33: its last statement has MXC_STAT.SPARES go down by one when a spare takes a core's number, but bounds no logical core. The die of the
spare that takes number 256 is written where MXC_STAT.SPARES lies, and its 16 becomes 0. -/
theorem not_arrayCommands : ¬ Obligations.ArrayCommands := by
  rintro ⟨_, _, _, _, _, _, _, _, _, _, _, _, _, _, _, hspareIn⟩
  obtain ⟨t, ht, _, _, _, hspares, _⟩ :=
    hspareIn spareForPastEnd 256 9 rfl (by decide) (by decide +kernel) (by decide +kernel) rfl rfl
  have hexec : goesOn spareForPastEnd (mcSpareIn 256 spareForPastEnd) = .next t := ht
  rw [getF_goesOn hexec, spares_mcSpareIn_spareForPastEnd, spares_spareForPastEnd] at hspares
  exact absurd hspares (by decide)

end Sys2Proof

/-! SUPPORT. A core that runs a work tile of the one STEP of its context. -/

namespace Sys2Proof.Machine

/-- A started STEP without ARGS, none of whose tiles has ended. -/
def runningStep : Step := ⟨1, 9, 0, 0, ⟨144, 1, 1, 64, 96⟩, none, 0x5000, 0, 144, 0, [], true, false, 0, [], [], 0, false, 0, 0, 0, 0, 0, []⟩

/-- Core n runs the set x under a Lease of context 9, the one context of partition 0, and the image l stands at the start of the Unified Range. -/
def runningTile (n : Nat) (x : EngSet) (l : List Byte) : State :=
  { State.reset with
    now := 4096 * 1536, bmap := [(0, mkEnt 1 0 0 0 512 false)], mem := writeBytes (memAddr 1 0 0) l [], eng := [(n, x)],
    leases := [⟨n, 9, 0, 0, 2, 100, false⟩], ctxs := [(9, ⟨0, 3, 0, 2, 2, true, [runningStep], 0, 0, 0, 0, false, 0, [], false, []⟩)] }

theorem stepOf_runningTile (n : Nat) (x : EngSet) (l : List Byte) : stepOf 9 (runningTile n x l) = some runningStep := rfl

end Sys2Proof.Machine

/-! SUPPORT. An engine that issues a word whose operands are unsound: the fault that each instruction raises (R216, R226, R230, R297), and what it
leaves in MXC_Cn_FAULT when a pass of its set is still to complete (R209, R210, R215). -/

namespace Sys2Proof.Machine

variable {s : State} {n w : Nat} {x : EngSet}

/-! ### Issue (R216, R218) -/

/-- An engine that issues a word of the command's opcodes does what the word says. -/
theorem engineRun_of_issues {e : Nat} {ok : Nat → Bool} (h : Issues n e w x s) (hok : ok (insOp w) = true) (body : EngSet → Nat → State → State) :
    engineRun ok n e body s = body x w s := by
  obtain ⟨hset, hst, hruns, hheld, hword, hlegal⟩ := h
  simp [engineRun, hset, hst, hruns, hheld, hword, hlegal, hok]

theorem exec_vld_misaligned (h : IssuesVec n 0x50 0x53 w x s) (ha : gReg x.vc (insA w) % 4 ≠ 0) : exec (.vld n) s = goesOn s (tileFault n 1 s) := by
  obtain ⟨hissue, hlo, hhi⟩ := h
  have hbad : vmemFault x (gReg x.vc (insA w)) 256 = some 1 := if_pos ha
  have hrun : vecMem n false true s = tileFault n 1 s := by
    unfold vecMem vecIssue
    rw [engineRun_of_issues hissue (by simp [hlo, hhi])]
    simp [hbad]
  exact congrArg (goesOn s) hrun

theorem exec_ldt_misaligned (h : Issues n 0 w x s) (hop : insOp w = 0x28) (ha : gReg x.ld (insA w) % 64 ≠ 0) :
    exec (.ldt n) s = goesOn s (tileFault n 1 s) := by
  have hrun : transfer 0x28 n 0 s = tileFault n 1 s := by
    unfold transfer
    rw [engineRun_of_issues h (by simp [hop])]
    exact if_pos (.inl ha)
  exact congrArg (goesOn s) hrun

theorem exec_rput_of_fabMax_zero (h : Issues n 3 w x s) (hop : insOp w = 0x31) (hmax : x.fabMax = 0) :
    exec (.rput n) s = goesOn s (tileFault n 1 s) := by
  have hrun : fabInstr 0x31 1 n 3 s = tileFault n 1 s := by
    unfold fabInstr
    rw [engineRun_of_issues h (by simp [hop])]
    exact if_pos (.inr (.inl hmax))
  exact congrArg (goesOn s) hrun

/-! ### A set that faults while a pass is still to complete -/

/-- The eighth pass of a work tile, an integer product: its stream has ended, and its one result is not yet written. -/
def drainingPass : Pass := ⟨7, ⟨0, false, false, false, false, 9, 9, 255, 1, 1, 1, 0, 64, 0, 0, 128⟩, none, none, none, true, [1, 0, 0, 0], false, false⟩

/-- A work tile of parameter 1 that may not use the fabric: its first seven passes are complete, and the eighth drains. Its Load Engine stands at
offset 0 of the image, its Vector Engine at 8, its Store Engine at 16 and its Matrix Engine at 24. -/
def drainingSet : EngSet :=
  { freshSet 9 0 0 0 4 0 32 1000 0 0 1 [0, 24, 8, 16] ⟨0, none, false, false, false⟩ none 0 with issued := 8, done := 7, drain := [drainingPass] }

/-- An LDT, a VLD and an RPUT whose GA is G2, the tile's parameter, and an END. -/
def drainingImage : List Byte := natLE 8 0x4028 ++ natLE 8 0x4050 ++ natLE 8 0x4031 ++ natLE 8 0x01

/-- Core 5 runs the work tile. -/
def drainingState : State := runningTile 5 drainingSet drainingImage

theorem issues_ldt_drainingState : Issues 5 0 0x4028 drainingSet drainingState := by
  unfold Issues
  decide +kernel

theorem issues_vld_drainingState : IssuesVec 5 0x50 0x53 0x4050 drainingSet drainingState := by
  unfold IssuesVec Issues
  decide +kernel

theorem issues_rput_drainingState : Issues 5 3 0x4031 drainingSet drainingState := by
  unfold Issues
  decide +kernel

/-- The pass that drains completes before the set leaves its core, and MXC_Cn_FAULT.PASS counts it. -/
theorem pass_tileFault_drainingState : getF (MXC_Cn_FAULT_PASS 5) (tileFault 5 1 drainingState) = 8 := by decide +kernel

/-- A fault of this set does not leave the count of passes that the set had before it. -/
theorem not_faulted_drainingState {c : Instr} {t : State} (hc : exec c drainingState = goesOn drainingState (tileFault 5 1 drainingState))
    (ht : exec c drainingState = .next t) : ¬ Faulted 5 1 drainingSet t := by
  rintro ⟨_, _, _, hpass, _⟩
  rw [getF_goesOn (hc.symm.trans ht), pass_tileFault_drainingState] at hpass
  exact absurd hpass (by decide)

end Sys2Proof.Machine

namespace Sys2Proof
open Machine

/-- Refutes O34: its statement of a misaligned VLD has MXC_Cn_FAULT.PASS count the passes complete before the fault. A pass whose stream has ended
still completes (R209), and is counted: with the eighth pass draining, a VLD from address 1 leaves 8 and not 7. -/
theorem not_vectorInstructions : ¬ Obligations.VectorInstructions := by
  rintro ⟨_, _, _, _, _, _, _, _, _, _, _, hfault⟩
  have hga : gReg drainingSet.vc (insA 0x4050) % 4 ≠ 0 := by decide +kernel
  obtain ⟨t, ht, hfaulted⟩ := hfault drainingState 5 0x4050 drainingSet (.vld 5) runningStep (.inl rfl) issues_vld_drainingState (.inl hga) rfl
    (stepOf_runningTile _ _ _)
  rw [if_pos hga] at hfaulted
  exact not_faulted_drainingState (exec_vld_misaligned issues_vld_drainingState hga) ht hfaulted

/-- Refutes O49: its statement of a misaligned LDT has MXC_Cn_FAULT.PASS count the passes complete before the fault. A pass whose stream has ended
still completes (R209), and is counted: with the eighth pass draining, an LDT from address 1 leaves 8 and not 7. -/
theorem not_transfers : ¬ Obligations.Transfers := by
  rintro ⟨_, _, hfault, _⟩
  have hga : gReg drainingSet.ld (insA 0x4028) = 1 := by decide +kernel
  have hmis : ¬ xferAligned 1 0 0 (insImm 0x4028) := fun ⟨h, _⟩ => absurd h (by decide)
  obtain ⟨t, ht, hmisaligned, _⟩ := hfault drainingState 5 0 0x4028 1 0 0 0 drainingSet runningStep (.ldt 5) (.inl ⟨rfl, rfl, rfl⟩)
    issues_ldt_drainingState ⟨hga, by decide +kernel, by decide +kernel, by decide +kernel⟩ rfl (stepOf_runningTile _ _ _)
  exact not_faulted_drainingState (exec_ldt_misaligned issues_ldt_drainingState rfl (by rw [hga]; decide)) ht (hmisaligned (.inl hmis))

/-- Refutes O52: its statement of FAB_MAX 0 has MXC_Cn_FAULT.PASS count the passes complete before the fault. A pass whose stream has ended still
completes (R209), and is counted: with the eighth pass draining, an RPUT leaves 8 and not 7. -/
theorem not_fabricInstructions : ¬ Obligations.FabricInstructions := by
  rintro ⟨_, _, _, _, _, hfault, _⟩
  obtain ⟨t, ht, hnofab, _⟩ := hfault drainingState 5 3 1 0x31 0x4031 1 0 0 drainingSet (.rput 5) runningStep (by decide)
    issues_rput_drainingState rfl ⟨by decide +kernel, by decide +kernel, by decide +kernel⟩ rfl (stepOf_runningTile _ _ _)
  exact not_faulted_drainingState (exec_rput_of_fabMax_zero issues_rput_drainingState rfl rfl) ht (hnofab (.inl rfl))

end Sys2Proof

/-! SUPPORT. The fault of a set that waits for ever, for a number past the 144 logical cores whose MXC_Cn_FAULT lies where SCHED_Pp_CTX of partition 0
lies (R215, R222, R348). -/

namespace Sys2Proof.Machine

/-- MXC_Cn_FAULT.CAUSE of core 1537 would lie where SCHED_Pp_CTX.CTXS of partition 0 lies. -/
theorem key_cause_1537 : (MXC_Cn_FAULT_CAUSE 1537).key = (SCHED_Pp_CTX_CTXS 0).key := by decide

/-- A work tile of context 9 whose Load Engine waits at offset 0 of the image, while the other engines have ended. -/
def waitingSet : EngSet :=
  { freshSet 9 0 0 0 4 0 8 1000 0 0 0 [] ⟨0, none, false, false, false⟩ none 0 with ld := ⟨0, [], 2⟩, mx := ⟨0, [], 0⟩, vc := ⟨0, [], 0⟩, sr := ⟨0, [], 0⟩ }

/-- Number 1537 runs the work tile, and has waited 4,096 cycles for a token of its TWAIT. -/
def waitingPastCores : State := runningTile 1537 waitingSet (natLE 8 0x1021)

/-- A set all of whose engines that have not ended wait for tokens, with nothing outstanding, faults after 4,096 cycles (R222). -/
theorem exec_tokenDeadlock_of_stuck {n : Nat} {x : EngSet} {s : State} (hset : engAt n s = some x) (hany : anyRuns x = true) (hwt : waitsWt x = false)
    (hwait : allWait [0x20, 0x21, 0x48] x s = true) (hruns : setRuns n x s = true) (hnone : x.xfers = [] ∧ x.run = none ∧ x.drain = [])
    (hftt : holdsFtt n x s = false) (hlong : max x.act x.fabAct + 4096 * 1536 ≤ s.now) : exec (.tokenDeadlock n) s = goesOn s (tileFault n 5 s) := by
  obtain ⟨hxfers, hrun, hdrain⟩ := hnone
  show execTokenDeadlock n s = _
  rw [execTokenDeadlock, hset]
  refine congrArg (goesOn s) (if_pos ⟨?stuck, hruns, ?rest⟩)
  case stuck => simp [hany, hwt, hwait]
  case rest => simp [hxfers, hrun, hdrain, hftt, hlong]

/-- The count of the partition's contexts, which is 1, is written where the cause lies. -/
theorem cause_tileFault_waitingPastCores : getF (MXC_Cn_FAULT_CAUSE 1537) (tileFault 1537 5 waitingPastCores) = 1 := by decide +kernel

end Sys2Proof.Machine

namespace Sys2Proof
open Machine

/-- Refutes O32: its statement of a token deadlock has MXC_Cn_FAULT.CAUSE read 5, but bounds no logical core. The count of the contexts of partition 0
is written where the cause of number 1537 would lie, and its 5 becomes 1. -/
theorem not_scalarInstructions : ¬ Obligations.ScalarInstructions := by
  rintro ⟨_, _, _, _, _, _, _, hdeadlock, _⟩
  have hset : engAt 1537 waitingPastCores = some waitingSet := rfl
  have hlong : max waitingSet.act waitingSet.fabAct + 4096 * 1536 ≤ waitingPastCores.now := by decide
  have hany : anyRuns waitingSet = true := by decide
  have hwait : allWait [0x20, 0x21, 0x48] waitingSet waitingPastCores = true := by decide +kernel
  have hruns : setRuns 1537 waitingSet waitingPastCores = true := by decide +kernel
  obtain ⟨t, ht, ⟨_, hcause, _⟩, _⟩ := hdeadlock waitingPastCores 1537 waitingSet runningStep hset hlong hany hwait hruns ⟨rfl, rfl, rfl, rfl⟩ rfl
    (stepOf_runningTile _ _ _)
  rw [exec_tokenDeadlock_of_stuck hset hany rfl hwait hruns ⟨rfl, rfl, rfl⟩ rfl hlong] at ht
  rw [getF_goesOn ht, cause_tileFault_waitingPastCores] at hcause
  exact absurd hcause (by decide)

end Sys2Proof

/-! SUPPORT. A new path epoch, for an operation that waited in the queue of a port until the port left UP (R285, R310, R311, R315). -/

namespace Sys2Proof.Machine

/-- Destination d takes its next epoch. -/
def epochTaken (d : Nat) (s : State) : State :=
  { s with epochPend := s.epochPend.filter (fun e => decide (e ≠ d)), epochs := put d (some ((look 0 d s.epochs + 1) % 256)) s.epochs }

/-- The operations to d that were handed to a path that has changed, by Transaction ID. -/
def changedOps (d : Nat) (s : State) : List Ftt :=
  (s.ftt.filter (fun f => isOp f && decide (f.dest = d) && decide (f.req.type ≠ 3) && !unsent f && pathChanged f s)).foldr insertTxid []

/-- An operation to d is issued again, with the epoch of d. -/
def reissueOp (d : Nat) (s : State) (f : Ftt) : State := routeOut { f.req with epoch := look 0 d s.epochs } (tally 14 HJF_T_REISSUE_COUNT 1 s)

/-- A path epoch that is due is taken, and the operations of the changed path are issued again (R310). -/
theorem exec_pathEpochAdvance {d : Nat} {s : State} (h : d ∈ s.epochPend) :
    exec (.pathEpochAdvance d) s = goesOn s ((changedOps d (epochTaken d s)).foldl (reissueOp d) (epochTaken d s)) :=
  congrArg (goesOn s) (if_neg (not_not.mpr h))

/-- An ordered RPUT of 64 bytes from device 3 to device 9. -/
def orderedPut (txid : Nat) : FabPkt := ⟨1, 1, 0, 63, 9, 3, 64, 0, txid, 77, 0, 0, 0x40 * txid, 0, 0, 0, 0, zeros 64, true⟩

/-- Its table entry, from when it was handed to port 7: first sent at a time, or not yet. -/
def putOnPort7 (txid : Nat) (sent : Option Nat) : Ftt := ⟨1024 + txid, 5, 9, 0, false, 0, 1, orderedPut txid, 9, 0, none, some 7, sent⟩

/-- Port 7 of device 3 has left UP. Of the two operations handed to it the first had been sent, and the second was still in its queue. Port 5, which
now leads to device 9, is UP and holds credits. -/
def queuedAtPortDown : State :=
  setF HJF_CFG_DEVID 3 (setF (HJF_Pp_STAT_STATE 5) 2
    { State.reset with
      epochPend := [9], routes := [(9, 9 + 2 ^ 16 + 5 * 2 ^ 19)], hport := [(5, { HPort.reset with credit := [(0, 6)] })],
      ftt := [putOnPort7 1 none, putOnPort7 0 (some 0)], fabDrop := [orderedPut 0, orderedPut 1] })

/-- The operation that was still in the queue is first sent when it is issued again. -/
theorem sent_pathEpochAdvance_queuedAtPortDown {t : State} (h : exec (.pathEpochAdvance 9) queuedAtPortDown = .next t) :
    t.ftt.map (fun f => (f.id, f.sent.isSome)) = [(1025, true), (1024, true)] := by
  have hreissue : ((changedOps 9 (epochTaken 9 queuedAtPortDown)).foldl (reissueOp 9) (epochTaken 9 queuedAtPortDown)).ftt.map
      (fun f => (f.id, f.sent.isSome)) = [(1025, true), (1024, true)] := by decide +kernel
  rw [exec_pathEpochAdvance (by decide)] at h
  cases h
  exact hreissue

end Sys2Proof.Machine

namespace Sys2Proof
open Machine

/-- Refutes O53: its statement of a new path epoch with two operations to issue again has no operation sent that was not sent before. One that was
handed to a port, and was still in its queue when the port left UP, is one of them (R310, R311), and is then sent for the first time. -/
theorem not_fabricEnds : ¬ Obligations.FabricEnds := by
  rintro ⟨_, _, _, _, _, _, _, _, _, _, _, _, _, hreissue, _⟩
  obtain ⟨t, ht, _, _, _, _, hsent, _⟩ := hreissue queuedAtPortDown 9 5 (putOnPort7 1 none) (putOnPort7 0 (some 0))
    { orderedPut 1 with epoch := 1 } { orderedPut 0 with epoch := 1 } (by decide) (by decide +kernel) (by decide +kernel) ⟨rfl, rfl⟩ (by decide)
    ⟨rfl, rfl, rfl, rfl⟩ ⟨rfl, rfl⟩ (by decide +kernel) (by decide +kernel) (by decide +kernel) (by decide +kernel) (by decide +kernel)
  rw [sent_pathEpochAdvance_queuedAtPortDown ht] at hsent
  exact absurd hsent (by decide)

end Sys2Proof

/-! SUPPORT. A refetch over the fabric counts its request at the egress regulator of the object's partition, which is a piece of the
engines' state (R344). -/

namespace Sys2Proof.Machine

section Spend
variable {p x n : Nat} {s : State}

/-- A request of a partition whose regulator has a rate is subtracted from the tokens (R344). -/
theorem tokens_spend (hp : p < 8) (hrate : (regulOf p x s).rate ≠ 0) :
    (regulOf p x (spend p x n s)).tokens = (regulOf p x s).tokens - n := by
  have hspent : ¬ (8 ≤ p ∨ (regulOf p x s).rate = 0) := by omega
  rw [spend, if_neg hspent, regulOf, look_put_same, Option.getD_some]

end Spend

section FailedFetch
variable {i unit : Nat} {o : Obj} {s : State}

theorem attemptFails_first : attemptFails i unit 0 o s =
    putObj i (some { o with units := o.units.map (fun u => if u.1 = unit then (unit, 1) else u) }) s := rfl

/-- The first fetch of a unit over the fabric has failed: its request is spent all the same, and the unit is tried once more (R271). -/
theorem exec_refetchUnitArrive_of_first_failed (h : refetching i unit 0 o s) (hk : o.bkind = 2) :
    exec (.refetchUnitArrive i unit none) s = goesOn s (attemptFails i unit 0 o (spend o.part 2 32 s)) := by
  obtain ⟨hobj, hst, hunit, hstore⟩ := h
  show execRefetchUnitArrive i unit none s = _
  simp [execRefetchUnitArrive, unitData, hobj, hst, hunit, hstore, hk, -Nat.reducePow]

/-- The tokens of the partition's egress regulator after such a fetch. -/
theorem tokens_refetchUnitArrive_of_first_failed {t : State} (h : refetching i unit 0 o s) (hk : o.bkind = 2) (hp : o.part < 8)
    (hrate : (regulOf o.part 2 s).rate ≠ 0) (ht : exec (.refetchUnitArrive i unit none) s = .next t) :
    (regulOf o.part 2 t).tokens = (regulOf o.part 2 s).tokens - 32 := by
  rw [exec_refetchUnitArrive_of_first_failed h hk, attemptFails_first] at ht
  cases ht
  exact tokens_spend hp hrate

end FailedFetch

/-- Object 1, of partition 0, with its backing on another device: REFETCHING, with unit 1 to be fetched. -/
def backedOnFabric : Obj := { objT 5 1 with block := 0, len := 512, recon := true, bkind := 2, units := [(1, 0)] }

/-- Line 0x1FC0 of that object carries a mark, and the fabric egress of partition 0 is regulated. -/
def regulatedRefetch : State :=
  { refetchS backedOnFabric [(memAddr 1 0 0x1FC0 / 64, 1)] with regul := [(2, ⟨1024, 9, 1024⟩)] }

end Sys2Proof.Machine

namespace Sys2Proof
open Machine

/-- Refutes O57: the refetch of a unit of a partition whose fabric egress is regulated takes 32 bytes of the regulator's tokens (R344), where the
statement leaves the engines' state, the regulators with it, as it was. -/
theorem not_refetches : ¬ Obligations.Refetches := by
  rintro ⟨_, _, _, hfailed, _⟩
  have hr : refetching 1 1 0 backedOnFabric regulatedRefetch := ⟨rfl, rfl, rfl, by decide +kernel⟩
  obtain ⟨t, ht, _, _, _, hframe⟩ := hfailed regulatedRefetch 1 1 0 backedOnFabric hr rfl rfl
  have hkept : t.toEngineState = regulatedRefetch.toEngineState := hframe .engine (by decide)
  have hspent := tokens_refetchUnitArrive_of_first_failed hr rfl (by decide) (by decide) ht
  have hsame : (regulOf 0 2 t).tokens = (regulOf 0 2 regulatedRefetch).tokens := by
    rw [regulOf, regulOf, congrArg EngineState.regul hkept]
  exact absurd (hspent.symm.trans hsame) (by decide)

end Sys2Proof

/-! SUPPORT. A write of CTRL to a Check Unit at rest that starts no scan, and what RESULT then shows of RUN (R274, R277). -/

namespace Sys2Proof.Machine

section ChkCtrl
variable {f : Fin 33} {u : Fin 64} {w : BitVec 32} {s : State}

theorem chkSees_of_access (h : chkAccess f u s) : chkSees f u s = true := by
  obtain ⟨_, hpf | howner⟩ := h
  · rw [chkSees, hpf]; rfl
  · rw [chkSees, decide_eq_true howner, Bool.or_true]

/-- GO and STOP together are STOP alone, which at rest gives the fields and starts nothing (R277). -/
theorem exec_chkGo_with_stop_of_rest (h : chkAccess f u s) (hrest : getF (CHK_Uu_STAT_STATE u) s ≠ 1) (hw : w.toNat % 4 = 3) :
    exec (.chkGo f u w) s = goesOn s (chkFields f u w.toNat s) := by
  have hgo : w.toNat % 2 = 1 := by omega
  have hstop : bitAt 1 w.toNat = true := decide_eq_true (by omega)
  show execChkGo f u w s = _
  simp [execChkGo, chkCtrlWrite, chkRunning, chkSees_of_access h, h.1, hrest, hgo, hstop]

/-- After such a write RESULT shows RUN only where RUN fits the 64 bits of RESULT. -/
theorem run_lt_of_chkShown_chkFields {f u w : Nat} (h : chkShown u (chkFields f u w s)) :
    getF (CHK_Uu_RUN_RUN u) (chkFields f u w s) < 2 ^ 64 := by
  have hresult : getF (CHK_Uu_RESULT_RESULT u) (chkFields f u w s) < 2 ^ 64 := by
    rw [chkFields, showResult, getF_setF_same]
    exact mod_two_pow_lt _ 64
  rw [chkShown] at h
  generalize hm : (if getF (CHK_Uu_CTRL_MODE u) (chkFields f u w s) = 0 then 0xFFFFFFFF else 0) = m at h
  have hmask : m < 2 ^ 64 := by rw [← hm]; split <;> decide
  rw [← Nat.xor_xor_cancel_right (getF (CHK_Uu_RUN_RUN u) (chkFields f u w s)) m, ← h]
  exact Nat.xor_lt_two_pow hresult hmask

theorem chkShown_goesOn {n : Nat} {v t : State} (h : goesOn s v = .next t) : chkShown n t ↔ chkShown n v := by
  simp only [chkShown, getF_goesOn h]

end ChkCtrl

/-- Check Unit 20 is at rest, and its RUN, a field of 64 bits, holds 2^64. -/
def runPastWidth : State := { up with regs := up.regs ++ [((CHK_Uu_RUN_RUN 20).key, 2 ^ 64)] }

theorem run_chkFields_runPastWidth : getF (CHK_Uu_RUN_RUN 20) (chkFields 0 20 3 runPastWidth) = 2 ^ 64 := by decide +kernel

end Sys2Proof.Machine

namespace Sys2Proof
open Machine

/-- Refutes O58: a state whose RUN holds 2^64, which no write of the field leaves there. The statement has RESULT show RUN XOR XOROUT of it, bit 64
included, and RESULT has 64 bits. -/
theorem not_checkUnits : ¬ Obligations.CheckUnits := by
  rintro ⟨_, hrest, _⟩
  have hacc : chkAccess (0 : Fin 33) (20 : Fin 64) runPastWidth := ⟨by decide +kernel, .inl rfl⟩
  have hidle : getF (CHK_Uu_STAT_STATE (20 : Fin 64)) runPastWidth ≠ 1 := by decide +kernel
  obtain ⟨t, ht, _, hshown, _⟩ := hrest runPastWidth 0 20 3 0 _ (.inl ⟨rfl, rfl⟩) hacc hidle
  have hexec := (exec_chkGo_with_stop_of_rest hacc hidle rfl).symm.trans ht
  have hrun := run_lt_of_chkShown_chkFields ((chkShown_goesOn hexec).mp hshown)
  exact absurd run_chkFields_runPastWidth (Nat.ne_of_lt hrun)

end Sys2Proof

/-! SUPPORT. What a device reset leaves: the registers that keep no value, the Vault, and what lies outside the device (R405, R424, R436). -/

namespace Sys2Proof.Machine

/-! ### The registers after a reset -/

/-- A field that is neither of the Vault nor fused reads its reset value after a reset (R436). -/
theorem getF_resetCore {f : Fld} (hf : fieldOfKey f.key = some f) (hk : f.kept = false) (hp : f.key ≠ SEC_VAULT_STAT_PENDING.key) (s : State) :
    getF f (resetCore s) = f.reset := by
  have hdropped : ∀ v, keptField f.key v = false := fun v => by simp [keptField, hf, hk]
  have hnone : lookup f.key (s.regs.filter fun x => keptField x.1 x.2) = none := lookup_filter_of_not hdropped s.regs
  rw [resetCore, showVault, getF_setF_ne _ _ hp, getF, look, hnone]
  rfl

theorem flagF_ready_resetCore (s : State) : flagF DEV_STAT_READY (resetCore s) = false := by
  have hready : getF DEV_STAT_READY (resetCore s) = 0 := getF_resetCore (by decide +kernel) rfl (by decide) s
  simp [flagF, hready]

/-! ### What every reset leaves -/

section AfterReset
variable {s t : State}

theorem afterReset_setF {f : Fld} (v : Nat) (hf : DEV_STAT_READY.key ≠ f.key) : AfterReset s (setF f v t) ↔ AfterReset s t := by
  simp only [AfterReset, flagF, getF_setF_ne v t hf]
  rfl

theorem afterReset_freshNonce : AfterReset s (freshNonce t) ↔ AfterReset s t := by
  have hdraw : ∀ (n : Nat) (u : State), AfterReset s (setF (SEC_LC_NONCEn_NONCE n) (drawFree 64 u).1 (drawFree 64 u).2) ↔ AfterReset s u :=
    fun n _ => afterReset_setF _ (by simp only [Fld.key, DEV_STAT_READY, DEV_STAT, SEC_LC_NONCEn_NONCE, SEC_LC_NONCEn]; omega)
  simp only [freshNonce, List.foldl_cons, List.foldl_nil, hdraw]

theorem afterReset_resetCore (s : State) : AfterReset s (resetCore s) :=
  ⟨rfl, rfl, rfl, rfl, rfl, rfl, rfl, rfl, rfl, rfl, rfl, flagF_ready_resetCore s, rfl, rfl⟩

theorem afterReset_deviceReset (s : State) : AfterReset s (deviceReset s) := by
  have hcore : AfterReset s (setF DEV_MCTP_I3C_ADDR (getF DEV_MCTP_I3C_ADDR s) (resetCore s)) :=
    (afterReset_setF _ (by decide)).mpr (afterReset_resetCore s)
  unfold deviceReset
  dsimp only
  split
  · exact hcore
  · exact afterReset_freshNonce.mpr hcore

end AfterReset

/-! ### The Vault, the rails and the strapped address over a device reset -/

theorem deviceReset_toPowerState (s : State) : (deviceReset s).toPowerState = (resetCore s).toPowerState := by
  unfold deviceReset
  dsimp only
  split <;> rfl

theorem deviceReset_toHostState (s : State) : (deviceReset s).toHostState = (resetCore s).toHostState := by
  unfold deviceReset
  dsimp only
  split <;> rfl

theorem vault_deviceReset (s : State) : (deviceReset s).vault = s.vault :=
  (congrArg PowerState.vault (deviceReset_toPowerState s)).trans rfl

theorem perst_deviceReset (s : State) : (deviceReset s).perst = s.perst :=
  (congrArg HostState.perst (deviceReset_toHostState s)).trans rfl

theorem vin_deviceReset (s : State) : (deviceReset s).vin = s.vin :=
  (congrArg HostState.vin (deviceReset_toHostState s)).trans rfl

theorem vio_deviceReset (s : State) : (deviceReset s).vio = s.vio :=
  (congrArg HostState.vio (deviceReset_toHostState s)).trans rfl

theorem perstAt_deviceReset (s : State) : (deviceReset s).perstAt = s.perstAt :=
  (congrArg HostState.perstAt (deviceReset_toHostState s)).trans rfl

theorem inReset_deviceReset (s : State) : inReset (deviceReset s) = inReset s := by
  rw [inReset, perst_deviceReset, vin_deviceReset, vio_deviceReset]; rfl

theorem getF_freshNonce {f : Fld} (hf : ∀ n, f.key ≠ (SEC_LC_NONCEn_NONCE n).key) (s : State) : getF f (freshNonce s) = getF f s := by
  have hdraw : ∀ (n : Nat) (u : State), getF f (setF (SEC_LC_NONCEn_NONCE n) (drawFree 64 u).1 (drawFree 64 u).2) = getF f u :=
    fun n _ => getF_setF_ne _ _ (hf n)
  simp only [freshNonce, List.foldl_cons, List.foldl_nil, hdraw]

/-- The strapped address is kept, in its field's 7 bits. -/
theorem i3cAddr_deviceReset (s : State) : getF DEV_MCTP_I3C_ADDR (deviceReset s) = getF DEV_MCTP_I3C_ADDR s % 2 ^ 7 := by
  have hcore : getF DEV_MCTP_I3C_ADDR (setF DEV_MCTP_I3C_ADDR (getF DEV_MCTP_I3C_ADDR s) (resetCore s)) = getF DEV_MCTP_I3C_ADDR s % 2 ^ 7 :=
    getF_setF_same _ _ _
  unfold deviceReset
  dsimp only
  split
  · exact hcore
  · rw [getF_freshNonce fun n => by simp only [Fld.key, DEV_MCTP_I3C_ADDR, DEV_MCTP, SEC_LC_NONCEn_NONCE, SEC_LC_NONCEn]; omega]
    exact hcore

/-- The state once PERST# is released: the straps give the management address, and the TAP gives up the pins (R446, R451). -/
def strapped (straps : Fin 4) (s : State) : State := tapRelease (setF DEV_MCTP_I3C_ADDR (0x58 + straps) { s with perst := false })

/-- Beside the straps, the release of PERST# changes the TAP's instruction alone. -/
theorem strapped_eq (straps : Fin 4) (s : State) :
    ∃ r, strapped straps s = setF DEV_MCTP_I3C_ADDR (0x58 + straps) { s with perst := false, tapIr := r } := by
  unfold strapped tapRelease
  split
  · exact ⟨.bypass, rfl⟩
  · exact ⟨s.tapIr, rfl⟩

/-! ### A word that reaches MRAM (R424) -/

theorem vault_vaultStore (w v : Nat) (s : State) :
    (vaultStore w v s).vault = if look 0 w s.vault = v then s.vault else put w (if v = 0 then none else some v) s.vault := by
  unfold vaultStore
  split
  · rfl
  · dsimp only
    split
    · exact congrArg PowerState.vault ((frame_event (ps := vecPieces) (by decide) (by decide)).mpr (frame_refl _ _) .power (by decide))
    · rfl

theorem look_vaultStore_same (w v : Nat) (s : State) : look 0 w (vaultStore w v s).vault = v := by
  rw [vault_vaultStore]
  split
  · assumption
  · rw [look_put_same]
    split <;> simp_all

theorem look_vaultStore_ne {j w : Nat} (v : Nat) (s : State) (h : j ≠ w) : look 0 j (vaultStore w v s).vault = look 0 j s.vault := by
  rw [vault_vaultStore]
  split
  · rfl
  · exact look_put_ne 0 _ _ h

/-! ### Each event that resets the device (R405, R436, R450, R469) -/

theorem deviceReset_completes {c : Instr} {s : State} (h : exec c s = goesOn s (deviceReset s)) :
    Completes c s (fun t => AfterReset s t ∧ t.vault = s.vault ∧ t.perst = s.perst) :=
  completes_of_goesOn h (fun _ _ ht => ht) ⟨afterReset_deviceReset s, vault_deviceReset s, perst_deviceReset s⟩

theorem perstAssert_completes (s : State) :
    Completes .perstAssert s (fun t => AfterReset s t ∧ t.vault = s.vault ∧ t.perst = true ∧ inReset t = true) := by
  refine completes_of_goesOn (u := deviceReset { s with perst := true }) rfl (fun _ _ ht => ht) ⟨afterReset_deviceReset _, vault_deviceReset _,
    perst_deviceReset _, ?_⟩
  rw [inReset_deviceReset]
  rfl

theorem perstDeassert_completes {s : State} (straps : Fin 4) (hperst : s.perst = true) (hvin : s.vin = true) (hvio : s.vio = true) :
    Completes (.perstDeassert straps) s (fun t =>
      AfterReset s t ∧ t.vault = s.vault ∧ t.perst = false ∧ inReset t = false ∧ t.perstAt = s.now ∧ getF DEV_MCTP_I3C_ADDR t = 0x58 + straps.val) := by
  obtain ⟨r, hr⟩ := strapped_eq straps s
  have hup : inReset (strapped straps s) = false := by simp [hr, inReset, setF, hvin, hvio]
  have hexec : exec (.perstDeassert straps) s = goesOn s (startSequence (strapped straps s)) := by
    show execPerstDeassert straps s = _
    rw [execPerstDeassert, hperst]
    exact congrArg (goesOn s) (if_neg (Bool.eq_false_iff.mp hup))
  have haddr : getF DEV_MCTP_I3C_ADDR (startSequence (strapped straps s)) = (0x58 + straps.val) % 2 ^ 7 % 2 ^ 7 := by
    rw [startSequence, i3cAddr_deviceReset, hr]
    exact congrArg (· % 2 ^ 7) (getF_setF_same _ _ _)
  have hstraps := straps.isLt
  refine completes_of_goesOn hexec (fun _ _ ht => ht) ⟨?_, ?_, ?_, (inReset_deviceReset _).trans hup, ?_, by omega⟩
  · rw [hr]; exact afterReset_deviceReset _
  · rw [hr]; exact vault_deviceReset _
  · rw [hr]; exact perst_deviceReset _
  · rw [hr]; exact perstAt_deviceReset _

theorem vinCoreApply_completes {s : State} (hvin : s.vin = false) :
    Completes .vinCoreApply s (fun t => AfterReset s t ∧ t.vault = s.vault ∧ t.vin = true ∧ t.perstAt = s.now) := by
  have hexec : exec .vinCoreApply s = goesOn s (startSequence { s with vin := true }) := by
    show execVinCoreApply s = _
    simp [execVinCoreApply, hvin]
  exact completes_of_goesOn hexec (fun _ _ ht => ht) ⟨afterReset_deviceReset _, vault_deviceReset _, vin_deviceReset _, perstAt_deviceReset _⟩

theorem vinCoreLoss_completes {s : State} (n : Nat) (hbuf : s.vbuf = []) :
    Completes (.vinCoreLoss n) s (fun t => AfterReset s t ∧ t.vault = s.vault ∧ t.vin = false ∧ t.vbuf = [] ∧ flagF PWR_TSTAT_TRIPPED t = false) := by
  have hexec : exec (.vinCoreLoss n) s =
      goesOn s (setF PWR_TSTAT_TRIPPED 0 (resetCore { s with vin := false, vbuf := [], tapIr := .bypass, tapOut := none, bsr := [] })) := by
    show execVinCoreLoss n s = _
    simp [execVinCoreLoss, hbuf]
  refine completes_of_goesOn hexec (fun _ _ ht => ht) ⟨(afterReset_setF _ (by decide)).mpr (afterReset_resetCore _), rfl, rfl, rfl, ?_⟩
  simp [flagF]

/-- Of the Vault's buffer the write that has reached MRAM is kept, and the others are lost. -/
theorem vinCoreLoss_completes_one {s : State} {x : VaultWrite} {r : List VaultWrite} (hbuf : s.vbuf = x :: r) :
    Completes (.vinCoreLoss 1) s (fun t =>
      look 0 x.word t.vault = x.value ∧ (∀ y ∈ r, y.word ≠ x.word → look 0 y.word t.vault = look 0 y.word s.vault) ∧ t.vbuf = []) := by
  have hexec : exec (.vinCoreLoss 1) s = goesOn s (setF PWR_TSTAT_TRIPPED 0
      (resetCore { vaultStore x.word x.value s with vin := false, vbuf := [], tapIr := .bypass, tapOut := none, bsr := [] })) := by
    show execVinCoreLoss 1 s = _
    simp [execVinCoreLoss, hbuf]
  exact completes_of_goesOn hexec (fun _ _ ht => ht) ⟨look_vaultStore_same _ _ s, fun _ _ hy => look_vaultStore_ne _ s hy, rfl⟩

theorem vioDrop_completes {s : State} (hvin : s.vin = true) :
    Completes .vioDrop s (fun t => AfterReset s t ∧ t.vault = s.vault ∧ t.vio = false ∧ inReset t = true) := by
  have hexec : exec .vioDrop s = goesOn s (deviceReset { s with vio := false }) := by
    show execVioDrop s = _
    simp [execVioDrop, hvin]
  refine completes_of_goesOn hexec (fun _ _ ht => ht) ⟨afterReset_deviceReset _, vault_deviceReset _, vio_deviceReset _, ?_⟩
  rw [inReset_deviceReset]
  simp [inReset]

theorem vioRestore_completes {s : State} (hvio : s.vio = false) (hvin : s.vin = true) (hperst : s.perst = false) :
    Completes .vioRestore s (fun t => AfterReset s t ∧ t.vault = s.vault ∧ t.vio = true ∧ inReset t = false ∧ t.perstAt = s.now) := by
  have hup : inReset { s with vio := true } = false := by simp [inReset, hvin, hperst]
  have hexec : exec .vioRestore s = goesOn s (startSequence { s with vio := true }) := by
    show execVioRestore s = _
    simp [execVioRestore, hvio, hup]
  exact completes_of_goesOn hexec (fun _ _ ht => ht)
    ⟨afterReset_deviceReset _, vault_deviceReset _, vio_deviceReset _, (inReset_deviceReset _).trans hup, perstAt_deviceReset _⟩

end Sys2Proof.Machine

namespace Sys2Proof
open Machine

/-- Settles O4: every store of the reset state holds nothing. -/
theorem resetState : Obligations.ResetState :=
  ⟨⟨rfl, rfl, rfl, rfl, rfl, rfl, rfl, rfl, rfl, rfl, rfl⟩, fun _ => ⟨rfl, rfl, rfl, rfl⟩, rfl, rfl, rfl, rfl, rfl, rfl, rfl⟩

/-- Settles O15: each event resets the device, from the state whose rail or PERST# it has changed, and no reset touches the Vault's words. -/
theorem deviceResets : Obligations.DeviceResets :=
  ⟨fun _ => deviceReset_completes rfl,
   fun _ => deviceReset_completes rfl,
   fun _ => deviceReset_completes rfl,
   perstAssert_completes,
   fun _ straps => perstDeassert_completes straps,
   fun _ => vinCoreApply_completes,
   fun _ n => vinCoreLoss_completes n,
   fun _ _ _ _ hbuf hn => hn ▸ vinCoreLoss_completes_one hbuf,
   fun _ => vioDrop_completes,
   fun _ => vioRestore_completes⟩

end Sys2Proof

/-! SUPPORT. A PART_SET that puts its partition in Deterministic mode, and the register that shows which partitions are (R340, R362). -/

namespace Sys2Proof.Machine

/-! ### Frames taken for a partition's regions (R341) -/

section Regions
variable {g : Fld} {n t : Nat}

/-- Taking frames for a region changes the register that shows the partition's charge, and no other. -/
theorem getF_growRegion (hg : g.key ≠ (usedF n t).key) (k : Nat) (s : State) : getF g (growRegion n t k s) = getF g s := by
  induction k generalizing s with
  | zero => rfl
  | succ k ih => exact (ih _).trans (getF_setF_ne _ _ hg)

theorem getF_fitRegion (hg : g.key ≠ (usedF n t).key) (len : Nat) (s : State) : getF g (fitRegion n t len s) = getF g s := by
  unfold fitRegion
  dsimp only
  split
  · exact getF_growRegion hg _ s
  · rfl

end Regions

/-! ### SCHED_DET.PARTS (R362) -/

theorem key_parts_ne_usedF (n t : Nat) : SCHED_DET_PARTS.key ≠ (usedF n t).key := by
  unfold usedF
  split_ifs <;> simp only [Fld.key, SCHED_DET_PARTS, SCHED_DET, TIER_Pp_T0_USED, TIER_Pp_T0, TIER_Pp_T1_USED, TIER_Pp_T1, TIER_Pp_T2_USED, TIER_Pp_T2] <;> omega

theorem parts_setCores (n m : Nat) (s : State) : getF SCHED_DET_PARTS (setCores n m s) = getF SCHED_DET_PARTS s := by
  have hkey : ∀ i, SCHED_DET_PARTS.key ≠ (SCHED_Pp_CORESi_CORES n i).key := fun i => by
    simp only [Fld.key, SCHED_DET_PARTS, SCHED_DET, SCHED_Pp_CORESi_CORES, SCHED_Pp_CORESi]; omega
  simp only [setCores, getF_setF_ne _ _ (hkey _)]

theorem parts_setQuotas (n t0 t1 t2 : Nat) (s : State) : getF SCHED_DET_PARTS (setQuotas n t0 t1 t2 s) = getF SCHED_DET_PARTS s := by
  have h0 : SCHED_DET_PARTS.key ≠ (TIER_Pp_T0_QUOTA n).key := by simp only [Fld.key, SCHED_DET_PARTS, SCHED_DET, TIER_Pp_T0_QUOTA, TIER_Pp_T0]; omega
  have h1 : SCHED_DET_PARTS.key ≠ (TIER_Pp_T1_QUOTA n).key := by simp only [Fld.key, SCHED_DET_PARTS, SCHED_DET, TIER_Pp_T1_QUOTA, TIER_Pp_T1]; omega
  have h2 : SCHED_DET_PARTS.key ≠ (TIER_Pp_T2_LIMIT n).key := by simp only [Fld.key, SCHED_DET_PARTS, SCHED_DET, TIER_Pp_T2_LIMIT, TIER_Pp_T2]; omega
  simp only [setQuotas, getF_setF_ne _ _ h0, getF_setF_ne _ _ h1, getF_setF_ne _ _ h2]

/-- PARTS shows, after PART_SET, what the payload's mode makes of it: cores, quotas and regions leave it. -/
theorem parts_effPartSet (p : Pkt) (s : State) :
    getF SCHED_DET_PARTS (effPartSet p s).1 = getF SCHED_DET_PARTS (setPartInfo (psPart p) 1 (psFunc p) (psNres p) (pf p 2 1 % 2) s) := by
  unfold effPartSet
  dsimp only
  rw [getF_fitRegion (key_parts_ne_usedF _ _), getF_fitRegion (key_parts_ne_usedF _ _), parts_setQuotas, parts_setCores]
  rfl

theorem exec_partSet_of_legal {s : State} {p : Pkt} (hr : ready p s = true) (hc : chkPartSet p (leaveTimed p s) = none) :
    exec (.partSet p) s = goesOn s (finish p stOK 0 (effPartSet p (leaveTimed p s)).1) := by
  show execPartSet p s = _
  rw [execPartSet, runCmd_of_legal hr hc]
  rfl

/-- A PART_SET of partition 2 in Deterministic mode: function 1, one resident place, one context, key 9 and cores 4 and 5. -/
def detPkt : Pkt := pkt 0x105 255 ([2, 1, 1, 1, 1, 0, 0, 0, 9, 0, 0, 0, 8, 0, 0, 0, 7, 0, 0, 0, 6, 0, 0, 0, 48] ++ zeros 39)

/-- The device is up with frames in every tier, has accepted it, and no partition is in Deterministic mode. -/
def detTaken : State := setF TIER_CAP_T2 1000 (setF TIER_CAP_T1 1000 (setF TIER_CAP_T0 1000 (setF DEV_IDENT_GRADE 144 (took detPkt up))))

theorem ready_detPkt : ready detPkt detTaken = true := by decide +kernel

theorem chkPartSet_detPkt : chkPartSet detPkt (leaveTimed detPkt detTaken) = none := by decide +kernel

/-- The command sets the partition's bit of PARTS, which read 0. -/
theorem parts_after_detPkt {t : State} (h : exec (.partSet detPkt) detTaken = .next t) : getF SCHED_DET_PARTS t = 2 ^ 2 := by
  rw [exec_partSet_of_legal ready_detPkt chkPartSet_detPkt] at h
  rw [getF_goesOn h, getF_finish _ _ (by decide), parts_effPartSet]
  decide +kernel

end Sys2Proof.Machine

namespace Sys2Proof
open Machine

/-- Refutes O35: a PART_SET with the Deterministic mode sets its partition's bit of SCHED_DET.PARTS (R362), which is none of the registers that the
statement lets PART_SET change. -/
theorem not_partitionsAndMailboxes : ¬ Obligations.PartitionsAndMailboxes := by
  rintro ⟨hset, _⟩
  obtain ⟨t, ht, _, _, _, _, _, _, _, _, _, _, _, hregs, _⟩ := hset detTaken detPkt ready_detPkt chkPartSet_detPkt
  have hkept : getF SCHED_DET_PARTS t = getF SCHED_DET_PARTS detTaken := hregs SCHED_DET_PARTS (by decide)
  rw [parts_after_detPkt ht] at hkept
  exact absurd hkept (by decide +kernel)

end Sys2Proof

/-! SUPPORT. A response and its way: to the device itself, or out on a port that sends it at once (R283 to R285, R288, R292). -/

namespace Sys2Proof.Machine

variable {fs : List Fld} {ps : List Piece} {s t u : State} {q : Nat} {r : FabPkt}

/-! ### What a way depends on -/

/-- Both states choose the same way for a packet, and ports in them send alike: arrivals aside, the ports, the routes and the device's ID are the
same, nothing has been sent between them, and no time has passed. -/
structure SameLink (s t : State) : Prop where
  now : t.now = s.now
  sent : t.fabSent = s.fabSent
  routes : t.routes = s.routes
  id : ownId t = ownId s
  up : ∀ p, portUp p t = portUp p s
  ports : ∀ p, (hpOf p t).queue = (hpOf p s).queue ∧ (hpOf p t).credit = (hpOf p s).credit ∧ (hpOf p t).replay = (hpOf p s).replay

/-! ### Ports and counters -/

@[simp] theorem hpOf_setHp_same (p : Nat) (x : HPort) (s : State) : hpOf p (setHp p x s) = x := by simp [hpOf, setHp]

theorem hpOf_setHp_ne {p i : Nat} (x : HPort) (s : State) (h : i ≠ p) : hpOf i (setHp p x s) = hpOf i s := by
  rw [hpOf, setHp, look_put_ne _ _ _ h, hpOf]

theorem hpOf_congr (h : t.hport = s.hport) (p : Nat) : hpOf p t = hpOf p s := by rw [hpOf, h]; rfl

theorem frame_withFabric {x : FabricState} (hp : .fabric ∈ ps) : Frame ps s { t with toFabricState := x } ↔ Frame ps s t :=
  frame_congr .fabric (fun g hg => by cases g with | fabric => exact absurd rfl hg | _ => exact Iff.rfl) hp

theorem liveOf_tally1024_ne {g h n : Nat} {f e : Fld} (hk : tallyKey h e ≠ tallyKey g f) (s : State) :
    liveOf h e (tally1024 g f n s) = liveOf h e s := liveOf_tally_ne _ _ hk

/-! ### A packet that a port sends at once -/

/-- A port that holds packet r alone, to be sent. -/
def holding (r : FabPkt) (x : HPort) : HPort := { x with queue := [r] }

/-- Port q, which holds nothing back, sends packet r. -/
def sentOn (q : Nat) (r : FabPkt) (s : State) : State :=
  tally1024 14 (HJF_Pp_TXFLIT_COUNT q) (flitsOf r)
    { s with
      hport := put q (some (sentFrom (holding r (hpOf q s)) 0 r)) (put q (some (holding r (hpOf q s))) s.hport)
      fabSent := (q, r) :: s.fabSent }

theorem hport_sentOn : (sentOn q r s).hport = put q (some (sentFrom (holding r (hpOf q s)) 0 r)) (put q (some (holding r (hpOf q s))) s.hport) := rfl

theorem markSent_of_not_own (h : ownReq r s = false) : markSent r s = s := by simp [markSent, h]

theorem markPort_of_not_own {p : Nat} (h : ownReq r s = false) : markPort r p s = s := by simp [markPort, h]

/-- A response is not an own request. -/
theorem ownReq_of_response (h : 8 ≤ r.type) (s : State) : ownReq r s = false := by
  simp [ownReq, isReq, Nat.not_lt.mpr h]

/-- A port that is UP, holds nothing back and has credits and room sends a packet as it is handed over. -/
theorem sendOn_of_room (hown : ∀ t, ownReq r t = false) (hup : portUp q s = true) (hqueue : (hpOf q s).queue = [])
    (hslots : slotsOf r ≤ laneCredit (hpOf q s) (vlane r)) (hroom : unacked (hpOf q s) + flitsOf r ≤ 512) : sendOn q r s = sentOn q r s := by
  have hsendable : sendable (holding r (hpOf q s)) 0 = true := by
    simp only [sendable, holding, List.getElem?_cons_zero, List.take_zero, List.all_nil, Bool.true_and, Bool.and_eq_true]
    exact ⟨decide_eq_true hslots, decide_eq_true hroom⟩
  have hfirst : (List.range 1).find? (sendable (holding r (hpOf q s))) = some 0 := by
    rw [List.range_one, List.find?_cons_of_pos hsendable]
  have hpump : portPump q 1 (setHp q (holding r (hpOf q s)) s) = markSent r (sentOn q r s) := by
    rw [portPump, hpOf_setHp_same]
    dsimp only
    rw [show (holding r (hpOf q s)).queue.length = 1 from rfl, hfirst]
    rfl
  have hhold : { hpOf q s with queue := (hpOf q s).queue ++ [r] } = holding r (hpOf q s) := by rw [hqueue]; rfl
  rw [sendOn, if_pos hup]
  dsimp only
  rw [hhold, hqueue]
  exact hpump.trans (markSent_of_not_own (hown _))

/-! ### States with the same ways -/

/-- A change of nothing but registers of another place than DEVID and the ports' states, and of pieces beside the fabric's. -/
theorem SameLink.of_eq (hnow : t.now = s.now) (hf : t.fabSent = s.fabSent ∧ t.routes = s.routes ∧ t.hport = s.hport)
    (hid : getF HJF_CFG_DEVID t = getF HJF_CFG_DEVID s) (hst : ∀ p < 16, portSt p t = portSt p s) : SameLink s t := by
  obtain ⟨hsent, hroutes, hport⟩ := hf
  refine ⟨hnow, hsent, hroutes, hid, fun p => ?_, fun p => by rw [hpOf_congr hport]; exact ⟨rfl, rfl, rfl⟩⟩
  by_cases hp : p < 16
  · rw [portUp, portUp, hst p hp]
  · simp [portUp, hp]

theorem SameLink.refl (s : State) : SameLink s s := ⟨rfl, rfl, rfl, rfl, fun _ => rfl, fun _ => ⟨rfl, rfl, rfl⟩⟩

theorem SameLink.trans (h : SameLink s t) (h' : SameLink t u) : SameLink s u := by
  refine ⟨h'.now.trans h.now, h'.sent.trans h.sent, h'.routes.trans h.routes, h'.id.trans h.id, fun p => (h'.up p).trans (h.up p), fun p => ?_⟩
  rw [h'.ports p |>.1, h'.ports p |>.2.1, h'.ports p |>.2.2]
  exact h.ports p

theorem SameLink.takeIn (h : SameLink s t) (p i : Nat) : SameLink s (takeIn p i t) := by
  refine h.trans ⟨rfl, rfl, rfl, rfl, fun _ => rfl, fun j => ?_⟩
  by_cases hj : j = p
  · rw [hj, Machine.takeIn, hpOf_setHp_same]; exact ⟨rfl, rfl, rfl⟩
  · rw [Machine.takeIn, hpOf_setHp_ne _ _ hj]; exact ⟨rfl, rfl, rfl⟩

theorem SameLink.pathOf (h : SameLink s t) (k : FabPkt) : pathOf k t = pathOf k s := by
  have hroute : routeOf k.dst t = routeOf k.dst s := by rw [routeOf, h.routes]; rfl
  have hcredit : ∀ p v, laneCredit (hpOf p t) v = laneCredit (hpOf p s) v := fun p v => by rw [laneCredit, (h.ports p).2.1]; rfl
  have hpaths : upPaths (routeOf k.dst s) k t = upPaths (routeOf k.dst s) k s := by simp only [upPaths, h.up]
  simp only [Machine.pathOf, hroute, hpaths, hcredit]

theorem SameLink.rspWay (h : SameLink s t) (hway : rspWay q r s) : rspWay q r t := by
  obtain ⟨hqueue, hcredit, hreplay⟩ := h.ports q
  have hroute : routeOf r.dst t = routeOf r.dst s := by rw [routeOf, h.routes]; rfl
  simp only [Sys2Proof.rspWay, h.id, hroute, h.pathOf, hqueue, laneCredit, hcredit, unacked, hreplay]
  exact hway

/-! ### The response that has gone its way -/

/-- Response r is handed over: to the arrivals of the local home, or out on port q. -/
def handed (q : Nat) (r : FabPkt) (s : State) : State :=
  if q = 16 then setHp 16 { hpOf 16 s with inq := (hpOf 16 s).inq ++ [(s.now, r)] } s else sentOn q r s

theorem portUp_of_pathOf (h : pathOf r s = some q) : portUp q s = true := by
  have hmem : q ∈ upPaths (routeOf r.dst s) r s := by
    unfold pathOf at h
    dsimp only at h
    split at h
    · split at h
      · cases h
      · next a l hl =>
        have hfold : ∀ (l : List Nat) (a : Nat),
            l.foldl (fun b p => if laneCredit (hpOf b s) (vlane r) < laneCredit (hpOf p s) (vlane r) then p else b) a ∈ a :: l := by
          intro l
          induction l with
          | nil => simp
          | cons b l ih =>
            intro a
            rw [List.foldl_cons]
            split
            · exact List.mem_cons_of_mem _ (ih b)
            · have := ih a
              simp only [List.mem_cons] at this ⊢
              tauto
        rw [hl, ← Option.some.inj h]
        exact hfold l a
    · exact List.mem_of_head? h
  exact (List.mem_filter.mp hmem).2

/-- A response with a way is routed that way (R288). -/
theorem routeOut_of_way (hrsp : 8 ≤ r.type) (hway : rspWay q r s) : routeOut r s = handed q r s := by
  obtain ⟨hdst, rfl⟩ | ⟨hdst, hvalid, hpath, hqueue, hslots, hroom⟩ := hway
  · rw [routeOut, if_pos hdst, sendHome, handed, if_pos rfl]
    exact markSent_of_not_own (ownReq_of_response hrsp _)
  · have hup := portUp_of_pathOf hpath
    have hq : q ≠ 16 := by
      rintro rfl
      simp [portUp] at hup
    rw [routeOut, if_neg hdst, hvalid, if_neg (by simp), hpath, handed, if_neg hq]
    dsimp only
    rw [markPort_of_not_own (ownReq_of_response hrsp _)]
    exact sendOn_of_room (ownReq_of_response hrsp) hup hqueue hslots hroom

theorem frame_handed (hp : [.fabric, .radio, .tallies] ⊆ ps) : Frame ps s (handed q r t) ↔ Frame ps s t := by
  have hfabric : .fabric ∈ ps := hp (by simp)
  unfold handed
  split
  · exact frame_withFabric hfabric
  · rw [sentOn, frame_tally1024 (hp (by simp)) (hp (by simp))]
    exact frame_withFabric hfabric

@[simp] theorem regsExcept_handed : RegsExcept fs s (handed q r t) ↔ RegsExcept fs s t := by
  unfold handed
  split <;> exact Iff.rfl

@[simp] theorem getF_handed (f : Fld) : getF f (handed q r s) = getF f s := by
  unfold handed
  split <;> rfl

@[simp] theorem toMemState_handed : (handed q r s).toMemState = s.toMemState := by
  unfold handed
  split <;> rfl

@[simp] theorem comb_handed : (handed q r s).comb = s.comb := by
  unfold handed
  split <;> rfl

@[simp] theorem streams_handed : (handed q r s).streams = s.streams := by
  unfold handed
  split <;> rfl

@[simp] theorem homeKeeps_handed : homeKeeps s (handed q r t) ↔ homeKeeps s t := by
  unfold handed
  split <;> exact Iff.rfl

/-- A response counts in the flits sent alone. -/
theorem liveOf_handed {g : Nat} {f : Fld} (hk : ∀ q, tallyKey g f ≠ tallyKey 14 (HJF_Pp_TXFLIT_COUNT q)) :
    liveOf g f (handed q r s) = liveOf g f s := by
  unfold handed
  split
  · rfl
  · exact liveOf_tally1024_ne (hk q) _

theorem inq_handed {p : Nat} (h : q ≠ 16 ∨ p ≠ 16) : (hpOf p (handed q r s)).inq = (hpOf p s).inq := by
  unfold handed
  split
  · rw [hpOf_setHp_ne _ _ (by omega)]
  · rw [hpOf, hport_sentOn]
    by_cases hp : p = q
    · rw [hp, look_put_same]; rfl
    · rw [look_put_ne _ _ _ hp, look_put_ne _ _ _ hp]; rfl

theorem sent_handed (h : SameLink s t) : Sent q r s (handed q r t) := by
  refine ⟨fun hq => ?_, fun hq => ?_⟩
  · rw [handed, if_pos hq, hpOf_setHp_same]
    exact ⟨by simp [h.now], h.sent⟩
  · rw [handed, if_neg hq, ← h.sent]
    rfl

/-- A request of no gather entry is answered with its response, on the response's way. -/
theorem answer_eq_handed {k : FabPkt} {st po : Nat} {d : List Byte} (h : SameLink s t) (hway : rspWay q (rspOf k st 0 po d s) s) :
    answer k none st po d t = handed q (rspOf k st 0 po d s) t := by
  have hrsp : mkRsp k st 0 po d t = rspOf k st 0 po d s := by rw [mkRsp, h.id]; rfl
  have htype : 8 ≤ (rspOf k st 0 po d s).type := by
    unfold rspOf
    dsimp only
    split <;> omega
  rw [answer, hrsp]
  exact routeOut_of_way htype (h.rspWay hway)

end Sys2Proof.Machine

/-! SUPPORT. The checks of a request at its home: the Fence Gate, the reasons of R298 in order, and what each outcome leaves (R298, R299, R321). -/

namespace Sys2Proof.Machine

variable {fs : List Fld} {ps : List Piece} {s t : State} {k : FabPkt}

/-! ### The decisions -/

/-- The Fence Gate refuses a request that names an object of a fenced partition or carries its keys (R321). -/
theorem gateRefuses_iff : gateRefuses k s = true ↔ ∃ p ∈ List.range 8, FencedBy p k s := by
  have hparts : eightParts = List.range 8 := rfl
  rw [gateRefuses, hparts, List.any_eq_true]
  refine exists_congr fun p => and_congr_right fun hp => ?_
  have hkey : (lookup p s.parts).any (fun q => decide (q.key = k.key)) = true ↔ (lookup p s.parts).map (fun q => q.key) = some k.key := by
    cases lookup p s.parts <;> simp
  have hlt : p < 8 := List.mem_range.mp hp
  rw [FencedBy, gateClosed, decide_eq_true hlt, Bool.true_and, Bool.and_eq_true, Bool.or_eq_true, Bool.or_eq_true, hkey, or_assoc]
  simp

theorem keysOf_any (f : Nat → Bool) (o : Obj) :
    (keysOf k o).any f = (List.range 4).any (fun i => decide (o.keys[i]? = some k.key) && f i) := by
  rw [keysOf, List.any_filter]

/-- The keys of a block's object that a request carries, as the checks of R298 ask for them. -/
theorem matchingKeys_any (f : Nat → Bool) (o : Option Obj) :
    ((o.map (keysOf k)).getD []).any f = (List.range 4).any (fun i => o.any (fun o => decide (o.keys[i]? = some k.key) && f i)) := by
  cases o with
  | none => simp
  | some o => exact keysOf_any f o

theorem isEmpty_eq_not_any {α : Type} (l : List α) : l.isEmpty = !l.any (fun _ => true) := by cases l <;> rfl

theorem firstFailed_cons (n : Nat) (b : Bool) (l : List (Nat × Bool)) :
    (((n, b) :: l).find? (fun x => x.2)).map (fun x => x.1) = if b then some n else (l.find? (fun x => x.2)).map (fun x => x.1) := by
  cases b <;> rfl

/-- The check that refuses a request is the first that it fails (R298). -/
theorem refusal_eq_firstReason (htype : k.type ≤ 3) : refusal k s = firstReason k s := by
  have hperm : permBit k.type = k.type := by
    generalize k.type = n at htype
    interval_cases n <;> rfl
  have hkeys := fun f => matchingKeys_any (k := k) f (lookup (entObj (bent (k.addr / 2 ^ 21) s)) s.objs)
  have hperms : ∀ o : Option Obj, (List.range 4).any (fun i => o.any (fun o' => decide (o'.keys[i]? = some k.key) &&
        bitAt (4 * i + k.type) ((o.map (fun o => o.perm)).getD 0))) =
      (List.range 4).any (fun i => o.any (fun o => decide (o.keys[i]? = some k.key) && bitAt (4 * i + k.type) o.perm)) := by
    rintro (_ | o) <;> rfl
  rw [refusal, firstReason, refTable]
  simp only [firstFailed_cons, List.find?_nil, Option.map_none, isEmpty_eq_not_any, hkeys, hperm, hperms, Bool.and_true, flagF, Bool.or_eq_true,
    Bool.and_eq_true, decide_eq_true_eq, Bool.not_eq_true', decide_not, Bool.not_not,
    ne_eq, decide_eq_false_iff_not]

theorem admitCheck_of_fenced (h : ∃ p ∈ List.range 8, FencedBy p k s) : admitCheck k s = (some 3, countFenced s) := by
  rw [admitCheck, if_pos (gateRefuses_iff.mpr h)]

theorem gate_open (h : ∀ p ∈ List.range 8, ¬ FencedBy p k s) : ¬ gateRefuses k s = true := fun hr => by
  obtain ⟨p, hp, hf⟩ := gateRefuses_iff.mp hr
  exact h p hp hf

theorem admitCheck_of_refused {r : Nat} (h : ∀ p ∈ List.range 8, ¬ FencedBy p k s) (hr : firstReason k s = some r) (htype : k.type ≤ 3) :
    admitCheck k s = (some 1, logRefusal k r s) := by rw [admitCheck, if_neg (gate_open h), refusal_eq_firstReason htype, hr]

theorem admitCheck_of_passes (h : Passes k s) (htype : k.type ≤ 3) : admitCheck k s = (none, s) := by
  rw [admitCheck, if_neg (gate_open h.1), refusal_eq_firstReason htype, h.2]

/-! ### What a refusal leaves -/

/-- A change of pieces beside the fabric and time, and of registers of another place than DEVID and the ports' states. -/
theorem SameLink.of_frame (hf : Frame [.radio, .tallies, .bus, .mem] s t) (hr : RegsExcept fs s t) (hid : ∀ g ∈ fs, HJF_CFG_DEVID.key ≠ g.key)
    (hst : ∀ p < 16, ∀ g ∈ fs, (HJF_Pp_STAT_STATE p).key ≠ g.key) : SameLink s t := by
  have hfab : t.toFabricState = s.toFabricState := hf .fabric (by decide)
  exact .of_eq (hf .time (by decide)) (by rw [hfab]; exact ⟨rfl, rfl, rfl⟩) (hr _ hid) fun p hp => hr _ (hst p hp)

/-- The registers that a refusal changes. -/
def fencedRegs : List Fld := HJF_OSTAT_FENCED :: vecRegs
def deniedRegs (e : Nat) : List Fld := [HJF_LOG_ENT0_ENT e, HJF_LOG_ENT1_ENT e, HJF_LOGHEAD_NEXT, HJF_LOGHEAD_TOTAL, HJF_STAT_DENIED] ++ vecRegs

theorem regsExcept_countFenced : RegsExcept fencedRegs s (countFenced s) :=
  (regsExcept_event (List.subset_cons_self _ _) List.mem_cons_self _ _ _ _).mpr (regsExcept_refl _ s)

theorem frame_countFenced (h : [.tallies, .bus] ⊆ ps) : Frame ps s (countFenced s) := by
  rw [countFenced, hjfOevent, frame_event (h (by simp)) (h (by simp)), frame_tally _ _ _ (h (by simp))]
  exact frame_refl _ s

theorem flagF_countFenced (s : State) : flagF HJF_OSTAT_FENCED (countFenced s) = true := flagF_event (by decide) (by decide) _

theorem liveOf_countFenced (s : State) :
    liveOf 14 HJF_T_FENCED_COUNT (countFenced s) = min (2 ^ HJF_T_FENCED_COUNT.width - 1) (liveOf 14 HJF_T_FENCED_COUNT s + 1) := by
  rw [countFenced, hjfOevent, liveOf_event (by decide), liveOf_tally_same]

theorem sameLink_countFenced (s : State) : SameLink s (countFenced s) :=
  .of_frame (frame_countFenced (by decide)) regsExcept_countFenced (by decide) (by decide)

section Log

variable {r e : Nat}

theorem key_HJF_LOG_ENT0_ENT (e : Nat) : (HJF_LOG_ENT0_ENT e).key = e * 0x400 + 0x30100000 := by
  simp only [Fld.key, HJF_LOG_ENT0_ENT, HJF_LOG_ENT0]; omega
theorem key_HJF_LOG_ENT1_ENT (e : Nat) : (HJF_LOG_ENT1_ENT e).key = e * 0x400 + 0x30100200 := by
  simp only [Fld.key, HJF_LOG_ENT1_ENT, HJF_LOG_ENT1]; omega

/-- A register below the log is none of its entries. -/
theorem key_ne_entries {f : Fld} (h : f.key < 0x30100000) (e : Nat) : f.key ≠ (HJF_LOG_ENT0_ENT e).key ∧ f.key ≠ (HJF_LOG_ENT1_ENT e).key := by
  rw [key_HJF_LOG_ENT0_ENT, key_HJF_LOG_ENT1_ENT]
  omega

theorem key_ne_deniedRegs {f : Fld} (h : f.key < 0x30100000) (hf : ∀ g ∈ [HJF_LOGHEAD_NEXT, HJF_LOGHEAD_TOTAL, HJF_STAT_DENIED] ++ vecRegs, f.key ≠ g.key)
    (e : Nat) : ∀ g ∈ deniedRegs e, f.key ≠ g.key := by
  obtain ⟨h0, h1⟩ := key_ne_entries h e
  exact List.forall_mem_cons.mpr ⟨h0, List.forall_mem_cons.mpr ⟨h1, hf⟩⟩

/-- The log's registers with the refusal entered, before its event. -/
def loggedRefusal (k : FabPkt) (r : Nat) (s : State) : State :=
  addSatF HJF_LOGHEAD_TOTAL 1 (setF HJF_LOGHEAD_NEXT (getF HJF_LOGHEAD_NEXT s + 1)
    (setF (HJF_LOG_ENT1_ENT (getF HJF_LOGHEAD_NEXT s)) (k.addr + ageNow s % 2 ^ 21 * 2 ^ 43)
      (setF (HJF_LOG_ENT0_ENT (getF HJF_LOGHEAD_NEXT s)) (k.src + k.type * 2 ^ 16 + r * 2 ^ 20 + 2 ^ 23 + k.key * 2 ^ 24) s)))

theorem logRefusal_eq : logRefusal k r s = hjfEvent HJF_STAT_DENIED (tally 14 HJF_T_DENIED_COUNT 1 (loggedRefusal k r s)) := rfl

theorem regsExcept_logRefusal : RegsExcept (deniedRegs (getF HJF_LOGHEAD_NEXT s)) s (logRefusal k r s) := by
  have hmem : ∀ f ∈ [HJF_LOG_ENT0_ENT (getF HJF_LOGHEAD_NEXT s), HJF_LOG_ENT1_ENT (getF HJF_LOGHEAD_NEXT s), HJF_LOGHEAD_NEXT, HJF_LOGHEAD_TOTAL,
      HJF_STAT_DENIED], f ∈ deniedRegs (getF HJF_LOGHEAD_NEXT s) := fun _ => List.mem_append_left _
  rw [logRefusal_eq, hjfEvent, regsExcept_event (show vecRegs ⊆ deniedRegs _ from List.subset_append_right _ _) (hmem _ (by simp)), regsExcept_tally, loggedRefusal, addSatF,
    regsExcept_setF _ (hmem _ (by simp)), regsExcept_setF _ (hmem _ (by simp)), regsExcept_setF _ (hmem _ (by simp)),
    regsExcept_setF _ (hmem _ (by simp))]
  exact regsExcept_refl _ s

theorem frame_logRefusal (h : [.tallies, .bus] ⊆ ps) : Frame ps s (logRefusal k r s) := by
  rw [logRefusal_eq, hjfEvent, frame_event (h (by simp)) (h (by simp)), frame_tally _ _ _ (h (by simp)), loggedRefusal, addSatF, frame_setF,
    frame_setF, frame_setF, frame_setF]
  exact frame_refl _ s

theorem flagF_logRefusal : flagF HJF_STAT_DENIED (logRefusal k r s) = true := by
  rw [logRefusal_eq]
  exact flagF_event (by decide) (by decide) _

theorem liveOf_logRefusal :
    liveOf 14 HJF_T_DENIED_COUNT (logRefusal k r s) = min (2 ^ HJF_T_DENIED_COUNT.width - 1) (liveOf 14 HJF_T_DENIED_COUNT s + 1) := by
  have hlive : ∀ (f : Fld) (v : Nat) (u : State), liveOf 14 HJF_T_DENIED_COUNT (setF f v u) = liveOf 14 HJF_T_DENIED_COUNT u := fun _ _ _ => rfl
  rw [logRefusal_eq, hjfEvent, liveOf_event (by decide), liveOf_tally_same, loggedRefusal, addSatF, hlive, hlive, hlive, hlive]

theorem sameLink_logRefusal : SameLink s (logRefusal k r s) := by
  refine .of_frame (frame_logRefusal (by decide)) regsExcept_logRefusal (key_ne_deniedRegs (by decide) (by decide) _) fun p hp =>
    key_ne_deniedRegs ?_ ?_ _
  · simp only [Fld.key, HJF_Pp_STAT_STATE, HJF_Pp_STAT]; omega
  · interval_cases p <;> decide

/-- The event of a refusal leaves the registers of the log as they were written. -/
theorem getF_logRefusal {f : Fld} (hf : ∀ g ∈ HJF_STAT_DENIED :: vecRegs, f.key ≠ g.key) :
    getF f (logRefusal k r s) = getF f (loggedRefusal k r s) := by
  rw [logRefusal_eq, hjfEvent]
  exact (regsExcept_event (fs := HJF_STAT_DENIED :: vecRegs) (List.subset_cons_self _ _) List.mem_cons_self _ _ _ _).mpr
    ((regsExcept_tally _ _ _).mpr (regsExcept_refl _ _)) f hf

/-- The entry of a refusal, and the head of the log after it (R299). -/
theorem log_after_logRefusal (he : e = getF HJF_LOGHEAD_NEXT s) (htype : k.type ≤ 3) (hr : r ≤ 7)
    (hk : k.src < 2 ^ 16 ∧ k.key < 2 ^ 32 ∧ k.addr < 2 ^ 43) :
    getF (HJF_LOG_ENT0_ENT e) (logRefusal k r s) = k.src + k.type * 2 ^ 16 + r * 2 ^ 20 + 2 ^ 23 + k.key * 2 ^ 24 ∧
    getF (HJF_LOG_ENT1_ENT e) (logRefusal k r s) = k.addr + ageNow s % 2 ^ 21 * 2 ^ 43 ∧
    getF HJF_LOGHEAD_NEXT (logRefusal k r s) = (e + 1) % 32 ∧
    getF HJF_LOGHEAD_TOTAL (logRefusal k r s) = min (2 ^ 24 - 1) (getF HJF_LOGHEAD_TOTAL s + 1) := by
  subst he
  generalize he : getF HJF_LOGHEAD_NEXT s = e at *
  have hentries : (HJF_LOG_ENT0_ENT e).key ≠ (HJF_LOG_ENT1_ENT e).key := by
    rw [key_HJF_LOG_ENT0_ENT, key_HJF_LOG_ENT1_ENT]; omega
  have hbelow : ∀ f ∈ HJF_STAT_DENIED :: HJF_LOGHEAD_NEXT :: HJF_LOGHEAD_TOTAL :: vecRegs,
      (HJF_LOG_ENT0_ENT e).key ≠ f.key ∧ (HJF_LOG_ENT1_ENT e).key ≠ f.key := fun f hf => by
    have hlow : f.key < 0x30100000 := (show ∀ f ∈ HJF_STAT_DENIED :: HJF_LOGHEAD_NEXT :: HJF_LOGHEAD_TOTAL :: vecRegs, f.key < 0x30100000 by decide) f hf
    exact (key_ne_entries hlow e).imp Ne.symm Ne.symm
  have hevent : ∀ f ∈ HJF_STAT_DENIED :: vecRegs, f ∈ HJF_STAT_DENIED :: HJF_LOGHEAD_NEXT :: HJF_LOGHEAD_TOTAL :: vecRegs := by decide
  have hnext := hbelow HJF_LOGHEAD_NEXT (by simp)
  have htotal := hbelow HJF_LOGHEAD_TOTAL (by simp)
  refine ⟨?_, ?_, ?_, ?_⟩
  · rw [getF_logRefusal fun g hg => (hbelow g (hevent g hg)).1, loggedRefusal, addSatF, he, getF_setF_ne _ _ htotal.1, getF_setF_ne _ _ hnext.1,
      getF_setF_ne _ _ hentries, getF_setF_same, show (HJF_LOG_ENT0_ENT e).width = 64 from rfl]
    omega
  · rw [getF_logRefusal fun g hg => (hbelow g (hevent g hg)).2, loggedRefusal, addSatF, he, getF_setF_ne _ _ htotal.2, getF_setF_ne _ _ hnext.2,
      getF_setF_same, show (HJF_LOG_ENT1_ENT e).width = 64 from rfl]
    omega
  · rw [getF_logRefusal (by decide), loggedRefusal, addSatF, getF_setF_ne _ _ (by decide), getF_setF_same, he]
    rfl
  · rw [getF_logRefusal (by decide), loggedRefusal, addSatF, getF_setF_same, getF_setF_ne _ _ (by decide), he, getF_setF_ne _ _ htotal.2.symm,
      getF_setF_ne _ _ htotal.1.symm, show HJF_LOGHEAD_TOTAL.width = 24 from rfl]
    omega

end Log

end Sys2Proof.Machine

/-! SUPPORT. A request that comes in and is refused (R298, R299, R321). -/

namespace Sys2Proof.Machine

variable {fs : List Fld} {ps : List Piece} {s t u : State} {k : FabPkt}

/-! ### The request at the head of a port's arrivals -/

theorem of_headIn {ok : FabPkt → Bool} {p i w : Nat} (h : headIn ok p s = some (i, w, k)) : ok k = true := by
  obtain ⟨j, _, hj⟩ := List.exists_of_findSome?_eq_some h
  split at hj
  · cases hj
  · next x y hxy =>
    split at hj
    · next hok =>
      cases hj
      exact hok.1
    · cases hj

theorem type_of_headIn {p i w : Nat} (h : headIn (isRequest s) p s = some (i, w, k)) : k.type ≤ 2 := by
  have hreq := of_headIn h
  simp only [isRequest, Bool.and_eq_true, decide_eq_true_eq] at hreq
  exact hreq.1

theorem inq_takeIn (p i : Nat) (s : State) : (hpOf p (takeIn p i s)).inq = (hpOf p s).inq.eraseIdx i := by
  rw [takeIn, hpOf_setHp_same]

@[simp] theorem regsExcept_takeIn {p i : Nat} : RegsExcept fs s (takeIn p i t) ↔ RegsExcept fs s t := Iff.rfl

theorem frame_takeIn {p i : Nat} (hp : .fabric ∈ ps) : Frame ps s (takeIn p i t) ↔ Frame ps s t :=
  frame_withFabric (x := { t.toFabricState with hport := _ }) hp

section Receive

variable {p : Fin 17} {i w : Nat} (hhead : headIn (isRequest s) p s = some (i, w, k))
include hhead

/-- A request that a check refuses is taken from the arrivals and answered (R299, R321). -/
theorem exec_fabricRequestReceive_of_refused {st : Nat} (h : admitCheck k s = (some st, u)) :
    exec (.fabricRequestReceive p) s = goesOn s (answer k none st 0 [] (takeIn p i u)) := by
  show execFabricRequestReceive p s = _
  rw [execFabricRequestReceive, hhead]
  dsimp only
  rw [h]

/-- A request that passes enters its Combiner's queue, or waits (R317). -/
theorem exec_fabricRequestReceive_of_passes (h : Passes k s) :
    exec (.fabricRequestReceive p) s = goesOn s
      (if combRoom k s ∧ streamRoom k s ∧ !earlierWaits p w k s then combPush k p none w (takeIn p i s) else s) := by
  have htype := type_of_headIn hhead
  show execFabricRequestReceive p s = _
  rw [execFabricRequestReceive, hhead]
  dsimp only
  rw [admitCheck_of_passes h (by omega)]

end Receive

/-! ### A refusal's answer -/

section Refused

variable {p i q : Nat} {r : FabPkt} (hlink : SameLink s u) (hfab : u.toFabricState = s.toFabricState)
include hlink hfab

/-- Beside the counters, registers and vectors of the refusal, its answer changes the arrivals and the way of the response. -/
theorem refused_at_ingress :
    Sent q r s (handed q r (takeIn p i u)) ∧
    (q ≠ 16 ∨ p ≠ 16 → (hpOf p (handed q r (takeIn p i u))).inq = (hpOf p s).inq.eraseIdx i) ∧
    (handed q r (takeIn p i u)).comb = s.comb ∧ (handed q r (takeIn p i u)).streams = s.streams ∧ homeKeeps s (handed q r (takeIn p i u)) := by
  have hport : hpOf p u = hpOf p s := hpOf_congr (congrArg FabricState.hport hfab) p
  refine ⟨sent_handed (hlink.takeIn p i), fun h => ?_, ?_, ?_, ?_⟩
  · rw [inq_handed h, inq_takeIn, hport]
  · rw [comb_handed]
    exact (congrArg FabricState.comb hfab : u.comb = s.comb)
  · rw [streams_handed]
    exact (congrArg FabricState.streams hfab : u.streams = s.streams)
  · rw [homeKeeps_handed]
    simp only [homeKeeps, takeIn, setHp, hfab, and_self]

end Refused

theorem tallyKey_fenced_ne (q : Nat) : tallyKey 14 HJF_T_FENCED_COUNT ≠ tallyKey 14 (HJF_Pp_TXFLIT_COUNT q) := by
  simp only [tallyKey, Fld.key, HJF_T_FENCED_COUNT, HJF_T_FENCED, HJF_Pp_TXFLIT_COUNT, HJF_Pp_TXFLIT]; omega

theorem tallyKey_denied_ne (q : Nat) : tallyKey 14 HJF_T_DENIED_COUNT ≠ tallyKey 14 (HJF_Pp_TXFLIT_COUNT q) := by
  simp only [tallyKey, Fld.key, HJF_T_DENIED_COUNT, HJF_T_DENIED, HJF_Pp_TXFLIT_COUNT, HJF_Pp_TXFLIT]; omega

theorem fabricRequestReceive_completes_fenced {p : Fin 17} {i w q f : Nat} (hhead : headIn (isRequest s) p s = some (i, w, k))
    (hf : f ∈ List.range 8 ∧ FencedBy f k s) (hway : rspWay q (rspOf k 3 0 0 [] s) s) :
    Completes (.fabricRequestReceive p) s (fun t =>
      Sent q (rspOf k 3 0 0 [] s) s t ∧ (q ≠ 16 ∨ p ≠ 16 → (hpOf p t).inq = (hpOf p s).inq.eraseIdx i) ∧ t.comb = s.comb ∧ t.streams = s.streams ∧
      liveOf 14 HJF_T_FENCED_COUNT t = min (2 ^ HJF_T_FENCED_COUNT.width - 1) (liveOf 14 HJF_T_FENCED_COUNT s + 1) ∧ flagF HJF_OSTAT_FENCED t = true ∧
      homeKeeps s t ∧ RegsExcept (HJF_OSTAT_FENCED :: vecRegs) s t ∧ Frame [.fabric, .radio, .tallies, .bus] s t) := by
  have hlink := sameLink_countFenced s
  have hexec := exec_fabricRequestReceive_of_refused hhead (admitCheck_of_fenced ⟨f, hf⟩)
  rw [answer_eq_handed (hlink.takeIn p i) hway] at hexec
  obtain ⟨hsent, hinq, hcomb, hstreams, hkeeps⟩ := refused_at_ingress (p := p) (i := i) (q := q) (r := rspOf k 3 0 0 [] s) hlink
    (frame_countFenced (ps := [.tallies, .bus]) (by simp) .fabric (by decide))
  refine completes_of_goesOn hexec (fun _ _ h => h) ⟨hsent, fun h => hinq (h.imp_right fun h => by omega), hcomb, hstreams, ?_, ?_, hkeeps, ?_, ?_⟩
  · rw [liveOf_handed tallyKey_fenced_ne]
    exact liveOf_countFenced s
  · rw [flagF, getF_handed]
    exact flagF_countFenced s
  · rw [regsExcept_handed, regsExcept_takeIn]
    exact regsExcept_countFenced
  · rw [frame_handed (by simp), frame_takeIn (by simp)]
    exact frame_countFenced (by simp)

/-- The reasons are the numbers 1 to 7 (R299). -/
theorem reason_le {r : Nat} (h : firstReason k s = some r) : r ≤ 7 := by
  rw [firstReason, Option.map_eq_some_iff] at h
  obtain ⟨x, hx, rfl⟩ := h
  have hmem := List.mem_of_find?_eq_some hx
  simp only [refTable, List.mem_cons, List.not_mem_nil, or_false] at hmem
  obtain rfl | rfl | rfl | rfl | rfl | rfl | rfl := hmem <;> simp only [Nat.reduceLeDiff]

theorem fabricRequestReceive_completes_denied {p : Fin 17} {i w q r e : Nat} (hhead : headIn (isRequest s) p s = some (i, w, k))
    (hopen : ∀ f ∈ List.range 8, ¬ FencedBy f k s) (hr : firstReason k s = some r) (hway : rspWay q (rspOf k 1 0 0 [] s) s)
    (he : e = getF HJF_LOGHEAD_NEXT s) (hk : k.src < 2 ^ 16 ∧ k.key < 2 ^ 32 ∧ k.addr < 2 ^ 43) :
    Completes (.fabricRequestReceive p) s (fun t =>
      Sent q (rspOf k 1 0 0 [] s) s t ∧ (q ≠ 16 ∨ p ≠ 16 → (hpOf p t).inq = (hpOf p s).inq.eraseIdx i) ∧ t.comb = s.comb ∧ t.streams = s.streams ∧
      getF (HJF_LOG_ENT0_ENT e) t = k.src + k.type * 2 ^ 16 + r * 2 ^ 20 + 2 ^ 23 + k.key * 2 ^ 24 ∧
      getF (HJF_LOG_ENT1_ENT e) t = k.addr + ageNow s % 2 ^ 21 * 2 ^ 43 ∧ getF HJF_LOGHEAD_NEXT t = (e + 1) % 32 ∧
      getF HJF_LOGHEAD_TOTAL t = min (2 ^ 24 - 1) (getF HJF_LOGHEAD_TOTAL s + 1) ∧
      liveOf 14 HJF_T_DENIED_COUNT t = min (2 ^ HJF_T_DENIED_COUNT.width - 1) (liveOf 14 HJF_T_DENIED_COUNT s + 1) ∧ flagF HJF_STAT_DENIED t = true ∧
      homeKeeps s t ∧ RegsExcept ([HJF_LOG_ENT0_ENT e, HJF_LOG_ENT1_ENT e, HJF_LOGHEAD_NEXT, HJF_LOGHEAD_TOTAL, HJF_STAT_DENIED] ++ vecRegs) s t ∧
      Frame [.fabric, .radio, .tallies, .bus] s t) := by
  have htype := type_of_headIn hhead
  have hlink : SameLink s (logRefusal k r s) := sameLink_logRefusal
  have hexec := exec_fabricRequestReceive_of_refused hhead (admitCheck_of_refused hopen hr (by omega))
  rw [answer_eq_handed (hlink.takeIn p i) hway] at hexec
  obtain ⟨hsent, hinq, hcomb, hstreams, hkeeps⟩ := refused_at_ingress (p := p) (i := i) (q := q) (r := rspOf k 1 0 0 [] s) hlink
    (frame_logRefusal (ps := [.tallies, .bus]) (by simp) .fabric (by decide))
  obtain ⟨hent0, hent1, hnext, htotal⟩ := log_after_logRefusal he (show k.type ≤ 3 by omega) (reason_le hr) hk
  have hreg : ∀ f, getF f (handed q (rspOf k 1 0 0 [] s) (takeIn p i (logRefusal k r s))) = getF f (logRefusal k r s) := fun f => getF_handed f
  refine completes_of_goesOn hexec (fun _ _ h => h) ⟨hsent, fun h => hinq (h.imp_right fun h => by omega), hcomb, hstreams, (hreg _).trans hent0,
    (hreg _).trans hent1, (hreg _).trans hnext, (hreg _).trans htotal, ?_, ?_, hkeeps, ?_, ?_⟩
  · rw [liveOf_handed tallyKey_denied_ne]
    exact liveOf_logRefusal
  · rw [flagF, hreg]
    exact flagF_logRefusal
  · rw [regsExcept_handed, regsExcept_takeIn, he]
    exact regsExcept_logRefusal
  · rw [frame_handed (by simp), frame_takeIn (by simp)]
    exact frame_logRefusal (by simp)

end Sys2Proof.Machine

/-! SUPPORT. A request that enters its Combiner's queue, or waits: its stream, and the line that it may make hot (R312, R317, R320). -/

namespace Sys2Proof.Machine

variable {fs : List Fld} {ps : List Piece} {s t u : State} {k : FabPkt}

/-! ### Streams (R312) -/

theorem streamOf_congr (h : t.streams = s.streams) (k : FabPkt) : streamOf k t = streamOf k s := by rw [streamOf, h]; rfl

theorem key_of_streamOf {x : Stream} (h : streamOf k s = some x) : (x.src, x.group) = streamKey k := by
  rw [streamOf] at h
  have hkey := List.find?_some h
  exact of_decide_eq_true hkey

/-- An entry put in its stream's place is what the stream has. -/
theorem streamOf_putStream {x : Stream} (hkey : (x.src, x.group) = streamKey k) (hsome : (streamOf k s).isSome = true) :
    streamOf k (putStream x s) = some x := by
  have hsame : ((fun y : Stream => decide ((y.src, y.group) = streamKey k)) ∘ fun y => if (y.src, y.group) = (x.src, x.group) then x else y) =
      fun y => decide ((y.src, y.group) = streamKey k) := by
    funext y
    simp only [Function.comp_apply]
    split
    · next h => rw [hkey, h, hkey]
    · rfl
  obtain ⟨y, hy⟩ := Option.isSome_iff_exists.mp hsome
  have hykey : (y.src, y.group) = (x.src, x.group) := by rw [hkey]; exact key_of_streamOf hy
  rw [streamOf] at hy
  rw [streamOf, putStream, List.find?_map, hsame, hy, Option.map_some, if_pos hykey]

/-- An arrival touches the streams alone. -/
theorem toFabricState_touchStream : (touchStream k s).toFabricState = { s.toFabricState with streams := (touchStream k s).streams } := by
  unfold touchStream
  split <;> rfl

theorem regsExcept_touchStream (h : HJF_DF_STREAMS ∈ fs) : RegsExcept fs s (touchStream k t) ↔ RegsExcept fs s t := by
  unfold touchStream
  split
  · exact regsExcept_setF _ h
  · exact Iff.rfl

theorem frame_touchStream (h : .fabric ∈ ps) : Frame ps s (touchStream k t) ↔ Frame ps s t := by
  unfold touchStream
  split <;> exact frame_withFabric h

theorem liveOf_touchStream {g : Nat} {f : Fld} : liveOf g f (touchStream k s) = liveOf g f s := by
  unfold touchStream
  split <;> rfl

/-- A request of a new stream takes an entry; one of a known stream moves its TOP (R312). -/
theorem streamSeen_touchStream (h : t.streams = (touchStream k s).streams) : StreamSeen k s t := by
  have hof := streamOf_congr h k
  rw [StreamSeen, hof, h]
  cases hs : streamOf k s with
  | none =>
    have htouch : touchStream k s = setF HJF_DF_STREAMS (s.streams.length + 1) { s with streams := s.streams ++
        [⟨(streamKey k).1, (streamKey k).2, k.txid, [], [(1, k.epoch), (2, k.epoch), (3, k.epoch)], [], s.now⟩] } := by
      rw [touchStream, hs]
      simp only [List.length_append, List.length_cons, List.length_nil, Nat.zero_add]
    have hnew : streamOf k (touchStream k s) =
        some ⟨(streamKey k).1, (streamKey k).2, k.txid, [], [(1, k.epoch), (2, k.epoch), (3, k.epoch)], [], s.now⟩ := by
      rw [streamOf] at hs
      rw [htouch, streamOf]
      show List.find? _ (s.streams ++ _) = _
      rw [List.find?_append, hs, Option.none_or]
      exact List.find?_cons_of_pos (decide_eq_true rfl)
    refine ⟨?_, ?_, ?_, fun _ => ?_, ?_⟩
    · rw [hnew]; rfl
    · rw [hnew]; rfl
    · rw [hnew]; rfl
    · rw [hnew]; exact ⟨rfl, rfl⟩
    · rw [htouch, if_pos rfl]
      exact List.length_append
  | some x =>
    have hput : touchStream k s = putStream { x with
        top := if serialLt 32 x.top k.txid then k.txid else x.top
        done := x.done.filter (inWindowId (if serialLt 32 x.top k.txid then k.txid else x.top)), last := s.now } s := by
      rw [touchStream, hs]
    have hkey := key_of_streamOf hs
    rw [hput, streamOf_putStream (by exact hkey) (by rw [hs]; rfl)]
    refine ⟨congrArg some hkey, rfl, rfl, nofun, ?_⟩
    exact List.length_map _ |>.trans (if_neg (Option.some_ne_none x)).symm

/-! ### A line that becomes hot (R320) -/

theorem toFabricState_event (st : Fld) (i : Nat) (mask : Fld) (e : Nat) (vec : Fld) (s : State) :
    (event st i mask e vec s).toFabricState = s.toFabricState :=
  (frame_event (by decide) (by decide)).mpr (frame_refl [.bus, .tallies] s) .fabric (by decide)

section Hot

variable {line : Nat}

theorem hotLine_of_cold (h : ¬ (getF HJF_COMB_HOT_THR s ≤ (lineQueue line s).length ∧ line ∉ s.hotSeen)) : hotLine line s = s := if_neg h

theorem hotLine_of_hot (h : getF HJF_COMB_HOT_THR s ≤ (lineQueue line s).length ∧ line ∉ s.hotSeen) :
    hotLine line s = hjfOevent HJF_OSTAT_HOTLINE (tally 14 HJF_T_HOTLINE_COUNT 1 (setF HJF_HOT_COMB (combOf (line * 64))
      (setF HJF_HOT_LINE (line * 64) { s with hotSeen := insertNat line s.hotSeen }))) := if_pos h

theorem toFabricState_hotLine : (hotLine line s).toFabricState = { s.toFabricState with hotSeen := (hotLine line s).hotSeen } := by
  by_cases h : getF HJF_COMB_HOT_THR s ≤ (lineQueue line s).length ∧ line ∉ s.hotSeen
  · have hev : (hotLine line s).toFabricState = { s.toFabricState with hotSeen := insertNat line s.hotSeen } := by
      rw [hotLine_of_hot h, hjfOevent, toFabricState_event]
      rfl
    rw [hev]
  · rw [hotLine_of_cold h]

/-- The registers of a hot line. -/
def hotRegs : List Fld := [HJF_HOT_LINE, HJF_HOT_COMB, HJF_OSTAT_HOTLINE] ++ vecRegs

theorem regsExcept_hotLine (h : hotRegs ⊆ fs) : RegsExcept fs s (hotLine line t) ↔ RegsExcept fs s t := by
  have hmem : ∀ f ∈ [HJF_HOT_LINE, HJF_HOT_COMB, HJF_OSTAT_HOTLINE], f ∈ fs := fun f hf => h (List.mem_append_left _ hf)
  have hvec : vecRegs ⊆ fs := fun f hf => h (List.mem_append_right _ hf)
  by_cases hhot : getF HJF_COMB_HOT_THR t ≤ (lineQueue line t).length ∧ line ∉ t.hotSeen
  · rw [hotLine_of_hot hhot, hjfOevent, regsExcept_event hvec (hmem _ (by simp)), regsExcept_tally, regsExcept_setF _ (hmem _ (by simp)),
      regsExcept_setF _ (hmem _ (by simp))]
    exact Iff.rfl
  · rw [hotLine_of_cold hhot]

theorem frame_hotLine (h : [.fabric, .tallies, .bus] ⊆ ps) : Frame ps s (hotLine line t) ↔ Frame ps s t := by
  by_cases hhot : getF HJF_COMB_HOT_THR t ≤ (lineQueue line t).length ∧ line ∉ t.hotSeen
  · rw [hotLine_of_hot hhot, hjfOevent, frame_event (h (by simp)) (h (by simp)), frame_tally _ _ _ (h (by simp)), frame_setF, frame_setF]
    exact frame_withFabric (h (by simp))
  · rw [hotLine_of_cold hhot]

/-- What a line leaves that becomes hot: its registers, its flag and its count. -/
theorem hotLine_shows (h : getF HJF_COMB_HOT_THR s ≤ (lineQueue line s).length ∧ line ∉ s.hotSeen) :
    line ∈ (hotLine line s).hotSeen ∧ getF HJF_HOT_LINE (hotLine line s) = line * 64 % 2 ^ 43 ∧
    getF HJF_HOT_COMB (hotLine line s) = combOf (line * 64) % 16 ∧ flagF HJF_OSTAT_HOTLINE (hotLine line s) = true ∧
    liveOf 14 HJF_T_HOTLINE_COUNT (hotLine line s) = min (2 ^ HJF_T_HOTLINE_COUNT.width - 1) (liveOf 14 HJF_T_HOTLINE_COUNT s + 1) := by
  have hev : ∀ (f : Fld) (u : State), (∀ g ∈ HJF_OSTAT_HOTLINE :: vecRegs, f.key ≠ g.key) →
      getF f (hjfOevent HJF_OSTAT_HOTLINE (tally 14 HJF_T_HOTLINE_COUNT 1 u)) = getF f u := fun f u hf =>
    (regsExcept_event (fs := HJF_OSTAT_HOTLINE :: vecRegs) (List.subset_cons_self _ _) List.mem_cons_self _ _ _ _).mpr
      ((regsExcept_tally _ _ _).mpr (regsExcept_refl _ _)) f hf
  rw [hotLine_of_hot h]
  refine ⟨?_, ?_, ?_, ?_, ?_⟩
  · show line ∈ (hjfOevent _ _).toFabricState.hotSeen
    rw [hjfOevent, toFabricState_event]
    show line ∈ insertNat line s.hotSeen
    rw [insertNat, if_neg h.2]
    exact List.mem_cons_self
  · rw [hev _ _ (by decide), getF_setF_ne _ _ (by decide), getF_setF_same]
    rfl
  · rw [hev _ _ (by decide), getF_setF_same]
    rfl
  · exact flagF_event (by decide) (by decide) _
  · rw [hjfOevent, liveOf_event (by decide), liveOf_tally_same]
    rfl

end Hot

/-! ### A request that enters its queue (R317) -/

/-- The queue with the request at its end, before the line is counted. -/
def entered (k : FabPkt) (port : Nat) (gather : Option Nat) (w : Nat) (s : State) : State :=
  { touchStream k s with comb := s.comb ++ [⟨k, port, gather, w⟩], lineBufs := insertNat (k.addr / 64) s.lineBufs }

section Push

variable {port w : Nat} {gather : Option Nat}

theorem combPush_eq : combPush k port gather w s = hotLine (k.addr / 64) (entered k port gather w s) := by
  have hfab := toFabricState_touchStream (k := k) (s := s)
  have hcomb : (touchStream k s).comb = s.comb := (congrArg FabricState.comb hfab :)
  have hbufs : (touchStream k s).lineBufs = s.lineBufs := (congrArg FabricState.lineBufs hfab :)
  rw [combPush, entered, hcomb, hbufs]

theorem toFabricState_entered : (entered k port gather w s).toFabricState =
    { s.toFabricState with
      comb := s.comb ++ [⟨k, port, gather, w⟩], lineBufs := insertNat (k.addr / 64) s.lineBufs, streams := (touchStream k s).streams } := by
  have hfab := toFabricState_touchStream (k := k) (s := s)
  have hdef : (entered k port gather w s).toFabricState = { (touchStream k s).toFabricState with
      comb := s.comb ++ [⟨k, port, gather, w⟩], lineBufs := insertNat (k.addr / 64) s.lineBufs } := rfl
  rw [hdef, hfab]

theorem toFabricState_combPush : (combPush k port gather w s).toFabricState =
    { s.toFabricState with
      comb := s.comb ++ [⟨k, port, gather, w⟩], lineBufs := insertNat (k.addr / 64) s.lineBufs, streams := (touchStream k s).streams
      hotSeen := (combPush k port gather w s).hotSeen } := by
  conv_lhs => rw [combPush_eq, toFabricState_hotLine, ← combPush_eq]
  rw [toFabricState_entered]

theorem hotSeen_entered : (entered k port gather w s).hotSeen = s.hotSeen :=
  (congrArg FabricState.hotSeen (toFabricState_touchStream (k := k) (s := s)) :)

theorem lineQueue_entered : (lineQueue (k.addr / 64) (entered k port gather w s)).length = (lineQueue (k.addr / 64) s).length + 1 := by
  rw [lineQueue, lineQueue, entered]
  simp

theorem regsExcept_entered (h : HJF_DF_STREAMS ∈ fs) : RegsExcept fs s (entered k port gather w t) ↔ RegsExcept fs s t := regsExcept_touchStream h

theorem frame_entered (h : .fabric ∈ ps) : Frame ps s (entered k port gather w t) ↔ Frame ps s t := by
  rw [entered]
  exact (frame_withFabric h).trans (frame_touchStream h)

theorem getF_HOT_THR_entered : getF HJF_COMB_HOT_THR (entered k port gather w s) = getF HJF_COMB_HOT_THR s :=
  (regsExcept_entered (fs := [HJF_DF_STREAMS]) (by simp)).mpr (regsExcept_refl _ s) _ (by decide)

theorem liveOf_entered {g : Nat} {f : Fld} : liveOf g f (entered k port gather w s) = liveOf g f s := liveOf_touchStream

/-- A line that stays cold, or has been counted, is not counted. -/
theorem combPush_of_cold (h : (lineQueue (k.addr / 64) s).length + 1 < getF HJF_COMB_HOT_THR s ∨ k.addr / 64 ∈ s.hotSeen) :
    combPush k port gather w s = entered k port gather w s := by
  rw [combPush_eq]
  refine hotLine_of_cold ?_
  rw [getF_HOT_THR_entered, lineQueue_entered, hotSeen_entered]
  rintro ⟨hle, hnot⟩
  exact h.elim (fun hlt => by omega) hnot

theorem combPush_of_hot (h : getF HJF_COMB_HOT_THR s ≤ (lineQueue (k.addr / 64) s).length + 1 ∧ k.addr / 64 ∉ s.hotSeen) :
    k.addr / 64 ∈ (combPush k port gather w s).hotSeen ∧ getF HJF_HOT_LINE (combPush k port gather w s) = k.addr / 64 * 64 % 2 ^ 43 ∧
    getF HJF_HOT_COMB (combPush k port gather w s) = combOf (k.addr / 64 * 64) % 16 ∧ flagF HJF_OSTAT_HOTLINE (combPush k port gather w s) = true ∧
    liveOf 14 HJF_T_HOTLINE_COUNT (combPush k port gather w s) =
      min (2 ^ HJF_T_HOTLINE_COUNT.width - 1) (liveOf 14 HJF_T_HOTLINE_COUNT s + 1) := by
  rw [combPush_eq, ← liveOf_entered (g := 14) (f := HJF_T_HOTLINE_COUNT) (s := s) (k := k) (port := port) (gather := gather) (w := w)]
  refine hotLine_shows ?_
  rwa [getF_HOT_THR_entered, lineQueue_entered, hotSeen_entered]

/-- The registers that a request's entry changes. -/
theorem regsExcept_combPush : RegsExcept (HJF_DF_STREAMS :: hotRegs) s (combPush k port gather w t) ↔ RegsExcept (HJF_DF_STREAMS :: hotRegs) s t := by
  rw [combPush_eq, regsExcept_hotLine (List.subset_cons_self _ _), regsExcept_entered List.mem_cons_self]

theorem frame_combPush (h : [.fabric, .tallies, .bus] ⊆ ps) : Frame ps s (combPush k port gather w t) ↔ Frame ps s t := by
  rw [combPush_eq, frame_hotLine h, frame_entered (h (by simp))]

end Push

theorem mem_insertNat_self (n : Nat) (l : List Nat) : n ∈ insertNat n l := by
  unfold insertNat
  split
  · assumption
  · exact List.mem_cons_self

theorem fabricRequestReceive_completes_entered {p : Fin 17} {i w : Nat} (hhead : headIn (isRequest s) p s = some (i, w, k)) (hpass : Passes k s)
    (hroom : combRoom k s = true) (hstream : (streamOf k s).isSome = true ∨ s.streams.length < 8192) (hfirst : earlierWaits p w k s = false) :
    Completes (.fabricRequestReceive p) s (fun t =>
      t.comb = s.comb ++ [⟨k, p, none, w⟩] ∧ hpOf p t = { hpOf p s with inq := (hpOf p s).inq.eraseIdx i } ∧ (∀ q ∈ List.range 17, q ≠ p.val → hpOf q t = hpOf q s) ∧
      StreamSeen k s t ∧ k.addr / 64 ∈ t.lineBufs ∧
      ((lineQueue (k.addr / 64) s).length + 1 < getF HJF_COMB_HOT_THR s ∨ k.addr / 64 ∈ s.hotSeen → t.hotSeen = s.hotSeen ∧ RegsExcept [HJF_DF_STREAMS] s t) ∧
      (getF HJF_COMB_HOT_THR s ≤ (lineQueue (k.addr / 64) s).length + 1 ∧ k.addr / 64 ∉ s.hotSeen →
        k.addr / 64 ∈ t.hotSeen ∧ getF HJF_HOT_LINE t = k.addr / 64 * 64 % 2 ^ 43 ∧ getF HJF_HOT_COMB t = combOf (k.addr / 64 * 64) % 16 ∧ flagF HJF_OSTAT_HOTLINE t = true ∧
        liveOf 14 HJF_T_HOTLINE_COUNT t = min (2 ^ HJF_T_HOTLINE_COUNT.width - 1) (liveOf 14 HJF_T_HOTLINE_COUNT s + 1)) ∧
      homeKeeps s t ∧ t.fabSent = s.fabSent ∧ t.fabHeld = s.fabHeld ∧ RegsExcept ([HJF_DF_STREAMS, HJF_HOT_LINE, HJF_HOT_COMB, HJF_OSTAT_HOTLINE] ++ vecRegs) s t ∧
      Frame [.fabric, .tallies, .bus] s t) := by
  have hstreamRoom : streamRoom k s = true := by
    rw [streamRoom, Bool.or_eq_true, decide_eq_true_eq]
    exact hstream
  have hexec := exec_fabricRequestReceive_of_passes hhead hpass
  rw [if_pos ⟨hroom, hstreamRoom, by rw [hfirst]; rfl⟩] at hexec
  have hfab := toFabricState_combPush (k := k) (port := p) (gather := none) (w := w) (s := takeIn p i s)
  have hproj : ∀ {α : Type} (f : FabricState → α), f (combPush k p none w (takeIn p i s)).toFabricState = f _ := fun f => congrArg f hfab
  have hport : (combPush k p none w (takeIn p i s)).hport = (takeIn p i s).hport := hproj FabricState.hport
  have hseen : StreamSeen k (takeIn p i s) (combPush k p none w (takeIn p i s)) := streamSeen_touchStream (hproj FabricState.streams)
  refine completes_of_goesOn hexec (fun _ _ h => h) ⟨hproj FabricState.comb, ?_, fun q _ hq => ?_, hseen, ?_, fun hcold => ?_, fun hhot => combPush_of_hot hhot, ?_,
    hproj FabricState.fabSent, hproj FabricState.fabHeld, ?_, ?_⟩
  · rw [hpOf_congr hport, takeIn, hpOf_setHp_same]
  · rw [hpOf_congr hport, takeIn, hpOf_setHp_ne _ _ hq]
  · rw [show (combPush k p none w (takeIn p i s)).lineBufs = insertNat (k.addr / 64) s.lineBufs from hproj FabricState.lineBufs]
    exact mem_insertNat_self _ _
  · rw [show combPush k p none w (takeIn p i s) = _ from combPush_of_cold hcold]
    exact ⟨hotSeen_entered, (regsExcept_entered (by simp)).mpr (regsExcept_takeIn.mpr (regsExcept_refl _ s))⟩
  · exact ⟨hproj FabricState.ftt, hproj FabricState.gathers, hproj FabricState.routes, hproj FabricState.groups, hproj FabricState.txids,
      hproj FabricState.epochs, hproj FabricState.epochPend, hproj FabricState.fabDrop⟩
  · exact regsExcept_combPush.mpr (regsExcept_takeIn.mpr (regsExcept_refl _ s))
  · rw [frame_combPush (by simp), frame_takeIn (by simp)]
    exact frame_refl _ s

/-- A port without a request, or whose request finds no room or waits for an earlier one, changes nothing. -/
theorem fabricRequestReceive_noEffect {p : Fin 17} {i w : Nat}
    (h : headIn (isRequest s) p s = none ∨ (headIn (isRequest s) p s = some (i, w, k) ∧ Passes k s ∧
      (combRoom k s = false ∨ (streamOf k s = none ∧ 8192 ≤ s.streams.length) ∨ earlierWaits p w k s = true))) :
    NoEffect (.fabricRequestReceive p) s := by
  obtain hnone | ⟨hhead, hpass, hwaits⟩ := h
  · show execFabricRequestReceive p s = _
    rw [execFabricRequestReceive, hnone]
    rfl
  · have hblocked : ¬ (combRoom k s = true ∧ streamRoom k s = true ∧ (!earlierWaits p w k s) = true) := by
      rintro ⟨hroom, hstream, hfirst⟩
      obtain hfull | ⟨hnew, hlen⟩ | hearlier := hwaits
      · rw [hfull] at hroom; cases hroom
      · rw [streamRoom, hnew] at hstream
        simp only [Option.isSome_none, Bool.false_or, decide_eq_true_eq] at hstream
        omega
      · rw [hearlier] at hfirst; cases hfirst
    show exec _ s = _
    rw [exec_fabricRequestReceive_of_passes hhead hpass, if_neg hblocked]
    rfl

end Sys2Proof.Machine

/-! SUPPORT. A Combiner's turn: the request it serves, and what leaves with it (R307, R313, R317, R318). -/

namespace Sys2Proof.Machine

variable {fs : List Fld} {ps : List Piece} {s t u : State} {k : FabPkt}

/-! ### The request that a Combiner serves -/

section Served

variable {b : Fin 16} {line i : Nat} {r : CombReq}

/-- The first request of a line in its Combiner's queue. -/
theorem first_of_line (hi : s.comb[i]? = some r) (hline : r.pkt.addr / 64 = line) (hbefore : ∀ q ∈ s.comb.take i, q.pkt.addr / 64 ≠ line) :
    (List.range s.comb.length).find? (fun i => (s.comb[i]?).any (fun r => decide (r.pkt.addr / 64 = line))) = some i := by
  obtain ⟨hlt, hr⟩ := List.getElem?_eq_some_iff.mp hi
  rw [List.find?_range_eq_some]
  refine ⟨by rw [hi]; exact decide_eq_true hline, List.mem_range.mpr hlt, fun j hj => ?_⟩
  have hjlt : j < s.comb.length := by omega
  have hmem : s.comb[j] ∈ s.comb.take i := List.mem_take_iff_getElem.mpr ⟨j, by omega, rfl⟩
  rw [List.getElem?_eq_getElem hjlt]
  simpa using hbefore _ hmem

theorem exec_combinerOperation (hcomb : combOf (line * 64) = b) (hi : s.comb[i]? = some r) (hline : r.pkt.addr / 64 = line)
    (hbefore : ∀ q ∈ s.comb.take i, q.pkt.addr / 64 ≠ line) :
    exec (.combinerOperation b line) s = goesOn s (if (s.comb.take i).any (fun q => shareLine q.pkt r.pkt) then s else serveAt i r s) := by
  show execCombinerOperation b line s = _
  rw [execCombinerOperation, if_neg (by rw [hcomb]; simp), first_of_line hi hline hbefore]
  dsimp only
  rw [hi]

theorem exec_of_combHead (h : combHead b line i r s) : exec (.combinerOperation b line) s = goesOn s (serveAt i r s) := by
  obtain ⟨hcomb, hi, haddr, hbefore⟩ := h
  have hfree : ¬ (s.comb.take i).any (fun q => shareLine q.pkt r.pkt) = true := fun hany => by
    obtain ⟨q, hq, hshare⟩ := List.any_eq_true.mp hany
    rw [(hbefore q hq).2] at hshare
    cases hshare
  rw [exec_combinerOperation hcomb hi (by rw [haddr]; omega) fun q hq => (hbefore q hq).1, if_neg hfree]

/-- Another Combiner's line, a line without requests, and one whose first request shares a line with an earlier one are left alone. -/
theorem combinerOperation_noEffect
    (h : combOf (line * 64) ≠ b.val ∨ (∀ r ∈ s.comb, r.pkt.addr / 64 ≠ line) ∨
      (s.comb[i]? = some r ∧ r.pkt.addr / 64 = line ∧ (∀ q ∈ s.comb.take i, q.pkt.addr / 64 ≠ line) ∧ (s.comb.take i).any (fun q => shareLine q.pkt r.pkt) = true)) :
    NoEffect (.combinerOperation b line) s := by
  show exec (.combinerOperation b line) s = goesOn s s
  by_cases hcomb : combOf (line * 64) = b
  · obtain hother | hnone | ⟨hi, hline, hbefore, hshare⟩ := h
    · exact absurd hcomb hother
    · have hfind : (List.range s.comb.length).find? (fun i => (s.comb[i]?).any (fun r => decide (r.pkt.addr / 64 = line))) = none := by
        refine List.find?_eq_none.mpr fun j hj => ?_
        rw [List.getElem?_eq_getElem (List.mem_range.mp hj)]
        simpa using hnone _ (List.getElem_mem _)
      show execCombinerOperation b line s = _
      rw [execCombinerOperation, hfind, if_neg (by rw [hcomb]; simp)]
    · rw [exec_combinerOperation hcomb hi hline hbefore, if_pos hshare]
  · show execCombinerOperation b line s = _
    rw [execCombinerOperation, if_pos hcomb]

end Served

/-! ### A request that leaves its queue -/

section Pop

variable {i : Nat} {r : CombReq}

/-- A request leaves the queue, its wait is counted, and the line may give up its buffer. -/
theorem combPop_eq (i : Nat) (r : CombReq) (s : State) : ∃ n hot bufs, combPop i r s =
    tally1024 14 HJF_T_COMBWAIT_COUNT n { s with comb := s.comb.eraseIdx i, hotSeen := hot, lineBufs := bufs } := by
  unfold combPop
  dsimp only
  split
  · exact ⟨(s.now - r.at_) * 10 / (8 * 1536), s.hotSeen.filter (fun l => decide (l ≠ r.pkt.addr / 64)),
      s.lineBufs.filter (fun l => decide (l ≠ r.pkt.addr / 64)), rfl⟩
  · exact ⟨(s.now - r.at_) * 10 / (8 * 1536), s.hotSeen, s.lineBufs, rfl⟩

@[simp] theorem comb_combPop : (combPop i r s).comb = s.comb.eraseIdx i := by
  obtain ⟨_, _, _, h⟩ := combPop_eq i r s
  rw [h]; rfl

@[simp] theorem streams_combPop : (combPop i r s).streams = s.streams := by
  obtain ⟨_, _, _, h⟩ := combPop_eq i r s
  rw [h]; rfl

@[simp] theorem toMemState_combPop : (combPop i r s).toMemState = s.toMemState := by
  obtain ⟨_, _, _, h⟩ := combPop_eq i r s
  rw [h]; rfl

@[simp] theorem stacksOut_combPop : (combPop i r s).stacksOut = s.stacksOut := by
  obtain ⟨_, _, _, h⟩ := combPop_eq i r s
  rw [h]; rfl

@[simp] theorem homeKeeps_combPop : homeKeeps s (combPop i r t) ↔ homeKeeps s t := by
  obtain ⟨_, _, _, h⟩ := combPop_eq i r t
  rw [h]; exact Iff.rfl

@[simp] theorem regsExcept_combPop : RegsExcept fs s (combPop i r t) ↔ RegsExcept fs s t := by
  obtain ⟨_, _, _, h⟩ := combPop_eq i r t
  rw [h]; exact Iff.rfl

theorem frame_combPop (hp : [.fabric, .radio, .tallies] ⊆ ps) : Frame ps s (combPop i r t) ↔ Frame ps s t := by
  obtain ⟨_, _, _, h⟩ := combPop_eq i r t
  rw [h, frame_tally1024 (hp (by simp)) (hp (by simp))]
  exact frame_withFabric (hp (by simp))

theorem liveOf_combPop {g : Nat} {f : Fld} (hk : tallyKey g f ≠ tallyKey 14 HJF_T_COMBWAIT_COUNT) :
    liveOf g f (combPop i r s) = liveOf g f s := by
  obtain ⟨_, _, _, h⟩ := combPop_eq i r s
  rw [h, liveOf_tally1024_ne hk]; rfl

theorem homeKeeps_refl (s : State) : homeKeeps s s := ⟨rfl, rfl, rfl, rfl, rfl, rfl, rfl, rfl⟩

theorem homeKeeps_tally (g : Nat) (f : Fld) (n : Nat) : homeKeeps s (tally g f n t) ↔ homeKeeps s t := Iff.rfl

theorem SameLink.combPop (h : SameLink s t) : SameLink s (combPop i r t) := by
  refine h.trans ?_
  obtain ⟨_, _, _, heq⟩ := combPop_eq i r t
  rw [heq]
  exact .of_eq rfl ⟨rfl, rfl, rfl⟩ rfl fun _ _ => rfl

theorem SameLink.tally (h : SameLink s t) (g : Nat) (f : Fld) (n : Nat) : SameLink s (tally g f n t) :=
  h.trans (.of_eq rfl ⟨rfl, rfl, rfl⟩ rfl fun _ _ => rfl)

end Pop

/-! ### Answers without effect on memory -/

section Answers

variable {b : Fin 16} {line i q : Nat} {r : CombReq}

theorem serveAt_of_fenced (hgather : r.gather = none) (hf : ∃ f ∈ List.range 8, FencedBy f r.pkt s) :
    serveAt i r s = answer r.pkt none 3 0 [] (combPop i r (countFenced s)) := by
  rw [serveAt, admitCheck_of_fenced hf]
  dsimp only
  rw [hgather]

theorem serveAt_of_load (hpass : Passes r.pkt s) (htype : r.pkt.type = 0) (hheld : anyHeld r.pkt.addr r.pkt.len s = false) :
    serveAt i r s = serveLoad r (combPop i r s) := by
  rw [serveAt, admitCheck_of_passes hpass (by omega)]
  dsimp only
  rw [if_pos htype, hheld, if_neg Bool.false_ne_true]

theorem serveAt_of_write (hpass : Passes r.pkt s) (htype : r.pkt.type = 1 ∨ r.pkt.type = 2) (hstorable : storable r.pkt.addr r.pkt.len s = true)
    (hheld : r.pkt.type = 2 → anyHeld r.pkt.addr r.pkt.len s = false) :
    serveAt i r s = if writePoison r.pkt s then answer r.pkt r.gather 2 0 [] (tally 14 HJF_T_REQIN_COUNT 1 (combPop i r s))
      else serveWrite r (combPop i r s) := by
  have hnow : ¬ ((!storable r.pkt.addr r.pkt.len s) = true ∨ (r.pkt.type = 2 ∧ anyHeld r.pkt.addr r.pkt.len s = true)) := by
    rintro (hfail | ⟨h2, hh⟩)
    · rw [hstorable] at hfail; cases hfail
    · rw [hheld h2] at hh; cases hh
  rw [serveAt, admitCheck_of_passes hpass (by omega)]
  dsimp only
  rw [if_neg (by omega), if_neg hnow]

/-- A request refused by the Fence Gate, or a write that meets poison, is answered and changes no memory (R270, R321). -/
theorem combinerOperation_completes_rejected {st : Nat} (hhead : combHead b line i r s) (hgather : r.gather = none)
    (hwhy : (st = 3 ∧ (∃ f ∈ List.range 8, FencedBy f r.pkt s)) ∨
      (st = 2 ∧ Passes r.pkt s ∧ (r.pkt.type = 1 ∨ r.pkt.type = 2) ∧ storable r.pkt.addr r.pkt.len s = true ∧ (r.pkt.type = 2 → anyHeld r.pkt.addr r.pkt.len s = false) ∧ writePoison r.pkt s = true))
    (hway : rspWay q (rspOf r.pkt st 0 0 [] s) s) :
    Completes (.combinerOperation b line) s (fun t =>
      Sent q (rspOf r.pkt st 0 0 [] s) s t ∧ t.mem = s.mem ∧ t.streams = s.streams ∧ t.comb = s.comb.eraseIdx i ∧ homeKeeps s t ∧
      RegsExcept (HJF_OSTAT_FENCED :: vecRegs) s t ∧ Frame [.fabric, .radio, .tallies, .bus] s t) := by
  have hexec := exec_of_combHead hhead
  obtain ⟨rfl, hf⟩ | ⟨rfl, hpass, htype, hstorable, hheld, hpoison⟩ := hwhy
  · have hlink : SameLink s (combPop i r (countFenced s)) := (sameLink_countFenced s).combPop
    have hfab : (countFenced s).toFabricState = s.toFabricState := frame_countFenced (ps := [.tallies, .bus]) (by simp) .fabric (by decide)
    have hmem : (countFenced s).toMemState = s.toMemState := frame_countFenced (ps := [.tallies, .bus]) (by simp) .mem (by decide)
    rw [serveAt_of_fenced hgather hf, answer_eq_handed hlink hway] at hexec
    refine completes_of_goesOn hexec (fun _ _ h => h) ⟨sent_handed hlink, ?_, ?_, ?_, ?_, ?_, ?_⟩
    · rw [toMemState_handed, toMemState_combPop, hmem]
    · rw [streams_handed, streams_combPop, hfab]
    · rw [comb_handed, comb_combPop, hfab]
    · rw [homeKeeps_handed, homeKeeps_combPop]
      simp only [homeKeeps, hfab, and_self]
    · rw [regsExcept_handed, regsExcept_combPop]
      exact regsExcept_countFenced
    · rw [frame_handed (by simp), frame_combPop (by simp)]
      exact frame_countFenced (by simp)
  · have hlink : SameLink s (tally 14 HJF_T_REQIN_COUNT 1 (combPop i r s)) := (SameLink.refl s).combPop.tally _ _ _
    rw [serveAt_of_write hpass htype hstorable hheld, if_pos hpoison, hgather, answer_eq_handed hlink hway] at hexec
    refine completes_of_goesOn hexec (fun _ _ h => h) ⟨sent_handed hlink, ?_, ?_, ?_, ?_, ?_, ?_⟩
    · rw [toMemState_handed, tally_toMemState, toMemState_combPop]
    · rw [streams_handed, tally_toFabricState, streams_combPop]
    · rw [comb_handed, tally_toFabricState, comb_combPop]
    · rw [homeKeeps_handed, homeKeeps_tally, homeKeeps_combPop]
      exact homeKeeps_refl s
    · rw [regsExcept_handed, regsExcept_tally, regsExcept_combPop]
      exact regsExcept_refl _ s
    · rw [frame_handed (by simp), frame_tally _ _ _ (by simp), frame_combPop (by simp)]
      exact frame_refl _ s

/-! ### Loads (R269, R293, R318) -/

theorem linesOf_aligned {a n : Nat} (ha : a % 64 = 0) (hn : n % 64 = 0) : linesOf a n = (List.range (n / 64)).map (fun j => a + 64 * j) := by
  rw [linesOf, show (a % 64 + n + 63) / 64 = n / 64 by omega, show a / 64 * 64 = a by omega]

/-- A load's marks are none exactly if no line of it meets poison. -/
theorem poisonBits_eq_zero (ha : k.addr % 64 = 0) (hn : k.len % 64 = 0) : poisonBits k s = 0 ↔ anyPoison k.addr k.len s = false := by
  have hbit : ∀ (p : Bool) (j : Nat), (if p then 2 ^ j else 0) = 0 ↔ p = false := fun p j => by cases p <;> simp
  simp only [poisonBits, anyPoison, linesOf_aligned ha hn, List.sum_eq_zero_iff, List.any_eq_false, List.forall_mem_map, hbit, Bool.not_eq_true]

theorem urRead_congr {a n : Nat} (h : t.toMemState = s.toMemState) : urRead a n t = urRead a n s := by
  simp only [urRead, loadAddr_congr h, h]

theorem poisonBits_congr (h : t.toMemState = s.toMemState) (hstacks : t.stacksOut = s.stacksOut) : poisonBits k t = poisonBits k s := by
  have hpoisoned : ∀ a, poisoned a t = poisoned a s := fun a => by
    rw [poisoned, loadAddr_congr h, marked_congr h hstacks, objPoisoned_congr h, poisoned]
  simp only [poisonBits, hpoisoned]

theorem combinerOperation_completes_load (hhead : combHead b line i r s) (hpass : Passes r.pkt s) (hkind : r.gather = none ∧ r.pkt.type = 0)
    (hheld : anyHeld r.pkt.addr r.pkt.len s = false)
    (hway : rspWay q (rspOf r.pkt (if anyPoison r.pkt.addr r.pkt.len s then 2 else 0) 0 (poisonBits r.pkt s) (urRead r.pkt.addr r.pkt.len s) s) s)
    (haligned : r.pkt.addr % 64 = 0 ∧ r.pkt.len % 64 = 0) :
    Completes (.combinerOperation b line) s (fun t =>
      Sent q (rspOf r.pkt (if anyPoison r.pkt.addr r.pkt.len s then 2 else 0) 0 (poisonBits r.pkt s) (urRead r.pkt.addr r.pkt.len s) s) s t ∧
      t.comb = s.comb.eraseIdx i ∧ t.streams = s.streams ∧ homeKeeps s t ∧ RegsExcept [] s t ∧ Frame [.fabric, .radio, .tallies] s t) := by
  obtain ⟨hgather, htype⟩ := hkind
  have hlink : SameLink s (tally 14 HJF_T_REQIN_COUNT 1 (combPop i r s)) := (SameLink.refl s).combPop.tally _ _ _
  have hstatus : (if poisonBits r.pkt s = 0 then 0 else 2) = if anyPoison r.pkt.addr r.pkt.len s then 2 else 0 := by
    by_cases hp : poisonBits r.pkt s = 0
    · rw [if_pos hp, (poisonBits_eq_zero haligned.1 haligned.2).mp hp]; rfl
    · rw [if_neg hp, if_pos (Bool.not_eq_false _ ▸ mt (poisonBits_eq_zero haligned.1 haligned.2).mpr hp)]
  have hserve : serveAt i r s = handed q (rspOf r.pkt (if anyPoison r.pkt.addr r.pkt.len s then 2 else 0) 0 (poisonBits r.pkt s)
      (urRead r.pkt.addr r.pkt.len s) s) (tally 14 HJF_T_REQIN_COUNT 1 (combPop i r s)) := by
    rw [serveAt_of_load hpass htype hheld, serveLoad]
    rw [hgather, poisonBits_congr toMemState_combPop stacksOut_combPop, urRead_congr toMemState_combPop, hstatus, answer_eq_handed hlink hway]
  refine completes_of_goesOn (hserve ▸ exec_of_combHead hhead) (fun _ _ h => h) ⟨sent_handed hlink, ?_, ?_, ?_, ?_, ?_⟩
  · rw [comb_handed, tally_toFabricState, comb_combPop]
  · rw [streams_handed, tally_toFabricState, streams_combPop]
  · rw [homeKeeps_handed, homeKeeps_tally, homeKeeps_combPop]
    exact homeKeeps_refl s
  · rw [regsExcept_handed, regsExcept_tally, regsExcept_combPop]
    exact regsExcept_refl _ s
  · rw [frame_handed (by simp), frame_tally _ _ _ (by simp), frame_combPop (by simp)]
    exact frame_refl _ s

end Answers

end Sys2Proof.Machine

/-! SUPPORT. A write's page, which nothing moves, and what the Duplicate Filter says of it (R252, R307, R313). -/

namespace Sys2Proof.Machine

variable {fs : List Fld} {ps : List Piece} {s t u : State} {k : FabPkt}

/-! ### The page -/

section Page

variable (h : plainHome k s) {x : Nat} (hx : x < k.len)
include h

theorem plainHome_aligned : k.addr % 64 = 0 ∧ k.len % 64 = 0 := ⟨h.1, h.2.1⟩

theorem mem_linesOf_iff {l : Nat} : l ∈ linesOf k.addr k.len ↔ ∃ j < k.len / 64, k.addr + 64 * j = l := by
  rw [linesOf_aligned (plainHome_aligned h).1 (plainHome_aligned h).2, List.mem_map]
  simp only [List.mem_range]

include hx

/-- A byte of the range lies in the block of the first. -/
theorem block_of_plainHome : (k.addr + x) / 2 ^ 21 = k.addr / 2 ^ 21 ∧ (k.addr + x) % 2 ^ 21 = k.addr % 2 ^ 21 + x := by
  obtain ⟨_, _, _, _, hpage, _⟩ := h
  omega

theorem still_of_plainHome : migOf ((k.addr + x) / 2 ^ 21) s = none ∧ entTier (bent ((k.addr + x) / 2 ^ 21) s) = 1 ∧
    objPoisoned (k.addr + x) s = false := by
  obtain ⟨hblock, _⟩ := block_of_plainHome h hx
  obtain ⟨_, _, _, _, _, hmig, _, htier, hpois⟩ := h
  rw [objPoisoned, hblock]
  exact ⟨hmig, htier, hpois⟩

/-- The range lies in memory as it lies in the Unified Range. -/
theorem loadAddr_of_plainHome : loadAddr (k.addr + x) s = loadAddr k.addr s + x := by
  obtain ⟨hmig, htier, _⟩ := still_of_plainHome h hx
  obtain ⟨hblock, hoff⟩ := block_of_plainHome h hx
  rw [loadAddr_of_still hmig htier, hblock, hoff]
  rw [hblock] at hmig htier
  rw [loadAddr_of_still hmig htier, memAddr, memAddr, ← Nat.add_assoc]

end Page

theorem storable_eq (a n : Nat) : storable a n s = (linesOf a n).all (fun l => (storeAddr l s).isSome) := by
  rw [storable, linesOf, List.all_map]
  rfl

section Write

variable (h : plainHome k s)
include h

theorem storable_of_plainHome : storable k.addr k.len s = true := by
  rw [storable_eq, List.all_eq_true]
  intro l hl
  obtain ⟨j, hj, rfl⟩ := (mem_linesOf_iff h).mp hl
  obtain ⟨hmig, htier, _⟩ := still_of_plainHome h (x := 64 * j) (by omega)
  rw [storeAddr_T0 hmig htier]
  rfl

/-- No line of such a range fails a write, but a mark that a reduction would read (R269, R270). -/
theorem writePoison_of_plainHome (hmark : k.type = 2 → anyPoison k.addr k.len s = false) : writePoison k s = false := by
  rw [writePoison, List.any_eq_false]
  intro l hl
  obtain ⟨j, hj, rfl⟩ := (mem_linesOf_iff h).mp hl
  obtain ⟨hmig, htier, hpois⟩ := still_of_plainHome h (x := 64 * j) (by omega)
  rw [hpois, storeAddr_T0 hmig htier, Option.any_some, stackGone_T0 hmig htier, Bool.false_or, Bool.false_or, Bool.and_eq_true, decide_eq_true_eq]
  rintro ⟨htype, hmarked⟩
  have hclean := List.any_eq_false.mp (hmark htype) _ hl
  rw [poisoned, hmarked] at hclean
  exact hclean rfl

/-- A write to such a range that meets no mark goes to the Duplicate Filter (R307, R318). -/
theorem serveAt_of_plainHome {i : Nat} {r : CombReq} (hk : r.pkt = k) (hpass : Passes k s) (htype : k.type = 1 ∨ k.type = 2)
    (hclean : k.type = 2 → anyPoison k.addr k.len s = false ∧ anyHeld k.addr k.len s = false) : serveAt i r s = serveWrite r (combPop i r s) := by
  subst hk
  rw [serveAt_of_write hpass htype (storable_of_plainHome h) fun h2 => (hclean h2).2, writePoison_of_plainHome h fun h2 => (hclean h2).1,
    if_neg Bool.false_ne_true]

end Write

/-! ### The Duplicate Filter (R313) -/

/-- The three answers of the filter as numbers. -/
def filterNumber : Filtered → Nat
  | .apply => 0
  | .dup => 1
  | .stale => 2

theorem filterNumber_injective : Function.Injective filterNumber :=
  Function.LeftInverse.injective (g := fun n => if n = 0 then .apply else if n = 1 then .dup else .stale) fun f => by cases f <;> rfl

theorem filterNumber_dupFilter (k : FabPkt) (x : Stream) : filterNumber (dupFilter k x) = filterSays k x := by
  have hbelow : (!inWindowId x.top k.txid) = decide (4096 ≤ (x.top + 2 ^ 32 - k.txid) % 2 ^ 32) := by
    rw [inWindowId, ← decide_not, decide_eq_decide, Nat.not_lt]
  rw [dupFilter, filterSays]
  simp only [hbelow, Bool.and_eq_true, decide_eq_true_eq]
  split_ifs <;> rfl

theorem dupFilter_of_filterSays {x : Stream} {f : Filtered} (h : filterSays k x = filterNumber f) : dupFilter k x = f := by
  rw [← filterNumber_dupFilter] at h
  exact filterNumber_injective h

/-- A write's request, out of the queue and counted. -/
def writeBegun (i : Nat) (r : CombReq) (s : State) : State := tally 14 HJF_T_REQIN_COUNT 1 (combPop i r s)

section Filter

variable {i : Nat} {r : CombReq} {x : Stream}

@[simp] theorem toMemState_writeBegun : (writeBegun i r s).toMemState = s.toMemState := by rw [writeBegun, tally_toMemState, toMemState_combPop]

@[simp] theorem comb_writeBegun : (writeBegun i r s).comb = s.comb.eraseIdx i := by rw [writeBegun, tally_toFabricState, comb_combPop]

@[simp] theorem streams_writeBegun : (writeBegun i r s).streams = s.streams := by rw [writeBegun, tally_toFabricState, streams_combPop]

theorem streamOf_writeBegun (k : FabPkt) : streamOf k (writeBegun i r s) = streamOf k s := streamOf_congr streams_writeBegun k

/-- A write that is counted, by what filter F says of it for its stream.  The filter is a variable, so that its windows of 2^32 IDs are not unfolded
where the cases are chosen. -/
def filteredWrite (F : FabPkt → Stream → Filtered) (r : CombReq) (s : State) (o : Option Stream) : State :=
  match o with
  | none => s
  | some x => match F r.pkt x with
    | .dup => answer r.pkt r.gather 0 0 [] (tally 14 HJF_T_DUP_COUNT 1 s)
    | .stale => hjfOevent HJF_OSTAT_STALE (tally 14 HJF_T_STALE_COUNT 1 s)
    | .apply => answer r.pkt r.gather 0 0 [] (putStream (recordApplied r.pkt x) (urWrite r.pkt.addr (writeData r.pkt s) s).1)

section Cases

variable {F : FabPkt → Stream → Filtered}

theorem filteredWrite_of_dup (h : F r.pkt x = .dup) :
    filteredWrite F r s (some x) = answer r.pkt r.gather 0 0 [] (tally 14 HJF_T_DUP_COUNT 1 s) := by
  rw [filteredWrite]
  simp only [h]

theorem filteredWrite_of_stale (h : F r.pkt x = .stale) :
    filteredWrite F r s (some x) = hjfOevent HJF_OSTAT_STALE (tally 14 HJF_T_STALE_COUNT 1 s) := by
  rw [filteredWrite]
  simp only [h]

theorem filteredWrite_of_apply (h : F r.pkt x = .apply) : filteredWrite F r s (some x) =
    answer r.pkt r.gather 0 0 [] (putStream (recordApplied r.pkt x) (urWrite r.pkt.addr (writeData r.pkt s) s).1) := by
  rw [filteredWrite]
  simp only [h]

end Cases

theorem serveWrite_of_some (h : streamOf r.pkt u = some x) :
    serveWrite r u = filteredWrite dupFilter r (tally 14 HJF_T_REQIN_COUNT 1 u) (streamOf r.pkt (tally 14 HJF_T_REQIN_COUNT 1 u)) := by
  rw [serveWrite, h, Option.isSome_some, if_pos rfl]
  rfl

/-- A write of a known stream is taken from its queue and counted, and does what the filter says. -/
theorem serveWrite_eq (hstream : streamOf r.pkt s = some x) :
    serveWrite r (combPop i r s) = filteredWrite dupFilter r (writeBegun i r s) (some x) := by
  have hpop : streamOf r.pkt (combPop i r s) = some x := (streamOf_congr streams_combPop _).trans hstream
  rw [serveWrite_of_some hpop, ← writeBegun, streamOf_writeBegun, hstream]

theorem sameLink_writeBegun : SameLink s (writeBegun i r s) := (SameLink.refl s).combPop.tally _ _ _

theorem hport_writeBegun : (writeBegun i r s).hport = s.hport := by
  obtain ⟨_, _, _, h⟩ := combPop_eq i r s
  rw [writeBegun, h]; rfl

theorem homeKeeps_writeBegun : homeKeeps s (writeBegun i r s) :=
  (homeKeeps_tally _ _ _).mpr (homeKeeps_combPop.mpr (homeKeeps_refl s))

theorem regsExcept_writeBegun : RegsExcept fs s (writeBegun i r s) := (regsExcept_tally _ _ _).mpr (regsExcept_combPop.mpr (regsExcept_refl _ s))

theorem frame_writeBegun (hp : [.fabric, .radio, .tallies] ⊆ ps) : Frame ps s (writeBegun i r s) := by
  rw [writeBegun, frame_tally _ _ _ (hp (by simp)), frame_combPop hp]
  exact frame_refl _ s

theorem liveOf_writeBegun {g : Nat} {f : Fld} (hreq : tallyKey g f ≠ tallyKey 14 HJF_T_REQIN_COUNT) (hwait : tallyKey g f ≠ tallyKey 14 HJF_T_COMBWAIT_COUNT) :
    liveOf g f (writeBegun i r s) = liveOf g f s := by
  rw [writeBegun, liveOf_tally_ne _ _ hreq, liveOf_combPop hwait]

end Filter

theorem tallyKey_dup_ne (q : Nat) : tallyKey 14 HJF_T_DUP_COUNT ≠ tallyKey 14 (HJF_Pp_TXFLIT_COUNT q) := by
  simp only [tallyKey, Fld.key, HJF_T_DUP_COUNT, HJF_T_DUP, HJF_Pp_TXFLIT_COUNT, HJF_Pp_TXFLIT]; omega

theorem filterSays_le (k : FabPkt) (x : Stream) : filterSays k x ≤ 2 := by
  rw [← filterNumber_dupFilter]
  cases dupFilter k x <;> decide

theorem combinerOperation_completes_filtered {b : Fin 16} {line i q : Nat} {r : CombReq} {x : Stream} (hhead : combHead b line i r s)
    (hpass : Passes r.pkt s) (hkind : r.gather = none ∧ r.pkt.type = 1) (hplain : plainHome r.pkt s) (hstream : streamOf r.pkt s = some x)
    (hfilter : filterSays r.pkt x ≠ 0) (hway : filterSays r.pkt x = 1 → rspWay q (rspOf r.pkt 0 0 0 [] s) s) :
    Completes (.combinerOperation b line) s (fun t =>
      t.mem = s.mem ∧ t.streams = s.streams ∧ t.comb = s.comb.eraseIdx i ∧
      (filterSays r.pkt x = 1 → Sent q (rspOf r.pkt 0 0 0 [] s) s t ∧ liveOf 14 HJF_T_DUP_COUNT t = min (2 ^ HJF_T_DUP_COUNT.width - 1) (liveOf 14 HJF_T_DUP_COUNT s + 1) ∧ RegsExcept [] s t) ∧
      (filterSays r.pkt x = 2 → t.fabSent = s.fabSent ∧ t.hport = s.hport ∧ flagF HJF_OSTAT_STALE t = true ∧
        liveOf 14 HJF_T_STALE_COUNT t = min (2 ^ HJF_T_STALE_COUNT.width - 1) (liveOf 14 HJF_T_STALE_COUNT s + 1)) ∧
      homeKeeps s t ∧ RegsExcept (HJF_OSTAT_STALE :: vecRegs) s t ∧ Frame [.fabric, .radio, .tallies, .bus] s t) := by
  obtain ⟨hgather, htype⟩ := hkind
  have hexec := exec_of_combHead hhead
  rw [serveAt_of_plainHome hplain rfl hpass (.inl htype) (by omega)] at hexec
  have hle := filterSays_le r.pkt x
  obtain hdup | hstale : filterSays r.pkt x = 1 ∨ filterSays r.pkt x = 2 := by omega
  · have hlink : SameLink s (tally 14 HJF_T_DUP_COUNT 1 (writeBegun i r s)) := sameLink_writeBegun.tally _ _ _
    rw [serveWrite_eq hstream, filteredWrite_of_dup (dupFilter_of_filterSays (f := .dup) hdup), hgather, answer_eq_handed hlink (hway hdup)] at hexec
    have hregs : ∀ fs, RegsExcept fs s (handed q (rspOf r.pkt 0 0 0 [] s) (tally 14 HJF_T_DUP_COUNT 1 (writeBegun i r s))) := fun fs => by
      rw [regsExcept_handed, regsExcept_tally]
      exact regsExcept_writeBegun
    refine completes_of_goesOn hexec (fun _ _ h => h) ⟨?_, ?_, ?_, fun _ => ⟨sent_handed hlink, ?_, hregs _⟩, fun h2 => by omega, ?_, hregs _, ?_⟩
    · rw [toMemState_handed, tally_toMemState, toMemState_writeBegun]
    · rw [streams_handed, tally_toFabricState, streams_writeBegun]
    · rw [comb_handed, tally_toFabricState, comb_writeBegun]
    · rw [liveOf_handed tallyKey_dup_ne, liveOf_tally_same, liveOf_writeBegun (by decide) (by decide)]
    · rw [homeKeeps_handed]
      exact (homeKeeps_tally _ _ _).mpr homeKeeps_writeBegun
    · rw [frame_handed (by simp), frame_tally _ _ _ (by simp)]
      exact frame_writeBegun (by simp)
  · rw [serveWrite_eq hstream, filteredWrite_of_stale (dupFilter_of_filterSays (f := .stale) hstale)] at hexec
    have hframe : Frame [.bus, .tallies] (writeBegun i r s) (hjfOevent HJF_OSTAT_STALE (tally 14 HJF_T_STALE_COUNT 1 (writeBegun i r s))) := by
      rw [hjfOevent, frame_event (by simp) (by simp), frame_tally _ _ _ (by simp)]
      exact frame_refl _ _
    have hfab : (hjfOevent HJF_OSTAT_STALE (tally 14 HJF_T_STALE_COUNT 1 (writeBegun i r s))).toFabricState = (writeBegun i r s).toFabricState :=
      hframe .fabric (by decide)
    have hmem : (hjfOevent HJF_OSTAT_STALE (tally 14 HJF_T_STALE_COUNT 1 (writeBegun i r s))).toMemState = s.toMemState :=
      (hframe .mem (by decide)).trans toMemState_writeBegun
    refine completes_of_goesOn hexec (fun _ _ h => h) ⟨?_, ?_, ?_, fun h1 => by omega, fun _ => ⟨?_, ?_, flagF_event (by decide) (by decide) _, ?_⟩, ?_, ?_, ?_⟩
    · rw [hmem]
    · rw [hfab, streams_writeBegun]
    · rw [hfab, comb_writeBegun]
    · rw [hfab]; exact sameLink_writeBegun.sent
    · rw [hfab]; exact hport_writeBegun
    · rw [hjfOevent, liveOf_event (by decide), liveOf_tally_same, liveOf_writeBegun (by decide) (by decide)]
    · have hkeeps := homeKeeps_writeBegun (i := i) (r := r) (s := s)
      simp only [homeKeeps, hfab] at hkeeps ⊢
      exact hkeeps
    · rw [hjfOevent, regsExcept_event (List.subset_cons_self _ _) List.mem_cons_self, regsExcept_tally]
      exact regsExcept_writeBegun
    · rw [hjfOevent, frame_event (by simp) (by simp), frame_tally _ _ _ (by simp)]
      exact frame_writeBegun (by simp)

end Sys2Proof.Machine

/-! SUPPORT. A write of whole lines within a page of T0, and a write that the Duplicate Filter lets through (R252, R253, R270, R307, R313). -/

namespace Sys2Proof.Machine

variable {fs : List Fld} {ps : List Piece} {s t u : State} {k : FabPkt}

/-! ### Whole lines -/

theorem writeBytes_append (a : Nat) (l l' : List Byte) (m : Memory) :
    writeBytes a (l ++ l') m = writeBytes (a + l.length) l' (writeBytes a l m) := by
  induction l generalizing a m with
  | nil => rfl
  | cons b l ih => rw [List.cons_append, writeBytes, ih, writeBytes, List.length_cons, Nat.add_assoc, Nat.add_comm 1]

theorem key_ne_of_lookup_eq_none {β : Type} {n : Nat} {m : List (Nat × β)} (h : lookup n m = none) : ∀ y ∈ m, y.1 ≠ n := by
  induction m with
  | nil => nofun
  | cons y m ih =>
    rw [lookup_cons] at h
    split at h
    · cases h
    · next hy => exact List.forall_mem_cons.mpr ⟨hy, ih h⟩

/-- A line without its mark. -/
def cleared (m : Nat) (s : State) : State := if marked m s then markLine m false s else s

/-- A whole line of T0 is written, and its mark, where it had one, is cleared (R270). -/
theorem writeLine_whole {a : Nat} {l : List Byte} (hmig : migOf (a / 2 ^ 21) s = none) (htier : entTier (bent (a / 2 ^ 21) s) = 1)
    (hpois : objPoisoned a s = false) (hlen : l.length = 64) : ∃ p h,
    writeLine a l s = ({ s with mem := writeBytes (loadAddr a s) l s.mem, poison := p, shadows := h }, false) ∧
    ∀ y ∈ p, y ∈ s.poison ∧ y.1 ≠ lineOf (loadAddr a s) := by
  have hgone := stackGone_T0 hmig htier
  have hwrite : writeLine a l s = (setDirty a (touchPage (loadAddr a s)
      { cleared (loadAddr a s) s with mem := writeBytes (loadAddr a s) l (cleared (loadAddr a s) s).mem }), false) := by
    rw [writeLine, storeAddr_T0 hmig htier]
    dsimp only
    rw [if_neg (by rw [hpois, hgone]; simp), if_neg (by omega), cleared]
  rw [touchPage_T0 hmig htier, cleared] at hwrite
  by_cases hmark : marked (loadAddr a s) s = true
  · rw [if_pos hmark] at hwrite
    obtain ⟨h, hdirty⟩ := setDirty_of_still (a := a)
      (s := { markLine (loadAddr a s) false s with mem := writeBytes (loadAddr a s) l (markLine (loadAddr a s) false s).mem }) hmig
    exact ⟨del (lineOf (loadAddr a s)) s.poison, h, by rw [hwrite, hdirty]; rfl, fun y hy => ⟨mem_del hy, key_del_ne hy⟩⟩
  · have hnone : lookup (lineOf (loadAddr a s)) s.poison = none := by
      rw [marked, hgone, Bool.or_false, Option.not_isSome_iff_eq_none] at hmark
      exact hmark
    rw [if_neg hmark] at hwrite
    obtain ⟨h, hdirty⟩ := setDirty_of_still (a := a) (s := { s with mem := writeBytes (loadAddr a s) l s.mem }) hmig
    exact ⟨s.poison, h, by rw [hwrite, hdirty], fun y hy => ⟨hy, key_ne_of_lookup_eq_none hnone y hy⟩⟩

theorem lineChunks_whole {f a n : Nat} {l : List Byte} (ha : a % 64 = 0) (hlen : l.length = 64 * (n + 1)) :
    lineChunks (f + 1) a l = (a, l.take 64) :: lineChunks f (a + 64) (l.drop 64) := by
  have hne : l.isEmpty = false := by
    rw [List.isEmpty_eq_false_iff, ← List.length_pos_iff]
    omega
  rw [lineChunks, hne, if_neg Bool.false_ne_true, ha]

/-- One step of a write of several lines. -/
def writeStep (x : State × Bool) (c : Nat × List Byte) : State × Bool := ((writeLine c.1 c.2 x.1).1, x.2 || (writeLine c.1 c.2 x.1).2)

theorem urWrite_eq (a : Nat) (l : List Byte) (s : State) : urWrite a l s = (lineChunks l.length a l).foldl writeStep (s, false) := rfl

theorem plainHome_congr (h : t.toMemState = s.toMemState) : plainHome k t ↔ plainHome k s := by
  rw [plainHome, plainHome, migOf_congr h, bent_congr h, objPoisoned_congr h, h]

/-- n lines of a page, from line j of the request. -/
theorem writeLines_of_plainHome (n : Nat) : ∀ {s : State} {f j : Nat} {l : List Byte} {b : Bool}, plainHome k s → l.length = 64 * n →
    64 * (j + n) ≤ k.len → n ≤ f → ∃ p h, ((lineChunks f (k.addr + 64 * j) l).foldl writeStep (s, b)).1 =
      { s with mem := writeBytes (loadAddr k.addr s + 64 * j) l s.mem, poison := p, shadows := h } ∧
      ∀ y ∈ p, y ∈ s.poison ∧ (y.1 < lineOf (loadAddr k.addr s) + j ∨ lineOf (loadAddr k.addr s) + j + n ≤ y.1) := by
  induction n with
  | zero =>
    intro s f j l b _ hlen _ _
    obtain rfl := List.length_eq_zero_iff.mp hlen
    have hnone : lineChunks f (k.addr + 64 * j) ([] : List Byte) = [] := by cases f <;> rfl
    rw [hnone]
    exact ⟨s.poison, s.shadows, rfl, fun y hy => ⟨hy, by omega⟩⟩
  | succ n ih =>
    intro s f j l b hplain hlen hfit hfuel
    obtain ⟨f, rfl⟩ := Nat.exists_eq_succ_of_ne_zero (show f ≠ 0 by omega)
    have haligned := plainHome_aligned hplain
    have hx : 64 * j < k.len := by omega
    obtain ⟨hmig, htier, hpois⟩ := still_of_plainHome hplain hx
    have hplace := loadAddr_of_plainHome hplain hx
    obtain ⟨p, h, hline, hp⟩ := writeLine_whole hmig htier hpois (l := l.take 64) (by rw [List.length_take]; omega)
    rw [hplace] at hline hp
    have hstep : writeStep (s, b) (k.addr + 64 * j, l.take 64) =
        ({ s with mem := writeBytes (loadAddr k.addr s + 64 * j) (l.take 64) s.mem, poison := p, shadows := h }, b || false) := by
      rw [writeStep, hline]
    obtain ⟨p', h', hrest, hp'⟩ := ih (s := { s with mem := writeBytes (loadAddr k.addr s + 64 * j) (l.take 64) s.mem, poison := p, shadows := h })
      (f := f) (j := j + 1) (l := l.drop 64) (b := b || false) hplain (by rw [List.length_drop]; omega) (by omega) (by omega)
    have hbytes : writeBytes (loadAddr k.addr s + 64 * (j + 1)) (l.drop 64) (writeBytes (loadAddr k.addr s + 64 * j) (l.take 64) s.mem) =
        writeBytes (loadAddr k.addr s + 64 * j) l s.mem := by
      conv_rhs => rw [← List.take_append_drop 64 l, writeBytes_append, List.length_take, show min 64 l.length = 64 by omega]
      rw [Nat.mul_add, Nat.add_assoc]
    refine ⟨p', h', ?_, fun y hy => ?_⟩
    · rw [lineChunks_whole (by omega) hlen, List.foldl_cons, hstep, Nat.add_assoc, show 64 * j + 64 = 64 * (j + 1) by omega, hrest, ← hbytes]
      rfl
    · obtain ⟨hy1, hout⟩ := hp' y hy
      obtain ⟨hys, hne⟩ := hp y hy1
      have hne' : y.1 ≠ lineOf (loadAddr k.addr s) + j := by
        rw [lineOf] at hne ⊢
        omega
      have hout' : y.1 < lineOf (loadAddr k.addr s) + (j + 1) ∨ lineOf (loadAddr k.addr s) + (j + 1) + n ≤ y.1 := hout
      exact ⟨hys, by omega⟩

/-- A write of the whole range of a request: memory takes it where loads look, and no mark stays there. -/
theorem urWrite_of_plainHome {l : List Byte} (hplain : plainHome k s) (hlen : l.length = k.len) : ∃ p h,
    (urWrite k.addr l s).1 = { s with mem := writeBytes (loadAddr k.addr s) l s.mem, poison := p, shadows := h } ∧
    ∀ y ∈ p, y.1 < lineOf (loadAddr k.addr s) ∨ lineOf (loadAddr k.addr s) + k.len / 64 ≤ y.1 := by
  have haligned := plainHome_aligned hplain
  obtain ⟨p, h, hwrite, hp⟩ := writeLines_of_plainHome (k.len / 64) (f := l.length) (j := 0) (l := l) (b := false) hplain (by omega) (by omega) (by omega)
  rw [urWrite_eq]
  exact ⟨p, h, hwrite, fun y hy => (hp y hy).2⟩

/-! ### A write that is applied -/

section Applied

variable {b : Fin 16} {line i q : Nat} {r : CombReq} {x : Stream}

/-- The state with data d stored at a request's range and the stream's entry changed, before the answer. -/
def applied (i : Nat) (r : CombReq) (x : Stream) (d : List Byte) (p : FMap) (h : List (Nat × Shadow)) (s : State) : State :=
  putStream (recordApplied r.pkt x) { writeBegun i r s with mem := writeBytes (loadAddr r.pkt.addr s) d s.mem, poison := p, shadows := h }

variable {d : List Byte} {p : FMap} {h : List (Nat × Shadow)}

theorem key_recordApplied : ((recordApplied k x).src, (recordApplied k x).group) = (x.src, x.group) := by
  unfold recordApplied
  dsimp only
  split <;> rfl

theorem streamOf_applied (hstream : streamOf r.pkt s = some x) : streamOf r.pkt (applied i r x d p h s) = some (recordApplied r.pkt x) := by
  refine streamOf_putStream (key_recordApplied.trans (key_of_streamOf hstream)) ?_
  rw [streamOf_congr (t := { writeBegun i r s with mem := _, poison := p, shadows := h }) streams_writeBegun, hstream]
  rfl

theorem sameLink_applied : SameLink s (applied i r x d p h s) := sameLink_writeBegun.trans (.of_eq rfl ⟨rfl, rfl, rfl⟩ rfl fun _ _ => rfl)

theorem homeKeeps_applied : homeKeeps s (applied i r x d p h s) := homeKeeps_writeBegun

theorem comb_applied : (applied i r x d p h s).comb = s.comb.eraseIdx i := comb_writeBegun

theorem toMemState_applied : (applied i r x d p h s).toMemState =
    { s.toMemState with mem := writeBytes (loadAddr r.pkt.addr s) d s.mem, poison := p, shadows := h } := by
  have hmem : (writeBegun i r s).toMemState = s.toMemState := toMemState_writeBegun
  have hdef : (applied i r x d p h s).toMemState =
      { (writeBegun i r s).toMemState with mem := writeBytes (loadAddr r.pkt.addr s) d s.mem, poison := p, shadows := h } := rfl
  rw [hdef, hmem]

theorem regsExcept_applied : RegsExcept fs s (applied i r x d p h s) := regsExcept_writeBegun

theorem frame_applied (hp : [.fabric, .mem, .radio, .tallies] ⊆ ps) : Frame ps s (applied i r x d p h s) := by
  have hbegun : Frame ps s (writeBegun i r s) := frame_writeBegun (List.cons_subset.mpr ⟨hp (by simp), List.Subset.trans (by simp) hp⟩)
  exact (frame_withFabric (hp (by simp))).mpr ((frame_withMem (hp (by simp))).mpr hbegun)

/-- What the filter lets through is stored, and then acknowledged (R307). -/
theorem exec_combinerOperation_applied (hhead : combHead b line i r s) (hpass : Passes r.pkt s) (hgather : r.gather = none)
    (htype : r.pkt.type = 1 ∨ r.pkt.type = 2) (hplain : plainHome r.pkt s)
    (hclean : r.pkt.type = 2 → anyPoison r.pkt.addr r.pkt.len s = false ∧ anyHeld r.pkt.addr r.pkt.len s = false)
    (hstream : streamOf r.pkt s = some x) (hsays : filterSays r.pkt x = 0) (hway : rspWay q (rspOf r.pkt 0 0 0 [] s) s)
    (hd : writeData r.pkt s = d) (hlen : d.length = r.pkt.len) : ∃ p h,
    exec (.combinerOperation b line) s = goesOn s (handed q (rspOf r.pkt 0 0 0 [] s) (applied i r x d p h s)) ∧
    ∀ y ∈ p, y.1 < lineOf (loadAddr r.pkt.addr s) ∨ lineOf (loadAddr r.pkt.addr s) + r.pkt.len / 64 ≤ y.1 := by
  have hmem : (writeBegun i r s).toMemState = s.toMemState := toMemState_writeBegun
  have hdata : writeData r.pkt (writeBegun i r s) = d := by rw [writeData, urRead_congr hmem, ← writeData, hd]
  obtain ⟨p, h, hwrite, hp⟩ := urWrite_of_plainHome ((plainHome_congr hmem).mpr hplain) hlen
  rw [loadAddr_congr hmem] at hwrite hp
  have happlied : putStream (recordApplied r.pkt x) (urWrite r.pkt.addr d (writeBegun i r s)).1 = applied i r x d p h s := by
    rw [hwrite, applied, show (writeBegun i r s).mem = s.mem from congrArg MemState.mem hmem]
  refine ⟨p, h, ?_, hp⟩
  rw [exec_of_combHead hhead, serveAt_of_plainHome hplain rfl hpass htype hclean, serveWrite_eq hstream,
    filteredWrite_of_apply (dupFilter_of_filterSays (f := .apply) hsays), hdata, happlied, hgather, answer_eq_handed sameLink_applied hway]

end Applied

end Sys2Proof.Machine

/-! SUPPORT. Bytes as numbers, and the elements of a reduction (R9, R190, R294). -/

namespace Sys2Proof.Machine

/-! ### Numbers in bytes -/

theorem leNat_natLE (w : Nat) : ∀ v, leNat (natLE w v) = v % 256 ^ w := by
  induction w with
  | zero => intro v; rw [natLE, leNat, pow_zero, Nat.mod_one]
  | succ w ih =>
    intro v
    rw [natLE, leNat, ih, BitVec.toNat_ofNat, show 2 ^ 8 = 256 from rfl, pow_succ', Nat.mod_mul]

theorem leNat_lt (l : List Byte) : leNat l < 256 ^ l.length := by
  induction l with
  | nil => exact Nat.one_pos
  | cons b l ih =>
    have hb := b.isLt
    rw [leNat, List.length_cons, pow_succ']
    omega

theorem natLE_length (w : Nat) : ∀ v, (natLE w v).length = w := by
  induction w with
  | zero => intro v; rfl
  | succ w ih => intro v; rw [natLE, List.length_cons, ih]

theorem fieldLE_lt (l : List Byte) (o n : Nat) : fieldLE l o n < 256 ^ n :=
  lt_of_lt_of_le (leNat_lt _) (Nat.pow_le_pow_right (by decide) (List.length_take_le _ _))

theorem readBytes_eq_map (m : Memory) (n : Nat) : ∀ a, readBytes m a n = (List.range n).map (fun i => readByte m (a + i)) := by
  induction n with
  | zero => intro a; rfl
  | succ n ih =>
    intro a
    rw [readBytes, ih, List.range_succ_eq_map, List.map_cons, List.map_map]
    simp only [Function.comp_def, Nat.add_zero, Nat.succ_eq_add_one, Nat.add_assoc, Nat.add_comm 1]

/-- A part of a run of bytes, as a number. -/
theorem fieldLE_readBytes {m : Memory} {a n o w : Nat} (h : o + w ≤ n) : fieldLE (readBytes m a n) o w = leNat (readBytes m (a + o) w) := by
  rw [fieldLE, readBytes_eq_map, readBytes_eq_map]
  congr 1
  refine List.ext_getElem (by simp; omega) fun i hi _ => ?_
  simp [Nat.add_assoc]

/-- One piece of a list put together from pieces of one length. -/
theorem take_drop_flatMap {α : Type} {f : α → List Byte} {w : Nat} (hf : ∀ x, (f x).length = w) (l : List α) :
    ∀ j (hj : j < l.length), ((l.flatMap f).drop (w * j)).take w = f l[j] := by
  induction l with
  | nil => nofun
  | cons x l ih =>
    intro j hj
    cases j with
    | zero => rw [Nat.mul_zero, List.drop_zero, List.flatMap_cons, List.take_left' (hf x), List.getElem_cons_zero]
    | succ j =>
      rw [List.flatMap_cons, Nat.mul_succ, Nat.add_comm, ← List.drop_drop, List.drop_left' (hf x), List.getElem_cons_succ]
      exact ih j (by simpa using hj)

/-! ### Elements -/

theorem redSize_eq (rtype : Nat) : redSize rtype = redWidth rtype := rfl

theorem length_redLine (rop rtype : Nat) (line data : List Byte) : (redLine rop rtype line data).length = data.length / redWidth rtype * redWidth rtype := by
  simp [redLine, redSize_eq, List.length_flatMap, natLE_length]

/-- Element j of a reduced line, as a number. -/
theorem fieldLE_redLine {rop rtype j : Nat} {line data : List Byte} (hj : (j + 1) * redWidth rtype ≤ data.length) (hw : 0 < redWidth rtype) :
    fieldLE (redLine rop rtype line data) (redWidth rtype * j) (redWidth rtype) =
      redElem rop rtype (fieldLE line (redWidth rtype * j) (redWidth rtype)) (fieldLE data (redWidth rtype * j) (redWidth rtype)) % 256 ^ redWidth rtype := by
  have hlt : j < (List.range (data.length / redWidth rtype)).length := by
    rw [List.length_range]
    exact Nat.lt_of_succ_le ((Nat.le_div_iff_mul_le hw).mpr hj)
  rw [redLine, redSize_eq, fieldLE, take_drop_flatMap (fun _ => natLE_length _ _) _ j hlt, List.getElem_range, leNat_natLE]

/-! ### Their values -/

theorem bitsInt_eq_toInt {w : Nat} (hw : 0 < w) (n : Nat) : bitsInt w n = (BitVec.ofNat w n).toInt := by
  obtain ⟨w, rfl⟩ := Nat.exists_eq_succ_of_ne_zero hw.ne'
  have hpow : 2 ^ (w + 1) = 2 * 2 ^ w := pow_succ' 2 w
  have hhalf : n % 2 ^ (w + 1) < 2 ^ w ↔ 2 * (n % 2 ^ (w + 1)) < 2 ^ (w + 1) := by omega
  rw [bitsInt, BitVec.toInt_eq_toNat_cond, BitVec.toNat_ofNat, Nat.succ_eq_add_one, Nat.add_sub_cancel]
  simp only [hhalf, Nat.cast_pow, Nat.cast_ofNat]

/-- A rounded value's code reaches the format's greatest, or is its infinity's. -/
theorem roundNum_lt {f : FloatFmt} {b : Nat} (hb : 2 ^ (f.eb + f.mb) = b) (hinf : (2 ^ f.eb - 1) * 2 ^ f.mb < b) (htop : f.top < b) (neg : Bool)
    (m : Nat) (e : Int) : (roundNum f neg m e).bits < 2 * b := by
  have hsign : b2n neg * b ≤ b := by cases neg <;> simp [b2n]
  have hcode : ∀ (code : Nat) (x y : Bool), (if f.top < code then
      (⟨b2n neg * b + (if f.ieee then (2 ^ f.eb - 1) * 2 ^ f.mb else f.top), true, true, false⟩ : Rounded)
      else ⟨b2n neg * b + code, x, false, y⟩).bits < 2 * b := fun code x y => by
    split
    · dsimp only
      split <;> omega
    · dsimp only
      omega
  rw [roundNum, hb]
  by_cases hm : m = 0
  · rw [if_pos hm]
    dsimp only
    omega
  · rw [if_neg hm]
    exact hcode _ _ _

/-- A finite value, an infinity or a NaN is encoded in the format's bits. -/
theorem encodeNum_lt {f : FloatFmt} {b : Nat} (hb : 2 ^ (f.eb + f.mb) = b) (hinf : (2 ^ f.eb - 1) * 2 ^ f.mb < b) (hnan : canonNan f < b)
    (htop : f.top < b) (x : Num) : (encodeNum f x).1 < 2 * b := by
  have hsign : ∀ neg : Bool, b2n neg * b ≤ b := fun neg => by cases neg <;> simp [b2n]
  cases x with
  | nan => exact hnan.trans (by omega)
  | inf neg =>
    have := hsign neg
    rw [encodeNum, hb]
    dsimp only
    omega
  | fin neg m e => exact roundNum_lt hb hinf htop neg m e

theorem fp32_lt (x : Num) : (encodeNum fp32 x).1 < 2 ^ 32 := encodeNum_lt (b := 2 ^ 31) rfl (by decide) (by decide) (by decide) x

theorem bf16_lt (x : Num) : (encodeNum (fmtOf 5) x).1 < 2 ^ 16 := encodeNum_lt (b := 2 ^ 15) rfl (by decide) (by decide) (by decide) x

section Elem

variable {w a b : Nat}

theorem sum_eq_toNat : (a + b) % 2 ^ w = (BitVec.ofNat w a + BitVec.ofNat w b).toNat := by
  rw [← BitVec.ofNat_add, BitVec.toNat_ofNat]

/-- The lesser of two signed numbers. -/
theorem min_eq_slt (hw : 0 < w) : (if (bitsInt w b < bitsInt w a) = (1 = 1) then b else a) = if (BitVec.ofNat w b).slt (BitVec.ofNat w a) then b else a := by
  simp only [eq_self, eq_iff_iff, iff_true, bitsInt_eq_toInt hw, BitVec.slt_iff_toInt_lt]

/-- The greater of two signed numbers; of equal ones it is either. -/
theorem max_eq_slt (hw : 0 < w) (ha : a < 2 ^ w) (hb : b < 2 ^ w) :
    (if (bitsInt w b < bitsInt w a) = (2 = 1) then b else a) = if (BitVec.ofNat w a).slt (BitVec.ofNat w b) then b else a := by
  have hsame : (BitVec.ofNat w a).toInt = (BitVec.ofNat w b).toInt → a = b := fun h => by
    have hnat := congrArg BitVec.toNat (BitVec.eq_of_toInt_eq h)
    rwa [BitVec.toNat_ofNat, BitVec.toNat_ofNat, Nat.mod_eq_of_lt ha, Nat.mod_eq_of_lt hb] at hnat
  simp only [show (2 = 1) = False from by decide, eq_iff_iff, iff_false, bitsInt_eq_toInt hw, BitVec.slt_iff_toInt_lt, not_lt]
  rcases lt_trichotomy (BitVec.ofNat w a).toInt (BitVec.ofNat w b).toInt with h | h | h
  · rw [if_pos h.le, if_pos h]
  · rw [hsame h, ite_self, ite_self]
  · rw [if_neg (not_le.mpr h), if_neg (not_lt.mpr h.le)]

end Elem

/-- An element of integers of w bits: the sum, the lesser or the greater, in w bits. -/
theorem intReduction {w rop a b : Nat} (hw : 0 < w) (hrop : rop ≤ 2) (ha : a < 2 ^ w) (hb : b < 2 ^ w) :
    (if rop = 0 then (a + b) % 2 ^ w else if (bitsInt w b < bitsInt w a) = (rop = 1) then b else a) =
      (if rop = 0 then (BitVec.ofNat w a + BitVec.ofNat w b).toNat
        else if rop = 1 then if (BitVec.ofNat w b).slt (BitVec.ofNat w a) then b else a
        else if (BitVec.ofNat w a).slt (BitVec.ofNat w b) then b else a) ∧
    (if rop = 0 then (a + b) % 2 ^ w else if (bitsInt w b < bitsInt w a) = (rop = 1) then b else a) < 2 ^ w := by
  constructor
  · obtain rfl | rfl | rfl : rop = 0 ∨ rop = 1 ∨ rop = 2 := by omega
    · exact sum_eq_toNat
    · exact min_eq_slt hw
    · exact max_eq_slt hw ha hb
  · split
    · exact Nat.mod_lt _ (Nat.two_pow_pos w)
    · split <;> assumption

/-- An element of a reduction, and that it fits its width (R294). -/
theorem redElem_eq_redGives {rop rtype a b : Nat} (hrop : rop ≤ 2) (hrtype : rtype ≤ 3) (ha : a < 256 ^ redWidth rtype) (hb : b < 256 ^ redWidth rtype) :
    redElem rop rtype a b = redGives rop rtype a b ∧ redElem rop rtype a b < 256 ^ redWidth rtype := by
  have hcases : rop = 0 ∨ rop = 1 ∨ rop = 2 := by omega
  obtain rfl | rfl | rfl | rfl : rtype = 0 ∨ rtype = 1 ∨ rtype = 2 ∨ rtype = 3 := by omega
  · obtain rfl | rfl | rfl := hcases
    all_goals exact ⟨rfl, fp32_lt _⟩
  · obtain rfl | rfl | rfl := hcases
    all_goals exact ⟨rfl, bf16_lt _⟩
  · have helem := intReduction (w := 32) (by decide) hrop ha hb
    obtain rfl | rfl | rfl := hcases
    all_goals exact helem
  · have helem := intReduction (w := 64) (by decide) hrop ha hb
    obtain rfl | rfl | rfl := hcases
    all_goals exact helem

end Sys2Proof.Machine

/-! SUPPORT. Stores and reductions that are applied, and streams that fall idle (R294, R307, R312 to R314). -/

namespace Sys2Proof.Machine

variable {s : State} {k : FabPkt}

/-! ### Stores and reductions -/

section Applied

variable {b : Fin 16} {line i q : Nat} {r : CombReq} {x : Stream}

/-- An applied write takes its place in its class, and moves the class's epoch on where its own is newer (R313). -/
theorem recordApplied_shows : (recordApplied k x).done = k.txid :: x.done ∧ (recordApplied k x).top = x.top ∧
    (k.oc ≠ 0 → lookup k.oc (recordApplied k x).high = some k.txid ∧
      look 0 k.oc (recordApplied k x).cur = if serialLt 8 (look 0 k.oc x.cur) k.epoch then k.epoch else look 0 k.oc x.cur) := by
  unfold recordApplied
  dsimp only
  split
  · next h => exact ⟨rfl, rfl, fun hne => absurd h hne⟩
  · refine ⟨rfl, rfl, fun _ => ⟨(lookup_put_same k.oc (some k.txid) x.high :), ?_⟩⟩
    dsimp only
    split
    · exact look_put_same _ _ _ _
    · rfl

theorem combinerOperation_completes_store (hhead : combHead b line i r s) (hpass : Passes r.pkt s)
    (hkind : r.gather = none ∧ r.pkt.type = 1 ∧ r.pkt.data.length = r.pkt.len) (hplain : plainHome r.pkt s) (hstream : streamOf r.pkt s = some x)
    (hsays : filterSays r.pkt x = 0) (hway : rspWay q (rspOf r.pkt 0 0 0 [] s) s) :
    Completes (.combinerOperation b line) s (fun t =>
      readBytes t.mem (loadAddr r.pkt.addr s) r.pkt.len = r.pkt.data ∧ SameOutside (loadAddr r.pkt.addr s) r.pkt.len s.mem t.mem ∧
      (∀ l ∈ t.poison, l.1 < lineOf (loadAddr r.pkt.addr s) ∨ lineOf (loadAddr r.pkt.addr s) + r.pkt.len / 64 ≤ l.1) ∧
      (streamOf r.pkt t).map (fun y => (y.done, y.top)) = some (r.pkt.txid :: x.done, x.top) ∧
      (r.pkt.oc ≠ 0 → (streamOf r.pkt t).map (fun y => lookup r.pkt.oc y.high) = some (some r.pkt.txid) ∧
        (streamOf r.pkt t).map (fun y => look 0 r.pkt.oc y.cur) = some (if serialLt 8 (look 0 r.pkt.oc x.cur) r.pkt.epoch then r.pkt.epoch else look 0 r.pkt.oc x.cur)) ∧
      t.comb = s.comb.eraseIdx i ∧ Sent q (rspOf r.pkt 0 0 0 [] s) s t ∧ homeKeeps s t ∧ t.scratch = s.scratch ∧ t.bmap = s.bmap ∧ t.objs = s.objs ∧
      RegsExcept [] s t ∧ Frame [.fabric, .mem, .radio, .tallies] s t) := by
  obtain ⟨hgather, htype, hlen⟩ := hkind
  have hdata : writeData r.pkt s = r.pkt.data := by rw [writeData, if_neg (by omega)]
  obtain ⟨p, h, hexec, hpoison⟩ := exec_combinerOperation_applied hhead hpass hgather (.inl htype) hplain (by omega) hstream hsays hway hdata hlen
  have hmem := (toMemState_handed (q := q) (r := rspOf r.pkt 0 0 0 [] s)).trans (toMemState_applied (i := i) (r := r) (x := x) (d := r.pkt.data) (p := p) (h := h) (s := s))
  have hstreamOf := (streamOf_congr (streams_handed (q := q) (r := rspOf r.pkt 0 0 0 [] s)) r.pkt).trans
    (streamOf_applied (i := i) (d := r.pkt.data) (p := p) (h := h) hstream)
  obtain ⟨hdone, htop, hclass⟩ := recordApplied_shows (k := r.pkt) (x := x)
  refine completes_of_goesOn hexec (fun _ _ h => h) ⟨?_, ?_, ?_, ?_, fun hoc => ?_, ?_, sent_handed sameLink_applied, homeKeeps_handed.mpr homeKeeps_applied, ?_, ?_, ?_,
    regsExcept_handed.mpr regsExcept_applied, ?_⟩
  · rw [hmem]
    exact readBytes_writeBytes_of_length hlen
  · rw [hmem]
    exact fun y hy => readByte_writeBytes_out _ _ _ _ (by rwa [hlen])
  · rw [hmem]
    exact hpoison
  · rw [hstreamOf, Option.map_some, hdone, htop]
  · obtain ⟨hhigh, hcur⟩ := hclass hoc
    rw [hstreamOf, Option.map_some, Option.map_some, hhigh, hcur]
    exact ⟨rfl, rfl⟩
  · rw [comb_handed, comb_applied]
  · rw [hmem]
  · rw [hmem]
  · rw [hmem]
  · rw [frame_handed (by simp)]
    exact frame_applied (by simp)

theorem urRead_of_plainHome (hplain : plainHome k s) : urRead k.addr k.len s = readBytes s.mem (loadAddr k.addr s) k.len := by
  rw [urRead, readBytes_eq_map]
  exact List.map_congr_left fun x hx => by rw [loadAddr_of_plainHome hplain (List.mem_range.mp hx)]

theorem redWidth_dvd (rtype : Nat) : redWidth rtype ∣ 64 := by
  unfold redWidth
  split_ifs <;> decide

/-- A reduction that passes the checks is a SUM, MIN or MAX of one of the four kinds of elements (R298). -/
theorem ops_of_passes (hpass : Passes k s) (htype : k.type = 2) : k.rop ≤ 2 ∧ k.rtype ≤ 3 := by
  have hnone := hpass.2
  rw [firstReason, Option.map_eq_none_iff, List.find?_eq_none] at hnone
  have hlast := hnone (7, decide (k.type = 2) && (decide (2 < k.rop) || decide (3 < k.rtype))) (by simp [refTable])
  simp only [htype, decide_true, Bool.true_and, Bool.or_eq_true, decide_eq_true_eq, not_or, Nat.not_lt] at hlast
  exact hlast

theorem combinerOperation_completes_reduction {j : Nat} (hhead : combHead b line i r s) (hpass : Passes r.pkt s)
    (hkind : r.gather = none ∧ r.pkt.type = 2 ∧ r.pkt.data.length = r.pkt.len) (hplain : plainHome r.pkt s)
    (hclean : anyPoison r.pkt.addr r.pkt.len s = false ∧ anyHeld r.pkt.addr r.pkt.len s = false) (hstream : streamOf r.pkt s = some x)
    (hsays : filterSays r.pkt x = 0) (hway : rspWay q (rspOf r.pkt 0 0 0 [] s) s) (hj : (j + 1) * redWidth r.pkt.rtype ≤ r.pkt.len) :
    Completes (.combinerOperation b line) s (fun t =>
      leNat (readBytes t.mem (loadAddr r.pkt.addr s + j * redWidth r.pkt.rtype) (redWidth r.pkt.rtype)) =
        redGives r.pkt.rop r.pkt.rtype (leNat (readBytes s.mem (loadAddr r.pkt.addr s + j * redWidth r.pkt.rtype) (redWidth r.pkt.rtype)))
          (fieldLE r.pkt.data (j * redWidth r.pkt.rtype) (redWidth r.pkt.rtype)) ∧
      SameOutside (loadAddr r.pkt.addr s) r.pkt.len s.mem t.mem ∧ (streamOf r.pkt t).map (fun y => y.done) = some (r.pkt.txid :: x.done) ∧
      t.comb = s.comb.eraseIdx i ∧ Sent q (rspOf r.pkt 0 0 0 [] s) s t ∧ homeKeeps s t ∧ RegsExcept [] s t ∧ Frame [.fabric, .mem, .radio, .tallies] s t) := by
  obtain ⟨hgather, htype, hlen⟩ := hkind
  obtain ⟨hrop, hrtype⟩ := ops_of_passes hpass htype
  have hwidth : 0 < redWidth r.pkt.rtype := Nat.pos_of_dvd_of_pos (redWidth_dvd _) (by decide)
  have hdata : writeData r.pkt s = redLine r.pkt.rop r.pkt.rtype (readBytes s.mem (loadAddr r.pkt.addr s) r.pkt.len) r.pkt.data := by
    rw [writeData, if_pos htype, urRead_of_plainHome hplain]
  have hdlen : (redLine r.pkt.rop r.pkt.rtype (readBytes s.mem (loadAddr r.pkt.addr s) r.pkt.len) r.pkt.data).length = r.pkt.len := by
    rw [length_redLine, hlen]
    exact Nat.div_mul_cancel ((redWidth_dvd _).trans (Nat.dvd_of_mod_eq_zero (plainHome_aligned hplain).2))
  obtain ⟨p, h, hexec, -⟩ := exec_combinerOperation_applied hhead hpass hgather (.inr htype) hplain (fun _ => hclean) hstream hsays hway hdata hdlen
  generalize hd : redLine r.pkt.rop r.pkt.rtype (readBytes s.mem (loadAddr r.pkt.addr s) r.pkt.len) r.pkt.data = d at hexec hdlen
  have hmem := (toMemState_handed (q := q) (r := rspOf r.pkt 0 0 0 [] s)).trans (toMemState_applied (i := i) (r := r) (x := x) (d := d) (p := p) (h := h) (s := s))
  have hstreamOf := (streamOf_congr (streams_handed (q := q) (r := rspOf r.pkt 0 0 0 [] s)) r.pkt).trans
    (streamOf_applied (i := i) (d := d) (p := p) (h := h) hstream)
  have hfit : redWidth r.pkt.rtype * j + redWidth r.pkt.rtype ≤ r.pkt.len := by rwa [Nat.mul_comm, ← Nat.succ_mul]
  have hsum := fun data => redElem_eq_redGives hrop hrtype (fieldLE_lt (readBytes s.mem (loadAddr r.pkt.addr s) r.pkt.len) (redWidth r.pkt.rtype * j) _)
    (fieldLE_lt data (redWidth r.pkt.rtype * j) _)
  refine completes_of_goesOn hexec (fun _ _ h => h) ⟨?_, ?_, ?_, ?_, sent_handed sameLink_applied, homeKeeps_handed.mpr homeKeeps_applied,
    regsExcept_handed.mpr regsExcept_applied, ?_⟩
  · rw [hmem, Nat.mul_comm j, ← fieldLE_readBytes hfit, ← fieldLE_readBytes hfit, readBytes_writeBytes_of_length hdlen, ← hd,
      fieldLE_redLine (by rwa [hlen]) hwidth, Nat.mod_eq_of_lt (hsum _).2, (hsum _).1]
  · rw [hmem]
    exact fun y hy => readByte_writeBytes_out _ _ _ _ (by rwa [hdlen])
  · rw [hstreamOf, Option.map_some, recordApplied_shows.1]
  · rw [comb_handed, comb_applied]
  · rw [frame_handed (by simp)]
    exact frame_applied (by simp)

end Applied

/-! ### Idle streams (R314) -/

/-- The streams that stay: those of other sources or groups, and those that are not idle. -/
theorem streamEntryIdle_completes (src : Nat) (g : Option Nat) :
    Completes (.streamEntryIdle src g) s (fun t =>
      t.streams = s.streams.filter (fun x => decide (x.src ≠ src) || decide (x.group ≠ g) || decide (s.now < x.last + getF HJF_DF_IDLE s * 1000 * 1536)) ∧
      getF HJF_DF_STREAMS t = t.streams.length % 2 ^ 14 ∧ t.toFabricState = { s.toFabricState with streams := t.streams } ∧ RegsExcept [HJF_DF_STREAMS] s t ∧ Frame [.fabric] s t) := by
  have hstays : ∀ x : Stream, (!(decide ((x.src, x.group) = (src, g)) && decide (x.last + getF HJF_DF_IDLE s * 1000 * 1536 ≤ s.now))) =
      (decide (x.src ≠ src) || decide (x.group ≠ g) || decide (s.now < x.last + getF HJF_DF_IDLE s * 1000 * 1536)) := fun x => by
    simp only [Prod.mk.injEq, Bool.decide_and, Bool.not_and, decide_not, ← Nat.not_le]
  refine completes_of_goesOn (show exec (.streamEntryIdle src g) s = goesOn s _ from rfl) (fun _ _ h => h) ⟨?_, ?_, rfl, ?_, ?_⟩
  · exact List.filter_congr fun x _ => hstays x
  · exact getF_setF_same _ _ _
  · exact (regsExcept_setF _ (by simp)).mpr (regsExcept_refl _ s)
  · rw [frame_setF, frame_withFabric (by simp)]
    exact frame_refl _ s

end Sys2Proof.Machine

namespace Sys2Proof
open Machine

/-- Settles O54: a request at its home is refused, enters its Combiner's queue or waits; a Combiner serves the first request of a line, and the
Duplicate Filter decides what a write does. -/
theorem homeRequests : Obligations.HomeRequests :=
  ⟨fun _ _ _ _ _ _ _ hhead hf hway => fabricRequestReceive_completes_fenced hhead hf hway,
   fun _ _ _ _ _ _ _ _ hhead hopen hr hway he hk => fabricRequestReceive_completes_denied hhead hopen hr hway he hk,
   fun _ _ _ _ _ hhead hpass hroom hstream hfirst => fabricRequestReceive_completes_entered hhead hpass hroom hstream hfirst,
   fun _ _ _ _ _ h => fabricRequestReceive_noEffect h,
   fun _ _ _ _ _ _ _ hhead hpass hkind hplain hstream hsays hway => combinerOperation_completes_store hhead hpass hkind hplain hstream hsays hway,
   fun _ _ _ _ _ _ _ _ hhead hpass hkind hplain hclean hstream hsays hway hj =>
     combinerOperation_completes_reduction hhead hpass hkind hplain hclean hstream hsays hway hj,
   fun _ _ _ _ _ _ hhead hpass hkind hheld hway haligned => combinerOperation_completes_load hhead hpass hkind hheld hway haligned,
   fun _ _ _ _ _ _ _ hhead hpass hkind hplain hstream hsays hway => combinerOperation_completes_filtered hhead hpass hkind hplain hstream hsays hway,
   fun _ _ _ _ _ _ _ hhead hgather hwhy hway => combinerOperation_completes_rejected hhead hgather hwhy hway,
   fun _ _ _ _ _ h => combinerOperation_noEffect h,
   fun _ src g _ => streamEntryIdle_completes src g⟩

end Sys2Proof

/-! SUPPORT. Writes of HJF_CFG, whose DEVID takes its value while every port is OFF (R14, R286, R481). -/

namespace Sys2Proof.Machine

/-- A write of HJF_CFG by the PF writes DEVID and then EN by their Type codes (R14). -/
theorem exec_registerWrite_HJF_CFG {s : State} (hs : allOpen s) (v : BitVec 64) :
    exec (.registerWrite 0 HJF_CFG false v) s =
      goesOn s (fieldWrite HJF_CFG 0 0 (v.toNat % 2 ^ 32) (fieldWrite HJF_CFG 0 0 (v.toNat % 2 ^ 32) s HJF_CFG_DEVID) HJF_CFG_EN) := by
  obtain ⟨d, hword, hbase, hwidth, hfields⟩ : ∃ d, pfWord HJF_CFG = .reg d 0 0 false ∧ d.base = HJF_CFG ∧ d.width = 32 ∧
      d.fields 0 0 = [HJF_CFG_DEVID, HJF_CFG_EN] := ⟨_, rfl, rfl, rfl, rfl⟩
  have hradio : ∀ v, actRadio HJF_CFG 0 0 v s = none := fun _ => rfl
  have hother : ∀ v, actOther 0 HJF_CFG 0 v s = none := fun _ => rfl
  show execRegisterWrite 0 HJF_CFG false v s = _
  simp [execRegisterWrite, hs.1, accessOk, writeHalf, wordAt_pf hs (show absentUnit HJF_CFG s = false from rfl), hword, hwidth, hbase, hfields,
    regSet, hradio, hother, show HJF_CFG % 4 = 0 from rfl]

/-- Every port is OFF. -/
def portsOff (s : State) : Bool := (List.range 16).all (fun p => decide (portSt p s = 0))

/-- DEVID takes the value while every port is OFF, and refuses it otherwise (R286). -/
theorem fieldWrite_DEVID (v : Nat) (s : State) :
    fieldWrite HJF_CFG 0 0 v s HJF_CFG_DEVID = if portsOff s then setF HJF_CFG_DEVID (v / 2 ^ 0 % 2 ^ 16) s else s := by
  have hrefuses : (List.range 16).any (fun p => decide (portSt p s ≠ 0)) = !portsOff s := by
    rw [portsOff, List.not_all_eq_any_not]
    simp only [ne_eq, decide_not]
  have hwrite : fieldWrite HJF_CFG 0 0 v s HJF_CFG_DEVID =
      if (List.range 16).any (fun p => decide (portSt p s ≠ 0)) then s else setF HJF_CFG_DEVID (v / 2 ^ 0 % 2 ^ 16) s := rfl
  rw [hwrite, hrefuses]
  cases portsOff s <;> rfl

theorem fieldWrite_EN (v : Nat) (s : State) : fieldWrite HJF_CFG 0 0 v s HJF_CFG_EN = setF HJF_CFG_EN (v / 2 ^ 16 % 2 ^ 1) s :=
  fieldWrite_rw rfl (fun _ => rfl) (fun _ => rfl)

end Sys2Proof.Machine

namespace Sys2Proof
open Machine

/-- Settles O6: EN is written whatever the ports are, and DEVID by whether every port is OFF. -/
theorem deviceIdWrites : Obligations.DeviceIdWrites := by
  intro s v hs
  refine completes_of_goesOn (exec_registerWrite_HJF_CFG hs v) (fun _ _ h => h) ?_
  rw [fieldWrite_EN, fieldWrite_DEVID]
  have hen : v.toNat % 2 ^ 32 / 2 ^ 16 % 2 ^ 1 % 2 ^ 1 = v.toNat / 2 ^ 16 % 2 := by omega
  have hid : v.toNat % 2 ^ 32 / 2 ^ 0 % 2 ^ 16 % 2 ^ 16 = v.toNat % 2 ^ 16 := by omega
  refine ⟨?_, (getF_setF_same _ _ _).trans hen, ?_, ?_⟩
  · rw [getF_setF_ne _ _ (by decide), ← portsOff]
    split
    · exact (getF_setF_same _ _ _).trans hid
    · rfl
  · rw [regsExcept_setF _ (by simp)]
    split
    · rw [regsExcept_setF _ (by simp)]; exact regsExcept_refl _ _
    · exact regsExcept_refl _ _
  · rw [frame_setF]
    split <;> exact frame_refl _ s

end Sys2Proof

/-! SUPPORT. The count of spare lanes after a failed lane of a Hjelo port, from a count that FLT_SPARE.HJF cannot hold (R282, R371). -/

namespace Sys2Proof.Machine

/-- Port 6 is UP with its spare lane free, and FLT_SPARE.HJF, a field of 5 bits, holds 33. -/
def hjeloSparesPastWidth : State := { State.reset with regs := [((HJF_Pp_STAT_STATE 6).key, 2), (FLT_SPARE_HJF.key, 33)] }

/-- A lane of an UP port whose spare is free gives way to it, where no error is ordered for it (R282). -/
theorem exec_hjeloLaneSpare {s : State} {p : Fin 16} {lane : Nat} (hup : portUp p s = true) (hfree : flagF (HJF_Pp_STAT_SPARE_IN p) s = false)
    (hlane : lane < 4) (hinject : injected 6 p lane s = false) : exec (.hjeloLaneSpare p lane) s = goesOn s (hjfSpareIn p lane s) := by
  show execHjeloLaneSpare p lane s = _
  simp [execHjeloLaneSpare, hup, hfree, hlane, withInject, hinject]

theorem spares_after_hjeloSparesPastWidth : getF FLT_SPARE_HJF (hjfSpareIn 6 0 hjeloSparesPastWidth) = 0 := rfl

end Sys2Proof.Machine

namespace Sys2Proof
open Machine

/-- Refutes O39: its statement of a failed lane takes one from FLT_SPARE.HJF without a bound on what the field holds. From a state whose
FLT_SPARE.HJF holds 33 the spare that comes in writes 32 to the field, whose 5 bits read as 0. -/
theorem not_hjeloLinks : ¬ Obligations.HjeloLinks := by
  rintro ⟨_, _, _, _, hspare, _⟩
  have hup : portUp (6 : Fin 16) hjeloSparesPastWidth = true := rfl
  have hfree : flagF (HJF_Pp_STAT_SPARE_IN (6 : Fin 16)) hjeloSparesPastWidth = false := rfl
  obtain ⟨t, ht, _, _, hleft, _⟩ := hspare hjeloSparesPastWidth 6 0 hup hfree (by decide)
  rw [getF_goesOn ((exec_hjeloLaneSpare hup hfree (by decide) rfl).symm.trans ht)] at hleft
  exact absurd (spares_after_hjeloSparesPastWidth.symm.trans hleft) (by decide)

end Sys2Proof

/-! SUPPORT. What every command does with the queue: it goes on, and the commands that wait behind it stay as they are. -/

namespace Sys2Proof.Machine

/-- Every command goes on to a next state, whatever its operands: none faults and none is refused. -/
theorem exec_goesOn (c : Instr) (s : State) : ∃ u, exec c s = goesOn s u := by
  cases c <;> exact ⟨_, rfl⟩

theorem step_nil {s : State} (h : s.pending = []) : step s = .next s := by
  rw [step, h]

theorem step_cons {s : State} {c : Instr} {r : List Instr} (h : s.pending = c :: r) : step s = exec c { s with pending := r } := by
  rw [step, h]

/-- A step takes the command at the front of the queue, if there is one, and leaves the rest. -/
theorem step_pending (s : State) : ∃ t, step s = .next t ∧ t.pending = s.pending.tail := by
  cases hq : s.pending with
  | nil => exact ⟨s, step_nil hq, hq⟩
  | cons c r =>
    obtain ⟨u, hu⟩ := exec_goesOn c { s with pending := r }
    exact ⟨_, (step_cons hq).trans hu, rfl⟩

theorem run_succ {M : Host.Core} {s t : M.State} (h : M.step s = .next t) (n : Nat) : M.run (n + 1) s = M.run n t := by
  rw [Host.Core.run, h]

/-- As many steps as commands wait leave the queue empty. -/
theorem run_pending (n : Nat) (s : State) (hn : s.pending.length = n) : ∃ t, Host.Core.run core n s = .next t ∧ t.pending = [] := by
  induction n generalizing s with
  | zero => exact ⟨s, rfl, List.length_eq_zero_iff.mp hn⟩
  | succ n ih =>
    obtain ⟨t, ht, hq⟩ := step_pending s
    obtain ⟨u, hu, hempty⟩ := ih t (by rw [hq, List.length_tail, hn, Nat.add_sub_cancel])
    exact ⟨u, (run_succ (M := core) ht n).trans hu, hempty⟩

end Sys2Proof.Machine

namespace Sys2Proof
open Machine

/-- Settles O1: a step looks at the front of the queue alone. -/
theorem queueStep : Obligations.QueueStep :=
  ⟨fun _ _ _ => step_cons rfl, fun _ h => step_nil h⟩

/-- Settles O2: the commands that wait after a step waited before it. -/
theorem queueInvariant : Obligations.QueueInvariant := by
  intro s t hwf ht
  obtain ⟨u, hu, hq⟩ := step_pending s
  obtain rfl : u = t := Host.Outcome.next.inj (hu.symm.trans ht)
  refine ⟨?_, hq⟩
  rw [QueueWf, List.all_eq_true] at hwf ⊢
  exact fun c hc => hwf c (List.mem_of_mem_tail (hq ▸ hc))

/-- Settles O3: by induction on the number of commands that wait. -/
theorem queueWorkedOff : Obligations.QueueWorkedOff := by
  intro s
  obtain ⟨t, ht, -⟩ := step_pending s
  exact ⟨⟨t, ht⟩, run_pending _ s rfl⟩

/-- Settles O5: the table of words is empty. -/
theorem noWordSpellsACommand : Obligations.NoWordSpellsACommand :=
  fun _ _ _ => ⟨rfl, rfl⟩

end Sys2Proof

/-! SUPPORT. The throttle causes and the duty in force: what a cause that comes or goes, and a write of PWR_THROTTLE, change and leave (R395 to
R397, R406). -/

namespace Sys2Proof.Machine

variable {fs : List Fld} {ps : List Piece} {s t : State}

theorem frame_withPower (x : PowerState) (hp : .power ∈ ps) : Frame ps s { t with toPowerState := x } ↔ Frame ps s t :=
  frame_congr .power (fun g hg => by cases g with | power => exact absurd rfl hg | _ => exact Iff.rfl) hp

/-! ### Events of the power block (R406) -/

theorem regsExcept_pwrEvent {f : Fld} (hv : vecRegs ⊆ fs) (hf : f ∈ fs) : RegsExcept fs s (pwrEvent f t) ↔ RegsExcept fs s t :=
  regsExcept_event hv hf _ _ _ _

theorem frame_pwrEvent {f : Fld} (hb : .bus ∈ ps) (ht : .tallies ∈ ps) : Frame ps s (pwrEvent f t) ↔ Frame ps s t := frame_event hb ht

theorem getF_pwrEvent {f g : Fld} (hg : ∀ h ∈ f :: vecRegs, g.key ≠ h.key) (s : State) : getF g (pwrEvent f s) = getF g s :=
  (regsExcept_pwrEvent (List.subset_cons_self _ _) List.mem_cons_self).mpr (regsExcept_refl _ _) g hg

/-! ### The duty in force (R395, R396) -/

/-- The bits of PWR_TSTAT that show the throttle causes. -/
def causeFields : List Fld := [PWR_TSTAT_PIN, PWR_TSTAT_FORCE, PWR_TSTAT_THERMAL, PWR_TSTAT_CAP]

theorem setDuty_eq (d : Nat) (s : State) : setDuty d s = s ∨ setDuty d s = setF PWR_TSTAT_IN_FORCE d { s with dutyAt := s.now } :=
  ite_eq_or_eq _ _ _

theorem inForce_setDuty (d : Nat) (s : State) : getF PWR_TSTAT_IN_FORCE (setDuty d s) % 128 = d % 128 := by
  unfold setDuty
  split
  next h => rw [h]
  next => rw [getF_setF_same]; exact Nat.mod_mod _ _

theorem regsExcept_setDuty (d : Nat) (h : PWR_TSTAT_IN_FORCE ∈ fs) : RegsExcept fs s (setDuty d t) ↔ RegsExcept fs s t := by
  unfold setDuty
  split
  · exact Iff.rfl
  · exact regsExcept_setF _ h

theorem frame_setDuty (d : Nat) (hp : .power ∈ ps) : Frame ps s (setDuty d t) ↔ Frame ps s t := by
  unfold setDuty
  split
  · exact Iff.rfl
  · exact frame_withPower _ hp

theorem getF_setDuty {g : Fld} (d : Nat) (hg : g.key ≠ PWR_TSTAT_IN_FORCE.key) (s : State) : getF g (setDuty d s) = getF g s :=
  (regsExcept_setDuty d (List.mem_singleton_self _)).mpr (regsExcept_refl _ _) g (by simpa using hg)

/-! ### A cause comes (R395) -/

/-- The state in which a cause counts as active since now, unless another is. -/
def causeSince (s : State) : State := if anyCause s then s else { s with thrSince := s.now }

theorem causeOn_of_off {f : Fld} (h : flagF f s = false) : causeOn f s = setDuty (dutyD s) (setF PWR_TSTAT_RELEASING 0 (setF f 1 (causeSince s))) := by
  rw [causeOn, h]
  rfl

theorem getF_causeSince (f : Fld) (s : State) : getF f (causeSince s) = getF f s := by
  unfold causeSince; split <;> rfl

theorem regsExcept_causeSince : RegsExcept fs s (causeSince t) ↔ RegsExcept fs s t := by
  unfold causeSince; split <;> exact Iff.rfl

theorem frame_causeSince (hp : .power ∈ ps) : Frame ps s (causeSince t) ↔ Frame ps s t := by
  unfold causeSince
  split
  · exact Iff.rfl
  · exact frame_withPower _ hp

theorem keys_of_cause : ∀ f ∈ causeFields, f.width = 1 ∧ f.key ≠ PWR_TSTAT_IN_FORCE.key ∧ f.key ≠ PWR_TSTAT_RELEASING.key := by decide

section Cause

variable {f : Fld} (hf : f ∈ causeFields) (hoff : flagF f s = false)

include hf in
theorem flagF_causeOn : flagF f (causeOn f s) = true := by
  obtain ⟨hw, hforce, hrel⟩ := keys_of_cause f hf
  unfold causeOn
  split
  next h => exact h
  next => rw [flagF_iff, getF_setDuty _ hforce, getF_setF_ne _ _ hrel, getF_setF_same, hw]; decide

include hoff

theorem inForce_causeOn : getF PWR_TSTAT_IN_FORCE (causeOn f s) % 128 = getF PWR_THROTTLE_DUTY s % 128 := by
  rw [causeOn_of_off hoff, inForce_setDuty]
  rfl

theorem releasing_causeOn : getF PWR_TSTAT_RELEASING (causeOn f s) = 0 := by
  rw [causeOn_of_off hoff, getF_setDuty _ (by decide), getF_setF_same]
  rfl

end Cause

theorem regsExcept_causeOn {f : Fld} (h : [f, PWR_TSTAT_IN_FORCE, PWR_TSTAT_RELEASING] ⊆ fs) : RegsExcept fs s (causeOn f t) ↔ RegsExcept fs s t := by
  simp only [List.cons_subset] at h
  obtain ⟨hf, hforce, hrel, -⟩ := h
  unfold causeOn
  split
  · exact Iff.rfl
  · rw [regsExcept_setDuty _ hforce, regsExcept_setF _ hrel, regsExcept_setF _ hf]
    exact regsExcept_causeSince

theorem frame_causeOn {f : Fld} (hp : .power ∈ ps) : Frame ps s (causeOn f t) ↔ Frame ps s t := by
  unfold causeOn
  split
  · exact Iff.rfl
  · rw [frame_setDuty _ hp, frame_setF, frame_setF]
    exact frame_causeSince hp

theorem getF_causeOn {f g : Fld} (hg : ∀ h ∈ [f, PWR_TSTAT_IN_FORCE, PWR_TSTAT_RELEASING], g.key ≠ h.key) (s : State) :
    getF g (causeOn f s) = getF g s :=
  (regsExcept_causeOn (List.Subset.refl _)).mpr (regsExcept_refl _ _) g hg

/-! ### A cause goes (R395) -/

theorem causeOff_of_off {f : Fld} (h : flagF f s = false) : causeOff f s = s := by rw [causeOff, h]; rfl

theorem causeOff_of_last {f : Fld} (h : flagF f s = true) (hlast : anyCause (setF f 0 s) = false) :
    causeOff f s = tally1024 17 PWR_T_ACTIVE_COUNT ((s.now - s.thrSince) / 1536) { setF f 0 s with thrOff := s.now } := by
  rw [causeOff, h]
  dsimp only
  rw [hlast]
  rfl

theorem getF_tally1024 (g : Fld) (k : Nat) (f : Fld) (n : Nat) (s : State) : getF g (tally1024 k f n s) = getF g s := rfl

theorem flagF_causeOff {f : Fld} (s : State) : flagF f (causeOff f s) = false := by
  have hzero : flagF f (setF f 0 s) = false := by simp [flagF]
  unfold causeOff
  split
  next h => simpa using h
  next =>
    dsimp only
    split
    · exact hzero
    · exact hzero

theorem regsExcept_causeOff {f : Fld} (hf : f ∈ fs) : RegsExcept fs s (causeOff f t) ↔ RegsExcept fs s t := by
  unfold causeOff
  split
  · exact Iff.rfl
  · dsimp only
    split
    · exact regsExcept_setF _ hf
    · exact regsExcept_setF _ hf

theorem frame_causeOff {f : Fld} (hp : .power ∈ ps) (hr : .radio ∈ ps) (ht : .tallies ∈ ps) : Frame ps s (causeOff f t) ↔ Frame ps s t := by
  unfold causeOff
  split
  · exact Iff.rfl
  · dsimp only
    split
    · exact Iff.rfl
    · rw [frame_tally1024 hr ht]
      exact frame_withPower _ hp

/-! ### THROTTLE_N (R395) -/

/-- The assertion of THROTTLE_N is counted and reported. -/
def pinNoted (s : State) : State := pwrEvent PWR_STAT_PIN (tally 17 PWR_T_PIN_COUNT 1 s)

theorem getF_pinNoted {g : Fld} (hg : ∀ h ∈ PWR_STAT_PIN :: vecRegs, g.key ≠ h.key) (s : State) : getF g (pinNoted s) = getF g s :=
  getF_pwrEvent hg _

theorem throttleAssert_completes (hpin : flagF PWR_TSTAT_PIN s = false) (hreset : inReset s = false) :
    Completes .throttleAssert s (fun t =>
      flagF PWR_TSTAT_PIN t = true ∧ getF PWR_TSTAT_IN_FORCE t % 128 = getF PWR_THROTTLE_DUTY s % 128 ∧ getF PWR_TSTAT_RELEASING t = 0 ∧
      flagF PWR_STAT_PIN t = true ∧
      RegsExcept ([PWR_TSTAT_PIN, PWR_TSTAT_IN_FORCE, PWR_TSTAT_RELEASING, PWR_STAT_PIN] ++ vecRegs) s t ∧ Frame (.power :: vecPieces) s t) := by
  have hexec : exec .throttleAssert s = goesOn s (causeOn PWR_TSTAT_PIN (pinNoted s)) := by
    show execThrottleAssert s = _
    rw [execThrottleAssert, if_neg (by simp [hpin, hreset])]
    rfl
  have hoff : flagF PWR_TSTAT_PIN (pinNoted s) = false := by rw [flagF, getF_pinNoted (by decide)]; exact hpin
  refine completes_of_goesOn hexec (fun _ _ h => h) ⟨flagF_causeOn (by decide), ?_, releasing_causeOn hoff, ?_, ?_, ?_⟩
  · rw [inForce_causeOn hoff, getF_pinNoted (by decide)]
  · rw [flagF, getF_causeOn (by decide)]
    exact flagF_event (by decide) (by decide) _
  · rw [regsExcept_causeOn (by simp), pinNoted, regsExcept_pwrEvent (List.subset_append_right _ _) (by simp), regsExcept_tally]
    exact regsExcept_refl _ s
  · rw [frame_causeOn (by simp), pinNoted, frame_pwrEvent (by simp [vecPieces]) (by simp [vecPieces]), frame_tally _ _ _ (by simp [vecPieces])]
    exact frame_refl _ s

theorem throttleDeassert_completes (hpin : flagF PWR_TSTAT_PIN s = true)
    (hothers : flagF PWR_TSTAT_FORCE s = false ∧ flagF PWR_TSTAT_THERMAL s = false ∧ flagF PWR_TSTAT_CAP s = false) :
    Completes .throttleDeassert s (fun t =>
      flagF PWR_TSTAT_PIN t = false ∧ getF PWR_TSTAT_IN_FORCE t = getF PWR_TSTAT_IN_FORCE s ∧ t.thrOff = s.now ∧
      RegsExcept [PWR_TSTAT_PIN] s t ∧ Frame [.power, .tallies, .radio] s t) := by
  obtain ⟨hforce, hthermal, hcap⟩ := hothers
  have hkeep : ∀ g : Fld, g.key ≠ PWR_TSTAT_PIN.key → flagF g (setF PWR_TSTAT_PIN 0 s) = flagF g s := fun g hg => by
    rw [flagF, getF_setF_ne _ _ hg]; rfl
  have hlast : anyCause (setF PWR_TSTAT_PIN 0 s) = false := by
    simp only [anyCause, hkeep PWR_TSTAT_FORCE (by decide), hkeep PWR_TSTAT_THERMAL (by decide), hkeep PWR_TSTAT_CAP (by decide), hforce, hthermal, hcap]
    simp [flagF]
  refine completes_of_goesOn rfl (fun _ _ h => h) ⟨flagF_causeOff s, ?_, ?_, ?_, ?_⟩
  · rw [causeOff_of_last hpin hlast, getF_tally1024]
    exact getF_setF_ne _ _ (by decide)
  · rw [causeOff_of_last hpin hlast]
    rfl
  · rw [regsExcept_causeOff (by simp)]; exact regsExcept_refl _ s
  · rw [frame_causeOff (by simp) (by simp) (by simp)]; exact frame_refl _ s

/-! ### The release (R395) -/

theorem throttleHoldExpiry_completes (hcause : anyCause s = false) (hrel : flagF PWR_TSTAT_RELEASING s = false) (hlow : getF PWR_TSTAT_IN_FORCE s < 100)
    (hhold : s.thrOff + getF PWR_THROTTLE_HOLD_US s * 1000 * 1536 ≤ s.now) :
    Completes .throttleHoldExpiry s (fun t =>
      flagF PWR_TSTAT_RELEASING t = true ∧ t.thrStep = s.now ∧ getF PWR_TSTAT_IN_FORCE t = getF PWR_TSTAT_IN_FORCE s ∧
      RegsExcept [PWR_TSTAT_RELEASING] s t ∧ Frame [.power] s t) := by
  have hexec : exec .throttleHoldExpiry s = goesOn s (setF PWR_TSTAT_RELEASING 1 { s with thrStep := s.now }) := by
    show execThrottleHoldExpiry s = _
    rw [execThrottleHoldExpiry, if_pos ⟨by rw [hcause]; rfl, by rw [hrel]; rfl, hlow, hhold⟩]
  refine completes_of_goesOn hexec (fun _ _ h => h) ⟨?_, rfl, getF_setF_ne _ _ (by decide), ?_, ?_⟩
  · rw [flagF_iff, getF_setF_same]; decide
  · rw [regsExcept_setF _ (by simp)]; exact regsExcept_refl _ s
  · exact (frame_withPower _ (by simp)).mpr (frame_refl _ s)

/-- The duty in force raised by 1 percent, 64 cycles after it last rose. -/
def dutyRaised (s : State) : State := setF PWR_TSTAT_IN_FORCE (getF PWR_TSTAT_IN_FORCE s + 1) { s with thrStep := s.thrStep + 64 * 1536, dutyAt := s.now }

theorem exec_dutyReleaseStep (hrel : flagF PWR_TSTAT_RELEASING s = true) (hlow : getF PWR_TSTAT_IN_FORCE s < 100) (hdue : s.thrStep + 64 * 1536 ≤ s.now) :
    exec .dutyReleaseStep s = goesOn s (if 100 ≤ getF PWR_TSTAT_IN_FORCE s + 1 then setF PWR_TSTAT_RELEASING 0 (dutyRaised s) else dutyRaised s) := by
  have hset : setDuty (getF PWR_TSTAT_IN_FORCE s + 1) { s with thrStep := s.thrStep + 64 * 1536 } = dutyRaised s := if_neg (Nat.ne_of_lt (Nat.lt_succ_self _))
  show execDutyReleaseStep s = _
  rw [execDutyReleaseStep, if_pos ⟨by simp [dutyRises, hrel], hdue⟩]
  dsimp only
  rw [Nat.min_eq_right (by omega), hset]

theorem dutyReleaseStep_completes (hrel : flagF PWR_TSTAT_RELEASING s = true) (hlow : getF PWR_TSTAT_IN_FORCE s < 100)
    (hdue : s.thrStep + 64 * 1536 ≤ s.now) :
    Completes .dutyReleaseStep s (fun t =>
      getF PWR_TSTAT_IN_FORCE t = getF PWR_TSTAT_IN_FORCE s + 1 ∧ t.thrStep = s.thrStep + 64 * 1536 ∧
      (flagF PWR_TSTAT_RELEASING t = decide (getF PWR_TSTAT_IN_FORCE s + 1 < 100)) ∧
      RegsExcept [PWR_TSTAT_RELEASING, PWR_TSTAT_IN_FORCE] s t ∧ Frame [.power] s t) := by
  have hforce : getF PWR_TSTAT_IN_FORCE (dutyRaised s) = getF PWR_TSTAT_IN_FORCE s + 1 := (getF_setF_same _ _ _).trans (Nat.mod_eq_of_lt (by
    show getF PWR_TSTAT_IN_FORCE s + 1 < 2 ^ 7; omega))
  have hregs : RegsExcept [PWR_TSTAT_RELEASING, PWR_TSTAT_IN_FORCE] s (dutyRaised s) := (regsExcept_setF _ (by simp)).mpr (regsExcept_refl _ s)
  have hframe : Frame [.power] s (dutyRaised s) := (frame_withPower _ (by simp)).mpr (frame_refl _ s)
  refine completes_of_goesOn (exec_dutyReleaseStep hrel hlow hdue) (fun _ _ h => h) ?_
  split
  next htop =>
    refine ⟨(getF_setF_ne _ _ (by decide)).trans hforce, rfl, ?_, (regsExcept_setF _ (by simp)).mpr hregs, hframe⟩
    have hfull : decide (getF PWR_TSTAT_IN_FORCE s + 1 < 100) = false := decide_eq_false (by omega)
    rw [hfull, flagF, getF_setF_same]
    rfl
  next htop =>
    refine ⟨hforce, rfl, ?_, hregs, hframe⟩
    rw [decide_eq_true (by omega), flagF, dutyRaised, getF_setF_ne _ _ (by decide)]
    exact hrel

/-! ### Writes of PWR_THROTTLE (R395, R397) -/

/-- The hold that a write gives: 0 leaves it. -/
def withHold (w : Nat) (s : State) : State := if bitsAt 23 16 w = 0 then s else setF PWR_THROTTLE_HOLD_US (bitsAt 23 16 w) s

theorem throttleWrite_eq (w : Nat) (s : State) : throttleWrite w s = withHold w
    (if bitAt 8 w then causeOn PWR_TSTAT_FORCE (setF PWR_THROTTLE_FORCE (w / 2 ^ 8) (dutyWrite (w % 128) s))
      else causeOff PWR_TSTAT_FORCE (setF PWR_THROTTLE_FORCE (w / 2 ^ 8) (dutyWrite (w % 128) s))) := rfl

theorem hold_withHold (w : Nat) (s : State) :
    getF PWR_THROTTLE_HOLD_US (withHold w s) = if w / 2 ^ 16 % 256 = 0 then getF PWR_THROTTLE_HOLD_US s else w / 2 ^ 16 % 256 := by
  have hbits : bitsAt 23 16 w = w / 2 ^ 16 % 256 := rfl
  unfold withHold
  rw [hbits]
  split
  · rfl
  · rw [getF_setF_same]; exact Nat.mod_mod _ _

theorem regsExcept_withHold (w : Nat) (h : PWR_THROTTLE_HOLD_US ∈ fs) : RegsExcept fs s (withHold w t) ↔ RegsExcept fs s t := by
  unfold withHold
  split
  · exact Iff.rfl
  · exact regsExcept_setF _ h

theorem frame_withHold (w : Nat) : Frame ps s (withHold w t) ↔ Frame ps s t := by
  unfold withHold; split <;> exact Iff.rfl

theorem getF_withHold {g : Fld} (w : Nat) (hg : g.key ≠ PWR_THROTTLE_HOLD_US.key) (s : State) : getF g (withHold w s) = getF g s :=
  (regsExcept_withHold w (List.mem_singleton_self _)).mpr (regsExcept_refl _ _) g (by simpa using hg)

theorem force_bit (w : Nat) (s : State) : getF PWR_THROTTLE_FORCE (setF PWR_THROTTLE_FORCE (w / 2 ^ 8) s) = b2n (bitAt 8 w) := by
  rw [getF_setF_same]
  show w / 2 ^ 8 % 2 = _
  unfold b2n bitAt
  split
  next h => simpa using h
  next h => have : ¬ w / 2 ^ 8 % 2 = 1 := by simpa using h
            omega

theorem throttleForceWrite_completes {w : BitVec 32} (hup : hostUp 0 s = true) (hduty : w.toNat % 128 < 50) (hbit : bitAt 8 w.toNat = true)
    (hoff : flagF PWR_TSTAT_FORCE s = false) :
    Completes (.throttleForceWrite w) s (fun t =>
      flagF PWR_TSTAT_FORCE t = true ∧ getF PWR_THROTTLE_FORCE t = 1 ∧ getF PWR_THROTTLE_DUTY t = getF PWR_THROTTLE_DUTY s ∧
      getF PWR_TSTAT_IN_FORCE t % 128 = getF PWR_THROTTLE_DUTY s % 128 ∧
      getF PWR_THROTTLE_HOLD_US t = (if w.toNat / 2 ^ 16 % 256 = 0 then getF PWR_THROTTLE_HOLD_US s else w.toNat / 2 ^ 16 % 256) ∧
      RegsExcept [PWR_TSTAT_FORCE, PWR_THROTTLE_FORCE, PWR_TSTAT_IN_FORCE, PWR_TSTAT_RELEASING, PWR_THROTTLE_HOLD_US] s t ∧ Frame [.power] s t) := by
  have hexec : exec (.throttleForceWrite w) s =
      goesOn s (withHold w.toNat (causeOn PWR_TSTAT_FORCE (setF PWR_THROTTLE_FORCE (w.toNat / 2 ^ 8) s))) := by
    show execThrottleForceWrite w s = _
    rw [execThrottleForceWrite, hup, throttleWrite_eq, if_pos hbit, dutyWrite, if_pos (Or.inl hduty)]
    rfl
  have hoff' : flagF PWR_TSTAT_FORCE (setF PWR_THROTTLE_FORCE (w.toNat / 2 ^ 8) s) = false := by
    rw [flagF, getF_setF_ne _ _ (by decide)]; exact hoff
  refine completes_of_goesOn hexec (fun _ _ h => h) ⟨?_, ?_, ?_, ?_, ?_, ?_, ?_⟩
  · rw [flagF, getF_withHold _ (by decide)]
    exact flagF_causeOn (by decide)
  · rw [getF_withHold _ (by decide), getF_causeOn (by decide), force_bit, hbit]
    rfl
  · rw [getF_withHold _ (by decide), getF_causeOn (by decide), getF_setF_ne _ _ (by decide)]
  · rw [getF_withHold _ (by decide), inForce_causeOn hoff', getF_setF_ne _ _ (by decide)]
  · rw [hold_withHold, getF_causeOn (by decide), getF_setF_ne _ _ (by decide)]
  · rw [regsExcept_withHold _ (by simp), regsExcept_causeOn (by simp), regsExcept_setF _ (by simp)]
    exact regsExcept_refl _ s
  · rw [frame_withHold, frame_causeOn (by simp), frame_setF]
    exact frame_refl _ s

/-- The Escrow's state after it has accepted a duty. -/
def dutyTaken (d : Nat) (s : State) : State := showEscrow (setF ESC_DUTY_DUTY d (setF PWR_THROTTLE_DUTY d s))

theorem getF_dutyTaken {g : Fld} (d : Nat) (hg : ∀ f ∈ [PWR_THROTTLE_DUTY, ESC_DUTY_DUTY] ++ (escrowShown ++ vecRegs), g.key ≠ f.key) (s : State) :
    getF g (dutyTaken d s) = getF g s := by
  rw [List.forall_mem_append] at hg
  rw [dutyTaken, getF_showEscrow hg.2, getF_setF_ne _ _ (hg.1 _ (by simp)), getF_setF_ne _ _ (hg.1 _ (by simp))]

/-- The Escrow shows the Matrix Cores' capacity at the duty that it holds to (R62). -/
theorem mcCap_showEscrow (s : State) : getF ESC_CAP_MC_CAP (showEscrow s) = capAt (dutyPct s) 0 s % 2 ^ ESC_CAP_MC_CAP.width := by
  have hrest : ∀ u : State, ∀ b c : Bool, getF ESC_CAP_MC_CAP (escLevel ESC_STAT_AT_RISK b (escLevel ESC_STAT_OVERCOMMIT c u)) = getF ESC_CAP_MC_CAP u :=
    fun u b c => ((regsExcept_escLevel (fs := [ESC_STAT_AT_RISK, ESC_STAT_OVERCOMMIT] ++ vecRegs) (by simp) (by simp) b).mpr
      ((regsExcept_escLevel (by simp) (by simp) c).mpr (regsExcept_refl _ _))) _ (by decide)
  unfold showEscrow
  dsimp only
  rw [hrest, getF_setF_ne _ _ (by decide), getF_setF_ne _ _ (by decide), getF_setF_ne _ _ (by decide), getF_setF_same]

theorem mcCap_dutyTaken {d : Nat} (hd : d < 128) (s : State) : getF ESC_CAP_MC_CAP (dutyTaken d s) = capAt d 0 s % 2 ^ ESC_CAP_MC_CAP.width := by
  have hpct : dutyPct (setF ESC_DUTY_DUTY d (setF PWR_THROTTLE_DUTY d s)) = d := (getF_setF_same _ _ _).trans (Nat.mod_eq_of_lt hd)
  have hactive : getF MXC_STAT_ACTIVE (setF ESC_DUTY_DUTY d (setF PWR_THROTTLE_DUTY d s)) = getF MXC_STAT_ACTIVE s := by
    rw [getF_setF_ne _ _ (by decide), getF_setF_ne _ _ (by decide)]
  rw [dutyTaken, mcCap_showEscrow, hpct, capAt, hactive]
  rfl

theorem exec_dutyWrite_of_no_force {w : BitVec 32} (hup : hostUp 0 s = true) (hbit : bitAt 8 w.toNat = false)
    (hoff : flagF PWR_TSTAT_FORCE (dutyWrite (w.toNat % 128) s) = false) :
    exec (.dutyWrite w) s = goesOn s (withHold w.toNat (setF PWR_THROTTLE_FORCE (w.toNat / 2 ^ 8) (dutyWrite (w.toNat % 128) s))) := by
  have hoff' : flagF PWR_TSTAT_FORCE (setF PWR_THROTTLE_FORCE (w.toNat / 2 ^ 8) (dutyWrite (w.toNat % 128) s)) = false := by
    rw [flagF, getF_setF_ne _ _ (by decide)]; exact hoff
  show execDutyWrite w s = _
  rw [execDutyWrite, hup, throttleWrite_eq, hbit, if_neg (by decide), causeOff_of_off hoff']
  rfl

theorem dutyWrite_completes_accepted {w : BitVec 32} (hup : hostUp 0 s = true) (hduty : 50 ≤ w.toNat % 128 ∧ w.toNat % 128 ≤ 100)
    (hacc : dutyAccepted (w.toNat % 128) s = true) (hcause : anyCause s = false) (hbit : bitAt 8 w.toNat = false) :
    Completes (.dutyWrite w) s (fun t =>
      getF PWR_THROTTLE_DUTY t = w.toNat % 128 ∧ getF ESC_DUTY_DUTY t = w.toNat % 128 ∧ getF PWR_THROTTLE_FORCE t = 0 ∧
      getF PWR_TSTAT_IN_FORCE t = getF PWR_TSTAT_IN_FORCE s ∧
      getF ESC_CAP_MC_CAP t = capAt (w.toNat % 128) 0 s % 2 ^ ESC_CAP_MC_CAP.width ∧
      RegsExcept ([PWR_THROTTLE_DUTY, ESC_DUTY_DUTY, PWR_THROTTLE_FORCE, PWR_THROTTLE_HOLD_US, ESC_CAP_MC_CAP, ESC_CAP_SC_CAP, ESC_CAP_COD_CAP, ESC_CAP_T1_CAP,
        ESC_STAT_AT_RISK, ESC_STAT_OVERCOMMIT] ++ vecRegs) s t ∧ Frame vecPieces s t) := by
  have hflag : ∀ f ∈ causeFields, flagF f (dutyTaken (w.toNat % 128) s) = flagF f s := fun f hf => by
    rw [flagF, getF_dutyTaken _ (by revert f; decide)]; rfl
  have hnone : anyCause (dutyTaken (w.toNat % 128) s) = false := by
    rw [← hcause, anyCause, hflag _ (by decide), hflag _ (by decide), hflag _ (by decide), hflag _ (by decide)]
    rfl
  have hwrite : dutyWrite (w.toNat % 128) s = dutyTaken (w.toNat % 128) s := by
    rw [dutyWrite, if_neg (by omega), hacc]
    show (if (!anyCause (dutyTaken (w.toNat % 128) s)) = true then _ else _) = _
    rw [hnone]
    rfl
  have hoff : flagF PWR_TSTAT_FORCE (dutyWrite (w.toNat % 128) s) = false := by
    rw [hwrite, hflag _ (by decide)]
    revert hcause
    simp +contextual [anyCause]
  refine completes_of_goesOn (exec_dutyWrite_of_no_force hup hbit hoff) (fun _ _ h => h) ?_
  rw [hwrite]
  refine ⟨?_, ?_, ?_, ?_, ?_, ?_, ?_⟩
  · rw [getF_withHold _ (by decide), getF_setF_ne _ _ (by decide), dutyTaken, getF_showEscrow (by decide), getF_setF_ne _ _ (by decide), getF_setF_same]
    exact Nat.mod_mod _ _
  · rw [getF_withHold _ (by decide), getF_setF_ne _ _ (by decide), dutyTaken, getF_showEscrow (by decide), getF_setF_same]
    exact Nat.mod_mod _ _
  · rw [getF_withHold _ (by decide), force_bit, hbit]
    rfl
  · rw [getF_withHold _ (by decide), getF_setF_ne _ _ (by decide), getF_dutyTaken _ (by decide)]
  · rw [getF_withHold _ (by decide), getF_setF_ne _ _ (by decide), mcCap_dutyTaken (by omega)]
  · rw [regsExcept_withHold _ (by simp), regsExcept_setF _ (by simp), dutyTaken, regsExcept_showEscrow (List.subset_append_right _ _) (by simp [escrowShown]),
      regsExcept_setF _ (by simp), regsExcept_setF _ (by simp)]
    exact regsExcept_refl _ s
  · rw [frame_withHold, frame_setF, dutyTaken, frame_showEscrow (by simp [vecPieces]) (by simp [vecPieces]), frame_setF, frame_setF]
    exact frame_refl _ s

theorem dutyWrite_completes_refused {w : BitVec 32} (hup : hostUp 0 s = true) (hduty : 50 ≤ w.toNat % 128 ∧ w.toNat % 128 ≤ 100)
    (hacc : dutyAccepted (w.toNat % 128) s = false) (hforce : flagF PWR_TSTAT_FORCE s = false) (hbit : bitAt 8 w.toNat = false) :
    Completes (.dutyWrite w) s (fun t =>
      getF PWR_THROTTLE_DUTY t = getF PWR_THROTTLE_DUTY s ∧ getF ESC_DUTY_DUTY t = getF ESC_DUTY_DUTY s ∧ flagF ESC_STAT_DUTY_REFUSED t = true ∧
      RegsExcept ([PWR_THROTTLE_FORCE, PWR_THROTTLE_HOLD_US, ESC_STAT_DUTY_REFUSED] ++ vecRegs) s t ∧ Frame vecPieces s t) := by
  have hwrite : dutyWrite (w.toNat % 128) s = escEvent ESC_STAT_DUTY_REFUSED s := by
    rw [dutyWrite, if_neg (by omega), hacc]
    rfl
  have hkeep : ∀ g : Fld, (∀ f ∈ ESC_STAT_DUTY_REFUSED :: vecRegs, g.key ≠ f.key) → getF g (escEvent ESC_STAT_DUTY_REFUSED s) = getF g s := fun g hg =>
    (regsExcept_escEvent (List.subset_cons_self _ _) List.mem_cons_self).mpr (regsExcept_refl _ _) g hg
  have hoff : flagF PWR_TSTAT_FORCE (dutyWrite (w.toNat % 128) s) = false := by
    rw [hwrite, flagF, hkeep _ (by decide)]; exact hforce
  refine completes_of_goesOn (exec_dutyWrite_of_no_force hup hbit hoff) (fun _ _ h => h) ?_
  rw [hwrite]
  refine ⟨?_, ?_, ?_, ?_, ?_⟩
  · rw [getF_withHold _ (by decide), getF_setF_ne _ _ (by decide), hkeep _ (by decide)]
  · rw [getF_withHold _ (by decide), getF_setF_ne _ _ (by decide), hkeep _ (by decide)]
  · rw [flagF, getF_withHold _ (by decide), getF_setF_ne _ _ (by decide)]
    exact flagF_event (by decide) (by decide) s
  · rw [regsExcept_withHold _ (by simp), regsExcept_setF _ (by simp), regsExcept_escEvent (List.subset_append_right _ _) (by simp)]
    exact regsExcept_refl _ s
  · rw [frame_withHold, frame_setF, frame_escEvent (by simp [vecPieces]) (by simp [vecPieces])]
    exact frame_refl _ s

/-! ### The power cap (R404) -/

/-- A cap that is exceeded is counted and reported. -/
def capNoted (s : State) : State := pwrEvent PWR_STAT_CAP (tally 17 PWR_T_CAP_COUNT 1 s)

/-- What the check of the average makes of the cap cause. -/
def capChecked (s : State) : State :=
  if getF PWR_CAP_WATTS s * s.pwrLast.length < s.pwrLast.sum then
    if flagF PWR_TSTAT_CAP s then s else causeOn PWR_TSTAT_CAP (capNoted s)
  else if s.pwrLast.sum * 100 < 95 * getF PWR_CAP_WATTS s * s.pwrLast.length then causeOff PWR_TSTAT_CAP s
  else s

theorem exec_powerCapCheck (hreset : inReset s = false) (hw : 0 < getF PWR_CAP_WATTS s) : exec .powerCapCheck s = goesOn s (capChecked s) := by
  show execPowerCapCheck s = _
  unfold execPowerCapCheck
  dsimp only
  rw [hreset, if_neg (by decide), if_neg (Nat.ne_of_gt hw)]
  rfl

theorem capOff_capNoted (h : flagF PWR_TSTAT_CAP s = false) : flagF PWR_TSTAT_CAP (capNoted s) = false := by
  rw [flagF, capNoted, getF_pwrEvent (by decide)]; exact h

theorem capChecked_exceeded (h : getF PWR_CAP_WATTS s * s.pwrLast.length < s.pwrLast.sum) : flagF PWR_TSTAT_CAP (capChecked s) = true ∧
    (flagF PWR_TSTAT_CAP s = false →
      getF PWR_TSTAT_IN_FORCE (capChecked s) % 128 = getF PWR_THROTTLE_DUTY s % 128 ∧ flagF PWR_STAT_CAP (capChecked s) = true) := by
  unfold capChecked
  rw [if_pos h]
  split
  next hon => exact ⟨hon, fun hoff => absurd (hon.symm.trans hoff) (by decide)⟩
  next hoff =>
    refine ⟨flagF_causeOn (by decide), fun hoff => ⟨?_, ?_⟩⟩
    · rw [inForce_causeOn (capOff_capNoted hoff), capNoted, getF_pwrEvent (by decide)]
      rfl
    · rw [flagF, getF_causeOn (by decide)]
      exact flagF_event (by decide) (by decide) _

theorem capChecked_between (h1 : s.pwrLast.sum ≤ getF PWR_CAP_WATTS s * s.pwrLast.length)
    (h2 : 95 * getF PWR_CAP_WATTS s * s.pwrLast.length ≤ s.pwrLast.sum * 100) : capChecked s = s := by
  rw [capChecked, if_neg (by omega), if_neg (by omega)]

theorem capChecked_below (h : s.pwrLast.sum * 100 < 95 * getF PWR_CAP_WATTS s * s.pwrLast.length) : flagF PWR_TSTAT_CAP (capChecked s) = false := by
  have hnot : ¬ getF PWR_CAP_WATTS s * s.pwrLast.length < s.pwrLast.sum := by
    rw [Nat.mul_assoc] at h
    generalize getF PWR_CAP_WATTS s * s.pwrLast.length = x at h ⊢
    omega
  rw [capChecked, if_neg hnot, if_pos h]
  exact flagF_causeOff s

theorem regsExcept_capChecked : RegsExcept ([PWR_TSTAT_CAP, PWR_TSTAT_IN_FORCE, PWR_TSTAT_RELEASING, PWR_STAT_CAP] ++ vecRegs) s (capChecked s) := by
  unfold capChecked
  split
  · split
    · exact regsExcept_refl _ s
    · rw [regsExcept_causeOn (by simp), capNoted, regsExcept_pwrEvent (List.subset_append_right _ _) (by simp), regsExcept_tally]
      exact regsExcept_refl _ s
  · split
    · rw [regsExcept_causeOff (by simp)]; exact regsExcept_refl _ s
    · exact regsExcept_refl _ s

theorem frame_capChecked : Frame [.power, .tallies, .bus, .radio] s (capChecked s) := by
  unfold capChecked
  split
  · split
    · exact frame_refl _ s
    · rw [frame_causeOn (by simp), capNoted, frame_pwrEvent (by simp) (by simp), frame_tally _ _ _ (by simp)]
      exact frame_refl _ s
  · split
    · rw [frame_causeOff (by simp) (by simp) (by simp)]; exact frame_refl _ s
    · exact frame_refl _ s

end Sys2Proof.Machine

namespace Sys2Proof
open Machine

/-- Settles O12: a cause that comes and the last one that goes, the release's beginning and its steps, and a write of PWR_THROTTLE by whether
its duty is in range and the Escrow accepts it. -/
theorem throttleCauses : Obligations.ThrottleCauses :=
  ⟨fun _ hpin hreset => throttleAssert_completes hpin hreset,
   fun _ hpin hothers => throttleDeassert_completes hpin hothers,
   fun _ hcause hrel hlow hhold => throttleHoldExpiry_completes hcause hrel hlow hhold,
   fun _ hrel hlow hdue => dutyReleaseStep_completes hrel hlow hdue,
   fun _ _ hup hduty hbit hoff => throttleForceWrite_completes hup hduty hbit hoff,
   fun _ _ hup hduty hacc hcause hbit => dutyWrite_completes_accepted hup hduty hacc hcause hbit,
   fun _ _ hup hduty hacc hforce hbit => dutyWrite_completes_refused hup hduty hacc hforce hbit⟩

/-- Settles O13: the check by where the average stands to WATTS. -/
theorem powerCap : Obligations.PowerCap := fun _ hreset hw =>
  completes_of_goesOn (exec_powerCapCheck hreset hw) (fun _ _ h => h)
    ⟨capChecked_exceeded, fun h1 h2 => by rw [capChecked_between h1 h2], capChecked_below, regsExcept_capChecked, frame_capChecked⟩

end Sys2Proof

/-! SUPPORT. The TAP's instructions and the SPDM responder: what each changes and leaves (R421, R422, R446). -/

namespace Sys2Proof.Machine

variable {fs : List Fld} {ps : List Piece} {s t : State}

theorem frame_withHost (x : HostState) (hp : .host ∈ ps) : Frame ps s { t with toHostState := x } ↔ Frame ps s t :=
  frame_congr .host (fun g hg => by cases g with | host => exact absurd rfl hg | _ => exact Iff.rfl) hp

theorem frame_withFault (x : FaultState) (hp : .fault ∈ ps) : Frame ps s { t with toFaultState := x } ↔ Frame ps s t :=
  frame_congr .fault (fun g hg => by cases g with | fault => exact absurd rfl hg | _ => exact Iff.rfl) hp

theorem frame_host (x : HostState) (s : State) : Frame [.host] s { s with toHostState := x } :=
  (frame_withHost x (List.mem_singleton_self _)).mpr (frame_refl _ s)

theorem frame_hostFault (x : HostState) (y : FaultState) (s : State) : Frame [.host, .fault] s { s with toFaultState := y, toHostState := x } :=
  (frame_withHost x (by simp)).mpr ((frame_withFault y (by simp)).mpr (frame_refl _ s))

/-! ### The TAP (R446) -/

/-- A number whose bits are those of a list, the first the lowest, has bit i of the list. -/
theorem bitAt_foldr_bits (l : List Bool) (i : Nat) : bitAt i (l.foldr (fun b n => 2 * n + b2n b) 0) = l.getD i false := by
  induction l generalizing i with
  | nil => simp [bitAt]
  | cons b l ih =>
    have hb : b2n b < 2 := by cases b <;> decide
    rw [List.foldr_cons]
    cases i with
    | zero =>
      rw [bitAt, Nat.pow_zero, Nat.div_one, Nat.mul_add_mod, Nat.mod_eq_of_lt hb]
      cases b <;> rfl
    | succ i =>
      rw [List.getD_cons_succ, ← ih i, bitAt, bitAt, Nat.pow_succ', ← Nat.div_div_eq_div_mul, Nat.mul_add_div Nat.two_pos, Nat.div_eq_of_lt hb, Nat.add_zero]

theorem tapPins_eq (i : TapIr) (s : State) :
    tapPins i s = if s.perst then { s with tapIr := i, tapOut := none } else { s with tapIr := .bypass, tapOut := some 0 } := rfl

/-- An instruction that takes the pins leaves what `tapPins` makes of the state. -/
theorem tapPins_completes {c : Instr} {i : TapIr} (h : exec c s = goesOn s (tapPins i s)) :
    Completes c s (fun t => t = if s.perst then { s with tapIr := i, tapOut := none } else { s with tapIr := .bypass, tapOut := some 0 }) := by
  refine ⟨_, h, ?_⟩
  rw [tapPins_eq]
  split <;> rfl

/-- The part number that IDCODE shows, whatever the spec leaves open around it. -/
theorem idcode_part (rest : Nat) : (rest / 2 ^ 12 * 2 ^ 28 + 0x0A96 * 2 ^ 12 + rest % 2 ^ 12) / 2 ^ 12 % 2 ^ 16 = 0x0A96 := by omega

theorem idcode_completes (s : State) :
    Completes .idcode s (fun t => t.tapIr = .idcode ∧ t.tapOut.map (fun n => n / 2 ^ 12 % 2 ^ 16) = some 0x0A96 ∧ RegsExcept [] s t ∧ Frame [.host] s t) :=
  completes_of_goesOn rfl (fun _ _ h => h)
    ⟨rfl, congrArg some (idcode_part Config.idcodeRest.toNat), regsExcept_refl _ s, frame_host _ s⟩

theorem samplePreload_completes (s : State) (pins load : List Bool) :
    Completes (.samplePreload pins load) s (fun t =>
      t.tapIr = .sample ∧ t.bsr = load ∧ (∀ i ∈ List.range pins.length, t.tapOut.map (bitAt i) = some (pins.getD i false)) ∧
      RegsExcept [] s t ∧ Frame [.host] s t) :=
  completes_of_goesOn rfl (fun _ _ h => h)
    ⟨rfl, rfl, fun i _ => congrArg some (bitAt_foldr_bits pins i), regsExcept_refl _ s,
      frame_host _ s⟩

theorem jtagDebugHalt_completes_open (k : Fin 10) (hopen : debugOpen s = true) :
    Completes (.jtagDebugHalt k) s (fun t =>
      k.val ∈ t.halted ∧ t.tapIr = .debug ∧ flagF DEV_DBG_HALTED t = true ∧ RegsExcept [DEV_DBG_HALTED] s t ∧ Frame [.host, .fault] s t) := by
  have hexec : exec (.jtagDebugHalt k) s =
      goesOn s (setF DEV_DBG_HALTED 1 { s with halted := insertNat k.val s.halted, tapIr := .debug, tapOut := none }) := by
    show execJtagDebugHalt k s = _
    rw [execJtagDebugHalt, if_pos hopen]
  refine completes_of_goesOn hexec (fun _ _ h => h) ⟨mem_insertNat_self _ _, rfl, ?_, ?_, ?_⟩
  · rw [flagF_iff, getF_setF_same]; decide
  · exact (regsExcept_setF _ (List.mem_singleton_self _)).mpr (regsExcept_refl _ s)
  · rw [frame_setF]
    exact frame_hostFault _ _ s

theorem jtagDebugHalt_completes_shut (k : Fin 10) (hshut : debugOpen s = false) : Completes (.jtagDebugHalt k) s (fun t => t = s) := by
  refine ⟨s, ?_, rfl⟩
  show execJtagDebugHalt k s = _
  rw [execJtagDebugHalt, hshut]
  rfl

/-! ### The responder (R421) -/

variable {via : Nat}

theorem spdmOf_setSpdm_same (x : Spdm) (s : State) : spdmOf via (setSpdm via x s) = x := by
  rw [spdmOf, setSpdm, look, lookup_put_same]
  rfl

theorem said_spdmSay (r : SpdmRsp) (s : State) : Said (.spdm via r) s (spdmSay via r s) :=
  ⟨rfl, regsExcept_refl _ s, frame_host _ s⟩

theorem said_setSpdm (r : SpdmRsp) (x : Spdm) (s : State) : Said (.spdm via r) s (spdmSay via r (setSpdm via x s)) :=
  ⟨rfl, regsExcept_refl _ s, frame_host _ s⟩

theorem spdmOf_spdmSay_setSpdm (r : SpdmRsp) (x : Spdm) (s : State) : spdmOf via (spdmSay via r (setSpdm via x s)) = x := spdmOf_setSpdm_same x s

theorem spdmServe_getVersion (hup : spdmUp s = true) : spdmServe via .getVersion s = spdmSay via .version (setSpdm via ⟨1, 0⟩ s) := by
  rw [spdmServe, hup]; rfl

theorem spdmServe_getCapabilities (hup : spdmUp s = true) (hphase : 1 ≤ (spdmOf via s).phase) :
    spdmServe via .getCapabilities s = spdmSay via .capabilities (setSpdm via ⟨2, 0⟩ s) := by
  rw [spdmServe, hup]
  exact if_neg (Nat.not_lt.mpr hphase)

theorem spdmServe_negotiate (hup : spdmUp s = true) (hphase : 2 ≤ (spdmOf via s).phase) :
    spdmServe via (.negotiate true true) s = spdmSay via .algorithms (setSpdm via ⟨3, 0⟩ s) := by
  rw [spdmServe, hup]
  exact if_neg (Nat.not_lt.mpr hphase)

theorem spdmServe_negotiate_early (a b : Bool) (hup : spdmUp s = true) (hphase : (spdmOf via s).phase = 0) :
    spdmServe via (.negotiate a b) s = spdmSay via .unexpectedRequest s := by
  rw [spdmServe, hup]
  exact if_pos (hphase ▸ Nat.two_pos)

/-- The requests that come after the first three. -/
def afterFirst : SpdmReq → Bool
  | .getVersion | .getCapabilities | .negotiate _ _ => false
  | _ => true

/-- A responder that is ready serves the requests after the first three. -/
theorem spdmServe_of_ready {r : SpdmReq} (h : spdmReady via s) (hr : afterFirst r = true) : spdmServe via r s = spdmRest via r s := by
  obtain ⟨hup, hret, hphase⟩ := h
  have hafter : spdmAfter via (spdmRest via r) s = spdmRest via r s := if_neg (Nat.not_lt.mpr hphase)
  unfold spdmServe
  rw [hup]
  cases r with
  | getVersion => cases hr
  | getCapabilities => cases hr
  | negotiate a b => cases hr
  | _ => simp only [Bool.not_true, Bool.false_eq_true, if_false, hret]; exact hafter

theorem spdmIn_of_established (f : State → State) (h : (spdmOf via s).session = 2) : spdmIn via f s = f s := if_pos h

/-- A request that only says something leaves the responder as it was. -/
theorem said_completes {c : Instr} {r : SpdmRsp} (hexec : exec c s = goesOn s (spdmSay via r s)) :
    Completes c s (fun t => Said (.spdm via r) s t ∧ t.spdm = s.spdm) :=
  completes_of_goesOn hexec (fun _ _ h => h) ⟨said_spdmSay r s, rfl⟩

/-- A request that says something and sets the responder. -/
theorem saidSet_completes {c : Instr} {r : SpdmRsp} {x : Spdm} (hexec : exec c s = goesOn s (spdmSay via r (setSpdm via x s))) :
    Completes c s (fun t => Said (.spdm via r) s t ∧ spdmOf via t = x) :=
  completes_of_goesOn hexec (fun _ _ h => h) ⟨said_setSpdm r x s, spdmOf_spdmSay_setSpdm r x s⟩

theorem completes_mono {c : Instr} {p q : State → Prop} (h : ∀ t, p t → q t) : Completes c s p → Completes c s q :=
  fun ⟨t, ht, hp⟩ => ⟨t, ht, h t hp⟩

/-! ### Random bytes (R421) -/

/-- Drawing bytes moves on in the free values and changes nothing else. -/
theorem drawBytes_state (n : Nat) (s : State) : (drawBytes n s).2 = { s with draws := s.draws + n } := by
  induction n generalizing s with
  | zero => rfl
  | succ n ih =>
    show (drawBytes n (drawFree 64 s).2).2 = _
    rw [ih]
    show ({ s with draws := s.draws + 1 + n } : State) = _
    rw [Nat.add_assoc, Nat.add_comm 1 n]

theorem frame_hostDrawn (x : HostState) (n : Nat) (s : State) : Frame [.host, .draws] s { s with draws := n, toHostState := x } :=
  (frame_withHost x (by simp)).mpr ((frame_withDraws n (by simp)).mpr (frame_refl _ s))

theorem spdmChallenge_slot0 (nonce : List Byte) (s : State) :
    spdmChallenge via 0 nonce s = spdmSay via (.challengeAuth (sha3 Config.certChain) (sha3 ([1, 2, 3, 4, 5, 6, 7].flatMap (fun i => measureBlock i s)))
      (drawBytes 4 s).1 (aliasSign (sha3 Config.certChain ++ (drawBytes 4 s).1 ++ sha3 ([1, 2, 3, 4, 5, 6, 7].flatMap (fun i => measureBlock i s)) ++ nonce) s))
      { s with draws := s.draws + 4 } := by
  rw [← drawBytes_state]
  exact if_neg (by simp)

theorem spdmKeyExchange_eq (dhe : List Byte) (s : State) :
    spdmKeyExchange via dhe s = spdmSay via (.keyExchangeRsp (drawBytes 12 s).1 (aliasSign (dhe ++ (drawBytes 12 s).1) s))
      (setSpdm via { spdmOf via s with session := 1 } { s with draws := s.draws + 12 }) := by
  rw [← drawBytes_state]
  rfl

theorem spdmCertificate_slot0 (off len : Nat) (s : State) :
    spdmCertificate via 0 off len s = spdmSay via (if Config.certChain.length < off then .invalidRequest
      else .certificate ((Config.certChain.drop off).take len) (Config.certChain.length - off - min len (Config.certChain.length - off))) s := by
  unfold spdmCertificate
  by_cases h : Config.certChain.length < off
  · rw [if_pos h]; exact if_pos (Or.inr h)
  · rw [if_neg h]; exact if_neg (by simpa using h)

theorem spdmMeasure_one {index : Nat} (signed : Bool) (nonce : List Byte) (h : 1 ≤ index ∧ index ≤ 7) (s : State) :
    spdmMeasure via index signed nonce s = spdmSay via (.measurements (measureBody [index] nonce signed s)) s := by
  rw [spdmMeasure, if_neg (by omega), if_neg (by omega), if_neg (by omega)]

theorem spdmMeasure_invalid {index : Nat} (signed : Bool) (nonce : List Byte) (h : 7 < index) (h255 : index ≠ 255) (s : State) :
    spdmMeasure via index signed nonce s = spdmSay via .invalidRequest s := by
  rw [spdmMeasure, if_neg (by omega), if_neg h255, if_pos h]

theorem challenge_completes (nonce : List Byte) {via : Fin 3} (hready : spdmReady via s) :
    Completes (.challenge via 0 nonce) s (fun t =>
      t.mgmtOut = .spdm via (.challengeAuth (sha3 Config.certChain) (sha3 ([1, 2, 3, 4, 5, 6, 7].flatMap (fun i => measureBlock i s))) (drawBytes 4 s).1
        (aliasSign (sha3 Config.certChain ++ (drawBytes 4 s).1 ++ sha3 ([1, 2, 3, 4, 5, 6, 7].flatMap (fun i => measureBlock i s)) ++ nonce) s)) :: s.mgmtOut ∧
      t.draws = s.draws + 4 ∧ RegsExcept [] s t ∧ Frame [.host, .draws] s t) := by
  have hexec : exec (.challenge via 0 nonce) s = goesOn s (spdmChallenge via 0 nonce s) := congrArg (goesOn s) (spdmServe_of_ready hready rfl)
  rw [spdmChallenge_slot0] at hexec
  exact completes_of_goesOn hexec (fun _ _ h => h) ⟨rfl, rfl, regsExcept_refl _ s, frame_hostDrawn _ _ s⟩

theorem keyExchange_completes (dhe : List Byte) {via : Fin 3} (hready : spdmReady via s) :
    Completes (.keyExchange via dhe) s (fun t =>
      t.mgmtOut = .spdm via (.keyExchangeRsp (drawBytes 12 s).1 (aliasSign (dhe ++ (drawBytes 12 s).1) s)) :: s.mgmtOut ∧ (spdmOf via t).session = 1 ∧
      (spdmOf via t).phase = (spdmOf via s).phase ∧ t.draws = s.draws + 12 ∧ RegsExcept [] s t ∧ Frame [.host, .draws] s t) := by
  have hexec : exec (.keyExchange via dhe) s = goesOn s (spdmKeyExchange via dhe s) := congrArg (goesOn s) (spdmServe_of_ready hready rfl)
  rw [spdmKeyExchange_eq] at hexec
  refine completes_of_goesOn hexec (fun _ _ h => h) ⟨rfl, ?_, ?_, rfl, regsExcept_refl _ s, frame_hostDrawn _ _ s⟩
  · rw [spdmOf_spdmSay_setSpdm]
  · rw [spdmOf_spdmSay_setSpdm]

section Ready

variable {via : Fin 3} (hready : spdmReady via s)

include hready

theorem getCertificate_completes (off len : Nat) :
    Completes (.getCertificate via 0 off len) s (fun t =>
      Said (.spdm via (if Config.certChain.length < off then .invalidRequest
        else .certificate ((Config.certChain.drop off).take len) (Config.certChain.length - off - min len (Config.certChain.length - off)))) s t ∧
      t.spdm = s.spdm) :=
  said_completes (congrArg (goesOn s) ((spdmServe_of_ready hready rfl).trans (spdmCertificate_slot0 off len s)))

theorem finish_completes (h1 : (spdmOf via s).session = 1) :
    Completes (.finish via true) s (fun t => Said (.spdm via .finishRsp) s t ∧ (spdmOf via t).session = 2) :=
  completes_mono (fun _ h => ⟨h.1, congrArg Spdm.session h.2⟩)
    (saidSet_completes (x := { spdmOf via s with session := 2 }) (congrArg (goesOn s) ((spdmServe_of_ready hready rfl).trans (if_neg (not_not.mpr h1)))))

variable (h2 : (spdmOf via s).session = 2)

include h2

theorem endSession_completes : Completes (.endSession via) s (fun t => Said (.spdm via .endSessionAck) s t ∧ (spdmOf via t).session = 0) :=
  completes_mono (fun _ h => ⟨h.1, congrArg Spdm.session h.2⟩)
    (saidSet_completes (x := { spdmOf via s with session := 0 }) (congrArg (goesOn s) ((spdmServe_of_ready hready rfl).trans
      (spdmIn_of_established (fun s => spdmSay via .endSessionAck (setSpdm via { spdmOf via s with session := 0 } s)) h2))))

theorem heartbeatSpdm_completes : Completes (.heartbeatSpdm via) s (fun t => Said (.spdm via .heartbeatAck) s t ∧ t.spdm = s.spdm) :=
  said_completes (congrArg (goesOn s) ((spdmServe_of_ready hready rfl).trans (spdmIn_of_established _ h2)))

theorem keyUpdate_completes : Completes (.keyUpdate via) s (fun t => Said (.spdm via .keyUpdateAck) s t ∧ t.spdm = s.spdm) :=
  said_completes (congrArg (goesOn s) ((spdmServe_of_ready hready rfl).trans (spdmIn_of_established _ h2)))

end Ready

end Sys2Proof.Machine

namespace Sys2Proof
open Machine

/-- Settles O22: IDCODE around its open bits, the boundary register bit by bit, the instructions that take the pins by PERST#, and the debug
halt by the life-cycle state. -/
theorem tapInstructions : Obligations.TapInstructions :=
  ⟨fun _ => ⟨_, rfl, rfl⟩, idcode_completes, samplePreload_completes, fun _ => tapPins_completes rfl, fun _ => tapPins_completes rfl,
   fun _ => tapPins_completes rfl, fun _ => tapPins_completes rfl, fun _ => tapPins_completes rfl,
   fun _ k hopen => jtagDebugHalt_completes_open k hopen, fun _ k hshut => jtagDebugHalt_completes_shut k hshut⟩

/-- Settles O20: the first three requests by the phase they need, the others of a responder that is ready. -/
theorem spdmServed : Obligations.SpdmServed :=
  ⟨fun _ _ hup => saidSet_completes (congrArg (goesOn _) (spdmServe_getVersion hup)),
   fun _ _ hup hphase => saidSet_completes (congrArg (goesOn _) (spdmServe_getCapabilities hup hphase)),
   fun _ _ hup hphase => saidSet_completes (congrArg (goesOn _) (spdmServe_negotiate hup hphase)),
   fun _ _ _ _ hup hphase => said_completes (congrArg (goesOn _) (spdmServe_negotiate_early _ _ hup hphase)),
   fun _ _ hready => said_completes (congrArg (goesOn _) (spdmServe_of_ready hready rfl)),
   fun _ _ off len hready => getCertificate_completes hready off len,
   fun _ _ nonce hready => challenge_completes nonce hready,
   fun _ _ _ signed nonce hready hi =>
    said_completes (congrArg (goesOn _) ((spdmServe_of_ready hready rfl).trans (spdmMeasure_one signed nonce hi _))),
   fun _ _ _ signed nonce hready h7 h255 =>
    said_completes (congrArg (goesOn _) ((spdmServe_of_ready hready rfl).trans (spdmMeasure_invalid signed nonce h7 h255 _))),
   fun _ _ dhe hready => keyExchange_completes dhe hready,
   fun _ _ hready h1 => finish_completes hready h1,
   fun _ _ hready h2 => endSession_completes hready h2,
   fun _ _ hready h2 => heartbeatSpdm_completes hready h2,
   fun _ _ hready h2 => keyUpdate_completes hready h2⟩

end Sys2Proof

/-! SUPPORT. Management requests, the records of the Vault as its buffer holds them, and the firmware update (R424, R439, R441 to R445). -/

namespace Sys2Proof.Machine

variable {fs : List Fld} {ps : List Piece} {s t : State}

/-! ### Writes that wait in the Vault's buffer (R424) -/

/-- The writes that `vaultRun` buffers: a list of words from a word up. -/
def runWrites (at_ : Nat) : List Nat → List VaultWrite
  | [] => []
  | w :: r => ⟨at_, w % 2 ^ 64, 0, false⟩ :: runWrites (at_ + 1) r

theorem length_runWrites (at_ : Nat) (l : List Nat) : (runWrites at_ l).length = l.length := by
  induction l generalizing at_ with
  | nil => rfl
  | cons w r ih => exact congrArg Nat.succ (ih (at_ + 1))

theorem vbuf_vaultRun (at_ : Nat) (l : List Nat) (s : State) : (vaultRun at_ l s).vbuf = s.vbuf ++ runWrites at_ l := by
  induction l generalizing at_ s with
  | nil => exact (List.append_nil _).symm
  | cons w r ih =>
    show (vaultRun (at_ + 1) r (vaultPutFor 0 false at_ w s)).vbuf = _
    rw [ih]
    exact List.append_assoc _ _ _

theorem regsExcept_vaultPutFor {pkt w v : Nat} {reset : Bool} (h : SEC_VAULT_STAT_PENDING ∈ fs) :
    RegsExcept fs s (vaultPutFor pkt reset w v t) ↔ RegsExcept fs s t := regsExcept_setF _ h

theorem frame_vaultPutFor {pkt w v : Nat} {reset : Bool} (h : .power ∈ ps) : Frame ps s (vaultPutFor pkt reset w v t) ↔ Frame ps s t :=
  frame_congr .power (fun g hg => by cases g with | power => exact absurd rfl hg | _ => exact Iff.rfl) h

theorem regsExcept_vaultRun (h : SEC_VAULT_STAT_PENDING ∈ fs) (at_ : Nat) (l : List Nat) (t : State) :
    RegsExcept fs s (vaultRun at_ l t) ↔ RegsExcept fs s t := by
  induction l generalizing at_ t with
  | nil => exact Iff.rfl
  | cons w r ih => exact (ih (at_ + 1) _).trans (regsExcept_vaultPutFor h)

theorem frame_vaultRun (h : .power ∈ ps) (at_ : Nat) (l : List Nat) (t : State) : Frame ps s (vaultRun at_ l t) ↔ Frame ps s t := by
  induction l generalizing at_ t with
  | nil => exact Iff.rfl
  | cons w r ih => exact (ih (at_ + 1) _).trans (frame_vaultPutFor h)

theorem modify_length_append_singleton {α : Type} (f : α → α) (l : List α) (x : α) : (l ++ [x]).modify l.length f = l ++ [f x] := by
  induction l with
  | nil => rfl
  | cons y l ih => exact congrArg (List.cons y) ih

/-- Marking the last buffered write leaves the others. -/
theorem vbuf_vaultLast {l : List VaultWrite} {x : VaultWrite} (pkt : Nat) (reset : Bool) (h : s.vbuf = l ++ [x]) :
    (vaultLast pkt reset s).vbuf = l ++ [{ x with pkt := pkt, reset := reset }] := by
  show s.vbuf.modify (s.vbuf.length - 1) _ = _
  rw [h, List.length_append, List.length_singleton, Nat.add_sub_cancel]
  exact modify_length_append_singleton _ _ _

/-! ### The firmware record (R412) -/

/-- The words of a copy of the firmware record: its generation is in the third, and its CRC is the fourth. -/
theorem recWords_three (first gen a b c : Nat) : ∃ c' crc, recWords first gen [a, b, c] = [a, b, c', crc] := ⟨_, _, rfl⟩

/-- Both copies of the firmware record wait in the Vault's buffer, each with its fields in its first word. -/
theorem vbuf_putFw (bank new : Nat) (pend commit : Bool) (minSvn : Nat) (s : State) :
    ∃ gen crc, (putFw bank new pend commit minSvn s).vbuf = s.vbuf ++
      (runWrites 16 [bank % 2 + new % 2 * 2 + b2n pend * 4 + b2n commit * 8, minSvn % 2 ^ 32, gen, crc] ++
       runWrites 20 [bank % 2 + new % 2 * 2 + b2n pend * 4 + b2n commit * 8, minSvn % 2 ^ 32, gen, crc]) := by
  obtain ⟨gen, crc, hwords⟩ := recWords_three 16 (recNow 16 4 2 s % 2 ^ 32 + 1) (bank % 2 + new % 2 * 2 + b2n pend * 4 + b2n commit * 8) (minSvn % 2 ^ 32) 0
  refine ⟨gen, crc, ?_⟩
  rw [putFw, fwWords, putRecord]
  dsimp only [List.length_cons, List.length_nil]
  rw [hwords, vbuf_vaultRun, vbuf_vaultRun, List.append_assoc]
  rfl

/-- The last buffered write of a word is what the Vault now holds there. -/
theorem vaultNow_of_found {l ws : List VaultWrite} {w : Nat} {x : VaultWrite} (h : s.vbuf = l ++ ws)
    (hx : ws.reverse.find? (fun y => decide (y.word = w)) = some x) : vaultNow w s = x.value := by
  rw [vaultNow, h, List.reverse_append, List.find?_append, hx]
  rfl

theorem length_putFw (bank new : Nat) (pend commit : Bool) (minSvn : Nat) (s : State) :
    (putFw bank new pend commit minSvn s).vbuf.length = s.vbuf.length + 8 := by
  obtain ⟨gen, crc, hbuf⟩ := vbuf_putFw bank new pend commit minSvn s
  rw [hbuf, List.length_append, List.length_append, length_runWrites, length_runWrites]
  rfl

theorem vaultNow_putFw (bank new : Nat) (pend commit : Bool) (minSvn : Nat) (s : State) :
    vaultNow 16 (putFw bank new pend commit minSvn s) = bank % 2 + new % 2 * 2 + b2n pend * 4 + b2n commit * 8 := by
  obtain ⟨gen, crc, hbuf⟩ := vbuf_putFw bank new pend commit minSvn s
  have hp : b2n pend < 2 := by cases pend <;> decide
  have hc : b2n commit < 2 := by cases commit <;> decide
  refine (vaultNow_of_found hbuf rfl).trans (Nat.mod_eq_of_lt ?_)
  omega

theorem regsExcept_putFw (h : SEC_VAULT_STAT_PENDING ∈ fs) (bank new : Nat) (pend commit : Bool) (minSvn : Nat) :
    RegsExcept fs s (putFw bank new pend commit minSvn t) ↔ RegsExcept fs s t :=
  (regsExcept_vaultRun h _ _ _).trans (regsExcept_vaultRun h _ _ _)

theorem frame_putFw (h : .power ∈ ps) (bank new : Nat) (pend commit : Bool) (minSvn : Nat) :
    Frame ps s (putFw bank new pend commit minSvn t) ↔ Frame ps s t :=
  (frame_vaultRun h _ _ _).trans (frame_vaultRun h _ _ _)

theorem putFw_toHostState (bank new : Nat) (pend commit : Bool) (minSvn : Nat) (s : State) :
    (putFw bank new pend commit minSvn s).toHostState = s.toHostState :=
  (frame_putFw (ps := [.power]) (by simp) bank new pend commit minSvn).mpr (frame_refl _ s) .host (by decide)

/-- The firmware record with its last write marked: its first word is as it was, and the mark is on the last. -/
theorem putFw_vaultLast (bank new : Nat) (pend commit : Bool) (minSvn pkt : Nat) (reset : Bool) (s : State) :
    vaultNow 16 (vaultLast pkt reset (putFw bank new pend commit minSvn s)) = vaultNow 16 (putFw bank new pend commit minSvn s) ∧
    (vaultLast pkt reset (putFw bank new pend commit minSvn s)).vbuf.getLast?.map VaultWrite.reset = some reset := by
  obtain ⟨gen, crc, hbuf⟩ := vbuf_putFw bank new pend commit minSvn s
  have hlast := vbuf_vaultLast pkt reset (hbuf.trans (List.append_assoc s.vbuf
    (runWrites 16 [bank % 2 + new % 2 * 2 + b2n pend * 4 + b2n commit * 8, minSvn % 2 ^ 32, gen, crc] ++
      runWrites 20 [bank % 2 + new % 2 * 2 + b2n pend * 4 + b2n commit * 8, minSvn % 2 ^ 32, gen]) [⟨23, crc % 2 ^ 64, 0, false⟩]).symm)
  refine ⟨?_, ?_⟩
  · exact (vaultNow_of_found (hlast.trans (List.append_assoc _ _ _)) rfl).trans (vaultNow_of_found hbuf rfl).symm
  · rw [hlast, List.getLast?_append]
    rfl

/-! ### Management messages and IDE (R439, R441 to R443) -/

theorem frame_sendMgmt (m : MgmtMsg) (h : .host ∈ ps) : Frame ps s (sendMgmt m t) ↔ Frame ps s t := frame_withHost _ h

theorem vbuf_sendMgmt (m : MgmtMsg) (s : State) : (sendMgmt m s).vbuf = s.vbuf := rfl

theorem vaultNow_sendMgmt (w : Nat) (m : MgmtMsg) (s : State) : vaultNow w (sendMgmt m s) = vaultNow w s := rfl

theorem regsExcept_sendMgmt (m : MgmtMsg) : RegsExcept fs s (sendMgmt m t) ↔ RegsExcept fs s t := Iff.rfl

theorem doeRequest_discovery_completes {i len : Nat} (hup : spdmUp s = true) (hlen : len ≤ 65536) :
    Completes (.doeRequest 0 len (.discovery i)) s (fun t =>
      t.mgmtOut = .discovery Config.doeVendor i (if i < 2 then i + 1 else 0) :: s.mgmtOut ∧ RegsExcept [] s t ∧ Frame [.host] s t) := by
  have hexec : exec (.doeRequest 0 len (.discovery i)) s = goesOn s (sendMgmt (.discovery Config.doeVendor i (if i < 2 then i + 1 else 0)) s) := by
    show execDoeRequest 0 len (.discovery i) s = _
    rw [execDoeRequest, if_neg (by simp [hlen])]
    exact congrArg (goesOn s) (if_pos hup)
  exact completes_of_goesOn hexec (fun _ _ h => h) ⟨rfl, regsExcept_refl _ s, frame_host _ s⟩

theorem doeRequest_ideKeySet_completes {n len : Nat} (hup : spdmUp s = true) (hsession : (spdmOf 2 s).session = 2) (hlen : len ≤ 65536) :
    Completes (.doeRequest 0 len (.secured (.ideKeySet n))) s (fun t =>
      t.mgmtOut = .ideKeyed n :: s.mgmtOut ∧ lookup n t.insecure = none ∧ RegsExcept [] s t ∧ Frame [.host] s t) := by
  have hexec : exec (.doeRequest 0 len (.secured (.ideKeySet n))) s = goesOn s (sendMgmt (.ideKeyed n) (ideKey n s)) := by
    show execDoeRequest 0 len (.secured (.ideKeySet n)) s = _
    rw [execDoeRequest, if_neg (by simp [hlen])]
    exact congrArg (goesOn s) ((if_pos hup).trans (spdmIn_of_established (fun s => sendMgmt (.ideKeyed n) (ideKey n s)) hsession))
  exact completes_of_goesOn hexec (fun _ _ h => h) ⟨rfl, lookup_put_same n none s.insecure, regsExcept_refl _ s, frame_host _ s⟩

/-- The traffic of a function on an Insecure stream neither masters the bus nor reaches the device. -/
theorem streamOut_of_lookup {n f : Nat} {l : List Nat} (h : lookup n s.insecure = some l) (hf : f ∈ l) : streamOut f s = true :=
  List.any_eq_true.mpr ⟨_, mem_of_lookup h, decide_eq_true hf⟩

theorem ideCheckFail_completes (stream : Fin 9) (fns : List Nat) (s : State) :
    Completes (.ideCheckFail stream fns) s (fun t =>
      lookup stream.val t.insecure = some fns ∧ flagF DEV_HOSTERR_IDE t = true ∧ (∀ f ∈ fns, mayMaster f t = false ∧ hostUp f t = false) ∧
      RegsExcept (DEV_HOSTERR_IDE :: vecRegs) s t ∧ Frame (.host :: vecPieces) s t) := by
  have hsame := (frame_hostErr (e := DEV_HOSTERR_IDE) (f := fns.headD 0) (ps := vecPieces) (by simp [vecPieces]) (by simp [vecPieces])).mpr
    (frame_refl vecPieces { s with insecure := put stream.val (some fns) s.insecure }) .host (by decide)
  have hlookup : lookup stream.val (hostErr DEV_HOSTERR_IDE (fns.headD 0) { s with insecure := put stream.val (some fns) s.insecure }).insecure = some fns :=
    (congrArg (fun h : HostState => lookup stream.val h.insecure) hsame).trans (lookup_put_same stream.val (some fns) s.insecure)
  refine completes_of_goesOn rfl (fun _ _ h => h) ⟨hlookup, flagF_hostErr (by decide) (by decide) (by decide) _, fun f hf => ?_, ?_, ?_⟩
  · have hout := streamOut_of_lookup hlookup hf
    exact ⟨by rw [mayMaster, hout, Bool.not_true, Bool.and_false], by rw [hostUp, hout, Bool.not_true, Bool.and_false]⟩
  · exact (regsExcept_hostErr (by simp) (by simp [vecRegs]) (by simp [vecRegs])).mpr (regsExcept_refl _ s)
  · rw [frame_hostErr (by simp [vecPieces]) (by simp [vecPieces])]
    exact (frame_withHost _ (by simp)).mpr (frame_refl _ s)

theorem mctp_setEid_completes {via : Fin 2} {e : Byte} (hreset : inReset s = false) (hready : flagF DEV_STAT_READY s = true) :
    Completes (.mctpMessage via (.setEid e)) s (fun t =>
      getF (eidF via) t = e.toNat ∧ t.mgmtOut = .endpoint via e.toNat :: s.mgmtOut ∧ RegsExcept [eidF via] s t ∧ Frame [.host] s t) := by
  have hexec : exec (.mctpMessage via (.setEid e)) s = goesOn s (sendMgmt (.endpoint via e.toNat) (setF (eidF via) e.toNat s)) := by
    show execMctpMessage via (.setEid e) s = _
    rw [execMctpMessage, if_neg (by simp [hreset, hready])]
  have hwidth : (eidF via).width = 8 := by unfold eidF; split <;> rfl
  refine completes_of_goesOn hexec (fun _ _ h => h) ⟨?_, rfl, ?_, ?_⟩
  · refine (getF_setF_same _ _ _).trans (Nat.mod_eq_of_lt ?_)
    rw [hwidth]
    exact e.isLt
  · exact (regsExcept_setF _ (by simp)).mpr (regsExcept_refl _ s)
  · rw [frame_sendMgmt _ (by simp), frame_setF]
    exact frame_refl _ s

theorem mctp_other_completes (via : Fin 2) (n : Nat) (s : State) : Completes (.mctpMessage via (.other n)) s (fun t => t = s) := by
  refine ⟨s, ?_, rfl⟩
  show execMctpMessage via (.other n) s = _
  unfold execMctpMessage
  split <;> rfl

/-! ### PLDM (R443, R444) -/

/-- A device that runs with its Supervisor alive serves PLDM. -/
structure PldmUp (s : State) : Prop where
  runs : recovering s = false
  ready : flagF DEV_STAT_READY s = true
  alive : bitAt 9 (getF FLT_HEART_ALIVE s) = true

theorem PldmUp.serve_setEventReceiver (h : PldmUp s) (via eid : Nat) :
    pldmServe via (.setEventReceiver eid) s = sendMgmt (.pldmOk via) { s with evtRecv := some (via, eid) } := by
  unfold pldmServe
  rw [h.runs, h.ready, h.alive]
  rfl

theorem PldmUp.serve_requestUpdate (h : PldmUp s) (via len : Nat) : pldmServe via (.requestUpdate len) s = requestUpdate via len s := by
  unfold pldmServe
  rw [h.runs, h.ready, h.alive]
  rfl

theorem PldmUp.serve_activate (h : PldmUp s) (via : Nat) : pldmServe via .activate s = activateUpdate via s := by
  unfold pldmServe
  rw [h.runs, h.ready, h.alive]
  rfl

theorem setEventReceiver_completes {via : Fin 2} {eid : Byte} (hup : PldmUp s) :
    Completes (.setEventReceiver via eid) s (fun t =>
      t.evtRecv = some (via.val, eid.toNat) ∧ t.mgmtOut = .pldmOk via :: s.mgmtOut ∧ RegsExcept [] s t ∧ Frame [.host] s t) :=
  completes_of_goesOn (congrArg (goesOn s) (hup.serve_setEventReceiver via eid.toNat)) (fun _ _ h => h) ⟨rfl, rfl, regsExcept_refl _ s, frame_host _ s⟩

theorem requestUpdate_completes {via : Fin 2} {len : Nat} (hup : PldmUp s) (hret : retired s = false)
    (hfree : ∀ q ∈ s.accepted, q.opcode < 0x0801 ∨ 0x0803 < q.opcode) (hidle : s.upd.mode = .idle) :
    Completes (.requestUpdate via len) s (fun t =>
      t.upd = ⟨.transfer, len, 0, []⟩ ∧ t.mgmtOut = .wantData 0 (min len 4096) :: .pldmOk via :: s.mgmtOut ∧ RegsExcept [] s t ∧ Frame [.host] s t) := by
  have hnone : s.accepted.any (fun q => decide (0x0801 ≤ q.opcode) && decide (q.opcode ≤ 0x0803)) = false := by
    rw [List.any_eq_false]
    intro q hq
    have := hfree q hq
    simp
    omega
  have hexec : exec (.requestUpdate via len) s =
      goesOn s (sendMgmt (.wantData 0 (min len 4096)) (sendMgmt (.pldmOk via) { s with upd := ⟨.transfer, len, 0, []⟩ })) := by
    refine congrArg (goesOn s) ((hup.serve_requestUpdate via len).trans ?_)
    rw [requestUpdate, hret, hnone, if_neg (by decide), if_neg (by decide), if_neg (by simp [hidle])]
  exact completes_of_goesOn hexec (fun _ _ h => h) ⟨rfl, rfl, regsExcept_refl _ s, frame_host _ s⟩

/-! ### The firmware update (R444) -/

theorem exec_requestFirmwareData {data : List Byte} (hmode : s.upd.mode = .transfer) :
    exec (.requestFirmwareData data) s = goesOn s (
      let l := data.take (s.upd.len - s.upd.got)
      let v : Update := { s.upd with got := s.upd.got + l.length, buf := writeBytes s.upd.got l s.upd.buf }
      if s.upd.len ≤ s.upd.got + l.length then sendMgmt .transferComplete { s with upd := { v with mode := .verify } }
      else sendMgmt (.wantData (s.upd.got + l.length) (min (s.upd.len - (s.upd.got + l.length)) 4096)) { s with upd := v }) :=
  congrArg (goesOn s) (if_neg (not_not.mpr hmode))

theorem sameOutside_writeBytes (a : Nat) (l : List Byte) (m : Memory) : SameOutside a l.length m (writeBytes a l m) :=
  fun x hx => readByte_writeBytes_out a x l m hx

theorem requestFirmwareData_completes_more {data : List Byte} (hmode : s.upd.mode = .transfer) (hmore : s.upd.got + data.length < s.upd.len) :
    Completes (.requestFirmwareData data) s (fun t =>
      t.upd.mode = .transfer ∧ t.upd.got = s.upd.got + data.length ∧ readBytes t.upd.buf s.upd.got data.length = data ∧
      SameOutside s.upd.got data.length s.upd.buf t.upd.buf ∧
      t.mgmtOut = .wantData (s.upd.got + data.length) (min (s.upd.len - (s.upd.got + data.length)) 4096) :: s.mgmtOut ∧
      RegsExcept [] s t ∧ Frame [.host] s t) := by
  have hexec := exec_requestFirmwareData (data := data) hmode
  dsimp only at hexec
  rw [List.take_of_length_le (by omega), if_neg (Nat.not_le.mpr hmore)] at hexec
  exact completes_of_goesOn hexec (fun _ _ h => h)
    ⟨hmode, rfl, readBytes_writeBytes_same _ _ _, sameOutside_writeBytes _ _ _, rfl, regsExcept_refl _ s, frame_host _ s⟩

theorem requestFirmwareData_completes_last {data : List Byte} (hmode : s.upd.mode = .transfer) (hlast : s.upd.len ≤ s.upd.got + data.length)
    (hgot : s.upd.got ≤ s.upd.len) :
    Completes (.requestFirmwareData data) s (fun t =>
      t.upd.mode = .verify ∧ t.upd.got = s.upd.len ∧ t.mgmtOut = .transferComplete :: s.mgmtOut ∧ RegsExcept [] s t ∧ Frame [.host] s t) := by
  have hlen : s.upd.got + (data.take (s.upd.len - s.upd.got)).length = s.upd.len := by rw [List.length_take]; omega
  have hexec := exec_requestFirmwareData (data := data) hmode
  dsimp only at hexec
  rw [hlen, if_pos (Nat.le_refl _)] at hexec
  exact completes_of_goesOn hexec (fun _ _ h => h) ⟨rfl, rfl, rfl, regsExcept_refl _ s, frame_host _ s⟩

theorem flagF_authFailed (s : State) : flagF SEC_STAT_AUTH_FAIL (authFailed s) = true := flagF_event (by decide) (by decide) _

theorem authFailed_toHostState (s : State) : (authFailed s).toHostState = s.toHostState :=
  (frame_event (ps := vecPieces) (by simp [vecPieces]) (by simp [vecPieces])).mpr
    ((frame_tally (ps := vecPieces) _ _ _ (by simp [vecPieces])).mpr (frame_refl _ s)) .host (by decide)

theorem exec_verifyComplete_valid (hmode : s.upd.mode = .verify) (hvalid : imageReason (updImage s) s = 0) :
    exec .verifyComplete s = goesOn s (sendMgmt (.verifyComplete 0) { s with upd := { s.upd with mode := .apply } }) := by
  show execVerifyComplete s = _
  rw [execVerifyComplete, if_neg (not_not.mpr hmode), hvalid]
  rfl

theorem exec_verifyComplete_invalid (hmode : s.upd.mode = .verify) (hinvalid : imageReason (updImage s) s ≠ 0) :
    exec .verifyComplete s =
      goesOn s (sendMgmt (.verifyComplete (imageReason (updImage s) s)) (authFailed { s with upd := ⟨.idle, 0, 0, []⟩ })) := by
  obtain ⟨r, hr⟩ := Nat.exists_eq_succ_of_ne_zero hinvalid
  show execVerifyComplete s = _
  rw [execVerifyComplete, if_neg (not_not.mpr hmode), hr]
  rfl

theorem verifyComplete_completes (hmode : s.upd.mode = .verify) :
    Completes .verifyComplete s (fun t =>
      t.mgmtOut = .verifyComplete (imageReason (updImage s) s) :: s.mgmtOut ∧
      (imageReason (updImage s) s = 0 → t.upd = { s.upd with mode := .apply } ∧ RegsExcept [] s t) ∧
      (imageReason (updImage s) s ≠ 0 → t.upd.mode = .idle ∧ flagF SEC_STAT_AUTH_FAIL t = true) ∧ t.flash = s.flash) := by
  by_cases hreason : imageReason (updImage s) s = 0
  · refine completes_of_goesOn (exec_verifyComplete_valid hmode hreason) (fun _ _ h => h) ⟨?_, fun _ => ⟨rfl, regsExcept_refl _ s⟩, fun h => absurd hreason h, rfl⟩
    rw [hreason]
    rfl
  · have hhost := authFailed_toHostState { s with upd := ⟨.idle, 0, 0, []⟩ }
    exact completes_of_goesOn (exec_verifyComplete_invalid hmode hreason) (fun _ _ h => h)
      ⟨(congrArg (fun h : HostState => MgmtMsg.verifyComplete (imageReason (updImage s) s) :: h.mgmtOut) hhost :), fun h => absurd h hreason,
        fun _ => ⟨(congrArg (fun h : HostState => h.upd.mode) hhost :), flagF_authFailed _⟩, (congrArg HostState.flash hhost :)⟩

theorem readBytes_flash_writeBank (bank : Nat) (u s : State) : readBytes (writeBank bank (updImage u) s).flash (bank * 2 ^ 28) u.upd.len = updImage u :=
  readBytes_writeBytes_of_length (readBytes_length _ _ _)

theorem sameOutside_flash_writeBank (bank : Nat) (u s : State) :
    SameOutside (bank * 2 ^ 28) u.upd.len s.flash (writeBank bank (updImage u) s).flash := by
  have h := sameOutside_writeBytes (bank * 2 ^ 28) (updImage u) s.flash
  rw [updImage, readBytes_length] at h
  exact h

theorem exec_applyComplete {readback : Bool} (hmode : s.upd.mode = .apply) (hruns : recovering s = false) :
    exec (.applyComplete readback) s = goesOn s (if readback then
      sendMgmt (.applyComplete true) { writeBank (1 - fwBank s) (updImage s) s with upd := { s.upd with mode := .ready } }
      else sendMgmt (.applyComplete false) { writeBank (1 - fwBank s) (updImage s) s with upd := ⟨.idle, 0, 0, []⟩ }) :=
  congrArg (goesOn s) (if_neg (by simp [hmode, hruns]))

theorem fwBank_lt (s : State) : fwBank s < 2 := Nat.mod_lt _ Nat.two_pos

theorem activateFirmware_completes {via : Fin 2} (hup : PldmUp s) (hmode : s.upd.mode = .ready) :
    Completes (.activateFirmware via) s (fun t =>
      t.upd = ⟨.idle, 0, 0, []⟩ ∧ t.mgmtOut = .pldmOk via :: s.mgmtOut ∧ t.vbuf.length = s.vbuf.length + 8 ∧
      vaultNow 16 t = fwBank s + 2 * (1 - fwBank s) + 4 ∧ RegsExcept [SEC_VAULT_STAT_PENDING] s t ∧ Frame [.host, .power] s t) := by
  have hexec : exec (.activateFirmware via) s =
      goesOn s (sendMgmt (.pldmOk via) (putFw (fwBank s) (1 - fwBank s) true false (fwMinSvn s) { s with upd := ⟨.idle, 0, 0, []⟩ })) :=
    congrArg (goesOn s) ((hup.serve_activate via).trans (if_pos hmode))
  have hhost := putFw_toHostState (fwBank s) (1 - fwBank s) true false (fwMinSvn s) { s with upd := ⟨.idle, 0, 0, []⟩ }
  refine completes_of_goesOn hexec (fun _ _ h => h)
    ⟨(congrArg HostState.upd hhost :), (congrArg (fun h : HostState => MgmtMsg.pldmOk via :: h.mgmtOut) hhost :), ?_, ?_, ?_, ?_⟩
  · rw [vbuf_sendMgmt, length_putFw]
  · rw [vaultNow_sendMgmt, vaultNow_putFw]
    have := fwBank_lt s
    rw [show b2n true = 1 from rfl, show b2n false = 0 from rfl]
    omega
  · rw [regsExcept_sendMgmt, regsExcept_putFw (by simp)]
    exact regsExcept_refl _ s
  · rw [frame_sendMgmt _ (by simp), frame_putFw (by simp)]
    exact (frame_withHost _ (by simp)).mpr (frame_refl _ s)

/-! ### The recovery update (R445) -/

/-- The checked image is in bank 0, and no update is in hand. -/
def recovered (s : State) : State := { writeBank 0 (updImage s) s with upd := ⟨.idle, 0, 0, []⟩ }

theorem recoveryUpdate_completes (hrec : recovering s = true) (hmode : s.upd.mode = .apply) :
    Completes (.recoveryUpdate true) s (fun t =>
      readBytes t.flash 0 s.upd.len = updImage s ∧ SameOutside 0 s.upd.len s.flash t.flash ∧ t.upd.mode = .idle ∧
      t.mgmtOut = .applyComplete true :: s.mgmtOut ∧ t.vbuf.getLast?.map (fun w => w.reset) = some true ∧ vaultNow 16 t = 0) := by
  have hexec : exec (.recoveryUpdate true) s =
      goesOn s (sendMgmt (.applyComplete true) (vaultLast 0 true (putFw 0 0 false false (fwMinSvn (recovered s)) (recovered s)))) :=
    congrArg (goesOn s) (if_neg (by simp [hrec, hmode]))
  have hhost := putFw_toHostState 0 0 false false (fwMinSvn (recovered s)) (recovered s)
  have hflash := congrArg HostState.flash hhost
  obtain ⟨hword, hreset⟩ := putFw_vaultLast 0 0 false false (fwMinSvn (recovered s)) 0 true (recovered s)
  refine completes_of_goesOn hexec (fun _ _ h => h) ⟨?_, ?_, (congrArg (fun h : HostState => h.upd.mode) hhost :),
    (congrArg (fun h : HostState => MgmtMsg.applyComplete true :: h.mgmtOut) hhost :), hreset, ?_⟩
  · exact (congrArg (readBytes · 0 s.upd.len) hflash).trans (readBytes_flash_writeBank 0 s s)
  · have h := sameOutside_flash_writeBank 0 s s
    rw [Nat.zero_mul] at h
    exact (congrArg (SameOutside 0 s.upd.len s.flash) hflash).mpr h
  · exact hword.trans (vaultNow_putFw _ _ _ _ _ _)

end Sys2Proof.Machine

namespace Sys2Proof
open Machine

/-- Settles O21: the data objects of the DOE mailbox, the IDE check, MCTP's and PLDM's requests, the update by its mode, and the recovery
update. -/
theorem managementServed : Obligations.ManagementServed :=
  ⟨fun _ _ _ hup hlen => doeRequest_discovery_completes hup hlen,
   fun _ _ _ hup hsession hlen => doeRequest_ideKeySet_completes hup hsession hlen,
   fun s _ _ _ h => ⟨s, congrArg (goesOn s) (if_pos h), rfl⟩,
   fun s stream fns => ideCheckFail_completes stream fns s,
   fun _ _ _ hreset hready => mctp_setEid_completes hreset hready,
   fun s via n => mctp_other_completes via n s,
   fun _ _ _ hruns hready halive => setEventReceiver_completes ⟨hruns, hready, halive⟩,
   fun _ _ _ hruns hready halive hret hfree hidle => requestUpdate_completes ⟨hruns, hready, halive⟩ hret hfree hidle,
   fun _ _ hmode hmore => requestFirmwareData_completes_more hmode hmore,
   fun _ _ hmode hlast hgot => requestFirmwareData_completes_last hmode hlast hgot,
   fun _ hmode => verifyComplete_completes hmode,
   fun s hmode hruns => completes_of_goesOn (exec_applyComplete hmode hruns) (fun _ _ h => h)
    ⟨readBytes_flash_writeBank _ s s, sameOutside_flash_writeBank _ s s, rfl, rfl, regsExcept_refl _ s, frame_host _ s⟩,
   fun s hmode hruns => completes_of_goesOn (exec_applyComplete hmode hruns) (fun _ _ h => h) ⟨rfl, rfl, regsExcept_refl _ s, frame_host _ s⟩,
   fun _ _ hruns hready halive hmode => activateFirmware_completes ⟨hruns, hready, halive⟩ hmode,
   fun _ hrec hmode => recoveryUpdate_completes hrec hmode⟩

end Sys2Proof

/-! SUPPORT. The bring-up sequence, the Supervisor's start and what becomes persistent (R411, R424, R451, R454). -/

namespace Sys2Proof.Machine

variable {fs : List Fld} {ps : List Piece} {s t : State}

/-! ### A step that ends, or halts the sequence (R451) -/

theorem regsExcept_stepEnded (n : Nat) (h : DEV_BOOT_PHASE ∈ fs) : RegsExcept fs s (stepEnded n t) ↔ RegsExcept fs s t := by
  unfold stepEnded
  dsimp only
  rw [regsExcept_setF _ h]
  split <;> exact Iff.rfl

theorem frame_stepEnded (n : Nat) (h : .host ∈ ps) : Frame ps s (stepEnded n t) ↔ Frame ps s t := by
  unfold stepEnded
  dsimp only
  rw [frame_setF]
  split
  · exact frame_withHost _ h
  · exact frame_withHost _ h

theorem getF_stepEnded (n : Nat) {f : Fld} (hf : f.key ≠ DEV_BOOT_PHASE.key) (s : State) : getF f (stepEnded n s) = getF f s :=
  (regsExcept_stepEnded n (List.mem_singleton_self _)).mpr (regsExcept_refl _ s) f (by simpa using hf)

theorem bootDone_stepEnded (n : Nat) (s : State) : (stepEnded n s).bootDone = n :: s.bootDone := by
  unfold stepEnded
  dsimp only
  split <;> rfl

/-- The Supervisor's release is timed from the step that brings it. -/
theorem supAt_stepEnded (n : Nat) (s : State) :
    (stepEnded n s).supAt = if released { s with bootDone := n :: s.bootDone } ∧ !released s then s.now else s.supAt := by
  unfold stepEnded
  dsimp only
  split <;> rfl

theorem regsExcept_vaultPut {w v : Nat} (h : SEC_VAULT_STAT_PENDING ∈ fs) : RegsExcept fs s (vaultPut w v t) ↔ RegsExcept fs s t := by
  unfold vaultPut
  split
  · exact Iff.rfl
  · exact regsExcept_vaultPutFor h

theorem frame_vaultPut {w v : Nat} (h : .power ∈ ps) : Frame ps s (vaultPut w v t) ↔ Frame ps s t := by
  unfold vaultPut
  split
  · exact Iff.rfl
  · exact frame_vaultPutFor h

/-- A word that is put is what the Vault now holds, whether it held it already or not. -/
theorem vaultNow_vaultPut (w v : Nat) (s : State) : vaultNow w (vaultPut w v s) = v % 2 ^ 64 := by
  unfold vaultPut
  split
  · assumption
  · exact vaultNow_of_found (s := vaultPutFor 0 false w v s) (x := ⟨w, v % 2 ^ 64, 0, false⟩) rfl (by simp)

theorem getF_vaultPut {f : Fld} (hf : f.key ≠ SEC_VAULT_STAT_PENDING.key) (w v : Nat) (s : State) : getF f (vaultPut w v s) = getF f s :=
  (regsExcept_vaultPut (List.mem_singleton_self _)).mpr (regsExcept_refl _ s) f (by simpa using hf)

theorem getF_historyAdd {f : Fld} (hf : f.key ≠ SEC_VAULT_STAT_PENDING.key) (b : List Byte) (s : State) : getF f (historyAdd b s) = getF f s := by
  unfold historyAdd
  dsimp only
  rw [getF_vaultPut hf, getF_vaultPut hf]
  rfl

theorem historyAdd_toHostState (b : List Byte) (s : State) : (historyAdd b s).toHostState = s.toHostState :=
  (frame_vaultPut (ps := [.power]) (by simp)).mpr ((frame_vaultPut (ps := [.power]) (by simp)).mpr (frame_refl _ { s with histNext := s.histNext + 1 }))
    .host (by decide)

section Halt

variable (ph cause unit : Nat) (s : State)

theorem fail_bootHalt : getF DEV_BOOT_FAIL (bootHalt ph cause unit s) = 1 := by
  unfold bootHalt
  dsimp only
  rw [getF_historyAdd (by decide), getF_setF_ne _ _ (by decide), getF_setF_ne _ _ (by decide), getF_setF_ne _ _ (by decide), getF_setF_same]
  rfl

theorem phase_bootHalt : getF DEV_BOOT_PHASE (bootHalt ph cause unit s) = ph % 2 ^ 4 := by
  unfold bootHalt
  dsimp only
  rw [getF_historyAdd (by decide), getF_setF_ne _ _ (by decide), getF_setF_ne _ _ (by decide), getF_setF_ne _ _ (by decide), getF_setF_ne _ _ (by decide),
    getF_setF_same]
  rfl

theorem cause_bootHalt : getF DEV_BOOT_CAUSE (bootHalt ph cause unit s) = cause % 2 ^ 4 := by
  unfold bootHalt
  dsimp only
  rw [getF_historyAdd (by decide), getF_setF_ne _ _ (by decide), getF_setF_ne _ _ (by decide), getF_setF_same]
  rfl

variable {ph cause unit s}

theorem getF_bootHalt {f : Fld} (hf : ∀ g ∈ [SEC_VAULT_STAT_PENDING, DEV_BOOT_ELAPSED, DEV_BOOT_UNIT, DEV_BOOT_CAUSE, DEV_BOOT_FAIL, DEV_BOOT_PHASE],
    f.key ≠ g.key) : getF f (bootHalt ph cause unit s) = getF f s := by
  simp only [List.forall_mem_cons] at hf
  obtain ⟨hvault, helapsed, hunit, hcause, hfail, hphase, -⟩ := hf
  unfold bootHalt
  dsimp only
  rw [getF_historyAdd hvault, getF_setF_ne _ _ helapsed, getF_setF_ne _ _ hunit, getF_setF_ne _ _ hcause, getF_setF_ne _ _ hfail, getF_setF_ne _ _ hphase]

theorem bootHalt_toHostState : (bootHalt ph cause unit s).toHostState = s.toHostState := historyAdd_toHostState _ _

end Halt

/-! ### The steps of the sequence (R451) -/

theorem linkEnd_completes {speed width : Nat} {flit : Bool} (hruns : stepRuns 2 [] s = true) :
    Completes (.bringUpStepEnd (.link speed width flit)) s (fun t =>
      getF DEV_LINK_SPEED t = speed % 2 ^ DEV_LINK_SPEED.width ∧ getF DEV_LINK_WIDTH t = width % 2 ^ DEV_LINK_WIDTH.width ∧ getF DEV_LINK_FLIT t = b2n flit ∧
      t.bootDone = 2 :: s.bootDone ∧ RegsExcept [DEV_LINK_SPEED, DEV_LINK_WIDTH, DEV_LINK_FLIT, DEV_BOOT_PHASE] s t ∧ Frame [.host] s t) := by
  have hexec : exec (.bringUpStepEnd (.link speed width flit)) s =
      goesOn s (stepEnded 2 (setF DEV_LINK_FLIT (b2n flit) (setF DEV_LINK_WIDTH width (setF DEV_LINK_SPEED speed s)))) := congrArg (goesOn s) (if_pos hruns)
  refine completes_of_goesOn hexec (fun _ _ h => h) ⟨?_, ?_, ?_, bootDone_stepEnded _ _, ?_, ?_⟩
  · rw [getF_stepEnded _ (by decide), getF_setF_ne _ _ (by decide), getF_setF_ne _ _ (by decide), getF_setF_same]
  · rw [getF_stepEnded _ (by decide), getF_setF_ne _ _ (by decide), getF_setF_same]
  · rw [getF_stepEnded _ (by decide), getF_setF_same]
    cases flit <;> rfl
  · rw [regsExcept_stepEnded _ (by simp), regsExcept_setF _ (by simp), regsExcept_setF _ (by simp), regsExcept_setF _ (by simp)]
    exact regsExcept_refl _ s
  · rw [frame_stepEnded _ (by simp), frame_setF, frame_setF, frame_setF]
    exact frame_refl _ s

theorem fusesFail_completes {ue : List Nat} (hruns : stepRuns 1 [] s = true) :
    Completes (.bringUpStepEnd (.fuses false ue)) s (fun t =>
      getF DEV_BOOT_FAIL t = 1 ∧ getF DEV_BOOT_PHASE t = 0 ∧ getF DEV_BOOT_CAUSE t = 1 ∧ t.bootDone = s.bootDone) := by
  have hexec : exec (.bringUpStepEnd (.fuses false ue)) s = goesOn s (bootHalt 0 1 0 s) := congrArg (goesOn s) (if_pos hruns)
  exact completes_of_goesOn hexec (fun _ _ h => h)
    ⟨fail_bootHalt 0 1 0 s, phase_bootHalt 0 1 0 s, cause_bootHalt 0 1 0 s, congrArg HostState.bootDone bootHalt_toHostState⟩

theorem bitAt_one_setBit (n : Nat) : bitAt 1 (setBit 1 n % 2 ^ 3) = true := by
  unfold setBit
  split
  next h => simp only [bitAt, decide_eq_true_eq] at h ⊢; omega
  next h => simp only [bitAt, decide_eq_true_eq] at h ⊢; omega

theorem fillT1_completes (hruns : stepRuns 5 [4] s = true) :
    Completes (.bringUpStepEnd .fillT1) s (fun t =>
      bitAt 1 (getF MEMC_FILL_DONE t) = true ∧ t.bootDone = 5 :: s.bootDone ∧
      t.supAt = (if released { s with bootDone := 5 :: s.bootDone } ∧ !released s then s.now else s.supAt) ∧
      RegsExcept [MEMC_FILL_DONE, DEV_BOOT_PHASE] s t ∧ Frame [.host] s t) := by
  have hexec : exec (.bringUpStepEnd .fillT1) s = goesOn s (stepEnded 5 (setF MEMC_FILL_DONE (setBit 1 (getF MEMC_FILL_DONE s)) s)) :=
    congrArg (goesOn s) (if_pos hruns)
  refine completes_of_goesOn hexec (fun _ _ h => h) ⟨?_, bootDone_stepEnded _ _, supAt_stepEnded 5 (setF MEMC_FILL_DONE _ s), ?_, ?_⟩
  · rw [getF_stepEnded _ (by decide), getF_setF_same]
    exact bitAt_one_setBit _
  · rw [regsExcept_stepEnded _ (by simp), regsExcept_setF _ (by simp)]
    exact regsExcept_refl _ s
  · rw [frame_stepEnded _ (by simp), frame_setF]
    exact frame_refl _ s

/-! ### The Supervisor's start (R411, R454) -/

theorem getF_putFw {f : Fld} (hf : f.key ≠ SEC_VAULT_STAT_PENDING.key) (bank new : Nat) (pend commit : Bool) (minSvn : Nat) (s : State) :
    getF f (putFw bank new pend commit minSvn s) = getF f s :=
  (regsExcept_putFw (List.mem_singleton_self _) bank new pend commit minSvn).mpr (regsExcept_refl _ s) f (by simpa using hf)

theorem getF_commitBank {f : Fld} (hf : ∀ g ∈ [SEC_BOOT_PENDING, SEC_SVN_MIN, SEC_VAULT_STAT_PENDING], f.key ≠ g.key) (s : State) :
    getF f (commitBank s) = getF f s := by
  simp only [List.forall_mem_cons] at hf
  obtain ⟨hpend, hsvn, hvault, -⟩ := hf
  unfold commitBank
  split
  · dsimp only
    rw [getF_setF_ne _ _ hpend, getF_setF_ne _ _ hsvn, getF_putFw hvault]
  · rfl

/-- After a bank on trial has been committed none is on trial. -/
theorem pending_commitBank (s : State) : flagF SEC_BOOT_PENDING (commitBank s) = false := by
  unfold commitBank
  split
  next => simp [flagF]
  next h => simpa using h

/-- What the Supervisor has set up when it reports ready. -/
def unitsStarted (s : State) : State := showEscrow (assignSpares (powerUnits (showClusters s)))

/-- The state in which the Supervisor reports ready: it has set up the units and the loader's version shows. -/
def loaderShown (kver : Nat) (s : State) : State :=
  setF SIG_STAT_ACTIVE ((List.range 64).filter (fun n => sigIn n (unitsStarted s))).length (setF SIG_KVER_VERSION kver (unitsStarted s))

theorem version_loaderShown (kver : Nat) (s : State) : getF SIG_KVER_VERSION (loaderShown kver s) = kver % 2 ^ SIG_KVER_VERSION.width := by
  rw [loaderShown, getF_setF_ne _ _ (by decide), getF_setF_same]

/-- The Supervisor's report of a state u, before a bank on trial is committed. -/
def reported (s u : State) : State :=
  setF DEV_BOOT_ELAPSED (bootElapsed s) (setF DEV_BOOT_PHASE 7 (setF DEV_STAT_READY 1 { u with wdogIdx := wdogNow u }))

theorem ready_reported (s u : State) : flagF DEV_STAT_READY (reported s u) = true := by
  rw [flagF, reported, getF_setF_ne _ _ (by decide), getF_setF_ne _ _ (by decide), getF_setF_same]
  decide

theorem phase_reported (s u : State) : getF DEV_BOOT_PHASE (reported s u) = 7 := by
  rw [reported, getF_setF_ne _ _ (by decide), getF_setF_same]
  decide

theorem getF_reported {f : Fld} (hf : ∀ g ∈ [DEV_BOOT_ELAPSED, DEV_BOOT_PHASE, DEV_STAT_READY], f.key ≠ g.key) (s u : State) :
    getF f (reported s u) = getF f u := by
  simp only [List.forall_mem_cons] at hf
  obtain ⟨helapsed, hphase, hready, -⟩ := hf
  rw [reported, getF_setF_ne _ _ helapsed, getF_setF_ne _ _ hphase, getF_setF_ne _ _ hready]
  rfl

theorem supervisorReady_completes {kver : BitVec 32} (hstart : starting s = true) (htime : s.now ≤ s.supAt + 2 * 1536 * 10 ^ 9) :
    Completes (.supervisorReady kver) s (fun t =>
      flagF DEV_STAT_READY t = true ∧ getF DEV_BOOT_PHASE t = 7 ∧ getF SIG_KVER_VERSION t = kver.toNat % 2 ^ SIG_KVER_VERSION.width ∧
      flagF SEC_BOOT_PENDING t = false) := by
  have hexec : exec (.supervisorReady kver) s = goesOn s (commitBank (reported s (loaderShown kver.toNat s))) := by
    show execSupervisorReady kver s = _
    rw [execSupervisorReady, if_pos ⟨hstart, htime⟩, reported, loaderShown, unitsStarted]
  refine completes_of_goesOn hexec (fun _ _ h => h) ⟨?_, ?_, ?_, pending_commitBank _⟩
  · rw [flagF, getF_commitBank (by decide)]
    exact ready_reported _ _
  · rw [getF_commitBank (by decide), phase_reported]
  · rw [getF_commitBank (by decide), getF_reported (by decide), version_loaderShown]

theorem supervisorReadyTimeout_completes (hstart : starting s = true) (htime : s.supAt + 2 * 1536 * 10 ^ 9 < s.now)
    (hpend : flagF SEC_BOOT_PENDING s = false) :
    Completes .supervisorReadyTimeout s (fun t =>
      getF SEC_BOOT_RESULT t = 3 ∧ getF DEV_BOOT_FAIL t = 1 ∧ getF DEV_BOOT_PHASE t = 6 ∧ getF DEV_BOOT_CAUSE t = 5 ∧ flagF DEV_STAT_READY t = false) := by
  have hexec : exec .supervisorReadyTimeout s = goesOn s (bootHalt 6 5 0 (setF SEC_BOOT_RESULT 3 s)) :=
    congrArg (goesOn s) ((if_pos ⟨hstart, htime⟩).trans (if_neg (by simp [hpend])))
  have hready : flagF DEV_STAT_READY s = false := by
    rw [starting] at hstart
    simp only [Bool.and_eq_true, Bool.not_eq_true'] at hstart
    exact hstart.1.2
  refine completes_of_goesOn hexec (fun _ _ h => h) ⟨?_, fail_bootHalt _ _ _ _, phase_bootHalt _ _ _ _, cause_bootHalt _ _ _ _, ?_⟩
  · rw [getF_bootHalt (by decide), getF_setF_same]
    rfl
  · rw [flagF, getF_bootHalt (by decide), getF_setF_ne _ _ (by decide)]
    exact hready

/-! ### Words that become persistent (R424) -/

theorem secEvent_toPowerState (f : Fld) (s : State) : (secEvent f s).toPowerState = s.toPowerState :=
  (frame_event (ps := vecPieces) (by decide) (by decide)).mpr (frame_refl _ s) .power (by decide)

theorem vaultStore_toPowerState (w v : Nat) (s : State) : (vaultStore w v s).toPowerState = if look 0 w s.vault = v then s.toPowerState
    else { s.toPowerState with vault := put w (if v = 0 then none else some v) s.vault, wear := put w (some (min (2 ^ 24 - 1) (look 0 w s.wear + 1))) s.wear } := by
  unfold vaultStore
  split
  · rfl
  · dsimp only
    split
    · rw [secEvent_toPowerState]; rfl
    · rfl

theorem wear_vaultStore (w v : Nat) (s : State) :
    look 0 w (vaultStore w v s).wear = if look 0 w s.vault = v then look 0 w s.wear else min (2 ^ 24 - 1) (look 0 w s.wear + 1) := by
  rw [vaultStore_toPowerState]
  split
  · rfl
  · exact look_put_same 0 w (some (min (2 ^ 24 - 1) (look 0 w s.wear + 1))) s.wear

theorem vbuf_vaultStore (w v : Nat) (s : State) : (vaultStore w v s).vbuf = s.vbuf := by
  rw [vaultStore_toPowerState]
  split <;> rfl

theorem regsExcept_vaultStore (hv : vecRegs ⊆ fs) (h1 : SEC_VAULT_STAT_WORN ∈ fs) (h2 : SEC_STAT_VAULT ∈ fs) (w v : Nat) (t : State) :
    RegsExcept fs s (vaultStore w v t) ↔ RegsExcept fs s t := by
  unfold vaultStore
  split
  · exact Iff.rfl
  · dsimp only
    split
    · rw [secEvent, regsExcept_event hv h2, regsExcept_setF _ h1]
      exact Iff.rfl
    · exact Iff.rfl

theorem frame_vaultStore (hp : .power ∈ ps) (hb : .bus ∈ ps) (ht : .tallies ∈ ps) (w v : Nat) (t : State) :
    Frame ps s (vaultStore w v t) ↔ Frame ps s t := by
  have hstored : ∀ x : PowerState, Frame ps s (tally 18 SEC_T_VAULTWR_COUNT 1 { t with toPowerState := x }) ↔ Frame ps s t := fun x => by
    rw [frame_tally _ _ _ ht]
    exact frame_withPower x hp
  unfold vaultStore
  split
  · exact Iff.rfl
  · dsimp only
    split
    · rw [secEvent, frame_event hb ht, frame_setF]
      exact hstored _
    · exact hstored _

theorem vaultPersist_completes {x : VaultWrite} {r : List VaultWrite} (hbuf : s.vbuf = x :: r) (hpkt : x.pkt = 0) (hreset : x.reset = false) :
    Completes .vaultPersist s (fun t =>
      look 0 x.word t.vault = x.value ∧ (∀ w ∈ s.vault.map Prod.fst, w ≠ x.word → look 0 w t.vault = look 0 w s.vault) ∧ t.vbuf = r ∧
      getF SEC_VAULT_STAT_PENDING t = min 8 r.length ∧
      look 0 x.word t.wear = (if look 0 x.word s.vault = x.value then look 0 x.word s.wear else min (2 ^ 24 - 1) (look 0 x.word s.wear + 1)) ∧
      RegsExcept ([SEC_VAULT_STAT_PENDING, SEC_VAULT_STAT_WORN, SEC_STAT_VAULT] ++ vecRegs) s t ∧ Frame (.power :: vecPieces) s t) := by
  have hexec : exec .vaultPersist s = goesOn s (showVault (vaultStore x.word x.value { s with vbuf := r })) := by
    show execVaultPersist s = _
    rw [execVaultPersist, hbuf]
    dsimp only
    rw [hpkt, hreset]
    rfl
  have hleft : (vaultStore x.word x.value { s with vbuf := r }).vbuf = r := vbuf_vaultStore _ _ _
  refine completes_of_goesOn hexec (fun _ _ h => h) ⟨look_vaultStore_same _ _ _, fun w _ hw => look_vaultStore_ne _ { s with vbuf := r } hw, hleft, ?_,
    wear_vaultStore _ _ _, ?_, ?_⟩
  · rw [showVault, getF_setF_same, hleft]
    exact Nat.mod_eq_of_lt (Nat.lt_of_le_of_lt (Nat.min_le_left _ _) (by decide))
  · rw [showVault, regsExcept_setF _ (by simp), regsExcept_vaultStore (List.subset_append_right _ _) (by simp) (by simp)]
    exact regsExcept_refl _ s
  · rw [showVault, frame_setF, frame_vaultStore (by simp) (by simp [vecPieces]) (by simp [vecPieces])]
    exact (frame_withPower _ (by simp)).mpr (frame_refl _ s)

theorem hoursTick_completes (s : State) :
    Completes .hoursTick s (fun t =>
      getF FLT_HOURS_HOURS t = (getF FLT_HOURS_HOURS s + 1) % 2 ^ FLT_HOURS_HOURS.width ∧
      vaultNow (1600 + (getF FLT_HOURS_HOURS s + 1) % 2) t = (getF FLT_HOURS_HOURS s + 1) % 2 ^ 64 ∧
      RegsExcept [FLT_HOURS_HOURS, SEC_VAULT_STAT_PENDING] s t ∧ Frame [.power] s t) := by
  refine completes_of_goesOn (u := vaultPut _ (getF FLT_HOURS_HOURS s + 1) (setF FLT_HOURS_HOURS (getF FLT_HOURS_HOURS s + 1) s)) rfl (fun _ _ h => h)
    ⟨?_, vaultNow_vaultPut _ _ _, ?_, ?_⟩
  · rw [(regsExcept_vaultPut (fs := [SEC_VAULT_STAT_PENDING]) (by simp)).mpr (regsExcept_refl _ _) FLT_HOURS_HOURS (by decide), getF_setF_same]
  · rw [regsExcept_vaultPut (by simp), regsExcept_setF _ (by simp)]
    exact regsExcept_refl _ s
  · rw [frame_vaultPut (by simp), frame_setF]
    exact frame_refl _ s

end Sys2Proof.Machine

namespace Sys2Proof
open Machine

/-- Settles O16: the steps that end or halt the sequence, the Supervisor in time and out of time, and the words that the Vault takes. -/
theorem bringUpAndVault : Obligations.BringUpAndVault :=
  ⟨fun _ _ _ _ hruns => linkEnd_completes hruns, fun _ _ hruns => fusesFail_completes hruns, fun _ hruns => fillT1_completes hruns,
   fun _ _ hstart htime => supervisorReady_completes hstart htime,
   fun _ hstart htime hpend => supervisorReadyTimeout_completes hstart htime hpend,
   fun _ _ _ hbuf hpkt hreset => vaultPersist_completes hbuf hpkt hreset, hoursTick_completes⟩

end Sys2Proof

/-! SUPPORT. A commit that the reference monitor refuses: the Ledger index of its record and the reply of its packet (R368, R390). -/

namespace Sys2Proof.Machine

/-- The device holds the packet of window 180,224. -/
def slotDlHeld : State := { State.reset with accepted := [slotDlPkt] }

/-- A commit of a packet with a bad CRC is refused. -/
theorem exec_monitorCommit_badCrc {s : State} {k : Fin 10} {p : Pkt} {tag : Fin 4} {r part idx : Nat}
    (hp : s.accepted.find? (fun q => decide (q.id = p.id)) = some p) :
    exec (.monitorCommit k (some p.id) tag r part idx false) s = goesOn s (monitorRefuse k r p.opcode p.seq idx (some p) s) := by
  show execMonitorCommit k (some p.id) tag r part idx false s = _
  rw [execMonitorCommit, hp]
  rfl

/-- The refusal's record takes NEXT from 0 to 1, and the reply's TAIL, in the same place, from 1 to 2. -/
theorem next_monitorRefuse_slotDlHeld :
    getF (FLT_LGf_NEXT_NEXT 0) (monitorRefuse 9 0 slotDlPkt.opcode slotDlPkt.seq 0 (some slotDlPkt) slotDlHeld) = 2 := by decide +kernel

end Sys2Proof.Machine

namespace Sys2Proof
open Machine

/-- Refutes O40: its last statement has NEXT of the PF's Ledger advance by one for the refusal's record, but bounds no packet's window. The final
reply of a packet from window 180,224 advances the TAIL of that window as well, which lies in the same place: NEXT goes from 0 to 2. -/
theorem not_ledgerAndProcessors : ¬ Obligations.LedgerAndProcessors := by
  rintro ⟨_, _, _, _, _, _, _, _, _, _, _, _, _, _, _, _, _, _, hrefused⟩
  obtain ⟨t, ht, hpost⟩ := hrefused slotDlHeld 9 slotDlPkt 0 0 0 0 false (by decide +kernel) (Or.inl rfl) (Or.inl rfl)
  rw [exec_monitorCommit_badCrc (by decide +kernel)] at ht
  obtain ⟨_, _, _, _, _, _, ⟨_, hnext⟩, _⟩ := hpost
  rw [nextIndex, getF_goesOn ht] at hnext
  exact absurd (next_monitorRefuse_slotDlHeld.symm.trans hnext) (by decide +kernel)

end Sys2Proof

/-! SUPPORT. VF Enable that is cleared while the PF's Ledger is low: the restart of a VF's Ledger shows the Ledgers again, and with them the low
PF's event (R366, R434, R437). -/

namespace Sys2Proof.Machine

theorem fnOf_goesOn {s u t : State} {f : Nat} (h : goesOn s u = .next t) : fnOf f t = fnOf f u := by
  cases h; rfl

theorem fnOf_removed {f v : Nat} (h : f ≠ v) (s : State) : fnOf f { s with fns := put v none s.fns } = fnOf f s := look_put_ne _ none s.fns h

/-- A cell whose setup reserves 65,535 entries of the PF's Ledger in each slot. -/
def greedyCell : Cell := { plainCell with cfg := List.replicate 32 255 }

/-- The PF and VF 1 master the bus, 64 cells have the PF's Ledger run low, and the event of a low Ledger is enabled with vector 0, which is masked. -/
def ledgerRunsLow : State :=
  setF FLT_EVT_VEC_VEC 0 (setF FLT_EVT_MASK_MASK (2 ^ 7) { State.reset with
    fns := [(0, ⟨true, true, false, false, []⟩), (1, ⟨true, true, false, false, []⟩)],
    cells := (List.range 64).map (fun c => (c, greedyCell)), ledger := [(0, [])] })

/-- The FLR of VF 1 leaves vector 0 of the PF pending. -/
theorem pend_flrVf_ledgerRunsLow : (fnOf 0 (flrVf 1 ledgerRunsLow)).pend = [0] := by decide +kernel

theorem vfs_ledgerRunsLow : ((List.range 32).map (· + 1)).filter (fun v => (fnOf v ledgerRunsLow).present) = [1] := by decide +kernel

/-- Clearing VF Enable resets VF 1, the only one that is present. -/
theorem exec_vfEnableClear_ledgerRunsLow :
    exec (.vfEnableClear false) ledgerRunsLow =
      goesOn ledgerRunsLow { flrVf 1 ledgerRunsLow with fns := put 1 none (flrVf 1 ledgerRunsLow).fns } := by
  show execVfEnableClear false ledgerRunsLow = _
  rw [execVfEnableClear, if_neg (by decide), vfs_ledgerRunsLow]
  rfl

end Sys2Proof.Machine

namespace Sys2Proof
open Machine

/-- Refutes O17: its third statement has clearing VF Enable leave the PF's bus state, but says nothing of the events that the PF has enabled. Where
the PF's Ledger is low and not yet shown so, the restart of VF 1's Ledger shows it and raises FLT_EVT_VEC: a masked vector stays pending on the PF. -/
theorem not_functionsAndInterrupts : ¬ Obligations.FunctionsAndInterrupts := by
  rintro ⟨_, _, hclear, _⟩
  obtain ⟨t, ht, _, hpf, _⟩ := hclear ledgerRunsLow (by decide +kernel) rfl
  rw [exec_vfEnableClear_ledgerRunsLow] at ht
  rw [fnOf_goesOn ht, fnOf_removed (by decide)] at hpf
  have hbefore : (fnOf 0 ledgerRunsLow).pend = [] := by decide +kernel
  exact absurd (pend_flrVf_ledgerRunsLow.symm.trans ((congrArg Func.pend hpf).trans hbefore)) (by decide)

end Sys2Proof

/-! SUPPORT. A sample of the sensors: what each set shows, and what judging the sample changes and leaves (R400 to R402, R406). -/

namespace Sys2Proof.Machine

variable {fs : List Fld} {ps : List Piece} {s t : State}

/-! ### The sample as it is shown (R400) -/

/-- The temperature of a sensor set in 0.25 °C, with its calibration. -/
def tempQ (i : Nat) (raw : Int) (s : State) : Int := clampInt (-2048) 2047 (quarters raw + calE true (32 + i) 32 (-2048) 2047 s)

/-- The fields of a sensor set. -/
def tempFields (i : Nat) : List Fld := [PWR_TEMPi_BAND i, PWR_TEMPi_MAX i, PWR_TEMPi_NOW i]

theorem tempSet_of_hottest {x : List (Nat × Int)} {i : Nat} {raw : Int} (h : hottest i x = some raw) (s : State) :
    tempSet x s i = setF (PWR_TEMPi_BAND i) (bandOf (tempQ i raw s)) (setF (PWR_TEMPi_MAX i) (intBits 12 (max (tempQ i raw s) (tempMax i s)))
      (setF (PWR_TEMPi_NOW i) (intBits 12 (tempQ i raw s)) s)) := by
  rw [tempSet, h]
  rfl

theorem regsExcept_tempSet {i : Nat} (h : tempFields i ⊆ fs) (x : List (Nat × Int)) (t : State) : RegsExcept fs s (tempSet x t i) ↔ RegsExcept fs s t := by
  simp only [tempFields, List.cons_subset] at h
  obtain ⟨hband, hmax, hnow, -⟩ := h
  unfold tempSet
  split
  · exact Iff.rfl
  · dsimp only
    rw [regsExcept_setF _ hband, regsExcept_setF _ hmax, regsExcept_setF _ hnow]

theorem frame_tempSet (x : List (Nat × Int)) (t : State) (i : Nat) : Frame ps s (tempSet x t i) ↔ Frame ps s t := by
  unfold tempSet
  split <;> exact Iff.rfl

theorem pwrLast_tempSet (x : List (Nat × Int)) (s : State) (i : Nat) : (tempSet x s i).pwrLast = s.pwrLast := by
  unfold tempSet
  split <;> rfl

section Fold

variable (x : List (Nat × Int))

theorem regsExcept_foldl_tempSet {l : List Nat} (h : ∀ i ∈ l, tempFields i ⊆ fs) (t : State) :
    RegsExcept fs s (l.foldl (tempSet x) t) ↔ RegsExcept fs s t := by
  induction l generalizing t with
  | nil => exact Iff.rfl
  | cons i l ih =>
    rw [List.forall_mem_cons] at h
    exact (ih h.2 _).trans (regsExcept_tempSet h.1 x t)

theorem frame_foldl_tempSet (l : List Nat) (t : State) : Frame ps s (l.foldl (tempSet x) t) ↔ Frame ps s t := by
  induction l generalizing t with
  | nil => exact Iff.rfl
  | cons i l ih => exact (ih _).trans (frame_tempSet x t i)

theorem pwrLast_foldl_tempSet (l : List Nat) (s : State) : (l.foldl (tempSet x) s).pwrLast = s.pwrLast := by
  induction l generalizing s with
  | nil => rfl
  | cons i l ih => exact (ih _).trans (pwrLast_tempSet x s i)

end Fold

/-- A set's fields are its own, and the calibration of a set is no field of any. -/
theorem key_tempFields {i j : Nat} (hi : i < 24) (hj : j < 24) :
    (i ≠ j → ∀ f ∈ tempFields i, ∀ g ∈ tempFields j, f.key ≠ g.key) ∧
    (∀ g ∈ tempFields j, (CAL_F_k_VALUE (32 + i)).key ≠ g.key ∧ (CAL_U_k_VALUE (32 + i)).key ≠ g.key) := by
  constructor
  · intro hne
    simp only [tempFields, List.forall_mem_cons, Fld.key, PWR_TEMPi_BAND, PWR_TEMPi_MAX, PWR_TEMPi_NOW, PWR_TEMPi]
    simp only [List.not_mem_nil, false_implies, implies_true, and_true]
    omega
  · simp only [tempFields, List.forall_mem_cons, Fld.key, PWR_TEMPi_BAND, PWR_TEMPi_MAX, PWR_TEMPi_NOW, PWR_TEMPi, CAL_F_k_VALUE, CAL_U_k_VALUE, CAL_F_k,
      CAL_U_k]
    simp only [List.not_mem_nil, false_implies, implies_true, and_true]
    omega

theorem getF_tempSet {j : Nat} {g : Fld} (hg : ∀ f ∈ tempFields j, g.key ≠ f.key) (x : List (Nat × Int)) (s : State) : getF g (tempSet x s j) = getF g s :=
  (regsExcept_tempSet (List.Subset.refl _) x s).mpr (regsExcept_refl _ s) g hg

theorem tempQ_congr {i : Nat} (raw : Int) (hf : getF (CAL_F_k_VALUE (32 + i)) t = getF (CAL_F_k_VALUE (32 + i)) s)
    (hu : getF (CAL_U_k_VALUE (32 + i)) t = getF (CAL_U_k_VALUE (32 + i)) s) : tempQ i raw t = tempQ i raw s := by
  rw [tempQ, calE, hf, hu]
  rfl

theorem tempQ_tempSet {i j : Nat} (hi : i < 24) (hj : j < 24) (raw : Int) (x : List (Nat × Int)) (s : State) : tempQ i raw (tempSet x s j) = tempQ i raw s :=
  tempQ_congr raw (getF_tempSet (fun f hf => ((key_tempFields hi hj).2 f hf).1) x s) (getF_tempSet (fun f hf => ((key_tempFields hi hj).2 f hf).2) x s)

/-- Sensor set i shows a temperature and its band. -/
def Shows (i : Nat) (q : Int) (s : State) : Prop := getF (PWR_TEMPi_NOW i) s = intBits 12 q ∧ getF (PWR_TEMPi_BAND i) s = bandOf q

theorem bandOf_lt (q : Int) : bandOf q < 8 := by
  unfold bandOf; split <;> omega

theorem shows_tempSet {x : List (Nat × Int)} {i : Nat} {raw : Int} (h : hottest i x = some raw) (s : State) : Shows i (tempQ i raw s) (tempSet x s i) := by
  have hkey : (PWR_TEMPi_NOW i).key ≠ (PWR_TEMPi_BAND i).key ∧ (PWR_TEMPi_NOW i).key ≠ (PWR_TEMPi_MAX i).key := by
    simp only [Fld.key, PWR_TEMPi_BAND, PWR_TEMPi_MAX, PWR_TEMPi_NOW]; omega
  rw [tempSet_of_hottest h]
  constructor
  · rw [getF_setF_ne _ _ hkey.1, getF_setF_ne _ _ hkey.2, getF_setF_same]
    exact intBits_mod _ _
  · rw [getF_setF_same]
    exact Nat.mod_eq_of_lt (bandOf_lt _)

theorem Shows.tempSet {i j : Nat} {q : Int} (hs : Shows i q s) (hi : i < 24) (hj : j < 24) (hne : i ≠ j) (x : List (Nat × Int)) : Shows i q (tempSet x s j) := by
  have hkey := (key_tempFields hi hj).1 hne
  exact ⟨(getF_tempSet (hkey _ (by simp [tempFields])) x s).trans hs.1, (getF_tempSet (hkey _ (by simp [tempFields])) x s).trans hs.2⟩

theorem Shows.foldl_tempSet {i : Nat} {q : Int} (hi : i < 24) (x : List (Nat × Int)) {l : List Nat} (hl : ∀ j ∈ l, j < 24) (hil : i ∉ l) (hs : Shows i q s) :
    Shows i q (l.foldl (Machine.tempSet x) s) := by
  induction l generalizing s with
  | nil => exact hs
  | cons j l ih =>
    rw [List.forall_mem_cons] at hl
    rw [List.mem_cons, not_or] at hil
    exact ih hl.2 hil.2 (hs.tempSet hi hl.1 hil.1 x)

/-- Once its turn has come in a sample, a set with a reading shows it. -/
theorem shows_foldl_tempSet {x : List (Nat × Int)} {i : Nat} {raw : Int} (h : hottest i x = some raw) (hi : i < 24) {l : List Nat} (hl : ∀ j ∈ l, j < 24)
    (hil : i ∈ l) (s : State) : Shows i (tempQ i raw s) (l.foldl (tempSet x) s) := by
  induction l generalizing s with
  | nil => cases hil
  | cons j l ih =>
    rw [List.forall_mem_cons] at hl
    by_cases hmem : i ∈ l
    · rw [← tempQ_tempSet hi hl.1 raw x s]
      exact ih hl.2 hmem _
    · obtain rfl : i = j := (List.mem_cons.mp hil).resolve_right hmem
      rw [List.foldl_cons]
      exact (shows_tempSet h s).foldl_tempSet hi x hl.2 hmem

/-- The state in which the sample shows, before it is judged. -/
def sampled (x : List (Nat × Int)) (power current : Nat) (s : State) : State := sensors.foldl (tempSet x) (powerSet power current s)

/-- The registers that show a sample. -/
def sampleRegs : List Fld := [PWR_EST_POWER, PWR_EST_CURRENT, PWR_PEAK_POWER] ++ sensors.flatMap tempFields

theorem tempFields_subset_sampleRegs {i : Nat} (hi : i ∈ sensors) : tempFields i ⊆ sampleRegs := fun _ hf =>
  List.mem_append_right _ (List.mem_flatMap.mpr ⟨i, hi, hf⟩)

/-- The pieces of state that a sample may change. -/
def samplePieces : List Piece := [.bus, .tallies, .power, .host, .front, .radio, .fault]

section Sampled

variable {x : List (Nat × Int)} {power current : Nat}

theorem regsExcept_sampled : RegsExcept sampleRegs s (sampled x power current s) := by
  unfold sampled powerSet
  rw [regsExcept_foldl_tempSet x (fun i => tempFields_subset_sampleRegs)]
  dsimp only
  rw [regsExcept_setF _ (by simp [sampleRegs]), regsExcept_setF _ (by simp [sampleRegs]), regsExcept_setF _ (by simp [sampleRegs])]
  exact regsExcept_refl _ s

theorem frame_sampled : Frame samplePieces s (sampled x power current s) := by
  unfold sampled powerSet
  rw [frame_foldl_tempSet]
  dsimp only
  rw [frame_setF, frame_setF, frame_setF]
  exact (frame_withPower _ (by simp [samplePieces])).mpr (frame_refl _ s)

theorem pwrLast_sampled : (sampled x power current s).pwrLast = (min 65535 power :: s.pwrLast).take 10 := pwrLast_foldl_tempSet x _ _

/-- A field that no sensor set has keeps through the sets what the power estimate has made it. -/
theorem getF_sampled {g : Fld} (hg : ∀ f ∈ sensors.flatMap tempFields, g.key ≠ f.key) :
    getF g (sampled x power current s) = getF g (powerSet power current s) :=
  (regsExcept_foldl_tempSet x (fun i hi _ hf => List.mem_flatMap.mpr ⟨i, hi, hf⟩) _).mpr (regsExcept_refl _ _) g hg

theorem powers_sampled :
    getF PWR_EST_POWER (sampled x power current s) = min 65535 power ∧ getF PWR_EST_CURRENT (sampled x power current s) = min 65535 current ∧
    getF PWR_PEAK_POWER (sampled x power current s) = max (min 65535 power) (getF PWR_PEAK_POWER s) % 2 ^ 16 := by
  have hfit : ∀ n : Nat, min 65535 n % 2 ^ 16 = min 65535 n := fun n => Nat.mod_eq_of_lt (by omega)
  rw [getF_sampled (by decide +kernel), getF_sampled (by decide +kernel), getF_sampled (by decide +kernel)]
  unfold powerSet
  dsimp only
  refine ⟨?_, ?_, ?_⟩
  · rw [getF_setF_ne _ _ (by decide), getF_setF_ne _ _ (by decide), getF_setF_same]
    exact hfit power
  · rw [getF_setF_ne _ _ (by decide), getF_setF_same]
    exact hfit current
  · exact getF_setF_same _ _ _

theorem shows_sampled {i : Nat} {raw : Int} (hi : i < 24) (h : hottest i x = some raw) : Shows i (tempQ i raw s) (sampled x power current s) := by
  have hpower : ∀ g : Fld, (∀ f ∈ [PWR_PEAK_POWER, PWR_EST_CURRENT, PWR_EST_POWER], g.key ≠ f.key) → getF g (powerSet power current s) = getF g s := fun g hg => by
    simp only [List.forall_mem_cons] at hg
    obtain ⟨hpeak, hcurrent, hest, -⟩ := hg
    unfold powerSet
    dsimp only
    rw [getF_setF_ne _ _ hpeak, getF_setF_ne _ _ hcurrent, getF_setF_ne _ _ hest]
    rfl
  have hcal : ∀ i < 24, ∀ f ∈ [PWR_PEAK_POWER, PWR_EST_CURRENT, PWR_EST_POWER],
      (CAL_F_k_VALUE (32 + i)).key ≠ f.key ∧ (CAL_U_k_VALUE (32 + i)).key ≠ f.key := by decide
  rw [← tempQ_congr raw (hpower _ fun f hf => (hcal i hi f hf).1) (hpower _ fun f hf => (hcal i hi f hf).2)]
  exact shows_foldl_tempSet h hi (fun j hj => List.mem_range.mp hj) (List.mem_range.mpr hi) _

end Sampled

/-! ### The sample is judged (R401, R402, R443) -/

/-- The registers that judging a sample may change. -/
def judgeRegs : List Fld := [PWR_STAT_THERM_WARN, PWR_STAT_THERM_LIMIT, PWR_TSTAT_THERMAL, PWR_TSTAT_IN_FORCE, PWR_TSTAT_RELEASING, PWR_TSTAT_TRIPPED,
  SEC_VAULT_STAT_PENDING] ++ vecRegs

/-- What judging a sample leaves: every other register, the power estimates and the other pieces of state. -/
structure Judged (s t : State) : Prop where
  regs : RegsExcept judgeRegs s t
  estimates : t.pwrLast = s.pwrLast
  frame : Frame samplePieces s t

theorem Judged.refl (s : State) : Judged s s := ⟨regsExcept_refl _ s, rfl, frame_refl _ s⟩

theorem pwrEvent_toPowerState (f : Fld) (s : State) : (pwrEvent f s).toPowerState = s.toPowerState :=
  (frame_pwrEvent (ps := vecPieces) (by decide) (by decide)).mpr (frame_refl _ s) .power (by decide)

theorem Judged.pwrEvent (h : Judged s t) {f : Fld} (hf : f ∈ judgeRegs) : Judged s (pwrEvent f t) where
  regs := (regsExcept_pwrEvent (List.subset_append_right _ _) hf).mpr h.regs
  estimates := (congrArg PowerState.pwrLast (pwrEvent_toPowerState f t)).trans h.estimates
  frame := (frame_pwrEvent (by decide) (by decide)).mpr h.frame

theorem Judged.tally (h : Judged s t) (g : Nat) (f : Fld) (n : Nat) : Judged s (tally g f n t) where
  regs := (regsExcept_tally g f n).mpr h.regs
  estimates := h.estimates
  frame := (frame_tally g f n (by decide)).mpr h.frame

theorem pwrLast_setDuty (d : Nat) (s : State) : (setDuty d s).pwrLast = s.pwrLast := by
  unfold setDuty; split <;> rfl

theorem pwrLast_causeOn (f : Fld) (s : State) : (causeOn f s).pwrLast = s.pwrLast := by
  unfold causeOn
  split
  · rfl
  · rw [pwrLast_setDuty]
    split <;> rfl

theorem pwrLast_causeOff (f : Fld) (s : State) : (causeOff f s).pwrLast = s.pwrLast := by
  unfold causeOff
  split
  · rfl
  · dsimp only
    split <;> rfl

theorem Judged.causeOn (h : Judged s t) : Judged s (causeOn PWR_TSTAT_THERMAL t) where
  regs := (regsExcept_causeOn (by simp [judgeRegs])).mpr h.regs
  estimates := (pwrLast_causeOn _ t).trans h.estimates
  frame := (frame_causeOn (by decide)).mpr h.frame

theorem Judged.causeOff (h : Judged s t) : Judged s (causeOff PWR_TSTAT_THERMAL t) where
  regs := (regsExcept_causeOff (by simp [judgeRegs])).mpr h.regs
  estimates := (pwrLast_causeOff _ t).trans h.estimates
  frame := (frame_causeOff (by decide) (by decide) (by decide)).mpr h.frame

theorem judged_tempJudge (s : State) : Judged s (tempJudge s) := by
  have hwarn : Judged s (pwrEvent PWR_STAT_THERM_WARN s) := (Judged.refl s).pwrEvent (by simp [judgeRegs])
  have hlimit : ∀ {u : State}, Judged s u → Judged s (pwrEvent PWR_STAT_THERM_LIMIT (tally 17 PWR_T_THERMAL_COUNT 1 u)) :=
    fun hu => (hu.tally _ _ _).pwrEvent (by simp [judgeRegs])
  unfold tempJudge
  dsimp only
  generalize hu : (if sensors.any (fun i => decide ((getF PWR_THERM_WARN s : Int) * 4 ≤ tempNow i s)) = true then pwrEvent PWR_STAT_THERM_WARN s else s) = u
  have hju : Judged s u := by
    rw [← hu]
    split
    · exact hwarn
    · exact Judged.refl s
  split
  · split
    · exact hju
    · exact (hlimit hju).causeOn
  · split
    · exact hju
    · exact hju.causeOff

theorem pwrLast_vaultPut (w v : Nat) (s : State) : (vaultPut w v s).pwrLast = s.pwrLast := by
  unfold vaultPut; split <;> rfl

theorem pwrLast_historyAdd (b : List Byte) (s : State) : (historyAdd b s).pwrLast = s.pwrLast :=
  (pwrLast_vaultPut _ _ _).trans (pwrLast_vaultPut _ _ _)

theorem regsExcept_historyAdd (h : SEC_VAULT_STAT_PENDING ∈ fs) (b : List Byte) (t : State) : RegsExcept fs s (historyAdd b t) ↔ RegsExcept fs s t :=
  (regsExcept_vaultPut h).trans (regsExcept_vaultPut h)

theorem frame_historyAdd (hp : .power ∈ ps) (hf : .fault ∈ ps) (b : List Byte) (t : State) : Frame ps s (historyAdd b t) ↔ Frame ps s t :=
  ((frame_vaultPut hp).trans (frame_vaultPut hp)).trans (frame_withFault { t.toFaultState with histNext := t.histNext + 1 } hf)

theorem Judged.trip (h : Judged s t) (i : Nat) : Judged s (trip i t) := by
  unfold Machine.trip
  split
  · exact h
  · exact ⟨(regsExcept_historyAdd (by simp [judgeRegs]) _ _).mpr ((regsExcept_setF _ (by simp [judgeRegs])).mpr h.regs),
      (pwrLast_historyAdd _ _).trans h.estimates, (frame_historyAdd (by decide) (by decide) _ _).mpr h.frame⟩

/-- Looking at the sensors changes only what management keeps. -/
theorem sensorEvent_eq (s : State) (id : Nat) : ∃ x : HostState, sensorEvent s id = { s with toHostState := x } := by
  unfold sensorEvent
  dsimp only
  split
  · exact ⟨s.toHostState, rfl⟩
  · split
    · exact ⟨_, rfl⟩
    · exact ⟨_, rfl⟩

theorem foldl_sensorEvent_eq (l : List Nat) (s : State) : ∃ x : HostState, l.foldl sensorEvent s = { s with toHostState := x } := by
  induction l generalizing s with
  | nil => exact ⟨s.toHostState, rfl⟩
  | cons id l ih =>
    obtain ⟨x, hx⟩ := sensorEvent_eq s id
    obtain ⟨y, hy⟩ := ih { s with toHostState := x }
    exact ⟨y, by rw [List.foldl_cons, hx, hy]⟩

theorem sensorScan_eq (s : State) : ∃ x : HostState, sensorScan s = { s with toHostState := x } := by
  unfold sensorScan
  split
  · exact foldl_sensorEvent_eq _ s
  · exact ⟨s.toHostState, rfl⟩

theorem Judged.sensorScan (h : Judged s t) : Judged s (sensorScan t) := by
  obtain ⟨x, hx⟩ := sensorScan_eq t
  rw [hx]
  exact ⟨h.regs, h.estimates, (frame_withHost x (by decide)).mpr h.frame⟩

theorem getF_sensorScan (f : Fld) (s : State) : getF f (sensorScan s) = getF f s := by
  obtain ⟨x, hx⟩ := sensorScan_eq s
  rw [hx]
  rfl

section Sample

variable {x : List (Nat × Int)} {cata : List Nat} {power current : Nat} (hreset : inReset s = false)

/-- What the sample leaves once it has been judged. -/
def sampleEnd (x : List (Nat × Int)) (cata : List Nat) (u : State) : State :=
  match tripSet x cata (tempJudge u) with
  | none => sensorScan (tempJudge u)
  | some i => sensorScan (trip i (tempJudge u))

include hreset in
theorem exec_tempSample : exec (.tempSample x cata power current) s = goesOn s (sampleEnd x cata (sampled x power current s)) :=
  congrArg (goesOn s) (if_neg (by simp [hreset]))

theorem judged_sampleEnd (u : State) : Judged u (sampleEnd x cata u) := by
  unfold sampleEnd
  split
  · exact (judged_tempJudge u).sensorScan
  · exact ((judged_tempJudge u).trip _).sensorScan

include hreset

theorem tempSample_completes {i : Nat} {raw : Int} (hi : i < 24) (h : hottest i x = some raw) :
    Completes (.tempSample x cata power current) s (fun t =>
      getF (PWR_TEMPi_NOW i) t = intBits 12 (clampInt (-2048) 2047 (quarters raw + calE true (32 + i) 32 (-2048) 2047 s)) ∧
      getF (PWR_TEMPi_BAND i) t = bandOf (clampInt (-2048) 2047 (quarters raw + calE true (32 + i) 32 (-2048) 2047 s)) ∧
      getF PWR_EST_POWER t = min 65535 power ∧ getF PWR_EST_CURRENT t = min 65535 current ∧
      getF PWR_PEAK_POWER t = max (min 65535 power) (getF PWR_PEAK_POWER s) % 2 ^ 16 ∧ t.pwrLast = (min 65535 power :: s.pwrLast).take 10 ∧
      Frame [.bus, .tallies, .power, .host, .front, .radio, .fault] s t) := by
  have hj := judged_sampleEnd (x := x) (cata := cata) (sampled x power current s)
  have hshown := shows_sampled (s := s) (power := power) (current := current) hi h
  obtain ⟨hpower, hcurrent, hpeak⟩ := powers_sampled (x := x) (s := s) (power := power) (current := current)
  have hkey : ∀ i < 24, ∀ f ∈ judgeRegs, (PWR_TEMPi_NOW i).key ≠ f.key ∧ (PWR_TEMPi_BAND i).key ≠ f.key := by decide +kernel
  exact completes_of_goesOn (exec_tempSample hreset) (fun _ _ h => h)
    ⟨(hj.regs _ fun f hf => (hkey i hi f hf).1).trans hshown.1, (hj.regs _ fun f hf => (hkey i hi f hf).2).trans hshown.2,
      (hj.regs _ (by decide)).trans hpower, (hj.regs _ (by decide)).trans hcurrent, (hj.regs _ (by decide)).trans hpeak,
      hj.estimates.trans pwrLast_sampled, frame_trans frame_sampled hj.frame⟩

end Sample

theorem flagF_trip (i : Nat) (s : State) : flagF PWR_TSTAT_TRIPPED (trip i s) = true := by
  unfold trip
  split
  next h => exact h
  next => rw [flagF_iff, getF_historyAdd (by decide), getF_setF_same]; decide

/-- A die that reaches TRIP by its factory calibration trips. -/
theorem tripSet_of_reached {x : List (Nat × Int)} {i : Nat} {raw : Int} (cata : List Nat) (hi : i < 12) (h : hottest i x = some raw)
    (hreached : (getF PWR_THERM_TRIP s : Int) * 4 ≤ quarters raw + bitsInt 16 (getF (CAL_F_k_VALUE (32 + i)) s)) : ∃ j, tripSet x cata s = some j := by
  have hfound : ((List.range 12).find? (fun i => (hottest i x).any (fun raw =>
      decide ((getF PWR_THERM_TRIP s : Int) * 4 ≤ quarters raw + bitsInt 16 (getF (CAL_F_k_VALUE (32 + i)) s))))).isSome := by
    rw [List.find?_isSome]
    exact ⟨i, List.mem_range.mpr hi, by rw [h]; exact decide_eq_true hreached⟩
  obtain ⟨j, hj⟩ := Option.isSome_iff_exists.mp hfound
  exact ⟨j, by rw [tripSet, hj]; rfl⟩

theorem tempSample_completes_trip {x : List (Nat × Int)} {cata : List Nat} {power current i : Nat} {raw : Int} (hreset : inReset s = false) (hi : i < 12)
    (h : hottest i x = some raw)
    (hreached : (getF PWR_THERM_TRIP s : Int) * 4 ≤ quarters raw + bitsInt 16 (getF (CAL_F_k_VALUE (32 + i)) s)) :
    Completes (.tempSample x cata power current) s (fun t => flagF PWR_TSTAT_TRIPPED t = true ∧ issues t = false) := by
  have hkeep : ∀ g : Fld, (∀ f ∈ judgeRegs ++ sampleRegs, g.key ≠ f.key) → getF g (tempJudge (sampled x power current s)) = getF g s := fun g hg => by
    rw [List.forall_mem_append] at hg
    exact ((judged_tempJudge _).regs g hg.1).trans (regsExcept_sampled g hg.2)
  have hkey : (∀ f ∈ judgeRegs ++ sampleRegs, PWR_THERM_TRIP.key ≠ f.key) ∧ ∀ i < 12, ∀ f ∈ judgeRegs ++ sampleRegs, (CAL_F_k_VALUE (32 + i)).key ≠ f.key := by
    decide +kernel
  rw [← hkeep _ hkey.1, ← hkeep _ (hkey.2 i hi)] at hreached
  obtain ⟨j, hj⟩ := tripSet_of_reached cata hi h hreached
  have hend : sampleEnd x cata (sampled x power current s) = sensorScan (trip j (tempJudge (sampled x power current s))) := by rw [sampleEnd, hj]
  have hflag : flagF PWR_TSTAT_TRIPPED (sampleEnd x cata (sampled x power current s)) = true := by
    rw [hend, flagF, getF_sensorScan]
    exact flagF_trip j _
  exact completes_of_goesOn (exec_tempSample hreset) (fun _ _ h => h) ⟨hflag, by rw [issues, hflag]; rfl⟩

end Sys2Proof.Machine

/-! SUPPORT. A power domain that fails: what it reports (R393, R406), a Hjelo port that fails with it (R280, R311), and a Matrix Core whose place a
spare takes (R382, R393). -/

namespace Sys2Proof.Machine

variable {fs : List Fld} {ps : List Piece} {s t : State}

/-! ### The domain (R393) -/

/-- The registers that the failure of a domain changes. -/
def domRegs (d : Nat) : List Fld := [PWR_DOMd_STATE d, PWR_DOMd_FAULT d, PWR_STAT_DOM_FAULT] ++ vecRegs

theorem regsExcept_domFault {d : Nat} (h : domRegs d ⊆ fs) : RegsExcept fs s (domFault d t) ↔ RegsExcept fs s t := by
  rw [domFault, regsExcept_pwrEvent (fun f hf => h (List.mem_append_right _ hf)) (h (by simp [domRegs])), regsExcept_setF _ (h (by simp [domRegs])),
    regsExcept_setF _ (h (by simp [domRegs]))]

theorem frame_domFault (d : Nat) (hb : .bus ∈ ps) (ht : .tallies ∈ ps) : Frame ps s (domFault d t) ↔ Frame ps s t := by
  rw [domFault, frame_pwrEvent hb ht, frame_setF, frame_setF]

theorem getF_domFault {d : Nat} {f : Fld} (hf : ∀ g ∈ domRegs d, f.key ≠ g.key) (s : State) : getF f (domFault d s) = getF f s :=
  (regsExcept_domFault (List.Subset.refl _)).mpr (regsExcept_refl _ s) f hf

theorem key_domState {d : Nat} (hd : d < 192) : ∀ g ∈ PWR_STAT_DOM_FAULT :: vecRegs, (PWR_DOMd_STATE d).key ≠ g.key ∧ (PWR_DOMd_FAULT d).key ≠ g.key := by
  have hall : ∀ d ∈ List.range 192, ∀ g ∈ PWR_STAT_DOM_FAULT :: vecRegs, (PWR_DOMd_STATE d).key ≠ g.key ∧ (PWR_DOMd_FAULT d).key ≠ g.key := by decide +kernel
  exact hall d (List.mem_range.mpr hd)

theorem key_domState_ne_domFault (d e : Nat) : (PWR_DOMd_STATE d).key ≠ (PWR_DOMd_FAULT e).key := by
  simp only [Fld.key, PWR_DOMd_STATE, PWR_DOMd_FAULT]; omega

theorem state_domFault {d : Nat} (hd : d < 192) (s : State) : getF (PWR_DOMd_STATE d) (domFault d s) = 3 := by
  rw [domFault, getF_pwrEvent (fun g hg => (key_domState hd g hg).1), getF_setF_ne _ _ (key_domState_ne_domFault d d), getF_setF_same]
  rfl

theorem fault_domFault {d : Nat} (hd : d < 192) (s : State) : getF (PWR_DOMd_FAULT d) (domFault d s) = 1 := by
  rw [domFault, getF_pwrEvent (fun g hg => (key_domState hd g hg).2), getF_setF_same]
  rfl

theorem flagF_domFault (d : Nat) (s : State) : flagF PWR_STAT_DOM_FAULT (domFault d s) = true := flagF_event (by decide) (by decide) _

theorem domainPowerUp_completes {d : Fin 192} (h : getF (PWR_DOMd_STATE d) s = 1) :
    Completes (.domainPowerUp d) s (fun t => getF (PWR_DOMd_STATE d) t = 2 ∧ RegsExcept [PWR_DOMd_STATE d] s t ∧ Frame [] s t) :=
  completes_of_goesOn (congrArg (goesOn s) (if_pos h)) (fun _ _ h => h)
    ⟨(getF_setF_same _ _ _).trans rfl, (regsExcept_setF _ (List.mem_singleton_self _)).mpr (regsExcept_refl _ s), (frame_setF _ _).mpr (frame_refl _ s)⟩

/-! ### A port that fails (R280, R311) -/

/-- Handling the packets of a port that fails may change a discard's report, but no Ledger. -/
structure Handled (s t : State) : Prop where
  ledger : t.ledger = s.ledger
  regs : RegsExcept (HJF_STAT_DISCARD :: vecRegs) s t

theorem Handled.refl (s : State) : Handled s s := ⟨rfl, regsExcept_refl _ s⟩

theorem Handled.trans {u : State} (h : Handled s t) (h' : Handled t u) : Handled s u := ⟨h'.ledger.trans h.ledger, regsExcept_trans h.regs h'.regs⟩

theorem handled_markSent (k : FabPkt) (s : State) : Handled s (markSent k s) := by
  unfold markSent
  split
  · exact ⟨rfl, regsExcept_refl _ s⟩
  · exact Handled.refl s

theorem handled_markPort (k : FabPkt) (p : Nat) (s : State) : Handled s (markPort k p s) := by
  unfold markPort
  split
  · exact ⟨rfl, regsExcept_refl _ s⟩
  · exact Handled.refl s

theorem handled_discardPkt (k : FabPkt) (s : State) : Handled s (discardPkt k s) := by
  have hsent := handled_markSent k { s with fabDrop := k :: s.fabDrop }
  refine ⟨?_, (regsExcept_event (List.subset_cons_self _ _) List.mem_cons_self _ _ _ _).mpr hsent.regs⟩
  exact (congrArg RadioState.ledger (toRadioState_event _ _ _ _ _ _)).trans hsent.ledger

theorem handled_portPump (p f : Nat) (s : State) : Handled s (portPump p f s) := by
  induction f generalizing s with
  | zero => exact Handled.refl s
  | succ f ih =>
    unfold portPump
    dsimp only
    split
    · exact Handled.refl s
    · split
      · exact Handled.refl s
      · refine Handled.trans ?_ (ih _)
        refine Handled.trans ?_ (handled_markSent _ _)
        exact ⟨rfl, regsExcept_refl _ s⟩

theorem handled_sendOn (p : Nat) (k : FabPkt) (s : State) : Handled s (sendOn p k s) := by
  unfold sendOn
  split
  · exact (⟨rfl, regsExcept_refl _ s⟩ : Handled s (setHp p { hpOf p s with queue := (hpOf p s).queue ++ [k] } s)).trans (handled_portPump _ _ _)
  · exact handled_discardPkt k s

theorem handled_routeOut (k : FabPkt) (s : State) : Handled s (routeOut k s) := by
  unfold routeOut
  split
  · exact (⟨rfl, regsExcept_refl _ s⟩ : Handled s (setHp 16 { hpOf 16 s with inq := (hpOf 16 s).inq ++ [(s.now, k)] } s)).trans (handled_markSent _ _)
  · split
    · exact handled_discardPkt k s
    · split
      · exact handled_discardPkt k s
      · exact (handled_markPort _ _ s).trans (handled_sendOn _ _ _)

theorem handled_reroute (l : List FabPkt) (s : State) : Handled s (reroute l s) := by
  induction l generalizing s with
  | nil => exact Handled.refl s
  | cons k l ih =>
    refine Handled.trans ?_ (ih _)
    dsimp only
    split
    · exact ⟨rfl, regsExcept_refl _ s⟩
    · split
      · exact handled_discardPkt k s
      · exact handled_routeOut k s

theorem ledger_portDomain (p : Nat) (on : Bool) (s : State) : (portDomain p on s).ledger = s.ledger := by
  unfold portDomain; split <;> rfl

theorem getF_portDomain {p : Nat} {f : Fld} (hf : f.key ≠ (PWR_DOMd_STATE (176 + p)).key) (on : Bool) (s : State) : getF f (portDomain p on s) = getF f s := by
  unfold portDomain
  split
  · rfl
  · exact getF_setF_ne _ _ hf

/-- The registers other than its own state that the failure of port p with its domain may change. -/
def portFailRegs (p : Nat) : List Fld :=
  [HJF_Pp_PEER_VALID p, HJF_STAT_DISCARD, HJF_STAT_PORT_FAIL] ++ noteRegs 0 ++ domRegs (176 + p)

theorem key_portState {p : Nat} (hp : p < 16) : ∀ g ∈ portFailRegs p, (HJF_Pp_STAT_STATE p).key ≠ g.key := by
  have hall : ∀ p ∈ List.range 16, ∀ g ∈ portFailRegs p, (HJF_Pp_STAT_STATE p).key ≠ g.key := by decide +kernel
  exact hall p (List.mem_range.mpr hp)

/-- What port p shows and holds once it is down. -/
theorem portDown_eq (p st : Nat) (s : State) : ∃ u, Handled (setF (HJF_Pp_PEER_VALID p) 0 (setF (HJF_Pp_STAT_STATE p) st s)) u ∧
    portDown p st s = portDomain p (decide (st ≠ 0)) u := by
  unfold portDown
  dsimp only
  refine ⟨_, Handled.trans ?_ (handled_reroute _ _), rfl⟩
  split
  · exact ⟨rfl, regsExcept_refl _ _⟩
  · exact ⟨rfl, regsExcept_refl _ _⟩

theorem ledger_portDown (p st : Nat) (s : State) : (portDown p st s).ledger = s.ledger := by
  obtain ⟨u, hu, hdown⟩ := portDown_eq p st s
  rw [hdown, ledger_portDomain, hu.ledger]
  rfl

theorem state_portDown {p : Nat} (hp : p < 16) (s : State) : getF (HJF_Pp_STAT_STATE p) (portDown p 3 s) = 3 := by
  obtain ⟨u, hu, hdown⟩ := portDown_eq p 3 s
  have hkey := key_portState hp
  rw [hdown, getF_portDomain (hkey _ (by simp [portFailRegs, domRegs])),
    hu.regs _ (List.forall_mem_cons.mpr ⟨hkey _ (by simp [portFailRegs]), fun g hg => hkey g (by simp [portFailRegs, noteRegs, hg])⟩),
    getF_setF_ne _ _ (hkey _ (by simp [portFailRegs])), getF_setF_same]
  rfl

theorem func_portFailEntry (p cause : Nat) (s : State) : (portFailEntry p cause none s).func = 0 := rfl

/-- The state in which the failure of port p, for which no FAB_PORT waits, is recorded. -/
def portNoted (p cause : Nat) (s : State) : State :=
  historyAdd (historyOf (portFailEntry p cause none s)) (hjfEvent HJF_STAT_PORT_FAIL (portDown p 3 (setHp p { hpOf p s with pkts := [] } s)))

theorem portFailed_of_no_waiter {p cause : Nat} (h : portWaiters p s = []) :
    portFailed p cause s = ledgerAdd (portFailEntry p cause none s) (portNoted p cause s) := by
  unfold portFailed
  dsimp only
  rw [h]
  rfl

theorem historyAdd_toRadioState (b : List Byte) (s : State) : (historyAdd b s).toRadioState = s.toRadioState := by
  have hput : ∀ w v u, (vaultPut w v u).toRadioState = u.toRadioState := fun w v u => by unfold vaultPut; split <;> rfl
  exact (hput _ _ _).trans (hput _ _ _)

theorem ledger_portNoted (p cause : Nat) (s : State) : (portNoted p cause s).ledger = s.ledger := by
  rw [portNoted, historyAdd_toRadioState, hjfEvent, toRadioState_event]
  exact ledger_portDown p 3 _

theorem state_portNoted {p : Nat} (hp : p < 16) (cause : Nat) (s : State) : getF (HJF_Pp_STAT_STATE p) (portNoted p cause s) = 3 := by
  have hkey := key_portState hp
  rw [portNoted, getF_historyAdd (hkey _ (by simp [portFailRegs, noteRegs])), hjfEvent,
    (regsExcept_event (fs := HJF_STAT_PORT_FAIL :: vecRegs) (List.subset_cons_self _ _) List.mem_cons_self _ _ _ _).mpr (regsExcept_refl _ _) _
      (List.forall_mem_cons.mpr ⟨hkey _ (by simp [portFailRegs]), fun g hg => hkey g (by simp [portFailRegs, noteRegs, hg])⟩)]
  exact state_portDown hp _

theorem length_backlog_ledgerAdd {e : LedgerEvent} {f : Nat} (h : e.func = f) (s : State) :
    (backlog f (ledgerAdd e s)).length = (backlog f s).length + 1 := by
  rw [← h, backlog_ledgerAdd, List.length_append, List.length_singleton]

theorem getF_ledgerAdd {e : LedgerEvent} {f : Nat} {g : Fld} (h : e.func = f) (hg : ∀ r ∈ noteRegs f, g.key ≠ r.key) (s : State) :
    getF g (ledgerAdd e s) = getF g s :=
  regsExcept_ledgerAdd e (fs := noteRegs f) (h ▸ List.Subset.refl _) g hg

theorem backlog_domFault (f d : Nat) (s : State) : backlog f (domFault d s) = backlog f s := by
  rw [backlog, domFault, pwrEvent, toRadioState_event]
  rfl

theorem exec_domainPowerFault_port {d : Fin 192} (hon : getF (PWR_DOMd_STATE d) s = 1 ∨ getF (PWR_DOMd_STATE d) s = 2) (hd : 176 ≤ d.val) :
    exec (.domainPowerFault d) s = goesOn s (domFault d (portFailed (d - 176) 0xBF s)) := by
  show execDomainPowerFault d s = _
  unfold execDomainPowerFault
  dsimp only
  rw [if_neg (by omega), if_neg (by omega), if_neg (by omega), if_neg (by omega)]

theorem domainPowerFault_completes_port {d : Fin 192} (hon : getF (PWR_DOMd_STATE d) s = 1 ∨ getF (PWR_DOMd_STATE d) s = 2) (hd : 176 ≤ d.val)
    (hwait : portWaiters (d.val - 176) s = []) :
    Completes (.domainPowerFault d) s (fun t =>
      getF (PWR_DOMd_STATE d) t = 3 ∧ getF (PWR_DOMd_FAULT d) t = 1 ∧ flagF PWR_STAT_DOM_FAULT t = true ∧ getF (HJF_Pp_STAT_STATE (d.val - 176)) t = 3 ∧
      (backlog 0 t).length = (backlog 0 s).length + 1) := by
  have hp : d.val - 176 < 16 := by omega
  have hsum : 176 + (d.val - 176) = d.val := by omega
  have hkey := key_portState hp
  rw [portFailRegs, hsum] at hkey
  have hdom : ∀ g ∈ domRegs d.val, (HJF_Pp_STAT_STATE (d.val - 176)).key ≠ g.key := fun g hg => hkey g (List.mem_append_right _ hg)
  have hnote : ∀ g ∈ noteRegs 0, (HJF_Pp_STAT_STATE (d.val - 176)).key ≠ g.key := fun g hg => hkey g (List.mem_append_left _ (List.mem_append_right _ hg))
  refine completes_of_goesOn (exec_domainPowerFault_port hon hd) (fun _ _ h => h) ⟨state_domFault d.isLt _, fault_domFault d.isLt _, flagF_domFault _ _, ?_, ?_⟩
  · rw [getF_domFault hdom, portFailed_of_no_waiter hwait, getF_ledgerAdd (func_portFailEntry _ _ s) hnote]
    exact state_portNoted hp _ _
  · rw [backlog_domFault, portFailed_of_no_waiter hwait, length_backlog_ledgerAdd (func_portFailEntry _ _ s), backlog, ledger_portNoted]
    rfl

/-! ### A Matrix Core whose place a spare takes (R382, R393) -/

/-- The registers that a fault record without a failed item changes. -/
def unitNoteRegs : List Fld :=
  [FLT_STAT_LEDGER_LOW, FLT_LGf_NEXT_NEXT 0, FLT_LGf_BACKLOG_RESV 0, FLT_LGf_BACKLOG_HELD 0, SEC_VAULT_STAT_PENDING] ++ vecRegs

theorem regsExcept_showLedger_zero (h : unitNoteRegs ⊆ fs) : RegsExcept fs s (showLedger 0 t) ↔ RegsExcept fs s t := by
  have hv : vecRegs ⊆ fs := fun g hg => h (List.mem_append_right _ hg)
  unfold showLedger
  dsimp only
  split
  · rw [regsExcept_event hv (h (by simp [unitNoteRegs])), regsExcept_setF _ (h (by simp [unitNoteRegs])), regsExcept_setF _ (h (by simp [unitNoteRegs]))]
  · rw [regsExcept_setF _ (h (by simp [unitNoteRegs])), regsExcept_setF _ (h (by simp [unitNoteRegs])), regsExcept_setF _ (h (by simp [unitNoteRegs]))]

theorem regsExcept_ledgerAdd_quiet {e : LedgerEvent} (hfunc : e.func = 0) (hstatus : e.status = 0) (s : State) : RegsExcept unitNoteRegs s (ledgerAdd e s) := by
  have hquiet : failureShown e s = s := if_neg (by rw [hstatus]; decide)
  rw [ledgerAdd_eq, hfunc, regsExcept_showLedger_zero (List.Subset.refl _), addF, regsExcept_setF _ (by simp [unitNoteRegs]), enteredLedger, hquiet]
  exact regsExcept_refl _ s

section Note

variable (cls action cause lunit punit spare count : Nat) (s : State)

theorem regsExcept_unitNote : RegsExcept unitNoteRegs s (unitNote cls action cause lunit punit spare count s) := by
  rw [unitNote, unitRecord, regsExcept_historyAdd (by simp [unitNoteRegs])]
  exact regsExcept_ledgerAdd_quiet rfl rfl s

/-- A fault record leaves which units are in service, and the engines, as they were. -/
theorem toFaultState_unitNote :
    (unitNote cls action cause lunit punit spare count s).toFaultState = { s.toFaultState with histNext := s.histNext + 1 } := by
  have hledger : ∀ e, (ledgerAdd e s).toFaultState = s.toFaultState := fun e =>
    frame_ledgerAdd e (ps := [.radio, .bus, .tallies]) (List.Subset.refl _) .fault (by decide)
  have hput : ∀ w v u, (vaultPut w v u).toFaultState = u.toFaultState := fun w v u => by unfold vaultPut; split <;> rfl
  rw [unitNote, unitRecord, historyAdd]
  dsimp only
  rw [hput, hput]
  dsimp only
  rw [hledger]

theorem toEngineState_unitNote : (unitNote cls action cause lunit punit spare count s).toEngineState = s.toEngineState := by
  have hframe : Frame [.radio, .bus, .tallies, .power, .fault] s (unitNote cls action cause lunit punit spare count s) := by
    rw [unitNote, unitRecord, frame_historyAdd (by decide) (by decide)]
    exact frame_ledgerAdd _ (by simp)
  exact hframe .engine (by decide)

end Note

/-- The state in which the failure of domain d, which is that of core n, is recorded. -/
def coreFaultNoted (n d : Nat) (s : State) : State := unitNote 1 1 0x1F n d 0xFFFF 1 (domFault d s)

/-- The registers that it may change. -/
def coreFaultRegs (d : Nat) : List Fld := domRegs d ++ unitNoteRegs

section Core

variable {n d : Nat}

theorem regsExcept_coreFaultNoted : RegsExcept (coreFaultRegs d) s (coreFaultNoted n d s) := by
  have hdom : RegsExcept (coreFaultRegs d) s (domFault d s) := (regsExcept_domFault (List.subset_append_left _ _)).mpr (regsExcept_refl _ s)
  exact regsExcept_trans hdom (regsExcept_mono (List.subset_append_right _ _) (regsExcept_unitNote _ _ _ _ _ _ _ _))

theorem toFaultState_coreFaultNoted : (coreFaultNoted n d s).toFaultState = { s.toFaultState with histNext := s.histNext + 1 } := by
  have hdom : (domFault d s).toFaultState = s.toFaultState := (frame_domFault (ps := vecPieces) d (by decide) (by decide)).mpr (frame_refl _ s) .fault (by decide)
  rw [coreFaultNoted, toFaultState_unitNote, hdom]

theorem engAt_coreFaultNoted (m : Nat) : engAt m (coreFaultNoted n d s) = engAt m s := by
  have hdom : (domFault d s).toEngineState = s.toEngineState := (frame_domFault (ps := vecPieces) d (by decide) (by decide)).mpr (frame_refl _ s) .engine (by decide)
  rw [engAt, coreFaultNoted, toEngineState_unitNote, hdom]
  rfl

/-- MXC_Cn_INFO begins a block of 4 KiB, where no register of these begins. -/
theorem key_phys_mod (m : Nat) : (MXC_Cn_INFO_PHYS m).key % 0x40000 = 0 := by
  simp only [Fld.key, MXC_Cn_INFO_PHYS, MXC_Cn_INFO]; omega

theorem key_ne_phys {g : Fld} (h : g.key % 0x40000 ≠ 0) (m : Nat) : (MXC_Cn_INFO_PHYS m).key ≠ g.key := fun he => h (he ▸ key_phys_mod m)

theorem key_coreFaultRegs (hd : d < 192) : ∀ g ∈ coreFaultRegs d, g.key % 0x40000 ≠ 0 ∧ DEV_IDENT_GRADE.key ≠ g.key := by
  have hall : ∀ d ∈ List.range 192, ∀ g ∈ coreFaultRegs d, g.key % 0x40000 ≠ 0 ∧ DEV_IDENT_GRADE.key ≠ g.key := by decide +kernel
  exact hall d (List.mem_range.mpr hd)

/-- Where the registers that say which cores are in service are the same, so are the cores and their places. -/
theorem coreInService_congr (hgrade : getF DEV_IDENT_GRADE t = getF DEV_IDENT_GRADE s) (hremoved : t.mcRemoved = s.mcRemoved) (m : Nat) :
    coreInService m t = coreInService m s := by
  rw [coreInService, hgrade, hremoved]; rfl

theorem mcLogical_congr (hgrade : getF DEV_IDENT_GRADE t = getF DEV_IDENT_GRADE s) (hremoved : t.mcRemoved = s.mcRemoved)
    (hphys : ∀ m, mcPhys m t = mcPhys m s) (p : Nat) : mcLogical p t = mcLogical p s :=
  List.find?_congr fun m _ => by rw [coreInService_congr hgrade hremoved, hphys]

theorem mcPhys_domFault (hd : d < 192) (m : Nat) : mcPhys m (domFault d s) = mcPhys m s :=
  getF_domFault (fun g hg => key_ne_phys (key_coreFaultRegs hd g (List.mem_append_left _ hg)).1 m) s

theorem mcLogical_domFault (hd : d < 192) (p : Nat) : mcLogical p (domFault d s) = mcLogical p s :=
  mcLogical_congr (getF_domFault (fun g hg => (key_coreFaultRegs hd g (List.mem_append_left _ hg)).2) s)
    (congrArg FaultState.mcRemoved ((frame_domFault (ps := vecPieces) d (by decide) (by decide)).mpr (frame_refl _ s) .fault (by decide)))
    (mcPhys_domFault hd) p

theorem mcPhys_coreFaultNoted (hd : d < 192) (m : Nat) : mcPhys m (coreFaultNoted n d s) = mcPhys m s :=
  regsExcept_coreFaultNoted _ fun g hg => key_ne_phys (key_coreFaultRegs hd g hg).1 m

theorem coresIn_coreFaultNoted (hd : d < 192) : coresIn (coreFaultNoted n d s) = coresIn s := by
  have hgrade : getF DEV_IDENT_GRADE (coreFaultNoted n d s) = getF DEV_IDENT_GRADE s :=
    regsExcept_coreFaultNoted _ fun g hg => (key_coreFaultRegs hd g hg).2
  rw [coresIn, hgrade]
  exact List.filter_congr fun m _ => coreInService_congr hgrade (congrArg FaultState.mcRemoved toFaultState_coreFaultNoted :) m

theorem key_domState_unitNoteRegs {p : Nat} (hp : p < 192) : ∀ g ∈ unitNoteRegs ++ (PWR_STAT_DOM_FAULT :: vecRegs),
    (PWR_DOMd_STATE p).key ≠ g.key ∧ (PWR_DOMd_FAULT p).key ≠ g.key := by
  have hall : ∀ p ∈ List.range 192, ∀ g ∈ unitNoteRegs ++ (PWR_STAT_DOM_FAULT :: vecRegs),
      (PWR_DOMd_STATE p).key ≠ g.key ∧ (PWR_DOMd_FAULT p).key ≠ g.key := by decide +kernel
  exact hall p (List.mem_range.mpr hp)

theorem getF_unitNoted {f : Fld} (hf : ∀ g ∈ unitNoteRegs, f.key ≠ g.key) : getF f (coreFaultNoted n d s) = getF f (domFault d s) :=
  regsExcept_unitNote _ _ _ _ _ _ _ _ f hf

theorem state_coreFaultNoted (hd : d < 192) : getF (PWR_DOMd_STATE d) (coreFaultNoted n d s) = 3 := by
  rw [getF_unitNoted fun g hg => (key_domState_unitNoteRegs hd g (List.mem_append_left _ hg)).1, state_domFault hd]

theorem state_coreFaultNoted_ne {p : Nat} (hp : p < 192) (hne : p ≠ d) : getF (PWR_DOMd_STATE p) (coreFaultNoted n d s) = getF (PWR_DOMd_STATE p) s := by
  have hkey : (PWR_DOMd_STATE p).key ≠ (PWR_DOMd_STATE d).key := by
    simp only [Fld.key, PWR_DOMd_STATE, PWR_DOMd]; omega
  rw [getF_unitNoted fun g hg => (key_domState_unitNoteRegs hp g (List.mem_append_left _ hg)).1]
  refine getF_domFault ?_ s
  simp only [domRegs, List.cons_append, List.nil_append, List.forall_mem_cons]
  exact ⟨hkey, key_domState_ne_domFault p d, List.forall_mem_cons.mp fun g hg => (key_domState hp g hg).1⟩

/-- Of the spares only the failed place is out. -/
theorem mcSpares_coreFaultNoted (hd : d < 192) : mcSpares (coreFaultNoted n d s) = (mcSpares s).filter (fun p => decide (p ≠ d)) := by
  have hheld : (coresIn s).map (fun m => mcPhys m (coreFaultNoted n d s)) = (coresIn s).map (fun m => mcPhys m s) :=
    List.map_congr_left fun m _ => mcPhys_coreFaultNoted hd m
  unfold mcSpares
  rw [coresIn_coreFaultNoted hd, hheld, toFaultState_coreFaultNoted, List.filter_filter]
  refine List.filter_congr fun p hp => ?_
  have hp160 : p < 160 := List.mem_range.mp (List.mem_of_mem_filter hp)
  by_cases hpd : p = d
  · subst hpd
    rw [state_coreFaultNoted hd]
    simp
  · rw [state_coreFaultNoted_ne (by omega) hpd]
    simp [hpd]

end Core

theorem mem_of_chooseSpare {per die q : Nat} {l : List Nat} (h : chooseSpare per die l = some q) : q ∈ l := by
  unfold chooseSpare at h
  rw [Option.or_eq_some_iff, Option.or_eq_some_iff] at h
  obtain (hdie | ⟨-, hpair⟩) | ⟨-, hhead⟩ := h
  · exact List.mem_of_find?_eq_some hdie
  · exact List.mem_of_find?_eq_some hpair
  · exact List.mem_of_head? hhead

/-- The core's place is retired, the spare is to take it, and the spare's domain powers up. -/
def spareNamed (n p q cause count : Nat) (s : State) : State :=
  let s1 := { s with mcRetired := insertNat p s.mcRetired, mcRetiring := put n (some q) s.mcRetiring,
                     unitCause := put (2 ^ 16 + p) (some (cause + 256 * count)) s.unitCause }
  mxcEvent MXC_STAT_RETIRED (if getF (PWR_DOMd_STATE q) s = 0 then setF (PWR_DOMd_STATE q) 1 s1 else s1)

section Spare

variable {n p q cause count : Nat}

theorem mcRetire_of_spare (h : chooseSpare 20 (mcPhys n s / 20) (mcSpares s) = some q) :
    mcRetire n cause count s = spareNamed n (mcPhys n s) q cause count s := by
  unfold mcRetire
  dsimp only
  rw [h]
  rfl

theorem toFaultState_spareNamed : (spareNamed n p q cause count s).toFaultState = { s.toFaultState with
    mcRetired := insertNat p s.mcRetired, mcRetiring := put n (some q) s.mcRetiring,
    unitCause := put (2 ^ 16 + p) (some (cause + 256 * count)) s.unitCause } := by
  have hevent : ∀ u : State, (mxcEvent MXC_STAT_RETIRED u).toFaultState = u.toFaultState := fun u =>
    (frame_event (ps := vecPieces) (by decide) (by decide)).mpr (frame_refl _ u) .fault (by decide)
  unfold spareNamed
  dsimp only
  rw [hevent]
  split <;> rfl

theorem mcRetired_spareNamed : (spareNamed n p q cause count s).mcRetired = insertNat p s.mcRetired := by rw [toFaultState_spareNamed]

theorem mcRetiring_spareNamed : (spareNamed n p q cause count s).mcRetiring = put n (some q) s.mcRetiring := by rw [toFaultState_spareNamed]

theorem regsExcept_spareNamed : RegsExcept (PWR_DOMd_STATE q :: MXC_STAT_RETIRED :: vecRegs) s (spareNamed n p q cause count s) := by
  unfold spareNamed
  dsimp only
  rw [mxcEvent, regsExcept_event (fun f hf => by simp [hf]) (by simp)]
  split
  · exact (regsExcept_setF _ (by simp)).mpr (regsExcept_refl _ s)
  · exact regsExcept_refl _ s

theorem flagF_spareNamed : flagF MXC_STAT_RETIRED (spareNamed n p q cause count s) = true := flagF_event (by decide) (by decide) _

theorem key_spareRegs {d : Nat} (hd : d < 160) (hq : q < 160) (hne : d ≠ q) : ∀ g ∈ PWR_DOMd_STATE q :: MXC_STAT_RETIRED :: vecRegs,
    g.key % 0x40000 ≠ 0 ∧ PWR_STAT_DOM_FAULT.key ≠ g.key ∧ (PWR_DOMd_STATE d).key ≠ g.key ∧ (PWR_DOMd_FAULT d).key ≠ g.key := by
  have hothers : ∀ d ∈ List.range 160, ∀ g ∈ MXC_STAT_RETIRED :: vecRegs,
      g.key % 0x40000 ≠ 0 ∧ PWR_STAT_DOM_FAULT.key ≠ g.key ∧ (PWR_DOMd_STATE d).key ≠ g.key ∧ (PWR_DOMd_FAULT d).key ≠ g.key := by decide +kernel
  refine List.forall_mem_cons.mpr ⟨?_, hothers d (List.mem_range.mpr hd)⟩
  simp only [Fld.key, PWR_DOMd_STATE, PWR_DOMd_FAULT, PWR_DOMd, PWR_STAT_DOM_FAULT, PWR_STAT]
  omega

end Spare

/-- An idle core has no work to abandon. -/
theorem tilePower_of_idle {n : Nat} (h : engAt n s = none) : tilePower n s = s := by
  have hdrain : completeDrain n s = s := by rw [completeDrain, h]
  rw [tilePower, haltSet, hdrain, h]
  rfl

theorem mcPhys_of_mcLogical {p n : Nat} (h : mcLogical p s = some n) : mcPhys n s = p := by
  have hfound := List.find?_some h
  rw [Bool.and_eq_true, decide_eq_true_eq] at hfound
  exact hfound.2

section Fault

variable {n d q : Nat} (hd : d < 160) (hn : mcLogical d s = some n) (hidle : engAt n s = none)
  (hspare : chooseSpare 20 (d / 20) ((mcSpares s).filter (fun p => decide (p ≠ d))) = some q)

include hspare in
/-- The spare is another of the 160 cores. -/
theorem spare_lt_ne : q < 160 ∧ d ≠ q := by
  obtain ⟨hmem, hne⟩ := List.mem_filter.mp (mem_of_chooseSpare hspare)
  have hq : q ∈ List.range 160 := List.mem_of_mem_filter (List.mem_of_mem_filter hmem)
  exact ⟨List.mem_range.mp hq, fun he => of_decide_eq_true hne he.symm⟩

include hd hn hspare

theorem mcPhys_spareNamed : mcPhys n (spareNamed n d q 0x1F 1 (coreFaultNoted n d s)) = d := by
  obtain ⟨hq, hne⟩ := spare_lt_ne hspare
  have hkeep : mcPhys n (spareNamed n d q 0x1F 1 (coreFaultNoted n d s)) = mcPhys n (coreFaultNoted n d s) :=
    regsExcept_spareNamed _ fun g hg => key_ne_phys (key_spareRegs hd hq hne g hg).1 n
  rw [hkeep, mcPhys_coreFaultNoted (by omega), mcPhys_of_mcLogical hn]

include hidle in
/-- The idle core of the failed domain is retired, and the spare is to take its place. -/
theorem mcPower_of_spare : mcPower d (domFault d s) = spareNamed n d q 0x1F 1 (coreFaultNoted n d s) := by
  have hphys : mcPhys n (coreFaultNoted n d s) = d := (mcPhys_coreFaultNoted (by omega) n).trans (mcPhys_of_mcLogical hn)
  have hretire : mcRetire n 0x1F 1 (coreFaultNoted n d s) = spareNamed n d q 0x1F 1 (coreFaultNoted n d s) := by
    rw [mcRetire_of_spare (q := q) (by rw [hphys, mcSpares_coreFaultNoted (by omega)]; exact hspare), hphys]
  have hretired : d ∈ (spareNamed n d q 0x1F 1 (coreFaultNoted n d s)).mcRetired := by
    rw [mcRetired_spareNamed]
    exact mem_insertNat_self _ _
  have hstays : mcUnpowered n (spareNamed n d q 0x1F 1 (coreFaultNoted n d s)) = spareNamed n d q 0x1F 1 (coreFaultNoted n d s) :=
    if_neg fun h => h.2 ((mcPhys_spareNamed hd hn hspare).symm ▸ hretired)
  unfold mcPower
  rw [mcLogical_domFault (by omega), hn]
  show mcUnpowered n (mcRetire n 0x1F 1 (tilePower n (coreFaultNoted n d s))) = _
  rw [tilePower_of_idle ((engAt_coreFaultNoted n).trans hidle), hretire, hstays]

end Fault

theorem exec_domainPowerFault_core {d : Fin 192} (hon : getF (PWR_DOMd_STATE d) s = 1 ∨ getF (PWR_DOMd_STATE d) s = 2) (hd : d.val < 160) :
    exec (.domainPowerFault d) s = goesOn s (mcPower d (domFault d s)) := by
  show execDomainPowerFault d s = _
  unfold execDomainPowerFault
  dsimp only
  rw [if_neg (by omega), if_pos hd]

theorem domainPowerFault_completes_core {d : Fin 192} {n q : Nat} (hon : getF (PWR_DOMd_STATE d) s = 1 ∨ getF (PWR_DOMd_STATE d) s = 2) (hd : d.val < 160)
    (hn : mcLogical d s = some n) (hidle : engAt n s = none)
    (hspare : chooseSpare 20 (d.val / 20) ((mcSpares s).filter (fun p => decide (p ≠ d.val))) = some q) :
    Completes (.domainPowerFault d) s (fun t =>
      getF (PWR_DOMd_STATE d) t = 3 ∧ getF (PWR_DOMd_FAULT d) t = 1 ∧ flagF PWR_STAT_DOM_FAULT t = true ∧ d.val ∈ t.mcRetired ∧
      lookup n t.mcRetiring = some q ∧ flagF MXC_STAT_RETIRED t = true) := by
  have hexec := exec_domainPowerFault_core hon hd
  rw [mcPower_of_spare hd hn hidle hspare] at hexec
  obtain ⟨hq, hne⟩ := spare_lt_ne hspare
  have hkey := key_spareRegs hd hq hne
  have hkeep : ∀ f : Fld, (∀ g ∈ PWR_DOMd_STATE q :: MXC_STAT_RETIRED :: vecRegs, f.key ≠ g.key) → (∀ g ∈ unitNoteRegs, f.key ≠ g.key) →
      getF f (spareNamed n d q 0x1F 1 (coreFaultNoted n d s)) = getF f (domFault d s) := fun f hf hf' =>
    (regsExcept_spareNamed f hf).trans (getF_unitNoted hf')
  have hdom := key_domState_unitNoteRegs d.isLt
  refine completes_of_goesOn hexec (fun _ _ h => h) ⟨?_, ?_, ?_, ?_, ?_, flagF_spareNamed⟩
  · rw [hkeep _ (fun g hg => (hkey g hg).2.2.1) fun g hg => (hdom g (List.mem_append_left _ hg)).1, state_domFault d.isLt]
  · rw [hkeep _ (fun g hg => (hkey g hg).2.2.2) fun g hg => (hdom g (List.mem_append_left _ hg)).2, fault_domFault d.isLt]
  · rw [flagF, hkeep _ (fun g hg => (hkey g hg).2.1) (by decide)]
    exact flagF_domFault _ s
  · rw [mcRetired_spareNamed]
    exact mem_insertNat_self _ _
  · rw [mcRetiring_spareNamed, lookup_put_same]

end Sys2Proof.Machine

namespace Sys2Proof
open Machine

/-- Settles O14: the sample as it shows and as it is judged, the trip, and the domain that comes up or fails, with its port or with its core. -/
theorem temperatureAndDomains : Obligations.TemperatureAndDomains :=
  ⟨fun _ _ _ _ _ _ _ hreset hi h => tempSample_completes hreset hi h,
   fun _ _ _ _ _ _ _ hreset hi h hreached => tempSample_completes_trip hreset hi h hreached,
   fun _ _ h => domainPowerUp_completes h,
   fun _ _ hon hd hwait => domainPowerFault_completes_port hon hd hwait,
   fun _ _ _ _ hon hd hn hidle hspare => domainPowerFault_completes_core hon hd hn hidle hspare⟩

end Sys2Proof
